-- ==== Sys2Proof/Word.lean ====
section
/-! DEFINITION. Word types of the ZS-8032 model (R6) and their plainest arithmetic. -/

namespace Sys2Proof

/-- One byte of an image, a message, a memory or a fragment. -/
abbrev Byte := BitVec 8

/-- One register value: every register is 64 bits wide (R69). -/
abbrev Word := BitVec 64

/-- A memory, register file or record store: key and value, keys strictly rising. -/
abbrev Table (α : Type) := List (Nat × α)

/-- Rounded-up division, as the spec's ceiling brackets write it. -/
def ceilDiv (a b : Nat) : Nat := (a + b - 1) / b

end Sys2Proof
end

