-- ==== Sys2Proof/Syntax.lean ====
section
/-! DEFINITION. The commands of the block: one constructor of `Instr` per row of spec/opcode_table.json, with the
operands a row needs. The table gives the rows no operand fields and no bits; the operands are what the rows' rules
name: the fields of a message or a packet, the unit an event happens on, and the physical fact an event reports. -/

namespace Sys2Proof

/-- A unit of the device as log entries and heartbeats name it (R383, R401). -/
inductive UnitId where
  | tile (t : Nat)
  | keepBase (k : Nat)
  | lucarne (k : Nat)
  | spire (s : Nat)
  | dome
  | text (u : Nat)
  | flashPort (m : Nat)
  deriving DecidableEq, Repr

/-- The two paths to a register (R69): the register window of a session, and the management path. -/
inductive RegPath where
  | window (session : Nat)
  | mgmt
  deriving DecidableEq, Repr

/-- What one serving lane's models produced in the frame that a boundary ends (R252, R253, R256): the draft model's
proposals, and the logits row of the main model behind each choice, newest position last. -/
structure DecodeIn where
  entry : Nat
  drafts : List Nat
  logits : List (List (BitVec 32))
  deriving DecidableEq, Repr

/-- A Dome SRAM word read with an error: its address, whether it is uncorrectable, and the requests whose data it holds
(R285, R387). -/
structure DomeErr where
  addr : Nat
  ue : Bool
  entries : List Nat
  deriving DecidableEq, Repr

/-- What the hardware reports at a frame boundary. -/
structure BoundaryIn where
  /-- Start of the frame minus its ideal start, ns (R29). -/
  offsetNs : Int
  /-- Units in service whose heartbeat is missing or names a wrong frame (R383). -/
  silent : List UnitId
  /-- Keeps whose scanner did not complete its slice of the frame that ends (R169). -/
  late : List Nat
  /-- Keeps whose two distance lanes disagreed in the frame that ends (R165). -/
  lanes : List Nat
  /-- Model outputs of the serving slots (R253). -/
  decode : List DecodeIn
  /-- Granules for which the tier engine found capacity in the frame that ends (R273, R276). -/
  copied : Nat
  /-- Keeps and 64-byte blocks that tasks, streams or scanners read with a corrected error in the frame that ends (R282). -/
  corrected : List (Nat × Nat)
  /-- Dome SRAM words that were read with an error in the frame that ends (R285). -/
  dome : List DomeErr
  /-- Keep granules each scrubbing context had overwritten in the frame that ends (R358). -/
  scrubbed : List (Nat × Nat)
  /-- Faulty PEs that the array test passes of the scrubs locate: tile, physical row and column (R100). -/
  scrubPes : List (Nat × Nat × Nat)
  /-- Out-of-service tiles that fail another recovery test, and those whose selection network fails its own (R157, R393). -/
  failTests : List Nat
  netFails : List Nat
  deriving DecidableEq, Repr

/-- Fields of an IEEE 1588 Announce message that the dataset comparison uses (R325). -/
structure AnnounceIn where
  domain : Nat
  ipv6 : Bool
  port : Nat
  priority1 : Nat
  clockClass : Nat
  accuracy : Nat
  variance : Nat
  priority2 : Nat
  grandmaster : Nat
  steps : Nat
  deriving DecidableEq, Repr

/-- Fields of a received IEEE 1588 timing message (R325): sender port, domain, sequence number, origin or receive
timestamp carried, the device's own timestamp, and the correction field, in ns. -/
structure PtpIn where
  domain : Nat
  ipv6 : Bool
  port : Nat
  seq : Nat
  twoStep : Bool
  remoteNs : Int
  localNs : Int
  corrNs : Int
  deriving DecidableEq, Repr

/-- What reaches the loader while a COMMIT checks and applies (R65): a LOAD message, of a session, tag and KIND; a STAGE
request, of a link and SEQ; a second COMMIT or a DISCARD. -/
inductive DuringCommit
  | load (n tag kind : Nat)
  | stage (link seq : Nat)
  | command
  deriving DecidableEq, Repr

/-- What COMMIT meets in the hardware while it applies and enables, and what arrives meanwhile (R63 to R65). -/
structure CommitIn where
  /-- What arrives while the device checks and applies, in order. -/
  during : List DuringCommit
  /-- Register whose read-back parity fails in step 7, if any. -/
  parityBad : Option Nat
  /-- Tiles with a TILE-action detection in steps 7 and 8. -/
  tileFaults : List Nat
  /-- A DEVICE-action detection other than parity in steps 7 and 8. -/
  deviceFault : Bool
  /-- Program whose lowered code overflows a tile's lowered-code store, if any (R141). -/
  overflow : Option Nat
  deriving DecidableEq, Repr

/-- Parameters of the matrix product (R87). -/
structure MatmulP where
  aFmt : Nat
  bFmt : Nat
  outFmt : Nat
  fp8Sat : Bool
  sparse : Bool
  skip : Bool
  plusMinus : Bool
  scaleMode : Nat
  aZp : Int
  bZp : Int
  outZp : Int
  problems : Nat
  m : Nat
  n : Nat
  k : Nat
  outScale : BitVec 32
  scaleBase : Nat
  /-- Own M, N and K of each packed problem (R87, R95); empty when not packed. -/
  shapes : List (Nat × Nat × Nat)
  deriving DecidableEq, Repr

/-- Buffers an operator record names (R110); 0xFF names none. -/
structure Bufs where
  dst : Nat
  src0 : Nat
  src1 : Nat
  src2 : Nat
  deriving DecidableEq, Repr

/-- Parameters of the quantiser (R85), with the number of elements and the innermost length it is driven over. -/
structure QuantP where
  inFmt : Nat
  outFmt : Nat
  had : Nat
  fp8Sat : Bool
  zp : Int
  invScale : BitVec 32
  elems : Nat
  deriving DecidableEq, Repr

/-- Parameters of VEC and REDUCE (R111): format and element count; `toFmt` is the target of CONVERT, `inner` the
innermost length of REDUCE. -/
structure VecP where
  fmt : Nat
  elems : Nat
  toFmt : Nat
  inner : Nat
  deriving DecidableEq, Repr

/-- Parameters of SELECT (R145). -/
structure SelectP where
  mode : Nat
  keyType : Nat
  explicit : Bool
  k : Nat
  e : Nat
  base : Nat
  threshold : Nat
  deriving DecidableEq, Repr

/-- Parameters of MERGE (R152). -/
structure MergeP where
  lists : Nat
  dedup : Bool
  disjoint : Bool
  kOut : Nat
  stride : Nat
  deriving DecidableEq, Repr

/-- Parameters of GATHER_POOL (R193). -/
structure GatherP where
  table : Nat
  mean : Bool
  outFmt : Nat
  weighted : Bool
  rowSrc : Bool
  bags : Nat
  indexMax : Nat
  lr : BitVec 32
  eps : BitVec 32
  uniqueMax : Nat
  deriving DecidableEq, Repr

/-- A wrong accumulator of a pass (R97): row, column, packed problem, error. Rows and columns 0 to 127 (31 when packed) are
the data lines of the problem; the next two are its sum line and its weighted line (R96). -/
structure AccErr where
  row : Nat
  col : Nat
  problem : Nat
  err : Int
  deriving DecidableEq, Repr

/-- The delta of R205, as it travels between devices. -/
structure DeltaRec where
  table : Nat
  source : Nat
  opt : Nat
  seq : Nat
  row : Nat
  lr : BitVec 32
  eps : BitVec 32
  grad : List (BitVec 32)
  deriving DecidableEq, Repr

/-- The search block of a submission (R163). -/
structure SearchBlock where
  indexRef : Nat
  packMode : Nat
  vocab : Nat
  filters : List Nat
  kShort : Nat
  kCross : Nat
  noPack : Bool
  budget : Nat
  beam : Nat
  rounds : Nat
  expand : Nat
  reservedZero : Bool
  deriving DecidableEq, Repr

/-- The generation block of a submission (R236) with the 584 bytes of its stop set (R222). -/
structure GenBlock where
  variant : Nat
  vocab : Nat
  speculate : Bool
  sample : Bool
  promptMax : Nat
  maxNew : Nat
  temp : BitVec 32
  topK : Nat
  seed : Nat
  reservedZero : Bool
  stop : List Byte
  deriving DecidableEq, Repr

/-- The body of SUBMIT (R338). -/
structure SubmitBody where
  ctx : Nat
  elastic : Bool
  prio : Nat
  pipeline : Nat
  deadline : Nat
  search : Option SearchBlock
  gen : Option GenBlock
  input : List Byte
  deriving DecidableEq, Repr

/-- One text job part (R228). -/
structure TextJob where
  entry : Nat
  kind : Nat
  vocab : Nat
  first : Bool
  last : Bool
  replyRank : Nat
  job : Nat
  route : Nat
  reservedZero : Bool
  bytes : List Byte
  deriving DecidableEq, Repr

/-- Kinds of Keep traffic (R279). -/
inductive Traffic where
  /-- A stream or scrub of a tile. -/
  | stream
  /-- A context-switch save or restore. -/
  | switch
  /-- Feature delta application. -/
  | delta
  | dome
  | tierEngine
  | hostLoad
  /-- Lease or PEER service. -/
  | lease
  deriving DecidableEq, Repr

/-- One access of a Keep's arbitration window (R279, R280). -/
structure Access where
  kind : Traffic
  write : Bool
  bound : Bool
  tile : Nat
  prio : Nat
  entry : Nat
  bytes : Nat
  grantMbps : Nat
  deriving DecidableEq, Repr

/-- A storage command entry (R311). -/
structure StorCmd where
  queue : Nat
  tag : Nat
  nsid : Nat
  offset : Nat
  length : Nat
  arg0 : Nat
  arg1 : Nat
  reservedZero : Bool
  deriving DecidableEq, Repr

/-- A received Tytos packet (R328): the endpoint whose address and port sent it (64 or more: none), a CE mark, its reception
time, the header and the packet data as received; and, for a protected packet, whether the tag verifies under the session's
key and what the data decrypts to (R329). -/
structure PacketIn where
  endpoint : Nat
  ce : Bool
  stamp : Nat
  header : List Byte
  wire : List Byte
  tagOk : Bool
  plain : List Byte
  deriving DecidableEq, Repr

/-- A received packet that carries no protected data (R327 to R329). -/
def plainPacket (endpoint : Nat) (ce : Bool) (header wire : List Byte) : PacketIn :=
  { endpoint := endpoint, ce := ce, stamp := 0, header := header, wire := wire, tagOk := false, plain := [] }

/-- How the reads of a variant swap ended: by their deadline, after it, or with a failed read, late or not (R262, R295). -/
inductive ReadEnd where
  | inTime
  | late
  | failed
  deriving DecidableEq, Repr

/-- Kinds of receive error (R350, R321, R322 to R324). -/
inductive RxErr where
  | badFcs
  | fecUncorrected
  | fecCorrected (codewords : Nat)
  | outside
  | pause
  deriving DecidableEq, Repr

/-- A lease named on the wire: the neighbour it travels from and its number (R346). -/
structure LeaseId where
  neighbour : Nat
  lease : Nat
  deriving DecidableEq, Repr

/-- A protected management request (R408, R410). -/
structure MgmtReq where
  link : Nat
  seq : Nat
  tagOk : Bool
  reservedZero : Bool
  deriving DecidableEq, Repr

/-- What AUTH carries (R409): slot, public key and signature; `sharedKey` tells whether key agreement succeeds. -/
structure AuthIn where
  link : Nat
  slot : Nat
  reservedZero : Bool
  ephemeral : List Byte
  pubkey : List Byte
  sigR : List Byte
  sigS : List Byte
  deriving DecidableEq, Repr

/-- An identity memory as the bus delivers it (R427): bytes, and for each of the four attempts whether the address
byte was acknowledged and the transfer completed. -/
structure IdMem where
  bytes : List Byte
  addrAck : List Bool
  complete : List Bool
  deriving DecidableEq, Repr

/-- What the always-on part of start-up meets (R435 steps 1 to 4). -/
structure StartIn where
  identityOk : Bool
  regulator : IdMem
  modules : List IdMem
  deriving DecidableEq, Repr

/-- What start-up meets once VR_PG is up (R435 steps 5 to 8). -/
structure CoreIn where
  /-- Faulty PEs the array tests locate: tile, physical row, physical column (R99, R100). -/
  badPes : List (Nat × Nat × Nat)
  /-- Tiles that fail another test of R393. -/
  tileFails : List Nat
  /-- Units other than tiles that fail steps 5 to 7. -/
  unitFails : List UnitId
  /-- Modules whose journal is valid for their serial; others are at first use (R306). -/
  journalOk : List Nat
  /-- Modules whose bad-block table has a copy with a matching CRC (R456). -/
  bbtOk : List Nat
  /-- Plane-wise factory-bad blocks of modules at first use: module, plane, block (R456). -/
  badBlocks : List (Nat × Nat × Nat)
  deriving DecidableEq, Repr

/-- Items of the rolling self-test with their reactions (R397, R398). -/
inductive TestItem where
  | sparePe (t row col : Nat)
  | tileComparator (t : Nat) (mech : Nat)
  /-- Key type of R143 (FP32, INT32 or HAM32), BOTTOM, k of 8 or 64, the keys, and the record that the network gave (R157). -/
  | selectionNetwork (t keyType : Nat) (bottom : Bool) (k : Nat) (keys : List Nat) (got : List Byte)
  | keepSpareRow (k bank row : Nat)
  | linkCrc (u : UnitId)
  | keepChecker (k : Nat) (mech : Nat)
  | domeChecker (mech : Nat)
  | heartbeatMonitor (u : UnitId)
  | auditUnit
  | belfryHalf
  | fltDriver
  | rdyDriver
  deriving DecidableEq, Repr

/-- The commands: one constructor per row of the table of operations and events, in the table's order. -/
inductive Instr where
  -- frames (chapter 02) and the time reference (chapter 13)
  | frameBoundary (b : BoundaryIn)
  | referenceAcquired (refNs : Nat)
  | lockAcquired
  | refLost
  | ppsEdge (stepNs : Int)
  | announce (a : AnnounceIn)
  | sync (p : PtpIn)
  | followUp (p : PtpIn)
  | delayResp (p : PtpIn)
  | enable (path : RegPath) (value : Word)
  -- loader and registers (chapter 03)
  | commit (path : RegPath) (c : CommitIn)
  | leaveSable
  | discard (path : RegPath)
  | unload (path : RegPath)
  | registerWrite (path : RegPath) (addr size : Nat) (value : Word)
  | configParitySweep (bad : List Nat)
  -- operators (chapters 04 to 06, 08)
  | matmul (t : Nat) (p : MatmulP) (b : Bufs) (indep : Bool)
  | matmulPassComplete (t : Nat) (errs : List AccErr) (laneBad : Bool)
  | quantise (t : Nat) (p : QuantP) (b : Bufs) (laneBad : Bool)
  | scaleLoad (t : Nat) (base n : Nat) (b : Bufs)
  | vecAdd (t : Nat) (p : VecP) (b : Bufs)
  | vecSub (t : Nat) (p : VecP) (b : Bufs)
  | vecMul (t : Nat) (p : VecP) (b : Bufs)
  | vecFma (t : Nat) (p : VecP) (b : Bufs)
  | vecMax (t : Nat) (p : VecP) (b : Bufs)
  | vecMin (t : Nat) (p : VecP) (b : Bufs)
  | vecConvert (t : Nat) (p : VecP) (b : Bufs)
  | vecExp (t : Nat) (p : VecP) (b : Bufs)
  | vecRecip (t : Nat) (p : VecP) (b : Bufs)
  | vecRsqrt (t : Nat) (p : VecP) (b : Bufs)
  | vecTanh (t : Nat) (p : VecP) (b : Bufs)
  | vecGeluTanh (t : Nat) (p : VecP) (b : Bufs)
  | reduceSum (t : Nat) (p : VecP) (b : Bufs)
  | reduceMax (t : Nat) (p : VecP) (b : Bufs)
  | reduceMin (t : Nat) (p : VecP) (b : Bufs)
  | select (t : Nat) (p : SelectP) (b : Bufs) (checkBad : Bool)
  | merge (t : Nat) (p : MergeP) (b : Bufs) (checkBad : Bool)
  | gather (t : Nat) (p : GatherP) (b : Bufs)
  | update (t : Nat) (p : GatherP) (b : Bufs)
  | unique (t : Nat) (p : GatherP) (b : Bufs)
  | streamStart (t idx : Nat)
  | streamWait (t idx : Nat)
  | streamComplete (t idx : Nat)
  | streamFault (t idx cause : Nat) (addr : Word)
  | lineFill (s line : Nat) (tiles : List Nat) (ecc : Nat)
  | send (t bytes route rank : Nat) (b : Bufs)
  | sendAfterCredit (t : Nat)
  | routeRows (t route rowBytes rows : Nat) (b : Bufs)
  | loop (t trip : Nat)
  | endLoop (t : Nat)
  | exitIf (t test fmt scope : Nat) (threshold : Word) (b : Bufs)
  | emit (t bytes : Nat) (b : Bufs)
  | taskComplete (t : Nat)
  | contextSwitchComplete (t : Nat)
  -- search (chapter 07), feature tables (08), text (09), serving (10)
  | delete (session tag ref : Nat) (passages : List Nat)
  | filterWrite (session tag ref filter offset : Nat) (bytes : List Byte)
  | publish (session tag ref : Nat)
  | changeApplied (ref : Nat)
  | edgeRepair (ref : Nat)
  | deltaApply (keep : Nat)
  | replicationWindow
  | tokenize (j : TextJob) (laneBad : Option Nat)
  | detokenize (j : TextJob) (laneBad : Option Nat)
  | swapComplete (region : Nat) (reads : ReadEnd)
  | reqtabInspect (path : RegPath) (value : Word)
  -- tiers and Keeps (11)
  | tierMoveCmd (path : RegPath) (value : Word)
  | recallNoticeEnd (lease : Nat)
  | arbitrationWindow (keep : Nat) (reqs : List Access)
  /-- `q0` to `q3`: the errors met in each quarter of the granule, as block 0 to 7 of it, and whether uncorrectable. -/
  | patrolScrub (keep : Nat) (q0 q1 q2 q3 : List (Nat × Bool))
  | rowRepair (keep bank row : Nat)
  -- flash (12)
  | read (c : StorCmd)
  | write (c : StorCmd) (data : List Byte)
  | trim (c : StorCmd)
  | flush (c : StorCmd)
  | identify (c : StorCmd)
  | nsCreate (c : StorCmd)
  | nsDelete (c : StorCmd)
  | nsDeleteEnd (nsid : Nat)
  | abort (c : StorCmd)
  | getLog (c : StorCmd)
  | setPower (c : StorCmd)
  | mediaReadComplete (queue tag : Nat) (failAt : Option Nat)
  | poolReadComplete (t idx : Nat) (failed lateLanding : Bool)
  | granuleProgramComplete (queue tag granule : Nat) (ok : Bool)
  | blockEraseComplete (m plane block : Nat) (ok : Bool)
  | foldStart (m plane cls : Nat)
  | foldCommit (m plane : Nat)
  | garbageCollection (m plane : Nat)
  | checkpoint (m : Nat)
  | heatHalving (m : Nat)
  | idleTimer (m level : Nat)
  | moduleWake (m : Nat)
  | moduleLost (m : Nat)
  | flashRestoreComplete (m : Nat)
  -- port and transport (13)
  | macEnable (value : Word)
  | linkUp
  | linkDown
  | arpRequest (target : Nat) (senderMac senderIp : Nat)
  | neighborSolicitation (target : Nat) (senderMac : Nat)
  | data (p : PacketIn)
  | ack (p : PacketIn)
  /-- `endpoint`, `ce`, `header` and `wire` of the two are those of `PacketIn`; neither packet is ever protected. -/
  | openSession (endpoint : Nat) (ce : Bool) (header wire : List Byte)
  | openReply (endpoint : Nat) (ce : Bool) (header wire : List Byte)
  | closePacket (p : PacketIn)
  | neighbourOpen (endpoint : Nat)
  | ackDelay (session queue : Nat)
  | rtoExpiry (session queue seq : Nat)
  | linkHoldExpiry (session : Nat)
  | rateIncrease (session : Nat)
  | beacon
  | openContext (session tag ctx : Nat)
  | closeContext (session tag ctx : Nat)
  | bindQueue (session tag ctx queue : Nat)
  | submit (session queue tag : Nat) (b : SubmitBody)
  | loadStructure (session tag offset : Nat) (bytes : List Byte)
  | loadModel (session tag ref offset : Nat) (bytes : List Byte)
  | loadIndex (session tag ref offset : Nat) (bytes : List Byte)
  | loadVocabulary (session tag ref offset : Nat) (bytes : List Byte)
  | regWindowRead (session tag addr : Nat)
  | regWindowWrite (session tag addr : Nat) (value : Word)
  | delta (session tag : Nat) (ds : List DeltaRec)
  | deltaAck (session table seq : Nat)
  | leaseRequest (l : LeaseId) (granules mbps : Nat)
  | leaseGrant (l : LeaseId) (granules mbps : Nat)
  | leaseDeny (l : LeaseId)
  | leaseRelease (l : LeaseId)
  | leaseRecall (l : LeaseId) (noticeMs : Nat)
  | leaseEnd (l : LeaseId)
  | leaseRead (l : LeaseId) (addr : Word) (ctx bytes : Nat)
  | leaseData (l : LeaseId) (addr : Word) (ctx : Nat) (bytes : List Byte)
  | leaseWrite (l : LeaseId) (addr : Nat) (bytes : List Byte)
  | leaseFail (l : LeaseId) (addr : Word)
  -- security (14)
  | getVersion (session tag : Nat)
  | getCapabilities (session tag : Nat)
  | negotiateAlgorithms (session tag : Nat) (offersAll : Bool)
  | getDigests (session tag : Nat)
  | getCertificate (session tag slot offset length : Nat)
  | challenge (session tag slot : Nat) (measType : Nat)
  | getMeasurements (session tag index : Nat) (signed : Bool)
  | keyExchange (session tag : Nat)
  | finish (session tag : Nat) (verifyOk : Bool)
  | orphanTimeout (ctx : Nat)
  | contextScrubComplete (ctx : Nat)
  | wholeDeviceScrubComplete
  -- Belfry (15)
  | linkCrc (u : UnitId) (ownPort : Bool) (twice : Bool)
  | lockstep
  | belfryHalfHeartbeat (missing : Bool)
  | audit (upset : Bool)
  | fltNMinimumEnd
  | belfryAck (value : Word)
  | selfTest (item : TestItem) (ok : Bool) (maxAgeS : Nat) (passDone : Bool)
  | wearSample (day : Nat)
  | incidentEnd
  -- Lantern (16)
  | hello (seqZero : Bool) (nonce : List Byte)
  | auth (a : AuthIn)
  | enrol (m : MgmtReq) (slot roles : Nat) (pubkey : List Byte)
  | remove (m : MgmtReq) (slot : Nat)
  | setPolicy (m : MgmtReq) (requireSigned : Bool)
  | setNet (m : MgmtReq) (ipv4 ipv6 : Nat)
  | regRead (m : MgmtReq) (addr : Nat)
  | regWrite (m : MgmtReq) (addr : Nat) (value : Word)
  | stage (m : MgmtReq) (offset : Nat) (bytes : List Byte)
  | sensors (m : MgmtReq) (first count : Nat)
  | logRead (m : MgmtReq) (source classes count from_ : Nat)
  | wear (m : MgmtReq)
  | grant (m : MgmtReq) (ctx : Nat) (requireConf : Bool) (mask : Word)
  | close (m : MgmtReq) (ctx : Nat)
  | scrub (m : MgmtReq)
  | mgmtLeaseRequest (m : MgmtReq) (neighbour granules mbps : Nat)
  | mgmtLeaseRelease (m : MgmtReq) (neighbour lease : Nat)
  | leaseReplyTimeout
  | halt (m : MgmtReq) (t : Nat)
  | resume (m : MgmtReq) (t : Nat)
  | warmMgmt (m : MgmtReq)
  | firmware (m : MgmtReq)
  | fwBegin (m : MgmtReq) (bytes : Nat)
  | fwWrite (m : MgmtReq) (offset : Nat) (bytes : List Byte)
  | fwVerify (m : MgmtReq)
  | fwSwitch (m : MgmtReq)
  | fwConfirm (m : MgmtReq)
  | fwRevert (m : MgmtReq)
  | fwStatus (m : MgmtReq)
  | linkTimeout (link : Nat)
  | sensorSample (id : Nat) (value : Int) (statusWord : Option Nat)
  -- power and reset (17, 18)
  | powerOn
  | warmPin (released : Bool)
  | startUp (i : StartIn)
  | vrPgGood (i : CoreIn)
  | vrPgTimeout
  | vrPgFall (longUs : Bool)
  | brownout
  | thermalTrip (sensors : List Nat)
  | thermal
  | voutStep (marginOk : Bool)
  | throttleEvaluation
  | peakPowerWindow (estimates : List Nat)
  | wakeStepRelease
  | pwrseqLimits (value : Word)
  | powerDown
  | delayReq (seq : Nat) (sentNs : Int)
  | managementLaneDown
  | managementLaneUp
  | receiveError (e : RxErr)
  deriving DecidableEq, Repr

end Sys2Proof
end

