-- ==== Sys2Proof/Machine/Table.lean ====
section
/-! DEFINITION. Tables: sorted association lists that hold memories, the register file and every sparse
record store of State, in one canonical form (keys strictly rising; a table with a default lists no entry
equal to it). -/

namespace Sys2Proof.Machine

/-- The entry of key `k`, if the table lists one. -/
def tget {α : Type} : Table α → Nat → Option α
  | [], _ => none
  | (j, v) :: r, k => if k = j then some v else tget r k

/-- The table with key `k` at `v`. -/
def tset {α : Type} : Table α → Nat → α → Table α
  | [], k, v => [(k, v)]
  | (j, w) :: r, k, v =>
    if k < j then (k, v) :: (j, w) :: r
    else if k = j then (k, v) :: r
    else (j, w) :: tset r k v

/-- The table without key `k`. -/
def tdel {α : Type} : Table α → Nat → Table α
  | [], _ => []
  | (j, w) :: r, k => if k = j then tdel r k else (j, w) :: tdel r k

/-- The value at `k`, `d` where the table lists none. -/
def tgetD {α : Type} (t : Table α) (k : Nat) (d : α) : α := (tget t k).getD d

/-- The table with key `k` reading `v`, where an unlisted key reads `d`. -/
def tsetD {α : Type} [DecidableEq α] (t : Table α) (k : Nat) (v d : α) : Table α :=
  if v = d then tdel t k else tset t k v

/-- Keys strictly rising, all above `lo`. -/
def keysAbove {α : Type} : Nat → Table α → Bool
  | _, [] => true
  | lo, (k, _) :: r => decide (lo ≤ k) && keysAbove (k + 1) r

/-- Keys strictly rising. -/
def Table.sorted {α : Type} (t : Table α) : Bool := keysAbove 0 t

/-- The canonical form of a table whose unlisted keys read `d`. -/
def Table.wf {α : Type} [DecidableEq α] (d : α) (t : Table α) : Bool :=
  Table.sorted t && t.all (fun e => decide (e.2 ≠ d))

/-- The canonical form of a memory: addresses strictly rising, no entry equal to 0, which an unlisted byte reads as. -/
def Memory.wf (m : Table Byte) : Bool := Table.wf 0 m

/-- Byte `a` of a memory whose unlisted bytes read 0. -/
def memByte (m : Table Byte) (a : Nat) : Byte := tgetD m a 0

/-- One byte written to a memory whose unlisted bytes read 0. -/
def memPut (m : Table Byte) (a : Nat) (v : Byte) : Table Byte := tsetD m a v 0

/-- `n` bytes from address `a`. -/
def memRead (m : Table Byte) (a : Nat) : Nat → List Byte
  | 0 => []
  | n + 1 => memByte m a :: memRead m (a + 1) n

/-- The bytes written at rising addresses from `a`. -/
def memWrite (m : Table Byte) (a : Nat) : List Byte → Table Byte
  | [] => m
  | b :: bs => memWrite (memPut m a b) (a + 1) bs

/-- A memory with the addresses from `a` up to but not including `a + n` reading 0. -/
def memZero (m : Table Byte) (a n : Nat) : Table Byte := m.filter (fun e => decide (e.1 < a ∨ a + n ≤ e.1))

/-- A table without the keys from `k` up to but not including `k + n`. -/
def memDrop {α : Type} (t : Table α) (k n : Nat) : Table α := t.filter (fun e => decide (e.1 < k ∨ k + n ≤ e.1))

/-- `n` bytes of one memory at `src` copied to another at `dst`. -/
def memCopy (from_ : Table Byte) (src : Nat) (m : Table Byte) (dst n : Nat) : Table Byte :=
  (from_.filter (fun e => decide (src ≤ e.1) && decide (e.1 < src + n))).foldl
    (fun m e => memPut m (dst + (e.1 - src)) e.2) (memZero m dst n)

/-- Unsigned value of little-endian bytes (R6). -/
def leNat : List Byte → Nat
  | [] => 0
  | b :: bs => b.toNat + 256 * leNat bs

/-- Unsigned value of big-endian bytes (network order, R6). -/
def beNat (bs : List Byte) : Nat := leNat bs.reverse

/-- The low `n` bytes of a number, little-endian (R6). -/
def toLE : Nat → Nat → List Byte
  | 0, _ => []
  | n + 1, v => BitVec.ofNat 8 v :: toLE n (v / 256)

/-- The low `n` bytes of a number, big-endian. -/
def toBE (n v : Nat) : List Byte := (toLE n v).reverse

/-- Field of `n` bytes at offset `o` of a byte string, little-endian; bytes beyond the end read 0. -/
def fieldLE (bs : List Byte) (o n : Nat) : Nat := leNat ((bs.drop o).take n)

/-- Field of `n` bytes at offset `o` of a byte string, big-endian, as network headers hold them (R6). -/
def fieldBE (bs : List Byte) (o n : Nat) : Nat := beNat ((bs.drop o).take n)

/-- Sub-string of `n` bytes at offset `o`. -/
def sub (bs : List Byte) (o n : Nat) : List Byte := (bs.drop o).take n

/-- All bytes of a range are 0. -/
def zeroRange (bs : List Byte) (o n : Nat) : Bool := (sub bs o n).all (fun b => decide (b = 0))

/-- `n` zero bytes. -/
def zeros (n : Nat) : List Byte := List.replicate n 0

/-- A byte string cut or padded with zeros to `n` bytes. -/
def fit (n : Nat) (bs : List Byte) : List Byte := (bs ++ zeros (n - bs.length)).take n

/-- Insertion of `x` into a list ordered by `le`. -/
def insertBy {α : Type} (le : α → α → Bool) (x : α) : List α → List α
  | [] => [x]
  | y :: ys => if le x y then x :: y :: ys else y :: insertBy le x ys

/-- The list in the order `le`, equal entries kept in their order. -/
def sortBy {α : Type} (le : α → α → Bool) : List α → List α
  | [] => []
  | x :: xs => insertBy le x (sortBy le xs)

/-- The sum of `f` over a list. -/
def sumBy {α : Type} (f : α → Nat) : List α → Nat
  | [] => 0
  | x :: xs => f x + sumBy f xs

/-- The least number below `n` that satisfies `p`. -/
def leastBelow (p : Nat → Bool) (n : Nat) : Option Nat := (List.range n).find? p

end Sys2Proof.Machine
end

