-- ==== Sys2Proof/Machine/Crypto.lean ====
section
/-! DEFINITION. The functions of the crypto engine whose values reach the device's state: SHA-256 (R51), CRC-32C
(R328, R453) and the verification of an ECDSA P-256 signature with SHA-256 (R51, R372, R409). Their text follows the
public standards; arithmetic is on natural numbers. -/

namespace Sys2Proof.Machine

/-- Applies `f` to the value of `n`. Equal to `f n`; the case split makes evaluation compute `n` first. -/
def forceNat {α : Type} (n : Nat) (f : Nat → α) : α :=
  match n with
  | 0 => f 0
  | m + 1 => f (m + 1)

/-! ### SHA-256 -/

/-- The sum modulo 2 of a word of 32 bits turned to the right by each amount of a list. -/
def turned (x : Nat) (l : List Nat) : Nat :=
  l.foldl (fun acc n => acc ^^^ ((x * 0x100000001) >>> n % 0x100000000)) 0

/-- `n` words of 32 bits that lie side by side in a number, the leading one first. -/
def splitWords : Nat → Nat → List Nat
  | 0, _ => []
  | n + 1, x => x / 2 ^ (32 * n) % 2 ^ 32 :: splitWords n x

/-- The 64 round constants: the fractions of the cube roots of the first 64 primes, eight to a row. -/
def shaRows : List Nat :=
  [0x428a2f9871374491b5c0fbcfe9b5dba53956c25b59f111f1923f82a4ab1c5ed5,
   0xd807aa9812835b01243185be550c7dc372be5d7480deb1fe9bdc06a7c19bf174,
   0xe49b69c1efbe47860fc19dc6240ca1cc2de92c6f4a7484aa5cb0a9dc76f988da,
   0x983e5152a831c66db00327c8bf597fc7c6e00bf3d5a7914706ca635114292967,
   0x27b70a852e1b21384d2c6dfc53380d13650a7354766a0abb81c2c92e92722c85,
   0xa2bfe8a1a81a664bc24b8b70c76c51a3d192e819d6990624f40e3585106aa070,
   0x19a4c1161e376c082748774c34b0bcb5391c0cb34ed8aa4a5b9cca4f682e6ff3,
   0x748f82ee78a5636f84c878148cc7020890befffaa4506cebbef9a3f7c67178f2]

/-- What is carried from block to block: the last four words of the first register sequence and of the second, newest
first. -/
structure ShaState where
  heads : List Nat
  tails : List Nat

/-- The initial value: the fractions of the square roots of the first eight primes. -/
def shaInit : ShaState :=
  { heads := splitWords 4 0x6a09e667bb67ae853c6ef372a54ff53a, tails := splitWords 4 0x510e527f9b05688c1f83d9ab5be0cd19 }

/-- Next word of the message schedule from the last 16 words. -/
def shaNext (w : List Nat) : Nat :=
  let early := w.getD 1 0
  let late := w.getD 14 0
  ((turned early [7, 18] ^^^ early / 8) + (turned late [17, 19] ^^^ late / 1024) + w.getD 0 0 + w.getD 9 0) % 2 ^ 32

/-- One round with its constant and schedule word: each sequence grows by one word at its head. -/
def shaRound {α : Type} (kw : Nat) (s : ShaState) (f : ShaState → α) : α :=
  match s.heads, s.tails with
  | [a, b, c, d], [e, g, h, i] =>
    let mix := turned e [6, 11, 25] + (h ^^^ (e &&& (g ^^^ h))) + i + kw
    let major := (a &&& b) ||| (c &&& (a ||| b))
    forceNat ((d + mix) % 2 ^ 32) fun tail =>
    forceNat ((turned a [2, 13, 22] + major + mix) % 2 ^ 32) fun head =>
      f { heads := [head, a, b, c], tails := [tail, e, g, h] }
  | _, _ => f s

/-- The rounds over the constants still to use and the last 16 words of the schedule. -/
def shaRounds : List Nat → List Nat → ShaState → ShaState
  | [], _, s => s
  | k :: ks, w, s => forceNat (shaNext w) fun next => shaRound (k + w.getD 0 0) s fun r => shaRounds ks (w.drop 1 ++ [next]) r

/-- Big-endian 32-bit words of a byte string, `n` of them. -/
def beWords : Nat → List Byte → List Nat
  | 0, _ => []
  | n + 1, bs => beNat (bs.take 4) :: beWords n (bs.drop 4)

/-- Values of a list computed before the list is used. -/
def forceList {α : Type} : List Nat → (List Nat → α) → α
  | [], f => f []
  | x :: xs, f => forceNat x fun v => forceList xs fun vs => f (v :: vs)

/-- Two sequences of words added word by word. -/
def addWords (x y : List Nat) : List Nat := (x.zip y).map (fun p => (p.1 + p.2) % 2 ^ 32)

/-- One block absorbed. -/
def shaBlock (s : ShaState) (block : List Byte) : ShaState :=
  forceList (shaRows.flatMap (splitWords 8)) fun ks =>
  forceList (beWords 16 block) fun w =>
    let r := shaRounds ks w s
    { heads := addWords s.heads r.heads, tails := addWords s.tails r.tails }

/-- `n` blocks absorbed in order. -/
def shaBlocks : Nat → List Byte → ShaState → ShaState
  | 0, _, s => s
  | n + 1, bs, s => shaBlocks n (bs.drop 64) (shaBlock s (bs.take 64))

/-- SHA-256 of a byte string, in the order in which it is emitted. -/
def sha256 (bs : List Byte) : List Byte :=
  let len := bs.length
  let pad := (119 - len % 64) % 64
  let m := bs ++ (0x80 : Byte) :: zeros pad ++ toBE 8 (8 * len)
  let s := shaBlocks ((len + 9 + pad) / 64) m shaInit
  (s.heads ++ s.tails).flatMap (toBE 4)

/-! ### CRC-32C -/

/-- `n` bit steps of the reflected CRC-32C. -/
def crcBits : Nat → Nat → Nat
  | 0, c => c
  | n + 1, c => crcBits n (if c % 2 = 1 then (c / 2) ^^^ 0x82F63B78 else c / 2)

/-- The CRC register after the bytes. -/
def crcBytes : List Byte → Nat → Nat
  | [], c => c
  | b :: bs, c => forceNat (crcBits 8 (c ^^^ b.toNat)) fun d => crcBytes bs d

/-- CRC-32C of R453. -/
def crc32c (bs : List Byte) : Nat := crcBytes bs 0xFFFFFFFF ^^^ 0xFFFFFFFF

/-! ### ECDSA P-256 -/

/-- The field prime of P-256. -/
def p256P : Nat := 0xffffffff00000001000000000000000000000000ffffffffffffffffffffffff

/-- The order of the base point of P-256. -/
def p256N : Nat := 0xffffffff00000000ffffffffffffffffbce6faada7179e84f3b9cac2fc632551

/-- The curve constant b. -/
def p256B : Nat := 0x5ac635d8aa3a93e7b3ebbd55769886bc651d06b0cc53b0f63bce3c3e27d2604b

/-- A point in Jacobian coordinates; `z = 0` is the point at infinity. -/
structure JPoint where
  x : Nat
  y : Nat
  z : Nat

/-- The base point. -/
def p256G : JPoint :=
  { x := 0x6b17d1f2e12c4247f8bce6e563a440f277037d812deb33a0f4a13945d898c296,
    y := 0x4fe342e2fe1a7f9b8ee7eb4a7c0f9e162bce33576b315ececbb6406837bf51f5, z := 1 }

/-- Product in the field. -/
def fmul (a b : Nat) : Nat := (a * b) % p256P

/-- Difference in the field, for operands below the prime. -/
def fsub (a b : Nat) : Nat := (a + p256P - b) % p256P

/-- A point with computed coordinates. -/
def forcePoint {α : Type} (x y z : Nat) (f : JPoint → α) : α :=
  forceNat x fun a => forceNat y fun b => forceNat z fun c => f { x := a, y := b, z := c }

/-- Doubling (a = −3). -/
def jdbl {α : Type} (p : JPoint) (f : JPoint → α) : α :=
  forceNat (fmul p.z p.z) fun zz =>
  forceNat (fmul p.y p.y) fun g =>
  forceNat (fmul p.x g) fun b =>
  forceNat (fmul (3 * fsub p.x zz) (p.x + zz)) fun al =>
  forceNat (fsub (fmul al al) ((8 * b) % p256P)) fun x3 =>
    forcePoint x3 (fsub (fmul al (fsub ((4 * b) % p256P) x3)) ((8 * fmul g g) % p256P))
      ((2 * fmul p.y p.z) % p256P) f

/-- Addition. -/
def jadd {α : Type} (p q : JPoint) (f : JPoint → α) : α :=
  if p.z = 0 then f q
  else if q.z = 0 then f p
  else
    forceNat (fmul p.z p.z) fun z1 =>
    forceNat (fmul q.z q.z) fun z2 =>
    forceNat (fmul p.x z2) fun u1 =>
    forceNat (fmul q.x z1) fun u2 =>
    forceNat (fmul (fmul p.y q.z) z2) fun s1 =>
    forceNat (fmul (fmul q.y p.z) z1) fun s2 =>
    if u1 = u2 then
      if s1 = s2 then jdbl p f else f { x := 1, y := 1, z := 0 }
    else
      forceNat (fsub u2 u1) fun h =>
      forceNat (fsub s2 s1) fun r =>
      forceNat (fmul h h) fun hh =>
      forceNat (fmul h hh) fun hhh =>
      forceNat (fmul u1 hh) fun v =>
      forceNat (fsub (fsub (fmul r r) hhh) ((2 * v) % p256P)) fun x3 =>
        forcePoint x3 (fsub (fmul r (fsub v x3)) (fmul s1 hhh)) (fmul (fmul p.z q.z) h) f

/-- `u1 × p + u2 × q`, from bit `n − 1` down, with `pq = p + q`. -/
def jmul2 (u1 u2 : Nat) (p q pq : JPoint) : Nat → JPoint → JPoint
  | 0, acc => acc
  | n + 1, acc =>
    jdbl acc fun d =>
      match u1.testBit n, u2.testBit n with
      | false, false => jmul2 u1 u2 p q pq n d
      | true, false => jadd d p fun r => jmul2 u1 u2 p q pq n r
      | false, true => jadd d q fun r => jmul2 u1 u2 p q pq n r
      | true, true => jadd d pq fun r => jmul2 u1 u2 p q pq n r

/-- `b ^ e` modulo `m`, from bit `n − 1` of `e` down. -/
def powMod (b e m : Nat) : Nat → Nat → Nat
  | 0, acc => acc
  | n + 1, acc =>
    forceNat ((acc * acc) % m) fun sq =>
      if e.testBit n then forceNat ((sq * b) % m) fun r => powMod b e m n r else powMod b e m n sq

/-- The inverse of `a` modulo the prime `m`. -/
def invMod (a m : Nat) : Nat := powMod (a % m) (m - 2) m 256 1

/-- A public key is a point of the curve other than infinity. -/
def onCurve (x y : Nat) : Bool :=
  decide (x < p256P) && decide (y < p256P) &&
  decide ((y * y) % p256P = (x * x * x + (p256P - 3) * x + p256B) % p256P)

/-- ECDSA P-256 verification of a message hash: key X then Y, values r and s, most significant byte first (R51). -/
def ecdsaVerify (key hash sigR sigS : List Byte) : Bool :=
  let qx := beNat (key.take 32)
  let qy := beNat (key.drop 32)
  let r := beNat sigR
  let s := beNat sigS
  if key.length = 64 ∧ onCurve qx qy ∧ 0 < r ∧ r < p256N ∧ 0 < s ∧ s < p256N then
    forceNat (invMod s p256N) fun w =>
    forceNat ((beNat hash * w) % p256N) fun u1 =>
    forceNat ((r * w) % p256N) fun u2 =>
    jadd p256G { x := qx, y := qy, z := 1 } fun pq =>
      let t := jmul2 u1 u2 p256G { x := qx, y := qy, z := 1 } pq 256 { x := 1, y := 1, z := 0 }
      if t.z = 0 then false
      else forceNat (invMod t.z p256P) fun zi => decide ((t.x * (zi * zi % p256P)) % p256P % p256N = r)
  else false

end Sys2Proof.Machine
end

