-- ==== Sys2Proof/Config.lean ====
section
/-! DEFINITION. Free values: what the spec leaves open, or leaves to a standard whose value the model does not form.
Each is an opaque constant, so nothing can be proved of its value; the assumption log names each. -/

namespace Sys2Proof.Config

/-- Random numbers the device draws (session numbers R327, LINK, CHALLENGE and ephemeral key R409). -/
opaque random : Nat → Nat

/-- Contents of tile buffers that nothing has written for the request (R109): frame, tile, buffer, offset. -/
opaque scratchByte : Nat → Nat → Nat → Nat → BitVec 8

/-- Rank that a row goes to where its entry of SRC1 names none of the slot (R114): route, entry. -/
opaque rowRank : Nat → Nat → Nat

/-- GELU in its tanh form (R111): format code, operand bits. -/
opaque geluTanh : Nat → BitVec 64 → BitVec 64

/-- What a model's program that writes no outputs leaves as a draft token (R253): draw, position. -/
opaque draftToken : Nat → Nat → Nat

/-- The logits row such a program leaves (R256): draw, position. -/
opaque logitsRow : Nat → Nat → List (BitVec 32)

/-- Byte strings formed by SPDM, X.509 and signing (R363, R364, R409): draw, length. -/
opaque signedBytes : Nat → Nat → List (BitVec 8)

/-- SHA-256 of the boot ROM, measurement block 1 (R365). -/
opaque romDigest : List (BitVec 8)

/-- Lowered core code as TILE_LOWERED shows it while an image is in service (R58, R141): tile, word of the store. -/
opaque loweredWord : Nat → Nat → BitVec 64

/-- Bank (die × 32 + bank of the die) and row that hold a 64-byte block of a Keep (R282, R284, R287): Keep, block. -/
opaque blockPlace : Nat → Nat → Nat × Nat

/-- Which model image, and at what offset in it, holds a feature table's initial contents (R189): table. -/
opaque tableSource : Nat → Nat × Nat

/-- Identification field of an IPv4 header the device sends (R323 does not give it): draws so far. -/
opaque ipIdent : Nat → Nat

/-- Byte of an AES-256-GCM ciphertext under a session's key, which the model does not form (R329): nonce, plaintext, index. -/
opaque cipherByte : List (BitVec 8) → List (BitVec 8) → Nat → BitVec 8

/-- Byte of an AES-256-GCM tag (R329): nonce, header and plaintext, index. -/
opaque tagByte : List (BitVec 8) → List (BitVec 8) → Nat → BitVec 8

/-- Thousandths of the Keep granules that a whole-device scrub has overwritten (R361): draw. -/
opaque scrubShare : Nat → Nat

/-- Faulty PEs, as tile, physical row and column, that the array test passes at the end of a whole-device scrub locate (R100,
R361): draw. -/
opaque scrubPes : Nat → List (Nat × Nat × Nat)

/-- Tiles that fail a recovery test at the end of a whole-device scrub (R393): draw. -/
opaque scrubFails : Nat → List Nat

/-- Tiles whose selection network fails its recovery test there (R157): draw. -/
opaque scrubNets : Nat → List Nat

end Sys2Proof.Config
end

