-- ==== Sys2Proof/Machine/State.lean ====
section
/-! DEFINITION. The state of the block: everything the spec gives the ZS-8032, as plain data, and the state right
after reset. Registers live in one sparse register file (`State.regs`), keyed by address, where an unlisted register
reads its reset value; RO fields that mirror other state are computed by Machine/Registers.lean and stored nowhere. -/

namespace Sys2Proof.Machine

/-- Device states (R7). -/
inductive DevState where
  | sable | ivory | amber | slate | vermilion
  deriving DecidableEq, Repr

/-- Lock states of the frame timer (R23). -/
inductive Lock where
  | free | acquiring | locked | holdover
  deriving DecidableEq, Repr

/-- Loader states, IMG_STATE.STATE (R67). CHECKING and APPLYING lie inside COMMIT, which is one command. -/
inductive LoadPhase where
  | empty | staging | checking | applying | inService | refused
  deriving DecidableEq, Repr

/-- Tile roles (R53). -/
inductive Role where
  | off | bound | spare | elastic
  deriving DecidableEq, Repr

/-- Run states of a tile, TILE_STATE.RUN (R141). -/
inductive RunState where
  | idle | running | preempted | switching
  deriving DecidableEq, Repr

/-- Request table states (R242); FREE is the absence of an entry. -/
inductive ReqState where
  | pending | running | serving | holding | ending
  deriving DecidableEq, Repr

/-- Context states (R354); CLOSED is the absence of a record. -/
inductive CtxState where
  | opened | slate
  deriving DecidableEq, Repr

/-- Namespace states (R308); ABSENT is the absence of a record. -/
inductive NsState where
  | active | readOnly | deleting | offline
  deriving DecidableEq, Repr

/-- Home of a granule of a KIND 1 extent that a move or a recall has changed (R270, R273, R276): a Keep
again, a granule of a lease, or none. -/
inductive Home where
  | keep | lease (j off : Nat) | lost
  deriving DecidableEq, Repr

/-- Roles and states of a flash block (R290, R300 to R303). -/
inductive BlockRole where
  | system | buffer | qlc
  deriving DecidableEq, Repr

inductive BlockState where
  | free | opened | closed | folding | erasing | retired
  deriving DecidableEq, Repr

/-- Status of a firmware slot (R421). -/
inductive SlotStatus where
  | empty | writing | verified | failed
  deriving DecidableEq, Repr

/-! ### Pins -/

/-- The pins software and the integrator see (R445): RST_N, RDY, FLT_N, VR_EN, VR_PG. -/
structure Pins where
  /-- RST_N is asserted (low). -/
  rstLow : Bool
  rdy : Bool
  /-- FLT_N is asserted (low). -/
  fltLow : Bool
  vrEn : Bool
  vrPg : Bool
  deriving DecidableEq, Repr

/-! ### Frame timer -/

/-- The slave-only ordinary clock (R325). -/
structure PtpClock where
  /-- Masters heard, latest Announce each. -/
  masters : List AnnounceIn
  /-- Port chosen as master. -/
  parent : Option Nat
  offsetNs : Int
  delayNs : Int
  /-- A two-step Sync waiting for its Follow_Up: sequence number, local receive time, correction. -/
  pendingSync : Option (Nat × Int × Int)
  /-- Origin and receive time of the last completed Sync. -/
  lastSync : Option (Int × Int)
  /-- A Delay_Req waiting for its answer: sequence number, send time. -/
  pendingReq : Option (Nat × Int)
  deriving DecidableEq, Repr

/-- The frame timer (R22 to R25). ENABLE and REFSEL are FRAME_CTRL in the register file. -/
structure FrameTimer where
  count : Nat
  lock : Lock
  /-- Consecutive frames with a boundary offset below 50 ns (R23). -/
  good : Nat
  /-- The counter has been set at acquisition (R22). -/
  acquired : Bool
  /-- The selected reference is being received. -/
  present : Bool
  /-- Frame number that the next boundary begins, set by the acquisition of R24. -/
  nextFrame : Option Nat
  offsetNs : Int
  /-- Cycles by which the frame in progress is lengthened (R24). -/
  steer : Int
  ppsSecond : Option Nat
  ptp : PtpClock
  deriving DecidableEq, Repr

/-! ### The structure image in service (R47 to R61) -/

structure TileRec where
  tile : Nat
  role : Role
  ctx : Nat
  pipeline : Nat
  stage : Nat
  slot : Nat
  program : Nat
  deriving DecidableEq, Repr

structure StageRec where
  offset : Nat
  duration : Nat
  slots : Nat
  tilesPerSlot : Nat
  wcet : Nat
  program : Nat
  t2Bytes : Nat
  t0Kib : Nat
  t1Kib : Nat
  deriving DecidableEq, Repr

structure PipelineRec where
  num : Nat
  cls : Nat
  span : Nat
  variant : Nat
  scanStage : Nat
  stages : List StageRec
  deriving DecidableEq, Repr

structure ReservationRec where
  ctx : Nat
  stage : Nat
  pipeline : Nat
  slots : Nat
  seats : Nat
  t2Bytes : Nat
  deriving DecidableEq, Repr

structure QuotaRec where
  ctx : Nat
  t0 : Nat
  t1 : Nat
  t2 : Nat
  t3 : Nat
  deriving DecidableEq, Repr

structure RouteRec where
  srcPipeline : Nat
  srcStage : Nat
  srcSlot : Nat
  dstPipeline : Nat
  dstStage : Nat
  dstSlot : Nat
  channel : Nat
  credits : Nat
  creditBytes : Nat
  via : Nat
  deriving DecidableEq, Repr

/-- A stream descriptor (R126, R127), both kinds. -/
structure StreamDesc where
  kind : Nat
  farTier : Nat
  write : Bool
  idx64 : Bool
  weight : Bool
  indexBuf : Nat
  sramBuf : Nat
  grantMbps : Nat
  farBase : Nat
  rowStride : Nat
  rowBytes : Nat
  indexMax : Nat
  indexLimit : Nat
  sramStride : Nat
  landFrames : Nat
  elemLog2 : Nat
  sramOffset : Nat
  /-- DIMS of an affine stream. -/
  dimNum : Nat
  /-- Affine dimensions, innermost first, those at or beyond DIMS too: count and signed stride. -/
  dims : List (Nat × Int)
  deriving DecidableEq, Repr

structure StreamRec where
  pipeline : Nat
  stage : Nat
  index : Nat
  desc : StreamDesc
  deriving DecidableEq, Repr

structure SplitRec where
  keep : Nat
  scan : Nat
  read : Nat
  write : Nat
  remote : Nat
  deriving DecidableEq, Repr

/-- One operator record of a task (R110). -/
structure OpRec where
  op : Nat
  sub : Nat
  dst : Nat
  src0 : Nat
  src1 : Nat
  src2 : Nat
  params : List Byte
  deriving DecidableEq, Repr

/-- One buffer record (R109). -/
structure BufRec where
  kind : Nat
  channel : Nat
  bytes : Nat
  deriving DecidableEq, Repr

/-- One task program (R108). -/
structure ProgramRec where
  num : Nat
  vregPersist : Nat
  bufs : List BufRec
  ops : List OpRec
  deriving DecidableEq, Repr

structure ImageRef where
  ref : Nat
  kind : Nat
  resident : Bool
  bytes : Nat
  digest : List Byte
  deriving DecidableEq, Repr

/-- The structure image, its sections decoded. -/
structure Image where
  period : Nat
  extraElastic : Bool
  imageId : Nat
  signer : Option Nat
  digest : List Byte
  sizes : List (Nat × Nat)
  tiles : List TileRec
  pipelines : List PipelineRec
  reservations : List ReservationRec
  quotas : List QuotaRec
  routes : List RouteRec
  streams : List StreamRec
  splits : List SplitRec
  writes : List (Nat × Nat)
  programs : List ProgramRec
  refs : List ImageRef
  deriving DecidableEq, Repr

/-- A model, index or vocabulary image that LOAD has brought (R341): where it lies and how far it has arrived. -/
structure LoadedImage where
  kind : Nat
  bytes : Nat
  resident : Bool
  /-- Offset in device image space (RESIDENT 1), or namespace and offset (RESIDENT 0). -/
  ns : Nat
  base : Nat
  upto : Nat
  /-- All bytes arrived and the digest matched. -/
  valid : Bool
  /-- No device-owned namespace had room (NO_SPACE) until loading starts again. -/
  noSpace : Bool
  deriving DecidableEq, Repr

/-- The loader (R62 to R67). -/
structure Loader where
  staged : Table Byte
  stagedLen : Nat
  phase : LoadPhase
  code : Nat
  detail : Nat
  image : Option Image
  /-- COMMIT has run step 8 and the device has not left Sable yet (R63). -/
  awaiting : Bool
  /-- Images loaded, by REF. -/
  loaded : Table LoadedImage
  deriving DecidableEq, Repr

/-! ### Admission, requests, results -/

/-- A submission waiting for an admission pass (R35). -/
structure Submission where
  session : Nat
  queue : Nat
  tag : Nat
  stamp : Nat
  body : SubmitBody
  deriving DecidableEq, Repr

/-- A swap that admission has scheduled (R260, R261). -/
structure SwapPlan where
  region : Nat
  ref : Nat
  start : Nat
  frames : Nat
  bytesPerFrame : Nat
  /-- The swap's data have arrived with a matching digest (R260); `none` while it runs. -/
  outcome : Option Bool
  deriving DecidableEq, Repr

/-- A context switch that an admission pass has ordered (R124). -/
structure SwitchOrder where
  tile : Nat
  ctx : Nat
  frame : Nat
  deriving DecidableEq, Repr

/-- One acceptance as the audit unit copies it (R386): entry, start, promised frame, slots. -/
structure Acceptance where
  entry : Nat
  start : Nat
  promised : Nat
  slots : List Nat
  deriving DecidableEq, Repr

structure Admission where
  subs : List Submission
  /-- Entries to replan in the next pass (R43). -/
  replans : List Nat
  switches : List SwitchOrder
  swaps : List SwapPlan
  /-- Throttle level of R44. -/
  level : Nat
  /-- The audit unit's copy of the last pass. -/
  auditCopy : List Acceptance
  deriving DecidableEq, Repr

/-- The frames planned for the steps left of a stage of a request (R36, R43). -/
structure PlanStage where
  stage : Nat
  first : Nat
  frames : Nat
  /-- Step that runs in the first of them. -/
  step0 : Nat
  deriving DecidableEq, Repr

/-- An occupied entry of the request table (R240), with the fields the chapters keep beside the head. -/
structure Request where
  state : ReqState
  ctx : Nat
  prio : Nat
  elastic : Bool
  pipeline : Nat
  session : Nat
  queue : Nat
  tag : Nat
  /-- Arrival stamp of the submission (R35). -/
  stamp : Nat
  acceptFrame : Nat
  start : Nat
  promised : Nat
  deadline : Nat
  /-- SLOT_MAP of R117: slot of each stage, 0xFF for none; a scan stage's byte is the seat. -/
  slots : List Nat
  plan : List PlanStage
  search : Option SearchBlock
  gen : Option GenBlock
  input : List Byte
  /-- Frames of the serving stage and companion for this request, d of R237. -/
  servFrames : Nat
  /-- Steps completed: key stage × 65536 + rank; the Dome's stages have rank 0 (R43). -/
  steps : Table Nat
  /-- The request is in Belfry's affected set (R387). -/
  affected : Bool
  /-- Status that ends it, and the frame its COMPLETE leaves (R45, R388). -/
  status : Nat
  dueFrame : Option Nat
  /-- Frame in which its completion was handed to the MAC; the entry is FREE from the next boundary (R241). -/
  sentFrame : Option Nat
  /-- Every stage has completed or generation has ended: last production frame (R41). -/
  produced : Option Nat
  /-- Bytes of the result handed over so far (R340). -/
  resultBytes : Nat
  -- search
  sketch : Option (List Byte)
  version : Nat
  shortlist : Option (List Byte)
  /-- Tokens of the passages that the packing stage had tokenized, by job (R184). -/
  packed : Table (List Nat)
  -- generation (R240)
  lane : Nat
  draftOff : Bool
  draftLen : Nat
  rejectRun : Nat
  plainSteps : Nat
  length : Nat
  promptLen : Nat
  prefillPos : Nat
  generated : Nat
  pageHead : Option Nat
  pages : List Nat
  sharedPages : Nat
  /-- Leading data pages that have had their boundary for entering the tree (R249). -/
  entered : Nat
  acceptEst : BitVec 32
  /-- Prompt tokens, then generated tokens in position order. -/
  prompt : List Nat
  tokens : List Nat
  /-- The history H of R223 and how many of its bytes were released (R224). -/
  hist : List Byte
  released : Nat
  /-- Generated tokens already detokenized. -/
  detok : Nat
  /-- The stop report of R226 and the END_REASON of R257. -/
  stop : Option (List Byte)
  endReason : Option Nat
  deriving DecidableEq, Repr

/-- A result fragment in the result hold (R40). -/
structure Fragment where
  entry : Nat
  bytes : List Byte
  /-- Production frame p. -/
  frame : Nat
  deriving DecidableEq, Repr

/-! ### Tiles, Spires -/

/-- A token with its data (R117, R118). -/
structure Token where
  entry : Nat
  ctx : Nat
  route : Nat
  buffer : Nat
  bytes : Nat
  start : Nat
  /-- First frame in which the consumer sees it. -/
  visible : Nat
  seed : Bool
  last : Bool
  elastic : Bool
  slotMap : List Nat
  srcTile : Nat
  srcRank : Nat
  dstRank : Nat
  data : List Byte
  deriving DecidableEq, Repr

/-- An array pass in flight (R102): parameters, buffers, exact accumulators and their special values. -/
structure Pass where
  p : MatmulP
  bufs : Bufs
  a : List Byte
  b : List Byte
  c : List Byte
  deriving DecidableEq, Repr

/-- A stream of a task (R128). -/
structure StreamRun where
  index : Nat
  entry : Nat
  frame : Nat
  /-- Completed, or landed in its buffer. -/
  done : Bool
  /-- Its missed landing has been counted (R295). -/
  late : Bool
  ctx : Nat
  elastic : Bool
  /-- Elements in list order: far address, offset in the buffer, bytes (R126, R127), and whether the count was over
  INDEX_MAX. -/
  elems : List (Nat × Nat × Nat)
  tooMany : Bool
  /-- Positions of the list whose index is out of range (R126). -/
  outside : List Nat
  /-- PERSIST half that the stream reads and the half that it writes. -/
  rdHalf : Bool
  wrHalf : Bool
  /-- Weight-cache lines that a fill has brought for it (R133). -/
  filled : List Nat
  /-- Granules that a neighbour's DATA has brought for it: far address, 2,048 bytes (R276, R346). -/
  got : List (Nat × List Byte)
  desc : StreamDesc
  deriving DecidableEq, Repr

/-- A SEND that waits for a credit (R116). -/
structure WaitingSend where
  bytes : Nat
  route : Nat
  rank : Nat
  src : Nat
  deriving DecidableEq, Repr

/-- The task a tile runs (R107), with the outputs it will publish if it completes (R135). -/
structure Task where
  entry : Nat
  ctx : Nat
  pipeline : Nat
  /-- Rank of the tile among the tiles that serve the request in the stage (R116). -/
  rank : Nat
  program : Nat
  stage : Nat
  step : Nat
  frame : Nat
  elastic : Bool
  /-- Position in the program's operator records (R110), and the open LOOPs: position of the body and rounds left. -/
  pos : Nat
  loops : List (Nat × Nat)
  complete : Bool
  tokens : List Token
  frags : List (List Byte)
  deltas : List DeltaRec
  waiting : Option WaitingSend
  /-- Stream that a STREAM_WAIT waits for (R111). -/
  waitStream : Option Nat
  deriving DecidableEq, Repr

structure Tile where
  role : Role
  /-- Image record whose role the tile serves (R53, R54). -/
  serves : Option TileRec
  /-- It has not left service since the last start-up tests (R392, R435). -/
  inService : Bool
  run : RunState
  occupant : Option Nat
  task : Option Task
  /-- Tile SRAM by buffer: key entry × 2^30 + buffer × 2^23 + half × 2^22 + offset (R109). -/
  sram : Table Byte
  /-- Persistent vector registers (R108): key core × 2^13 + byte. -/
  vregs : Table Byte
  inbox : List Token
  /-- Credits spent per route, and credits returned with the frame from which they are usable (R118). -/
  spent : Table Nat
  returns : List (Nat × Nat)
  passes : List Pass
  streams : List StreamRun
  /-- Incoming context of a switch and the frame from which the tile serves it (R138). -/
  switch : Option (Nat × Nat)
  /-- PEs found faulty and not yet switched out (R100): physical row and column. -/
  badPes : List (Nat × Nat)
  /-- The selection network failed a self-test (R398). -/
  netBad : Bool
  /-- Contexts whose data the tile holds while out of service (R392, R393). -/
  heldCtx : List Nat
  /-- Request and frame of the tasks, streams, landings and tokens of the last frames (R387). -/
  history : List (Nat × Nat)
  /-- The program of the current or last task (TILE_STATE.PROGRAM). -/
  program : Nat
  deriving DecidableEq, Repr

/-- A task in an Elastic dispatch queue (R123). -/
structure QTask where
  entry : Nat
  ctx : Nat
  rank : Nat
  stage : Nat
  step : Nat
  prio : Nat
  promised : Nat
  visible : Nat
  /-- The tile that ran step 0, for a continuation. -/
  cont : Option Nat
  deriving DecidableEq, Repr

structure Spire where
  queue : List QTask
  /-- Free ELASTIC tiles at the last boundary. -/
  free : Nat
  /-- Unpinned weight-cache lines held, most recently used first: T1 line address (R133). -/
  lines : List Nat
  /-- Replicas held for the frame: table and row (R202). -/
  replicas : List (Nat × Nat)
  deriving DecidableEq, Repr

/-! ### Search -/

/-- An index change held behind a bound version (R172). -/
structure HeldChange where
  session : Nat
  tag : Nat
  isPublish : Bool
  filter : Nat
  offset : Nat
  data : List Byte
  passages : List Nat
  deriving DecidableEq, Repr

/-- The versions of one index in service (R171, R172): bytes by which the bitmaps of the current and of the previous
version differ from the image as loaded, key filter × 2^40 + byte; and the spare copy, once a change since the last
publication is in it. -/
structure IndexSt where
  version : Nat
  cur : Table Byte
  prev : Table Byte
  spare : Option (Table Byte)
  /-- The one bitmap changed since the last PUBLISH was received. -/
  changing : Option Nat
  held : List HeldChange
  /-- A publication is ordered: the frame from which the next version is current. -/
  publishAt : Option Nat
  /-- Live bits were cleared by publications that edge repair has not followed (R178). -/
  repairDue : Bool
  deriving DecidableEq, Repr

/-- A candidate list of a Keep (R168): the matches met so far, as (distance, passage), and the list as Keep base SRAM holds
it. -/
structure CandList where
  entry : Nat
  keep : Nat
  matches_ : List (Nat × Nat)
  sram : List Byte
  deriving DecidableEq, Repr

/-- A graph walk (R175): the beam as (distance, passage), expanded nodes, and the distinct matches met as (distance,
passage), whose best K_SHORT are the result. -/
structure Walk where
  entry : Nat
  beam : List (Nat × Nat)
  expanded : List Nat
  met : List (Nat × Nat)
  round : Nat
  deriving DecidableEq, Repr

structure Search where
  indexes : Table IndexSt
  cands : List CandList
  walks : List Walk
  deriving DecidableEq, Repr

/-! ### Feature tables, text, serving -/

/-- A delta in the Dome delta area (R206, R207). -/
structure DueDelta where
  due : Nat
  delta : DeltaRec
  deriving DecidableEq, Repr

/-- A tracked row of a replication window (R200): reads by tiles of each Spire. -/
structure TrackRow where
  keep : Nat
  table : Nat
  row : Nat
  counts : List Nat
  deriving DecidableEq, Repr

structure Features where
  area : List DueDelta
  /-- Next SEQ to assign (FTAB_SEQ). -/
  seq : Nat
  /-- Last SEQ accepted: key table × 16 + source. -/
  lastSeq : Table Nat
  /-- Last SEQ taken or rejected, for DELTA_ACK: key table × 16 + source. -/
  taken : Table Nat
  tracker : List TrackRow
  /-- Reads of the current frame: table, row, tile (R196). -/
  reads : List (Nat × Nat × Nat)
  /-- Rows chosen for the current window: Spire, table, row (R201), and the window they were chosen for. -/
  chosen : List (Nat × Nat × Nat)
  chosenFor : Option Nat
  /-- First window whose reads are counted (R203). -/
  firstWindow : Nat
  /-- Deltas sent to a neighbour endpoint and not yet covered (R345). -/
  unacked : List (Nat × DeltaRec)
  deriving DecidableEq, Repr

/-- A text job whose later parts are still to run (R220, R228). -/
structure OpenJob where
  entry : Nat
  kind : Nat
  job : Nat
  bytes : List Byte
  deriving DecidableEq, Repr

structure TextEngine where
  /-- Job parts of the current frame that have not run, in order (R229). -/
  queue : List TextJob
  jobs : List OpenJob
  /-- Finished outputs for the consumers of text stages: entry, route, rank, bytes. -/
  outputs : List (Nat × Nat × Nat × List Byte)
  deriving DecidableEq, Repr

/-- A node of a prefix tree (R247). -/
structure PrefixNode where
  ctx : Nat
  variant : Nat
  page : Nat
  parent : Option Nat
  tokens : List Nat
  lastUse : Nat
  deriving DecidableEq, Repr

structure Serving where
  /-- Reference counts of pages in use: key context × 2^32 + page (R245). -/
  refs : Table Nat
  tree : List PrefixNode
  /-- Acceptance estimates: key context × 16 + GEN_STAGE record (R255). -/
  est : Table (BitVec 32)
  /-- Occupant of each variant region (R260). -/
  occupant : Table Nat
  /-- Entry whose head REQTAB_VIEW shows: the copied bytes (R266). -/
  view : List Byte
  deriving DecidableEq, Repr

/-! ### Memory tiers -/

/-- A lease this device holds (R275). -/
structure Lease where
  neighbour : Nat
  wire : Nat
  granules : Nat
  mbps : Nat
  /-- Recalled: the frame that opens after the notice, in which the granules left become lost (R276). -/
  notice : Option Nat
  /-- Ended at once: every granule becomes lost at the next boundary (R276). -/
  ended : Bool
  deriving DecidableEq, Repr

/-- A lease this device has granted (R275, R276). -/
structure Lent where
  neighbour : Nat
  wire : Nat
  /-- Runs of lend-region granules, first and count, in the lease's order. -/
  pieces : List (Nat × Nat)
  mbps : Nat
  deriving DecidableEq, Repr

/-- The move in progress (R273). -/
structure Move where
  ctx : Nat
  /-- Granule addresses still to move, ascending, and the target of TIER_MOVE_CMD. -/
  todo : List Nat
  target : Nat
  /-- Granules of the move that tasks wrote in the current frame. -/
  written : List Nat
  deriving DecidableEq, Repr

/-- A tile's state in a save slot (R138, R271 item 1). -/
structure TileSave where
  sram : Table Byte
  vregs : Table Byte
  /-- Scale register words, by offset in the SCALE block. -/
  scales : Table Word
  deriving DecidableEq, Repr

structure Tiers where
  /-- Save slots in use: key context × 640 + tile. -/
  saves : Table TileSave
  /-- Keep contents: device image space at key 2^68 + offset, context c's space at key c × 2^64 + address. A granule whose
  home is not a Keep reads 0 here (R272, R273). -/
  t1 : Table Byte
  /-- KIND 1 granules that are not in their Keep: key context × 2^64 + granule address. -/
  homes : Table Home
  leases : Table Lease
  lent : List Lent
  /-- Contents of the lend region, key lend-region byte. -/
  lendMem : Table Byte
  move : Option Move
  /-- Leased granules that the tier engine has asked for, by key, with their bytes once DATA has brought them (R273). -/
  fetch : Table (Option (List Byte))
  moveAddr : Nat
  /-- Wavor modules in service at COMMIT: each has a map region in the Keeps (R291). -/
  mapModules : Nat
  /-- Management LEASE REQUESTs waiting for their answers, oldest first: link, seq, neighbour, wire lease (R412). -/
  asked : List (Nat × Nat × Nat × Nat)
  /-- Uncorrectable 64-byte blocks: key Keep × 2^30 + block (R282). -/
  badBlocks : List Nat
  /-- Spare rows used per bank: key Keep × 512 + bank (R284). -/
  sparesUsed : Table Nat
  /-- Corrected errors that patrol passes found: Keep, bank × 2^32 + row, frame, pass (R284). -/
  corrected : List (Nat × Nat × Nat × Nat)
  deriving DecidableEq, Repr

/-! ### Flash -/

structure FlashBlock where
  role : BlockRole
  oneBit : Bool
  erases : Nat
  state : BlockState
  /-- Heat class of a buffer block: 0 HOT, 1 WARM, 2 COLD (R299). -/
  cls : Nat
  /-- Granules programmed, in page order: NSID × 2^44 + granule; a filler page is `none`. -/
  pages : List (Option Nat)
  /-- Granule writes of the module when the block closed: the oldest block has the least (R300). -/
  age : Nat
  deriving DecidableEq, Repr

/-- A fold in progress (R300): class, target block, source blocks, and the granules copied with the places they were
copied from. -/
structure Fold where
  cls : Nat
  target : Nat
  sources : List Nat
  granules : List (Nat × Nat)
  deriving DecidableEq, Repr

structure Plane where
  /-- Blocks that differ from the factory state of their place (`FlashBlock` of R290). -/
  blocks : Table FlashBlock
  /-- Factory-bad blocks. -/
  bad : List Nat
  fold : Option Fold
  /-- Spare count S lost to retirements since first use. -/
  retired : Nat
  exhausted : Bool
  /-- Collection is running between GC_LOW and GC_HIGH (R302). -/
  collecting : Bool
  deriving DecidableEq, Repr

/-- Record kinds of the journal (R304). -/
inductive JournalKind where
  | map | trim | foldBegin | foldCommit | erase | retire | nsCreate | nsDeleteBegin | nsCursor | nsDeleteEnd | readOnly
  deriving DecidableEq, Repr

/-- A journal record (R304): kind, NSID, and the numbers it names (granule, plane, block). -/
structure JournalRec where
  kind : JournalKind
  nsid : Nat
  a : Nat
  b : Nat
  c : Nat
  deriving DecidableEq, Repr

/-- A Wavor module: its service state, and what its journal and checkpoints keep (R304). -/
structure Module where
  present : Bool
  failed : Bool
  /-- The restore of R305 runs. -/
  restoring : Bool
  pstate : Nat
  psLimit : Nat
  waking : Bool
  /-- The frame from which a waking module counts in M again (R296). -/
  wakeFrame : Nat
  eol : Bool
  firstUse : Bool
  serial : Nat
  trMaxUs : Nat
  tsusMaxUs : Nat
  planes : Table Plane
  /-- The map: key NSID × 2^44 + granule, value plane × 2^32 + block × 2^16 + page. -/
  map : Table Nat
  /-- Heat counters: key NSID × 2^32 + region (R299). -/
  heat : Table Nat
  granuleWrites : Nat
  /-- How often all heat counters were halved (R299). -/
  halvings : Nat
  journal : List JournalRec
  /-- Which of the two checkpoint slots was written last, and how many were written. -/
  checkpoints : Nat
  hostGranules : Nat
  bufGranules : Nat
  qlcGranules : Nat
  relocGranules : Nat
  readFails : Nat
  deriving DecidableEq, Repr

structure Namespace where
  size : Nat
  owner : Nat
  readers : Nat
  /-- Serials of the module set in placement order (R292). -/
  serials : List Nat
  /-- Its journalled state; OFFLINE is computed from the module set (R308). -/
  state : NsState
  /-- Blocks a deletion still visits, by place in the set × 256 + plane (R309). -/
  visits : Table (List Nat)
  /-- Blocks visited since the last cursor, by place in the set × 256 + plane. -/
  sinceCursor : Table (List Nat)
  deriving DecidableEq, Repr

/-- What a page carries beside its granule's data: the write sequence number and the CRC-32C over the data, the NSID, the
granule and that number (R293). -/
structure Seal where
  seq : Nat
  crc : Nat
  deriving DecidableEq, Repr

/-- An outstanding storage command (R311 to R314). -/
structure Outstanding where
  cmd : StorCmd
  op : Nat
  started : Bool
  /-- WRITE: granules not yet written, with their bytes; `none` where a command that started later has covered the
  granule (R298). -/
  left : List (Nat × Option (List Byte))
  session : Nat
  /-- Place in submission order, and in start order once started. -/
  seq : Nat
  order : Nat
  /-- NS_DELETE, NS_CREATE: the NSID concerned. -/
  nsid : Nat
  deriving DecidableEq, Repr

structure Flash where
  /-- Modules by port. -/
  modules : Table Module
  /-- Modules that are not fitted now, by serial. -/
  shelf : Table Module
  nss : Table Namespace
  /-- Contents by namespace and byte: key NSID × 2^58 + offset (R125, R293). -/
  data : Table Byte
  /-- Seals of the pages written: key NSID × 2^44 + granule. -/
  seals : Table Seal
  cmds : List Outstanding
  nextOrder : Nat
  /-- Context to which each storage queue is bound, 0xFF for the management path (R310). -/
  queues : Table Nat
  deriving DecidableEq, Repr

/-! ### Port and transport -/

/-- A DATA packet sent and not acknowledged (R332). -/
structure TxPacket where
  data : List Byte
  retries : Nat
  fast : Bool
  protectedFlag : Bool
  deriving DecidableEq, Repr

/-- One queue of a session, both directions (R330, R331). -/
structure QueueSt where
  rxNext : Nat
  rxHeld : Table (List Byte)
  rxStream : List Byte
  rxLimit : Nat
  rxSinceAck : Nat
  ackSerial : Nat
  cmds : Nat
  txNext : Nat
  txAcked : Nat
  txLimit : Nat
  tx : Table TxPacket
  txStream : List Byte
  deriving DecidableEq, Repr

/-- SPDM progress on a session (R363, R366). -/
structure Spdm where
  version : Bool
  capabilities : Bool
  algorithms : Bool
  exchanged : Bool
  established : Bool
  deriving DecidableEq, Repr

/-- A session; its key is the SESSION number for a session that an endpoint opened, and SESSION + 2^32 × (1 + endpoint)
for one that this device opened, whose number the neighbour chose. -/
structure Session where
  endpoint : Nat
  /-- Opened by this device to a neighbour. -/
  mine : Bool
  firstMsgq : Nat
  msgq : Nat
  storqs : List Nat
  queues : Table QueueSt
  /-- FINISH verified: only protected packets are accepted (R368 step 1). -/
  rxProtected : Bool
  /-- Keys installed: every packet is protected (R368 step 3). -/
  keys : Bool
  /-- SEQ (on the control queue) of the packet that ends FINISH_RSP, while it is not acknowledged. -/
  finishRsp : Option Nat
  spdm : Spdm
  /-- A CE mark was received and ECE is due in ACKs (R334). -/
  ece : Bool
  /-- R was halved in the current 64 µs (R334). -/
  halved : Bool
  rateMbps : Nat
  deriving DecidableEq, Repr

/-- A message the device has delivered from a queue's stream (R330): session, queue, type, tag, stamp. -/
structure Delivered where
  session : Nat
  queue : Nat
  type : Nat
  tag : Nat
  stamp : Nat
  deriving DecidableEq, Repr

structure Port where
  up : Bool
  /-- Bring-up runs: MAC_CTRL.ENABLE is set and the link is not up (R349). -/
  training : Bool
  sessions : Table Session
  /-- Endpoints to which an OPEN was sent and not answered. -/
  opening : List Nat
  delivered : List Delivered
  deriving DecidableEq, Repr

/-! ### Security, Belfry, Lantern -/

structure Ctx where
  state : CtxState
  owner : Option Nat
  endpoint : Nat
  confidential : Bool
  /-- 1 s has passed since the owning session ended (R357). -/
  aged : Bool
  /-- Close ordered: enters SLATE at the next boundary (R356); session and tag of the replies due then. -/
  closing : Bool
  replies : List (Nat × Nat)
  /-- Keep granules still to overwrite (CTX_STATE_c.LEFT). -/
  left : Nat
  deriving DecidableEq, Repr

/-- A log entry of R401. -/
structure LogEntry where
  seq : Nat
  frame : Nat
  cls : Nat
  mech : Nat
  action : Nat
  ctx : Nat
  unit : Nat
  entry : Nat
  detail : Nat
  deriving DecidableEq, Repr

/-- The incident in progress (R402): first frame, last frame with a drop, kept and dropped per class. -/
structure Incident where
  first : Nat
  last : Nat
  kept : Table Nat
  dropped : Table Nat
  /-- Class and SEQ of the entries kept past the first 64 of their class, oldest first. -/
  window : List (Nat × Nat)
  deriving DecidableEq, Repr

structure Belfry where
  seq : Nat
  /-- Dangerous records not acknowledged. -/
  unacked : List Nat
  /-- 1 ms minimums of FLT_N still running (R389). -/
  minimums : Nat
  /-- The release gate of R40 is closed: a brownout, a thermal trip or Vermilion (R394, R429, R458). -/
  gateClosed : Bool
  /-- Dangerous detections: mechanism, unit or address key, frame (R391). -/
  recent : List (Nat × Nat × Nat)
  /-- Log entries posted in the current frame (R402). -/
  posted : Nat
  incident : Option Incident
  /-- FAULT_REPORT events sent per session in the current frame (R403). -/
  reports : Table Nat
  /-- Link retries of the current frame per unit code (R384). -/
  retries : Table Nat
  /-- Self-test items tested in the current pass. -/
  tested : List TestItem
  /-- Tiles that left service in the current frame, whose roles hand over at the boundary (R54). -/
  leaving : List Nat
  /-- Tiles whose comparators failed a self-test: they leave service at the next boundary (R398). -/
  failing : List Nat
  /-- Tiles that a finished Slate scrub covered, which take their recovery tests by the next boundary (R393). -/
  returning : List Nat
  last : Option LogEntry
  deriving DecidableEq, Repr

/-- A management link (R409, R410). -/
structure Link where
  authed : Bool
  /-- Slot and, for slot 0xFF, the public key that authenticated it. -/
  slot : Nat
  key : List Byte
  challenge : List Byte
  ephemeral : List Byte
  seq : Nat
  /-- Cached reply of the last request executed: operation code, status, body. -/
  cache : Nat × Nat × List Byte
  deriving DecidableEq, Repr

/-- A sensor sample (R414): value, frame. -/
structure Sample where
  value : Int
  frame : Nat
  deriving DecidableEq, Repr

structure Lantern where
  running : Bool
  /-- The recovery loader serves the lane (R422). -/
  recovery : Bool
  laneUp : Bool
  links : Table Link
  volatileLog : List LogEntry
  /-- Link that holds the update lock (R416). -/
  lock : Option Nat
  sensors : Table Sample
  /-- Samples of sensor 51 over the last 1 s, newest first (sensor 53). -/
  powerSamples : List Int
  deriving DecidableEq, Repr

/-- What the boot ROM's mask fixes (R371): the hash of the Helnos root public key. -/
structure Rom where
  rootKeyHash : List Byte
  deriving DecidableEq, Repr

structure Operator where
  key : List Byte
  roles : Nat
  deriving DecidableEq, Repr

structure FwSlot where
  bytes : Table Byte
  length : Nat
  status : SlotStatus
  deriving DecidableEq, Repr

/-- A record of the persistent store (R415). -/
structure PersistRec where
  num : Nat
  boot : Nat
  entry : LogEntry
  deriving DecidableEq, Repr

structure SummaryRec where
  num : Nat
  boot : Nat
  incident : Incident
  deriving DecidableEq, Repr

/-- What the secure flash holds (R371, R415, R436, R438): it survives every reset. -/
structure SecureFlash where
  /-- PUF helper data and the DeviceID certificate, written at manufacture; the ROM uses them at every start (R364). -/
  helperData : List Byte
  deviceCert : List Byte
  /-- MGMT_MAC, written at manufacture (R407). -/
  mgmtMac : Nat
  operators : Table Operator
  /-- Grant table: endpoint mask and REQUIRE_CONF per context (R355). -/
  grants : Table (Word × Bool)
  requireSigned : Bool
  /-- Anti-rollback counter (R374). -/
  counter : Nat
  /-- Boot flags: active slot (true: B), TRIAL, TRIAL_BOOTED. -/
  activeB : Bool
  trial : Bool
  trialBooted : Bool
  slotA : FwSlot
  slotB : FwSlot
  /-- Repaired rows: Keep, bank, row (R284). -/
  repairs : List (Nat × Nat × Nat)
  persist : List PersistRec
  persistNext : Nat
  summaries : List SummaryRec
  summaryNext : Nat
  /-- Wear history: day, indicator, sample (R399). -/
  wear : List (Nat × Nat × Int)
  /-- Saved Management configuration: register address, value (R436). -/
  saved : Table Word
  boots : Nat
  ipv4 : Nat
  ipv6 : Nat
  deriving DecidableEq, Repr

/-- Boot outcome (R373, R374, R379) and the firmware that runs. -/
structure Boot where
  slotB : Bool
  fellBack : Bool
  trial : Bool
  identityOk : Bool
  lanternVersion : Nat
  domeVersion : Nat
  svn : Nat
  /-- The device has been in Ivory or Amber since this boot (R420). -/
  served : Bool
  deriving DecidableEq, Repr

structure Security where
  ctxs : Table Ctx
  /-- Image history H (R365). -/
  history : List Byte
  boot : Boot
  /-- A whole-device scrub runs (R361): progress in thousandths, and the SCRUB request to answer. -/
  scrub : Option Nat
  scrubReply : Option (Nat × Nat)
  deriving DecidableEq, Repr

/-! ### Power -/

/-- A wake-up step waiting in the sequencer's queue (R432): the clock domain, and the flash port of a step of domain 78. -/
structure WakeStep where
  domain : Nat
  port : Nat
  deriving DecidableEq, Repr

structure Power where
  rails : Bool
  phase : Nat
  cause : Nat
  voutMv : Nat
  slew : Nat
  pmbusAddr : Nat
  regulatorOk : Bool
  modulesOk : Nat
  /-- Evaluations of R430 since the level last changed, each 100 ms, and since P and T were last high. -/
  sinceChange : Nat
  calm : Nat
  /-- Wake steps waiting, oldest first, and A released in the current frame (R433). -/
  wakes : List WakeStep
  released : Nat
  /-- Tiles pre-empted under R431, latest first. -/
  preempted : List Nat
  /-- A reset of this kind follows after the 100 ms wait (R429, R458). -/
  wait : Option Nat
  /-- Start-up waits for VR_PG (R435 step 4). -/
  awaitPg : Bool
  /-- Modules found by the identity bus: port, serial, TR_MAX_US, TSUS_MAX_US. -/
  found : List (Nat × Nat × Nat × Nat)
  statusWord : Nat
  deriving DecidableEq, Repr

/-! ### Outputs -/

/-- What the device hands out, in order. -/
inductive Out where
  /-- A Tytos message entering a session's transmit stream: session, queue, type, tag, body, frame (R340). -/
  | msg (session queue type tag : Nat) (body : List Byte) (frame : Nat)
  /-- A Tytos packet to an endpoint: the Ethernet, IP and UDP headers, the Tytos header, and the packet data before any
  encryption (R324, R328, R329). -/
  | packet (endpoint : Nat) (head header data : List Byte)
  | arpReply (mac ip : Nat)
  | neighborAdvert (mac : Nat) (target : Nat)
  | delayReq (seq : Nat)
  /-- A management reply: link, operation, status, SEQ, body (R408). -/
  | mgmt (link op status seq : Nat) (body : List Byte)
  /-- An outcome of a register access that has no reply message of its own row: status of R69 and value. -/
  | access (status : Nat) (value : Word)
  deriving DecidableEq, Repr

/-! ### The whole state -/

/-- The machine's state: the device's registers, memories, queues, tables and pins, and the commands waiting. -/
structure State where
  dev : DevState
  /-- BEACON REASON (R347). -/
  reason : Nat
  pins : Pins
  regs : Table Word
  frame : FrameTimer
  img : Loader
  adm : Admission
  /-- The request table: occupied entries. -/
  reqs : Table Request
  hold : List Fragment
  /-- Tiles that differ from a tile out of service with no role (`Tile` default). -/
  tiles : Table Tile
  spires : Table Spire
  /-- Tokens addressed to stages the Dome serves (scan, text, Elastic staging). -/
  dome : List Token
  /-- Lowered-code store words: key tile × 2^20 + page × 2^11 + offset (R141). -/
  lowered : Table Word
  search : Search
  feat : Features
  text : TextEngine
  serv : Serving
  tier : Tiers
  flash : Flash
  port : Port
  sec : Security
  belfry : Belfry
  lantern : Lantern
  nv : SecureFlash
  rom : Rom
  power : Power
  out : List Out
  /-- The model's own: how many free values have been drawn. -/
  fresh : Nat
  /-- The commands waiting, first in, first out. -/
  pending : List Instr
  deriving DecidableEq, Repr

/-- Why a step stops with a fault: no rule of this block stops the machine, so the type has one reason, raised by
nothing. -/
inductive Fault where
  /-- Raised by no meaning; the spec gives the block no state in which it stops. Safe. -/
  | stuck
  deriving DecidableEq, Repr

/-- Why a command is refused. -/
inductive Refusal where
  /-- An arm of `exec` without a meaning; raised by no arm of this model. Safe. -/
  | notModelled (mnemonic : String)
  /-- An operand names a unit, record or length that the device does not have, or parameters that COMMIT refuses (R115), so no
  such command exists. Raised by the meanings whose row names one, on such an operand only. Safe. -/
  | malformed (what : String)
  deriving DecidableEq, Repr

/-! ### Reset -/

/-- A tile right after reset: OFF, idle and empty (R53, R141). It is in service only once the start-up tests of step 7
have run (R435), which TILE_STATE and BELFRY_OUT take from the start-up phase. -/
def Tile.reset : Tile :=
  { role := .off, serves := none, inService := true, run := .idle, occupant := none, task := none, sram := [],
    vregs := [], inbox := [], spent := [], returns := [], passes := [], streams := [],
    switch := none, badPes := [], netBad := false, heldCtx := [], history := [], program := 0 }

def Spire.reset : Spire := { queue := [], free := 0, lines := [], replicas := [] }

def FrameTimer.reset : FrameTimer :=
  { count := 0, lock := .free, good := 0, acquired := false, present := false, nextFrame := none, offsetNs := 0, steer := 0,
    ppsSecond := none,
    ptp := { masters := [], parent := none, offsetNs := 0, delayNs := 0, pendingSync := none, lastSync := none,
             pendingReq := none } }

def Loader.reset : Loader :=
  { staged := [], stagedLen := 0, phase := .empty, code := 0, detail := 0, image := none, awaiting := false,
    loaded := [] }

def Admission.reset : Admission :=
  { subs := [], replans := [], switches := [], swaps := [], level := 0, auditCopy := [] }

def Features.reset : Features :=
  { area := [], seq := 0, lastSeq := [], taken := [], tracker := [], reads := [], chosen := [],
    chosenFor := none, firstWindow := 0, unacked := [] }

def Serving.reset : Serving :=
  { refs := [], tree := [], est := [], occupant := [], view := [] }

def Tiers.reset : Tiers :=
  { saves := [], t1 := [], homes := [], leases := [], lent := [], lendMem := [], move := none, fetch := [],
    moveAddr := 0, mapModules := 0, asked := [],
    badBlocks := [], sparesUsed := [], corrected := [] }

def Belfry.reset : Belfry :=
  { seq := 0, unacked := [], minimums := 0, gateClosed := false, recent := [], posted := 0, incident := none, reports := [],
    retries := [], tested := [], leaving := [], failing := [], returning := [], last := none }

def Lantern.reset : Lantern :=
  { running := false, recovery := false, laneUp := false, links := [], volatileLog := [], lock := none,
    sensors := [], powerSamples := [] }

def Boot.reset : Boot :=
  { slotB := false, fellBack := false, trial := false, identityOk := false, lanternVersion := 0, domeVersion := 0,
    svn := 0, served := false }

def Security.reset : Security :=
  { ctxs := [], history := List.replicate 32 0, boot := Boot.reset, scrub := none, scrubReply := none }

def FwSlot.reset : FwSlot := { bytes := [], length := 0, status := .empty }

/-- The public key whose hash the boot ROM of this model fixes, X then Y (DESIGN CHOICE, log entry 9). -/
def factoryKey : List Byte :=
  toBE 32 0x36cc3deac713a94a0aabea2451feb4290aa27cab24898a9da1919f1d9cd9eb24 ++
  toBE 32 0x9a37e0420971bb708193d282b70b16ebc7b9df2b15d33e77253fb479e407e93e

/-- The least bundle that passes R373: version 1.0, SVN 0, empty payloads (DESIGN CHOICE, log entry 9). -/
def factoryBundle : List Byte :=
  toLE 4 0x5746535A ++ toLE 2 1 ++ toLE 2 256 ++ toLE 4 256 ++ toLE 4 0 ++ toLE 4 0x00010000 ++ toLE 4 0x00010000 ++
  toLE 4 256 ++ toLE 4 0 ++ toLE 4 256 ++ toLE 4 0 ++ zeros 24 ++
  toBE 32 0xe3b0c44298fc1c149afbf4c8996fb92427ae41e4649b934ca495991b7852b855 ++
  toBE 32 0xe3b0c44298fc1c149afbf4c8996fb92427ae41e4649b934ca495991b7852b855 ++
  factoryKey ++
  toBE 32 0xd50ca0f3437900523143b91bd5e8c2d8e22d730e9a9c7c5bb8f7c2a2211adad4 ++
  toBE 32 0xc3580414347753552bace149f163a67521ee8bd4f325c20596dee3c2bb176a4e

/-- The boot ROM's mask (DESIGN CHOICE, log entry 9). -/
def Rom.reset : Rom :=
  { rootKeyHash := toBE 32 0x4ab311b0e58575992a7fcf7baafa16429d7ae1cb1706cd8ccc73bbd2729f8735 }

/-- Firmware slot A as it leaves the factory (DESIGN CHOICE, log entry 9). -/
def FwSlot.factory : FwSlot := { bytes := memWrite [] 0 factoryBundle, length := 256, status := .verified }

/-- The secure flash as it leaves the factory (R355, R376, R415). -/
def SecureFlash.reset : SecureFlash :=
  { helperData := [], deviceCert := [], mgmtMac := 0, operators := [], grants := [], requireSigned := false, counter := 0, activeB := false, trial := false,
    trialBooted := false, slotA := FwSlot.factory, slotB := FwSlot.reset, repairs := [], persist := [],
    persistNext := 0, summaries := [], summaryNext := 0, wear := [], saved := [], boots := 0, ipv4 := 0, ipv6 := 0 }

def Power.reset : Power :=
  { rails := true, phase := 1, cause := 0, voutMv := 800, slew := 0, pmbusAddr := 0, regulatorOk := false,
    modulesOk := 0, sinceChange := 0, calm := 0, wakes := [], released := 0, preempted := [], wait := none,
    awaitPg := false, found := [], statusWord := 0 }

/-- The machine right after a POWER_ON reset: board rails applied, RST_N released, Sable, start-up at step 1 (R7,
R389, R435, R437, R438). Values the spec gives no reset for are named in the assumption log. -/
def State.reset : State :=
  { dev := .sable, reason := 0,
    pins := { rstLow := false, rdy := false, fltLow := false, vrEn := false, vrPg := false },
    regs := [], frame := FrameTimer.reset, img := Loader.reset, adm := Admission.reset, reqs := [], hold := [],
    tiles := [], spires := [], dome := [], lowered := [],
    search := { indexes := [], cands := [], walks := [] }, feat := Features.reset,
    text := { queue := [], jobs := [], outputs := [] }, serv := Serving.reset, tier := Tiers.reset,
    flash := { modules := [], shelf := [], nss := [], data := [], seals := [], cmds := [], nextOrder := 0, queues := [] },
    port := { up := false, training := false, sessions := [], opening := [], delivered := [] },
    sec := Security.reset, belfry := Belfry.reset, lantern := Lantern.reset, nv := SecureFlash.reset, rom := Rom.reset,
    power := Power.reset, out := [], fresh := 0, pending := [] }

end Sys2Proof.Machine
end

