-- ==== Sys2Proof/Machine/Registers.lean ====
section
/-! DEFINITION. The register file: the blocks of the base map (R68), the registers each block implements with their
access, reserved bits and reset values, and the raw operations that read and write fields, set event flags and count
events. Every register is one 64-bit word at an address that is a multiple of 8 (R69). -/

namespace Sys2Proof.Machine

/-- The blocks of the base map (R68), with the Spire, tile or Keep of a replicated block. -/
inductive Blk where
  | size | img | frame | admission | reqtab | ptree | text | flash | mac | tytos | crypto | ctx | tier | dsram
  | belfry | pwrseq | idbus
  | spire (s : Nat) | wcache (s : Nat)
  | tile (t : Nat) | array (t : Nat) | stream (t : Nat) | tdma (t : Nat) | selnet (t : Nat) | scale (t : Nat)
  | keep (k : Nat) | lucarne (k : Nat)
  deriving DecidableEq, Repr

/-- Configuration owner of a block (R68). -/
inductive Owner where
  | image | management | none
  deriving DecidableEq, Repr

/-- A register or an array of registers of a block: first offset, count and stride; masks of the RW and RC bits (the
others are RO or reserved); reset value; whether the register is WO; whether it is a configuration register (R70). -/
structure RegDesc where
  off : Nat
  n : Nat
  stride : Nat
  rw : Word
  rc : Word
  reset : Word
  wo : Bool
  cfg : Bool
  deriving DecidableEq, Repr

/-- Registers of block SIZE. -/
def sizeRegs : List RegDesc := [
  ⟨0x0, 51, 8, 0x0, 0x0, 0x0, false, false⟩  -- SIZE_ENTRY
]

/-- Registers of block FRAME. FRAME_EPOCH and FRAME_PPS_SECONDS reset to 0 (log entry 93). -/
def frameRegs : List RegDesc := [
  ⟨0x0, 1, 8, 0x7, 0x0, 0x0, false, false⟩,  -- FRAME_CTRL
  ⟨0x8, 1, 8, 0xfff, 0x0, 0x89544000000fa, false, true⟩,  -- FRAME_PERIOD
  ⟨0x10, 1, 8, 0xffffffffffffffff, 0x0, 0x0, false, true⟩,  -- FRAME_EPOCH
  ⟨0x18, 1, 8, 0xffffffffffffffff, 0x0, 0x0, false, true⟩,  -- FRAME_PPS_SECONDS
  ⟨0x20, 1, 8, 0x0, 0x0, 0x0, false, false⟩,  -- FRAME_COUNT
  ⟨0x28, 1, 8, 0x0, 0x0, 0x0, false, false⟩,  -- FRAME_OFFSET
  ⟨0x30, 1, 8, 0x0, 0x7f, 0x0, false, false⟩,  -- FRAME_STATUS
  ⟨0x38, 1, 8, 0x0, 0x0, 0x0, false, false⟩  -- FRAME_LOCK
]

/-- Registers of block ADMIT. -/
def admissionRegs : List RegDesc := [
  ⟨0x0, 1, 8, 0x0, 0x0, 0x0, false, false⟩,  -- ADMIT_THROTTLE
  ⟨0x8, 1, 8, 0x0, 0x0, 0x0, false, false⟩,  -- ADMIT_HORIZON
  ⟨0x10, 1, 8, 0x0, 0xffffffffffffffff, 0x0, false, false⟩,  -- ADMIT_ACCEPTED
  ⟨0x18, 1, 8, 0x0, 0xffffffffffffffff, 0x0, false, false⟩,  -- ADMIT_REFUSED
  ⟨0x20, 1, 8, 0x0, 0xffffffffffffffff, 0x0, false, false⟩,  -- ADMIT_CARRIED
  ⟨0x28, 1, 8, 0x0, 0xffffffffffffffff, 0x0, false, false⟩,  -- ADMIT_REVISED
  ⟨0x30, 1, 8, 0x0, 0xffffffffffffffff, 0x0, false, false⟩,  -- ADMIT_BREACHED
  ⟨0x38, 1, 8, 0x0, 0xffffffffffffffff, 0x0, false, false⟩  -- ADMIT_ABANDONED
]

/-- Registers of block IMG. -/
def imgRegs : List RegDesc := [
  ⟨0x0, 1, 8, 0x0, 0x0, 0x0, true, false⟩,  -- IMG_CMD
  ⟨0x8, 1, 8, 0x0, 0x0, 0x0, false, false⟩,  -- IMG_STATE
  ⟨0x10, 1, 8, 0x0, 0x0, 0x0, false, false⟩,  -- IMG_STAGED
  ⟨0x18, 1, 8, 0x0, 0x0, 0x0, false, false⟩,  -- IMG_RESULT
  ⟨0x20, 1, 8, 0x0, 0x1f, 0x0, false, false⟩,  -- IMG_STATUS
  ⟨0x28, 1, 8, 0x0, 0x0, 0x0, false, false⟩,  -- IMG_ID
  ⟨0x30, 1, 8, 0x0, 0x0, 0x0, false, false⟩,  -- IMG_SIGNER
  ⟨0x40, 4, 8, 0x0, 0x0, 0x0, false, false⟩  -- IMG_DIGEST
]

/-- Registers of block SCALE. -/
def scaleRegs : List RegDesc := [
  ⟨0x0, 1, 8, 0x1, 0x0, 0x0, false, false⟩,  -- SCALE_CTRL
  ⟨0x8, 1, 8, 0x0, 0x1, 0x0, false, false⟩,  -- SCALE_STATUS
  ⟨0x4000, 2048, 8, 0xffffffffffffffff, 0x0, 0x0, false, true⟩  -- SCALE_PAIR
]

/-- Registers of block ARRAY. -/
def arrayRegs : List RegDesc := [
  ⟨0x0, 1, 8, 0x1, 0x0, 0x0, false, false⟩,  -- ARRAY_CTRL
  ⟨0x8, 1, 8, 0x0, 0x7f, 0x0, false, false⟩,  -- ARRAY_STATUS
  ⟨0x10, 1, 8, 0x0, 0x0, 0xffffffff, false, false⟩,  -- ARRAY_REPAIR
  ⟨0x18, 1, 8, 0x0, 0x0, 0x110, false, false⟩,  -- ARRAY_LATENCY
  ⟨0x20, 1, 8, 0x0, 0xffffffffffffffff, 0x0, false, false⟩,  -- ARRAY_CHK_COUNT
  ⟨0x28, 1, 8, 0x0, 0x0, 0x0, false, false⟩,  -- ARRAY_CHK_LOC
  ⟨0x30, 1, 8, 0x0, 0xffffffffffffffff, 0x0, false, false⟩,  -- ARRAY_SAT_COUNT
  ⟨0x38, 1, 8, 0x0, 0xffffffffffffffff, 0x0, false, false⟩  -- ARRAY_SPECIAL_COUNT
]

/-- Registers of block SPIRE. -/
def spireRegs : List RegDesc := [
  ⟨0x0, 1, 8, 0x1, 0x0, 0x0, false, false⟩,  -- SPIRE_CTRL
  ⟨0x8, 1, 8, 0x0, 0x3, 0x0, false, false⟩,  -- SPIRE_STATUS
  ⟨0x10, 1, 8, 0x0, 0x0, 0x0, false, false⟩,  -- SPIRE_QUEUE
  ⟨0x18, 1, 8, 0x0, 0xffffffffffffffff, 0x0, false, false⟩,  -- SPIRE_DISPATCHED
  ⟨0x20, 1, 8, 0x0, 0xffffffffffffffff, 0x0, false, false⟩,  -- SPIRE_SPILLED
  ⟨0x28, 1, 8, 0x0, 0xffffffffffffffff, 0x0, false, false⟩,  -- SPIRE_SWITCHES
  ⟨0x30, 1, 8, 0x0, 0xffffffffffffffff, 0x0, false, false⟩  -- SPIRE_PREEMPTS
]

/-- Registers of block WCACHE. -/
def wcacheRegs : List RegDesc := [
  ⟨0x0, 1, 8, 0x1, 0x0, 0x0, false, false⟩,  -- WCACHE_CTRL
  ⟨0x8, 1, 8, 0x0, 0x3, 0x0, false, false⟩,  -- WCACHE_STATUS
  ⟨0x10, 1, 8, 0x0, 0x0, 0x0, false, false⟩,  -- WCACHE_PINNED
  ⟨0x18, 1, 8, 0x0, 0xffffffffffffffff, 0x0, false, false⟩,  -- WCACHE_HITS
  ⟨0x20, 1, 8, 0x0, 0xffffffffffffffff, 0x0, false, false⟩,  -- WCACHE_MISSES
  ⟨0x28, 1, 8, 0x0, 0xffffffffffffffff, 0x0, false, false⟩,  -- WCACHE_COALESCED
  ⟨0x100, 16, 16, 0xffffffffffffffff, 0x0, 0x0, false, true⟩,  -- WCACHE_PIN_BASE
  ⟨0x108, 16, 16, 0xffffffff, 0x0, 0x0, false, true⟩  -- WCACHE_PIN_LEN
]

/-- Registers of block TILE. -/
def tileRegs : List RegDesc := [
  ⟨0x0, 1, 8, 0x7, 0x0, 0x0, false, false⟩,  -- TILE_CTRL
  ⟨0x8, 1, 8, 0x0, 0x1f, 0x0, false, false⟩,  -- TILE_STATUS
  ⟨0x10, 1, 8, 0x0, 0x0, 0x0, false, false⟩,  -- TILE_STATE
  ⟨0x18, 1, 8, 0x0, 0x0, 0x0, false, false⟩,  -- TILE_ABORT
  ⟨0x20, 1, 8, 0x0, 0xffffffffffffffff, 0x0, false, false⟩,  -- TILE_TASKS
  ⟨0x28, 1, 8, 0x0, 0xffffffffffffffff, 0x0, false, false⟩,  -- TILE_ABORTS
  ⟨0x30, 1, 8, 0x0, 0xffffffffffffffff, 0x0, false, false⟩,  -- TILE_STALLS
  ⟨0x38, 1, 8, 0x1ff, 0x0, 0x0, false, false⟩,  -- TILE_LOWERED_PAGE
  ⟨0x800, 256, 8, 0xffffffffffffffff, 0x0, 0x0, false, true⟩  -- TILE_LOWERED
]

/-- Registers of block STREAM. -/
def streamRegs : List RegDesc := [
  ⟨0x0, 1, 8, 0x1, 0x0, 0x0, false, false⟩,  -- STREAM_CTRL
  ⟨0x8, 1, 8, 0x0, 0x3, 0x0, false, false⟩,  -- STREAM_STATUS
  ⟨0x10, 1, 8, 0x0, 0xffffffffffffffff, 0x0, false, false⟩,  -- STREAM_BYTES
  ⟨0x18, 1, 8, 0x0, 0xffffffffffffffff, 0x0, false, false⟩,  -- STREAM_TRANSFERS
  ⟨0x20, 1, 8, 0x0, 0x0, 0x0, false, false⟩  -- STREAM_FAULT_ADDR
]

/-- Registers of block TDMA. -/
def tdmaRegs : List RegDesc := [
  ⟨0x0, 1, 8, 0x1, 0x0, 0x0, false, false⟩,  -- TDMA_CTRL
  ⟨0x8, 1, 8, 0x0, 0x3, 0x0, false, false⟩,  -- TDMA_STATUS
  ⟨0x10, 1, 8, 0x0, 0xffffffffffffffff, 0x0, false, false⟩,  -- TDMA_BYTES
  ⟨0x18, 1, 8, 0x0, 0xffffffffffffffff, 0x0, false, false⟩,  -- TDMA_TRANSFERS
  ⟨0x20, 1, 8, 0x0, 0x0, 0x0, false, false⟩  -- TDMA_FAULT_ADDR
]

/-- Registers of block SELNET. -/
def selnetRegs : List RegDesc := [
  ⟨0x0, 1, 8, 0x1, 0x0, 0x0, false, false⟩,  -- SELNET_CTRL
  ⟨0x8, 1, 8, 0x0, 0x7, 0x0, false, false⟩,  -- SELNET_STATUS
  ⟨0x10, 1, 8, 0x0, 0xffffffffffffffff, 0x0, false, false⟩,  -- SELNET_RUNS
  ⟨0x18, 1, 8, 0x0, 0xffffffffffffffff, 0x0, false, false⟩  -- SELNET_CHECKS
]

/-- Registers of block LUCARNE. -/
def lucarneRegs : List RegDesc := [
  ⟨0x0, 1, 8, 0x1, 0x0, 0x0, false, false⟩,  -- LUCARNE_CTRL
  ⟨0x8, 1, 8, 0x0, 0xf, 0x0, false, false⟩,  -- LUCARNE_STATUS
  ⟨0x10, 1, 8, 0xffff07ff1fff, 0x0, 0x0, false, true⟩,  -- LUCARNE_CONFIG
  ⟨0x18, 1, 8, 0x0, 0x0, 0x0, false, false⟩,  -- LUCARNE_STATE
  ⟨0x20, 1, 8, 0x0, 0x0, 0x0, false, false⟩,  -- LUCARNE_VERSION
  ⟨0x28, 1, 8, 0x0, 0xffffffffffffffff, 0x0, false, false⟩,  -- LUCARNE_BYTES
  ⟨0x30, 1, 8, 0x0, 0xffffffffffffffff, 0x0, false, false⟩,  -- LUCARNE_COMPARES
  ⟨0x38, 1, 8, 0x0, 0xffffffffffffffff, 0x0, false, false⟩  -- LUCARNE_LATE
]

/-- Registers of block TEXT. -/
def textRegs : List RegDesc := [
  ⟨0x0, 1, 8, 0x1, 0x0, 0x0, false, false⟩,  -- TEXT_CTRL
  ⟨0x8, 1, 8, 0x0, 0xf, 0x0, false, false⟩,  -- TEXT_STATUS
  ⟨0x10, 1, 8, 0x0, 0x0, 0x0, false, false⟩,  -- TEXT_BUDGET
  ⟨0x100, 16, 8, 0x1ffff, 0x0, 0x0, false, true⟩,  -- TEXT_VOCAB
  ⟨0x200, 16, 8, 0xffffffff01ffffff, 0x0, 0x0, false, true⟩,  -- TEXT_STAGE
  ⟨0x300, 1, 8, 0x0, 0xffffffffffffffff, 0x0, false, false⟩,  -- TEXT_JOBS
  ⟨0x308, 1, 8, 0x0, 0xffffffffffffffff, 0x0, false, false⟩,  -- TEXT_BYTES_IN
  ⟨0x310, 1, 8, 0x0, 0xffffffffffffffff, 0x0, false, false⟩,  -- TEXT_TOKENS_OUT
  ⟨0x318, 1, 8, 0x0, 0xffffffffffffffff, 0x0, false, false⟩,  -- TEXT_FALLBACK
  ⟨0x320, 1, 8, 0x0, 0xffffffffffffffff, 0x0, false, false⟩,  -- TEXT_STOPS
  ⟨0x328, 1, 8, 0x0, 0xffffffffffffffff, 0x0, false, false⟩  -- TEXT_FAULTS
]

/-- Registers of block REQTAB. -/
def reqtabRegs : List RegDesc := [
  ⟨0x0, 1, 8, 0x1, 0x0, 0x0, false, false⟩,  -- REQTAB_CTRL
  ⟨0x8, 1, 8, 0x0, 0xf, 0x0, false, false⟩,  -- REQTAB_STATUS
  ⟨0x10, 1, 8, 0x0, 0x0, 0x0, false, false⟩,  -- REQTAB_USED
  ⟨0x18, 1, 8, 0x0, 0x0, 0x0, true, false⟩,  -- REQTAB_INSPECT
  ⟨0x20, 1, 8, 0x0, 0xffffffffffffffff, 0x0, false, false⟩,  -- REQTAB_STEPS
  ⟨0x28, 1, 8, 0x0, 0xffffffffffffffff, 0x0, false, false⟩,  -- REQTAB_DRAFTED
  ⟨0x30, 1, 8, 0x0, 0xffffffffffffffff, 0x0, false, false⟩,  -- REQTAB_ACCEPTED
  ⟨0x38, 1, 8, 0x0, 0xffffffffffffffff, 0x0, false, false⟩,  -- REQTAB_ROLLED_PAGES
  ⟨0x40, 1, 8, 0x0, 0xffffffffffffffff, 0x0, false, false⟩,  -- REQTAB_SWAPS
  ⟨0x100, 16, 8, 0x0, 0x0, 0x0, false, false⟩,  -- REQTAB_VIEW
  ⟨0x200, 16, 16, 0x1ffff01ffffff, 0x0, 0x0, false, true⟩,  -- GEN_STAGE_W0
  ⟨0x208, 16, 16, 0x1ffffff, 0x0, 0x0, false, true⟩,  -- GEN_STAGE_W1
  ⟨0x400, 32, 16, 0x1fffffffff, 0x0, 0x0, false, true⟩,  -- GEN_VARIANT_W0
  ⟨0x408, 32, 16, 0x3ffffffffffff, 0x0, 0x0, false, true⟩,  -- GEN_VARIANT_W1
  ⟨0x600, 8, 16, 0xffffffffffffffff, 0x0, 0x0, false, true⟩,  -- GEN_REGION_W0
  ⟨0x608, 8, 16, 0x1ffffffffffff, 0x0, 0x0, false, true⟩,  -- GEN_REGION_W1
  ⟨0x700, 16, 16, 0xffffffffffffffff, 0x0, 0x0, false, true⟩,  -- GEN_POOL_W0
  ⟨0x708, 16, 16, 0xffffffffffff, 0x0, 0x0, false, true⟩  -- GEN_POOL_W1
]

/-- Registers of block PREFIX. -/
def prefixRegs : List RegDesc := [
  ⟨0x0, 1, 8, 0x1, 0x0, 0x0, false, false⟩,  -- PREFIX_CTRL
  ⟨0x8, 1, 8, 0x0, 0x3, 0x0, false, false⟩,  -- PREFIX_STATUS
  ⟨0x10, 1, 8, 0x0, 0x0, 0x0, false, false⟩,  -- PREFIX_BUDGET
  ⟨0x18, 1, 8, 0x0, 0xffffffffffffffff, 0x0, false, false⟩,  -- PREFIX_LOOKUPS
  ⟨0x20, 1, 8, 0x0, 0xffffffffffffffff, 0x0, false, false⟩,  -- PREFIX_HIT_BLOCKS
  ⟨0x28, 1, 8, 0x0, 0xffffffffffffffff, 0x0, false, false⟩,  -- PREFIX_INSERTS
  ⟨0x30, 1, 8, 0x0, 0xffffffffffffffff, 0x0, false, false⟩,  -- PREFIX_EVICTS
  ⟨0x38, 1, 8, 0x0, 0x0, 0x0, false, false⟩  -- PREFIX_NODES
]

/-- Registers of block TIER. -/
def tierRegs : List RegDesc := [
  ⟨0x0, 1, 8, 0x1, 0x0, 0x0, false, false⟩,  -- TIER_CTRL
  ⟨0x8, 1, 8, 0x0, 0x1f, 0x0, false, false⟩,  -- TIER_STATUS
  ⟨0x10, 1, 8, 0xfff, 0x0, 0x0, false, true⟩,  -- TIER_T0
  ⟨0x18, 1, 8, 0x7f, 0x0, 0x0, false, true⟩,  -- TIER_T2
  ⟨0x20, 1, 8, 0xffffffff01ffffff, 0x0, 0x3e8000000000000, false, true⟩,  -- TIER_LEND
  ⟨0x28, 1, 8, 0x0, 0x0, 0x0, false, false⟩,  -- TIER_CAP
  ⟨0x30, 1, 8, 0x0, 0x0, 0x0, true, false⟩,  -- TIER_MOVE_ADDR
  ⟨0x38, 1, 8, 0x0, 0x0, 0x0, true, false⟩,  -- TIER_MOVE_CMD
  ⟨0x40, 1, 8, 0x0, 0x0, 0x0, false, false⟩,  -- TIER_MOVE_STATE
  ⟨0x48, 1, 8, 0x0, 0x0, 0x0, false, false⟩,  -- TIER_LENT
  ⟨0x50, 1, 8, 0xffff, 0x0, 0x0, false, true⟩,  -- TIER_PEER
  ⟨0x108, 11, 8, 0x0, 0xffffffffffffffff, 0x0, false, false⟩,  -- TIER_STALL
  ⟨0x200, 16, 8, 0x0, 0xffffffffffffffff, 0x0, false, false⟩,  -- TIER_CTX_STALLS
  ⟨0x300, 16, 8, 0x1fffffffff, 0x0, 0x0, false, true⟩,  -- TIER_NEIGHBOUR
  ⟨0x400, 16, 8, 0x0, 0x0, 0x0, false, false⟩,  -- TIER_LEASE
  ⟨0x1000, 512, 32, 0xffffffffffffffff, 0x0, 0x0, false, true⟩,  -- TIER_EXTENT_W0
  ⟨0x1008, 512, 32, 0x7fffffffff, 0x0, 0x0, false, true⟩,  -- TIER_EXTENT_W1
  ⟨0x1010, 512, 32, 0xffffffff, 0x0, 0x0, false, true⟩,  -- TIER_EXTENT_W2
  ⟨0x8000, 1, 8, 0x3fffffff03ff, 0x0, 0x0, false, true⟩,  -- FTAB_GROUP
  ⟨0x8008, 1, 8, 0xffff, 0x0, 0x0, false, true⟩,  -- FTAB_DELTA
  ⟨0x8010, 1, 8, 0x0, 0x7, 0x0, false, false⟩,  -- FTAB_STATUS
  ⟨0x8018, 1, 8, 0x0, 0x0, 0x0, false, false⟩,  -- FTAB_SEQ
  ⟨0x8020, 1, 8, 0x0, 0xffffffffffffffff, 0x0, false, false⟩,  -- FTAB_REJECTED
  ⟨0x9000, 64, 64, 0xffffffffffffffff, 0x0, 0x0, false, true⟩,  -- FTAB_BASE
  ⟨0x9008, 64, 64, 0xffffffffff, 0x0, 0x0, false, true⟩,  -- FTAB_ROWS
  ⟨0x9010, 64, 64, 0xffffffffff, 0x0, 0x0, false, true⟩,  -- FTAB_HOME
  ⟨0x9018, 64, 64, 0xfffff1fffff, 0x0, 0x0, false, true⟩,  -- FTAB_FORMAT
  ⟨0x9020, 64, 64, 0xffffffffff, 0x0, 0x0, false, true⟩  -- FTAB_QUANT
]

/-- Registers of block KEEP. -/
def keepRegs : List RegDesc := [
  ⟨0x0, 1, 8, 0x1, 0x0, 0x0, false, false⟩,  -- KEEP_CTRL
  ⟨0x8, 1, 8, 0x0, 0x1f, 0x0, false, false⟩,  -- KEEP_STATUS
  ⟨0x10, 1, 8, 0x1f, 0x0, 0x8, false, true⟩,  -- KEEP_CONFIG
  ⟨0x18, 1, 8, 0xfffffff, 0x0, 0x1e65e32, false, true⟩,  -- KEEP_SPLIT
  ⟨0x20, 1, 8, 0x0, 0xffffffffffffffff, 0x0, false, false⟩,  -- KEEP_CE_COUNT
  ⟨0x28, 1, 8, 0x0, 0xffffffffffffffff, 0x0, false, false⟩,  -- KEEP_UE_COUNT
  ⟨0x30, 1, 8, 0x0, 0x0, 0x0, false, false⟩,  -- KEEP_LAST_ERR
  ⟨0x38, 1, 8, 0x0, 0x0, 0x8000000, false, false⟩,  -- KEEP_SPARES
  ⟨0x40, 1, 8, 0x0, 0x0, 0x0, false, false⟩,  -- KEEP_PATROL
  ⟨0x48, 1, 8, 0x0, 0xffffffffffffffff, 0x0, false, false⟩,  -- KEEP_READ_BYTES
  ⟨0x50, 1, 8, 0x0, 0xffffffffffffffff, 0x0, false, false⟩,  -- KEEP_WRITE_BYTES
  ⟨0x58, 1, 8, 0x0, 0xffffffffffffffff, 0x0, false, false⟩,  -- KEEP_REMOTE_BYTES
  ⟨0x8000, 1, 8, 0x0, 0xffffffffffffffff, 0x0, false, false⟩,  -- FTAB_APPLIED
  ⟨0x8008, 1, 8, 0x0, 0xffffffffffffffff, 0x0, false, false⟩,  -- FTAB_COALESCED
  ⟨0x8010, 1, 8, 0x0, 0xffffffffffffffff, 0x0, false, false⟩,  -- FTAB_REPLICATED
  ⟨0x8018, 1, 8, 0x0, 0xffffffffffffffff, 0x0, false, false⟩,  -- FTAB_HELD
  ⟨0x8020, 1, 8, 0x0, 0x0, 0x0, false, false⟩  -- FTAB_TRACKED
]

/-- Registers of block DSRAM. -/
def dsramRegs : List RegDesc := [
  ⟨0x0, 1, 8, 0x1, 0x0, 0x0, false, false⟩,  -- DSRAM_CTRL
  ⟨0x8, 1, 8, 0x0, 0x7, 0x0, false, false⟩,  -- DSRAM_STATUS
  ⟨0x10, 1, 8, 0x1ffff, 0x0, 0x0, false, true⟩,  -- DSRAM_HOLD
  ⟨0x18, 1, 8, 0x1ffff, 0x0, 0x0, false, true⟩,  -- DSRAM_STAGE
  ⟨0x20, 1, 8, 0x0, 0xffffffffffffffff, 0x0, false, false⟩,  -- DSRAM_CE_COUNT
  ⟨0x28, 1, 8, 0x0, 0xffffffffffffffff, 0x0, false, false⟩  -- DSRAM_UE_COUNT
]

/-- Registers of block FLASH. -/
def flashRegs : List RegDesc := [
  ⟨0x0, 1, 8, 0x1, 0x0, 0x0, false, false⟩,  -- FLASH_CTRL
  ⟨0x8, 1, 8, 0x0, 0x7f, 0x0, false, false⟩,  -- FLASH_STATUS
  ⟨0x10, 1, 8, 0xffffffffffff, 0x0, 0xea6003e80032, false, true⟩,  -- FLASH_IDLE
  ⟨0x18, 1, 8, 0xffff, 0x0, 0x1008, false, true⟩,  -- FLASH_GC
  ⟨0x20, 1, 8, 0x0, 0x0, 0x0, false, false⟩,  -- FLASH_LAND
  ⟨0x28, 1, 8, 0x0, 0xffffffffffffffff, 0x0, false, false⟩,  -- FLASH_HOST_GRANULES
  ⟨0x30, 1, 8, 0x0, 0xffffffffffffffff, 0x0, false, false⟩,  -- FLASH_BUF_GRANULES
  ⟨0x38, 1, 8, 0x0, 0xffffffffffffffff, 0x0, false, false⟩,  -- FLASH_QLC_GRANULES
  ⟨0x40, 1, 8, 0x0, 0xffffffffffffffff, 0x0, false, false⟩,  -- FLASH_RELOC_GRANULES
  ⟨0x48, 1, 8, 0x0, 0xffffffffffffffff, 0x0, false, false⟩,  -- FLASH_POOL_LATE
  ⟨0x50, 1, 8, 0x0, 0xffffffffffffffff, 0x0, false, false⟩,  -- FLASH_READ_FAILS
  ⟨0x100, 8, 8, 0x0, 0x0, 0xc0, false, false⟩,  -- FLASH_MODULE
  ⟨0x200, 64, 8, 0x0, 0x0, 0x0, false, false⟩  -- FLASH_NS
]

/-- Registers of block MAC. -/
def macRegs : List RegDesc := [
  ⟨0x0, 1, 8, 0x3, 0x0, 0x2, false, false⟩,  -- MAC_CTRL
  ⟨0x8, 1, 8, 0x0, 0x1f, 0x0, false, false⟩,  -- MAC_STATUS
  ⟨0x10, 1, 8, 0xffffffffffff, 0x0, 0x0, false, true⟩,  -- MAC_ADDR
  ⟨0x18, 1, 8, 0x3fffff, 0x0, 0x0, false, true⟩,  -- MAC_VLAN
  ⟨0x20, 1, 8, 0xffffffff, 0x0, 0x0, false, true⟩,  -- MAC_IPV4
  ⟨0x28, 1, 8, 0xffffffffffffffff, 0x0, 0x0, false, true⟩,  -- MAC_IPV6_HI
  ⟨0x30, 1, 8, 0xffffffffffffffff, 0x0, 0x0, false, true⟩,  -- MAC_IPV6_LO
  ⟨0x38, 1, 8, 0x1ff, 0x0, 0x0, false, true⟩,  -- MAC_PTP
  ⟨0x40, 1, 8, 0x0, 0x0, 0x0, false, false⟩,  -- MAC_LINK
  ⟨0x48, 1, 8, 0x0, 0xffffffffffffffff, 0x0, false, false⟩,  -- MAC_RX_FRAMES
  ⟨0x50, 1, 8, 0x0, 0xffffffffffffffff, 0x0, false, false⟩,  -- MAC_TX_FRAMES
  ⟨0x58, 1, 8, 0x0, 0xffffffffffffffff, 0x0, false, false⟩,  -- MAC_RX_DROPS
  ⟨0x60, 1, 8, 0x0, 0xffffffffffffffff, 0x0, false, false⟩,  -- MAC_FCS_ERRORS
  ⟨0x68, 1, 8, 0x0, 0xffffffffffffffff, 0x0, false, false⟩,  -- MAC_FEC_CORRECTED
  ⟨0x70, 1, 8, 0x0, 0xffffffffffffffff, 0x0, false, false⟩  -- MAC_FEC_UNCORRECTED
]

/-- Registers of block TYTOS. -/
def tytosRegs : List RegDesc := [
  ⟨0x0, 1, 8, 0x1, 0x0, 0x0, false, false⟩,  -- TYTOS_CTRL
  ⟨0x8, 1, 8, 0x0, 0x3f, 0x0, false, false⟩,  -- TYTOS_STATUS
  ⟨0x10, 1, 8, 0xffff, 0x0, 0xb896, false, true⟩,  -- TYTOS_PORT
  ⟨0x18, 1, 8, 0xffff000fffff, 0x0, 0x3e800080064, false, true⟩,  -- TYTOS_TIMER
  ⟨0x20, 1, 8, 0x0, 0x0, 0x0, false, false⟩,  -- TYTOS_SESSIONS
  ⟨0x28, 1, 8, 0x0, 0xffffffffffffffff, 0x0, false, false⟩,  -- TYTOS_RETRANSMITS
  ⟨0x30, 1, 8, 0x0, 0xffffffffffffffff, 0x0, false, false⟩,  -- TYTOS_DROPS
  ⟨0x38, 1, 8, 0x0, 0xffffffffffffffff, 0x0, false, false⟩,  -- TYTOS_ECN_CE
  ⟨0x40, 1, 8, 0x0, 0xffffffffffffffff, 0x0, false, false⟩,  -- TYTOS_AUTH_FAILS
  ⟨0x48, 1, 8, 0x0, 0xffffffffffffffff, 0x0, false, false⟩,  -- TYTOS_CRC_FAILS
  ⟨0x1000, 64, 32, 0xffffffffffffffff, 0x0, 0x0, false, true⟩,  -- TYTOS_ENDPOINT_W0
  ⟨0x1008, 64, 32, 0xffffffffffffffff, 0x0, 0x0, false, true⟩,  -- TYTOS_ENDPOINT_W1
  ⟨0x1010, 64, 32, 0x7ffffffffffff, 0x0, 0x0, false, true⟩,  -- TYTOS_ENDPOINT_W2
  ⟨0x1018, 64, 32, 0xffff, 0x0, 0x0, false, true⟩  -- TYTOS_ENDPOINT_W3
]

/-- Registers of block CTX. -/
def ctxRegs : List RegDesc := [
  ⟨0x0, 1, 8, 0x0, 0x1f, 0x0, false, false⟩,  -- CTX_STATUS
  ⟨0x8, 1, 8, 0x0, 0xffffffffffffffff, 0x0, false, false⟩,  -- CTX_SCRUBS
  ⟨0x10, 1, 8, 0x0, 0x0, 0x0, false, false⟩,  -- CTX_DEVICE_SCRUB
  ⟨0x100, 16, 8, 0x0, 0x0, 0x0, false, false⟩  -- CTX_STATE
]

/-- Registers of block CRYPTO. -/
def cryptoRegs : List RegDesc := [
  ⟨0x0, 1, 8, 0x0, 0xf, 0x0, false, false⟩,  -- CRYPTO_STATUS
  ⟨0x8, 1, 8, 0x0, 0x0, 0x1000000, false, false⟩,  -- CRYPTO_BOOT
  ⟨0x10, 1, 8, 0x0, 0x0, 0x0, false, false⟩,  -- CRYPTO_VERSIONS
  ⟨0x18, 1, 8, 0x0, 0x0, 0x0, false, false⟩,  -- CRYPTO_SVN
  ⟨0x20, 1, 8, 0x0, 0x0, 0x0, false, false⟩,  -- CRYPTO_OPERATORS
  ⟨0x28, 1, 8, 0x0, 0xffffffffffffffff, 0x0, false, false⟩,  -- CRYPTO_SESSIONS
  ⟨0x30, 1, 8, 0x0, 0xffffffffffffffff, 0x0, false, false⟩,  -- CRYPTO_ERRORS
  ⟨0x40, 4, 8, 0x0, 0x0, 0x0, false, false⟩  -- CRYPTO_HISTORY
]

/-- Registers of block BELFRY. -/
def belfryRegs : List RegDesc := [
  ⟨0x0, 1, 8, 0x0, 0x7f, 0x0, false, false⟩,  -- BELFRY_STATUS
  ⟨0x8, 1, 8, 0x0, 0x0, 0x0, false, false⟩,  -- BELFRY_STATE
  ⟨0x10, 1, 8, 0x0, 0x0, 0x0, true, false⟩,  -- BELFRY_ACK
  ⟨0x18, 1, 8, 0x0, 0x0, 0x0, false, false⟩,  -- BELFRY_LAST
  ⟨0x20, 1, 8, 0x0, 0xffffffffffffffff, 0x0, false, false⟩,  -- BELFRY_DANGEROUS
  ⟨0x28, 1, 8, 0x0, 0xffffffffffffffff, 0x0, false, false⟩,  -- BELFRY_LATENT
  ⟨0x30, 1, 8, 0x0, 0xffffffffffffffff, 0x0, false, false⟩,  -- BELFRY_DROPPED
  ⟨0x38, 1, 8, 0x0, 0xffffffffffffffff, 0x0, false, false⟩,  -- BELFRY_LINK_RETRIES
  ⟨0x40, 1, 8, 0x0, 0x0, 0x0, false, false⟩,  -- BELFRY_SELFTEST
  ⟨0x48, 1, 8, 0x0, 0x0, 0xffff, false, false⟩,  -- BELFRY_WEAR
  ⟨0x108, 14, 8, 0x0, 0xffffffffffffffff, 0x0, false, false⟩,  -- BELFRY_MECH
  ⟨0x200, 10, 8, 0x0, 0x0, 0x0, false, false⟩,  -- BELFRY_OUT
  ⟨0x300, 9, 8, 0x0, 0x0, 0x0, false, false⟩  -- BELFRY_AGEING
]

/-- Registers of block PWRSEQ. -/
def pwrseqRegs : List RegDesc := [
  ⟨0x0, 1, 8, 0x1, 0x0, 0x1, false, false⟩,  -- PWRSEQ_CTRL
  ⟨0x8, 1, 8, 0x0, 0x3f, 0x0, false, false⟩,  -- PWRSEQ_STATUS
  ⟨0x10, 1, 8, 0xfff0fff, 0x0, 0xe100bb8, false, true⟩,  -- PWRSEQ_LIMITS
  ⟨0x18, 1, 8, 0x0, 0x0, 0x32001, false, false⟩,  -- PWRSEQ_STATE
  ⟨0x20, 1, 8, 0x0, 0x0, 0x0, false, false⟩,  -- PWRSEQ_RAMP
  ⟨0x28, 1, 8, 0x0, 0xffffffffffffffff, 0x0, false, false⟩,  -- PWRSEQ_PREEMPTS
  ⟨0x30, 1, 8, 0x0, 0xffffffffffffffff, 0x0, false, false⟩  -- PWRSEQ_WAKES
]

/-- Registers of block IDBUS. -/
def idbusRegs : List RegDesc := [
  ⟨0x0, 1, 8, 0x0, 0xf, 0x0, false, false⟩,  -- IDBUS_STATUS
  ⟨0x8, 1, 8, 0x0, 0x0, 0x0, false, false⟩,  -- IDBUS_PRESENT
  ⟨0x10, 1, 8, 0x0, 0xffffffffffffffff, 0x0, false, false⟩,  -- IDBUS_ERRORS
  ⟨0x18, 1, 8, 0x0, 0x0, 0x0, false, false⟩  -- IDBUS_PMBUS
]

/-- The registers that a block implements. -/
def blkRegs : Blk → List RegDesc
  | .size => sizeRegs
  | .img => imgRegs
  | .frame => frameRegs
  | .admission => admissionRegs
  | .reqtab => reqtabRegs
  | .ptree => prefixRegs
  | .text => textRegs
  | .flash => flashRegs
  | .mac => macRegs
  | .tytos => tytosRegs
  | .crypto => cryptoRegs
  | .ctx => ctxRegs
  | .tier => tierRegs
  | .dsram => dsramRegs
  | .belfry => belfryRegs
  | .pwrseq => pwrseqRegs
  | .idbus => idbusRegs
  | .spire _ => spireRegs
  | .wcache _ => wcacheRegs
  | .tile _ => tileRegs
  | .array _ => arrayRegs
  | .stream _ => streamRegs
  | .tdma _ => tdmaRegs
  | .selnet _ => selnetRegs
  | .scale _ => scaleRegs
  | .keep _ => keepRegs
  | .lucarne _ => lucarneRegs

/-- The owner of a block's configuration (R68). FRAME is Image-owned but for REFSEL, EPOCH and PPS, which the host writes
in Sable before COMMIT. -/
def blkOwner : Blk → Owner
  | .size | .img | .admission | .crypto | .ctx => .none
  | .mac | .tytos | .belfry | .pwrseq | .idbus => .management
  | .frame | .reqtab | .ptree | .text | .flash | .tier | .dsram => .image
  | .spire _ | .wcache _ | .tile _ | .array _ | .stream _ | .tdma _ | .selnet _ | .scale _ | .keep _ | .lucarne _ =>
    .image

/-- Device tile number of tile `i` of Spire `s` (R9). -/
def tileNo (s i : Nat) : Nat := 80 * s + i

/-- Spire of a tile (R9). -/
def tileSpire (t : Nat) : Nat := t / 80

/-- Base address of a tile's window (R68). -/
def tileBase (t : Nat) : Nat := 0x10000000 + (t / 80) * 0x01000000 + 0x00100000 + (t % 80) * 0x00010000

/-- Base address of a block (R68). -/
def blkBase : Blk → Nat
  | .size => 0x00000000
  | .img => 0x00010000
  | .frame => 0x00020000
  | .admission => 0x00030000
  | .reqtab => 0x00040000
  | .ptree => 0x00050000
  | .text => 0x00060000
  | .flash => 0x00070000
  | .mac => 0x00080000
  | .tytos => 0x00090000
  | .crypto => 0x000A0000
  | .ctx => 0x000B0000
  | .tier => 0x000C0000
  | .dsram => 0x000D0000
  | .belfry => 0x000E0000
  | .pwrseq => 0x000F0000
  | .idbus => 0x00100000
  | .spire s => 0x10000000 + s * 0x01000000
  | .wcache s => 0x10000000 + s * 0x01000000 + 0x00010000
  | .tile t => tileBase t
  | .array t => tileBase t + 0x1000
  | .stream t => tileBase t + 0x2000
  | .tdma t => tileBase t + 0x3000
  | .selnet t => tileBase t + 0x4000
  | .scale t => tileBase t + 0x8000
  | .keep k => 0x20000000 + k * 0x00100000
  | .lucarne k => 0x20000000 + k * 0x00100000 + 0x00010000

/-- The blocks below 0x0011_0000, in base-address order. -/
def lowBlks : List Blk :=
  [.size, .img, .frame, .admission, .reqtab, .ptree, .text, .flash, .mac, .tytos, .crypto, .ctx, .tier, .dsram, .belfry,
   .pwrseq, .idbus]

/-- Block and offset of an address within a tile's window (R68). -/
def decodeTileOff (t q : Nat) : Option (Blk × Nat) :=
  if q < 0x1000 then some (.tile t, q)
  else if q < 0x2000 then some (.array t, q - 0x1000)
  else if q < 0x3000 then some (.stream t, q - 0x2000)
  else if q < 0x4000 then some (.tdma t, q - 0x3000)
  else if q < 0x5000 then some (.selnet t, q - 0x4000)
  else if 0x8000 ≤ q ∧ q < 0x10000 then some (.scale t, q - 0x8000)
  else none

/-- Block and offset of an address, if the ZS-8032 has a block there (R68). -/
def decodeAddr (a : Nat) : Option (Blk × Nat) :=
  if a < 0x00110000 then (lowBlks[a / 0x10000]?).map (fun b => (b, a % 0x10000))
  else if a < 0x10000000 then none
  else if a < 0x18000000 then
    let s := (a - 0x10000000) / 0x01000000
    let r := (a - 0x10000000) % 0x01000000
    if r < 0x00010000 then some (.spire s, r)
    else if r < 0x00020000 then some (.wcache s, r - 0x00010000)
    else if r < 0x00100000 then none
    else
      let i := (r - 0x00100000) / 0x00010000
      if i < 80 then decodeTileOff (tileNo s i) ((r - 0x00100000) % 0x00010000) else none
  else if a < 0x20000000 then none
  else if a < 0x22000000 then
    let k := (a - 0x20000000) / 0x00100000
    let r := (a - 0x20000000) % 0x00100000
    if r < 0x00010000 then some (.keep k, r)
    else if r < 0x00020000 then some (.lucarne k, r - 0x00010000)
    else none
  else none

/-- The description row that covers an offset, if the offset is an implemented register (R69). -/
def regDesc (b : Blk) (off : Nat) : Option RegDesc :=
  (blkRegs b).find? (fun d =>
    decide (d.off ≤ off) && decide ((off - d.off) % d.stride = 0) && decide ((off - d.off) / d.stride < d.n))

/-- Reset value of a register; an unimplemented offset has none and counts as 0. -/
def regReset (b : Blk) (off : Nat) : Word := ((regDesc b off).map (·.reset)).getD 0

/-- Address of a register. -/
def regAddr (b : Blk) (off : Nat) : Nat := blkBase b + off

/-- The stored value of a register. -/
def reg (s : State) (b : Blk) (off : Nat) : Word := tgetD s.regs (regAddr b off) (regReset b off)

/-- A register written with a value, access rules apart. -/
def setReg (s : State) (b : Blk) (off : Nat) (v : Word) : State :=
  { s with regs := tsetD s.regs (regAddr b off) v (regReset b off) }

/-- Bits `lo` to `lo + n - 1` of a register value. -/
def bits (w : Word) (lo n : Nat) : Nat := (w.toNat >>> lo) % 2 ^ n

/-- Bit `i` of a register value. -/
def bit (w : Word) (i : Nat) : Bool := w.getLsbD i

/-- A register value with bits `lo` to `lo + n - 1` replaced by `v`. -/
def putBits (w : Word) (lo n v : Nat) : Word :=
  BitVec.ofNat 64 (w.toNat % 2 ^ lo + (v % 2 ^ n) * 2 ^ lo + (w.toNat / 2 ^ (lo + n)) * 2 ^ (lo + n))

/-- A field of a stored register. -/
def fld (s : State) (b : Blk) (off lo n : Nat) : Nat := bits (reg s b off) lo n

/-- A field of a stored register written, access rules apart. -/
def setFld (s : State) (b : Blk) (off lo n v : Nat) : State := setReg s b off (putBits (reg s b off) lo n v)

/-- An event flag set (R72). -/
def setFlag (s : State) (b : Blk) (off i : Nat) : State := setFld s b off i 1 1

/-- A 64-bit counter increased by `n`, saturating (R46, R352, R404 and the counters of every block). -/
def bump (s : State) (b : Blk) (off n : Nat) : State :=
  setReg s b off (BitVec.ofNat 64 (min ((reg s b off).toNat + n) (2 ^ 64 - 1)))

/-- ENABLE of a block: bit 0 of its control register (R70). -/
def enabled (s : State) (b : Blk) : Bool := bit (reg s b 0) 0

/-- ENABLE of a block set or cleared by the device. -/
def setEnable (s : State) (b : Blk) (on : Bool) : State := setFld s b 0 0 1 (if on then 1 else 0)

/-- Offset of the status register that holds CFG_WHILE_ENABLED in bit 0, for the blocks that have one. -/
def statusOff : Blk → Nat
  | .img => 0x20
  | .frame => 0x30
  | .crypto | .ctx | .belfry | .idbus => 0x00
  | _ => 0x08

/-- The blocks that the image owns, in the order in which COMMIT enables them: KEEP and LUCARNE in Keep order, SPIRE and
WCACHE, tile blocks in device tile order, the Dome blocks in base-address order, FRAME last (R63 step 8). -/
def imageBlks : List Blk :=
  (List.range 32).flatMap (fun k => [.keep k, .lucarne k]) ++
  (List.range 8).flatMap (fun s => [.spire s, .wcache s]) ++
  (List.range 640).flatMap (fun t => [.tile t, .array t, .stream t, .tdma t, .selnet t, .scale t]) ++
  [.reqtab, .ptree, .text, .flash, .tier, .dsram, .frame]

/-- An address lies in a block that the image owns. -/
def imageOwnedAddr (a : Nat) : Bool :=
  match decodeAddr a with
  | some (b, _) => decide (blkOwner b = .image)
  | none => false

/-! ### The clock domains -/

/-- Groups of clock domains (R20). -/
inductive DomainGroup where
  | spires | keeps | dome | ethernet | lantern | ageing
  deriving DecidableEq, Repr

/-- Group of a clock domain, numbered 0 to 99 (R20). -/
def domainGroup (d : Nat) : Option DomainGroup :=
  if d < 40 then some .spires
  else if d < 72 then some .keeps
  else if d < 84 then some .dome
  else if d < 93 then some .ethernet
  else if d < 97 then some .lantern
  else if d < 100 then some .ageing
  else none

/-- Nominal frequency of a clock domain in kHz; kBd for the lanes 84 to 91 and 95 (R20). -/
def domainKhz (d : Nat) : Nat :=
  if d < 40 then (if d % 5 < 3 then 2250000 else 1800000)
  else if d < 72 then 1600000
  else if d < 84 then (if d = 78 then 1800000 else if d = 82 then 1000000 else 1500000)
  else if d < 92 then 106250000
  else if d = 92 then 1600000
  else if d = 95 then 10312500
  else 1000000

/-- Cycles per µs of the arithmetic domains, which carry task timing (R20). -/
def arithMhz : Nat := domainKhz 0 / 1000

/-- Current of a gated domain's wake-up step in A (R432); 0 for the domains that are never gated. -/
def stepAmps (d : Nat) : Nat :=
  if d < 40 then [180, 90, 30, 15, 15].getD (d % 5) 0
  else if d < 72 then 10
  else if d = 76 then 10
  else if d = 78 then 5
  else if 84 ≤ d ∧ d < 92 then 5
  else 0

/-! ### The size table -/

/-- Kinds of size table entries (R18). -/
inductive SizeKind where
  | floor | ceiling | equal | set
  deriving DecidableEq, Repr

/-- The size table of the ZS-8032 (R19): value and kind of entries 0 to 50. -/
def sizeTable : List (Nat × SizeKind) :=
  [(1, .equal), (51, .floor), (8, .floor), (80, .floor), (640, .floor), (128, .floor), (16, .equal), (4096, .equal),
   (128, .equal), (2, .floor), (273, .ceiling), (2250, .floor), (3072, .floor), (64, .floor), (4096, .floor),
   (16, .floor), (5, .floor)] ++
  [(32, .floor), (4, .floor), (49152, .floor), (1600, .floor), (3200, .floor), (8192, .floor), (64, .floor),
   (10, .floor), (4, .floor), (0x0F, .set), (32, .equal), (256, .floor), (16, .floor), (65536, .floor), (8, .equal),
   (16, .floor), (262144, .floor)] ++
  [(8, .floor), (64, .floor), (16, .equal), (8, .floor), (8, .floor), (8, .floor), (64, .floor), (64, .floor),
   (4096, .floor), (128, .floor), (256, .floor), (65536, .floor), (8, .floor), (8, .floor), (100, .ceiling),
   (4000, .floor), (0x0F, .set)]

/-- A requirement `r` holds for an entry (R18). -/
def sizeOk (v : Nat) (k : SizeKind) (r : Nat) : Bool :=
  match k with
  | .floor => decide (r ≤ v)
  | .ceiling => decide (v ≤ r)
  | .equal => decide (v = r)
  | .set => decide (v &&& r = r)

end Sys2Proof.Machine
end

