-- ==== Sys2Proof/Machine/Packet.lean ====
section
/-! DEFINITION. Packets on the wire (R6, R322 to R324, R328, R329): the big-endian Ethernet, IP, UDP and Tytos headers of
what the device sends, and the fields of a received Tytos header. -/

namespace Sys2Proof.Machine

/-! ### Addresses -/

/-- Word `w` of endpoint entry `j` (R353). -/
def endpointWord (s : State) (j w : Nat) : Word := reg s .tytos (0x1000 + 32 * j + 8 * w)

/-- The device's IPv6 address; 0 when disabled (R353). -/
def ipv6Addr (s : State) : Nat := (reg s .mac 0x28).toNat * 2 ^ 64 + (reg s .mac 0x30).toNat

/-- Endpoint entry `j` holds an IPv4 address, in IPv4-mapped form (R326). -/
def epIpv4 (s : State) (j : Nat) : Bool :=
  decide (endpointWord s j 0 = 0) && decide (bits (endpointWord s j 1) 32 32 = 0xFFFF)

/-! ### Headers sent -/

/-- Sum of a byte string as 16-bit big-endian words, a last odd byte padded with 0 (RFC 768, RFC 791). -/
def wordSum : List Byte → Nat
  | a :: b :: r => a.toNat * 256 + b.toNat + wordSum r
  | [a] => a.toNat * 256
  | [] => 0

/-- The Internet checksum of a byte string: the complement of the end-around sum. -/
def checksum16 (bs : List Byte) : Nat :=
  let n := wordSum bs
  65535 - (if n = 0 then 0 else (n - 1) % 65535 + 1)

/-- Ethernet header of a frame to a next hop, tagged where MAC_VLAN.TAGGED asks it (R322). -/
def ethHead (s : State) (nextHop etherType : Nat) : List Byte :=
  toBE 6 nextHop ++ toBE 6 (fld s .mac 0x10 0 48) ++
    (if bit (reg s .mac 0x18) 12 then toBE 2 0x8100 ++ toBE 2 (fld s .mac 0x18 13 3 * 2 ^ 13 + fld s .mac 0x18 0 12) else []) ++
    toBE 2 etherType

/-- DSCP of MAC_VLAN with ECT(0) (R323). -/
def serviceByte (s : State) : Nat := fld s .mac 0x18 16 6 * 4 + 2

/-- IPv4 header over `n` bytes to an address: IHL 5, DF, TTL 64, protocol 17 (R323); the identification is free. -/
def ipv4Head (s : State) (dst n : Nat) : List Byte :=
  let a := toBE 1 0x45 ++ toBE 1 (serviceByte s) ++ toBE 2 (20 + n) ++ toBE 2 (Config.ipIdent s.fresh) ++ toBE 2 0x4000 ++
    toBE 1 64 ++ toBE 1 17
  let b := toBE 4 (fld s .mac 0x20 0 32) ++ toBE 4 dst
  a ++ toBE 2 (checksum16 (a ++ b)) ++ b

/-- IPv6 header over `n` bytes to an address: Next Header 17, hop limit 64, flow label 0 (R323). -/
def ipv6Head (s : State) (dst n : Nat) : List Byte :=
  toBE 4 (6 * 2 ^ 28 + serviceByte s * 2 ^ 20) ++ toBE 2 n ++ toBE 1 17 ++ toBE 1 64 ++ toBE 16 (ipv6Addr s) ++ toBE 16 dst

/-- UDP header with its checksum over the pseudo-header, a checksum of 0 sent as all ones (R324, RFC 768, RFC 8200). -/
def udpHead (src dst : Nat) (pseudo payload : List Byte) : List Byte :=
  let n := 8 + payload.length
  let h := toBE 2 src ++ toBE 2 dst ++ toBE 2 n
  let c := checksum16 (pseudo ++ toBE 4 n ++ toBE 4 17 ++ h ++ payload)
  h ++ toBE 2 (if c = 0 then 0xFFFF else c)

/-- The headers before a UDP payload to endpoint `j` (R322 to R324, R326): to its next hop, address and port, from this
device's UDP port. -/
def frameHead (s : State) (j : Nat) (payload : List Byte) : List Byte :=
  let nextHop := bits (endpointWord s j 2) 0 48
  let port := bits (endpointWord s j 3) 0 16
  let mine := fld s .tytos 0x10 0 16
  let n := 8 + payload.length
  if epIpv4 s j then
    let dst := bits (endpointWord s j 1) 0 32
    ethHead s nextHop 0x0800 ++ ipv4Head s dst n ++
      udpHead mine port (toBE 4 (fld s .mac 0x20 0 32) ++ toBE 4 dst) payload
  else
    let dst := (endpointWord s j 0).toNat * 2 ^ 64 + (endpointWord s j 1).toNat
    ethHead s nextHop 0x86DD ++ ipv6Head s dst n ++ udpHead mine port (toBE 16 (ipv6Addr s) ++ toBE 16 dst) payload

/-- The first 28 bytes of a Tytos header (R328). -/
def tytosFields (kind session queue length seq : Nat) (protectedFlag : Bool) : List Byte :=
  toBE 1 1 ++ toBE 1 kind ++ toBE 2 (if protectedFlag then 1 else 0) ++ toBE 4 session ++ toBE 2 queue ++ toBE 2 length ++
    toBE 4 seq ++ zeros 12

/-- A header completed by its CRC over itself, with that field 0, and the packet data as sent (R328). -/
def withCrc (fields wire : List Byte) : List Byte := fields ++ toBE 4 (crc32c (fields ++ zeros 4 ++ wire))

/-- The nonce of a protected packet (R329). -/
def packetNonce (session queue kind seq : Nat) : List Byte :=
  toBE 4 session ++ toBE 2 queue ++ toBE 1 kind ++ zeros 1 ++ toBE 4 seq

/-- Packet data as sent: encrypted, each byte a free value, when the packet is protected (R329). -/
def wireData (nonce data : List Byte) (protectedFlag : Bool) : List Byte :=
  if protectedFlag then (List.range data.length).map (Config.cipherByte nonce data) else data

/-- A Tytos packet to an endpoint, with the headers before it (R324, R328, R329). -/
def packetOut (s : State) (j session queue kind seq : Nat) (protectedFlag : Bool) (data : List Byte) : Out :=
  let nonce := packetNonce session queue kind seq
  let wire := wireData nonce data protectedFlag
  let header := withCrc (tytosFields kind session queue data.length seq protectedFlag) wire
  let tag : List Byte := if protectedFlag then (List.range 16).map (Config.tagByte nonce (header ++ data)) else []
  .packet j (frameHead s j (header ++ wire ++ tag)) header data

end Sys2Proof.Machine

namespace Sys2Proof

open Machine

/-! ### Headers received -/

/-- KIND of a received packet (R328). -/
def PacketIn.kind (p : PacketIn) : Nat := fieldBE p.header 1 1

/-- SESSION of a received packet. -/
def PacketIn.session (p : PacketIn) : Nat := fieldBE p.header 4 4

/-- QUEUE of a received packet. -/
def PacketIn.queue (p : PacketIn) : Nat := fieldBE p.header 8 2

/-- SEQ of a received packet. -/
def PacketIn.seq (p : PacketIn) : Nat := fieldBE p.header 12 4

/-- PROTECTED of a received packet. -/
def PacketIn.protectedFlag (p : PacketIn) : Bool := decide (fieldBE p.header 2 2 % 2 = 1)

/-- VERSION is 1, the reserved fields are 0, and LENGTH, at most 8,960, is that of the packet data (R328). -/
def PacketIn.formOk (p : PacketIn) : Bool :=
  decide (p.header.length = 32) && decide (fieldBE p.header 0 1 = 1) && decide (fieldBE p.header 2 2 < 2) &&
  zeroRange p.header 16 12 && decide (fieldBE p.header 10 2 = p.wire.length) && decide (p.wire.length ≤ 8960)

/-- CRC of a received packet (R328). -/
def PacketIn.crcOk (p : PacketIn) : Bool :=
  decide (fieldBE p.header 28 4 = crc32c (p.header.take 28 ++ zeros 4 ++ p.wire))

/-- Packet data of a received packet, decrypted where it is protected (R329). -/
def PacketIn.data (p : PacketIn) : List Byte := if p.protectedFlag then p.plain else p.wire

end Sys2Proof
end

