-- ==== Sys2Proof/Machine/Ops.lean ====
section
/-! DEFINITION. The operations that the meanings share: table access, messages and events, log entries, device states
and RDY, completions, sessions and contexts, and what a detection does (affected requests, TILE and DEVICE actions). -/

namespace Sys2Proof.Machine

/-- The outcome of a command. -/
abbrev Res := Host.Outcome State Fault Refusal

/-- A command whose operand names something the device does not have. -/
def malformed (what : String) : Res := .refused (.malformed what)

/-- The current frame number. -/
def now (s : State) : Nat := s.frame.count

/-- A wake-up step of a domain enters the sequencer's queue (R433). -/
def queueWake (s : State) (d port : Nat) : State :=
  { s with power := { s.power with wakes := s.power.wakes ++ [{ domain := d, port := port }] } }

/-- Domains are gated: a step of one that still waits is dropped, since nothing wakes (R432, log entry 90). -/
def gateDomains (s : State) (l : List Nat) : State :=
  { s with power := { s.power with wakes := s.power.wakes.filter (fun w => !(l.contains w.domain)) } }

/-- Unit codes of R401: tile t; 0x0400 + k; 0x0500 + s; 0x0600 for the Dome, whose text units have no code of their own;
0x0700 + m. -/
def unitCode : UnitId → Nat
  | .tile t => t
  | .keepBase k => 0x0400 + k
  | .lucarne k => 0x0400 + k
  | .spire p => 0x0500 + p
  | .dome => 0x0600
  | .text _ => 0x0600
  | .flashPort m => 0x0700 + m

/-- A unit that the device has (R9, R10, R15). -/
def unitExists : UnitId → Bool
  | .tile t => decide (t < 640)
  | .keepBase k => decide (k < 32)
  | .lucarne k => decide (k < 32)
  | .spire p => decide (p < 8)
  | .dome => true
  | .text u => decide (u < 8)
  | .flashPort m => decide (m < 8)

/-! ### Tables of tiles, requests, sessions and contexts -/

/-- Tile `t`. -/
def tileAt (s : State) (t : Nat) : Tile := tgetD s.tiles t Tile.reset

/-- Tile `t` replaced. -/
def setTile (s : State) (t : Nat) (x : Tile) : State := { s with tiles := tsetD s.tiles t x Tile.reset }

/-- Spire `p`. -/
def spireAt (s : State) (p : Nat) : Spire := tgetD s.spires p Spire.reset

/-- Spire `p` replaced. -/
def setSpire (s : State) (p : Nat) (x : Spire) : State := { s with spires := tsetD s.spires p x Spire.reset }

/-- The occupied request table entry `e`. -/
def reqAt (s : State) (e : Nat) : Option Request := tget s.reqs e

/-- Entry `e` written. -/
def setReq (s : State) (e : Nat) (r : Request) : State := { s with reqs := tset s.reqs e r }

/-- The request of an entry changed, where the entry is occupied. -/
def updReq (s : State) (e : Nat) (f : Request → Request) : State :=
  match reqAt s e with
  | some r => setReq s e (f r)
  | none => s

/-- Request handle (R339). -/
def handle (e : Nat) (r : Request) : Nat := e % 2 ^ 16 + 2 ^ 16 * (r.acceptFrame % 2 ^ 48)

/-- Session `n`. -/
def sessAt (s : State) (n : Nat) : Option Session := tget s.port.sessions n

/-- Session `n` written. -/
def setSess (s : State) (n : Nat) (x : Session) : State :=
  { s with port := { s.port with sessions := tset s.port.sessions n x } }

/-- Context `c`, if it is open (OPEN or SLATE). -/
def ctxAt (s : State) (c : Nat) : Option Ctx := tget s.sec.ctxs c

/-- Context `c` written. -/
def setCtx (s : State) (c : Nat) (x : Ctx) : State := { s with sec := { s.sec with ctxs := tset s.sec.ctxs c x } }

/-- Context `c` is OPEN and not in SLATE (R354). -/
def ctxOpen (s : State) (c : Nat) : Bool :=
  match ctxAt s c with
  | some x => decide (x.state = .opened)
  | none => false

/-- Context `c` is confidential (R354). -/
def ctxConf (s : State) (c : Nat) : Bool :=
  match ctxAt s c with
  | some x => x.confidential
  | none => false

/-- Endpoint entry `j` is valid (R326). -/
def epValid (s : State) (j : Nat) : Bool := decide (j < 64) && bit (endpointWord s j 2) 48

/-- Endpoint entry `j` is PRIVILEGED (R326). -/
def epPriv (s : State) (j : Nat) : Bool := bit (endpointWord s j 2) 49

/-- Endpoint entry `j` is another device (R326). -/
def epDevice (s : State) (j : Nat) : Bool := bit (endpointWord s j 2) 50

/-- A session's endpoint is PRIVILEGED. -/
def sessPriv (s : State) (n : Nat) : Bool :=
  match sessAt s n with
  | some x => epPriv s x.endpoint
  | none => false

/-- The neighbour record, 0 to 15, that names an endpoint (R275, R286). -/
def neighbourOf (s : State) (endpoint : Nat) : Option Nat :=
  leastBelow (fun i => bit (reg s .tier (0x300 + 8 * i)) 36 && decide (fld s .tier (0x300 + 8 * i) 0 32 = endpoint)) 16

/-- The endpoint that a valid neighbour record names. -/
def neighbourEndpoint (s : State) (i : Nat) : Option Nat :=
  if i < 16 ∧ bit (reg s .tier (0x300 + 8 * i)) 36 then some (fld s .tier (0x300 + 8 * i) 0 32) else none

/-- An image is in service: committed, whether or not the device has left Sable yet. -/
def inService (s : State) : Bool := s.img.image.isSome

/-- Ivory or Amber (R7). -/
def serving (s : State) : Bool := decide (s.dev = .ivory) || decide (s.dev = .amber)

/-- Frame period in microseconds: PERIOD_US of FRAME_PERIOD. -/
def periodUs (s : State) : Nat := fld s .frame 0x08 0 12

/-- A write through the management path to a configuration register, or to a control register, of MAC, TYTOS or PWRSEQ
is saved (R436). -/
def saveMgmt (s : State) (b : Blk) (off : Nat) (v : Word) : State :=
  match b with
  | .mac | .tytos | .pwrseq =>
    let isCfg : Bool := match regDesc b off with
      | some d => d.cfg
      | none => false
    if isCfg ∨ off = 0 then { s with nv := { s.nv with saved := tset s.nv.saved (regAddr b off) v } } else s
  | _ => s

/-! ### Messages, packets and events -/

/-- One output, after those handed out before. -/
def emitOut (s : State) (o : Out) : State := { s with out := s.out ++ [o] }

/-- SESSION as the packet header carries it (R328). -/
def wireSession (n : Nat) : Nat := n % 2 ^ 32

/-- The transport carries packets: the link is up and TYTOS is enabled (R71, R349). -/
def carries (s : State) : Bool := s.port.up && enabled s .tytos

/-- One DATA packet of a queue's stream sent: the next SEQ, protected once the session's keys are installed (R328,
R329). -/
def sendPacket (s : State) (n q : Nat) (x : Session) (y : QueueSt) : State :=
  let data := y.txStream.take 8960
  let y' := { y with txStream := y.txStream.drop 8960, txNext := y.txNext + 1,
                     tx := tset y.tx y.txNext { data := data, retries := 0, fast := false, protectedFlag := x.keys } }
  emitOut (bump (setSess s n { x with queues := tset x.queues q y' }) .mac 0x50 1)
    (packetOut s x.endpoint (wireSession n) q 0 (y.txNext % 2 ^ 32) x.keys data)

/-- A queue of a session waits for the switch to protected traffic: from FINISH to its end nothing but FINISH_RSP leaves
(R367). -/
def heldBack (x : Session) (q : Nat) (y : QueueSt) : Bool :=
  match x.finishRsp with
  | some f => decide (q ≠ x.firstMsgq) || decide (f < y.txNext)
  | none => false

/-- Packets of a queue's stream sent while the peer's LIMIT and the link allow, at most `fuel` (R328, R331). -/
def pump (s : State) (n q : Nat) : Nat → State
  | 0 => s
  | fuel + 1 =>
    match sessAt s n with
    | none => s
    | some x =>
      match tget x.queues q with
      | none => s
      | some y =>
        if carries s = true ∧ y.txStream ≠ [] ∧ y.txNext < y.txLimit ∧ heldBack x q y = false then pump (sendPacket s n q x y) n q fuel else s

/-- Packets that a stream of `k` bytes fills. -/
def packetsOf (k : Nat) : Nat := k / 8960 + 1

/-- Every packet of a queue that may be sent is sent. -/
def pumpAll (s : State) (n q : Nat) : State :=
  match sessAt s n with
  | none => s
  | some x =>
    match tget x.queues q with
    | none => s
    | some y => pump s n q (packetsOf y.txStream.length)

/-- The 16-byte message header and the body (R335). -/
def frameMsg (type tag : Nat) (body : List Byte) : List Byte :=
  toLE 2 type ++ zeros 2 ++ toLE 4 (16 + body.length) ++ toLE 8 tag ++ body

/-- A message handed over on a queue of a session: it enters the session's transmit stream and its first packets leave.
A message for a session or queue that no longer exists is discarded (R332, R340). -/
def sendMsg (s : State) (n q type tag : Nat) (body : List Byte) : State :=
  match sessAt s n with
  | none => s
  | some x =>
    match tget x.queues q with
    | none => s
    | some y =>
      let y' := { y with txStream := y.txStream ++ frameMsg type tag body }
      pumpAll (emitOut (setSess s n { x with queues := tset x.queues q y' }) (.msg n q type tag body (now s))) n q

/-- A message on the control queue of a session (R327). -/
def sendCtl (s : State) (n type tag : Nat) (body : List Byte) : State :=
  match sessAt s n with
  | none => s
  | some x => sendMsg s n x.firstMsgq type tag body

/-- Body of an EVENT (R344). -/
def eventBody (s : State) (code arg0 arg1 : Nat) : List Byte :=
  toLE 2 code ++ zeros 6 ++ toLE 8 (now s) ++ toLE 8 arg0 ++ toLE 8 arg1

/-- An event to one session. -/
def eventTo (s : State) (n code arg0 arg1 : Nat) : State := sendCtl s n 0x85 0 (eventBody s code arg0 arg1)

/-- Sessions opened by endpoints to this device, in ascending number. -/
def hostSessions (s : State) : List Nat := (s.port.sessions.filter (fun e => !e.2.mine)).map (·.1)

/-- An event to every session (R344). -/
def eventAll (s : State) (code arg0 arg1 : Nat) : State :=
  (hostSessions s).foldl (fun s n => eventTo s n code arg0 arg1) s

/-- An event to every PRIVILEGED session (R344). -/
def eventPriv (s : State) (code arg0 arg1 : Nat) : State :=
  ((hostSessions s).filter (sessPriv s)).foldl (fun s n => eventTo s n code arg0 arg1) s

/-- 64-bit two's complement code of an integer. -/
def twos (n : Nat) (x : Int) : Nat := (x % (2 ^ n : Nat)).toNat

/-! ### Logs -/

/-- The volatile store: a ring of 2,097,152 entries (R415). -/
def ringPush {α : Type} (cap : Nat) (l : List α) (x : α) : List α :=
  if l.length < cap then l ++ [x] else l.drop 1 ++ [x]

/-- The entry at Lantern outside an incident: the volatile store, and the persistent store for SAFETY and LATENT
(R415). -/
def storeLog (s : State) (e : LogEntry) : State :=
  let s := { s with lantern := { s.lantern with volatileLog := ringPush 2097152 s.lantern.volatileLog e } }
  if e.cls = 1 ∨ e.cls = 2 then
    { s with nv := { s.nv with
        persist := ringPush 65536 s.nv.persist { num := s.nv.persistNext, boot := s.nv.boots, entry := e },
        persistNext := s.nv.persistNext + 1 } }
  else s

/-- The entry at Lantern within an incident: the first 64 of a class are kept, then the last 64; an entry that leaves
that window counts as dropped (R402). -/
def storeInIncident (s : State) (e : LogEntry) (i : Incident) : State :=
  let k := tgetD i.kept e.cls 0
  if k < 64 then
    storeLog { s with belfry := { s.belfry with incident := some { i with kept := tset i.kept e.cls (k + 1) } } } e
  else
    let mine := i.window.filter (fun w => w.1 = e.cls)
    if mine.length < 64 then
      storeLog { s with belfry := { s.belfry with
        incident := some { i with kept := tset i.kept e.cls (k + 1), window := i.window ++ [(e.cls, e.seq)] } } } e
    else
      let old := (mine.headD (0, 0)).2
      let s := { s with lantern := { s.lantern with
        volatileLog := s.lantern.volatileLog.filter (fun x => decide (x.seq ≠ old)) } }
      storeLog { s with belfry := { s.belfry with
        incident := some { i with
          dropped := tset i.dropped e.cls (tgetD i.dropped e.cls 0 + 1),
          window := i.window.filter (fun w => decide (w ≠ (e.cls, old))) ++ [(e.cls, e.seq)] } } } e

/-- An entry that finds its path full: counted, and an incident begins or goes on (R402). -/
def dropLog (s : State) (cls : Nat) : State :=
  let s := bump s .belfry 0x30 1
  match s.belfry.incident with
  | none =>
    setFlag { s with belfry := { s.belfry with
      incident := some { first := now s, last := now s, kept := [], dropped := [(cls, 1)], window := [] } } }
      .belfry 0x00 6
  | some i =>
    { s with belfry := { s.belfry with
      incident := some { i with last := now s, dropped := tset i.dropped cls (tgetD i.dropped cls 0 + 1) } } }

/-- A log entry written by Belfry (R401). At most 256 entries of a frame reach Lantern; a further one is dropped and
advances SEQ all the same (R402). -/
def logEntry (s : State) (cls mech action ctx unit entry detail : Nat) : State :=
  let e : LogEntry := { seq := s.belfry.seq, frame := now s, cls := cls, mech := mech, action := action, ctx := ctx,
                        unit := unit, entry := entry, detail := detail }
  let s := { s with belfry := { s.belfry with seq := s.belfry.seq + 1, posted := s.belfry.posted + 1 } }
  if s.belfry.posted ≤ 256 then
    match s.belfry.incident with
    | none => storeLog s e
    | some i => storeInIncident s e i
  else dropLog s cls

/-- A SERVICE entry (class 3). -/
def logService (s : State) (unit detail : Nat) : State := logEntry s 3 0 3 0xFF unit 0xFFFF detail

/-! ### Device state -/

/-- Codes of the STATE event (R344). -/
def devCode : DevState → Nat
  | .sable => 0
  | .ivory => 1
  | .amber => 2
  | .slate => 3
  | .vermilion => 4

/-- RDY is high exactly while the device is in Ivory or Amber (R348). -/
def setRdy (s : State) : State := { s with pins := { s.pins with rdy := serving s && !s.pins.rstLow } }

/-- The device enters a state: RDY, the SERVICE entry of R401, whose DETAIL shows the state to management (R7; log entry 91),
and the STATE event of R344. Entering the state it is in already changes nothing. -/
def enterDev (s : State) (d : DevState) (reason : Nat) : State :=
  if s.dev = d then s
  else
    let old := devCode s.dev
    let s := setRdy { s with dev := d, reason := reason }
    let s := if serving s then { s with sec := { s.sec with boot := { s.sec.boot with served := true } },
                                        power := { s.power with phase := 0 } } else s
    eventAll (logService s 0x0600 (devCode d)) 0x01 (devCode d) old

/-! ### Requests -/

/-- Codes of R45. -/
def stDone : Nat := 0
def stFault : Nat := 1
def stBreached : Nat := 2
def stAbandoned : Nat := 3

/-- The completion record of a generation request (R258). -/
def completionRecord (r : Request) : List Byte :=
  toLE 1 (r.endReason.getD 0) ++ zeros 3 ++ toLE 4 r.generated ++ toLE 4 r.promptLen ++ toLE 4 (16 * r.sharedPages) ++
  (if r.endReason = some 0 then fit 16 (r.stop.getD []) else zeros 16)

/-- COMPLETE handed over with its status; the entry is FREE from the next boundary (R241, R340). A request completes
once; GEN_FAULT tells of a generation request that completes with FAULT (R266). -/
def complete (s : State) (e status : Nat) : State :=
  match reqAt s e with
  | none => s
  | some r =>
    if r.sentFrame.isSome then s
    else
      let record := if status = stDone ∧ r.gen.isSome then completionRecord r else []
      let s := setReq s e { r with sentFrame := some (now s), status := status,
                                   state := if status = stDone then r.state else .ending }
      let s := if status = stBreached then bump s .admission 0x30 1
               else if status = stAbandoned then bump s .admission 0x38 1
               else if status = stFault ∧ r.gen.isSome then setFlag s .reqtab 0x08 3 else s
      sendMsg s r.session r.queue 0x84 r.tag
        (toLE 8 (handle e r) ++ toLE 1 status ++ zeros 3 ++ toLE 4 record.length ++ record)

/-- The credits that tokens took come back to their producer tiles at the next boundary (R118). -/
def giveBack (s : State) (l : List Token) : State :=
  (l.filter (fun k => !k.seed && decide (k.srcTile < 640))).foldl (fun s k =>
    let x := tileAt s k.srcTile
    setTile s k.srcTile { x with returns := x.returns ++ [(k.route, now s + 1)] }) s

/-- What waits for a request leaves its queues and inboxes: none of its remaining tasks runs (R42, R388). A task under way
goes on to the end of its frame (R98, R151) and publishes nothing then; its streams of this frame go on with it. -/
def dropWork (s : State) (e : Nat) : State :=
  let mine := fun (k : Token) => decide (k.entry = e)
  let freed := s.tiles.flatMap (fun p => p.2.inbox.filter mine) ++ s.dome.filter mine
  let under (x : Tile) (r : StreamRun) : Bool :=
    match x.task with
    | some k => decide (k.entry = r.entry) && decide (k.frame = r.frame)
    | none => false
  let dropTile (x : Tile) : Tile :=
    { x with inbox := x.inbox.filter (fun k => !mine k),
             streams := x.streams.filter (fun r => decide (r.entry ≠ e) || under x r) }
  giveBack { s with
    tiles := s.tiles.map (fun p => (p.1, dropTile p.2)),
    spires := s.spires.map (fun p => (p.1, { p.2 with queue := p.2.queue.filter (fun q => decide (q.entry ≠ e)) })),
    dome := s.dome.filter (fun k => !mine k),
    adm := { s.adm with replans := s.adm.replans.filter (fun x => decide (x ≠ e)) },
    search := { s.search with cands := s.search.cands.filter (fun c => decide (c.entry ≠ e)),
                              walks := s.search.walks.filter (fun w => decide (w.entry ≠ e)) },
    text := { s.text with queue := s.text.queue.filter (fun j => decide (j.entry ≠ e)),
                          jobs := s.text.jobs.filter (fun j => decide (j.entry ≠ e)),
                          outputs := s.text.outputs.filter (fun o => decide (o.1 ≠ e)) } } freed

/-- A request has ended, or its completion has left. -/
def ended (r : Request) : Bool := decide (r.state = .ending) || r.sentFrame.isSome

/-- A request ends with a status that its completion carries from frame `due` on: its remaining tasks do not run and its
unreleased fragments are withheld (R42, R388). The first end of a request stands. -/
def endRequest (s : State) (e status due : Nat) : State :=
  match reqAt s e with
  | none => s
  | some r =>
    if ended r then s
    else
      let s := dropWork (setReq s e { r with state := .ending, status := status, dueFrame := some due }) e
      { s with hold := s.hold.filter (fun f => decide (f.entry ≠ e)) }

/-- A request that still runs ends with FAULT and its completion leaves now (R136, R163, R237). -/
def faultNow (s : State) (e : Nat) : State :=
  match reqAt s e with
  | none => s
  | some r => if ended r then s else complete (endRequest s e stFault (now s)) e stFault

/-! ### Detections -/

/-- A dangerous detection (R382): mechanism, action of R390 before escalation, unit code, the key of R391 by which it
recurs (`none` where it never escalates), context, entry and DETAIL of its log entry, and the affected requests. -/
structure Detection where
  mech : Nat
  action : Nat
  unit : Nat
  key : Option Nat
  ctx : Nat
  entry : Nat
  detail : Nat
  affected : List Nat

/-- Insertion into a list of numbers without repeats, kept ascending. -/
def addNat (x : Nat) (l : List Nat) : List Nat := if l.contains x then l else insertBy (fun a b => decide (a ≤ b)) x l

/-- A list of numbers, ascending and without repeats. -/
def asSet (l : List Nat) : List Nat := l.foldl (fun acc x => addNat x acc) []

/-- Steps of a stage that a rank has completed for a request. -/
def stepsAt (r : Request) (stage rank : Nat) : Nat := tgetD r.steps (stage * 65536 + rank) 0

/-- Steps of a stage that every one of its ranks has completed. -/
def stageSteps (r : Request) (stage ranks : Nat) : Nat :=
  (List.range (max 1 ranks)).foldl (fun m k => min m (stepsAt r stage k)) (stepsAt r stage 0)

/-- A request has begun a stage of `ranks` tiles and `frames` frames, and not completed it. -/
def midStage (r : Request) (stage ranks frames : Nat) : Bool :=
  (List.range (max 1 ranks)).any (fun k => decide (0 < stepsAt r stage k)) && decide (stageSteps r stage ranks < frames)

/-- The image's role record that a tile serves names a pipeline, stage and slot; the requests whose slot of that stage it
is and which have begun the stage and not completed it hold PERSIST data there (R109, R387). -/
def holdersOf (s : State) (t : Nat) : List Nat :=
  match (tileAt s t).serves, s.img.image with
  | some rec, some img =>
    (s.reqs.filter (fun p =>
      decide (p.2.pipeline = rec.pipeline) && decide (p.2.slots.getD rec.stage 0xFF = rec.slot) &&
      (img.pipelines.any (fun q => decide (q.num = rec.pipeline) &&
        (match q.stages[rec.stage]? with
         | some g => midStage p.2 rec.stage g.tilesPerSlot (max g.duration p.2.servFrames)
         | none => false))))).map (·.1)
  | _, _ => []

/-- Requests that a detection in frame `d` on tile `t` affects (R387): a task, stream, landing or token of frames d − 2
to d, or data in the tile at the end of frame d. -/
def affectedByTile (s : State) (t : Nat) : List Nat :=
  let x := tileAt s t
  let d := now s
  asSet ((x.history.filter (fun h => decide (d ≤ h.2 + 2))).map (·.1) ++
    (x.inbox.map (·.entry)) ++ (x.task.toList.map (·.entry)) ++ holdersOf s t ++
    (s.spires.flatMap (fun p => (p.2.queue.filter (fun q => decide (q.cont = some t))).map (·.entry))))

/-- FAULT_REPORT to a session, at most 16 in a frame; further ones are dropped and counted (R402, R403). -/
def faultReport (s : State) (n arg0 arg1 : Nat) : State :=
  match sessAt s n with
  | none => s
  | some _ =>
    let k := tgetD s.belfry.reports n 0
    if k < 16 then
      eventTo { s with belfry := { s.belfry with reports := tset s.belfry.reports n (k + 1) } } n 0x0D arg0 arg1
    else bump s .belfry 0x30 1

/-- ARG0 of a FAULT_REPORT (R403). -/
def faultArg0 (mech action unit entry : Nat) : Nat :=
  mech % 2 ^ 8 + action % 4 * 2 ^ 8 + unit % 2 ^ 16 * 2 ^ 16 + entry % 2 ^ 16 * 2 ^ 32

/-- A tile leaves service (R392): it runs nothing from the next frame on, where its role hands over (R54), and its data
stays in it unread. The task of this frame goes on (R98). -/
def tileOut (s : State) (t : Nat) : State :=
  let x := tileAt s t
  if x.inService then
    let ctxs := match x.serves, x.occupant with
      | some r, _ => if r.ctx < 16 then [r.ctx] else []
      | none, some c => [c]
      | none, none => []
    let s := setTile s t { x with inService := false, switch := none, heldCtx := asSet (x.heldCtx ++ ctxs) }
    let s := { s with belfry := { s.belfry with leaving := addNat t s.belfry.leaving } }
    logService (setFlag s .belfry 0x00 3) t 0
  else s

/-- The blocks whose ENABLE Vermilion clears (R394 step 2). -/
def vermilionBlks : List Blk :=
  (List.range 640).flatMap (fun t => [.tile t, .array t, .stream t, .tdma t, .selnet t, .scale t]) ++
  (List.range 8).flatMap (fun p => [.spire p, .wcache p]) ++ (List.range 32).map (fun k => .lucarne k) ++ [.text]

/-- ENABLE cleared in every enabled block of a list. -/
def clearEnables (s : State) (bs : List Blk) : State :=
  (bs.filter (enabled s)).foldl (fun s b => setEnable s b false) s

/-- Body of a BEACON (R347). -/
def beaconBody (s : State) : List Byte :=
  toLE 1 (devCode s.dev) ++ toLE 1 s.reason ++
  toLE 2 (match s.sec.scrub with | some p => p | none => 0) ++ zeros 4

/-- A BEACON to every valid endpoint (R347). -/
def sendBeacons (s : State) : State :=
  if carries s then
    ((List.range 64).filter (epValid s)).foldl (fun s j => emitOut s (packetOut s j 0 0 5 0 false (beaconBody s))) s
  else s

/-- REFUSE of a submission (R339). -/
def refuseMsg (s : State) (x : Submission) (reason earliest : Nat) : State :=
  bump (sendMsg s x.session x.queue 0x82 x.tag (toLE 1 reason ++ zeros 7 ++ toLE 8 earliest)) .admission 0x18 1

/-- Every accepted request ends in Vermilion: COMPLETE with FAULT, or with the status that already ended it, where its
session is open (R394 step 3, R388). -/
def faultAll (s : State) : State :=
  (s.reqs.map (·.1)).foldl (fun s e =>
    match reqAt s e with
    | some r => complete (dropWork s e) e (if r.state = .ending then r.status else stFault)
    | none => s) s

/-- Entry into Vermilion (R394). -/
def enterVermilion (s : State) : State :=
  if s.dev = .vermilion then s
  else
    let s := { s with pins := { s.pins with fltLow := true }, belfry := { s.belfry with gateClosed := true } }
    let subs := s.adm.subs
    let s := { s with adm := { s.adm with subs := [], replans := [], switches := [] } }
    let s := clearEnables s vermilionBlks
    let idle (x : Tile) : Tile := { x with task := none, run := .idle, passes := [], streams := [] }
    let s := { s with tiles := s.tiles.map (fun p => (p.1, idle p.2)) }
    let s := faultAll s
    let s := setFlag s .belfry 0x00 5
    let s := enterDev s .vermilion 4
    let s := subs.foldl (fun s x => refuseMsg s x 0x07 0) s
    sendBeacons s

/-- A dangerous detection recorded: SAFETY entry, counters, LAST and the unacknowledged record (R389, R401, R404). -/
def recordDetection (s : State) (d : Detection) (action : Nat) : State :=
  let seq := s.belfry.seq
  let s := logEntry s 1 d.mech action d.ctx d.unit d.entry d.detail
  let last : LogEntry := { seq := seq, frame := now s, cls := 1, mech := d.mech, action := action, ctx := d.ctx,
                           unit := d.unit, entry := d.entry, detail := d.detail }
  let s := { s with belfry := { s.belfry with unacked := addNat seq s.belfry.unacked, last := some last } }
  setFlag (bump (bump s .belfry 0x20 1) .belfry (0x100 + 8 * d.mech) 1) .belfry 0x00 1

/-- The same mechanism was detected on the same unit or address within the previous 3,600 s (R391). -/
def recurs (s : State) (d : Detection) : Bool :=
  match d.key with
  | none => false
  | some k => s.belfry.recent.any (fun r => decide (r.1 = d.mech) && decide (r.2.1 = k) &&
      decide ((now s - r.2.2) * periodUs s ≤ 3600000000))

/-- The affected requests join the affected set and end (R387, R388). -/
def affect (s : State) (es : List Nat) (status : Nat) : State :=
  es.foldl (fun s e => endRequest (updReq s e (fun r => { r with affected := true })) e status (now s + 1)) s

/-- What a dangerous detection does (R387 to R394, R403). In Vermilion it is recorded and counted, no more (R396). -/
def detect (s : State) (d : Detection) : State :=
  let action := if recurs s d then 2 else d.action
  if s.dev = .vermilion then recordDetection s d action
  else
    let seq := s.belfry.seq
    let s := recordDetection s d action
    let recent := match d.key with
      | some k => (d.mech, k, now s) :: s.belfry.recent
      | none => s.belfry.recent
    let s := { s with pins := { s.pins with fltLow := true },
                      belfry := { s.belfry with minimums := s.belfry.minimums + 1, recent := recent } }
    let owners := (d.affected.filterMap (fun e => (reqAt s e).map (fun r => (e, r.session))))
    let status := if d.mech = 0x0B ∨ d.mech = 0x0E then stBreached else stFault
    let s := affect s d.affected status
    let s := owners.foldl (fun s o => faultReport s o.2 (faultArg0 d.mech action d.unit o.1) seq) s
    let s := ((hostSessions s).filter (sessPriv s)).foldl
      (fun s n => faultReport s n (faultArg0 d.mech action d.unit 0xFFFF) seq) s
    if action = 1 then tileOut s d.unit
    else if action = 2 then enterVermilion s
    else s

/-- A TILE-action detection on a tile (R390). -/
def detectTile (s : State) (mech t detail : Nat) : State :=
  detect s { mech := mech, action := 1, unit := t, key := none, ctx := 0xFF, entry := 0xFFFF, detail := detail,
             affected := affectedByTile s t }

/-- A DEVICE-action detection (R390). -/
def detectDevice (s : State) (mech unit detail : Nat) : State :=
  detect s { mech := mech, action := 2, unit := unit, key := none, ctx := 0xFF, entry := 0xFFFF, detail := detail,
             affected := [] }

/-- A breach of a Bound promise: a dangerous detection that names the request (R42, R380, R387). -/
def breach (s : State) (e : Nat) : State :=
  match reqAt s e with
  | none => s
  | some r =>
    if ended r then s
    else detect s { mech := 0x0E, action := 0, unit := 0x0600, key := none, ctx := r.ctx, entry := e, detail := 0,
                    affected := [e] }

/-- An Elastic request that can no longer meet its promise joins the replans of the next pass (R43). -/
def replan (s : State) (e : Nat) : State :=
  match reqAt s e with
  | none => s
  | some r =>
    if ended r then s
    else { s with adm := { s.adm with replans := addNat e s.adm.replans } }

/-- A Bound request that loses a task breaches, an Elastic one is replanned (R42, R43). -/
def missed (s : State) (e : Nat) : State :=
  match reqAt s e with
  | none => s
  | some r => if r.elastic then replan s e else breach s e

/-- A stall of cause `k` of a context (R278), with its log entry of class STALL (R401). -/
def stall (s : State) (k c unit e : Nat) : State :=
  logEntry (bump (bump s .tier (0x100 + 8 * k) 1) .tier (0x200 + 8 * c) 1) 4 0 3 c unit e k

/-- A pipeline of the image in service (R55). -/
def pipeOf (s : State) (p : Nat) : Option PipelineRec :=
  match s.img.image with
  | some i => i.pipelines.find? (fun q => decide (q.num = p))
  | none => none

/-- A stage of a pipeline. -/
def stageOf (s : State) (p j : Nat) : Option StageRec :=
  match pipeOf s p with
  | some q => q.stages[j]?
  | none => none

/-- Tiles of one slot of a stage; 0 for a stage that the Dome serves. -/
def tilesPerSlot (s : State) (p j : Nat) : Nat := ((stageOf s p j).map (·.tilesPerSlot)).getD 0

/-- The GEN_STAGE record that names a stage (R234, R266). -/
def servingRec (s : State) (p j : Nat) : Option Nat :=
  leastBelow (fun g => bit (reg s .reqtab (0x200 + 16 * g)) 24 && decide (fld s .reqtab (0x200 + 16 * g) 0 16 = p) &&
    decide (fld s .reqtab (0x200 + 16 * g) 16 8 = j)) 16

/-- A stage of an Elastic request runs on tiles dispatched first-free: a tile stage that is no serving stage (R32, R235). -/
def floats (s : State) (elastic : Bool) (p j : Nat) : Bool :=
  elastic && decide (0 < tilesPerSlot s p j) && (servingRec s p j).isNone

/-- A task enters the dispatch queue of a Spire (R123). -/
def queueTask (s : State) (p : Nat) (q : QTask) : State :=
  let x := spireAt s p
  setSpire s p { x with queue := x.queue ++ [q] }

/-- A step of an Elastic stage that has not completed is queued again (R31, R43): step 0 of a stage that is still to start
anywhere, a later one for the tile that holds its data. -/
def requeue (s : State) (t : Nat) (k : Task) : State :=
  match reqAt s k.entry with
  | none => s
  | some r =>
    if ended r ∨ floats s k.elastic k.pipeline k.stage = false then s
    else queueTask s (t / 80) { entry := k.entry, ctx := k.ctx, rank := k.rank, stage := k.stage, step := k.step, prio := r.prio,
                                promised := r.promised, visible := now s, cont := if k.step = 0 then none else some t }

/-- The program that a task runs. -/
def programOf (s : State) (k : Task) : Option ProgramRec :=
  match s.img.image with
  | some i => i.programs.find? (fun p => decide (p.num = k.program))
  | none => none

/-- Kind of a task's buffer: 0 SCRATCH, 1 PERSIST, 2 INPUT, 3 LANDING (R109). -/
def bufKind (s : State) (k : Task) (b : Nat) : Nat :=
  match programOf s k with
  | some p => ((p.bufs[b]?).map (·.kind)).getD 0
  | none => 0

/-- Key of a byte of a tile buffer. -/
def bufKey (entry : Nat) (half : Bool) (b off : Nat) : Nat := entry * 2 ^ 30 + b * 2 ^ 23 + (if half then 2 ^ 22 else 0) + off

/-- Tile SRAM without the buffers of a request that a test picks. -/
def clearSram (m : Table Byte) (e : Nat) (which : Nat → Bool) : Table Byte :=
  m.filter (fun k => !(decide (k.1 / 2 ^ 30 = e) && which (k.1 % 2 ^ 30 / 2 ^ 23)))

/-- A buffer that holds nothing between two tasks of a stage: SCRATCH, and INPUT, which only step 0 reads (R109, R122). -/
def taskOnly (s : State) (k : Task) (b : Nat) : Bool := decide (bufKind s k b % 2 = 0)

/-- A task aborts on tile `t` with a cause of R136: it publishes nothing, and its request is handled by cause. A cause of
0x1 to 0x3 completes the request with FAULT at once; cause 0x5 is a stall of cause `why`; the others are handled by
their own rules. -/
def abortTask (s : State) (t cause stream why : Nat) : State :=
  let x := tileAt s t
  match x.task with
  | none => s
  | some k =>
    let s := giveBack (setTile s t { x with task := none, run := .idle, passes := [],
                                            sram := clearSram x.sram k.entry (taskOnly s k),
                                            streams := x.streams.filter (fun r => decide (r.frame ≠ k.frame)) }) k.tokens
    let s := setReg s (.tile t) 0x18
      (BitVec.ofNat 64 (cause % 16 + stream % 16 * 16 + k.entry % 2 ^ 16 * 2 ^ 16 + now s % 2 ^ 32 * 2 ^ 32))
    let s := bump (setFlag s (.tile t) 0x08 1) (.tile t) 0x28 1
    if cause = 1 ∨ cause = 2 ∨ cause = 3 then faultNow s k.entry
    else if cause = 5 then requeue (missed (stall s why k.ctx t k.entry) k.entry) t k
    else if cause = 6 then requeue (replan s k.entry) t k
    else s

/-! ### Sessions and contexts -/

/-- The contexts that a session owns are orphaned (R357). -/
def orphan (s : State) (n : Nat) : State :=
  let mine := s.sec.ctxs.filter (fun p => decide (p.2.owner = some n))
  let s := { s with sec := { s.sec with
    ctxs := s.sec.ctxs.map (fun p => (p.1, if p.2.owner = some n then { p.2 with owner := none, aged := false } else p.2)) } }
  if mine = [] then s else setFlag s .ctx 0x00 2

/-- Every delta sent to an endpoint and not covered is lost (R345). -/
def loseDeltas (s : State) (endpoint : Nat) : State :=
  let n := (s.feat.unacked.filter (fun d => decide (d.1 = endpoint))).length
  if n = 0 then s
  else
    let s := { s with feat := { s.feat with unacked := s.feat.unacked.filter (fun d => decide (d.1 ≠ endpoint)) } }
    eventPriv (setFlag s .tytos 0x08 4) 0x0C ((neighbourOf s endpoint).getD endpoint) n

/-- Lend-region granules overwritten with zeros (R276). -/
def zeroPieces (m : Table Byte) (l : List (Nat × Nat)) : Table Byte :=
  l.foldl (fun m p => memZero m (2048 * p.1) (2048 * p.2)) m

/-- Every lease with a neighbour ends at once: its granules are lost at the next boundary, and what this device lends to
it comes back overwritten (R276). -/
def endLeasesWith (s : State) (i : Nat) : State :=
  { s with tier := { s.tier with
      leases := s.tier.leases.map (fun p => (p.1, if p.2.neighbour = i then { p.2 with ended := true } else p.2)),
      lendMem := (s.tier.lent.filter (fun l => decide (l.neighbour = i))).foldl (fun m l => zeroPieces m l.pieces)
        s.tier.lendMem,
      lent := s.tier.lent.filter (fun l => decide (l.neighbour ≠ i)) } }

/-- A session ends: it loses its queues, its unsent data and its keys, and orphans its contexts (R327, R332, R357,
R369). A failed one sets SESSION_FAILED and writes a LINK entry. -/
def endSession (s : State) (n : Nat) (failed : Bool) : State :=
  match sessAt s n with
  | none => s
  | some x =>
    let s := { s with
      port := { s.port with sessions := tdel s.port.sessions n,
                            delivered := s.port.delivered.filter (fun d => decide (d.session ≠ n)) },
      flash := { s.flash with queues := s.flash.queues.filter (fun q => !(x.storqs.contains q.1)),
                              cmds := s.flash.cmds.filter (fun c => decide (c.session ≠ n) || c.started) } }
    let s := if failed then logEntry (setFlag s .tytos 0x08 1) 6 0 3 0xFF 0x0600 0xFFFF n else s
    let s := orphan s n
    if x.mine then
      let s := loseDeltas s x.endpoint
      match neighbourOf s x.endpoint with
      | some i => if failed then endLeasesWith s i else s
      | none => s
    else s

/-- Every session ends (R347, R361). -/
def endAllSessions (s : State) : State := (s.port.sessions.map (·.1)).foldl (fun s n => endSession s n false) s

/-- REJECT of a message (R336). -/
def reject (s : State) (n q type tag reason : Nat) : State :=
  sendMsg s n q 0x8F tag (toLE 2 type ++ toLE 1 reason ++ zeros 5)

end Sys2Proof.Machine
end

