-- ==== Sys2Proof/Machine/Port.lean ====
section
/-! DEFINITION. The Ethernet port and the Tytos transport (chapter 13): link bring-up, address replies, receive errors,
packets, acknowledgements, credit, congestion, sessions, and the SESSION_CTL and SUBMIT messages. -/

namespace Sys2Proof.Machine

/-! ### Link -/

/-- The clock domains of the eight lanes (R20). -/
def laneDomains : List Nat := (List.range 8).map (84 + ·)

/-- The wake-up steps of the eight lanes queued (R432, R433). -/
def wakeLanes (s : State) : State := laneDomains.foldl (fun s d => queueWake s d 0) s

/-- The port stops: ENABLE clear, the link down (R71, R349). -/
def stopPort (s : State) : State :=
  let up := s.port.up
  let s := gateDomains (setEnable { s with port := { s.port with up := false, training := false } } .mac false) laneDomains
  if up then setFlag s .mac 0x08 2 else s

/-- MAC_CTRL written by a permitted write (R71, R349): setting ENABLE starts bring-up, clearing it stops the port. -/
def writeMacCtrl (s : State) (v : Word) : State :=
  let en := bit v 0
  if enabled s .mac then
    let differs := decide (bits v 1 1 ≠ fld s .mac 0 1 1)
    let s := if differs then setFlag s .mac 0x08 0 else s
    if en then s else stopPort s
  else
    let s := setFld s .mac 0 1 1 (bits v 1 1)
    if en then wakeLanes (setEnable { s with port := { s.port with training := true } } .mac true) else s

/-- MAC_ENABLE: the operator's write of MAC_CTRL (R349). In Vermilion the write is DENIED (R69, R395). -/
def execMacEnable (v : Word) (s : State) : Res :=
  if s.dev = .vermilion then .next (emitOut s (.access 2 0))
  else .next (emitOut (saveMgmt (writeMacCtrl s v) .mac 0 v) (.access 0 0))

/-- Every queue of every session sends what it may. -/
def pumpSessions (s : State) : State :=
  (s.port.sessions.flatMap (fun e => e.2.queues.map (fun q => (e.1, q.1)))).foldl (fun s p => pumpAll s p.1 p.2) s

/-- LINK_UP: bring-up completes and the port carries traffic (R349). -/
def execLinkUp (s : State) : Res :=
  if s.port.training then
    .next (pumpSessions (setFlag { s with port := { s.port with up := true, training := false } } .mac 0x08 1))
  else .next s

/-- LINK_DOWN: the PCS loses alignment; the bring-up steps repeat, and sessions keep their state (R349, R332). -/
def execLinkDown (s : State) : Res :=
  if s.port.up then .next (setFlag { s with port := { s.port with up := false, training := true } } .mac 0x08 2)
  else .next s

/-- A received frame or packet outside the port's subset: dropped and counted (R322 to R324, R350). -/
def rxDrop (s : State) : State := setFlag (bump s .mac 0x58 1) .mac 0x08 4

/-- A whole-device scrub runs: every received packet is dropped (R347). -/
def scrubbing (s : State) : Bool := s.sec.scrub.isSome

/-- ARP_REQUEST: a request for the IPv4 address is answered; any other is dropped (R323). -/
def execArpRequest (target senderMac senderIp : Nat) (s : State) : Res :=
  if s.port.up = false then .next s
  else if scrubbing s then .next s
  else
    let s := bump s .mac 0x48 1
    let mine := fld s .mac 0x20 0 32
    if mine ≠ 0 ∧ target = mine then .next (bump (emitOut s (.arpReply senderMac senderIp)) .mac 0x50 1)
    else .next (rxDrop s)

/-- NEIGHBOR_SOLICITATION: a solicitation of the IPv6 address is answered with an Advertisement (R323). -/
def execNeighborSolicitation (target senderMac : Nat) (s : State) : Res :=
  if s.port.up = false then .next s
  else if scrubbing s then .next s
  else
    let s := bump s .mac 0x48 1
    if ipv6Addr s ≠ 0 ∧ target = ipv6Addr s then
      .next (bump (emitOut s (.neighborAdvert senderMac target)) .mac 0x50 1)
    else .next (rxDrop s)

/-- RECEIVE_ERROR: the frame, codeword or packet is counted, and dropped where it is one (R321, R350). FCS and FEC errors
write LINK entries (R401). -/
def execReceiveError (e : RxErr) (s : State) : Res :=
  if s.port.up = false then .next s
  else
    match e with
    | .badFcs => .next (logEntry (bump s .mac 0x60 1) 6 0 3 0xFF 0x0600 0xFFFF 0)
    | .fecUncorrected => .next (logEntry (setFlag (bump s .mac 0x70 1) .mac 0x08 3) 6 0 3 0xFF 0x0600 0xFFFF 0)
    | .fecCorrected n => .next (bump s .mac 0x68 n)
    | .outside => .next (rxDrop s)
    | .pause => .next (rxDrop s)

/-! ### Acknowledgement and credit -/

/-- A storage queue, by number (R327). -/
def isStorq (q : Nat) : Bool := decide (q < 64)

/-- Credit beyond NEXT that the device grants on a queue: 1,024 packets on message queues; 32 on storage queues, so that
64 queues fit the 32 MiB of transport buffers (R285, R333; DESIGN CHOICE within the rule). -/
def creditWindow (q : Nat) : Nat := if isStorq q then 32 else 1024

/-- Commands of a storage queue that have not completed. -/
def outstandingOf (s : State) (q : Nat) : Nat := (s.flash.cmds.filter (fun c => decide (c.cmd.queue = q))).length

/-- CMD_LIMIT of a storage queue: never more than 4,096 outstanding (R333). -/
def cmdLimit (s : State) (q : Nat) (y : QueueSt) : Nat :=
  if isStorq q then y.cmds + (4096 - outstandingOf s q) else 0

/-- SACK bits: bit i is set when SEQ NEXT + 1 + i is held (R331). -/
def sackBits (y : QueueSt) : Nat :=
  (List.range 64).foldl (fun acc i => if (tget y.rxHeld (y.rxNext + 1 + i)).isSome then acc + 2 ^ i else acc) 0

/-- An ACK for a queue, with the credit granted now (R331). -/
def sendAck (s : State) (n q : Nat) : State :=
  match sessAt s n with
  | none => s
  | some x =>
    match tget x.queues q with
    | none => s
    | some y =>
      let y := { y with rxLimit := y.rxNext + creditWindow q, rxSinceAck := 0, ackSerial := y.ackSerial + 1 }
      let body := toLE 4 y.rxNext ++ toLE 4 y.rxLimit ++ toLE 8 (sackBits y) ++ toLE 4 (cmdLimit s q y) ++
        toLE 1 (if x.ece then 1 else 0) ++ zeros 3
      let s := setSess s n { x with queues := tset x.queues q y }
      if carries s then
        bump (emitOut s (packetOut s x.endpoint (wireSession n) q 1 ((y.ackSerial - 1) % 2 ^ 32) x.keys body)) .mac 0x50 1
      else s

/-- ACK_DELAY: 8 µs after a DATA packet the acknowledgement leaves (R331). -/
def execAckDelay (n q : Nat) (s : State) : Res :=
  match sessAt s n with
  | none => .next s
  | some x =>
    match tget x.queues q with
    | none => .next s
    | some y => if y.rxSinceAck = 0 then .next s else .next (sendAck s n q)

/-- Distance of a 32-bit sequence number ahead of an expected one (R330). -/
def seqAhead (seq expected : Nat) : Nat := (seq % 2 ^ 32 + 2 ^ 32 - expected % 2 ^ 32) % 2 ^ 32

/-! ### Message framing -/

/-- Types that a host may send on a queue of its session, and a neighbour on this device's or its own (R335). -/
def typePermitted (x : Session) (dev : Bool) (q type : Nat) : Bool :=
  let control := decide (q = x.firstMsgq)
  match type with
  | 0x01 => control
  | 0x02 => !(isStorq q)
  | 0x03 => control
  | 0x04 => control
  | 0x05 => isStorq q
  | 0x06 => control
  | 0x40 => dev && decide (q = x.firstMsgq + 1)
  | 0x41 => dev && decide (q = x.firstMsgq + 1)
  | 0x42 => dev && control
  | _ => false

/-- Dimension of a feature table, from FTAB_FORMAT (R192, R205). -/
def tableDim (s : State) (t : Nat) : Nat := if t < 64 then fld s .tier (0x9018 + 64 * t) 8 13 else 0

/-- Bytes that `n` deltas at the front of a byte string take; `none` when they run past its end (R205, R345). -/
def deltaBytes (s : State) : Nat → List Byte → Option Nat
  | 0, _ => some 0
  | n + 1, bs =>
    if bs.length < 32 then none
    else
      let k := 32 + 4 * tableDim s (fieldLE bs 0 2)
      if bs.length < k then none else (deltaBytes s n (bs.drop k)).map (· + k)

/-- The length that a message's body calls for; `none` when the body is too short to say (R336 reason 2). -/
def lengthOf (s : State) (type : Nat) (body : List Byte) : Option Nat :=
  match type with
  | 0x01 => some 32
  | 0x02 =>
    if body.length < 32 then none
    else
      let blocks := fieldLE body 3 1
      let input := fieldLE body 16 4
      if 1048576 < input then none
      else some (16 + 32 + (if blocks % 2 = 1 then 32 else 0) + (if blocks / 2 % 2 = 1 then 616 else 0) + input)
  | 0x03 => if body.length < 32 then none else some (16 + 32 + fieldLE body 16 4)
  | 0x04 => some 32
  | 0x05 =>
    if body.length < 64 then none
    else some (16 + 64 + (if fieldLE body 0 1 = 0x02 then fieldLE body 16 4 else 0))
  | 0x06 => if body.length < 4 then none else some (16 + body.length)
  | 0x40 => if body.length < 8 then none else (deltaBytes s (fieldLE body 0 4) (body.drop 8)).map (· + 24)
  | 0x41 => some 32
  | 0x42 =>
    if body.length < 24 then none
    else
      let op := fieldLE body 0 1
      some (16 + 24 + (if op = 8 ∨ op = 9 then body.length - 24 else 0))
  | _ => none

/-- A reserved field of a message is not 0, or a code is out of its range (R336 reason 3). -/
def reservedBad (type : Nat) (header body : List Byte) : Bool :=
  !(zeroRange header 2 2) ||
  match type with
  | 0x01 => !(zeroRange body 4 12)
  | 0x02 => !(zeroRange body 6 2) || !(zeroRange body 20 12) || decide (3 < fieldLE body 3 1) ||
      decide (1 < fieldLE body 1 1) || decide (7 < fieldLE body 2 1)
  | 0x03 => !(zeroRange body 5 3) || !(zeroRange body 20 12) || decide (fieldLE body 0 1 = 0) ||
      decide (5 < fieldLE body 0 1) || (decide (fieldLE body 0 1 ≠ 5) && decide (fieldLE body 1 1 ≠ 0)) ||
      (decide (fieldLE body 0 1 = 5) && decide (fieldLE body 1 1 = 0 ∨ 3 < fieldLE body 1 1))
  | 0x04 => !(zeroRange body 1 3) || decide (1 < fieldLE body 0 1)
  | 0x40 => !(zeroRange body 4 4)
  | 0x41 => !(zeroRange body 2 6)
  | 0x42 => !(zeroRange body 1 3) || decide (fieldLE body 0 1 = 0) || decide (10 < fieldLE body 0 1)
  | _ => false

/-- The lowest REASON for which a complete message cannot be taken (R336). -/
def rejectReason (s : State) (x : Session) (q : Nat) (m : List Byte) : Option Nat :=
  let type := fieldLE m 0 2
  let body := m.drop 16
  if !(typePermitted x (epDevice s x.endpoint) q type) then some 1
  else if lengthOf s type body ≠ some m.length then some 2
  else if reservedBad type (m.take 16) body then some 3
  else if type = 0x03 ∧ epPriv s x.endpoint = false then some 4
  else none

/-- A complete message of a queue's stream: delivered, or answered with REJECT (R330, R336). -/
def deliver (s : State) (n q stamp : Nat) (m : List Byte) : State :=
  match sessAt s n with
  | none => s
  | some x =>
    let type := fieldLE m 0 2
    let tag := fieldLE m 8 8
    match rejectReason s x q m with
    | some r => reject s n q type tag r
    | none =>
      { s with port := { s.port with delivered := s.port.delivered ++
          [{ session := n, queue := q, type := type, tag := tag, stamp := stamp }] } }

/-- Messages cut from a queue's stream, at most `fuel`; a header that cannot frame the stream fails the session (R330). -/
def frameStream (s : State) (n q stamp : Nat) : Nat → State
  | 0 => s
  | fuel + 1 =>
    match sessAt s n with
    | none => s
    | some x =>
      match tget x.queues q with
      | none => s
      | some y =>
        if y.rxStream.length < 16 then s
        else
          let len := fieldLE y.rxStream 4 4
          if len < 16 ∨ 1049600 < len then endSession s n true
          else if y.rxStream.length < len then s
          else
            let m := y.rxStream.take len
            let s := setSess s n { x with queues := tset x.queues q { y with rxStream := y.rxStream.drop len } }
            frameStream (deliver s n q stamp m) n q stamp fuel

/-- Held packets that follow in sequence join the stream (R330). -/
def drainHeld (y : QueueSt) : Nat → QueueSt
  | 0 => y
  | fuel + 1 =>
    match tget y.rxHeld y.rxNext with
    | none => y
    | some d =>
      drainHeld { y with rxHeld := tdel y.rxHeld y.rxNext, rxStream := y.rxStream ++ d, rxNext := y.rxNext + 1 } fuel

/-! ### Packets received -/

/-- A packet that no session, endpoint or queue takes (R326, R328). -/
def tytosDrop (s : State) : State := bump s .tytos 0x30 1

/-- A packet that fails R329. -/
def authDrop (s : State) : State := setFlag (bump s .tytos 0x40 1) .tytos 0x08 3

/-- A DATA packet in its queue (R330, R331, R333). -/
def takeData (s : State) (n : Nat) (p : PacketIn) (x : Session) (y : QueueSt) : State :=
  let ahead := seqAhead p.seq y.rxNext
  if 2 ^ 31 ≤ ahead then sendAck s n p.queue
  else if y.rxLimit ≤ y.rxNext + ahead then setFlag s .tytos 0x08 2
  else if ahead ≠ 0 then
    let y := if (tget y.rxHeld (y.rxNext + ahead)).isSome then y
             else { y with rxHeld := tset y.rxHeld (y.rxNext + ahead) p.data }
    sendAck (setSess s n { x with queues := tset x.queues p.queue y }) n p.queue
  else
    let gap := y.rxHeld ≠ []
    let y := drainHeld { y with rxStream := y.rxStream ++ p.data, rxNext := y.rxNext + 1 } y.rxHeld.length
    let y := { y with rxSinceAck := y.rxSinceAck + 1 }
    let s := setSess s n { x with queues := tset x.queues p.queue y }
    let s := if gap ∨ 16 ≤ y.rxSinceAck then sendAck s n p.queue else s
    frameStream s n p.queue p.stamp (y.rxStream.length / 16)

/-- A protected session ends before any queue direction's SEQ would reach 2^32 (R369). -/
def checkExhausted (s : State) (n : Nat) : State :=
  match sessAt s n with
  | none => s
  | some x =>
    if x.keys = true ∧ x.queues.any (fun q => decide (2 ^ 32 ≤ q.2.rxNext + 1) || decide (2 ^ 32 ≤ q.2.txNext + 1)) then
      setFlag (endSession s n true) .crypto 0x00 3
    else s

/-- Table key of a session that this device opened (see `Session`). -/
def mineKey (endpoint session : Nat) : Nat := session % 2 ^ 32 + 2 ^ 32 * (1 + endpoint)

/-- Session `n` is with an endpoint and holds a queue. -/
def sessHolds (s : State) (n endpoint queue : Nat) : Bool :=
  match sessAt s n with
  | some x => decide (x.endpoint = endpoint) && (tget x.queues queue).isSome
  | none => false

/-- Table key of the session that a packet belongs to (R327, R328): one that its endpoint opened, else one that this device
opened to it. -/
def sessionOf (s : State) (p : PacketIn) : Option Nat :=
  if sessHolds s p.session p.endpoint p.queue then some p.session
  else if sessHolds s (mineKey p.endpoint p.session) p.endpoint p.queue then some (mineKey p.endpoint p.session)
  else none

/-- A Tytos packet of a KIND received: counted, and dropped where its sender, CRC or form is wrong (R326, R328, R334, R347);
`f` does the rest. -/
def receivePacket (kind : Nat) (p : PacketIn) (s : State) (f : State → State) : Res :=
  if carries s = false then .next s
  else if p.kind ≠ kind then malformed "KIND"
  else if scrubbing s then .next s
  else
    let s := bump s .mac 0x48 1
    let s := if p.ce then bump s .tytos 0x38 1 else s
    if epValid s p.endpoint = false then .next (tytosDrop s)
    else if p.crcOk = false then .next (setFlag (bump s .tytos 0x48 1) .tytos 0x08 5)
    else if p.formOk = false then .next (tytosDrop s)
    else .next (f s)

/-- A received packet taken to its session and queue (R328, R329): a CE mark is noted; a session with keys takes only a
protected packet whose tag verifies, any other only an unprotected one. `again` tells the one unprotected packet that is
still acknowledged. -/
def packetSession (p : PacketIn) (again : Session → QueueSt → Bool) (f : State → Nat → Session → QueueSt → State)
    (s : State) : State :=
  match sessionOf s p with
  | none => tytosDrop s
  | some n =>
    match sessAt s n with
    | none => tytosDrop s
    | some x =>
      match tget x.queues p.queue with
      | none => tytosDrop s
      | some y =>
        let x := if p.ce then { x with ece := true } else x
        let s := setSess s n x
        if x.keys = true ∨ x.rxProtected = true then
          if p.protectedFlag = true ∧ p.tagOk = true then f s n x y
          else if p.protectedFlag = false ∧ again x y then sendAck s n p.queue
          else authDrop s
        else if p.protectedFlag then authDrop s
        else f s n x y

/-- DATA: a Tytos DATA packet (R326, R328 to R331). After FINISH is verified, an unprotected packet is taken only as the
retransmission of FINISH, which is acknowledged and otherwise ignored (R368). -/
def execData (p : PacketIn) (s : State) : Res :=
  receivePacket 0 p s (packetSession p
    (fun x y => !x.keys && decide (p.queue = x.firstMsgq) && decide (2 ^ 31 ≤ seqAhead p.seq y.rxNext))
    (fun s n x y => checkExhausted (takeData s n p x y) n))

/-- One packet sent again, as it was first sent (R329, R332). -/
def retransmit (s : State) (j n q seq : Nat) (k : TxPacket) : State :=
  bump (bump (emitOut s (packetOut s j (wireSession n) q 0 (seq % 2 ^ 32) k.protectedFlag k.data)) .mac 0x50 1) .tytos 0x28 1

/-- A received SACK shows SEQ `seq` (R331). -/
def sacked (next : Nat) (sack : BitVec 64) (seq : Nat) : Bool :=
  decide (next < seq) && decide (seq - next - 1 < 64) && sack.getLsbD (seq - next - 1)

/-- Packets that a SACK calls back: unacknowledged, not shown, three later ones shown, and not called back in the last RTO
(R332). -/
def fastSeqs (y : QueueSt) (next : Nat) (sack : BitVec 64) : List Nat :=
  (y.tx.filter (fun e => !e.2.fast && !(sacked next sack e.1) &&
    decide (3 ≤ ((y.tx.filter (fun f => decide (e.1 < f.1) && sacked next sack f.1)).length)))).map (·.1)

/-- A packet called back by SACK is sent again and marked. -/
def fastResend (s : State) (n q seq : Nat) : State :=
  match sessAt s n with
  | none => s
  | some x =>
    match tget x.queues q with
    | none => s
    | some y =>
      match tget y.tx seq with
      | none => s
      | some k =>
        let y := { y with tx := tset y.tx seq { k with fast := true } }
        retransmit (setSess s n { x with queues := tset x.queues q y }) x.endpoint n q seq k

/-- The switch of R368 step 3: the first ACK that covers FINISH_RSP installs the keys. -/
def keySwitch (s : State) (x : Session) (q next : Nat) : State × Session :=
  match x.finishRsp with
  | some f =>
    if q = x.firstMsgq ∧ f < next then
      (setFlag s .crypto 0x00 1, { x with keys := true, finishRsp := none })
    else (s, x)
  | none => (s, x)

/-- The effect of an ACK body on its queue: acknowledgement, credit, SACK and ECE (R331 to R334, R368). -/
def takeAck (s : State) (n q : Nat) (body : List Byte) (x : Session) (y : QueueSt) : State :=
  let step := seqAhead (fieldLE body 0 4) y.txAcked
  let next := if step < 2 ^ 31 ∧ y.txAcked + step ≤ y.txNext then y.txAcked + step else y.txAcked
  let room := seqAhead (fieldLE body 4 4) next
  let limit := if room < 2 ^ 31 then max y.txLimit (next + room) else y.txLimit
  let sack : BitVec 64 := BitVec.ofNat 64 (fieldLE body 8 8)
  let ece := decide (fieldLE body 20 1 = 1)
  let y := { y with txAcked := next, txLimit := limit, tx := y.tx.filter (fun e => decide (next ≤ e.1)) }
  let x := { x with rateMbps := if ece && !x.halved then max 10000 (x.rateMbps / 2) else x.rateMbps,
                    halved := x.halved || ece, queues := tset x.queues q y }
  let sx := keySwitch s x q next
  let s := setSess sx.1 n sx.2
  let s := (fastSeqs y next sack).foldl (fun s i => fastResend s n q i) s
  let qs := if sx.2.keys = x.keys then [q] else x.queues.map (·.1)
  checkExhausted (qs.foldl (fun s q => pumpAll s n q) s) n

/-- ACK: the body of R331 acts on its queue and direction; one of another length is dropped. -/
def execAck (p : PacketIn) (s : State) : Res :=
  receivePacket 1 p s (packetSession p (fun _ _ => false) (fun s n x y =>
    if p.data.length = 24 then takeAck s n p.queue p.data x y else tytosDrop s))

/-- RTO_EXPIRY: the packet is sent again, or after MAX_RETRIES the session fails (R332). While the link is down nothing
leaves and the session keeps its state (R349). -/
def execRtoExpiry (n q seq : Nat) (s : State) : Res :=
  if carries s = false then .next s
  else
    match sessAt s n with
    | none => .next s
    | some x =>
      match tget x.queues q with
      | none => .next s
      | some y =>
        match tget y.tx seq with
        | none => .next s
        | some k =>
          if fld s .tytos 0x18 16 4 ≤ k.retries then .next (endSession s n true)
          else
            let k' := { k with retries := k.retries + 1, fast := false }
            let s := setSess s n { x with queues := tset x.queues q { y with tx := tset y.tx seq k' } }
            .next (retransmit s x.endpoint n q seq k)

/-- A queue has data that waits for credit (R332). -/
def waitsCredit (y : QueueSt) : Bool := decide (y.txStream ≠ []) && decide (y.txLimit ≤ y.txNext)

/-- LINK_HOLD_EXPIRY: the link has been down, or credit withheld, beyond LINK_HOLD_MS (R332). -/
def execLinkHoldExpiry (n : Nat) (s : State) : Res :=
  match sessAt s n with
  | none => .next s
  | some x =>
    if s.port.up = false ∨ x.queues.any (fun q => waitsCredit q.2) then .next (endSession s n true)
    else .next s

/-- RATE_INCREASE: 64 µs have passed without ECE: R rises by 16 Gb/s, up to 1.6 Tb/s, and the marks of the last 64 µs
lapse (R334). -/
def execRateIncrease (n : Nat) (s : State) : Res :=
  match sessAt s n with
  | none => .next s
  | some x =>
    .next (setSess s n { x with rateMbps := min 1600000 (x.rateMbps + 16000), ece := false, halved := false })

/-! ### Sessions -/

/-- Message queues held by sessions that endpoints opened. -/
def usedMsgqs (s : State) : List Nat :=
  (s.port.sessions.filter (fun e => !e.2.mine)).flatMap (fun e => (List.range e.2.msgq).map (· + e.2.firstMsgq))

/-- Storage queues held. -/
def usedStorqs (s : State) : List Nat := s.port.sessions.flatMap (fun e => e.2.storqs)

/-- The lowest message queue from which `k` consecutive ones are free (R327). -/
def freeMsgq (s : State) (k : Nat) : Option Nat :=
  let used := usedMsgqs s
  (leastBelow (fun i => decide (64 + i + k ≤ 1088) &&
    used.all (fun q => decide (q < 64 + i ∨ 64 + i + k ≤ q))) 1024).map (· + 64)

/-- The `k` lowest free storage queues (R327). -/
def freeStorqs (s : State) (k : Nat) : Option (List Nat) :=
  let used := usedStorqs s
  let free := (List.range 64).filter (fun q => !(used.contains q))
  if free.length < k then none else some (free.take k)

/-- A queue as it opens. -/
def newQueue (q : Nat) : QueueSt :=
  { rxNext := 0, rxHeld := [], rxStream := [], rxLimit := creditWindow q, rxSinceAck := 0, ackSerial := 0, cmds := 0,
    txNext := 0, txAcked := 0, txLimit := 0, tx := [], txStream := [] }

/-- A session as it opens: unprotected, at 1.6 Tb/s (R334, R440). -/
def newSession (endpoint : Nat) (mine : Bool) (first msgq : Nat) (storqs : List Nat) : Session :=
  { endpoint := endpoint, mine := mine, firstMsgq := first, msgq := msgq, storqs := storqs,
    queues := storqs.map (fun q => (q, newQueue q)) ++
      (List.range msgq).map (fun i => (first + i, newQueue (first + i))),
    rxProtected := false, keys := false, finishRsp := none,
    spdm := { version := false, capabilities := false, algorithms := false, exchanged := false, established := false },
    ece := false, halved := false, rateMbps := 1600000 }

/-- The first number from `n` on, 2^32 − 1 followed by 1, that names no session, within `fuel`. -/
def unusedFrom (s : State) (n : Nat) : Nat → Nat
  | 0 => n
  | fuel + 1 => if (sessAt s n).isSome then unusedFrom s (n % (2 ^ 32 - 1) + 1) fuel else n

/-- A random non-zero session number that no session holds, and the state after the draw (R327). -/
def drawSession (s : State) : Nat × State :=
  (unusedFrom s (1 + Config.random s.fresh % (2 ^ 32 - 1)) s.port.sessions.length, { s with fresh := s.fresh + 1 })

/-- Body of an OPEN_REPLY (R327). -/
def openReplyBody (reason first : Nat) (storqs : List Nat) : List Byte :=
  toLE 1 reason ++ zeros 1 ++ toLE 2 first ++ zeros 4 ++ toLE 8 (storqs.foldl (fun m q => m + 2 ^ q) 0)

/-- The session that an endpoint opened to this device, if it holds one. -/
def openedBy (s : State) (endpoint : Nat) : Option Nat :=
  ((s.port.sessions.find? (fun e => decide (e.2.endpoint = endpoint) && !e.2.mine)).map (·.1))

/-- A session granted whole or refused (R327). The endpoint's earlier session fails first; a home that opens anew
loses the sender's uncovered deltas (R345). Start-up before step 9 refuses with STATE (R435). -/
def openFor (endpoint : Nat) (body : List Byte) (s : State) : State :=
  let msgq := fieldLE body 0 1
  let storq := fieldLE body 1 1
  let s := match openedBy s endpoint with
    | some n => endSession s n true
    | none => s
  let s := if epDevice s endpoint then loseDeltas s endpoint else s
  let reply (s : State) (n : Nat) (b : List Byte) : State :=
    bump (emitOut s (packetOut s endpoint n 0 3 0 false b)) .mac 0x50 1
  let refuse (reason : Nat) : State := reply s 0 (openReplyBody reason 0 [])
  if 1 ≤ s.power.phase ∧ s.power.phase ≤ 8 then refuse 3
  else if msgq = 0 ∨ 16 < msgq ∨ 64 < storq ∨ zeroRange body 2 6 = false then refuse 4
  else if 64 ≤ s.port.sessions.length then refuse 1
  else
    match freeMsgq s msgq, freeStorqs s storq with
    | some first, some storqs =>
      let d := drawSession s
      reply (setSess d.2 d.1 (newSession endpoint false first msgq storqs)) d.1 (openReplyBody 0 first storqs)
    | _, _ => refuse 2

/-- OPEN: taken on QUEUE 0 with SESSION 0, unprotected, with the 8 bytes of R327; any other is dropped (R328, R329). -/
def execOpen (endpoint : Nat) (ce : Bool) (header wire : List Byte) (s : State) : Res :=
  let p := plainPacket endpoint ce header wire
  receivePacket 2 p s (fun s =>
    if p.session ≠ 0 ∨ p.queue ≠ 0 then tytosDrop s
    else if p.protectedFlag then authDrop s
    else if p.data.length ≠ 8 then tytosDrop s
    else openFor p.endpoint p.data s)

/-- This device holds a session that it opened to an endpoint. -/
def mineTo (s : State) (endpoint : Nat) : Option Nat :=
  ((s.port.sessions.find? (fun e => decide (e.2.endpoint = endpoint) && e.2.mine)).map (·.1))

/-- NEIGHBOUR_OPEN: in Ivory or Amber the device opens a session, MSGQ 2 and STORQ 0, to a DEVICE endpoint that a valid
neighbour record names and to which it has none (R327). -/
def execNeighbourOpen (endpoint : Nat) (s : State) : Res :=
  if carries s = false then .next s
  else if serving s ∧ epValid s endpoint ∧ epDevice s endpoint ∧ (neighbourOf s endpoint).isSome ∧
      mineTo s endpoint = none ∧ s.port.opening.contains endpoint = false then
    .next (bump (emitOut { s with port := { s.port with opening := s.port.opening ++ [endpoint] } }
      (packetOut s endpoint 0 0 2 0 false (toLE 1 2 ++ zeros 7))) .mac 0x50 1)
  else .next s

/-- OPEN_REPLY: the answer to this device's OPEN; any other is dropped (R327). -/
def execOpenReply (endpoint : Nat) (ce : Bool) (header wire : List Byte) (s : State) : Res :=
  let p := plainPacket endpoint ce header wire
  receivePacket 3 p s (fun s =>
    if s.port.opening.contains p.endpoint = false then tytosDrop s
    else if p.protectedFlag then authDrop s
    else if p.data.length ≠ 16 then tytosDrop s
    else
      let s := { s with port := { s.port with opening := s.port.opening.filter (fun e => decide (e ≠ p.endpoint)) } }
      if fieldLE p.data 0 1 = 0 ∧ p.session ≠ 0 then
        setSess s (mineKey p.endpoint p.session) (newSession p.endpoint true (fieldLE p.data 2 2) 2 [])
      else s)

/-- CLOSE_PACKET: a session ends at once (R327, R357). -/
def execClosePacket (p : PacketIn) (s : State) : Res :=
  receivePacket 4 p s (packetSession p (fun _ _ => false) (fun s n _ _ => endSession s n false))

/-- A whole-device scrub has gone on since the last BEACON: its share of the Keep granules never falls (R361). How fast the
Keep bases overwrite their stacks is free. -/
def advanceScrub (s : State) : State :=
  match s.sec.scrub with
  | none => s
  | some p => { s with sec := { s.sec with scrub := some (max p (Config.scrubShare s.fresh % 1001)) }, fresh := s.fresh + 1 }

/-- BEACON: once per millisecond in Sable, Slate and Vermilion, with the progress of a scrub (R347, R361). -/
def execBeacon (s : State) : Res :=
  if serving s then .next s else .next (sendBeacons (advanceScrub s))

/-! ### SESSION_CTL and SUBMIT -/

/-- SESSION_REPLY (R337). -/
def sessionReply (s : State) (n tag op ctx queue status : Nat) : State :=
  sendCtl s n 0x86 tag (toLE 1 op ++ toLE 1 ctx ++ toLE 2 queue ++ toLE 1 status ++ zeros 11)

/-- A context newly OPEN, owned by a session; confidential when the session's keys are installed (R354, R355). Its
acceptance estimates become 0.5, the default of the table (R255). -/
def openCtx (s : State) (n c : Nat) (x : Session) : State :=
  let s := setCtx s c { state := .opened, owner := some n, endpoint := x.endpoint, confidential := x.keys, aged := false,
                        closing := false, replies := [], left := 0 }
  setFlag { s with serv := { s.serv with est := s.serv.est.filter (fun e => decide (e.1 / 16 ≠ c)) } } .ctx 0x00 1

/-- The image in service has a QUOTAS record for a context (R56, R355). -/
def hasQuota (s : State) (c : Nat) : Bool :=
  match s.img.image with
  | some i => i.quotas.any (fun q => decide (q.ctx = c))
  | none => false

/-- The grant table's mask and REQUIRE_CONF for a context (R355). -/
def grantOf (s : State) (c : Nat) : Word × Bool := tgetD s.nv.grants c (0, false)

/-- OPEN_CONTEXT (R355, R357): the first row of R355 that applies. -/
def execOpenContext (n tag c : Nat) (s : State) : Res :=
  match sessAt s n with
  | none => .next s
  | some x =>
    let reply (s : State) (st : Nat) : Res := .next (sessionReply s n tag 1 c 0 st)
    let g := grantOf s c
    if 15 < c ∨ hasQuota s c = false then reply s 3
    else if serving s = false then reply s 2
    else
      match ctxAt s c with
      | some k =>
        if k.state = .slate then reply s 2
        else if bit g.1 x.endpoint = false then reply s 1
        else if g.2 = true ∧ x.keys = false then reply s 1
        else
          match k.owner with
          | some o => if o = n then reply s 0 else reply s 1
          | none =>
            if k.confidential = true ∧ x.keys = false then reply s 1
            else reply (setCtx s c { k with owner := some n, endpoint := x.endpoint, aged := false }) 0
      | none =>
        if bit g.1 x.endpoint = false then reply s 1
        else if g.2 = true ∧ x.keys = false then reply s 1
        else reply (openCtx s n c x) 0

/-- CLOSE_CONTEXT (R356): the reply to a successful one leaves when the context enters SLATE. -/
def execCloseContext (n tag c : Nat) (s : State) : Res :=
  match sessAt s n with
  | none => .next s
  | some _ =>
    let reply (st : Nat) : Res := .next (sessionReply s n tag 2 c 0 st)
    if 15 < c then reply 3
    else
      match ctxAt s c with
      | none => reply 1
      | some k =>
        if k.owner ≠ some n then reply 1
        else if k.state = .slate then reply 2
        else .next (setCtx s c { k with closing := true, replies := k.replies ++ [(n, tag)] })

/-- BIND_QUEUE (R337): a storage queue of the session bound to a context that the session owns, or to the management path
from a PRIVILEGED endpoint. -/
def execBindQueue (n tag c q : Nat) (s : State) : Res :=
  match sessAt s n with
  | none => .next s
  | some x =>
    let reply (s : State) (st : Nat) : Res := .next (sessionReply s n tag 3 c q st)
    let bind (s : State) : State := { s with flash := { s.flash with queues := tset s.flash.queues q c } }
    if x.storqs.contains q = false then reply s 3
    else if c = 0xFF then (if epPriv s x.endpoint then reply (bind s) 0 else reply s 1)
    else if 15 < c then reply s 3
    else
      match ctxAt s c with
      | none => reply s 1
      | some k =>
        if k.owner ≠ some n then reply s 1
        else if k.state = .slate then reply s 2
        else reply (bind s) 0

/-- The delivered record of a message, if DATA framed it, and the records without it. -/
def takeDelivered (s : State) (n q type tag : Nat) : Option Delivered × List Delivered :=
  let hit (d : Delivered) : Bool :=
    decide (d.session = n) && decide (d.queue = q) && decide (d.type = type) && decide (d.tag = tag)
  (s.port.delivered.find? hit, s.port.delivered.eraseP hit)

/-- SUBMIT: the submission joins those of the next pass, with the arrival stamp of the packet that completed it (R35,
R338). Outside Ivory and Amber it is answered with STATE (R39). -/
def execSubmit (n q tag : Nat) (b : SubmitBody) (s : State) : Res :=
  match sessAt s n with
  | none => .next s
  | some x =>
    if (tget x.queues q).isNone then .next s
    else if isStorq q then .next (reject s n q 0x02 tag 1)
    else
      let d := takeDelivered s n q 0x02 tag
      let s := { s with port := { s.port with delivered := d.2 } }
      let sub : Submission := { session := n, queue := q, tag := tag, stamp := (d.1.map (·.stamp)).getD 0, body := b }
      if serving s then .next { s with adm := { s.adm with subs := s.adm.subs ++ [sub] } }
      else .next (refuseMsg s sub 0x07 0)

end Sys2Proof.Machine
end

