-- ==== Sys2Proof/Machine/Timer.lean ====
section
/-! DEFINITION. The frame timer and its time reference: enabling, acquisition, lock states, jumps and losses of the
reference (chapter 02 R22 to R29), and the slave-only ordinary clock of the port (chapter 13 R325). -/

namespace Sys2Proof.Machine

/-- REFSEL (R27). -/
def refsel (s : State) : Nat := fld s .frame 0 1 2

/-- Frames run from ENABLE: the counter holds 0, and the timer is FREE or ACQUIRING (R22, R23). -/
def startFrames (s : State) : State :=
  setEnable { s with frame := { s.frame with
    count := 0, lock := if refsel s = 2 then .free else .acquiring, good := 0, acquired := false, present := false,
    nextFrame := none, offsetNs := 0, steer := 0, ppsSecond := none } } .frame true

/-- ENABLE set: the timer starts, or CFG_RANGE is set and ENABLE stays 0 (R27). -/
def enableFrame (s : State) : State :=
  if 100 ≤ periodUs s ∧ periodUs s ≤ 4000 ∧ refsel s ≠ 3 then startFrames s else setFlag s .frame 0x30 1

/-- FRAME_CTRL written by a permitted write (R27, R71). Software cannot clear ENABLE of an Image-owned block. -/
def writeFrameCtrl (s : State) (v : Word) : State :=
  if enabled s .frame then
    if bits v 1 2 = refsel s then s else setFlag s .frame 0x30 0
  else
    let s := setFld s .frame 0 1 2 (bits v 1 2)
    if bit v 0 then enableFrame s else s

/-- Frames stop: ENABLE is clear and the timer is FREE again (R66). -/
def stopFrames (s : State) : State :=
  setEnable { s with frame := { s.frame with lock := .free, good := 0, acquired := false, present := false,
                                             nextFrame := none, steer := 0, ppsSecond := none } } .frame false

/-- A reference is selected and the timer runs. -/
def referenced (s : State) : Bool := enabled s .frame && decide (refsel s < 2)

/-- The timer leaves LOCKED for a state (R25): ALIGN_LOST with the last OFFSET_NS. -/
def leaveLocked (s : State) (l : Lock) : State :=
  eventAll (setFlag { s with frame := { s.frame with lock := l } } .frame 0x30 3) 0x05 (twos 64 s.frame.offsetNs) 0

/-- The reference moved by `step` ns: beyond 1 µs it jumped, which sets TIME_STEP and ends LOCKED (R23, R24). -/
def timeStep (s : State) (step : Int) : State :=
  if 1000 < step ∨ step < -1000 then
    let s := eventAll (setFlag s .frame 0x30 4) 0x06 (twos 64 step) 0
    let s := { s with frame := { s.frame with good := 0 } }
    if s.frame.lock = .locked then leaveLocked s .holdover else s
  else s

/-- The first frame whose start, EPOCH + n × PERIOD_US µs, lies after a reference time in ns (R22). -/
def firstFrameAfter (epochNs periodNs refNs : Nat) : Nat :=
  if refNs < epochNs then 0 else (refNs - epochNs) / periodNs + 1

/-- Nanoseconds in a second. -/
def secondNs : Nat := 1000000000

/-- A reference time at which the selected reference can first arrive: with REFSEL 1, in the second that the last edge of
PPS_IN marked; with REFSEL 0, once a Sync of the chosen master has been taken (R23, R325). -/
def referenceArrived (s : State) (refNs : Nat) : Bool :=
  if refsel s = 1 then
    match s.frame.ppsSecond with
    | some k => decide (k * secondNs ≤ refNs ∧ refNs < (k + 1) * secondNs)
    | none => false
  else s.frame.ptp.lastSync.isSome

/-- REFERENCE_ACQUIRED: in Sable the selected reference first arrives, and the next boundary begins the frame that R22
gives (R24). -/
def execReferenceAcquired (refNs : Nat) (s : State) : Res :=
  if referenced s && decide (s.dev = .sable) && !s.frame.acquired && referenceArrived s refNs then
    .next { s with frame := { s.frame with
      acquired := true, present := true,
      nextFrame := some (firstFrameAfter (reg s .frame 0x10).toNat (periodUs s * 1000) refNs) } }
  else .next s

/-- LOCK_ACQUIRED: the offset has been below 50 ns for 16 consecutive frames (R23, R24). -/
def execLockAcquired (s : State) : Res :=
  if referenced s && decide (s.frame.lock ≠ .locked) && decide (16 ≤ s.frame.good) then
    .next { s with frame := { s.frame with lock := .locked } }
  else .next s

/-- REF_LOST: the reference being received is lost; from LOCKED the timer goes to HOLDOVER (R23, R25). -/
def execRefLost (s : State) : Res :=
  if referenced s && s.frame.present then
    let s := eventAll (setFlag { s with frame := { s.frame with present := false, good := 0 } } .frame 0x30 2) 0x04 0 0
    .next (if s.frame.lock = .locked then leaveLocked s .holdover else s)
  else .next s

/-- PPS_EDGE: a rising edge of PPS_IN, whose first after ENABLE marks second FRAME_PPS_SECONDS; `stepNs` is by how much it
departs from where the edges before it placed it. With another reference selected the pin is not used (R23). -/
def execPpsEdge (stepNs : Int) (s : State) : Res :=
  if enabled s .frame && decide (refsel s = 1) then
    match s.frame.ppsSecond with
    | none =>
      .next { s with frame := { s.frame with ppsSecond := some (reg s .frame 0x18).toNat, present := true } }
    | some k => .next (timeStep { s with frame := { s.frame with ppsSecond := some (k + 1), present := true } } stepNs)
  else .next s

/-! ### The ordinary clock -/

/-- An IEEE 1588 message enters the clock: it came by the transport that PTP_IPV6 selects, or it is dropped and counted
(R322); and it is of domain MAC_PTP.DOMAIN, or the clock discards it (R325). -/
def takePtp (s : State) (domain : Nat) (ipv6 : Bool) (take : State → State) : Res :=
  if s.port.up = false then .next s
  else if s.sec.scrub.isSome then .next s
  else
    let s := bump s .mac 0x48 1
    if ipv6 ≠ bit (reg s .mac 0x38) 8 then .next (setFlag (bump s .mac 0x58 1) .mac 0x08 4)
    else if domain ≠ fld s .mac 0x38 0 8 then .next s
    else .next (take s)

/-- Master `a` is better than or as good as `b` under the dataset comparison of IEEE 1588-2019 (R325). -/
def betterMaster (a b : AnnounceIn) : Bool :=
  let key (x : AnnounceIn) : List Nat :=
    [x.priority1, x.clockClass, x.accuracy, x.variance, x.priority2, x.grandmaster, x.steps, x.port]
  let rec le : List Nat → List Nat → Bool
    | x :: xs, y :: ys => if x < y then true else if y < x then false else le xs ys
    | _, _ => true
  le (key a) (key b)

/-- ANNOUNCE: the master it describes joins those heard, and the clock chooses the best (R325). -/
def execAnnounce (a : AnnounceIn) (s : State) : Res :=
  takePtp s a.domain a.ipv6 (fun s =>
    let ms := s.frame.ptp.masters.filter (fun m => decide (m.port ≠ a.port)) ++ (if a.steps < 255 then [a] else [])
    let best := ms.foldl (fun acc m => match acc with
      | none => some m
      | some b => if betterMaster b m then some b else some m) (none : Option AnnounceIn)
    { s with frame := { s.frame with ptp := { s.frame.ptp with masters := ms, parent := best.map (·.port) } } })

/-- A completed Sync: origin and receive time give the offset, and a change of it shows a jump of the reference where
IEEE 1588 time is selected (R24, R325). -/
def completeSync (s : State) (t1 t2 : Int) : State :=
  let p := s.frame.ptp
  let offset := t2 - t1 - p.delayNs
  let first := p.lastSync.isNone
  let s' := { s with frame := { s.frame with
    ptp := { p with offsetNs := offset, lastSync := some (t1, t2), pendingSync := none } } }
  if enabled s .frame && decide (refsel s = 0) then
    let s' := { s' with frame := { s'.frame with present := true } }
    if first || !s.frame.present || !s.frame.acquired then s' else timeStep s' (offset - p.offsetNs)
  else s'

/-- SYNC: a Sync of the chosen master, whose origin time it carries or leaves to its Follow_Up (R325). -/
def execSync (p : PtpIn) (s : State) : Res :=
  takePtp s p.domain p.ipv6 (fun s =>
    if s.frame.ptp.parent ≠ some p.port then s
    else if p.twoStep then
      { s with frame := { s.frame with ptp := { s.frame.ptp with pendingSync := some (p.seq, p.localNs, p.corrNs) } } }
    else completeSync s p.remoteNs (p.localNs - p.corrNs))

/-- FOLLOW_UP: the origin time of the two-step Sync with its sequence number (R325). -/
def execFollowUp (p : PtpIn) (s : State) : Res :=
  takePtp s p.domain p.ipv6 (fun s =>
    match s.frame.ptp.pendingSync with
    | some (seq, t2, c) =>
      if s.frame.ptp.parent = some p.port ∧ seq = p.seq then completeSync s p.remoteNs (t2 - c - p.corrNs) else s
    | none => s)

/-- DELAY_REQ: the clock sends a Delay_Req to its master (R325). -/
def execDelayReq (seq : Nat) (sentNs : Int) (s : State) : Res :=
  if s.port.up && s.frame.ptp.parent.isSome then
    .next (emitOut (bump { s with frame := { s.frame with ptp := { s.frame.ptp with pendingReq := some (seq, sentNs) } } }
      .mac 0x50 1) (.delayReq seq))
  else .next s

/-- DELAY_RESP: the mean of the two one-way times, from the last Sync and the Delay_Req answered (R325). -/
def execDelayResp (p : PtpIn) (s : State) : Res :=
  takePtp s p.domain p.ipv6 (fun s =>
    let c := s.frame.ptp
    match c.pendingReq, c.lastSync with
    | some (seq, t3), some (t1, t2) =>
      if c.parent = some p.port ∧ seq = p.seq then
        { s with frame := { s.frame with ptp := { c with
            pendingReq := none, delayNs := ((t2 - t1) + (p.remoteNs - p.corrNs - t3)) / 2 } } }
      else s
    | _, _ => s)

end Sys2Proof.Machine
end

