-- ==== Sys2Proof/Machine/Belfry.lean ====
section
/-! DEFINITION. Belfry (chapter 15): link CRC failures, lock-step, the audit, FLT_N and acknowledgement, latent faults,
incidents, the configuration parity sweep (R73), and the spare switch-in of an array (R99, R100). -/

namespace Sys2Proof.Machine

/-- LINK_CRC: a flit fails once and is sent again, or fails twice; more than 16 retries of one link in a frame also fail
it (R384). The link is named by the unit it belongs to; a tile's own fabric port is a TILE failure, any other link a
DEVICE failure (R390). -/
def execLinkCrc (u : UnitId) (ownPort twice : Bool) (s : State) : Res :=
  if unitExists u = false then malformed "unit"
  else
    let own := match u with
      | .tile _ => ownPort
      | _ => false
    let key := 2 * unitCode u + (if own then 1 else 0)
    let k := tgetD s.belfry.retries key 0 + 1
    let s := bump { s with belfry := { s.belfry with retries := tset s.belfry.retries key k } } .belfry 0x38 1
    let s := logEntry s 6 0 3 0xFF (unitCode u) 0xFFFF 0
    if twice = true ∨ 16 < k then
      match u, own with
      | .tile t, true => .next (detectTile s 0x09 t 0)
      | _, _ => .next (detectDevice s 0x09 (unitCode u) 0)
    else .next s

/-- LOCKSTEP: the control cores or the Belfry halves disagree (R385). -/
def execLockstep (s : State) : Res := .next (detectDevice s 0x0C 0x0600 0)

/-- BELFRY_HALF_HEARTBEAT: each half checks the other's heartbeat every 1,024 cycles (R385). -/
def execBelfryHalfHeartbeat (missing : Bool) (s : State) : Res :=
  if missing then .next (detectDevice s 0x0C 0x0600 0) else .next s

/-- The audit's copy of an acceptance agrees with the request table (R386). A request that has ended or been replanned
since is no longer compared. -/
def auditAgrees (s : State) (a : Acceptance) : Bool :=
  match reqAt s a.entry with
  | none => true
  | some r => decide (r.acceptFrame ≠ now s) ||
      (decide (r.start = a.start) && decide (r.promised = a.promised) && decide (r.slots = a.slots))

/-- AUDIT: the audit unit completes by the end of the frame of the pass; a disagreement is uncontained (R386). -/
def execAudit (upset : Bool) (s : State) : Res :=
  let bad := upset || !(s.adm.auditCopy.all (auditAgrees s))
  let s := { s with adm := { s.adm with auditCopy := [] } }
  if bad then .next (detectDevice s 0x0D 0x0600 0) else .next s

/-- FLT_N is released once every minimum has ended and every dangerous record is acknowledged, outside Vermilion and
outside a brownout or trip (R389, R429). -/
def releaseFlt (s : State) : State :=
  if s.belfry.minimums = 0 ∧ s.belfry.unacked = [] ∧ s.dev ≠ .vermilion ∧ s.belfry.gateClosed = false then
    { s with pins := { s.pins with fltLow := false } }
  else s

/-- FLT_N_MINIMUM_END: the 1 ms minimum of one detection ends (R389). -/
def execFltNMinimumEnd (s : State) : Res :=
  if s.belfry.minimums = 0 then .next s
  else .next (releaseFlt { s with belfry := { s.belfry with minimums := s.belfry.minimums - 1 } })

/-- Every dangerous record with SEQ at or below a value is acknowledged (R405). -/
def acknowledge (s : State) (v : Word) : State :=
  releaseFlt { s with belfry := { s.belfry with unacked := s.belfry.unacked.filter (fun q => decide (v.toNat < q)) } }

/-- BELFRY_ACK: a management write, permitted in every state (R395, R404, R405). -/
def execBelfryAck (v : Word) (s : State) : Res := .next (emitOut (acknowledge s v) (.access 0 0))

/-! ### Spare switch-in -/

/-- Physical rows or columns marked bad in ARRAY_REPAIR (R104): rows are fields 0 and 1, columns fields 2 and 3. -/
def badLines (s : State) (t i : Nat) : List Nat :=
  ([fld s (.array t) 0x10 (8 * i) 8, fld s (.array t) 0x10 (8 * i + 8) 8]).filter (fun r => decide (r ≠ 0xFF))

/-- Physical lines that serve, in ascending order: those of 0 to 131 not marked bad (R99). -/
def goodLines (bad : List Nat) : List Nat := (List.range 132).filter (fun i => !(bad.contains i))

/-- Physical PE of a logical row and column (R99). -/
def physPe (s : State) (t row col : Nat) : Nat × Nat :=
  ((goodLines (badLines s t 0)).getD row 131, (goodLines (badLines s t 2)).getD col 131)

/-- A spare row is in use: a data or checksum row maps beyond physical row 129 (R99, R101). -/
def spareRowUsed (rows : List Nat) : Bool := decide (129 < (goodLines rows).getD 129 131)

/-- One faulty PE taken out of the mapping (R99, R100 steps 1 to 3): its row while fewer than two rows are marked, then its
column; with both used up the tile is retired. A PE that lies in a line already marked changes nothing. The repair stage
enters the feeder with the first spare row in use (R101). -/
def markPe (s : State) (t : Nat) (pe : Nat × Nat) : State :=
  let rows := badLines s t 0
  let cols := badLines s t 2
  if rows.contains pe.1 ∨ cols.contains pe.2 then s
  else if rows.length < 2 then
    let s := setFld s (.array t) 0x10 (8 * rows.length) 8 pe.1
    let s := if spareRowUsed (rows ++ [pe.1]) then setFld (setFld s (.array t) 0x10 32 1 1) (.array t) 0x18 0 9 273 else s
    logEntry s 5 0 3 0xFF t 0xFFFF (regAddr (.array t) 0x10)
  else if cols.length < 2 then
    let s := setFld s (.array t) 0x10 (16 + 8 * cols.length) 8 pe.2
    logEntry s 5 0 3 0xFF t 0xFFFF (regAddr (.array t) 0x10)
  else setFld s (.array t) 0x10 33 1 1

/-- The spare switch-in of a tile (R100): the PEs found faulty in service, and then those that failing test passes locate,
leave the mapping one after the other. SPARE_SWITCHED is set once the tile passes with a mapping that changed. -/
def switchIn (pes : List (Nat × Nat × Nat)) (s : State) (t : Nat) : State :=
  let x := tileAt s t
  let l := x.badPes ++ (pes.filter (fun q => decide (q.1 = t))).map (·.2)
  let u := l.foldl (fun s pe => markPe s t pe) (setTile s t { x with badPes := [] })
  if reg u (.array t) 0x10 = reg s (.array t) 0x10 ∨ bit (reg u (.array t) 0x10) 33 then u else setFlag u (.array t) 0x08 5

/-- A tile is retired (R99, R104). -/
def retired (s : State) (t : Nat) : Bool := bit (reg s (.array t) 0x10) 33

/-! ### Latent faults -/

/-- A latent fault found: LATENT entry, counter and flag (R398). -/
def latent (s : State) (mech unit detail : Nat) : State :=
  setFlag (bump (logEntry s 2 mech 3 0xFF unit 0xFFFF detail) .belfry 0x28 1) .belfry 0x00 2

/-- A tile leaves service at the next boundary, with no requests affected (R398). -/
def failTile (s : State) (t : Nat) : State :=
  { s with belfry := { s.belfry with failing := addNat t s.belfry.failing } }

/-- The latent fault of a unit whose failure puts the device in Vermilion (R389, R398). -/
def latentVermilion (s : State) (mech unit : Nat) : State := detectDevice (latent s mech unit 0) 0x0C unit 0

/-- INCIDENT_END: 4 s of service without a dropped entry; the summary is written (R402, R415). -/
def execIncidentEnd (s : State) : Res :=
  match s.belfry.incident with
  | none => .next s
  | some i =>
    .next { s with
      belfry := { s.belfry with incident := none },
      nv := { s.nv with
        summaries := ringPush 4096 s.nv.summaries { num := s.nv.summaryNext, boot := s.nv.boots, incident := i },
        summaryNext := s.nv.summaryNext + 1 } }

/-! ### Configuration parity -/

/-- The tile of a tile-level block (R64, R73). -/
def tileLevel : Blk → Option Nat
  | .tile t | .array t | .stream t | .tdma t | .selnet t | .scale t => some t
  | _ => none

/-- Unit code of a block in log entries (R401). -/
def blkUnit : Blk → Nat
  | .spire p | .wcache p => 0x0500 + p
  | .keep k | .lucarne k => 0x0400 + k
  | .tile t | .array t | .stream t | .tdma t | .selnet t | .scale t => t
  | _ => 0x0600

/-- A block clears its own ENABLE and stops (R71, R73): the frame timer, the port; FLASH goes on with its registers at their
reset values (R319), and so does PWRSEQ, which applies those while its ENABLE is 0 (R441). -/
def stopBlock (s : State) (b : Blk) : State :=
  match b with
  | .frame => stopFrames s
  | .mac => stopPort s
  | .flash => setEnable { s with regs := s.regs.filter (fun e => e.1 ≠ regAddr .flash 0x10 ∧ e.1 ≠ regAddr .flash 0x18) } b false
  | _ => setEnable s b false

/-- A configuration parity mismatch of a register (R73, R390): the block stops, and Belfry records the register's address. -/
def parityFault (s : State) (a : Nat) (b : Blk) : State :=
  let s := stopBlock s b
  match tileLevel b with
  | some t => detectTile s 0x08 t a
  | none => detectDevice s 0x08 (blkUnit b) a

/-- An address is that of a configuration register. -/
def isCfgAddr (a : Nat) : Bool :=
  match decodeAddr a with
  | some (b, off) =>
    match regDesc b off with
    | some d => d.cfg
    | none => false
  | none => false

/-- CONFIG_PARITY_SWEEP: the sweep checks every configuration word; `bad` are the addresses that mismatch (R73). -/
def execConfigParitySweep (bad : List Nat) (s : State) : Res :=
  if bad.all isCfgAddr then
    .next (bad.foldl (fun s a =>
      match decodeAddr a with
      | some (b, _) => parityFault s a b
      | none => s) s)
  else malformed "address"

end Sys2Proof.Machine
end

