-- ==== Sys2Proof/Machine/Flash.lean ====
section
/-! DEFINITION. The Wavor flash tier (chapter 12): modules and planes, placement, the write buffer, folds, garbage
collection, retirement, the journal and the restart, namespaces, and the storage queues with their commands. -/

namespace Sys2Proof.Machine

/-! ### Modules, namespaces, placement -/

/-- Module on port `m`. -/
def modAt (s : State) (m : Nat) : Option Module := tget s.flash.modules m

/-- Module on port `m` written. -/
def setMod (s : State) (m : Nat) (x : Module) : State :=
  { s with flash := { s.flash with modules := tset s.flash.modules m x } }

/-- A module that has been taken into service and has not failed (R289). -/
def modUsable (x : Module) : Bool := x.present && !x.failed

/-- A module that counts in M (R296): present, not failed, restored and in PS0. -/
def modInM (x : Module) : Bool := modUsable x && !x.restoring && decide (x.pstate = 0) && !x.waking

/-- Number of modules that count in M (R274, R296). -/
def modulesInM (s : State) : Nat := (s.flash.modules.filter (fun p => modInM p.2)).length

/-- Port of the usable module with a serial. -/
def portOf (s : State) (serial : Nat) : Option Nat :=
  (s.flash.modules.find? (fun p => modUsable p.2 && decide (p.2.serial = serial))).map (·.1)

/-- Namespace `n`, unless ABSENT. -/
def nsAt (s : State) (n : Nat) : Option Namespace := tget s.flash.nss n

/-- Namespace `n` written. -/
def setNs (s : State) (n : Nat) (x : Namespace) : State := { s with flash := { s.flash with nss := tset s.flash.nss n x } }

/-- The state of a namespace as R308 reports it: OFFLINE while a module of its set is absent or failed. -/
def nsState (s : State) (x : Namespace) : NsState :=
  if x.serials.all (fun r => (portOf s r).isSome) then x.state else .offline

/-- Code of a namespace state; ABSENT is 0 (R308). -/
def nsCode : NsState → Nat
  | .active => 1
  | .readOnly => 2
  | .deleting => 3
  | .offline => 4

/-- Ports of the modules of a namespace's set that are usable, in placement order. -/
def nsPorts (s : State) (x : Namespace) : List Nat := x.serials.filterMap (portOf s)

/-- Mask of a list of ports. -/
def maskOf (l : List Nat) : Nat := l.foldl (fun acc m => acc ||| 2 ^ m) 0

/-- Bytes of a granule. -/
def granuleBytes : Nat := 16384

/-- Key of a granule in a module's map: NSID and granule number. -/
def gkey (ns g : Nat) : Nat := ns * 2 ^ 44 + g

/-- Address of a granule's bytes in the flash contents. -/
def gaddr (ns g : Nat) : Nat := ns * 2 ^ 58 + granuleBytes * g

/-- Place in the module set, and plane of the module (channel × 32 + die × 4 + plane), of granule `g` in a set of `w`
modules (R292). -/
def place (w g : Nat) : Nat × Nat := (g % w, g / w % 8 * 32 + g / (8 * w) % 8 * 4 + g / (64 * w) % 4)

/-- Port and plane of a granule of a namespace, if its module is usable. -/
def placeOf (s : State) (x : Namespace) (g : Nat) : Option (Nat × Nat) :=
  let p := place x.serials.length g
  match x.serials[p.1]? with
  | some r => (portOf s r).map (fun m => (m, p.2))
  | none => none

/-- Map value of a page: plane, block, page. -/
def loc (plane block page : Nat) : Nat := plane * 2 ^ 32 + block * 2 ^ 16 + page

/-! ### Seals of pages -/

/-- CRC-32C of a page: the data, the NSID, the granule and the write sequence number (R293). -/
def pageCrc (data : List Byte) (ns g seq : Nat) : Nat := crc32c (data ++ toLE 1 ns ++ toLE 6 g ++ toLE 8 seq)

/-- The bytes of a granule. -/
def granuleOf (s : State) (ns g : Nat) : List Byte := memRead s.flash.data (gaddr ns g) granuleBytes

/-- A page's CRC matches (R293); a granule that holds an image's bytes alone has no page seal. -/
def sealOk (s : State) (ns g : Nat) : Bool :=
  match tget s.flash.seals (gkey ns g) with
  | some z => decide (z.crc = pageCrc (granuleOf s ns g) ns g z.seq)
  | none => true

/-- A page sealed with its write sequence number. -/
def sealPage (s : State) (ns g seq : Nat) : State :=
  { s with flash := { s.flash with
    seals := tset s.flash.seals (gkey ns g) { seq := seq, crc := pageCrc (granuleOf s ns g) ns g seq } } }

/-- Bytes of a namespace's image written in place; the pages they touch keep a matching seal. -/
def flashPut (s : State) (a : Nat) (bs : List Byte) : State :=
  let ns := a / 2 ^ 58
  let first := a % 2 ^ 58 / granuleBytes
  let s := { s with flash := { s.flash with data := memWrite s.flash.data a bs } }
  (List.range (bs.length / granuleBytes + 2)).foldl (fun s i =>
    match tget s.flash.seals (gkey ns (first + i)) with
    | some z => sealPage s ns (first + i) z.seq
    | none => s) s

/-- Where the map of a module holds a granule. -/
def mapped (s : State) (m ns g : Nat) : Option Nat :=
  match modAt s m with
  | some x => tget x.map (gkey ns g)
  | none => none

/-- Granule `g` of a namespace is mapped. -/
def gMapped (s : State) (n : Nat) (x : Namespace) (g : Nat) : Bool :=
  match placeOf s x g with
  | some p => (mapped s p.1 n g).isSome
  | none => false

/-! ### Planes and blocks -/

/-- Plane `p` of a module; unlisted planes are as first use leaves them. -/
def planeAt (x : Module) (p : Nat) : Plane :=
  tgetD x.planes p { blocks := [], bad := [], fold := none, retired := 0, exhausted := false, collecting := false }

/-- Plane `p` of a module written. -/
def setPlane (x : Module) (p : Nat) (y : Plane) : Module := { x with planes := tset x.planes p y }

/-- Good blocks of a plane below block `b`. -/
def goodRank (y : Plane) (b : Nat) : Nat := b - (y.bad.filter (fun c => decide (c < b))).length

/-- A block as first use leaves it: the first 8 good blocks are system, the next 60 the write buffer, the rest QLC
(R290). -/
def factoryBlock (y : Plane) (b : Nat) : FlashBlock :=
  let r := goodRank y b
  { role := if r < 8 then .system else if r < 68 then .buffer else .qlc, oneBit := decide (r < 68), erases := 0,
    state := .free, cls := 0, pages := [], age := 0 }

/-- Block `b` of a plane, if it is good. -/
def blockAt (y : Plane) (b : Nat) : Option FlashBlock :=
  if 2484 ≤ b ∨ y.bad.contains b then none else some (tgetD y.blocks b (factoryBlock y b))

/-- Block `b` of a plane written. -/
def setBlock (y : Plane) (b : Nat) (k : FlashBlock) : Plane := { y with blocks := tset y.blocks b k }

/-- Good blocks of a plane that satisfy a condition, in ascending number. -/
def blocksWhere (y : Plane) (p : FlashBlock → Bool) : List (Nat × FlashBlock) :=
  (List.range 2484).filterMap (fun b =>
    match blockAt y b with
    | some k => if p k then some (b, k) else none
    | none => none)

/-- Free blocks of a role. -/
def freeOf (y : Plane) (r : BlockRole) : List (Nat × FlashBlock) :=
  blocksWhere y (fun k => decide (k.role = r) && decide (k.state = .free))

/-- The block to allocate: the lowest erase count, then the lowest number (R301). -/
def leastWorn (l : List (Nat × FlashBlock)) : Option (Nat × FlashBlock) :=
  (sortBy (fun a b => decide (a.2.erases ≤ b.2.erases)) l).head?

/-- Erase limit of a block in its current mode (R289, R303). -/
def eraseLimit (k : FlashBlock) : Nat := if k.oneBit then 30000 else 1500

/-- Pages of a block in its current mode (R289). -/
def pagesPerBlock (k : FlashBlock) : Nat := if k.oneBit then 768 else 3072

/-- Spare count S of a plane (R290, R303): 226 with no factory-bad block. -/
def spareS (y : Plane) : Nat := 226 - y.bad.length - y.retired

/-- Free blocks may be so few that a plane breaks R290 at first use: S below 0. -/
def planeTooBad (y : Plane) : Bool := decide (226 < y.bad.length)

/-- Least S over the planes of a module. -/
def spareMin (x : Module) : Nat := x.planes.foldl (fun acc p => min acc (spareS p.2)) 226

/-- A journal record written (R304). -/
def journal (x : Module) (kind : JournalKind) (nsid a b c : Nat) : Module :=
  { x with journal := x.journal ++ [{ kind := kind, nsid := nsid, a := a, b := b, c := c }] }

/-- The pages of a block, with their granules, that the map still points at and whose namespace is not being deleted
(R300, R305). -/
def validOf (s : State) (x : Module) (plane block : Nat) (k : FlashBlock) : List (Nat × Nat) :=
  ((List.range k.pages.length).zip k.pages).filterMap (fun q =>
    match q.2 with
    | some key =>
      let deleting := match nsAt s (key / 2 ^ 44) with
        | some n => decide (n.state = .deleting)
        | none => true
      if tget x.map key = some (loc plane block q.1) ∧ deleting = false then some (key, loc plane block q.1) else none
    | none => none)

/-! ### Storage replies -/

/-- A completion record of R313 with its data, as STORAGE_REPLY (R343). -/
def storReply (s : State) (n q tag status nsid result info : Nat) (data : List Byte) : State :=
  sendMsg s n q 0x89 0
    (toLE 2 tag ++ toLE 1 status ++ toLE 1 q ++ toLE 1 nsid ++ zeros 3 ++ toLE 8 result ++ toLE 8 info ++ zeros 8 ++ data)

/-- The FLUSH commands of a queue that now complete: no command submitted before them is outstanding (R312). -/
def settleFlush (s : State) (q : Nat) : State :=
  let waiting := s.flash.cmds.filter (fun c => decide (c.cmd.queue = q))
  let ready := waiting.filter (fun c => decide (c.op = 0x04) && waiting.all (fun d => decide (c.seq ≤ d.seq) ||
    decide (d.op = 0x04)))
  ready.foldl (fun s c =>
    storReply { s with flash := { s.flash with cmds := s.flash.cmds.filter (fun d => decide (d.seq ≠ c.seq)) } }
      c.session q c.cmd.tag 0 c.cmd.nsid 0 0 []) s

/-- An outstanding command completes (R313). -/
def storDone (s : State) (c : Outstanding) (status nsid result info : Nat) (data : List Byte) : State :=
  settleFlush (storReply { s with flash := { s.flash with cmds := s.flash.cmds.filter (fun d => decide (d.seq ≠ c.seq)) } }
    c.session c.cmd.queue c.cmd.tag status nsid result info data) c.cmd.queue

/-- An outstanding command changed. -/
def setCmd (s : State) (c : Outstanding) : State :=
  { s with flash := { s.flash with cmds := s.flash.cmds.map (fun d => if d.seq = c.seq then c else d) } }

/-- The outstanding command of a queue with a tag. -/
def cmdAt (s : State) (q tag : Nat) : Option Outstanding :=
  s.flash.cmds.find? (fun c => decide (c.cmd.queue = q) && decide (c.cmd.tag = tag))

/-! ### Retirement and end of life -/

/-- Ports of a namespace's set include a module. -/
def nsOn (s : State) (x : Namespace) (m : Nat) : Bool := (nsPorts s x).contains m

/-- End of life of a module (R317): its namespaces become READ_ONLY, its WRITEs and TRIMs that have not started complete
with MEDIA_EXHAUSTED, and the event leaves. -/
def endOfLife (s : State) (m : Nat) : State :=
  match modAt s m with
  | none => s
  | some x =>
    if x.eol then s
    else
      let hit := s.flash.nss.filter (fun n => nsOn s n.2 m)
      let s := setMod s m { x with eol := true }
      let s := hit.foldl (fun s n =>
        let s := if n.2.state = .active then setNs s n.1 { n.2 with state := .readOnly } else s
        match modAt s m with
        | some x => setMod s m (journal x .readOnly n.1 0 0 0)
        | none => s) s
      let stop := s.flash.cmds.filter (fun c => decide (c.op = 0x02 ∨ c.op = 0x03) && !c.started &&
        (hit.any (fun n => decide (n.1 = c.cmd.nsid))))
      let s := stop.foldl (fun s c => storDone s c 0x08 c.cmd.nsid 0 m []) s
      eventPriv (setFlag s .flash 0x08 4) 0x08 m 0

/-- A block retires (R303): S falls by 1, and a system or buffer block is replaced by the least-worn free QLC block, which
is switched to 1-bit mode. With S at 0 the plane is exhausted (R317). -/
def retire (s : State) (m plane block : Nat) : State :=
  match modAt s m with
  | none => s
  | some x =>
    let y := planeAt x plane
    match blockAt y block with
    | none => s
    | some k =>
      let last := spareS y = 0
      let y := setBlock { y with retired := y.retired + 1, exhausted := y.exhausted || decide last } block
        { k with state := .retired, pages := [] }
      let y := if k.role = .qlc then y
        else match leastWorn (freeOf y .qlc) with
          | some r => setBlock y r.1 { r.2 with role := k.role, oneBit := true }
          | none => y
      let s := setMod s m (journal (setPlane x plane y) .retire 0 plane block 0)
      if last then endOfLife s m else s

/-! ### Writing pages -/

/-- Heat region key of a granule (R299). -/
def heatKey (ns g : Nat) : Nat := ns * 2 ^ 32 + g / 4096

/-- Class of a granule write: 0 HOT, 1 WARM, 2 COLD (R299). -/
def writeClass (x : Module) (ns g : Nat) : Nat :=
  if x.granuleWrites < 10000 then 1
  else
    let h := tgetD x.heat (heatKey ns g) 0
    if 8 ≤ h then 0 else if h = 0 then 2 else 1

/-- The open buffer block of a class, or a free one allocated for it (R297, R301). -/
def openBuffer (y : Plane) (cls : Nat) : Option (Nat × FlashBlock) :=
  match (blocksWhere y (fun k => decide (k.role = .buffer) && decide (k.state = .opened) && decide (k.cls = cls))).head? with
  | some b => some b
  | none => (leastWorn (freeOf y .buffer)).map (fun b => (b.1, { b.2 with state := .opened, cls := cls, pages := [] }))

/-- A page programmed in a block, which closes when its last page is. -/
def programPage (k : FlashBlock) (page : Option Nat) (age : Nat) : FlashBlock :=
  let pages := k.pages ++ [page]
  { k with pages := pages, age := age,
           state := if pages.length < pagesPerBlock k then k.state else .closed }

/-- The open QLC collection block of a plane, or a free one allocated for it (R302). -/
def openCollection (y : Plane) : Option (Nat × FlashBlock) :=
  match (blocksWhere y (fun k => decide (k.role = .qlc) && decide (k.state = .opened))).head? with
  | some b => some b
  | none => (leastWorn (freeOf y .qlc)).map (fun b => (b.1, { b.2 with state := .opened, cls := 2, pages := [] }))

/-- One valid granule copied into the collection block of its plane and mapped there (R302). -/
def collectOne (x : Module) (plane key : Nat) : Module :=
  let y := planeAt x plane
  match openCollection y with
  | none => x
  | some b =>
    let page := b.2.pages.length
    let x := setPlane x plane (setBlock y b.1 (programPage b.2 (some key) x.granuleWrites))
    journal { x with map := tset x.map key (loc plane b.1 page), relocGranules := x.relocGranules + 1,
                     qlcGranules := x.qlcGranules + 1 } .map (key / 2 ^ 44) (key % 2 ^ 44) plane b.1

/-- The valid granules of a block collected, with the counters of R319. -/
def collectBlock (s : State) (m plane block : Nat) : State :=
  match modAt s m with
  | none => s
  | some x =>
    match blockAt (planeAt x plane) block with
    | none => s
    | some k =>
      let live := validOf s x plane block k
      let x := live.foldl (fun x v => collectOne x plane v.1) x
      bump (bump (setMod s m x) .flash 0x40 live.length) .flash 0x38 live.length

/-- A block waits for its erase. -/
def toErase (s : State) (m plane block : Nat) : State :=
  match modAt s m with
  | none => s
  | some x =>
    let y := planeAt x plane
    match blockAt y block with
    | none => s
    | some k => setMod s m (setPlane x plane (setBlock y block { k with state := .erasing, pages := [] }))

/-! ### Waking and starting -/

/-- Exit latencies of PS0 to PS3 in µs (R316). -/
def exitUs : Nat → Nat
  | 0 => 0
  | 1 => 1000
  | 2 => 10000
  | _ => 200000

/-- Frames from the current one to the first that begins after a module's exit latency (R296). -/
def wakeFrames (s : State) (x : Module) : Nat := 1 + ceilDiv (exitUs x.pstate) (periodUs s)

/-- A module below PS0 starts to wake; from PS1 on its channel interfaces wake through the sequencer (R316, R432). -/
def wake (s : State) (m : Nat) : State :=
  match modAt s m with
  | none => s
  | some x =>
    if modUsable x ∧ x.pstate ≠ 0 ∧ x.waking = false then
      queueWake (setMod s m { x with waking := true, wakeFrame := now s + wakeFrames s x }) 78 m
    else s

/-- Every module of a list is restored and in PS0. -/
def portsReady (s : State) (l : List Nat) : Bool :=
  l.all (fun m => match modAt s m with
    | some x => modInM x
    | none => false)

/-- Granules that a byte range touches. -/
def granulesOf (offset length : Nat) : List Nat :=
  if length = 0 then []
  else (List.range ((offset + length - 1) / granuleBytes - offset / granuleBytes + 1)).map (· + offset / granuleBytes)

/-- The plane of a granule has room in its write buffer for it (R294, R297). -/
def bufferRoom (s : State) (n : Nat) (x : Namespace) (g : Nat) : Bool :=
  match placeOf s x g with
  | none => false
  | some p =>
    match modAt s p.1 with
    | none => false
    | some md => (openBuffer (planeAt md p.2) (writeClass md n g)).isSome

/-- The granules that a command covers stand no longer from commands that started before it (R298). -/
def supersede (s : State) (order n : Nat) (hit : Nat → Bool) : State :=
  { s with flash := { s.flash with cmds := s.flash.cmds.map (fun c =>
      if c.op = 0x02 ∧ c.started ∧ c.order < order ∧ c.cmd.nsid = n then
        { c with left := c.left.map (fun l => if hit l.1 then (l.1, none) else l) }
      else c) } }

/-- Granule `g` of a namespace no longer mapped: its bytes read 0 (R293). -/
def unmapRange (s : State) (n g count : Nat) : State :=
  let drop (x : Module) : Module :=
    { x with map := x.map.filter (fun e => decide (e.1 < gkey n g ∨ gkey n (g + count) ≤ e.1)) }
  { s with flash := { s.flash with modules := s.flash.modules.map (fun p => (p.1, drop p.2)),
                                   data := memZero s.flash.data (gaddr n g) (granuleBytes * count),
                                   seals := memDrop s.flash.seals (gkey n g) count } }

/-- A namespace command's namespace state gives a status instead of service (R308). -/
def nsRefusal (s : State) (n : Nat) (writes : Bool) : Option Nat :=
  match nsAt s n with
  | none => some 0x03
  | some x =>
    match nsState s x with
    | .active => none
    | .readOnly => if writes then some 0x06 else none
    | .deleting => some 0x07
    | .offline => some 0x0E

/-- Granules of exported capacity that a namespace reserves on each module of its set (R307). -/
def nsReserve (x : Namespace) : Nat := ceilDiv (ceilDiv x.size granuleBytes) x.serials.length

/-- Exported granules of a module (R290). -/
def exportGranules : Nat := 256 * 2174 * 3072

/-- Exported granules of a module that no namespace reserves. -/
def unreserved (s : State) (serial : Nat) : Nat :=
  exportGranules - sumBy (fun n => if n.2.serials.contains serial then nsReserve n.2 else 0) s.flash.nss

/-- The module set that NS_CREATE names by its mask (R312): its ports, or the status that refuses it with its INFO, the
module of MEDIA_EXHAUSTED (R313). -/
def createSet (s : State) (mask : Nat) : (Nat × Nat) ⊕ List Nat :=
  let usable (m : Nat) : Bool := match modAt s m with
    | some x => modUsable x
    | none => false
  let eol (m : Nat) : Bool := match modAt s m with
    | some x => x.eol
    | none => false
  if mask = 0 then
    let l := (List.range 8).filter (fun m => usable m && !(eol m))
    if l = [] then .inl (0x02, 0) else .inr l
  else
    let l := (List.range 8).filter (fun m => mask.testBit m)
    if l.any (fun m => !(usable m)) then .inl (0x0E, 0)
    else
      match l.find? eol with
      | some m => .inl (0x08, m)
      | none => .inr l

/-- The NSID that NS_CREATE takes, or the status that refuses it (R312, R318). -/
def createId (s : State) (nsid : Nat) : Nat ⊕ Nat :=
  if nsid = 0xFF then
    match leastBelow (fun n => (nsAt s n).isNone) 64 with
    | some n => .inr n
    | none => .inl 0x0D
  else
    match nsAt s nsid with
    | none => .inr nsid
    | some x => if x.state = .deleting then .inl 0x07 else .inl 0x0D

/-- A record of a namespace operation written to every module of a set (R304). -/
def journalAll (s : State) (ports : List Nat) (kind : JournalKind) (nsid : Nat) : State :=
  ports.foldl (fun s m => match modAt s m with
    | some x => setMod s m (journal x kind nsid 0 0 0)
    | none => s) s

/-- NS_CREATE runs (R307, R312). -/
def runCreate (s : State) (c : Outstanding) (ports : List Nat) : State :=
  let e := c.cmd
  let serials := ports.filterMap (fun m => (modAt s m).map (·.serial))
  match createId s e.nsid with
  | .inl st => storDone s c st e.nsid 0 0 []
  | .inr n =>
    let x : Namespace := { size := e.arg0, owner := e.arg1 % 256, readers := e.arg1 / 256 % 2 ^ 16, serials := serials,
                           state := .active, visits := [], sinceCursor := [] }
    if serials.any (fun r => decide (unreserved s r < nsReserve x)) then storDone s c 0x0C e.nsid 0 0 []
    else storDone (journalAll (setNs s n x) ports .nsCreate n) c 0 n 0 0 []

/-- Blocks of a plane that hold a granule of a namespace, ascending (R309). -/
def blocksHolding (x : Module) (plane n : Nat) : List Nat :=
  asSet ((x.map.filter (fun e => decide (e.1 / 2 ^ 44 = n) && decide (e.2 / 2 ^ 32 = plane))).map
    (fun e => e.2 / 2 ^ 16 % 2 ^ 16))

/-- NS_DELETE runs: NS_DELETE_BEGIN is journalled and every plane has its blocks to visit (R309). Images recorded in the
namespace are gone with it (R341). -/
def runDelete (s : State) (c : Outstanding) : State :=
  let n := c.cmd.nsid
  match nsAt s n with
  | none => storDone s c 0x03 n 0 0 []
  | some x =>
    let ports := nsPorts s x
    let visits := ((List.range ports.length).zip ports).flatMap (fun q =>
      match modAt s q.2 with
      | some md => (List.range 256).filterMap (fun p =>
          let l := blocksHolding md p n
          if l = [] then none else some (q.1 * 256 + p, l))
      | none => [])
    let s := journalAll (setNs s n { x with state := .deleting, visits := visits, sinceCursor := [] }) ports
      .nsDeleteBegin n
    let loaded := s.img.loaded.map (fun p =>
      (p.1, if p.2.resident = false ∧ p.2.ns = n then { p.2 with valid := false, upto := 0 } else p.2))
    let s := setCmd s { c with started := true }
    { s with img := { s.img with loaded := loaded } }

/-- Granules of a READ that lie on the media (R293). -/
def mediaGranules (s : State) (c : StorCmd) : List Nat :=
  match nsAt s c.nsid with
  | some x => (granulesOf c.offset c.length).filter (gMapped s c.nsid x)
  | none => []

/-- Ports of the modules that a waiting command needs restored and in PS0 (R298, R312). -/
def cmdPorts (s : State) (c : Outstanding) : List Nat :=
  if c.op = 0x06 then
    match createSet s (c.cmd.arg1 / 2 ^ 24 % 256) with
    | .inl _ => []
    | .inr ports => ports
  else if (nsRefusal s c.cmd.nsid (decide (c.op = 0x02 ∨ c.op = 0x03))).isSome then []
  else
    match nsAt s c.cmd.nsid with
    | none => []
    | some x =>
      if c.op = 0x07 ∨ c.op = 0x03 then nsPorts s x
      else
        let gs := if c.op = 0x02 then c.left.map (·.1) else mediaGranules s c.cmd
        asSet (gs.filterMap (fun g => (placeOf s x g).map (·.1)))

/-- A command starts (R298, R312). A namespace that no longer serves it completes it with the status of R308. A WRITE whose
planes have no room in their buffers sets BUFFER_FULL and waits for it (R294). -/
def startCmd (s : State) (c : Outstanding) : State :=
  let e := c.cmd
  if c.op = 0x06 then
    match createSet s (e.arg1 / 2 ^ 24 % 256) with
    | .inl st => storDone s c st.1 e.nsid 0 st.2 []
    | .inr ports => runCreate s c ports
  else
    match nsRefusal s e.nsid (decide (c.op = 0x02 ∨ c.op = 0x03)), nsAt s e.nsid with
    | some st, _ => storDone s c st e.nsid 0 0 []
    | none, none => storDone s c 0x03 e.nsid 0 0 []
    | none, some x =>
      let order := s.flash.nextOrder
      let c' := { c with started := true, order := order }
      let stepOrder (s : State) : State := { s with flash := { s.flash with nextOrder := order + 1 } }
      if c.op = 0x07 then runDelete s c
      else if c.op = 0x03 then
        let g := e.offset / granuleBytes
        let s := supersede (stepOrder s) order e.nsid (fun h => decide (g ≤ h) && decide (h < g + e.arg0))
        let s := unmapRange s e.nsid g e.arg0
        storDone (journalAll s (nsPorts s x) .trim e.nsid) c 0 e.nsid e.arg0 0 []
      else if c.op = 0x02 then
        if c.left = [] then storDone s c 0 e.nsid 0 0 []
        else
          let s := setCmd (stepOrder s) c'
          if c.left.all (fun l => bufferRoom s e.nsid x l.1) then s else setFlag s .flash 0x08 6
      else if mediaGranules s e = [] then
        storDone s c 0 e.nsid e.length 0 (memRead s.flash.data (e.nsid * 2 ^ 58 + e.offset) e.length)
      else setCmd (stepOrder s) c'

/-- Waiting commands start in the order of their delivery; the first whose modules are not ready holds back those after it,
and every module that one of them needs wakes (R298, R316). -/
def pumpList : List Outstanding → State → State
  | [], s => s
  | c :: r, s =>
    match s.flash.cmds.find? (fun d => decide (d.seq = c.seq)) with
    | none => pumpList r s
    | some d =>
      if portsReady s (cmdPorts s d) then pumpList r (startCmd s d)
      else (d :: r).foldl (fun s d => (cmdPorts s d).foldl wake s) s

/-- The commands that wait to start, in the order of their delivery. -/
def waitingCmds (s : State) : List Outstanding := s.flash.cmds.filter (fun c => !c.started && decide (c.op ≠ 0x04))

/-- Every waiting command that may start now starts. -/
def pumpFlash (s : State) : State := pumpList (waitingCmds s) s

/-! ### Commands -/

/-- Session that holds a storage queue. -/
def queueOwner (s : State) (q : Nat) : Option Nat :=
  (s.port.sessions.find? (fun e => e.2.storqs.contains q)).map (·.1)

/-- Operations that a context queue may issue (R310). -/
def ctxMay (op : Nat) : Bool := [0x01, 0x02, 0x03, 0x04, 0x05, 0x08, 0x09].contains op

/-- The status by which the queue's binding or the device state refuses an operation (R310). A queue that has not been
bound serves nothing. A queue whose context is in SLATE aborts what has not started. -/
def queueRefusal (s : State) (q op : Nat) : Option Nat :=
  match tget s.flash.queues q with
  | none => some 0x04
  | some c =>
    if c = 0xFF then (if s.dev = .vermilion then some 0x0F else none)
    else if ctxMay op = false then some 0x04
    else if serving s = false then some 0x0F
    else
      match ctxAt s c with
      | none => some 0x04
      | some k => if k.state = .slate then some 0x0A else none

/-- The queue's context may read, or write, a namespace (R307, R310). -/
def nsPermits (s : State) (q : Nat) (x : Namespace) (writes : Bool) : Bool :=
  match tget s.flash.queues q with
  | none => false
  | some c => decide (c = 0xFF) || decide (x.owner = c) || (!writes && x.readers.testBit c)

/-- A number that no outstanding command has, at or above the next in order. -/
def freshSeq (s : State) : Nat := s.flash.cmds.foldl (fun m d => max m (d.seq + 1)) s.flash.nextOrder

/-- The command joins the outstanding ones. -/
def enqueue (s : State) (n : Nat) (c : StorCmd) (op : Nat) (left : List (Nat × Option (List Byte))) : State × Outstanding :=
  let o : Outstanding := { cmd := c, op := op, started := false, left := left, session := n, seq := freshSeq s,
                           order := 0, nsid := c.nsid }
  ({ s with flash := { s.flash with cmds := s.flash.cmds ++ [o], nextOrder := s.flash.nextOrder + 1 } }, o)

/-- The checks every storage command meets, in the order reserved fields, tag, queue and device state, fields (R310 to
R313); a command beyond CMD_LIMIT is discarded (R333). `run` is given the session. -/
def storage (s : State) (c : StorCmd) (op : Nat) (fieldsOk : Bool) (run : State → Nat → State) : Res :=
  match queueOwner s c.queue with
  | none => .next s
  | some n =>
    if 4096 ≤ outstandingOf s c.queue then .next (setFlag s .tytos 0x08 2)
    else
      let s := match sessAt s n with
        | some x => match tget x.queues c.queue with
          | some y => setSess s n { x with queues := tset x.queues c.queue { y with cmds := y.cmds + 1 } }
          | none => s
        | none => s
      let stop (st : Nat) : Res := .next (storReply s n c.queue c.tag st c.nsid 0 0 [])
      if c.reservedZero = false then stop 0x10
      else if (cmdAt s c.queue c.tag).isSome then stop 0x0B
      else
        match queueRefusal s c.queue op with
        | some st => stop st
        | none => if fieldsOk = false then stop 0x02 else .next (run s n)

/-- A command on a namespace after the common checks: namespace state, permission and range (R307, R308, R312). -/
def onNamespace (s : State) (n : Nat) (c : StorCmd) (writes : Bool) (upto : Nat) (run : State → State) : State :=
  let stop (st : Nat) : State := storReply s n c.queue c.tag st c.nsid 0 0 []
  match nsRefusal s c.nsid writes, nsAt s c.nsid with
  | some st, _ => stop st
  | none, none => stop 0x03
  | none, some x =>
    if nsPermits s c.queue x writes = false then stop 0x04
    else if x.size < upto then stop 0x05
    else run s

/-- READ (R312): unmapped granules read 0 without a media access (R293). -/
def execRead (c : StorCmd) (s : State) : Res :=
  storage s c 0x01 (decide (c.nsid < 64) && decide (1 ≤ c.length) && decide (c.length ≤ 1048576)) fun s n =>
    onNamespace s n c false (c.offset + c.length) fun s =>
      let p := enqueue s n c 0x01 []
      pumpFlash p.1

/-- WRITE (R297, R312). -/
def execWrite (c : StorCmd) (data : List Byte) (s : State) : Res :=
  if data.length ≠ c.length then malformed "length"
  else
    storage s c 0x02 (decide (c.nsid < 64) && decide (c.offset % granuleBytes = 0) &&
        decide (c.length % granuleBytes = 0) && decide (c.length ≤ 1048576)) fun s n =>
      onNamespace s n c true (c.offset + c.length) fun s =>
        let left := (granulesOf c.offset c.length).map (fun g =>
          (g, some (sub data (granuleBytes * g - c.offset) granuleBytes)))
        let p := enqueue s n c 0x02 left
        pumpFlash p.1

/-- TRIM (R312). -/
def execTrim (c : StorCmd) (s : State) : Res :=
  storage s c 0x03 (decide (c.nsid < 64) && decide (c.offset % granuleBytes = 0) && decide (1 ≤ c.arg0) &&
      decide (c.arg0 ≤ 2 ^ 32)) fun s n =>
    onNamespace s n c true (c.offset + granuleBytes * c.arg0) fun s =>
      let p := enqueue s n c 0x03 []
      pumpFlash p.1

/-- FLUSH completes after every command of its queue submitted before it (R312). -/
def execFlush (c : StorCmd) (s : State) : Res :=
  storage s c 0x04 true fun s n =>
    let p := enqueue s n c 0x04 []
    settleFlush (setCmd p.1 { p.2 with started := true }) c.queue

/-- The tier record of IDENTIFY (R315). -/
def tierRecord (s : State) : List Byte :=
  let mods (p : Module → Bool) : Nat := maskOf ((s.flash.modules.filter (fun e => p e.2)).map (·.1))
  let present := s.flash.modules.filter (fun e => e.2.present)
  toLE 1 (mods (·.present)) ++ toLE 1 (mods modInM) ++ toLE 1 (mods (fun x => x.present && x.eol)) ++
  toLE 1 s.flash.nss.length ++ zeros 4 ++ (List.range 4).flatMap (fun i => toLE 4 (exitUs i)) ++
  toLE 8 (present.length * exportGranules * granuleBytes) ++
  toLE 8 (granuleBytes * sumBy (fun e => unreserved s e.2.serial) present) ++
  toLE 4 granuleBytes ++ toLE 4 1048576 ++
  (List.range 8).flatMap (fun m => toLE 8 (match modAt s m with
    | some x => if x.present then x.serial else 0
    | none => 0)) ++ zeros 16

/-- The namespace record of IDENTIFY (R315); zeros but for NSID where it is ABSENT. -/
def nsRecord (s : State) (n : Nat) : List Byte :=
  match nsAt s n with
  | none => toLE 1 n ++ zeros 63
  | some x =>
    let used := sumBy (fun e => (e.2.map.filter (fun k => decide (k.1 / 2 ^ 44 = n))).length) s.flash.modules
    toLE 1 n ++ toLE 1 (nsCode (nsState s x)) ++ toLE 1 x.owner ++ toLE 1 (maskOf (nsPorts s x)) ++ toLE 2 x.readers ++
    zeros 2 ++ toLE 8 x.size ++ toLE 8 (granuleBytes * used) ++
    toLE 8 (if x.state = .deleting then sumBy (fun v => v.2.length) x.visits else 0) ++ zeros 32

/-- IDENTIFY (R310, R315). -/
def execIdentify (c : StorCmd) (s : State) : Res :=
  let cns := c.arg0 % 256
  storage s c 0x05 (decide (cns = 0) || (decide (cns = 1) && decide (c.nsid < 64))) fun s n =>
    let done (data : List Byte) : State := storReply s n c.queue c.tag 0 c.nsid data.length 0 data
    if cns = 0 then done (tierRecord s)
    else
      match nsAt s c.nsid with
      | none => done (nsRecord s c.nsid)
      | some x =>
        if nsPermits s c.queue x false then done (nsRecord s c.nsid)
        else storReply s n c.queue c.tag 0x04 c.nsid 0 0 []

/-- NS_CREATE (R307, R312). -/
def execNsCreate (c : StorCmd) (s : State) : Res :=
  let owner := c.arg1 % 256
  storage s c 0x06 ((decide (c.nsid < 64) || decide (c.nsid = 0xFF)) && decide (c.arg0 % granuleBytes = 0) &&
      (decide (owner < 16) || decide (owner = 0xFF))) fun s n =>
    match createId s c.nsid with
    | .inl st => storReply s n c.queue c.tag st c.nsid 0 0 []
    | .inr _ =>
      let p := enqueue s n c 0x06 []
      pumpFlash p.1

/-- NS_DELETE (R309): permitted on a READ_ONLY namespace (R317). -/
def execNsDelete (c : StorCmd) (s : State) : Res :=
  storage s c 0x07 (decide (c.nsid < 64)) fun s n =>
    onNamespace s n c false 0 fun s =>
      let p := enqueue s n c 0x07 []
      pumpFlash p.1

/-- ABORT acts on its own queue (R314). -/
def execAbort (c : StorCmd) (s : State) : Res :=
  storage s c 0x08 true fun s n =>
    let done (s : State) (r : Nat) : State := storReply s n c.queue c.tag 0 c.nsid r 0 []
    match cmdAt s c.queue (c.arg0 % 2 ^ 16) with
    | none => done s 2
    | some t => if t.started then done s 1 else done (storDone s t 0x0A t.cmd.nsid 0 0 []) 0

/-- QLC blocks of a module: count, sum and largest of their erase counts; and the largest of 1-bit blocks. -/
def peCounts (x : Module) : Nat × Nat × Nat × Nat :=
  let all := x.planes.flatMap (fun p => blocksWhere p.2 (fun k => decide (k.state ≠ .retired)))
  let qlc := all.filter (fun b => !b.2.oneBit)
  (qlc.length + 2416 * (256 - x.planes.length), sumBy (fun b => b.2.erases) qlc,
   qlc.foldl (fun acc b => max acc b.2.erases) 0,
   (all.filter (fun b => b.2.oneBit)).foldl (fun acc b => max acc b.2.erases) 0)

/-- The MEDIA_HEALTH page (R315). -/
def mediaHealth (x : Module) : List Byte :=
  let pe := peCounts x
  toLE 2 pe.2.2.1 ++ toLE 2 (pe.2.1 / pe.1) ++ toLE 2 pe.2.2.2 ++ toLE 2 (spareMin x) ++
  toLE 4 (sumBy (fun p => p.2.retired) x.planes) ++ zeros 4 ++ toLE 8 x.hostGranules ++ toLE 8 x.bufGranules ++
  toLE 8 x.qlcGranules ++ toLE 8 x.relocGranules ++ toLE 8 x.readFails ++
  toLE 1 ((if x.eol then 1 else 0) + (if x.firstUse then 2 else 0)) ++ zeros 7

/-- GET_LOG: page 0x01 of one module (R312, R315). -/
def execGetLog (c : StorCmd) (s : State) : Res :=
  let m := c.arg0 / 256 % 256
  storage s c 0x09 (decide (c.arg0 % 256 = 1) && decide (m < 8)) fun s n =>
    match modAt s m with
    | some x =>
      if modUsable x then storReply s n c.queue c.tag 0 c.nsid 64 0 (mediaHealth x)
      else storReply s n c.queue c.tag 0x0E c.nsid 0 0 []
    | none => storReply s n c.queue c.tag 0x0E c.nsid 0 0 []

/-- SET_POWER: PS_LIMIT of the modules of a mask (R312, R316); a module that is deeper wakes. -/
def execSetPower (c : StorCmd) (s : State) : Res :=
  storage s c 0x0A true fun s n =>
    let limit := c.arg0 / 256 % 4
    let ports := (List.range 8).filter (fun m => c.arg0.testBit m)
    let s := ports.foldl (fun s m => match modAt s m with
      | some x =>
        let s := setMod s m { x with psLimit := limit }
        if limit < x.pstate then wake s m else s
      | none => s) s
    storReply s n c.queue c.tag 0 c.nsid 0 0 []

/-! ### Events of the media -/

/-- A READ ends with a granule that failed after its retries (R293, R313). -/
def readFailed (s : State) (c : Outstanding) (g : Nat) : State :=
  let s := bump s .flash 0x50 1
  let s := match (nsAt s c.cmd.nsid).bind (fun x => placeOf s x g) with
    | some p => match modAt s p.1 with
      | some md => setMod s p.1 { md with readFails := md.readFails + 1 }
      | none => s
    | none => s
  storDone s c 0x09 c.cmd.nsid 0 (granuleBytes * g) []

/-- A READ's media reads have ended: its data, or the first granule whose seal does not match (R293). -/
def readDone (s : State) (c : Outstanding) : State :=
  let e := c.cmd
  match (mediaGranules s e).find? (fun g => !sealOk s e.nsid g) with
  | some g => readFailed s c g
  | none => storDone s c 0 e.nsid e.length 0 (memRead s.flash.data (e.nsid * 2 ^ 58 + e.offset) e.length)

/-- Ports and planes of a READ's media reads. -/
def readPlanes (s : State) (c : Outstanding) : List (Nat × Nat) :=
  match nsAt s c.cmd.nsid with
  | some x => (mediaGranules s c.cmd).filterMap (placeOf s x)
  | none => []

/-- The READs that a plane's order puts before one: started earlier, on no plane that it does not use too (R294). -/
def readsAhead (s : State) (c : Outstanding) : List Outstanding :=
  let mine := readPlanes s c
  sortBy (fun a b => decide (a.order ≤ b.order)) (s.flash.cmds.filter (fun d =>
    decide (d.op = 0x01) && d.started && decide (d.order < c.order) && (readPlanes s d).all mine.contains))

/-- MEDIA_READ_COMPLETE: the last media read of a READ finishes, or a granule fails after its retries (R293, R313). Reads that
its planes serve before it have finished (R294). -/
def execMediaReadComplete (q tag : Nat) (failAt : Option Nat) (s : State) : Res :=
  match cmdAt s q tag with
  | none => .next s
  | some c =>
    if c.op ≠ 0x01 ∨ c.started = false ∨ failAt.any (fun g => !(mediaGranules s c.cmd).contains g) then .next s
    else
      let s := (readsAhead s c).foldl readDone s
      match failAt with
      | some g => .next (readFailed s c g)
      | none => .next (readDone s c)

/-- The granule counts as written (R297, R299): page, map, journal, heat and counters. A granule that a later command
covers is programmed and not mapped (R298). -/
def granuleWritten (s : State) (n g m plane : Nat) (b : Nat × FlashBlock) (data : Option (List Byte)) : State :=
  match modAt s m with
  | none => s
  | some x =>
    let key := gkey n g
    let old := (tget x.map key).isSome
    let page := b.2.pages.length
    let heat := if old then tset x.heat (heatKey n g) (min 255 (tgetD x.heat (heatKey n g) 0 + 1)) else x.heat
    let x := setPlane x plane (setBlock (planeAt x plane) b.1
      (programPage b.2 (data.map (fun _ => key)) (x.granuleWrites + 1)))
    let x := { x with heat := heat, granuleWrites := x.granuleWrites + 1, hostGranules := x.hostGranules + 1,
                      bufGranules := x.bufGranules + 1 }
    let s := match data with
      | some d =>
        let x := journal { x with map := tset x.map key (loc plane b.1 page) } .map n g plane b.1
        sealPage { setMod s m x with flash := { s.flash with
          modules := tset s.flash.modules m x,
          data := memWrite (memZero s.flash.data (gaddr n g) granuleBytes) (gaddr n g) d } } n g x.granuleWrites
      | none => setMod s m x
    bump (bump s .flash 0x28 1) .flash 0x30 1

/-- Granules of started WRITEs on a plane of a module, in the order in which the plane programs them (R294). -/
def planeQueue (s : State) (m plane : Nat) : List (Outstanding × Nat) :=
  let ws := sortBy (fun (a b : Outstanding) => decide (a.order ≤ b.order))
    (s.flash.cmds.filter (fun d => decide (d.op = 0x02) && d.started))
  ws.flatMap (fun d =>
    match nsAt s d.cmd.nsid with
    | some x => (d.left.filter (fun l => decide (placeOf s x l.1 = some (m, plane)))).map (fun l => (d, l.1))
    | none => [])

/-- A granule of a started WRITE programmed in the open block of its plane (R297); with no room there, BUFFER_FULL is set and
it waits (R294). -/
def programGranule (s : State) (q tag g : Nat) : State :=
  match cmdAt s q tag with
  | none => s
  | some c =>
    match c.left.find? (fun l => decide (l.1 = g)), (nsAt s c.cmd.nsid).bind (fun x => placeOf s x g) with
    | some l, some p =>
      match modAt s p.1 with
      | none => s
      | some md =>
        match openBuffer (planeAt md p.2) (writeClass md c.cmd.nsid g) with
        | none => setFlag s .flash 0x08 6
        | some b =>
          let s := granuleWritten s c.cmd.nsid g p.1 p.2 b l.2
          let s := match l.2 with
            | some _ => supersede s c.order c.cmd.nsid (fun h => decide (h = g))
            | none => s
          let left := c.left.filter (fun l => decide (l.1 ≠ g))
          let c := { c with left := left }
          if left = [] then storDone (setCmd s c) c 0 c.cmd.nsid c.cmd.length 0 [] else setCmd s c
    | _, _ => s

/-- The program of a granule fails: the block retires and its valid granules are collected; the granule waits to be
programmed again (R303). -/
def programFails (s : State) (m plane cls : Nat) : State :=
  match modAt s m with
  | none => s
  | some md =>
    match openBuffer (planeAt md plane) cls with
    | none => setFlag s .flash 0x08 6
    | some b =>
      let s := setMod s m (setPlane md plane (setBlock (planeAt md plane) b.1 b.2))
      pumpFlash (retire (collectBlock s m plane b.1) m plane b.1)

/-- GRANULE_PROGRAM_COMPLETE: one granule of a WRITE is programmed (R297), or its program fails (R303). The granules that its
plane programs before it have been programmed (R294). -/
def execGranuleProgramComplete (q tag g : Nat) (ok : Bool) (s : State) : Res :=
  match cmdAt s q tag with
  | none => .next s
  | some c =>
    if c.op ≠ 0x02 ∨ c.started = false ∨ c.left.all (fun l => decide (l.1 ≠ g)) then .next s
    else
      match (nsAt s c.cmd.nsid).bind (fun x => placeOf s x g) with
      | none => .next s
      | some p =>
        let before := (planeQueue s p.1 p.2).takeWhile (fun w =>
          !(decide (w.1.cmd.queue = q) && decide (w.1.cmd.tag = tag) && decide (w.2 = g)))
        let s := before.foldl (fun s w => programGranule s w.1.cmd.queue w.1.cmd.tag w.2) s
        if ok then .next (programGranule s q tag g)
        else
          match modAt s p.1 with
          | none => .next s
          | some md => .next (programFails s p.1 p.2 (writeClass md c.cmd.nsid g))

/-- A list of a namespace's visits with one block taken, and with it the block among those since the last cursor; after 64
visits a cursor is journalled (R309). -/
def visit (s : State) (n : Nat) (x : Namespace) (key block m plane : Nat) : State :=
  let rest := (tgetD x.visits key []).filter (fun b => decide (b ≠ block))
  let since := tgetD x.sinceCursor key [] ++ [block]
  let x := { x with visits := if rest = [] then tdel x.visits key else tset x.visits key rest,
                    sinceCursor := if 64 ≤ since.length then tdel x.sinceCursor key else tset x.sinceCursor key since }
  let s := setNs s n x
  if 64 ≤ since.length then
    match modAt s m with
    | some md => setMod s m (journal md .nsCursor n plane block 0)
    | none => s
  else s

/-- The deletion that visits a block next: namespace, key of its visit list (R309). -/
def visiting (s : State) (m plane block : Nat) : Option (Nat × Nat) :=
  s.flash.nss.findSome? (fun n =>
    if n.2.state = .deleting then
      match n.2.visits.find? (fun v => decide (v.1 % 256 = plane) &&
          decide ((n.2.serials[v.1 / 256]?).bind (portOf s) = some m) && decide (v.2.head? = some block)) with
      | some v => some (n.1, v.1)
      | none => none
    else none)

/-- GC_LOW in use: the reset value while FLASH's ENABLE is 0 (R319). -/
def gcLow (s : State) : Nat := if enabled s .flash then fld s .flash 0x18 0 8 else 8

/-- GC_HIGH in use (R319). -/
def gcHigh (s : State) : Nat := if enabled s .flash then fld s .flash 0x18 8 8 else 16

/-- The erase of a block ends (R301, R303): its count rises, and it is free again, or it retires at its limit or on a
failure. -/
def eraseDone (s : State) (m plane block : Nat) (ok : Bool) : State :=
  match modAt s m with
  | none => s
  | some x =>
    let y := planeAt x plane
    match blockAt y block with
    | none => s
    | some k =>
      let k := { k with erases := k.erases + 1, state := .free, pages := [], cls := 0 }
      let y := setBlock y block k
      let more := decide ((freeOf y .qlc).length < gcHigh s)
      let y := { y with collecting := y.collecting && more }
      let x := { setPlane x plane y with map := x.map.filter (fun e => decide (e.2 / 2 ^ 16 ≠ loc plane block 0 / 2 ^ 16)) }
      let s := setMod s m (journal x .erase 0 plane block 0)
      if ok = false ∨ eraseLimit k ≤ k.erases then retire s m plane block else s

/-- BLOCK_ERASE_COMPLETE (R301, R303, R309): of a block that waits for its erase, or of the block that a deletion visits
next, whose valid granules of other namespaces are collected first. -/
def execBlockEraseComplete (m plane block : Nat) (ok : Bool) (s : State) : Res :=
  if 8 ≤ m ∨ 256 ≤ plane ∨ 2484 ≤ block then malformed "block"
  else
    match modAt s m with
    | none => .next s
    | some x =>
      if modUsable x = false ∨ x.restoring then .next s
      else
        match visiting s m plane block with
        | some v =>
          match nsAt s v.1 with
          | none => .next s
          | some ns =>
            let s := collectBlock s m plane block
            let s := visit s v.1 ns v.2 block m plane
            .next (pumpFlash (eraseDone s m plane block ok))
        | none =>
          match blockAt (planeAt x plane) block with
          | none => .next s
          | some k =>
            if k.state = .erasing then .next (pumpFlash (eraseDone s m plane block ok)) else .next s

/-- NS_DELETE_END: every plane has finished; the NSID becomes ABSENT and the command completes (R309). -/
def execNsDeleteEnd (nsid : Nat) (s : State) : Res :=
  match nsAt s nsid with
  | none => .next s
  | some x =>
    if nsState s x ≠ .deleting ∨ x.visits ≠ [] then .next s
    else
      let drop (md : Module) : Module :=
        { md with map := md.map.filter (fun e => decide (e.1 / 2 ^ 44 ≠ nsid)),
                  heat := md.heat.filter (fun e => decide (e.1 / 2 ^ 32 ≠ nsid)) }
      let s := journalAll s (nsPorts s x) .nsDeleteEnd nsid
      let ends := s.flash.cmds.filter (fun c => decide (c.op = 0x07) && c.started && decide (c.cmd.nsid = nsid))
      let s := { s with flash := { s.flash with
        modules := s.flash.modules.map (fun p => (p.1, drop p.2)), nss := tdel s.flash.nss nsid,
        data := memZero s.flash.data (nsid * 2 ^ 58) (2 ^ 58), seals := memDrop s.flash.seals (gkey nsid 0) (2 ^ 44) } }
      .next (pumpFlash (ends.foldl (fun s c => storDone s c 0 nsid 0 0 []) s))

/-- Closed buffer blocks of a class, oldest first. -/
def closedBuffer (y : Plane) (cls : Nat) : List (Nat × FlashBlock) :=
  sortBy (fun a b => decide (a.2.age ≤ b.2.age))
    (blocksWhere y (fun k => decide (k.role = .buffer) && decide (k.state = .closed) && decide (k.cls = cls)))

/-- A plane must fold a class (R300): 4 closed blocks of it, or fewer than 8 free buffer blocks and no class with more
closed ones. -/
def foldDue (y : Plane) (cls : Nat) : Bool :=
  let k := (closedBuffer y cls).length
  decide (4 ≤ k) || (decide ((freeOf y .buffer).length < 8) && decide (0 < k) &&
    (List.range 3).all (fun c => decide ((closedBuffer y c).length ≤ k)))

/-- FOLD_START: the engine folds a class of a plane (R300). The QLC block is padded with filler pages. -/
def execFoldStart (m plane cls : Nat) (s : State) : Res :=
  if 8 ≤ m ∨ 256 ≤ plane ∨ 3 ≤ cls then malformed "plane"
  else
    match modAt s m with
    | none => .next s
    | some x =>
      let y := planeAt x plane
      if modUsable x = false ∨ x.restoring ∨ y.fold.isSome ∨ foldDue y cls = false then .next s
      else
        let sources := closedBuffer y cls
        let live := (sources.flatMap (fun b => validOf s x plane b.1 b.2)).take 3072
        match leastWorn (freeOf y .qlc) with
        | none => .next s
        | some t =>
          if live = [] then .next (sources.foldl (fun s b => toErase s m plane b.1) s)
          else
            let y := setBlock y t.1 { t.2 with state := .folding, cls := cls, pages := [] }
            let y := { y with fold := some { cls := cls, target := t.1, sources := sources.map (·.1), granules := live } }
            .next (setMod s m (journal (setPlane x plane y) .foldBegin 0 plane t.1 cls))

/-- FOLD_COMMIT: the QLC block is fully programmed; the granules the map still points at in the buffer are mapped to it,
and buffer blocks with none left are erased (R300, R318). -/
def execFoldCommit (m plane : Nat) (s : State) : Res :=
  if 8 ≤ m ∨ 256 ≤ plane then malformed "plane"
  else
    match modAt s m with
    | none => .next s
    | some x =>
      let y := planeAt x plane
      match y.fold with
      | none => .next s
      | some f =>
        if modUsable x = false ∨ x.restoring then .next s
        else
          match blockAt y f.target with
          | none => .next s
          | some k =>
            let pages := f.granules.map (fun g => some g.1) ++ List.replicate (3072 - f.granules.length) none
            let y := setBlock { y with fold := none } f.target { k with state := .closed, pages := pages,
                                                                        age := x.granuleWrites }
            let map := ((List.range f.granules.length).zip f.granules).foldl (fun mp q =>
              let deleting := match nsAt s (q.2.1 / 2 ^ 44) with
                | some n => decide (n.state = .deleting)
                | none => true
              if tget mp q.2.1 = some q.2.2 ∧ deleting = false then tset mp q.2.1 (loc plane f.target q.1) else mp) x.map
            let x := journal { setPlane x plane y with map := map, qlcGranules := x.qlcGranules + 3072 }
              .foldCommit 0 plane f.target f.cls
            let s := bump (setMod s m x) .flash 0x38 3072
            let empty := f.sources.filter (fun b => match blockAt y b with
              | some k => (validOf s x plane b k).isEmpty
              | none => false)
            .next (empty.foldl (fun s b => toErase s m plane b) s)

/-- The garbage collection victim of a plane: the closed QLC block with the fewest valid granules, then the lowest erase
count, then the lowest number (R302). -/
def gcVictim (s : State) (x : Module) (plane : Nat) : Option Nat :=
  let y := planeAt x plane
  let l := (blocksWhere y (fun k => decide (k.role = .qlc) && decide (k.state = .closed))).map
    (fun b => (b.1, (validOf s x plane b.1 b.2).length, b.2.erases))
  ((sortBy (fun a b => decide (a.2.1 < b.2.1) || (decide (a.2.1 = b.2.1) && decide (a.2.2 ≤ b.2.2))) l).head?).map (·.1)

/-- GARBAGE_COLLECTION: one victim of a plane is collected and waits for its erase (R302). -/
def execGarbageCollection (m plane : Nat) (s : State) : Res :=
  if 8 ≤ m ∨ 256 ≤ plane then malformed "plane"
  else
    match modAt s m with
    | none => .next s
    | some x =>
      let y := planeAt x plane
      let free := (freeOf y .qlc).length
      if modUsable x = false ∨ x.restoring then .next s
      else if gcLow s ≤ free ∧ (y.collecting = false ∨ gcHigh s ≤ free) then .next s
      else
        match gcVictim s x plane with
        | none => .next s
        | some v =>
          let s := setMod s m (setPlane x plane { y with collecting := true })
          .next (toErase (collectBlock s m plane v) m plane v)

/-- CHECKPOINT: a checkpoint goes to the next of the two slots, and the journal before it is spent (R304). -/
def execCheckpoint (m : Nat) (s : State) : Res :=
  match modAt s m with
  | none => .next s
  | some x =>
    if modUsable x = false ∨ x.restoring then .next s
    else .next (setMod s m { x with journal := [], checkpoints := x.checkpoints + 1 })

/-- HEAT_HALVING: every counter of a module halves at its next 1,048,576th granule write (R299). -/
def execHeatHalving (m : Nat) (s : State) : Res :=
  match modAt s m with
  | none => .next s
  | some x =>
    if modUsable x = false ∨ x.granuleWrites < 1048576 * (x.halvings + 1) then .next s
    else .next (setMod s m { x with heat := (x.heat.map (fun e => (e.1, e.2 / 2))).filter (fun e => decide (e.2 ≠ 0)),
                                    halvings := x.halvings + 1 })

/-! ### Power states, loss and restart -/

/-- Idle timer of a level in use, ms; 0 when the level is not used (R319, R320). -/
def idleMs (s : State) (level : Nat) : Nat :=
  let v : Word := if enabled s .flash then reg s .flash 0x10 else regReset .flash 0x10
  bits v (16 * (level - 1)) 16

/-- A module has no queued work of any class (R316). -/
def modIdle (s : State) (m : Nat) (x : Module) : Bool :=
  s.flash.cmds.all (fun c => match nsAt s c.cmd.nsid with
    | some n => !(nsOn s n m)
    | none => true) &&
  s.flash.nss.all (fun n => !(decide (n.2.state = .deleting) && nsOn s n.2 m)) &&
  x.planes.all (fun p => p.2.fold.isNone && !p.2.collecting &&
    p.2.blocks.all (fun b => decide (b.2.state ≠ .erasing))) &&
  s.tiles.all (fun t => t.2.streams.all (fun k => k.done || decide (k.desc.farTier ≠ 2)))

/-- A context holds a T2 reservation in the image in service (R316). -/
def t2Reserved (s : State) : Bool :=
  match s.img.image with
  | some i => i.reservations.any (fun r => decide (0 < r.t2Bytes))
  | none => false

/-- IDLE_TIMER: a module idle for the time of a level enters it, never below its PS_LIMIT (R316). -/
def execIdleTimer (m level : Nat) (s : State) : Res :=
  match modAt s m with
  | none => .next s
  | some x =>
    if level = 0 ∨ 3 < level then malformed "level"
    else if modUsable x = false ∨ x.restoring ∨ x.waking ∨ level ≤ x.pstate ∨ x.psLimit < level ∨ idleMs s level = 0 ∨
        t2Reserved s ∨ modIdle s m x = false then .next s
    else .next (setMod s m { x with pstate := level })

/-- MODULE_WAKE: the exit latency of a waking module has passed; it serves again (R296, R316). -/
def execModuleWake (m : Nat) (s : State) : Res :=
  match modAt s m with
  | none => .next s
  | some x =>
    if modUsable x = false ∨ x.waking = false then .next s
    else .next (pumpFlash (setMod s m { x with pstate := 0, waking := false, wakeFrame := 0 }))

/-- The first granule of a command that lies on a module: its byte offset. -/
def failingOffset (s : State) (c : Outstanding) (x : Namespace) (m : Nat) : Option Nat :=
  let gs := if c.op = 0x02 then c.left.map (·.1)
            else if c.op = 0x01 then granulesOf c.cmd.offset c.cmd.length else []
  (gs.find? (fun g => decide ((placeOf s x g).map (·.1) = some m))).map (· * granuleBytes)

/-- MODULE_LOST: a module fails in service; its namespaces are OFFLINE, and the commands that need it complete with
MODULE_OFFLINE (R308, R318). -/
def execModuleLost (m : Nat) (s : State) : Res :=
  match modAt s m with
  | none => .next s
  | some x =>
    if modUsable x = false then .next s
    else
      let hit := s.flash.cmds.filterMap (fun c =>
        match nsAt s c.cmd.nsid with
        | some n => if nsOn s n m ∧ (c.op = 0x01 ∨ c.op = 0x02 ∨ c.op = 0x03 ∨ (c.op = 0x07 ∧ !c.started)) then
            (match failingOffset s c n m with
             | some o => some (c, o)
             | none => if c.started then none else some (c, 0))
          else none
        | none => none)
      let s := setMod s m { x with failed := true, waking := false, wakeFrame := 0 }
      let s := eventPriv (setFlag s .flash 0x08 1) 0x09 m 0
      .next (hit.foldl (fun s p => storDone s p.1 0x0E p.1.cmd.nsid 0 p.2 []) s)

/-- A module as first use leaves it (R306). -/
def newModule (serial tr tsus : Nat) (bad : List (Nat × Nat)) : Module :=
  { present := true, failed := false, restoring := true, pstate := 0, psLimit := 3, waking := false, wakeFrame := 0, eol := false,
    firstUse := true, serial := serial, trMaxUs := tr, tsusMaxUs := tsus,
    planes := (asSet (bad.map (·.1))).map (fun p =>
      (p, { blocks := [], bad := asSet ((bad.filter (fun b => decide (b.1 = p))).map (·.2)), fold := none, retired := 0,
            exhausted := false, collecting := false })),
    map := [], heat := [], granuleWrites := 0, halvings := 0, journal := [], checkpoints := 1, hostGranules := 0,
    bufGranules := 0, qlcGranules := 0, relocGranules := 0, readFails := 0 }

/-- What a reset leaves of a module: its media, its map, its journal (R438). -/
def resetModule (x : Module) : Module :=
  { x with present := false, failed := false, restoring := false, pstate := 0, psLimit := 3, waking := false, wakeFrame := 0,
           firstUse := false }

/-- What a reset leaves of the flash tier: the media; the commands and bindings are gone (R438). -/
def resetFlash (f : Flash) : Flash :=
  { f with modules := f.modules.map (fun p => (p.1, resetModule p.2)), cmds := [], queues := [], nextOrder := 0 }

/-- The content that a serial carries, fitted now or earlier. -/
def contentOf (f : Flash) (serial : Nat) : Option Module :=
  match f.modules.find? (fun p => decide (p.2.serial = serial)) with
  | some p => some p.2
  | none => tget f.shelf serial

/-- The restore of R305 starts for a module found on a port (R306, R435 step 8): with a journal valid for its serial it
keeps its content; at first use it is formatted; with no valid bad-block table, or too many bad blocks in a plane, it
stays absent (R290, R456). -/
def startModule (f : Flash) (port serial tr tsus : Nat) (journalOk bbtOk : Bool) (bad : List (Nat × Nat)) :
    Option Module :=
  match contentOf f serial, journalOk with
  | some x, true => some { x with present := true, restoring := true, trMaxUs := tr, tsusMaxUs := tsus }
  | _, _ =>
    let x := newModule serial tr tsus (bad.filter (fun b => decide (port < 8) && decide (b.1 < 256) && decide (b.2 < 2484)))
    if bbtOk = false ∨ x.planes.any (fun p => planeTooBad p.2) then none else some x

/-- The fold of a plane rolled back: its target is erased and the sources stay in the buffer (R305 step 2). -/
def rollFold (y : Plane) : Plane :=
  match y.fold with
  | none => y
  | some f =>
    match blockAt y f.target with
    | none => { y with fold := none }
    | some k => setBlock { y with fold := none, collecting := false } f.target
        { k with erases := k.erases + 1, state := .free, pages := [], cls := 0 }

/-- The deletions whose set holds a module resume from their last cursor on its planes (R305 step 4). -/
def resumeDeletes (s : State) (serial : Nat) : State :=
  let back (n : Namespace) : Namespace :=
    let mine (k : Nat) : Bool := decide (n.serials[k / 256]? = some serial)
    let redo := n.sinceCursor.filter (fun v => mine v.1)
    { n with visits := redo.foldl (fun t v => tset t v.1 (v.2 ++ tgetD t v.1 [])) n.visits,
             sinceCursor := n.sinceCursor.filter (fun v => !(mine v.1)) }
  let hit := s.flash.nss.any (fun n => decide (n.2.state = .deleting) && n.2.serials.contains serial)
  let s := { s with flash := { s.flash with nss := s.flash.nss.map (fun n =>
    (n.1, if n.2.state = .deleting ∧ n.2.serials.contains serial then back n.2 else n.2)) } }
  if hit then setFlag s .flash 0x08 3 else s

/-- The namespaces whose record is missing on a module of their set, because it was formatted, are rolled back: their granules
are unmapped on every module and read 0 (R293, R305 step 3). -/
def rollNamespaces (s : State) (serial : Nat) : State :=
  let gone := (s.flash.nss.filter (fun n => n.2.serials.contains serial)).map (·.1)
  let drop (md : Module) : Module :=
    { md with map := md.map.filter (fun e => !gone.contains (e.1 / 2 ^ 44)),
              heat := md.heat.filter (fun e => !gone.contains (e.1 / 2 ^ 32)) }
  { s with flash := { s.flash with
      nss := s.flash.nss.filter (fun n => !gone.contains n.1),
      modules := s.flash.modules.map (fun p => (p.1, drop p.2)),
      data := s.flash.data.filter (fun e => !gone.contains (e.1 / 2 ^ 58)),
      seals := s.flash.seals.filter (fun e => !gone.contains (e.1 / 2 ^ 44)) } }

/-- FLASH_RESTORE_COMPLETE: a module has restored its state and serves (R305, R306). -/
def execFlashRestoreComplete (m : Nat) (s : State) : Res :=
  match modAt s m with
  | none => .next s
  | some x =>
    if modUsable x = false ∨ x.restoring = false then .next s
    else
      let s := setMod s m { x with restoring := false, planes := x.planes.map (fun p => (p.1, rollFold p.2)) }
      let s := if x.firstUse then rollNamespaces (eventPriv (setFlag s .flash 0x08 2) 0x07 m 0) x.serial else s
      .next (pumpFlash (resumeDeletes s x.serial))

end Sys2Proof.Machine
end

