-- ==== Sys2Proof/Machine/Power.lean ====
section
/-! DEFINITION. Power, reset and start-up (chapters 17 and 18): the reset kinds and what survives them, the boot checks
and the boot flags, the identity bus, the start-up steps, brownout and thermal trip, throttling, the 1 ms power limit,
wake-up pacing, and the voltage steps. -/

namespace Sys2Proof.Machine

/-! ### Resets -/

/-- The state as a reset of a cause leaves it at the start of step 1 (R437, R438): the secure flash, the Wavor contents
and the images recorded in device-owned namespaces survive; everything else is at its reset value. -/
def resetOp (s : State) (cause : Nat) : State :=
  { State.reset with
    nv := s.nv, rom := s.rom, flash := resetFlash s.flash, out := s.out, fresh := s.fresh, pending := s.pending,
    img := { Loader.reset with loaded := s.img.loaded.filter (fun p => !p.2.resident && p.2.valid) },
    pins := { State.reset.pins with rstLow := s.pins.rstLow },
    power := { Power.reset with rails := s.power.rails, cause := cause } }

/-- POWER_ON: the board rails are applied in order, RST_N still asserted (R425, R437). -/
def execPowerOn (s : State) : Res :=
  if s.power.rails then .next s
  else
    let s := { s with power := { s.power with rails := true }, pins := { s.pins with rstLow := true } }
    .next (resetOp s 0)

/-- WARM_PIN: RST_N is asserted, or released again (R437). During the 100 ms wait of a brownout or trip the cause stays
that of the wait (R452). -/
def execWarmPin (released : Bool) (s : State) : Res :=
  if s.power.rails = false then .next s
  else if released then
    if s.pins.rstLow then .next { s with pins := { s.pins with rstLow := false } } else .next s
  else if s.pins.rstLow then .next s
  else .next (resetOp { s with pins := { s.pins with rstLow := true } } (s.power.wait.getD 1))

/-- POWER_DOWN: with RST_N asserted, the board rails are removed (R425). -/
def execPowerDown (s : State) : Res :=
  if s.power.rails = false ∨ s.pins.rstLow = false then .next s
  else .next (resetOp { s with power := { s.power with rails := false } } 0)

/-! ### Boot ROM -/

/-- The checks of R373 step 2 and R418 on a slot, in the order of R418's table: 0 when all pass, else the CHECK code.
`len` is the BYTES of FW_BEGIN, where the update path gives one. -/
def bundleCheck (s : State) (f : FwSlot) (len : Option Nat) : Nat :=
  let at_ (o n : Nat) : Nat := leNat (memRead f.bytes o n)
  let key := memRead f.bytes 0x80 64
  if at_ 0 4 ≠ 0x5746535A ∨ at_ 4 2 ≠ 1 ∨ at_ 6 2 ≠ 256 then 1
  else if sha256 key ≠ s.rom.rootKeyHash then 2
  else if ecdsaVerify key (sha256 (memRead f.bytes 0 0xC0)) (memRead f.bytes 0xC0 32) (memRead f.bytes 0xE0 32) = false
    then 3
  else if sha256 (memRead f.bytes (at_ 0x18 4) (at_ 0x1C 4)) ≠ memRead f.bytes 0x40 32 ∨
      sha256 (memRead f.bytes (at_ 0x20 4) (at_ 0x24 4)) ≠ memRead f.bytes 0x60 32 then 4
  else if at_ 0x10 4 / 2 ^ 16 ≠ 1 ∨ at_ 0x14 4 / 2 ^ 16 ≠ 1 then 5
  else if at_ 0x0C 4 < s.nv.counter then 6
  else
    match len with
    | some n => if at_ 0x08 4 = n then 0 else 7
    | none => 0

/-- A firmware slot: B when the flag is true. -/
def fwSlot (s : State) (b : Bool) : FwSlot := if b then s.nv.slotB else s.nv.slotA

/-- A firmware slot written. -/
def setFwSlot (s : State) (b : Bool) (f : FwSlot) : State :=
  { s with nv := if b then { s.nv with slotB := f } else { s.nv with slotA := f } }

/-- The boot flags as the ROM leaves them before it checks a slot (R374), and whether the boot is on trial. -/
def takeFlags (s : State) : State × Bool :=
  if s.nv.trial = false then (s, false)
  else if s.nv.trialBooted = false then ({ s with nv := { s.nv with trialBooted := true } }, true)
  else ({ s with nv := { s.nv with activeB := !s.nv.activeB, trial := false, trialBooted := false } }, false)

/-- Lantern starts on a slot that passed (R373 step 4): start counted (R415), versions recorded, and the inactive slot
checked and reported (R418). -/
def startLantern (s : State) (fellBack trial identityOk : Bool) : State :=
  let f := fwSlot s s.nv.activeB
  let at_ (o : Nat) : Nat := leNat (memRead f.bytes o 4)
  let boot : Boot := { slotB := s.nv.activeB, fellBack := fellBack, trial := trial, identityOk := identityOk,
                       lanternVersion := at_ 0x10, domeVersion := at_ 0x14, svn := at_ 0x0C, served := false }
  let s := { s with sec := { s.sec with boot := boot }, nv := { s.nv with boots := s.nv.boots + 1 },
                    lantern := { s.lantern with running := true, laneUp := true } }
  let g := fwSlot s (!s.nv.activeB)
  if g.status = .empty then s
  else setFwSlot s (!s.nv.activeB) { g with status := if bundleCheck s g none = 0 then .verified else .failed }

/-- The boot ROM (R373, R374): `none` when both slots fail. A slot taken by fallback is active and not on trial. -/
def bootRom (s : State) (identityOk : Bool) : Option State :=
  let p := takeFlags s
  let s := p.1
  if bundleCheck s (fwSlot s s.nv.activeB) none = 0 then some (startLantern s false p.2 identityOk)
  else if bundleCheck s (fwSlot s (!s.nv.activeB)) none = 0 then
    some (startLantern { s with nv := { s.nv with activeB := !s.nv.activeB, trial := false, trialBooted := false } }
      true false identityOk)
  else none

/-! ### Saved configuration -/

/-- The saved Management configuration written in step 2 (R436); MAC's ENABLE waits for step 8. -/
def writeSaved (s : State) : State :=
  s.nv.saved.foldl (fun s p =>
    match decodeAddr p.1 with
    | some (b, off) => if b = .mac ∧ off = 0 then setFld s .mac 0 1 1 (bits p.2 1 1) else setReg s b off p.2
    | none => s) s

/-! ### Identity bus -/

/-- Outcome of one attempt to read an identity memory (R427): 0 read, 1 NACK, 2 bad check code. -/
def idAttempt (x : IdMem) (size magic : Nat) (i : Nat) : Nat :=
  if x.addrAck.getD i false = false ∨ x.complete.getD i false = false then 1
  else if x.bytes.length ≠ size ∨ fieldLE x.bytes 0 4 ≠ magic ∨ fieldLE x.bytes 4 1 ≠ 1 ∨ fieldLE x.bytes 5 1 ≠ size ∨
      fieldLE x.bytes (size - 4) 4 ≠ crc32c (x.bytes.take (size - 4)) then 2
  else 0

/-- Attempts made, in order: up to the first that reads the memory, at most 4 (R427). -/
def idAttempts (x : IdMem) (size magic : Nat) : List Nat :=
  let all := (List.range 4).map (idAttempt x size magic)
  all.takeWhile (fun o => decide (o ≠ 0)) ++ (if all.contains 0 then [0] else [])

/-- Failed transfers flagged and counted (R427). -/
def countFailures (s : State) (l : List Nat) : State :=
  let bad := l.filter (fun o => decide (o ≠ 0))
  let s := if bad.contains 1 then setFlag s .idbus 0x00 1 else s
  let s := if bad.contains 2 then setFlag s .idbus 0x00 2 else s
  bump s .idbus 0x10 bad.length

/-- The limits that R454 marks as checked under R427. -/
def regulatorLimits (b : List Byte) : Bool :=
  decide (3600 ≤ fieldLE b 6 2) && decide (34 ≤ fieldLE b 0x0A 1) && decide (fieldLE b 0x0B 1 < 128) &&
  !(decide (0x50 ≤ fieldLE b 0x0B 1) && decide (fieldLE b 0x0B 1 ≤ 0x58)) && decide (fieldLE b 0x0C 2 ≤ 600) &&
  decide (800 ≤ fieldLE b 0x0E 2)

/-- The values that take a Wavor module into service (R289, R434, R455). -/
def moduleFits (b : List Byte) : Bool :=
  decide (fieldLE b 0x06 1 = 8) && decide (fieldLE b 0x07 1 = 8) && decide (fieldLE b 0x08 1 = 4) &&
  decide (fieldLE b 0x0A 2 = 2484) && decide (fieldLE b 0x0C 2 = 3072) && decide (fieldLE b 0x0E 2 = 768) &&
  decide (fieldLE b 0x10 2 = 16384) && decide (fieldLE b 0x12 2 = 1500) && decide (fieldLE b 0x14 2 = 30000) &&
  decide (fieldLE b 0x20 4 ≤ 550) && decide (fieldLE b 0x24 4 ≤ 9550) && decide (fieldLE b 0x28 4 ≤ 199550) &&
  decide (1 ≤ fieldLE b 0x32 1) && decide (fieldLE b 0x32 1 ≤ 4) && decide (fieldLE b 0x38 8 ≠ 0) &&
  decide (fieldLE b 0x40 1 = 1) && decide (fieldLE b 0x41 1 = 36) && decide (fieldLE b 0x42 2 = 1200)

/-- The memory of the module on port `m` read (R427): a memory whose address byte is never acknowledged is no module
fitted, and counts nowhere. -/
def readModule (s : State) (m : Nat) (x : IdMem) : State :=
  if (List.range 4).all (fun i => x.addrAck.getD i false = false) then s
  else
    let l := idAttempts x 128 0x4D57535A
    let s := countFailures s l
    if l.contains 0 then
      let s := { s with power := { s.power with modulesOk := s.power.modulesOk ||| 2 ^ m } }
      if moduleFits x.bytes then
        { s with power := { s.power with
            found := s.power.found ++ [(m, fieldLE x.bytes 0x38 8, fieldLE x.bytes 0x16 2, fieldLE x.bytes 0x1C 2)] } }
      else s
    else s

/-- Step 3: the identity bus is read, regulator first; the result tells whether start-up goes on (R427). -/
def readIdentity (s : State) (i : StartIn) : State × Bool :=
  let l := idAttempts i.regulator 64 0x5256535A
  let s := countFailures s l
  let b := i.regulator.bytes
  let good := l.contains 0 && regulatorLimits b
  let s := if good then
      { s with power := { s.power with regulatorOk := true, slew := fieldLE b 0x0A 1, pmbusAddr := fieldLE b 0x0B 1 } }
    else setFlag s .pwrseq 0x08 3
  (((List.range 8).zip i.modules).foldl (fun s p => readModule s p.1 p.2) s, good)

/-! ### Start-up -/

/-- START_UP: steps 1 to 4 of R435. With both slots failed the ROM starts the recovery loader (R373, R422); with an
invalid regulator memory start-up stops in step 3 (R427). -/
def execStartUp (i : StartIn) (s : State) : Res :=
  if s.power.rails = false ∨ s.pins.rstLow ∨ s.power.phase ≠ 1 ∨ s.lantern.recovery then .next s
  else
    match bootRom s i.identityOk with
    | none =>
      let s := (takeFlags s).1
      let fail (f : FwSlot) : FwSlot := if f.status = .empty then f else { f with status := .failed }
      .next { s with lantern := { s.lantern with recovery := true, laneUp := true },
                     nv := { s.nv with slotA := fail s.nv.slotA, slotB := fail s.nv.slotB },
                     sec := { s.sec with boot := { s.sec.boot with identityOk := i.identityOk } } }
    | some s =>
      let s := writeSaved s
      let p := readIdentity s i
      let s := p.1
      if p.2 = false then .next { s with power := { s.power with phase := 3 } }
      else .next { s with power := { s.power with phase := 4, voutMv := 800, awaitPg := true },
                          pins := { s.pins with vrEn := true } }

/-- A spare row of a bank taken into use (R284). -/
def useSpare (s : State) (k bank : Nat) : State :=
  let key := 512 * k + bank
  let s := { s with tier := { s.tier with sparesUsed := tset s.tier.sparesUsed key (tgetD s.tier.sparesUsed key 0 + 1) } }
  setFld s (.keep k) 0x38 0 14 (min 8192 (fld s (.keep k) 0x38 0 14 + 1))

/-- Step 8: the restore of a module found on the identity bus starts (R305, R306). Modules no longer fitted keep their
content on the shelf. A FLASH prediction starts afresh when a module reports FIRST_USE (R400). -/
def startFlash (s : State) (i : CoreIn) : State :=
  let old := s.flash
  let kept := old.modules.foldl (fun t p => tset t p.2.serial p.2) old.shelf
  let fitted := s.power.found.filterMap (fun f =>
    (startModule old f.1 f.2.1 f.2.2.1 f.2.2.2 (i.journalOk.contains f.1) (i.bbtOk.contains f.1)
      ((i.badBlocks.filter (fun b => decide (b.1 = f.1))).map (fun b => b.2))).map (fun x => (f.1, x)))
  let shelf := kept.filter (fun p => !(fitted.any (fun f => decide (f.2.serial = p.1))))
  let wear := if fitted.any (fun f => f.2.firstUse) then s.nv.wear.filter (fun w => decide (w.2.1 ≠ 4)) else s.nv.wear
  { s with flash := { s.flash with modules := fitted.foldl (fun t f => tset t f.1 f.2) [], shelf := shelf },
           nv := { s.nv with wear := wear } }

/-- VR_PG_GOOD: VR_PG rises within its time and steps 5 to 9 run (R435): domain wake, repair maps, overwrite, tests,
spare switch-ins, restores and the MAC; then Sable with BEACON REASON 2. A failing unit other than a tile puts the
device in Vermilion. -/
def execVrPgGood (i : CoreIn) (s : State) : Res :=
  if s.power.awaitPg = false then .next s
  else if (i.badPes.all (fun p => decide (p.1 < 640) && decide (p.2.1 < 132) && decide (p.2.2 < 132)) &&
      i.tileFails.all (fun t => decide (t < 640)) && i.unitFails.all unitExists) = false then malformed "unit"
  else
    let s := { s with power := { s.power with awaitPg := false }, pins := { s.pins with vrPg := true } }
    let s := bump s .pwrseq 0x30 32
    let s := s.nv.repairs.foldl (fun s r => useSpare s r.1 r.2.1) s
    let s := (asSet (i.badPes.map (·.1))).foldl (switchIn i.badPes) s
    let s := i.tileFails.foldl (fun s t => setTile s t { tileAt s t with inService := false }) s
    let s := (asSet (i.badPes.map (·.1))).foldl (fun s t =>
      if retired s t then setTile s t { tileAt s t with inService := false } else s) s
    let s := startFlash s i
    let s := match tget s.nv.saved (regAddr .mac 0) with
      | some v => if bit v 0 then writeMacCtrl s v else s
      | none => s
    let s := { s with power := { s.power with phase := 9 }, reason := 2 }
    if i.unitFails = [] then .next s else .next (enterVermilion s)

/-- VR_PG_TIMEOUT: VR_PG stays low for 20 ms after VR_EN; start-up stops in step 4 (R435). -/
def execVrPgTimeout (s : State) : Res :=
  if s.power.awaitPg = false then .next s
  else .next (setFlag { s with power := { s.power with awaitPg := false } } .pwrseq 0x08 2)

/-! ### Brownout and thermal trip -/

/-- A record that the sequencer puts in the persistent store, not through Belfry (R429, R458); its entry form is this
model's (log entry 13). -/
def persistPower (s : State) (detail : Nat) : State :=
  let e : LogEntry := { seq := 0, frame := now s, cls := 1, mech := 0, action := 3, ctx := 0xFF, unit := 0x0600,
                        entry := 0xFFFF, detail := detail }
  { s with nv := { s.nv with
      persist := ringPush 65536 s.nv.persist { num := s.nv.persistNext, boot := s.nv.boots, entry := e },
      persistNext := s.nv.persistNext + 1 } }

/-- Steps 1 to 3 of R429: the release gate closes, FLT_N falls, VR_EN drops; the reset of the cause follows after
100 ms. -/
def emergencyStop (s : State) (cause : Nat) : State :=
  { s with pins := { s.pins with fltLow := true, vrEn := false, vrPg := false },
           belfry := { s.belfry with gateClosed := true },
           power := { s.power with wait := some cause, awaitPg := false } }

/-- VR_PG_FALL: a low of 1 µs or more while VR_EN is high is a brownout; any other is ignored (R429, R451, R452). While
VR_PG has not risen yet it is awaited (R435 step 4). -/
def execVrPgFall (longUs : Bool) (s : State) : Res :=
  if s.pins.vrEn = false ∨ longUs = false ∨ s.power.awaitPg then .next s
  else .next (persistPower (setFlag (emergencyStop s 4) .pwrseq 0x08 2) 4)

/-- BROWNOUT: 100 ms after a brownout the device performs its reset (R429). -/
def execBrownout (s : State) : Res := if s.power.wait = some 4 then .next (resetOp s 4) else .next s

/-- Sensors of junctions that have a trip temperature (R413, R458). -/
def tripSensor (i : Nat) : Bool := decide (i ≤ 8) || (decide (16 ≤ i) && decide (i ≤ 47))

/-- THERMAL_TRIP: one sampling finds the given sensors at or above their trip temperature (R458). During a wait nothing
more happens (R452). -/
def execThermalTrip (sensors : List Nat) (s : State) : Res :=
  if sensors = [] ∨ sensors.all tripSensor = false then malformed "sensor"
  else if s.power.wait.isSome ∨ s.pins.vrEn = false then .next s
  else
    let s := emergencyStop s 5
    .next ((asSet sensors).foldl (fun s i => persistPower s (5 + 256 * i)) s)

/-- THERMAL: 100 ms after a trip the device performs its reset (R458). -/
def execThermal (s : State) : Res := if s.power.wait = some 5 then .next (resetOp s 5) else .next s

/-- VOUT_STEP: VDD_CORE steps by 5 mV, down while the monitors report margin, up otherwise, within 600 to 800 mV (R426). -/
def execVoutStep (marginOk : Bool) (s : State) : Res :=
  if s.pins.vrEn = false ∨ s.pins.vrPg = false then .next s
  else
    let v := s.power.voutMv
    .next { s with power := { s.power with voutMv := if marginOk then max 600 (v - 5) else min 800 (v + 5) } }

/-! ### Throttling and the peak limit -/

/-- SUSTAIN_W in force: the reset value while PWRSEQ's ENABLE is 0 (R441). -/
def sustainW (s : State) : Nat := if enabled s .pwrseq then fld s .pwrseq 0x10 0 12 else 3000

/-- PEAK_W in force. -/
def peakW (s : State) : Nat := if enabled s .pwrseq then fld s .pwrseq 0x10 16 12 else 3600

/-- Value of a sensor's last sample, 0 before the first. -/
def sensorValue (s : State) (i : Nat) : Int := match tget s.lantern.sensors i with
  | some x => x.value
  | none => 0

/-- The hottest junction of sensors 0 to 47, in 0.1 °C (R430). -/
def hottest (s : State) : Int :=
  ((List.range 48).filter tripSensor).foldl (fun acc i => max acc (sensorValue s i)) 0

/-- The throttle level changes: flag, event (R44, R441, R344). -/
def setLevel (s : State) (level : Nat) : State :=
  eventAll (setFlag { s with adm := { s.adm with level := level },
                             power := { s.power with sinceChange := 0 } } .pwrseq 0x08 5) 0x03 level 0

/-- THROTTLE_EVALUATION: every 100 ms in Ivory or Amber (R430, R440). Ten evaluations make the 1 s of the rule. -/
def execThrottleEvaluation (s : State) : Res :=
  if serving s = false then .next s
  else
    let p := sensorValue s 53
    let t := hottest s
    let w : Int := sustainW s
    let calm := if 2 * p < 17 * w ∧ t ≤ 850 then s.power.calm + 1 else 0
    let s := { s with power := { s.power with calm := calm, sinceChange := s.power.sinceChange + 1 } }
    if (19 * w < 2 * p ∨ 900 ≤ t) ∧ s.adm.level < 3 then .next (setLevel s (s.adm.level + 1))
    else if 10 ≤ calm ∧ 10 ≤ s.power.sinceChange ∧ 0 < s.adm.level ∧ ¬(19 * w < 2 * p ∨ 900 ≤ t) then
      .next (setLevel s (s.adm.level - 1))
    else .next s

/-- A tile runs an Elastic task. -/
def elasticRunning (x : Tile) : Bool :=
  decide (x.run = .running) && match x.task with
  | some k => k.elastic && !k.complete
  | none => false

/-- A tile's Elastic task is pre-empted (R137). -/
def preempt (s : State) (t : Nat) : State :=
  let s := setTile s t { tileAt s t with run := .preempted }
  bump (setFlag s (.tile t) 0x08 2) (.spire (t / 80)) 0x30 1

/-- A pre-empted task runs on (R137). -/
def resumeTask (s : State) (t : Nat) : State := setTile s t { tileAt s t with run := .running }

/-- Tiles of a Spire that run Elastic tasks, ascending. -/
def runningElastic (s : State) (p : Nat) : List Nat :=
  (s.tiles.filter (fun e => decide (e.1 / 80 = p) && elasticRunning e.2)).map (·.1)

/-- The next tile to pre-empt: on the Spire with the most running Elastic tasks (the lowest among equals, log entry 14),
its highest tile (R431). -/
def nextVictim (s : State) : Option Nat :=
  let best := (List.range 8).foldl (fun acc p =>
    if (runningElastic s acc).length < (runningElastic s p).length then p else acc) 0
  (runningElastic s best).getLast?

/-- Pre-emptions while the estimate for the next window is not below 0.90 × PEAK_W (R431). -/
def preemptDown (s : State) : List Nat → State
  | [] => s
  | e :: rest =>
    if 100 * e < 90 * peakW s then s
    else
      match nextVictim s with
      | none => s
      | some t =>
        let s := bump (preempt s t) .pwrseq 0x28 1
        preemptDown { s with power := { s.power with preempted := t :: s.power.preempted } } rest

/-- Resumptions, latest pre-emption first, while the estimate stays below 0.90 × PEAK_W (R431). A task that has gone since
is passed over. -/
def resumeUp (s : State) : List Nat → State
  | [] => s
  | e :: rest =>
    if 90 * peakW s ≤ 100 * e then s
    else
      match s.power.preempted with
      | [] => s
      | t :: more =>
        let s := { s with power := { s.power with preempted := more } }
        resumeUp (if (tileAt s t).run = .preempted then resumeTask s t else s) rest

/-- PEAK_POWER_WINDOW: one window of 2,048 cycles. `estimates` are the estimate of this window and those for the next
window after each further pre-emption or resumption (R431). -/
def execPeakPowerWindow (estimates : List Nat) (s : State) : Res :=
  match estimates with
  | [] => .next s
  | e :: rest =>
    if 97 * peakW s < 100 * e then
      match nextVictim s with
      | none => .next s
      | some _ => .next (preemptDown (setFlag s .pwrseq 0x08 4) (e :: rest))
    else .next (resumeUp s (e :: rest))

/-! ### Wake-up pacing -/

/-- RB, the steps that one frame period may release, in A; PERIOD_US is 250 before the first frame (R433). -/
def rampBudget (s : State) : Nat :=
  min 3600 (s.power.slew * (if enabled s .frame then periodUs s else 250) / 4)

/-- PACE_MAX_US (R433); 0 until the slew limit is known. -/
def paceMaxUs (s : State) : Nat := if s.power.slew = 0 then 0 else ceilDiv 15250 s.power.slew

/-- WAKE_STEP_RELEASE: the next queued step is released within the budget of the frame (R433). Before frames run, each
release lies in an interval of its own. -/
def execWakeStepRelease (s : State) : Res :=
  match s.power.wakes with
  | [] => .next s
  | w :: rest =>
    let used := if enabled s .frame then s.power.released else 0
    if rampBudget s < used + stepAmps w.domain then .next s
    else .next (bump { s with power := { s.power with wakes := rest, released := used + stepAmps w.domain } } .pwrseq 0x30 1)

/-- PWRSEQ_LIMITS written through the management path (R70, R441): the status of R69 goes back, and an accepted value is
saved (R436). Reserved bits are written as 0. -/
def writeLimits (s : State) (v : Word) : State :=
  let sus := bits v 0 12
  let peak := bits v 16 12
  if enabled s .pwrseq then setFlag s .pwrseq 0x08 0
  else if sus < 1000 ∨ 3000 < sus ∨ peak < sus ∨ 3600 < peak then setFlag s .pwrseq 0x08 1
  else
    let w : Word := BitVec.ofNat 64 (sus + peak * 2 ^ 16)
    saveMgmt (setReg s .pwrseq 0x10 w) .pwrseq 0x10 w

/-- PWRSEQ_LIMITS: the operator's write; DENIED in Vermilion (R395). -/
def execPwrseqLimits (v : Word) (s : State) : Res :=
  if s.dev = .vermilion then .next (emitOut s (.access 2 0))
  else .next (emitOut (writeLimits s v) (.access 0 0))

end Sys2Proof.Machine
end

