-- ==== Sys2Proof/Machine/Arith.lean ====
section
/-! DEFINITION. Number formats and exact arithmetic (chapter 04): decoding and encoding of every format of R76, rounding
to nearest even and the overflow and special values of R77 and R78, the core operations of R79, and the functions EXP,
RECIP, RSQRT and TANH, rounded correctly (R79, log entry 15). -/

namespace Sys2Proof.Machine

/-! ### Values -/

/-- A number as the device computes with it: NaN, an infinity, or a sign with a magnitude m × 2^e. -/
inductive FNum where
  | nan
  | inf (neg : Bool)
  | fin (neg : Bool) (m : Nat) (e : Int)
  deriving DecidableEq, Repr

/-- Exact zero. -/
def FNum.zero : FNum := .fin false 0 0

/-- Number of bits of a natural number, at most `fuel`. -/
def bitLen (n : Nat) : Nat := if n = 0 then 0 else Nat.log2 n + 1

/-- m ÷ 2^k rounded to nearest, ties to even (R77). -/
def rneShift (m k : Nat) : Nat :=
  let q := m >>> k
  let r := m % 2 ^ k
  if k = 0 then q
  else if 2 ^ (k - 1) < r ∨ (r = 2 ^ (k - 1) ∧ q % 2 = 1) then q + 1 else q

/-- The integer nearest to m × 2^e, ties to even. -/
def rneNat (m : Nat) (e : Int) : Nat := if 0 ≤ e then m <<< e.toNat else rneShift m (-e).toNat

/-- The integer nearest to a finite number, ties to even. -/
def rneInt (neg : Bool) (m : Nat) (e : Int) : Int := if neg then -(rneNat m e : Int) else rneNat m e

/-- The number that an integer is, scaled by 2^e. -/
def ofInt (x : Int) (e : Int) : FNum := .fin (decide (x < 0)) x.natAbs e

/-! ### Formats -/

/-- A floating format of R76: width, precision with the hidden bit, exponent of the smallest subnormal, magnitude code of
infinity (of NaN in E4M3, which has none), canonical NaN, and whether infinities exist. -/
structure FloatFmt where
  width : Nat
  p : Nat
  emin : Int
  top : Nat
  nan : Nat
  hasInf : Bool
  deriving DecidableEq, Repr

/-- Floating formats by code (R76). -/
def floatFmt : Nat → Option FloatFmt
  | 0x4 => some ⟨8, 4, -9, 0x7F, 0x7F, false⟩
  | 0x5 => some ⟨8, 3, -16, 0x7C, 0x7F, true⟩
  | 0x6 => some ⟨16, 8, -133, 0x7F80, 0x7FC0, true⟩
  | 0x7 => some ⟨16, 11, -24, 0x7C00, 0x7E00, true⟩
  | 0x8 => some ⟨32, 24, -149, 0x7F800000, 0x7FC00000, true⟩
  | _ => none

/-- FP32. -/
def fp32 : FloatFmt := ⟨32, 24, -149, 0x7F800000, 0x7FC00000, true⟩

/-- Width, least and greatest value of the integer formats by code (R76); BIN counts as 0 to 1. -/
def intFmt : Nat → Option (Nat × Int × Int)
  | 0x0 => some (4, -8, 7)
  | 0x1 => some (4, 0, 15)
  | 0x2 => some (8, -128, 127)
  | 0x3 => some (8, 0, 255)
  | 0x9 => some (1, 0, 1)
  | 0xA => some (32, -2147483648, 2147483647)
  | _ => none

/-- Bits of an element of a format; 0 for a code that R76 does not give. -/
def fmtWidth (f : Nat) : Nat :=
  match floatFmt f, intFmt f with
  | some x, _ => x.width
  | none, some x => x.1
  | none, none => 0

/-- Value of a floating code (R76). -/
def floatNum (f : FloatFmt) (c : Nat) : FNum :=
  let mag := c % 2 ^ (f.width - 1)
  let neg := c.testBit (f.width - 1)
  if f.top < mag ∨ (mag = f.top ∧ f.hasInf = false) then .nan
  else if mag = f.top then .inf neg
  else
    let ex := mag / 2 ^ (f.p - 1)
    let frac := mag % 2 ^ (f.p - 1)
    if ex = 0 then .fin neg frac f.emin else .fin neg (2 ^ (f.p - 1) + frac) (f.emin + ex - 1)

/-- Signed value of a code of an integer format (R76). -/
def intVal (f c : Nat) : Int :=
  match intFmt f with
  | some (w, lo, _) => if lo < 0 ∧ c.testBit (w - 1) then (c % 2 ^ w : Nat) - (2 ^ w : Nat) else (c % 2 ^ w : Nat)
  | none => 0

/-- Value of a code of any format. -/
def numOf (f c : Nat) : FNum :=
  match floatFmt f with
  | some x => floatNum x c
  | none => ofInt (intVal f c) 0

/-- Magnitude code of m × 2^e rounded to nearest even, overflow apart (R77). -/
def roundMag (f : FloatFmt) (m : Nat) (e : Int) : Nat :=
  let q : Int := max (e + bitLen m - f.p) f.emin
  let r := if q ≤ e then m <<< (e - q).toNat else rneShift m (q - e).toNat
  (q - f.emin).toNat * 2 ^ (f.p - 1) + r

/-- Sign bit of a format. -/
def signBit (f : FloatFmt) (neg : Bool) : Nat := if neg then 2 ^ (f.width - 1) else 0

/-- Code of a number in a floating format (R77, R78): exact zero is +0, a NaN is the canonical NaN, and an FP8 format
saturates where `sat` is set. -/
def toFloat (f : FloatFmt) (sat : Bool) : FNum → Nat
  | .nan => f.nan
  | .inf neg =>
    if f.hasInf then f.top + signBit f neg
    else if sat then f.top - 1 + signBit f neg
    else f.nan
  | .fin neg m e =>
    if m = 0 then 0
    else
      let mag := roundMag f m e
      if mag < f.top then mag + signBit f neg
      else if sat ∧ f.width = 8 then f.top - 1 + signBit f neg
      else if f.hasInf then f.top + signBit f neg
      else f.nan

/-- What a conversion counts (R77, R92): clamped to an integer's limits, or from or to a special value. -/
structure Conv where
  code : Nat
  saturated : Bool
  special : Bool
  deriving DecidableEq, Repr

/-- Conversion of a number to a format with a zero point (R77, R85, R92). -/
def convert (f : Nat) (sat : Bool) (zp : Int) (x : FNum) : Conv :=
  match floatFmt f, intFmt f with
  | some g, _ =>
    let c := toFloat g sat x
    let src := match x with
      | .fin _ _ _ => false
      | _ => true
    let out := match floatNum g c with
      | .fin _ _ _ => false
      | _ => true
    { code := c, saturated := false, special := src || out }
  | none, some (w, lo, hi) =>
    let put (v : Int) : Nat := (v % (2 ^ w : Nat)).toNat
    match x with
    | .nan => { code := put zp, saturated := false, special := true }
    | .inf neg => { code := put (if neg then lo else hi), saturated := false, special := true }
    | .fin neg m e =>
      let v := rneInt neg m e + zp
      { code := put (max lo (min hi v)), saturated := decide (v < lo) || decide (hi < v), special := false }
  | none, none => { code := 0, saturated := false, special := false }

/-- A number rounded to FP32 and taken back. -/
def rne32 (x : FNum) : FNum := floatNum fp32 (toFloat fp32 false x)

/-- Value of an FP32 code. -/
def num32 (c : BitVec 32) : FNum := floatNum fp32 c.toNat

/-- FP32 code of a number. -/
def code32 (x : FNum) : BitVec 32 := BitVec.ofNat 32 (toFloat fp32 false x)

/-! ### Exact operations -/

/-- Signed mantissa of a number at exponent `q`, at or below its own. -/
def mantAt (neg : Bool) (m : Nat) (e q : Int) : Int :=
  let v : Int := (m <<< (e - q).toNat : Nat)
  if neg then -v else v

/-- The exact sum of two numbers (R78, R79). -/
def addNum : FNum → FNum → FNum
  | .nan, _ => .nan
  | _, .nan => .nan
  | .inf a, .inf b => if a = b then .inf a else .nan
  | .inf a, .fin _ _ _ => .inf a
  | .fin _ _ _, .inf b => .inf b
  | .fin a m e, .fin b n g =>
    let q := min e g
    ofInt (mantAt a m e q + mantAt b n g q) q

/-- The number negated. -/
def negNum : FNum → FNum
  | .nan => .nan
  | .inf a => .inf (!a)
  | .fin a m e => .fin (!a) m e

/-- The exact product of two numbers. -/
def mulNum : FNum → FNum → FNum
  | .nan, _ => .nan
  | _, .nan => .nan
  | .inf a, .inf b => .inf (a != b)
  | .inf a, .fin b n _ => if n = 0 then .nan else .inf (a != b)
  | .fin a m _, .inf b => if m = 0 then .nan else .inf (a != b)
  | .fin a m e, .fin b n g => .fin (a != b) (m * n) (e + g)

/-- `x` is less than `y`; false when either is NaN. -/
def ltNum : FNum → FNum → Bool
  | .nan, _ => false
  | _, .nan => false
  | .inf a, .inf b => a && !b
  | .inf a, .fin _ _ _ => a
  | .fin _ _ _, .inf b => !b
  | .fin a m e, .fin b n g =>
    let q := min e g
    decide (mantAt a m e q < mantAt b n g q)

/-- Numbers compare equal; false when either is NaN. -/
def eqNum (x y : FNum) : Bool :=
  match x, y with
  | .nan, _ => false
  | _, .nan => false
  | x, y => !(ltNum x y) && !(ltNum y x)

/-- The larger of two numbers; NaN when either is NaN (IEEE 754-2019 maximum, R79). -/
def maxNum (x y : FNum) : FNum := if x = .nan ∨ y = .nan then .nan else if ltNum x y then y else x

/-- The smaller of two numbers; NaN when either is NaN (IEEE 754-2019 minimum, R79). -/
def minNum (x y : FNum) : FNum := if x = .nan ∨ y = .nan then .nan else if ltNum y x then y else x

/-! ### Rounded functions -/

/-- A positive quotient to 400 bits beyond the point of its leading bit, its last bit set when it is not exact: enough for
a correct rounding to any format. -/
def ratNum (neg : Bool) (num den : Nat) (e : Int) : FNum :=
  if num = 0 then .fin false 0 0
  else
    let k := 400 + bitLen den
    let q := (num <<< k) / den
    .fin neg (2 * q + (if (num <<< k) % den = 0 then 0 else 1)) (e - k - 1)

/-- 1 ÷ x (R111): ±0 gives an infinity of its sign, an infinity gives zero. -/
def recipNum : FNum → FNum
  | .nan => .nan
  | .inf _ => .zero
  | .fin a m e => if m = 0 then .inf a else ratNum a 1 m (-e)

/-- Integer square root by bits from `fuel - 1` down. -/
def isqrtBits (n acc : Nat) : Nat → Nat
  | 0 => acc
  | fuel + 1 =>
    let t := acc + 2 ^ fuel
    isqrtBits n (if t * t ≤ n then t else acc) fuel

/-- Integer square root. -/
def isqrt (n : Nat) : Nat := isqrtBits n 0 (bitLen n / 2 + 1)

/-- 1 ÷ √x (R111): NaN below zero, an infinity of its sign at ±0, zero at +∞. -/
def rsqrtNum : FNum → FNum
  | .nan => .nan
  | .inf a => if a then .nan else .zero
  | .fin a m e =>
    if m = 0 then .inf a
    else if a then .nan
    else
      let odd := e % 2 = 1
      let m := if odd then 2 * m else m
      let e := if odd then e - 1 else e
      let y := 2 ^ 800 / m
      let q := isqrt y
      .fin false (2 * q + (if q * q * m = 2 ^ 800 then 0 else 1)) (-(e / 2) - 401)

/-- Fractional bits of the fixed point in which EXP is summed. -/
def expBits : Nat := 640

/-- The series of exp at x ÷ 2^16, x in fixed point: terms from `k` on, the last term given. -/
def expSeries (x term acc k : Nat) : Nat → Nat
  | 0 => acc
  | fuel + 1 =>
    let t := (term * x) >>> expBits / k
    if t = 0 then acc else expSeries x t (acc + t) (k + 1) fuel

/-- Repeated squaring in fixed point. -/
def sqTimes (x : Nat) : Nat → Nat
  | 0 => x
  | n + 1 => sqTimes ((x * x) >>> expBits) n

/-- exp of m × 2^e, at most 200 in magnitude, in fixed point, to more than 400 bits. -/
def expFix (m : Nat) (e : Int) : Nat :=
  let x := rneNat m (e + expBits) >>> 16
  sqTimes (expSeries x (1 <<< expBits) (1 <<< expBits) 1 200) 16

/-- A magnitude is above 200, where EXP overflows or vanishes in every format and TANH is 1. -/
def above200 (m : Nat) (e : Int) : Bool := decide (200 < rneNat m e)

/-- exp x (R111). -/
def expNum : FNum → FNum
  | .nan => .nan
  | .inf a => if a then .zero else .inf false
  | .fin a m e =>
    if m = 0 then .fin false 1 0
    else if above200 m e then (if a then .fin false 1 (-1000) else .fin false 1 1000)
    else if a then ratNum false (1 <<< expBits) (expFix m e) 0
    else .fin false (2 * expFix m e + 1) (-(expBits : Int) - 1)

/-- tanh x (R111). -/
def tanhNum : FNum → FNum
  | .nan => .nan
  | .inf a => .fin a 1 0
  | .fin a m e =>
    if m = 0 then .zero
    else if above200 m e then .fin a 1 0
    else
      let x := expFix m (e + 1)
      ratNum a (x - 1 <<< expBits) (x + 1 <<< expBits) 0

/-! ### Elements in memory -/

/-- The codes that a byte string packs, ascending, for elements of `w` bits (R76, R105). -/
def unpackSmall (w : Nat) : List Byte → List Nat
  | [] => []
  | b :: bs => (List.range (8 / w)).map (fun i => b.toNat / 2 ^ (w * i) % 2 ^ w) ++ unpackSmall w bs

/-- The first `n` little-endian words of `k` bytes; missing bytes read 0. -/
def unpackWords (k : Nat) : Nat → List Byte → List Nat
  | 0, _ => []
  | n + 1, bs => leNat (bs.take k) :: unpackWords k n (bs.drop k)

/-- Bytes that `n` elements of `w` bits take. -/
def elemBytes (w n : Nat) : Nat := ceilDiv (w * n) 8

/-- The first `n` elements of `w` bits of a byte string. -/
def elems (w n : Nat) (bs : List Byte) : List Nat :=
  if w < 8 then (unpackSmall w (fit (elemBytes w n) bs)).take n else unpackWords (w / 8) n bs

/-- Value of small codes packed into one byte, first in the low bits. -/
def packByte (w : Nat) : List Nat → Nat
  | [] => 0
  | c :: cs => c % 2 ^ w + 2 ^ w * packByte w cs

/-- Small codes packed into bytes, at most `n` of them. -/
def packSmall (w : Nat) : Nat → List Nat → List Byte
  | 0, _ => []
  | n + 1, cs => BitVec.ofNat 8 (packByte w (cs.take (8 / w))) :: packSmall w n (cs.drop (8 / w))

/-- Elements of `w` bits packed into bytes (R76, R105). -/
def packElems (w : Nat) (cs : List Nat) : List Byte :=
  if w < 8 then packSmall w (elemBytes w cs.length) cs else cs.flatMap (fun c => toLE (w / 8) c)

end Sys2Proof.Machine
end

