-- ==== Sys2Proof/Machine/Array.lean ====
section
/-! DEFINITION. Tile buffers, the matrix array, the quantiser and the scale registers (chapter 04), and the element-wise
and reduction operators of the cores (R111). Tensors lie row by row in their buffers (log entry 16). -/

namespace Sys2Proof.Machine

/-! ### Tasks and buffers -/

/-- `n` bytes of a task's buffer (R109): a PERSIST buffer is read in the half that the step before wrote; the contents of
a byte that nothing has written for the request are undefined, a free value. -/
def bufRead (s : State) (t : Nat) (x : Tile) (k : Task) (b off n : Nat) : List Byte :=
  let half := decide (bufKind s k b = 1) && decide (k.step % 2 = 1)
  (List.range n).map (fun i =>
    match tget x.sram (bufKey k.entry half b (off + i)) with
    | some v => v
    | none => Config.scratchByte k.frame t b (off + i))

/-- Bytes written at rising offsets. -/
def sramWrite (m : Table Byte) (key : Nat) : List Byte → Table Byte
  | [] => m
  | b :: bs => sramWrite (tset m key b) (key + 1) bs

/-- Bytes written to a task's buffer; a PERSIST buffer takes them in the half that this step writes. -/
def bufWrite (s : State) (t : Nat) (k : Task) (b off : Nat) (bs : List Byte) : State :=
  let x := tileAt s t
  let half := decide (bufKind s k b = 1) && decide (k.step % 2 = 0)
  setTile s t { x with sram := sramWrite x.sram (bufKey k.entry half b off) bs }

/-- A meaning that needs the tile's running task (R107); a task that waits for a credit runs nothing else (R116). -/
def onTask (s : State) (t : Nat) (f : Tile → Task → Res) : Res :=
  if 640 ≤ t then malformed "tile"
  else
    match (tileAt s t).task with
    | none => .next s
    | some k =>
      if (tileAt s t).run ≠ .running ∨ k.complete ∨ k.waiting.isSome ∨ k.waitStream.isSome then .next s else f (tileAt s t) k

/-- A task's record changed. -/
def setTask (s : State) (t : Nat) (f : Task → Task) : State :=
  let x := tileAt s t
  setTile s t { x with task := x.task.map f }

/-- The program goes on with its next record (R110). -/
def advance (s : State) (t : Nat) : State := setTask s t (fun k => { k with pos := k.pos + 1 })

/-! ### The matrix product -/

/-- Formats of R76 that are two's complement or unsigned integers of 4 or 8 bits. -/
def isIntOperand (f : Nat) : Bool := decide (f < 4)

/-- Operand pairings permitted (R88). -/
def pairOk (a b : Nat) : Bool :=
  (isIntOperand a && isIntOperand b) || ((a == 4 || a == 5) && (b == 4 || b == 5)) || (a == 6 && b == 6) ||
  (a == 7 && b == 7) || (a == 9 && b == 9)

/-- A zero point lies in its format's range, and is 0 for a floating or BIN format (R80, R81). -/
def zpOk (f : Nat) (z : Int) : Bool :=
  match isIntOperand f, intFmt f with
  | true, some (_, lo, hi) => decide (lo ≤ z) && decide (z ≤ hi)
  | _, _ => decide (z = 0)

/-- The parameters obey R81, R82, R83, R87, R88 (OUT_ZP, log entry 95), R93, R94 and R95. -/
def matmulOk (p : MatmulP) : Bool :=
  let packed := decide (1 < p.problems)
  let top := if packed then 32 else 128
  let ints := isIntOperand p.aFmt && isIntOperand p.bFmt
  pairOk p.aFmt p.bFmt && (decide (p.outFmt ≤ 8) || decide (p.outFmt = 0xA)) &&
  decide (1 ≤ p.problems) && decide (p.problems ≤ 16) && decide (1 ≤ p.m) && decide (p.m ≤ top) &&
  decide (1 ≤ p.n) && decide (p.n ≤ top) && decide (1 ≤ p.k) && decide (p.k ≤ 16777216) &&
  decide (p.scaleMode ≤ 3) && zpOk p.aFmt p.aZp && zpOk p.bFmt p.bZp &&
  (if isIntOperand p.outFmt then zpOk p.outFmt p.outZp else decide (p.outZp = 0)) &&
  (decide (p.bZp = 0) || !(p.sparse || p.skip)) && (decide (p.scaleMode < 2) || ints) &&
  (decide (p.outFmt ≠ 0xA) || ((ints || decide (p.aFmt = 9)) && decide (p.scaleMode = 0) &&
    decide (p.outScale = 0x3F800000#32))) &&
  (!p.sparse || (decide (p.aFmt < 2) && decide (p.bFmt < 2))) && (!p.skip || (!packed && decide (p.scaleMode < 2))) &&
  decide (p.scaleBase + p.n ≤ 4096) &&
  (decide (p.scaleMode % 2 = 0) || decide (p.scaleBase + 32 * (p.problems - 1) + p.n ≤ 4096))

/-- M, N and K of problem `i` of a pass: the parameters' own, or the packed problem's (R87, R95). -/
def shapeOf (p : MatmulP) (i : Nat) : Nat × Nat × Nat := if p.problems ≤ 1 then (p.m, p.n, p.k) else p.shapes.getD i (p.m, p.n, p.k)

/-- The shapes of packed problems lie within the parameters, which hold the largest (R87). -/
def shapesOk (p : MatmulP) : Bool :=
  decide (p.problems ≤ 1) || (decide (p.shapes.length = p.problems) && p.shapes.all (fun d =>
    decide (1 ≤ d.1) && decide (d.1 ≤ p.m) && decide (1 ≤ d.2.1) && decide (d.2.1 ≤ p.n) && decide (1 ≤ d.2.2) &&
    decide (d.2.2 ≤ p.k)))

/-- Data rows and columns of a problem's block of PEs (R95, R96). -/
def blockLines (p : MatmulP) : Nat := if 1 < p.problems then 32 else 128

/-- Rows that B stores for a depth (R93): two for each group of four when compressed. -/
def bRows (p : MatmulP) (k : Nat) : Nat := if p.sparse then 2 * ceilDiv k 4 else k

/-- First element of problem `i` in an operand that holds `size` elements for a problem of a shape. -/
def elemBase (p : MatmulP) (i : Nat) (size : Nat × Nat × Nat → Nat) : Nat := sumBy (fun j => size (shapeOf p j)) (List.range i)

/-- Elements of A, of B as stored, of B's metadata and of its streamed scales, for a problem of a shape (R83, R87, R93). -/
def aSize (d : Nat × Nat × Nat) : Nat := d.1 * d.2.2
def bSize (p : MatmulP) (d : Nat × Nat × Nat) : Nat := d.2.1 * bRows p d.2.2
def nibSize (d : Nat × Nat × Nat) : Nat := d.2.1 * ceilDiv d.2.2 4
def scaleSize (d : Nat × Nat × Nat) : Nat := d.2.1 * ceilDiv d.2.2 32

/-- Bytes of the A and the B operand of a pass; the metadata lie after all of B's values (log entry 16). -/
def passBytes (p : MatmulP) : Nat × Nat :=
  let meta_ := if p.sparse then ceilDiv (4 * elemBase p p.problems nibSize) 8 else 0
  (elemBytes (fmtWidth p.aFmt) (elemBase p p.problems aSize),
   elemBytes (fmtWidth p.bFmt) (elemBase p p.problems (bSize p)) + meta_)

/-- A problem of a pass, unpacked: depth, codes of A and B by position, whether a depth position is streamed, streamed
exponent by position and column, and whether its metadata are valid (R83, R93, R94). -/
structure Problem where
  m : Nat
  n : Nat
  k : Nat
  a : List Nat
  b : List Nat
  nib : List Nat
  blocks : Option (List Nat)
  scale : List Nat
  deriving DecidableEq, Repr

/-- The operands of problem `i`, unpacked from the captured bytes. -/
def problemOf (p : MatmulP) (ab bb cb : List Byte) (i : Nat) : Problem :=
  let d := shapeOf p i
  let nb := elemBase p p.problems (bSize p)
  let part {α : Type} (l : List α) (size : Nat × Nat × Nat → Nat) : List α := (l.drop (elemBase p i size)).take (size d)
  { m := d.1, n := d.2.1, k := d.2.2,
    a := part (elems (fmtWidth p.aFmt) (elemBase p p.problems aSize) ab) aSize,
    b := part (elems (fmtWidth p.bFmt) nb bb) (bSize p),
    nib := if p.sparse then
        part (elems 4 (elemBase p p.problems nibSize) (bb.drop (elemBytes (fmtWidth p.bFmt) nb))) nibSize
      else [],
    blocks := if p.skip then some (unpackWords 4 (leNat (cb.take 4)) (cb.drop 8)) else none,
    scale := if 2 ≤ p.scaleMode then (part cb scaleSize).map (·.toNat) else [] }

/-- Two's complement value of a streamed scale byte (R83). -/
def scaleExp (c : Nat) : Int := if c < 128 then c else (c : Int) - 256

/-- A list is strictly ascending. -/
def ascending : List Nat → Bool
  | a :: b :: r => decide (a < b) && ascending (b :: r)
  | _ => true

/-- The metadata of a problem are valid: else the task aborts with META_FAULT (R83, R93, R94). -/
def metaOk (q : Problem) : Bool :=
  q.nib.all (fun c => decide (c % 4 < c / 4 % 4)) &&
  q.scale.all (fun c => decide (-16 ≤ scaleExp c) && decide (scaleExp c ≤ 15)) &&
  match q.blocks with
  | none => true
  | some l => ascending l && l.all (fun b => decide (b < ceilDiv q.k 32))

/-- Code of A at row m and depth k. -/
def aCode (q : Problem) (m k : Nat) : Nat := q.a.getD (m * q.k + k) 0

/-- Code of B at depth k and column n, decompressed (R93). -/
def bCode (q : Problem) (sparse : Bool) (k n : Nat) : Nat :=
  if sparse then
    let g := k / 4
    let c := q.nib.getD (g * q.n + n) 0
    if k % 4 = c % 4 then q.b.getD (2 * g * q.n + n) 0
    else if k % 4 = c / 4 % 4 then q.b.getD ((2 * g + 1) * q.n + n) 0
    else 0
  else q.b.getD (k * q.n + n) 0

/-- Depth positions that the pass streams (R94). -/
def depths (q : Problem) : List Nat :=
  (List.range q.k).filter (fun k => match q.blocks with
    | none => true
    | some l => l.contains (k / 32))

/-- floor(log2 |x|) of a finite non-zero number. -/
def floorLog2 : FNum → Option Int
  | .fin _ m e => if m = 0 then none else some (e + bitLen m - 1)
  | _ => none

/-- The block exponent of R90: the largest floor(log2 |x|) over the finite non-zero elements, 0 without one. -/
def blockExp (f : Nat) (l : List Nat) : Int :=
  match l.filterMap (fun c => floorLog2 (numOf f c)) with
  | [] => 0
  | x :: xs => xs.foldl max x

/-- What a multiplier sees of an operand (R80, R89, R90): an integer in units of 2^`unit`. Special values enter as 0
(R91). -/
def mulOperand (f : Nat) (zp unit : Int) (c : Nat) : Int :=
  if isIntOperand f then intVal f c - zp
  else if f = 9 then c % 2
  else
    match numOf f c with
    | .fin neg m e => rneInt neg m (e - unit)
    | _ => 0

/-- Unit exponents of the operands of a problem: A's and B's (R89, R90). -/
def units (p : MatmulP) (q : Problem) : Int × Int :=
  let unit (f : Nat) (l : List Nat) : Int :=
    if f = 4 then -9 else if f = 5 then -16 else if f = 6 ∨ f = 7 then blockExp f l - 14 else 0
  (unit p.aFmt q.a, unit p.bFmt (if q.blocks.isNone then q.b
    else (depths q).flatMap (fun k => (List.range q.n).map (fun n => bCode q p.sparse k n))))

/-- What the multipliers see of A at row m and of B at column n, at depth k; a streamed scale shifts B (R80, R83, R90). -/
def aVal (p : MatmulP) (q : Problem) (u : Int × Int) (k m : Nat) : Int := mulOperand p.aFmt p.aZp u.1 (aCode q m k)

def bVal (p : MatmulP) (q : Problem) (u : Int × Int) (k n : Nat) : Int :=
  mulOperand p.bFmt p.bZp u.2 (bCode q p.sparse k n) *
    (if 2 ≤ p.scaleMode then ((2 ^ (scaleExp (q.scale.getD (k / 32 * q.n + n) 0) + 16).toNat : Nat) : Int) else 1)

/-- The term that a PE adds for one depth (R89, R96). An operand is a weight and a value; a data line has weight 1. A BIN
term is a XOR b = a + b − 2ab, summed over the lines that a checksum operand stands for. -/
def term (p : MatmulP) (a b : Int × Int) : Int :=
  if p.aFmt = 9 then
    let x := b.1 * a.2 + a.1 * b.2 - 2 * (a.2 * b.2)
    if p.plusMinus then a.1 * b.1 - 2 * x else x
  else a.2 * b.2

/-- Exact accumulator of output (m, n) of a problem (R89). -/
def accumulate (p : MatmulP) (q : Problem) (u : Int × Int) (m n : Nat) : Int :=
  (depths q).foldl (fun acc k => acc + term p (1, aVal p q u k m) (1, bVal p q u k n)) 0

/-- Unit of the accumulator, as an exponent of 2 (R89). -/
def accUnit (p : MatmulP) (u : Int × Int) : Int :=
  if p.aFmt = 9 then 0 else if isIntOperand p.aFmt then (if 2 ≤ p.scaleMode then -16 else 0) else u.1 + u.2

/-- The special value of an output, if a term has one (R91). -/
def specialOf (p : MatmulP) (q : Problem) (m n : Nat) : Option FNum :=
  if isIntOperand p.aFmt ∨ p.aFmt = 9 then none
  else
    let t := (depths q).map (fun k => mulNum (numOf p.aFmt (aCode q m k)) (numOf p.bFmt (bCode q p.sparse k n)))
    if t.contains .nan ∨ (t.contains (.inf false) ∧ t.contains (.inf true)) then some .nan
    else if t.contains (.inf false) then some (.inf false)
    else if t.contains (.inf true) then some (.inf true)
    else none

/-- FP32 scale entry `i` of a tile (R84). -/
def scaleEntry (s : State) (t i : Nat) : FNum :=
  num32 (BitVec.ofNat 32 (fld s (.scale t) (0x4000 + 8 * (i / 2)) (32 * (i % 2)) 32))

/-- The drain of one output (R92). -/
def drain (s : State) (t : Nat) (p : MatmulP) (i n : Nat) (acc unit : Int) (special : Option FNum) : Conv :=
  if p.outFmt = 0xA then
    { code := ((max (-2147483648) (min 2147483647 acc)) % (2 ^ 32 : Nat)).toNat,
      saturated := decide (acc < -2147483648) || decide (2147483647 < acc), special := false }
  else
    let v := match special with
      | some x => x
      | none => rne32 (ofInt acc unit)
    let v := if p.scaleMode % 2 = 1 then rne32 (mulNum v (scaleEntry s t (p.scaleBase + 32 * i + n))) else v
    convert p.outFmt p.fp8Sat p.outZp (rne32 (mulNum v (num32 p.outScale)))

/-- Outputs of a pass, problem after problem, row by row; `errs` are the wrong accumulators. -/
def passOutputs (s : State) (t : Nat) (x : Pass) (errs : List AccErr) : List Conv :=
  (List.range x.p.problems).flatMap (fun i =>
    let q := problemOf x.p x.a x.b x.c i
    let u := units x.p q
    (List.range q.m).flatMap (fun m => (List.range q.n).map (fun n =>
      let err : Int := (errs.filter (fun e => decide (e.row = m) && decide (e.col = n) && decide (e.problem = i))).foldl
        (fun a e => a + e.err) 0
      drain s t x.p i n (accumulate x.p q u m n + err) (accUnit x.p u) (specialOf x.p q m n))))

/-- Converted outputs counted in the array's registers (R92, R104). -/
def countConv (s : State) (t : Nat) (l : List Conv) : State :=
  let sat := (l.filter (·.saturated)).length
  let spec := (l.filter (·.special)).length
  let s := if sat = 0 then s else bump (setFlag s (.array t) 0x08 3) (.array t) 0x30 sat
  if spec = 0 then s else bump (setFlag s (.array t) 0x08 4) (.array t) 0x38 spec

/-- A pass must wait for a pass in flight: it is not declared independent, or one of its sources is the other's destination
(R102). -/
def passWaits (x : Tile) (b : Bufs) (indep : Bool) : Bool :=
  x.passes.any (fun q => !indep || [b.src0, b.src1, b.src2].contains q.bufs.dst)

/-- MATMUL: one array pass begins with its operands (R87 to R95, R102). A pass that consumes the outputs of one in flight
begins after that pass completes. Invalid metadata abort the task with no partial output. -/
def execMatmul (t : Nat) (p : MatmulP) (b : Bufs) (indep : Bool) (s : State) : Res :=
  if matmulOk p = false ∨ shapesOk p = false then malformed "parameters"
  else
    onTask s t fun x k =>
      if enabled s (.array t) = false then .next s
      else if passWaits x b indep then .next s
      else
        let n := passBytes p
        let ab := bufRead s t x k b.src0 0 n.1
        let bb := bufRead s t x k b.src1 0 n.2
        let cb :=
          if p.skip then bufRead s t x k b.src2 0 (8 + 4 * leNat (bufRead s t x k b.src2 0 4))
          else if 2 ≤ p.scaleMode then bufRead s t x k b.src2 0 (elemBase p p.problems scaleSize)
          else []
        if ((List.range p.problems).all (fun i => metaOk (problemOf p ab bb cb i))) = false then
          .next (abortTask (setFlag s (.array t) 0x08 6) t 3 0 0)
        else
          .next (advance (setTile s t { x with passes := x.passes ++ [{ p := p, bufs := b, a := ab, b := bb, c := cb }] }) t)

/-- The data lines that a line of PEs stands for, each with its weight (R96): a data line for itself, the sum line for every
line in use, the weighted line for every line in use with its number plus 1. -/
def lineWeights (lines used r : Nat) : List (Nat × Int) :=
  if r < lines then (if r < used then [(r, 1)] else [])
  else (List.range used).map (fun i => (i, if r = lines then 1 else (i : Int) + 1))

/-- The operand that enters a line of PEs: the total weight, and the weighted sum of the values (R96). -/
def lineOperand (l : List (Nat × Int)) (v : Nat → Int) : Int × Int :=
  l.foldl (fun acc x => (acc.1 + x.2, acc.2 + x.2 * v x.1)) (0, 0)

/-- Exact accumulator of any PE of a problem, checksum PEs included (R89, R96). -/
def peAcc (p : MatmulP) (q : Problem) (u : Int × Int) (r c : Nat) : Int :=
  let rw := lineWeights (blockLines p) q.m r
  let cw := lineWeights (blockLines p) q.n c
  (depths q).foldl (fun acc k => acc + term p (lineOperand rw (aVal p q u k)) (lineOperand cw (bVal p q u k))) 0

/-- Total error of an accumulator of a problem. -/
def errAt (errs : List AccErr) (i r c : Nat) : Int :=
  (errs.filter (fun e => decide (e.problem = i) && decide (e.row = r) && decide (e.col = c))).foldl (fun a e => a + e.err) 0

/-- The comparisons of R97 find an inequality in problem `i`: rows and columns in use, and any other in which an error lies,
against both checksum lines, and the checksum rows against the four corners. -/
def problemFails (x : Pass) (errs : List AccErr) (i : Nat) : Bool :=
  let q := problemOf x.p x.a x.b x.c i
  let u := units x.p q
  let d := blockLines x.p
  let mine := errs.filter (fun e => decide (e.problem = i))
  let out (r c : Nat) : Int := peAcc x.p q u r c + errAt mine i r c
  let lines (used : Nat) (l : List Nat) : List Nat := asSet (List.range used ++ l.filter (fun r => decide (r < d)))
  let rows := lines q.m (mine.map (·.row))
  let cols := lines q.n (mine.map (·.col))
  let total (l : List Nat) (f w : Nat → Int) : Int := l.foldl (fun a j => a + w j * f j) 0
  let plain (_ : Nat) : Int := 1
  let weighted (j : Nat) : Int := (j : Int) + 1
  let rowBad (r : Nat) : Bool :=
    decide (total cols (out r) plain ≠ out r d) || decide (total cols (out r) weighted ≠ out r (d + 1))
  let colBad (c : Nat) : Bool :=
    decide (total rows (fun r => out r c) plain ≠ out d c) || decide (total rows (fun r => out r c) weighted ≠ out (d + 1) c)
  rows.any rowBad || cols.any colBad || rowBad d || rowBad (d + 1)

/-- A pass has an array checksum fault (R97). -/
def checksumFails (x : Pass) (errs : List AccErr) : Bool := (List.range x.p.problems).any (problemFails x errs)

/-- The wrong accumulators, one for each. -/
def wrongAccs (errs : List AccErr) : List AccErr :=
  errs.foldr (fun e acc =>
    if acc.any (fun f => decide (f.problem = e.problem) && decide (f.row = e.row) && decide (f.col = e.col)) ∨
      errAt errs e.problem e.row e.col = 0 then acc
    else { e with err := errAt errs e.problem e.row e.col } :: acc) []

/-- A checksum fault recorded in ARRAY_CHK_LOC and the counters (R97, R98, R104). One wrong data output is located and names
its PE, which a later switch-in takes out (R100). -/
def checksumFault (s : State) (t : Nat) (p : MatmulP) (errs : List AccErr) : State :=
  let frameLow := now s % 2 ^ 32 * 2 ^ 32
  let s := bump (setFlag s (.array t) 0x08 1) (.array t) 0x20 1
  match wrongAccs errs with
  | [e] =>
    if e.row < blockLines p ∧ e.col < blockLines p then
      let s := setReg s (.array t) 0x28 (BitVec.ofNat 64
        (e.row + e.col * 2 ^ 7 + e.problem * 2 ^ 14 + 2 ^ 18 + 2 ^ 19 + frameLow))
      let row := if 1 < p.problems then 32 * (e.problem / 4) + e.row else e.row
      let col := if 1 < p.problems then 32 * (e.problem % 4) + e.col else e.col
      let x := tileAt s t
      setTile s t { x with badPes := x.badPes ++ [physPe s t row col] }
    else setReg s (.array t) 0x28 (BitVec.ofNat 64 (2 ^ 19 + frameLow))
  | _ => setReg s (.array t) 0x28 (BitVec.ofNat 64 (2 ^ 19 + frameLow))

/-- A tile's conversion lanes disagreed (R92, R85): handled as an array checksum fault, without CHECKSUM_FAULT and
ARRAY_CHK_LOC (log entry 96). -/
def laneFault (s : State) (t : Nat) : State :=
  detectTile (bump (setFlag s (.array t) 0x08 2) (.array t) 0x20 1) 0x02 t 0

/-- MATMUL_PASS_COMPLETE: the oldest pass in flight drains, is checked and writes its outputs (R92, R97, R98). -/
def execMatmulPassComplete (t : Nat) (errs : List AccErr) (laneBad : Bool) (s : State) : Res :=
  if 640 ≤ t then malformed "tile"
  else
    let x := tileAt s t
    match x.passes, x.task with
    | q :: rest, some k =>
      if errs.any (fun e => decide (blockLines q.p + 2 ≤ e.row ∨ blockLines q.p + 2 ≤ e.col ∨ q.p.problems ≤ e.problem)) then
        malformed "errors"
      else
        let out := passOutputs s t q errs
        let s := setTile s t { x with passes := rest }
        let s := countConv s t out
        let s := bufWrite s t k q.bufs.dst 0 (packElems (fmtWidth q.p.outFmt) (out.map (·.code)))
        let s := if laneBad then laneFault s t else s
        if checksumFails q errs then .next (detectTile (checksumFault s t q.p errs) 0x01 t 0) else .next s
    | _, _ => .next s

/-! ### The quantiser -/

/-- Block sizes of the rotation by HAD (R85). -/
def hadSize : Nat → Nat
  | 1 => 16
  | 2 => 32
  | 3 => 64
  | 4 => 128
  | _ => 1

/-- The constant c_H (R86). -/
def hadConst : Nat → FNum
  | 1 => num32 0x3E800000#32
  | 2 => num32 0x3E3504F3#32
  | 3 => num32 0x3E000000#32
  | _ => num32 0x3DB504F3#32

/-- One butterfly stage with distance `d` (R86). -/
def butterfly (d : Nat) (x : List FNum) : List FNum :=
  (List.range x.length).map (fun i =>
    if i / d % 2 = 0 then rne32 (addNum (x.getD i .zero) (x.getD (i + d) .zero))
    else rne32 (addNum (x.getD (i - d) .zero) (negNum (x.getD i .zero))))

/-- The rotation of one block (R86). -/
def rotate (had : Nat) (x : List FNum) : List FNum :=
  if had = 0 then x
  else
    let stages := (List.range (Nat.log2 (hadSize had))).foldl (fun y t => butterfly (2 ^ t) y) x
    stages.map (fun v => rne32 (mulNum v (hadConst had)))

/-- The rotation of consecutive blocks, at most `fuel` of them. -/
def rotateAll (had : Nat) : Nat → List FNum → List FNum
  | 0, _ => []
  | fuel + 1, l => if l = [] then [] else rotate had (l.take (hadSize had)) ++ rotateAll had fuel (l.drop (hadSize had))

/-- The quantiser's parameters obey R85; the element count stands for the innermost length (log entry 95). -/
def quantOk (p : QuantP) : Bool :=
  decide (6 ≤ p.inFmt) && decide (p.inFmt ≤ 8) && decide (p.outFmt ≤ 5) && decide (p.had ≤ 4) && zpOk p.outFmt p.zp &&
  decide (p.elems % hadSize p.had = 0)

/-- The quantiser's outputs (R85). -/
def quantOutputs (p : QuantP) (src : List Byte) : List Conv :=
  let x := (elems (fmtWidth p.inFmt) p.elems src).map (numOf p.inFmt)
  (rotateAll p.had p.elems x).map (fun v => convert p.outFmt p.fp8Sat p.zp (rne32 (mulNum v (num32 p.invScale))))

/-- QUANTISE (R85). -/
def execQuantise (t : Nat) (p : QuantP) (b : Bufs) (laneBad : Bool) (s : State) : Res :=
  if quantOk p = false then malformed "parameters"
  else
    onTask s t fun x k =>
      let out := quantOutputs p (bufRead s t x k b.src0 0 (elemBytes (fmtWidth p.inFmt) p.elems))
      let s := countConv s t out
      let s := advance (bufWrite s t k b.dst 0 (packElems (fmtWidth p.outFmt) (out.map (·.code)))) t
      .next (if laneBad then laneFault s t else s)

/-- SCALE_LOAD: `n` FP32 entries from SRC0 into the scale registers, whatever ENABLE is (R84, R111). -/
def execScaleLoad (t base n : Nat) (b : Bufs) (s : State) : Res :=
  if 4096 < base + n then malformed "entries"
  else
    onTask s t fun x k =>
      let l := unpackWords 4 n (bufRead s t x k b.src0 0 (4 * n))
      .next (advance (((List.range n).zip l).foldl (fun s q =>
        let i := base + q.1
        setFld s (.scale t) (0x4000 + 8 * (i / 2)) (32 * (i % 2)) 32 q.2) s) t)

/-! ### VEC and REDUCE -/

/-- Formats in which the cores do arithmetic (R79, R106). -/
def coreFmt (f : Nat) : Bool := f == 6 || f == 7 || f == 8 || f == 0xA

/-- Floating formats in which the cores do arithmetic (R79). -/
def coreFloat (f : Nat) : Bool := f == 6 || f == 7 || f == 8

/-- A number as a code of a core format: INT32 wraps (R106), the floating formats round (R77). -/
def coreCode (f : Nat) (x : FNum) : Nat :=
  match floatFmt f, x with
  | some g, _ => toFloat g false x
  | none, .fin neg m e => (rneInt neg m e % (2 ^ 32 : Nat)).toNat
  | none, _ => 0

/-- An element-wise operator over E elements of its sources, on a tile's task (R111). -/
def vecOp (t : Nat) (b : Bufs) (fmts : Nat → Bool) (p : VecP) (outFmt : Nat) (s : State)
    (f : Nat → Nat → Nat → Nat) : Res :=
  if fmts p.fmt = false then malformed "format"
  else
    onTask s t fun x k =>
      let w := fmtWidth p.fmt
      let read (src : Nat) : List Nat := elems w p.elems (bufRead s t x k src 0 (elemBytes w p.elems))
      let a := read b.src0
      let c := read b.src1
      let d := read b.src2
      let out := (List.range p.elems).map (fun i => f (a.getD i 0) (c.getD i 0) (d.getD i 0))
      .next (advance (bufWrite s t k b.dst 0 (packElems (fmtWidth outFmt) out)) t)

/-- A two-operand operation in a core format. -/
def vec2 (t : Nat) (p : VecP) (b : Bufs) (s : State) (f : FNum → FNum → FNum) : Res :=
  vecOp t b coreFmt p p.fmt s fun a c _ => coreCode p.fmt (f (numOf p.fmt a) (numOf p.fmt c))

/-- A one-operand function in a floating core format. -/
def vec1 (t : Nat) (p : VecP) (b : Bufs) (s : State) (f : FNum → FNum) : Res :=
  vecOp t b coreFloat p p.fmt s fun a _ _ => coreCode p.fmt (f (numOf p.fmt a))

/-- VEC ADD (R79, R106, R111). -/
def execVecAdd (t : Nat) (p : VecP) (b : Bufs) (s : State) : Res := vec2 t p b s addNum

/-- VEC SUB. -/
def execVecSub (t : Nat) (p : VecP) (b : Bufs) (s : State) : Res := vec2 t p b s (fun x y => addNum x (negNum y))

/-- VEC MUL. -/
def execVecMul (t : Nat) (p : VecP) (b : Bufs) (s : State) : Res := vec2 t p b s mulNum

/-- VEC FMA: SRC0 × SRC1 + SRC2, rounded once. -/
def execVecFma (t : Nat) (p : VecP) (b : Bufs) (s : State) : Res :=
  vecOp t b coreFmt p p.fmt s fun a c d =>
    coreCode p.fmt (addNum (mulNum (numOf p.fmt a) (numOf p.fmt c)) (numOf p.fmt d))

/-- VEC MAX. -/
def execVecMax (t : Nat) (p : VecP) (b : Bufs) (s : State) : Res := vec2 t p b s maxNum

/-- VEC MIN. -/
def execVecMin (t : Nat) (p : VecP) (b : Bufs) (s : State) : Res := vec2 t p b s minNum

/-- VEC CONVERT from FMT to the target format by R77 (R79), without saturation of FP8 and counted nowhere (log entry
17). -/
def execVecConvert (t : Nat) (p : VecP) (b : Bufs) (s : State) : Res :=
  if p.toFmt = 9 ∨ fmtWidth p.toFmt = 0 then malformed "format"
  else
    vecOp t b (fun f => f != 9 && fmtWidth f != 0) p p.toFmt s fun a _ _ =>
      (convert p.toFmt false 0 (numOf p.fmt a)).code

/-- VEC EXP. -/
def execVecExp (t : Nat) (p : VecP) (b : Bufs) (s : State) : Res := vec1 t p b s expNum

/-- VEC RECIP. -/
def execVecRecip (t : Nat) (p : VecP) (b : Bufs) (s : State) : Res := vec1 t p b s recipNum

/-- VEC RSQRT. -/
def execVecRsqrt (t : Nat) (p : VecP) (b : Bufs) (s : State) : Res := vec1 t p b s rsqrtNum

/-- VEC TANH. -/
def execVecTanh (t : Nat) (p : VecP) (b : Bufs) (s : State) : Res := vec1 t p b s tanhNum

/-- VEC GELU_TANH: the spec states no formula, so each value is free (log entry 18); as any output it has the one NaN of its
format and no negative zero (R78). -/
def execVecGeluTanh (t : Nat) (p : VecP) (b : Bufs) (s : State) : Res :=
  vecOp t b coreFloat p p.fmt s fun a _ _ =>
    coreCode p.fmt (numOf p.fmt ((Config.geluTanh p.fmt (BitVec.ofNat 64 a)).toNat % 2 ^ fmtWidth p.fmt))

/-- REDUCE along the innermost dimension (R111), `row` reducing one row of values to a code of `width` bits. -/
def reduceOp (t : Nat) (p : VecP) (b : Bufs) (s : State) (width : Nat) (row : List FNum → Nat) : Res :=
  if coreFmt p.fmt = false ∨ p.inner = 0 ∨ p.elems % p.inner ≠ 0 then malformed "parameters"
  else
    onTask s t fun x k =>
      let w := fmtWidth p.fmt
      let a := (elems w p.elems (bufRead s t x k b.src0 0 (elemBytes w p.elems))).map (numOf p.fmt)
      let out := (List.range (p.elems / p.inner)).map (fun r => row ((a.drop (r * p.inner)).take p.inner))
      .next (advance (bufWrite s t k b.dst 0 (packElems width out)) t)

/-- REDUCE SUM, in ascending index order: floating sums round after each addition, integer sums are in INT64 (R111). -/
def execReduceSum (t : Nat) (p : VecP) (b : Bufs) (s : State) : Res :=
  match floatFmt p.fmt with
  | some g => reduceOp t p b s g.width fun l =>
      toFloat g false (l.foldl (fun acc v => floatNum g (toFloat g false (addNum acc v))) .zero)
  | none => reduceOp t p b s 64 fun l =>
      match l.foldl addNum .zero with
      | .fin neg m e => (rneInt neg m e % (2 ^ 64 : Nat)).toNat
      | _ => 0

/-- The fold of a non-empty row by a binary operation. -/
def foldRow (f : FNum → FNum → FNum) : List FNum → FNum
  | [] => .zero
  | x :: xs => xs.foldl f x

/-- REDUCE MAX. -/
def execReduceMax (t : Nat) (p : VecP) (b : Bufs) (s : State) : Res :=
  reduceOp t p b s (fmtWidth p.fmt) fun l => coreCode p.fmt (foldRow maxNum l)

/-- REDUCE MIN. -/
def execReduceMin (t : Nat) (p : VecP) (b : Bufs) (s : State) : Res :=
  reduceOp t p b s (fmtWidth p.fmt) fun l => coreCode p.fmt (foldRow minNum l)

end Sys2Proof.Machine
end

