-- ==== Sys2Proof/Machine/Selection.lean ====
section
/-! DEFINITION. Selection, ordering and merging (chapter 06): the order of R144, SELECT and its result record, the exact
sums, the result check, and MERGE. -/

namespace Sys2Proof.Machine

/-- One entry of a selection: index, key bits, input list (R143, R146). -/
structure SelEntry where
  index : Nat
  key : Nat
  source : Nat
  deriving DecidableEq, Repr

/-- A result record (R146). -/
structure SelRec where
  mode : Nat
  keyType : Nat
  k : Nat
  entries : List SelEntry
  saturated : Bool
  network : Bool
  valid : Nat
  nan : Nat
  tie : Nat
  dup : Nat
  selSum : Nat
  restSum : Nat
  deriving DecidableEq, Repr

/-- The index of an empty entry (R146). -/
def sentinel : Nat := 0xFFFFFFFFFFFFFFFF

/-- Width of a key type (R143). -/
def keyWidth (t : Nat) : Nat := if t < 3 then 32 else 16

/-- A key type compares as a floating value (R143). -/
def keyFloat (t : Nat) : Bool := t == 0 || t == 3 || t == 4

/-- Value of a key (R143). -/
def keyNum (t c : Nat) : FNum :=
  match t with
  | 0 => numOf 8 c
  | 1 => ofInt (if c.testBit 31 then (c % 2 ^ 32 : Nat) - (2 ^ 32 : Nat) else (c % 2 ^ 32 : Nat)) 0
  | 2 => ofInt (c % 2 ^ 32 : Nat) 0
  | 3 => numOf 6 c
  | 4 => numOf 7 c
  | 5 => ofInt (if c.testBit 15 then (c % 2 ^ 16 : Nat) - (2 ^ 16 : Nat) else (c % 2 ^ 16 : Nat)) 0
  | _ => ofInt (c % 2 ^ 16 : Nat) 0

/-- Entry `a` precedes entry `b` (R144); `bottom` reverses the key comparison. -/
def precedes (t : Nat) (bottom : Bool) (a b : SelEntry) : Bool :=
  let x := keyNum t a.key
  let y := keyNum t b.key
  (if bottom then ltNum x y else ltNum y x) || (eqNum x y && decide (a.index < b.index))

/-- Entries in the order of R144; equal entries keep their order. -/
def sortEntries (t : Nat) (bottom : Bool) (l : List SelEntry) : List SelEntry :=
  sortBy (fun a b => !(precedes t bottom b a)) l

/-- A sum field and whether it saturated (R150): FP32 sums are rounded once, INT64 sums saturate. -/
def sumField (t : Nat) (terms : List FNum) : Nat × Bool :=
  let x := terms.foldl addNum .zero
  if keyFloat t then (toFloat fp32 false x, false)
  else
    match x with
    | .fin neg m e =>
      let v := rneInt neg m e
      let lo : Int := -(2 ^ 63 : Nat)
      let hi : Int := (2 ^ 63 : Nat) - 1
      (((max lo (min hi v)) % (2 ^ 64 : Nat)).toNat, decide (v < lo) || decide (hi < v))
    | _ => (0, false)

/-- The value of a sum field taken as given (R154). -/
def sumNum (t f : Nat) : FNum :=
  if keyFloat t then numOf 8 (f % 2 ^ 32)
  else ofInt (if f.testBit 63 then (f : Int) - (2 ^ 64 : Nat) else f) 0

/-- The record's bytes: header, entries, and sentinels up to K (R146). -/
def selBytes (r : SelRec) : List Byte :=
  toLE 4 r.entries.length ++ toLE 4 r.k ++
  toLE 4 (r.mode + 4 * r.keyType + (if r.network then 64 else 0) + (if r.saturated then 128 else 0) +
    (if r.network then 256 else 0)) ++ zeros 4 ++
  toLE 8 (min r.valid sentinel) ++ toLE 8 (min r.nan sentinel) ++ toLE 8 (min r.tie sentinel) ++
  toLE 8 (min r.dup sentinel) ++ toLE 8 r.selSum ++ toLE 8 r.restSum ++
  r.entries.flatMap (fun e => toLE 8 e.index ++ toLE 4 e.key ++ toLE 2 e.source ++ zeros 2) ++
  (List.replicate (r.k - r.entries.length) (toLE 8 sentinel ++ zeros 4 ++ toLE 2 0xFFFF ++ zeros 2)).flatten

/-- A record read back from bytes (R146); a 16-bit key lies in KEY [15:0]. -/
def selParse (bs : List Byte) : SelRec :=
  let flags := fieldLE bs 8 4
  { mode := flags % 4, keyType := flags / 4 % 16, k := fieldLE bs 4 4,
    entries := (List.range (fieldLE bs 0 4)).map (fun i =>
      let o := 64 + 16 * i
      { index := fieldLE bs o 8, key := fieldLE bs (o + 8) 4 % 2 ^ keyWidth (flags / 4 % 16), source := fieldLE bs (o + 12) 2 }),
    saturated := flags.testBit 7, network := flags.testBit 8, valid := fieldLE bs 16 8, nan := fieldLE bs 24 8,
    tie := fieldLE bs 32 8, dup := fieldLE bs 40 8, selSum := fieldLE bs 48 8, restSum := fieldLE bs 56 8 }

/-- TOP or BOTTOM selection of K of some entries (R147, R150). -/
def selectBest (t : Nat) (bottom : Bool) (k : Nat) (all : List SelEntry) : SelRec :=
  let valid := all.filter (fun e => decide (keyNum t e.key ≠ .nan))
  let sorted := sortEntries t bottom valid
  let sel := sorted.take k
  let rest := sorted.drop k
  let tie := match sel.getLast? with
    | some l => if sel.length = k then
        (rest.filter (fun e => eqNum (keyNum t e.key) (keyNum t l.key))).length else 0
    | none => 0
  let a := sumField t (sel.map (fun e => keyNum t e.key))
  let b := sumField t (rest.map (fun e => keyNum t e.key))
  { mode := if bottom then 1 else 0, keyType := t, k := k, entries := sel, saturated := a.2 || b.2, network := false,
    valid := valid.length, nan := all.length - valid.length, tie := tie, dup := 0, selSum := a.1, restSum := b.1 }

/-- ABOVE or BELOW selection, in position order (R149). -/
def selectThreshold (t : Nat) (below : Bool) (k threshold : Nat) (all : List SelEntry) : SelRec :=
  let th := keyNum t threshold
  let valid := all.filter (fun e => decide (keyNum t e.key ≠ .nan))
  let hit (e : SelEntry) : Bool := if below then ltNum (keyNum t e.key) th else ltNum th (keyNum t e.key)
  let qual := valid.filter hit
  let sel := qual.take k
  let a := sumField t (sel.map (fun e => keyNum t e.key))
  let b := sumField t ((valid.filter (fun e => !(hit e))).map (fun e => keyNum t e.key) ++
    (qual.drop k).map (fun e => keyNum t e.key))
  { mode := if below then 3 else 2, keyType := t, k := k, entries := sel, saturated := a.2 || b.2, network := false,
    valid := valid.length, nan := all.length - valid.length, tie := qual.length - sel.length, dup := 0, selSum := a.1,
    restSum := b.1 }

/-- The record of the selection network (R157): `k` of 8 or 64, implicit indices, sums absent. -/
def networkRecord (keyType : Nat) (bottom : Bool) (k : Nat) (keys : List Nat) : List Byte :=
  let all := ((List.range keys.length).zip keys).map (fun q => ({ index := q.1, key := q.2, source := 0 } : SelEntry))
  selBytes { selectBest keyType bottom k all with network := true, saturated := false, selSum := 0, restSum := 0 }

/-- A list repeats a number. -/
def repeats : List Nat → Bool
  | [] => false
  | x :: xs => xs.contains x || repeats xs

/-- SELECT's parameters obey R145. -/
def selectOk (p : SelectP) : Bool :=
  decide (p.mode ≤ 3) && decide (p.keyType ≤ 6) && decide (1 ≤ p.k) && decide (p.k ≤ 65536) && decide (1 ≤ p.e) &&
  decide (p.e ≤ 16777216) && (!p.explicit || decide (p.base = 0)) && (decide (2 ≤ p.mode) || decide (p.threshold = 0))

/-- A selection check fault on a tile (R151, R158). -/
def selectFault (s : State) (t : Nat) : State :=
  detectTile (bump (setFlag s (.selnet t) 0x08 1) (.selnet t) 0x18 1) 0x03 t 0

/-- SELECT (R145 to R151): a sentinel index or a repeated explicit index aborts the task. The result check is armed while the
tile's SELNET is enabled (R158). -/
def execSelect (t : Nat) (p : SelectP) (b : Bufs) (checkBad : Bool) (s : State) : Res :=
  if selectOk p = false then malformed "parameters"
  else
    onTask s t fun x k =>
      let w := keyWidth p.keyType
      let keys := unpackWords (w / 8) p.e (bufRead s t x k b.src0 0 (w / 8 * p.e))
      let idx := if p.explicit then unpackWords 8 p.e (bufRead s t x k b.src1 0 (8 * p.e))
        else (List.range p.e).map (fun i => (p.base + i) % 2 ^ 64)
      if idx.contains sentinel ∨ (p.explicit ∧ repeats idx) then .next (abortTask s t 1 0 0)
      else
        let all := (idx.zip keys).map (fun q => { index := q.1, key := q.2, source := 0 : SelEntry })
        let r := if p.mode < 2 then selectBest p.keyType (decide (p.mode = 1)) p.k all
          else selectThreshold p.keyType (decide (p.mode = 3)) p.k p.threshold all
        let s := advance (bufWrite s t k b.dst 0 (selBytes r)) t
        .next (if checkBad && enabled s (.selnet t) then selectFault s t else s)

/-- MERGE's parameters obey R152 and R153. -/
def mergeOk (p : MergeP) : Bool :=
  decide (2 ≤ p.lists) && decide (p.lists ≤ 64) && !(p.dedup && p.disjoint) && decide (1 ≤ p.kOut) &&
  decide (p.kOut ≤ 65536) && decide (64 + 16 * p.kOut ≤ p.stride) && decide (p.stride % 16 = 0)

/-- The input records agree and are deep enough (R152), and no entry below COUNT has the sentinel's index (R146). -/
def mergeInputsOk (p : MergeP) (l : List SelRec) : Bool :=
  match l with
  | [] => false
  | h :: _ => l.all (fun r => decide (r.mode ≤ 1) && decide (r.mode = h.mode) && decide (r.keyType = h.keyType) &&
      decide (p.kOut ≤ r.k) && decide (r.entries.length ≤ r.k) && decide (64 + 16 * r.k ≤ p.stride) &&
      r.entries.all (fun e => decide (e.index ≠ sentinel) && decide (keyNum h.keyType e.key ≠ .nan)))

/-- One copy of each index, the first met kept. -/
def dedupe : List SelEntry → List SelEntry
  | [] => []
  | e :: r => e :: (dedupe r).filter (fun x => decide (x.index ≠ e.index))

/-- MERGE of records in list order (R153, R154): the result and whether an index repeated. `drop` discards repeated
indices. -/
def mergeRecs (kOut : Nat) (drop : Bool) (l : List SelRec) : SelRec × Bool :=
  let t := ((l.head?).map (·.keyType)).getD 0
  let bottom := decide (((l.head?).map (·.mode)).getD 0 = 1)
  let pool := ((List.range l.length).zip l).flatMap (fun q => q.2.entries.map (fun e => { e with source := q.1 }))
  let again := repeats (pool.map (·.index))
  let kept := if drop then dedupe (sortEntries t bottom pool) else pool
  let dup := pool.length - kept.length
  let r := selectBest t bottom kOut kept
  let rest := (sortEntries t bottom kept).drop kOut
  let b := sumField t (l.map (fun i => sumNum t i.restSum) ++ rest.map (fun e => keyNum t e.key))
  let a := sumField t (r.entries.map (fun e => keyNum t e.key))
  let more := match r.entries.getLast? with
    | some last =>
      if r.entries.length < kOut then 0
      else sumBy (fun i => match i.entries.getLast? with
        | some e => if i.entries.length = i.k ∧ eqNum (keyNum t e.key) (keyNum t last.key) then i.tie else 0
        | none => 0) l
    | none => 0
  ({ r with saturated := a.2 || b.2 || l.any (·.saturated), valid := sumBy (·.valid) l - dup, nan := sumBy (·.nan) l,
            tie := r.tie + more, dup := dup, restSum := b.1, selSum := a.1 }, again)

/-- MERGE (R152 to R154); its result check is armed as SELECT's is. -/
def execMerge (t : Nat) (p : MergeP) (b : Bufs) (checkBad : Bool) (s : State) : Res :=
  if mergeOk p = false then malformed "parameters"
  else
    onTask s t fun x k =>
      let recs := (List.range p.lists).map (fun i =>
        selParse (bufRead s t x k b.src0 (i * p.stride) p.stride))
      if mergeInputsOk p recs = false then .next (abortTask s t 1 0 0)
      else
        let r := mergeRecs p.kOut (p.dedup || p.disjoint) recs
        if r.2 = true ∧ p.dedup = false ∧ p.disjoint = false then .next (abortTask s t 1 0 0)
        else
          let s := advance (bufWrite s t k b.dst 0 (selBytes r.1)) t
          .next (if (checkBad || (p.disjoint && r.2)) && enabled s (.selnet t) then selectFault s t else s)

end Sys2Proof.Machine
end

