-- ==== Sys2Proof/Machine/Space.lean ====
section
/-! DEFINITION. Address spaces (chapter 11): home maps and extents, the layout of the Keeps at COMMIT, far addresses of
streams, and the errors of Keep reads. Contents are held by virtual address; a granule's home says who may touch it. -/

namespace Sys2Proof.Machine

/-- Granules of one Keep (R271). -/
def keepGranules : Nat := 25165824

/-- Granules of a save slot (R271 item 1). -/
def saveGranules : Nat := 2056

/-- A home map extent in use (R270, R286). -/
structure Extent where
  index : Nat
  kind : Nat
  vbase : Nat
  granules : Nat
  mask : Nat
  peer : Nat
  work : Bool
  deriving DecidableEq, Repr

/-- Offset of a word of an extent slot (R286). -/
def extentOff (c e w : Nat) : Nat := 0x1000 + 32 * (32 * c + e) + 8 * w

/-- Extent slot `e` of context `c`. -/
def extentOf (s : State) (c e : Nat) : Extent :=
  { index := e, kind := fld s .tier (extentOff c e 1) 32 2, vbase := (reg s .tier (extentOff c e 0)).toNat,
    granules := fld s .tier (extentOff c e 1) 0 32, mask := fld s .tier (extentOff c e 2) 0 32,
    peer := fld s .tier (extentOff c e 1) 35 4, work := bit (reg s .tier (extentOff c e 1)) 34 }

/-- The extents of a context, in ascending slot. -/
def extents (s : State) (c : Nat) : List Extent :=
  ((List.range 32).map (extentOf s c)).filter (fun x => decide (x.granules ≠ 0))

/-- An address lies in an extent. -/
def Extent.covers (x : Extent) (a : Nat) : Bool := decide (x.vbase ≤ a) && decide (a < x.vbase + 2048 * x.granules)

/-- The extent that covers an address of context space. -/
def extentAt (s : State) (c a : Nat) : Option Extent := (extents s c).find? (fun x => x.covers a)

/-- The Keeps of a mask, ascending. -/
def maskKeeps (mask : Nat) : List Nat := (List.range 32).filter (fun k => mask.testBit k)

/-- The Keep of granule `j` of an extent (R270). -/
def Extent.keep (x : Extent) (j : Nat) : Nat := (maskKeeps x.mask).getD (j % (maskKeeps x.mask).length) 0

/-- Key of a T1 byte: a byte of device image space (R269), or a byte of a context's space. -/
def t1Key (c a : Nat) : Nat := if 2 ^ 63 ≤ a then 2 ^ 68 + (a - 2 ^ 63) else c * 2 ^ 64 + a

/-- `n` bytes of T1 as context `c` addresses them. -/
def t1Read (s : State) (c a n : Nat) : List Byte := memRead s.tier.t1 (t1Key c a) n


/-- Key of the home of a KIND 1 granule. -/
def homeKey (c a : Nat) : Nat := c * 2 ^ 64 + a / 2048 * 2048

/-- Home of a KIND 1 granule: its Keep until a move or a recall changes it (R270, R271 item 4). -/
def homeOf (s : State) (c a : Nat) : Home := tgetD s.tier.homes (homeKey c a) .keep

/-- Granule addresses that `n` bytes from an address touch. -/
def granulesFrom (a n : Nat) : List Nat :=
  if n = 0 then [] else (List.range ((a + n - 1) / 2048 - a / 2048 + 1)).map (fun i => (a / 2048 + i) * 2048)

/-! ### Layout at COMMIT -/

/-- Role of a tile in an image (R53). -/
def imageRole (i : Image) (t : Nat) : Role :=
  match i.tiles.find? (fun r => decide (r.tile = t)) with
  | some r => r.role
  | none => if i.extraElastic then .elastic else .off

/-- Granules of the save slots of a Keep (R271 item 1). -/
def saveSlots (i : Image) (k : Nat) : Nat :=
  16 * saveGranules *
    ((List.range 80).filter (fun j => decide (j % 4 = k % 4) && decide (imageRole i (80 * (k / 4) + j) = .elastic))).length

/-- Header fields of an index image that the layout needs (R160): mode, sketch bytes, slots, shards, filters defined. -/
structure IndexShape where
  mode : Nat
  sketchBytes : Nat
  slots : Nat
  shards : Nat
  filters : List Nat
  deriving DecidableEq, Repr

/-- The filters of a FILTER_MASK, ascending. -/
def filtersOf (mask : Nat) : List Nat := (List.range 16).filter (fun f => decide (0 < f) && mask.testBit f)

/-- Shape of an index image from the bytes of its header. -/
def indexShape (h : List Byte) : IndexShape :=
  { mode := fieldLE h 6 1, sketchBytes := 2 ^ fieldLE h 7 1 / 8, slots := fieldLE h 8 8, shards := fieldLE h 0x15 1,
    filters := filtersOf (fieldLE h 0x16 2) }

/-- A length rounded up to whole granules, in bytes. -/
def upGranule (n : Nat) : Nat := ceilDiv n 2048 * 2048

/-- Bytes of one shard's regions (R161). -/
def shardBytes (x : IndexShape) : Nat :=
  let p := x.slots / x.shards
  upGranule (p * x.sketchBytes) + (1 + x.filters.length) * upGranule (ceilDiv p 8)

/-- Bytes of a loaded image where it lies: device image space, or the namespace recorded with it (R61, R341). -/
def loadedBytes (s : State) (l : LoadedImage) (off n : Nat) : List Byte :=
  if l.resident then memRead s.tier.t1 (2 ^ 68 + l.base + off) n else memRead s.flash.data (l.ns * 2 ^ 58 + l.base + off) n

/-- Header of an image in device image space. -/
def imageHeader (s : State) (base : Nat) : List Byte := memRead s.tier.t1 (2 ^ 68 + base) 128

/-- REF of the scan index of an image, if one of its references is the SCAN_REF of LUCARNE_CONFIG (R164, R166). -/
def scanRef (s : State) : Nat := fld s (.lucarne 0) 0x10 32 16

/-- Images with RESIDENT 1 in the order of device image space: the scan index first, then ascending REF (R271 item 2);
each begins at the granule after the one before. -/
def residentOrder (scan : Nat) (i : Image) : List ImageRef :=
  let l := sortBy (fun a b => decide (a.ref ≤ b.ref)) (i.refs.filter (·.resident))
  l.filter (fun r => decide (r.kind = 2) && decide (r.ref = scan)) ++
    l.filter (fun r => !(decide (r.kind = 2) && decide (r.ref = scan)))

/-- Offset of an image in device image space. -/
def imageBase (scan : Nat) (i : Image) (ref : Nat) : Nat :=
  sumBy (fun r => upGranule r.bytes) ((residentOrder scan i).takeWhile (fun r => decide (r.ref ≠ ref)))

/-- Granules of the scan index's shards in a Keep: one shard to a Keep. -/
def shardGranules (s : State) (i : Image) (k : Nat) : Nat :=
  match i.refs.find? (fun r => decide (r.kind = 2) && r.resident && decide (r.ref = scanRef s)) with
  | some r =>
    let x := indexShape (imageHeader s (imageBase (scanRef s) i r.ref))
    if x.mode = 0 ∧ k < x.shards then shardBytes x / 2048 else 0
  | none => 0

/-- Granules of variant region `r` (R260, R265). -/
def regionGranules (s : State) (r : Nat) : Nat :=
  if bit (reg s .reqtab (0x608 + 16 * r)) 48 then fld s .reqtab (0x608 + 16 * r) 0 32 else 0

/-- Granules of the images in device image space. -/
def imageGranules (s : State) (i : Image) : Nat := sumBy (fun r => upGranule r.bytes / 2048) (residentOrder (scanRef s) i)

/-- Granules of the scan index's shards. -/
def allShards (s : State) (i : Image) : Nat := sumBy (shardGranules s i) (List.range 32)

/-- Place of variant region `r` in the interleave: after the images and the regions below it (R271 item 2). -/
def regionStart (s : State) (i : Image) (r : Nat) : Nat :=
  imageGranules s i - allShards s i + sumBy (regionGranules s) (List.range r)

/-- Granules of the map of one Wavor module (R291). -/
def mapGranules : Nat := 3339264

/-- Granules that are interleaved over all Keeps: every image but the scan index's shards, every variant region, and the
maps of the modules in service at COMMIT (R271 item 2, R291). -/
def interleaved (s : State) (i : Image) : Nat := regionStart s i 8 + s.tier.mapModules * mapGranules

/-- Granules of the lend region in each Keep (R271 item 3). -/
def lendGranules (s : State) : Nat := fld s .tier 0x20 0 25

/-- First granule of item 4 in a Keep. -/
def item4Base (s : State) (i : Image) (k : Nat) : Nat :=
  saveSlots i k + shardGranules s i k + (interleaved s i + 31 - k) / 32 + lendGranules s

/-- Granules of an extent whose Keep home is `k`. -/
def Extent.inKeep (x : Extent) (k : Nat) : Nat :=
  let l := maskKeeps x.mask
  if l.contains k then (x.granules + l.length - 1 - l.idxOf k) / l.length else 0

/-- The KIND 0 and KIND 1 extents of every context in layout order (R271 item 4). -/
def keepExtents (s : State) : List (Nat × Extent) :=
  (List.range 16).flatMap (fun c => ((extents s c).filter (fun x => decide (x.kind < 2))).map (fun x => (c, x)))

/-- Physical granule of the Keep home of granule `j` of a context's extent. -/
def physGranule (s : State) (i : Image) (c : Nat) (x : Extent) (j : Nat) : Nat × Nat :=
  let k := x.keep j
  let before := (keepExtents s).takeWhile (fun p => !(decide (p.1 = c) && decide (p.2.index = x.index)))
  (k, item4Base s i k + sumBy (fun p => p.2.inKeep k) before + j / (maskKeeps x.mask).length)

/-- T1 capacity C1 of R271, in bytes. -/
def t1Capacity (s : State) (i : Image) : Nat :=
  2048 * sumBy (fun k => keepGranules - item4Base s i k) (List.range 32)

/-- Keep and physical granule of an address of context space, where a Keep is its home. -/
def keepHome (s : State) (c a : Nat) : Option (Nat × Nat) :=
  match extentAt s c a, s.img.image with
  | some x, some i => if x.kind < 2 then some (physGranule s i c x ((a - x.vbase) / 2048)) else none
  | _, _ => none

/-- The variant region that an offset of device image space lies in, and the granule of it. -/
def regionAt (s : State) (off : Nat) : Option (Nat × Nat) :=
  (leastBelow (fun r =>
    let b := (reg s .reqtab (0x600 + 16 * r)).toNat - 2 ^ 63
    decide (b ≤ off) && decide (off < b + 2048 * regionGranules s r)) 8).map (fun r =>
      (r, (off - ((reg s .reqtab (0x600 + 16 * r)).toNat - 2 ^ 63)) / 2048))

/-- The shard that an offset of device image space lies in, and the granule of it: the shards follow the scan index's
header (R161). -/
def shardAt (s : State) (i : Image) (off : Nat) : Option (Nat × Nat) :=
  let n := shardGranules s i 0
  if 2048 ≤ off ∧ (off - 2048) / 2048 < allShards s i then some ((off - 2048) / 2048 / n, (off - 2048) / 2048 % n) else none

/-- Place in the interleave of an offset of device image space outside the shards. -/
def interleaveAt (s : State) (i : Image) (off : Nat) : Nat :=
  if off / 2048 < imageGranules s i then off / 2048 - (if off < 2048 then 0 else allShards s i)
  else
    match regionAt s off with
    | some p => regionStart s i p.1 + p.2
    | none => 0

/-- Keep and physical granule of an offset of device image space (R271 item 2). -/
def imagePhys (s : State) (i : Image) (off : Nat) : Nat × Nat :=
  match shardAt s i off with
  | some p => (p.1, saveSlots i p.1 + p.2)
  | none =>
    let n := interleaveAt s i off
    (n % 32, saveSlots i (n % 32) + shardGranules s i (n % 32) + n / 32)

/-- Keep and physical granule of a T1 access of context `c`. -/
def physOf (s : State) (c a : Nat) : Nat × Nat :=
  match s.img.image with
  | none => (0, 0)
  | some i => if 2 ^ 63 ≤ a then imagePhys s i (a - 2 ^ 63) else (keepHome s c a).getD (0, 0)

/-- Keep that a T1 access of context `c` reads. -/
def keepRead (s : State) (c a : Nat) : Nat := (physOf s c a).1

/-- Keys of the 64-byte blocks that `n` bytes of T1 touch (R282). -/
def blockKeys (s : State) (c a n : Nat) : List Nat :=
  if n = 0 then []
  else (List.range ((a + n - 1) / 64 - a / 64 + 1)).map (fun i =>
    let b := (a / 64 + i) * 64
    let p := physOf s c b
    p.1 * 2 ^ 30 + p.2 * 32 + b % 2048 / 64)

/-- Some block that `n` bytes of T1 touch is uncorrectable (R282). -/
def badAt (s : State) (c a n : Nat) : Bool :=
  if s.tier.badBlocks = [] then false else (blockKeys s c a n).any s.tier.badBlocks.contains

/-- Bytes written to T1 as context `c` addresses them; a written block is correctable again (R282), and a granule that is
being moved counts as written (R273). -/
def t1Write (s : State) (c a : Nat) (bs : List Byte) : State :=
  let bad := if s.tier.badBlocks = [] then [] else
    let ks := blockKeys s c a bs.length
    s.tier.badBlocks.filter (fun k => !ks.contains k)
  let move := s.tier.move.map (fun m =>
    if m.ctx = c ∧ a < 2 ^ 63 then { m with written := m.written ++ granulesFrom a bs.length } else m)
  { s with tier := { s.tier with t1 := memWrite s.tier.t1 (t1Key c a) bs, badBlocks := bad, move := move } }

/-! ### Far addresses -/

/-- Bytes of device image space in use: loaded images with RESIDENT 1, and valid variant regions. -/
def imageSpaceHas (s : State) (off : Nat) : Bool :=
  s.img.loaded.any (fun p => p.2.resident && decide (p.2.base ≤ off) && decide (off < p.2.base + upGranule p.2.bytes)) ||
  (List.range 8).any (fun r =>
    let b := (reg s .reqtab (0x600 + 16 * r)).toNat - 2 ^ 63
    decide (b ≤ off) && decide (off < b + 2048 * regionGranules s r))

/-- Who serves an access of one granule. -/
inductive Served where
  | keep (k : Nat)
  | lease (j off : Nat)
  | peer (id : Nat)
  | fault (lost : Bool)
  deriving DecidableEq, Repr

/-- A Tytos neighbour of a feature-group identifier (R275, R277). -/
def peerNeighbour (s : State) (id : Nat) : Option Nat :=
  leastBelow (fun j => bit (reg s .tier (0x300 + 8 * j)) 36 && decide (fld s .tier (0x300 + 8 * j) 32 4 = id)) 16

/-- Who serves an access of context `c` at an address, for a Bound or an Elastic task (R269, R270, R273, R276, R277). -/
def serveAt (s : State) (c : Nat) (bound write : Bool) (a : Nat) : Served :=
  if 2 ^ 63 ≤ a then
    if write = false ∧ imageSpaceHas s (a - 2 ^ 63) then .keep (keepRead s c a) else .fault false
  else
    match extentAt s c a with
    | none => .fault false
    | some x =>
      if x.kind = 0 then .keep (x.keep ((a - x.vbase) / 2048))
      else if bound then .fault false
      else if x.kind = 1 then
        match homeOf s c a with
        | .keep => .keep (x.keep ((a - x.vbase) / 2048))
        | .lease j off => if write then .fault false else .lease j off
        | .lost => .fault (!write)
      else if write ∨ ctxConf s c ∨ fld s .tier 0x50 0 16 = 0 ∨ (peerNeighbour s x.peer).isNone then .fault false
      else .peer x.peer

/-- The namespace and offset of a T2 far address (R125) that context `c` owns and the bytes lie in. -/
def t2Ok (s : State) (c a n : Nat) : Bool :=
  match nsAt s (a / 2 ^ 58) with
  | some x => decide (x.owner = c) && decide (a % 2 ^ 58 + n ≤ x.size)
  | none => false

/-- The contents of T2 at a far address. -/
def t2Read (s : State) (a n : Nat) : List Byte := memRead s.flash.data a n

/-! ### Messages to neighbours -/

/-- A session with a neighbour: the one this device opened or the one the neighbour opened, the preferred one first. -/
def neighbourSession (s : State) (i : Nat) (mine : Bool) : Option Nat :=
  match neighbourEndpoint s i with
  | none => none
  | some e => if mine then (mineTo s e).orElse (fun _ => openedBy s e) else (openedBy s e).orElse (fun _ => mineTo s e)

/-- A LEASE message to a neighbour (R346). -/
def sendLease (s : State) (i : Nat) (mine : Bool) (op wire arg0 arg1 : Nat) (data : List Byte) : State :=
  match neighbourSession s i mine with
  | none => s
  | some n => sendCtl s n 0x42 0 (toLE 1 op ++ zeros 3 ++ toLE 4 wire ++ toLE 8 arg0 ++ toLE 8 arg1 ++ data)

/-! ### Errors of Keep reads -/

/-- Key of the row that holds a 64-byte block of a Keep, bank × 2^32 + row; the place is a free value. -/
def rowKeyOf (k block : Nat) : Nat :=
  (Config.blockPlace k block).1 % 512 * 2 ^ 32 + (Config.blockPlace k block).2 % 2 ^ 32

/-- A Keep error recorded (R282): the block's granule and die, uncorrectable, found by patrol. -/
def keepError (s : State) (k block : Nat) (ue patrol : Bool) : State :=
  let s := setReg s (.keep k) 0x30 (BitVec.ofNat 64
    (block / 32 % 2 ^ 25 + rowKeyOf k block / 2 ^ 37 * 2 ^ 25 + (if ue then 2 ^ 29 else 0) + (if patrol then 2 ^ 30 else 0) + 2 ^ 31 +
      now s % 2 ^ 32 * 2 ^ 32))
  if ue then bump (setFlag s (.keep k) 0x08 2) (.keep k) 0x28 1 else bump (setFlag s (.keep k) 0x08 1) (.keep k) 0x20 1

/-- An ECC_KEEP detection that names the requests whose reads held the block (R387, R390). -/
def detectKeep (s : State) (k : Nat) (ctx entry detail : Nat) (affected : List Nat) : State :=
  detect s { mech := 0x05, action := 0, unit := 0x0400 + k, key := none, ctx := ctx, entry := entry, detail := detail,
             affected := affected }

/-- An uncorrectable Keep read by a request (R282, R387, R390). -/
def eccKeep (s : State) (c e a : Nat) : State :=
  let p := physOf s c a
  let s := keepError s p.1 (p.2 * 32 + a % 2048 / 64) true false
  let s := { s with tier := { s.tier with badBlocks := asSet (s.tier.badBlocks ++ blockKeys s c a 1) } }
  detectKeep (stall s 3 c (0x0400 + p.1) e) p.1 c e a [e]

end Sys2Proof.Machine
end

