-- ==== Sys2Proof/Machine/Feature.lean ====
section
/-! DEFINITION. Feature tables (chapter 08): the table directory, the batch, GATHER, UPDATE and UNIQUE, replicas and the
tracker, and how a home accepts and applies deltas. -/

namespace Sys2Proof.Machine

/-! ### The table directory -/

/-- An entry of the table directory (R192). -/
structure FTab where
  base : Nat
  rows : Nat
  perDevice : Nat
  fmt : Nat
  cls : Nat
  adagrad : Bool
  hot : Bool
  dim : Nat
  stride : Nat
  ctx : Nat
  scale : BitVec 32
  zp : Int
  deriving DecidableEq, Repr

/-- Offset of a register of directory entry `t`. -/
def ftabOff (t w : Nat) : Nat := 0x9000 + 64 * t + w

/-- A register of directory entry `t`; a number beyond the 64 entries is an unused table. -/
def ftabWord (s : State) (t w : Nat) : Word := if t < 64 then reg s .tier (ftabOff t w) else 0

/-- Directory entry `t`. -/
def ftabOf (s : State) (t : Nat) : FTab :=
  let f := ftabWord s t 0x18
  { base := (ftabWord s t 0).toNat, rows := bits (ftabWord s t 8) 0 40, perDevice := bits (ftabWord s t 0x10) 0 40,
    fmt := bits f 0 4, cls := bits f 4 2, adagrad := bit f 6, hot := bit f 7, dim := bits f 8 13, stride := bits f 24 16,
    ctx := bits f 40 4, scale := BitVec.ofNat 32 (bits (ftabWord s t 0x20) 0 32),
    zp := intVal 2 (bits (ftabWord s t 0x20) 32 8) }

/-- DEVICE_ID of the feature group (R212). -/
def deviceId (s : State) : Nat := fld s .tier 0x8000 0 4

/-- Device that homes a row (R190). -/
def FTab.home (x : FTab) (row : Nat) : Nat := row / x.perDevice

/-- First row that this device homes, and the row after its last (R190). -/
def FTab.firstRow (x : FTab) (s : State) : Nat := deviceId s * x.perDevice
def FTab.endRow (x : FTab) (s : State) : Nat := min x.rows (x.firstRow s + x.perDevice)

/-- Rows of a table that this device homes (R190). -/
def FTab.homed (x : FTab) (s : State) : Nat := x.endRow s - x.firstRow s

/-- Bytes of one element. -/
def FTab.elemSize (x : FTab) : Nat := fmtWidth x.fmt / 8

/-- T1 address of a row homed on this device (R190). -/
def rowAddr (s : State) (x : FTab) (row : Nat) : Nat := x.base + (row - deviceId s * x.perDevice) * x.stride

/-- Offset of the accumulator G in a row (R190). -/
def FTab.accOff (x : FTab) : Nat := ceilDiv (x.dim * x.elemSize) 4 * 4

/-- Granules that a row touches, g of R192. -/
def FTab.granules (x : FTab) : Nat := ceilDiv x.stride 2048

/-- Value of an element's code (R192). -/
def FTab.value (x : FTab) (code : Nat) : FNum :=
  if x.fmt = 2 then mulNum (num32 x.scale) (ofInt (intVal 2 code - x.zp) 0) else numOf x.fmt code

/-- Values of a row's elements from its bytes. -/
def FTab.values (x : FTab) (bs : List Byte) : List FNum := (elems (fmtWidth x.fmt) x.dim bs).map x.value

/-- Keep that homes a row of this device. -/
def rowKeep (s : State) (x : FTab) (row : Nat) : Nat := keepRead s x.ctx (rowAddr s x row)

/-! ### Division and square root -/

/-- The quotient of two numbers, to well beyond any format's precision. -/
def divNum : FNum → FNum → FNum
  | .nan, _ => .nan
  | _, .nan => .nan
  | .inf _, .inf _ => .nan
  | .inf a, .fin b _ _ => .inf (a != b)
  | .fin _ _ _, .inf _ => .zero
  | .fin a m e, .fin b n g => if n = 0 then (if m = 0 then .nan else .inf (a != b)) else ratNum (a != b) m n (e - g)

/-- The square root of a number, to well beyond any format's precision. -/
def sqrtNum : FNum → FNum
  | .nan => .nan
  | .inf a => if a then .nan else .inf false
  | .fin a m e =>
    if m = 0 then .zero
    else if a then .nan
    else
      let odd := e % 2 = 1
      let m := if odd then 2 * m else m
      let e := if odd then e - 1 else e
      let x := m <<< 400
      let r := isqrt x
      .fin false (2 * r + (if r * r = x then 0 else 1)) (e / 2 - 201)

/-! ### The batch -/

/-- A batch (R194): bag offsets, row numbers, weights. -/
structure Batch where
  offs : List Nat
  rows : List Nat
  weights : List FNum
  deriving DecidableEq, Repr

/-- The batch in an index buffer; `none` where N or BAGS breaks R194. -/
def readBatch (s : State) (t : Nat) (x : Tile) (k : Task) (p : GatherP) (src wbuf : Nat) : Option Batch :=
  let rd (o n : Nat) : List Byte := bufRead s t x k src o n
  let n := leNat (rd 0 4)
  if p.indexMax < n ∨ leNat (rd 4 4) ≠ p.bags then none
  else
    some { offs := unpackWords 4 (p.bags + 1) (rd 8 (4 * (p.bags + 1))),
           rows := unpackWords 8 n (rd (ceilDiv (8 + 4 * (p.bags + 1)) 8 * 8) (8 * n)),
           weights :=
             if p.weighted then (unpackWords 4 n (bufRead s t x k wbuf 0 (4 * n))).map (numOf 8)
             else List.replicate n (.fin false 1 0) }

/-- Each number of the list is at most the one after. -/
def rising : List Nat → Bool
  | a :: b :: r => decide (a ≤ b) && rising (b :: r)
  | _ => true

/-- The unique list of a batch (R195). -/
def uniqueRows (l : List Nat) : List Nat :=
  (sortBy (fun a b => decide (a ≤ b)) l).foldr (fun x acc => if acc.head? = some x then acc else x :: acc) []

/-- The batch obeys R194; `home` asks that its rows are homed on this device. -/
def batchOk (s : State) (x : FTab) (p : GatherP) (b : Batch) (home : Bool) : Bool :=
  decide (b.offs.head? = some 0) && rising b.offs && decide (b.offs.getLast? = some b.rows.length) &&
  b.rows.all (fun r => decide (r < x.rows)) && decide ((uniqueRows b.rows).length ≤ p.uniqueMax) &&
  (!home || b.rows.all (fun r => decide (x.home r = deviceId s)))

/-- Positions of bag `i`: rows with their weights. -/
def Batch.bag (b : Batch) (i : Nat) : List (Nat × FNum) :=
  ((b.rows.zip b.weights).drop (b.offs.getD i 0)).take (b.offs.getD (i + 1) 0 - b.offs.getD i 0)

/-- The exact sum of numbers. -/
def sumNums (l : List FNum) : FNum := l.foldl addNum .zero

/-- A number is exactly zero. -/
def isZero : FNum → Bool
  | .fin _ m _ => decide (m = 0)
  | _ => false

/-- The combined weights of a bag: each of its rows once, ascending, with c_rb (R195). -/
def combined (bag : List (Nat × FNum)) : List (Nat × FNum) :=
  (uniqueRows (bag.map (·.1))).map (fun r => (r, sumNums ((bag.filter (fun q => decide (q.1 = r))).map (·.2))))

/-- GATHER_POOL's parameters obey R193. -/
def gatherOk (p : GatherP) (gather update : Bool) : Bool :=
  decide (p.table < 64) && decide (1 ≤ p.bags) && decide (p.bags ≤ 65536) && decide (1 ≤ p.indexMax) &&
  decide (p.indexMax ≤ 131072) && decide (1 ≤ p.uniqueMax) && decide (p.uniqueMax ≤ p.indexMax) &&
  (if gather then decide (6 ≤ p.outFmt) && decide (p.outFmt ≤ 8) else decide (p.outFmt = 0) && !p.rowSrc) &&
  (update || (decide (p.lr = 0#32) && decide (p.eps = 0#32)))

/-- A GATHER_POOL operator over its table and batch: a task of another context aborts with ADDRESS (R189), a task of a
context in Slate with SLATE, a bad batch with INDEX_RANGE (R194). -/
def onBatch (t : Nat) (p : GatherP) (b : Bufs) (gather update : Bool) (s : State)
    (f : Tile → Task → FTab → Batch → Res) : Res :=
  if gatherOk p gather update = false then malformed "parameters"
  else
    onTask s t fun x k =>
      let y := ftabOf s p.table
      if y.cls = 0 ∨ y.ctx ≠ k.ctx then .next (abortTask s t 2 0 0)
      else if ctxOpen s k.ctx = false then .next (abortTask s t 7 0 0)
      else
        match readBatch s t x k p b.src0 (if update then b.src2 else b.src1) with
        | none => .next (abortTask s t 1 0 0)
        | some q =>
          if batchOk s y p q (gather && !p.rowSrc) = false then .next (abortTask s t 1 0 0) else f x k y q

/-! ### Applying deltas -/

/-- A delta record on the wire and in the delta area (R205). -/
def deltaWire (d : DeltaRec) : List Byte :=
  toLE 2 d.table ++ toLE 1 d.source ++ toLE 1 d.opt ++ zeros 4 ++ toLE 8 d.seq ++ toLE 8 d.row ++ toLE 4 d.lr.toNat ++
  toLE 4 d.eps.toNat ++ d.grad.flatMap (fun g => toLE 4 g.toNat)

/-- Size of a delta (R205). -/
def deltaSize (d : DeltaRec) : Nat := 32 + 4 * d.grad.length

/-- One delta applied to a row's bytes (R208). -/
def applyTo (x : FTab) (d : DeltaRec) (row : List Byte) : List Byte :=
  let w := fmtWidth x.fmt
  let old := (elems w x.dim row).map (numOf x.fmt)
  let g := (List.range x.dim).map (fun e => num32 (d.grad.getD e 0#32))
  let step (a : FNum) : List Byte :=
    packElems w ((old.zip g).map (fun q => (convert x.fmt false 0 (addNum q.1 (negNum (mulNum a q.2)))).code))
  if d.opt = 0 then step (num32 d.lr) ++ row.drop (x.dim * x.elemSize)
  else
    let m := rne32 (divNum (sumNums (g.map (fun v => mulNum v v))) (ofInt x.dim 0))
    let acc := rne32 (addNum (numOf 8 (fieldLE row x.accOff 4)) m)
    let a := rne32 (divNum (num32 d.lr) (rne32 (addNum (rne32 (sqrtNum acc)) (num32 d.eps))))
    fit x.accOff (step a) ++ toLE 4 (code32 acc).toNat ++ row.drop (x.accOff + 4)

/-- Bytes of a row that deltas change. -/
def FTab.rowBytes (x : FTab) : Nat := if x.adagrad then x.accOff + 4 else x.dim * x.elemSize

/-- One delta applied at its home Keep. -/
def applyDelta (s : State) (d : DeltaRec) : State :=
  let x := ftabOf s d.table
  let a := rowAddr s x d.row
  let k := rowKeep s x d.row
  bump (t1Write s x.ctx a (applyTo x d (t1Read s x.ctx a x.rowBytes))) (.keep k) 0x8000 1

/-- The order of R208 between due deltas. -/
def deltaBefore (a b : DueDelta) : Bool :=
  decide (a.due < b.due) || (decide (a.due = b.due) && (decide (a.delta.source < b.delta.source) ||
    (decide (a.delta.source = b.delta.source) && decide (a.delta.seq ≤ b.delta.seq))))

/-- The due deltas that satisfy a test, applied in order and removed from the delta area. -/
def applyDue (s : State) (p : DueDelta → Bool) : State :=
  let due := fun (d : DueDelta) => decide (d.due ≤ now s) && p d
  let l := sortBy deltaBefore (s.feat.area.filter due)
  let s' := { s with feat := { s.feat with area := s.feat.area.filter (fun d => !due d) } }
  l.foldl (fun s d => applyDelta s d.delta) s'

/-- DELTA_APPLY: a home Keep applies every delta that is due (R208, R209). -/
def execDeltaApply (keep : Nat) (s : State) : Res :=
  if 32 ≤ keep then malformed "keep"
  else .next (applyDue s (fun d => decide (rowKeep s (ftabOf s d.delta.table) d.delta.row = keep)))

/-- A read of a row in this frame: a row with a due delta waits until its due deltas are applied, and the read counts as
held (R209). -/
def settleRow (s : State) (table row : Nat) : State :=
  let mine := fun (d : DueDelta) => decide (d.delta.table = table) && decide (d.delta.row = row)
  if s.feat.area.any (fun d => decide (d.due ≤ now s) && mine d) then
    applyDue (bump s (.keep (rowKeep s (ftabOf s table) row)) 0x8018 1) mine
  else s

/-- A read of `n` bytes of a context's space by a stream or a peer: every row in them with a due delta is settled first
(R209). -/
def settleBytes (s : State) (c a n : Nat) : State :=
  let rows := (s.feat.area.filter (fun d =>
      let x := ftabOf s d.delta.table
      let r := rowAddr s x d.delta.row
      decide (d.due ≤ now s) && decide (x.ctx = c) && decide (r < a + n) && decide (a < r + x.stride))).map
    (fun d => (d.delta.table, d.delta.row))
  rows.foldl (fun s q => settleRow s q.1 q.2) s

/-! ### Initial contents -/

/-- The bytes of a table's rows homed here, placed at FTAB_BASE in its owner's space from the model image that holds them
(R189, R269); which image, and where in it, is a free value. -/
def placeTable (s : State) (i : Image) (t : Nat) : State :=
  let x := ftabOf s t
  let models := i.refs.filter (fun r => decide (r.kind = 1))
  match models[(Config.tableSource t).1 % models.length]? with
  | none => s
  | some r =>
    match tget s.img.loaded r.ref with
    | none => s
    | some l =>
      let n := min l.bytes (x.homed s * x.stride)
      let off := l.base + (Config.tableSource t).2 % (l.bytes - n + 1)
      let t1 := if l.resident then memCopy s.tier.t1 (2 ^ 68 + off) s.tier.t1 (t1Key x.ctx x.base) n
        else memCopy s.flash.data (l.ns * 2 ^ 58 + off) s.tier.t1 (t1Key x.ctx x.base) n
      { s with tier := { s.tier with t1 := t1 } }

/-- The tables in use (R192). -/
def tablesUsed (s : State) : List Nat := (List.range 64).filter (fun t => decide ((ftabOf s t).cls ≠ 0))

/-- The initial contents of every table in use. -/
def placeTables (s : State) (i : Image) : State := (tablesUsed s).foldl (fun s t => placeTable s i t) s

/-! ### Reads, tracker and replicas -/

/-- HOT_WINDOW, W of R200. -/
def hotWindow (s : State) : Nat := fld s .tier 0x8000 4 6

/-- A read of a tracked row by a tile of a Spire (R200). -/
def track (s : State) (table row keep spire : Nat) : State :=
  if hotWindow s = 0 ∨ now s / hotWindow s < s.feat.firstWindow ∨ (ftabOf s table).hot = false then s
  else
    let hit := fun (r : TrackRow) => decide (r.keep = keep) && decide (r.table = table) && decide (r.row = row)
    let one := (List.range 8).map (fun p => if p = spire then 1 else 0)
    if s.feat.tracker.any hit then
      { s with feat := { s.feat with tracker := s.feat.tracker.map (fun r =>
          if hit r then { r with counts := (r.counts.zip one).map (fun q => q.1 + q.2) } else r) } }
    else if (s.feat.tracker.filter (fun r => decide (r.keep = keep))).length < 4096 then
      { s with feat := { s.feat with
          tracker := s.feat.tracker ++ [{ keep := keep, table := table, row := row, counts := one }] } }
    else s

/-- One row fetched by a tile's GATHER: from a replica of its Spire, or from its home, where reads of one row by several
tiles in a frame are one read (R196, R197, R202). -/
def fetchRow (s : State) (t table row : Nat) : State :=
  let x := ftabOf s table
  let k := rowKeep s x row
  let s := settleRow s table row
  let s := track s table row k (tileSpire t)
  if (spireAt s (tileSpire t)).replicas.contains (table, row) then s
  else if s.feat.reads.any (fun r => decide (r.1 = table) && decide (r.2.1 = row) && decide (r.2.2 ≠ t)) then
    bump s (.keep k) 0x8008 1
  else
    { s with feat := { s.feat with reads := s.feat.reads ++ [(table, row, t)] } }

/-- A line limit: the unpinned lines of a Spire's weight cache that replicas leave (R133, R201). -/
def pinnedLines (s : State) (p : Nat) : Nat := sumBy (fun j => fld s (.wcache p) (0x108 + 16 * j) 0 32 / 2048) (List.range 16)

/-- Lines that the replicas of a Spire occupy: whole lines for each row (log entry 19). -/
def replicaLines (s : State) (l : List (Nat × Nat)) : Nat := sumBy (fun r => (ftabOf s r.1).granules) l

/-- A Spire's replicas of the frame replaced, and its least recently used lines dropped where they no longer fit. -/
def setReplicas (s : State) (p : Nat) (l : List (Nat × Nat)) : State :=
  let x := spireAt s p
  setSpire s p { x with replicas := l, lines := x.lines.take (32768 - pinnedLines s p - replicaLines s l) }

/-- REPLICA_FILL: every Spire's replicas of the chosen rows for this frame (R201, R202). A STATIC row is copied in the
first frame of a window only. -/
def fillReplicas (s : State) : State :=
  let first := decide (now s % hotWindow s = 0)
  (List.range 8).foldl (fun s p =>
    let l := (s.feat.chosen.filter (fun c => decide (c.1 = p))).map (·.2)
    let s := setReplicas s p l
    l.foldl (fun s r =>
      let x := ftabOf s r.1
      if first ∨ x.cls = 2 then bump s (.keep (rowKeep s x r.2)) 0x8010 1 else s) s) s

/-- Rows in the order of R201. -/
def trackBefore (spire : Nat) (a b : TrackRow) : Bool :=
  let x := a.counts.getD spire 0
  let y := b.counts.getD spire 0
  decide (y < x) || (decide (x = y) && (decide (a.table < b.table) || (decide (a.table = b.table) && decide (a.row ≤ b.row))))

/-- The rows a Spire replicates in the next window: those that reached HOT_HITS, taken in order while they fit in
REPLICA_KIB (R201). -/
def chooseRows (s : State) (spire : Nat) : List (Nat × Nat) :=
  let hits := fld s .tier 0x8000 16 16
  let room := fld s .tier 0x8000 32 14 * 1024
  let l := sortBy (trackBefore spire) (s.feat.tracker.filter (fun r => decide (hits ≤ r.counts.getD spire 0)))
  (l.foldl (fun (acc : List (Nat × Nat)) r =>
    if 2048 * replicaLines s (acc ++ [(r.table, r.row)]) ≤ room then acc ++ [(r.table, r.row)] else acc) [])

/-- REPLICATION_WINDOW: a replication window ends at the boundary that opens the next; the tracker's counts choose the
replicas of the new window, which the Spires receive at once, and the tracker empties (R200, R201, R203). -/
def execReplicationWindow (s : State) : Res :=
  let w := hotWindow s
  if w = 0 ∨ enabled s .tier = false ∨ s.img.awaiting = true ∨ now s % w ≠ 0 ∨ s.feat.chosenFor = some (now s / w) then
    .next s
  else
    let chosen := (List.range 8).flatMap (fun p => (chooseRows s p).map (fun r => (p, r.1, r.2)))
    .next (fillReplicas { s with feat := { s.feat with chosen := chosen, chosenFor := some (now s / w), tracker := [] } })

/-! ### The operators -/

/-- A bag's pooled output of one element (R197). -/
def poolElem (p : GatherP) (bag : List (Nat × FNum)) (weight : FNum) (value : Nat → FNum) : Nat :=
  let sum := sumNums ((bag.filter (fun q => !isZero q.2)).map (fun q => mulNum q.2 (value q.1)))
  let v := if p.mean then (if isZero weight then .zero else divNum sum weight) else sum
  (convert p.outFmt false 0 v).code

/-- A row that GATHER reads itself lies in an uncorrectable block: the task aborts with cause ECC (R136, R282). -/
def badRow (s : State) (t : Nat) (k : Task) (p : GatherP) (y : FTab) (rows : List Nat) : Option State :=
  let n := y.dim * y.elemSize
  (if p.rowSrc then none else rows.find? (fun r => badAt s k.ctx (rowAddr s y r) n)).map (fun r =>
    let a := (((List.range n).map (fun i => rowAddr s y r + i)).find? (fun a => badAt s k.ctx a 1)).getD (rowAddr s y r)
    eccKeep (abortTask s t 4 0 0) k.ctx k.entry a)

/-- GATHER (R197, R198). -/
def execGather (t : Nat) (p : GatherP) (b : Bufs) (s : State) : Res :=
  onBatch t p b true false s fun x k y q =>
    let rows := uniqueRows q.rows
    if y.cls = 2 ∧ k.elastic = false then .next s
    else if p.rowSrc = false ∧
        rows.any (fun r => match serveAt s k.ctx (!k.elastic) false (rowAddr s y r) with
          | .keep _ => false
          | _ => true) then .next (abortTask s t 2 0 0)
    else
      match badRow s t k p y rows with
      | some s => .next s
      | none =>
      let s := if p.rowSrc then s else rows.foldl (fun s r => fetchRow s t p.table r) s
      let table := (List.range rows.length).map (fun i =>
        let r := rows.getD i 0
        let bs := if p.rowSrc then bufRead s t x k b.src2 (i * y.stride) (y.dim * y.elemSize)
                  else t1Read s k.ctx (rowAddr s y r) (y.dim * y.elemSize)
        (r, y.values bs))
      let value (r e : Nat) : FNum := ((tgetD table r []).getD e .zero)
      let out := (List.range p.bags).flatMap (fun i =>
        let bag := combined (q.bag i)
        let weight := sumNums ((q.bag i).map (·.2))
        (List.range y.dim).map (fun e => poolElem p bag weight (fun r => value r e)))
      let empty := ((List.range p.bags).filter (fun i => decide (q.offs.getD i 0 = q.offs.getD (i + 1) 0))).length
      let mult := (rows.map (fun r => (q.rows.filter (fun v => decide (v = r))).length)).foldl max 0
      let head := toLE 8 q.rows.length ++ toLE 8 rows.length ++ toLE 8 empty ++ toLE 8 mult ++ zeros 32
      .next (advance (bufWrite s t k b.dst 0 (head ++ packElems (fmtWidth p.outFmt) out)) t)

/-- EPS of an UPDATE or a delta is valid for its table (R193): finite and greater than 0 with ADAGRAD, otherwise 0. -/
def epsOk (adagrad : Bool) (eps : BitVec 32) : Bool :=
  if adagrad then decide (0 < eps.toNat) && decide (eps.toNat < 0x7F800000) else decide (eps = 0#32)

/-- UPDATE: gradients combined per unique row, one delta per row, kept with the task until it publishes (R204, R206). -/
def execUpdate (t : Nat) (p : GatherP) (b : Bufs) (s : State) : Res :=
  onBatch t p b false true s fun x k y q =>
    if y.cls ≠ 2 ∨ k.elastic = false then .next s
    else if epsOk y.adagrad p.eps = false then malformed "EPS"
    else
      let rows := uniqueRows q.rows
      if ctxConf s k.ctx ∧ rows.any (fun r => decide (y.home r ≠ deviceId s)) then .next (abortTask s t 2 0 0)
      else
        let grads := unpackWords 4 (p.bags * y.dim) (bufRead s t x k b.src1 0 (4 * p.bags * y.dim))
        let bags := (List.range p.bags).map (fun i => (i, q.bag i, sumNums ((q.bag i).map (·.2))))
        let live := bags.filter (fun a => !(p.mean && isZero a.2.2))
        let scaled (i : Nat) (w : FNum) (e : Nat) : FNum :=
          let g := numOf 8 (grads.getD (i * y.dim + e) 0)
          if p.mean then rne32 (divNum g w) else g
        let deltas := rows.map (fun r =>
          let mine := live.filterMap (fun a =>
            let l : List FNum := (a.2.1.filter (fun v => decide (v.1 = r))).map (·.2)
            if l.isEmpty then none else some (a.1, a.2.2, sumNums l))
          { table := p.table, source := deviceId s, opt := if y.adagrad then 1 else 0, seq := 0, row := r, lr := p.lr,
            eps := p.eps,
            grad := (List.range y.dim).map (fun e =>
              code32 (sumNums (mine.map (fun a => mulNum a.2.2 (scaled a.1 a.2.1 e))))) : DeltaRec })
        .next (advance (setTask s t (fun k => { k with deltas := k.deltas ++ deltas })) t)

/-- UNIQUE: the unique list in index-buffer form (R195). -/
def execUnique (t : Nat) (p : GatherP) (b : Bufs) (s : State) : Res :=
  onBatch t p b false false s fun _ k _ q =>
    let rows := uniqueRows q.rows
    .next (advance (bufWrite (bufWrite s t k b.dst 0 (toLE 4 rows.length)) t k b.dst 8 (rows.flatMap (toLE 8))) t)

/-! ### Acceptance at the home -/

/-- Key of the SEQ series of a source and a table. -/
def seqKey (d : DeltaRec) : Nat := d.table * 16 + d.source % 16

/-- The home rejects a delta (R207). -/
def deltaBad (s : State) (d : DeltaRec) : Bool :=
  let x := ftabOf s d.table
  decide (64 ≤ d.table) || decide (x.cls ≠ 2) || decide (x.rows ≤ d.row) || decide (x.home d.row ≠ deviceId s) ||
  decide (d.opt ≠ (if x.adagrad then 1 else 0)) || !epsOk x.adagrad d.eps || !ctxOpen s x.ctx ||
  (match tget s.feat.lastSeq (seqKey d) with
   | some q => decide (d.seq ≤ q)
   | none => false)

/-- Room of the delta area in bytes (R212). -/
def deltaRoom (s : State) : Nat :=
  fld s .tier 0x8008 0 16 * 1024 - sumBy (fun d => deltaSize d.delta) s.feat.area

/-- A delta that reaches its home in the current frame is rejected, or enters the delta area, due in the next frame
(R207). -/
def acceptDelta (s : State) (d : DeltaRec) : State :=
  let s := { s with feat := { s.feat with taken := tset s.feat.taken (seqKey d) d.seq } }
  if deltaBad s d then setFlag (bump s .tier 0x8020 1) .tier 0x8010 1
  else
    { s with feat := { s.feat with
        area := s.feat.area ++ [{ due := now s + 1, delta := d }],
        lastSeq := tset s.feat.lastSeq (seqKey d) d.seq } }

/-- A context's due deltas and tracker entries are discarded as it enters Slate, and its rows are replicated no more
(R210). -/
def dropFeatures (s : State) (c : Nat) : State :=
  { s with feat := { s.feat with
      area := s.feat.area.filter (fun d => decide ((ftabOf s d.delta.table).ctx ≠ c)),
      tracker := s.feat.tracker.filter (fun r => decide ((ftabOf s r.table).ctx ≠ c)),
      chosen := s.feat.chosen.filter (fun r => decide ((ftabOf s r.2.1).ctx ≠ c)) } }

end Sys2Proof.Machine
end

