-- ==== Sys2Proof/Machine/Streams.lean ====
section
/-! DEFINITION. Streams (R125 to R133), pool reads (R295), line fills, tokens and credits (R116 to R118), expert routing,
loops, results and the end of a task (R110 to R114, R135), and the end of a context switch (R138). -/

namespace Sys2Proof.Machine

/-! ### Elements of a stream -/

/-- Offsets of the elements of an affine block, innermost dimension first, in linear order (R127). -/
def dimOffs : List (Nat × Int) → List Int
  | [] => [0]
  | (count, stride) :: ds => (dimOffs ds).flatMap (fun o => (List.range count).map (fun (i : Nat) => o + (i : Int) * stride))

/-- Runs of an affine stream: far address, offset in the buffer, bytes (R127, R129). -/
def affineElems (d : StreamDesc) : List (Nat × Nat × Nat) :=
  let e : Nat := 2 ^ d.elemLog2
  let run : Nat × List Int := match d.dims with
    | (count, stride) :: ds => if stride = (e : Int) then (e * count, dimOffs ds) else (e, dimOffs d.dims)
    | [] => (e, [0])
  (List.range run.2.length).map (fun i =>
    ((((d.farBase : Int) + run.2.getD i 0) % (2 ^ 64 : Nat)).toNat, d.sramOffset + i * run.1, run.1))

/-- Bytes of a program's buffer (R109). -/
def bufBytes (s : State) (k : Task) (b : Nat) : Nat :=
  match programOf s k with
  | some p => ((p.bufs[b]?).map (·.bytes)).getD 0
  | none => 0

/-- The stream descriptor of a task's stage (R58). -/
def streamDesc (s : State) (k : Task) (idx : Nat) : Option StreamDesc :=
  match s.img.image with
  | some i =>
    (i.streams.find? (fun r => decide (r.pipeline = k.pipeline) && decide (r.stage = k.stage) && decide (r.index = idx))).map
      (·.desc)
  | none => none

/-- The block that runs a stream (R142). -/
def streamBlk (d : StreamDesc) (t : Nat) : Blk := if d.kind = 1 then .stream t else .tdma t

/-- A stream as it starts: its elements, from the index list or the dimensions (R126, R127). -/
def newRun (s : State) (t : Nat) (x : Tile) (k : Task) (idx : Nat) (d : StreamDesc) : StreamRun :=
  let persist := decide (bufKind s k d.sramBuf = 1)
  let n := if d.kind = 1 then leNat (bufRead s t x k d.indexBuf 0 4) else 0
  let tooMany := decide (d.kind = 1) && decide (d.indexMax < n)
  let w := if d.idx64 then 8 else 4
  let ids := if d.kind = 1 ∧ tooMany = false then unpackWords w n (bufRead s t x k d.indexBuf 8 (w * n)) else []
  { index := idx, entry := k.entry, frame := k.frame, done := false, late := false, ctx := k.ctx, elastic := k.elastic,
    elems := if d.kind = 1 then
        (List.range ids.length).map (fun i =>
          ((d.farBase + ids.getD i 0 * d.rowStride) % 2 ^ 64, i * d.sramStride, d.rowBytes))
      else affineElems d,
    tooMany := tooMany, outside := (List.range ids.length).filter (fun i => decide (d.indexLimit ≤ ids.getD i 0)),
    rdHalf := persist && decide (k.step % 2 = 1), wrHalf := persist && decide (k.step % 2 = 0), filled := [],
    got := [], desc := d }

/-- Minimum efficient transfer of a tier (R129). -/
def tierUnit : Nat → Nat
  | 0 => 256
  | 1 => 2048
  | 2 => 16384
  | _ => 4096

/-- Bytes that a stream is charged (R129). -/
def chargedBytes (r : StreamRun) : Nat := sumBy (fun e => tierUnit r.desc.farTier * ceilDiv e.2.2 (tierUnit r.desc.farTier)) r.elems

/-- Who serves a granule of a stream: T1 is this device's Keeps, and T3 addresses lie in T3-eligible and PEER extents
(R267). -/
def servedBy (s : State) (r : StreamRun) (a : Nat) : Served :=
  let v := serveAt s r.ctx (!r.elastic) r.desc.write a
  if r.desc.farTier = 3 then
    if a < 2 ^ 63 ∧ (extentAt s r.ctx a).any (fun x => decide (0 < x.kind)) then v else .fault false
  else
    match v with
    | .lease _ _ => .fault false
    | .peer _ => .fault false
    | other => other

/-- Granules of a T3 stream that a neighbour serves and whose DATA has not come (R276, R277). -/
def awaited (s : State) (r : StreamRun) : List Nat :=
  if r.desc.farTier ≠ 3 then []
  else ((r.elems.flatMap (fun e => granulesFrom e.1 e.2.2)).filter (fun a =>
    match servedBy s r a with
    | .lease _ _ => !(r.got.any (fun q => decide (q.1 = a)))
    | .peer _ => !(r.got.any (fun q => decide (q.1 = a)))
    | _ => false))

/-- What is wrong with an element: its cause of R136, and whether a lost granule is the reason (R276). -/
def elemFault (s : State) (r : StreamRun) (size : Nat) (pos : Nat) (e : Nat × Nat × Nat) : Option (Nat × Bool) :=
  if r.outside.contains pos then some (1, false)
  else
    match r.desc.farTier with
    | 0 => if e.1 + e.2.2 ≤ size then none else some (2, false)
    | 2 => if t2Ok s r.ctx e.1 e.2.2 then none else some (2, false)
    | _ =>
      let l := (granulesFrom e.1 e.2.2).map (servedBy s r)
      if 2 ^ 64 < e.1 + e.2.2 then some (2, false)
      else if l.contains (.fault true) then some (2, true)
      else if l.contains (.fault false) then some (2, false)
      else if r.desc.write = false ∧ badAt s r.ctx e.1 e.2.2 then some (4, false)
      else none

/-- The first faulty element of a stream: its position, cause, and whether a lost granule is the reason. -/
def firstFault (s : State) (r : StreamRun) (size : Nat) : Option (Nat × Nat × Bool) :=
  ((List.range r.elems.length).find? (fun i => (elemFault s r size i (r.elems.getD i (0, 0, 0))).isSome)).map (fun i =>
    let f := (elemFault s r size i (r.elems.getD i (0, 0, 0))).getD (0, false)
    (i, f.1, f.2))

/-- `n` bytes of a tile buffer by key; a byte that nothing has written is free (R109). -/
def sramRead (x : Tile) (t : Nat) (r : StreamRun) (off n : Nat) : List Byte :=
  (List.range n).map (fun i =>
    match tget x.sram (bufKey r.entry r.rdHalf r.desc.sramBuf (off + i)) with
    | some v => v
    | none => Config.scratchByte r.frame t r.desc.sramBuf (off + i))

/-- `n` bytes that a stream reads of T1 or T3: what a neighbour's DATA brought for it, and otherwise what the Keeps hold
(R272, R276). -/
def farRead (s : State) (r : StreamRun) (a n : Nat) : List Byte :=
  if r.got = [] then t1Read s r.ctx a n
  else (List.range n).map (fun i =>
    match r.got.find? (fun q => decide (q.1 = (a + i) / 2048 * 2048)) with
    | some q => q.2.getD ((a + i) % 2048) 0
    | none => memByte s.tier.t1 (t1Key r.ctx (a + i)))

/-- One element moved (R126, R127); a feature row with due deltas is settled before it is read (R209). -/
def moveElem (s : State) (t : Nat) (r : StreamRun) (e : Nat × Nat × Nat) : State :=
  let s := if r.desc.farTier % 2 = 1 ∧ r.desc.write = false then settleBytes s r.ctx e.1 e.2.2 else s
  let x := tileAt s t
  let put (s : State) (off : Nat) (bs : List Byte) : State :=
    let x := tileAt s t
    setTile s t { x with sram := sramWrite x.sram (bufKey r.entry r.wrHalf r.desc.sramBuf off) bs }
  match r.desc.farTier with
  | 0 =>
    if r.desc.write then put s e.1 (sramRead x t r e.2.1 e.2.2) else put s e.2.1 (sramRead x t r e.1 e.2.2)
  | 2 => put s e.2.1 (t2Read s e.1 e.2.2)
  | _ =>
    if r.desc.write then t1Write s r.ctx e.1 (sramRead x t r e.2.1 e.2.2) else put s e.2.1 (farRead s r e.1 e.2.2)

/-- Runs of a tile with one replaced. -/
def setRun (s : State) (t : Nat) (r : StreamRun) : State :=
  let x := tileAt s t
  setTile s t { x with streams := x.streams.map (fun q =>
    if q.index = r.index ∧ q.entry = r.entry ∧ q.frame = r.frame then r else q) }

/-- A stream of a pre-empted task stands still (R137). -/
def stopped (x : Tile) (r : StreamRun) : Bool :=
  decide (x.run = .preempted) && (match x.task with
    | some k => decide (k.entry = r.entry) && decide (k.frame = r.frame)
    | none => false)

/-- The stream of a tile that runs under a descriptor index: the oldest not complete and not stopped. -/
def runAt (s : State) (t idx : Nat) : Option StreamRun :=
  (tileAt s t).streams.find? (fun r => decide (r.index = idx) && !r.done && !stopped (tileAt s t) r)

/-- A tile's record of the requests of its last frames (R387). -/
def touch (s : State) (t e : Nat) : State :=
  let x := tileAt s t
  let h := x.history.filter (fun q => decide (now s ≤ q.2 + 2))
  setTile s t { x with history := if h.contains (e, now s) then h else h ++ [(e, now s)] }

/-! ### Starting and waiting -/

/-- The neighbour that serves a leased granule and its wire lease, or the peer (R275, R277). -/
def askGranule (s : State) (c : Nat) (a : Nat) : Served → State
  | .lease j off =>
    match tget s.tier.leases j with
    | some l => sendLease s l.neighbour true 7 l.wire (2048 * off) (c + 2048 * 16) []
    | none => s
  | .peer id =>
    match peerNeighbour s id with
    | some i => sendLease s i true 7 0 (a + 2 ^ 63) (c + 2048 * 16) []
    | none => s
  | _ => s

/-- STREAM_START (R111, R128): the stream's elements are fixed; a stream that reads a neighbour's Keep asks for its
granules (R346). -/
def execStreamStart (t idx : Nat) (s : State) : Res :=
  onTask s t fun x k =>
    match streamDesc s k idx with
    | none => malformed "stream"
    | some d =>
      if enabled s (streamBlk d t) = false then .next s
      else if (d.write && decide (2 ≤ d.farTier)) ∨ x.streams.any (fun r => decide (r.index = idx) && !r.done) then
        .next s
      else
        let r := newRun s t x k idx d
        let keep := x.streams.filter (fun q => !(decide (q.index = idx) && q.done))
        let s := setTile s t { x with streams := keep ++ [r] }
        let s := if d.farTier = 3 then
            (r.elems.flatMap (fun e => granulesFrom e.1 e.2.2)).foldl (fun s a =>
              askGranule s k.ctx a (servedBy s r a)) s
          else s
        .next (advance (touch s t k.entry) t)

/-- STREAM_WAIT (R111): the task goes on if the stream is complete, and otherwise waits for it. -/
def execStreamWait (t idx : Nat) (s : State) : Res :=
  onTask s t fun x k =>
    match x.streams.find? (fun r => decide (r.index = idx) && decide (r.entry = k.entry)) with
    | none => .next s
    | some r => if r.done then .next (advance s t) else .next (setTask s t (fun k => { k with waitStream := some idx }))

/-! ### Completion -/

/-- A T1 address lies in a pinned region of a Spire (R133). -/
def pinnedAt (s : State) (p a : Nat) : Bool :=
  (List.range 16).any (fun j =>
    let b := (reg s (.wcache p) (0x100 + 16 * j)).toNat
    decide (b ≤ a) && decide (a < b + fld s (.wcache p) (0x108 + 16 * j) 0 32))

/-- Weight-cache lines that a stream reads and no pinned region holds, with an address each. -/
def linesOf (s : State) (p : Nat) (r : StreamRun) : List Nat :=
  asSet (((r.elems.flatMap (fun e => granulesFrom e.1 e.2.2)).filter (fun a => !pinnedAt s p a)).map
    (fun a => t1Key r.ctx a / 2048))

/-- The lines that a WEIGHT read still misses (R133). -/
def missing (s : State) (t : Nat) (r : StreamRun) : List Nat :=
  if r.desc.weight ∧ enabled s (.wcache (tileSpire t)) then
    (linesOf s (tileSpire t) r).filter (fun l => !(r.filled.contains l) && !((spireAt s (tileSpire t)).lines.contains l))
  else []

/-- A completed WEIGHT read: pinned lines and lines held count as hits, and become the most recently used (R133, R140). -/
def countHits (s : State) (t : Nat) (r : StreamRun) : State :=
  let p := tileSpire t
  if r.desc.weight ∧ enabled s (.wcache p) then
    let pinned := ((r.elems.flatMap (fun e => granulesFrom e.1 e.2.2)).filter (pinnedAt s p)).length
    let held := (linesOf s p r).filter (fun l => !(r.filled.contains l))
    let x := spireAt s p
    bump (setSpire s p { x with lines := held ++ x.lines.filter (fun l => !(held.contains l)) }) (.wcache p) 0x18
      (pinned + held.length)
  else s

/-- A task that waited for a stream goes on (R111). -/
def wakeTask (s : State) (t : Nat) (r : StreamRun) : State :=
  match (tileAt s t).task with
  | some k =>
    if k.entry = r.entry ∧ k.waitStream = some r.index then
      setTask s t (fun k => { k with waitStream := none, pos := k.pos + 1 })
    else s
  | none => s

/-- Size of the buffer that a stream's SRAM side names, for its T0 addresses (R125). -/
def runSize (s : State) (t : Nat) (r : StreamRun) : Nat :=
  match (tileAt s t).task with
  | some k => bufBytes s k r.desc.sramBuf
  | none => 0

/-- A stream's data in place: every element moved, its bytes and transfers counted (R128, R129, R142). -/
def land (s : State) (t : Nat) (r : StreamRun) : State :=
  let s := r.elems.foldl (fun s e => moveElem s t r e) s
  let s := countHits s t r
  let b := streamBlk r.desc t
  let s := bump (bump s b 0x10 (chargedBytes r)) b 0x18 r.elems.length
  wakeTask (touch (setRun s t { r with done := true }) t r.entry) t r

/-- A stream still running and with nothing left in its way lands. -/
def landRun (s : State) (t : Nat) (r : StreamRun) : Res :=
  if r.tooMany ∨ (firstFault s r (runSize s t r)).isSome then .next s
  else if missing s t r ≠ [] then .next s
  else if awaited s r ≠ [] then .next s
  else .next (land s t r)

/-- STREAM_COMPLETE (R128). -/
def execStreamComplete (t idx : Nat) (s : State) : Res :=
  if 640 ≤ t then malformed "tile"
  else
    match runAt s t idx with
    | none => .next s
    | some r => landRun s t r

/-- A landing due by now that has not come (R121, R128). -/
def landingLate (s : State) (x : Tile) (e : Nat) : Option StreamRun :=
  x.streams.find? (fun r => decide (r.entry = e) && decide (0 < r.desc.landFrames) && !r.done &&
    decide (r.frame + r.desc.landFrames ≤ now s))

/-- The stall cause of a late landing: T1_LATE, T2_LATE or T3_LATE (R278). -/
def lateCause (r : StreamRun) : Nat := if r.desc.farTier = 2 then 4 else if r.desc.farTier = 3 then 6 else 2

/-- The missed landing of a pool read counted once (R295). -/
def countLate (s : State) (t : Nat) (r : StreamRun) : State :=
  if r.desc.farTier = 2 ∧ r.late = false then
    let x := tileAt s t
    setFlag (bump (setTile s t { x with streams := x.streams.map (fun q => if q = r then { q with late := true } else q) })
      .flash 0x48 1) .flash 0x08 5
  else s

/-- POOL_READ_COMPLETE: the pool reads of a T2 stream land, or one fails as T2_FAIL; a read that misses its landing
counts as T2_LATE (R128, R295). -/
def execPoolReadComplete (t idx : Nat) (failed lateLanding : Bool) (s : State) : Res :=
  if 640 ≤ t then malformed "tile"
  else
    match runAt s t idx with
    | none => .next s
    | some r =>
      if r.desc.farTier ≠ 2 ∨ lateLanding ≠ decide (r.frame + r.desc.landFrames ≤ now s) then .next s
      else if failed then
        let s := setFlag (bump s .flash 0x50 1) .flash 0x08 5
        .next (missed (stall (setRun s t { r with done := true }) 5 r.ctx t r.entry) r.entry)
      else if lateLanding then
        match landRun s t r with
        | .next u => .next (if r.late then u else missed (stall (countLate u t { r with done := true }) 4 r.ctx t r.entry) r.entry)
        | other => other
      else landRun s t r

/-! ### Faults -/

/-- A stream's fault ends what it serves (R136): the task that started it aborts, or, where that task has completed, its
request is handled by cause. -/
def streamAbort (s : State) (t : Nat) (r : StreamRun) (cause why : Nat) : State :=
  match (tileAt s t).task with
  | some k =>
    if k.entry = r.entry ∧ k.frame = r.frame ∧ k.complete = false then abortTask s t cause r.index why
    else late
  | none => late
where
  late : State :=
    let s := setRun s t { r with done := true }
    if cause = 1 ∨ cause = 2 then faultNow s r.entry
    else if cause = 5 then missed (stall s why r.ctx t r.entry) r.entry
    else s

/-- The cause that R136 gives an element at a far address, where the state decides it. -/
def faultAt (s : State) (t : Nat) (r : StreamRun) (cause addr : Nat) : Bool :=
  match firstFault s r (runSize s t r) with
  | some (i, c, _) => decide (c = cause) && decide ((r.elems.getD i (0, 0, 0)).1 ≤ addr) &&
      decide (addr < (r.elems.getD i (0, 0, 0)).1 + max 1 (r.elems.getD i (0, 0, 0)).2.2)
  | none => r.tooMany && decide (cause = 1)

/-- STREAM_FAULT: an element of a stream faults and the whole task aborts; the elements before it have moved (R136).
Causes 1 and 2 follow from the list and the home maps; 4 and 5 are what the hardware meets. -/
def execStreamFault (t idx cause : Nat) (addr : Word) (s : State) : Res :=
  if 640 ≤ t then malformed "tile"
  else
    match runAt s t idx with
    | none => .next s
    | some r =>
      let a := addr.toNat
      let hit (e : Nat × Nat × Nat) : Bool := decide (e.1 ≤ a) && decide (a < e.1 + e.2.2)
      let physical := (decide (cause = 4) && decide (r.desc.farTier ≠ 2)) ||
        (decide (cause = 5) && (decide (r.desc.farTier = 1) || decide (r.desc.farTier = 3)))
      if faultAt s t r cause a = false ∧ !(physical ∧ r.elems.any hit) then .next s
      else
        let lost := match firstFault s r (runSize s t r) with
          | some (_, c, l) => l && decide (c = cause)
          | none => false
        let s := (r.elems.takeWhile (fun e => !hit e)).foldl (fun s e =>
          if r.tooMany then s else moveElem s t r e) s
        let b := streamBlk r.desc t
        let s := setReg (setFlag s b 0x08 1) b 0x20 addr
        let s := if lost then stall s 8 r.ctx t r.entry else s
        let why := match serveAt s r.ctx (!r.elastic) r.desc.write a with
          | .lease _ _ => 7
          | .peer _ => 7
          | _ => 2
        let s := streamAbort s t r cause why
        if cause ≠ 4 then .next s
        else if r.desc.farTier = 0 then .next (detectTile s 0x04 t a)
        else .next (eccKeep s r.ctx r.entry a)

/-- A tile waits for a line of the weight cache. -/
def waitsLine (s : State) (line t : Nat) : Option StreamRun :=
  (tileAt s t).streams.find? (fun r => !r.done && !stopped (tileAt s t) r && decide (r.desc.weight = true) &&
    (missing s t r).contains line)

/-- LINE_FILL: one Keep read fills a missed line of a Spire's weight cache and serves every waiting tile (R133). `line` is
the line's T1 granule number; `ecc` 1 is a corrected error, 2 an uncorrectable one. -/
def execLineFill (p line : Nat) (tiles : List Nat) (ecc : Nat) (s : State) : Res :=
  if 8 ≤ p ∨ 2 < ecc ∨ tiles.any (fun t => decide (640 ≤ t ∨ tileSpire t ≠ p)) then malformed "line"
  else if enabled s (.wcache p) = false ∨ tiles = [] ∨ tiles.any (fun t => (waitsLine s line t).isNone) then
    .next s
  else
    let runs := tiles.filterMap (fun t => (waitsLine s line t).map (fun r => (t, r)))
    let s := bump (bump s (.wcache p) 0x20 1) (.wcache p) 0x28 (tiles.length - 1)
    let a := line * 2048 % 2 ^ 64 + (if 2 ^ 57 ≤ line then 2 ^ 63 else 0)
    if ecc = 2 then
      let s := runs.foldl (fun s q =>
        let b := streamBlk q.2.desc q.1
        let far := ((q.2.elems.find? (fun e => decide (e.1 < a + 2048) && decide (a < e.1 + e.2.2))).map (fun e => max a e.1)).getD a
        abortTask (setReg (setFlag s b 0x08 1) b 0x20 (BitVec.ofNat 64 far)) q.1 4 q.2.index 0) s
      let entry := match runs with
        | (_, r) :: _ => r.entry
        | [] => 0xFFFF
      let ctx := match runs with
        | (_, r) :: _ => r.ctx
        | [] => 0xFF
      .next (detect s { mech := 0x07, action := 0, unit := 0x0500 + p, key := some (line + 2 ^ 80 * p), ctx := ctx,
                        entry := entry, detail := a, affected := asSet (runs.map (fun q => q.2.entry)) })
    else
      let s := if ecc = 1 then setFlag s (.wcache p) 0x08 1 else s
      let s := runs.foldl (fun s q => setRun s q.1 { q.2 with filled := q.2.filled ++ [line] }) s
      let x := spireAt s p
      let room := 32768 - pinnedLines s p - replicaLines s x.replicas
      .next (setSpire s p { x with lines := (line :: x.lines).take room })

/-! ### Tokens and credits -/

/-- The route of an index (R57). -/
def routeAt (s : State) (i : Nat) : Option RouteRec :=
  match s.img.image with
  | some m => m.routes[i]?
  | none => none

/-- Credits that a producer tile may use on a route (R116, R118). -/
def creditsLeft (s : State) (t route : Nat) : Nat :=
  match routeAt s route with
  | some r => r.credits - tgetD (tileAt s t).spent route 0
  | none => 0

/-- Buffers of a route that tokens of a producer tile still occupy. -/
def busyBuffers (s : State) (t route : Nat) : List Nat :=
  let mine := fun (k : Token) => decide (k.route = route) && decide (k.srcTile = t)
  ((((tileAt s t).task.toList.flatMap (·.tokens)) ++ s.tiles.flatMap (fun p => p.2.inbox) ++ s.dome).filter mine).map
    (·.buffer)

/-- One credit taken and a token posted with its data: it waits with the task's outputs (R116, R117, R135). -/
def postToken (s : State) (t : Nat) (k : Task) (route rank : Nat) (data : List Byte) : State :=
  let used := busyBuffers s t route
  let r := reqAt s k.entry
  let token : Token :=
    { entry := k.entry, ctx := k.ctx, route := route,
      buffer := (leastBelow (fun i => !(used.contains i)) 64).getD 0, bytes := data.length,
      start := (r.map (·.start)).getD 0, visible := now s + 1, seed := false, last := false, elastic := k.elastic,
      slotMap := (r.map (·.slots)).getD [], srcTile := t, srcRank := k.rank, dstRank := rank, data := data }
  let s := setTask s t (fun k => { k with tokens := k.tokens ++ [token] })
  let x := tileAt s t
  setTile s t { x with spent := tset x.spent route (tgetD x.spent route 0 + 1) }

/-- The route leads from the task's stage, and its consumer has the rank. -/
def routeOk (s : State) (k : Task) (r : RouteRec) (rank : Nat) : Bool :=
  decide (r.srcPipeline = k.pipeline) && decide (r.srcStage = k.stage) &&
  (match s.img.image with
   | some i => i.pipelines.any (fun p => decide (p.num = r.dstPipeline) &&
       decide (rank < max 1 ((p.stages.map (·.tilesPerSlot)).getD r.dstStage 0)))
   | none => false)

/-- A SEND with a credit in hand. -/
def sendNow (s : State) (t : Nat) (x : Tile) (k : Task) (w : WaitingSend) : State :=
  postToken s t k w.route w.rank (bufRead s t x k w.src 0 w.bytes)

/-- SEND: one credit, at most CREDIT_BYTES, one token; a SEND that finds no credit waits for one (R116). -/
def execSend (t bytes route rank : Nat) (b : Bufs) (s : State) : Res :=
  match routeAt s route with
  | none => malformed "route"
  | some r =>
    onTask s t fun x k =>
      if routeOk s k r rank = false ∨ r.creditBytes < bytes then malformed "route"
      else
        let w : WaitingSend := { bytes := bytes, route := route, rank := rank, src := b.src0 }
        if creditsLeft s t route = 0 then .next (setTask s t (fun k => { k with waiting := some w }))
        else .next (advance (sendNow s t x k w) t)

/-- SEND_AFTER_CREDIT: a SEND that found no credit proceeds once one is usable (R116, R118). -/
def execSendAfterCredit (t : Nat) (s : State) : Res :=
  if 640 ≤ t then malformed "tile"
  else
    let x := tileAt s t
    match x.task with
    | none => .next s
    | some k =>
      match k.waiting with
      | none => .next s
      | some w =>
        if x.run ≠ .running ∨ creditsLeft s t w.route = 0 then .next s
        else .next (advance (setTask (sendNow s t x k w) t (fun k => { k with waiting := none })) t)

/-- Bytes of a row kept for a later step: row number, rank, row (log entry 20). -/
def keptRow (row rank : Nat) (data : List Byte) : List Byte := toLE 8 row ++ toLE 4 rank ++ zeros 4 ++ data

/-- Rows sent in order while the route has credits; the others are kept (R114). -/
def routeEach (s : State) (t : Nat) (k : Task) (route : Nat) : List (Nat × Nat × List Byte) →
    State × List (Nat × Nat × List Byte)
  | [] => (s, [])
  | (row, rank, data) :: rest =>
    if creditsLeft s t route = 0 then
      let r := routeEach s t k route rest
      (r.1, (row, rank, data) :: r.2)
    else routeEach (postToken s t k route rank (toLE 8 row ++ data)) t k route rest

/-- Consumer rank that an entry of SRC1 names (R114); of one that names no rank of the slot the spec says nothing, so the
rank is free (log entry 80). -/
def rowRank (s : State) (route : Nat) (r : RouteRec) (entry : Nat) : Nat :=
  let n := max 1 (tilesPerSlot s r.dstPipeline r.dstStage)
  if entry < n then entry else Config.rowRank route entry % n

/-- ROUTE_ROWS (R114): in the first step of a stage the rows of SRC0 go to the ranks that SRC1 names; in a later step the
rows kept in SRC2 go. What still finds no credit is kept (log entry 20). -/
def execRouteRows (t route rowBytes rows : Nat) (b : Bufs) (s : State) : Res :=
  match routeAt s route with
  | none => malformed "route"
  | some r =>
    onTask s t fun x k =>
      let list : List (Nat × Nat × List Byte) :=
        if k.step = 0 then
          let ranks := unpackWords 4 rows (bufRead s t x k b.src1 0 (4 * rows))
          (List.range rows).map (fun i => (i, rowRank s route r (ranks.getD i 0), bufRead s t x k b.src0 (i * rowBytes) rowBytes))
        else
          (List.range (leNat (bufRead s t x k b.src2 0 4))).map (fun i =>
            let rec_ := bufRead s t x k b.src2 (8 + i * (16 + rowBytes)) (16 + rowBytes)
            (fieldLE rec_ 0 8, rowRank s route r (fieldLE rec_ 8 4), rec_.drop 16))
      if routeOk s k r 0 = false ∨ r.creditBytes < 8 + rowBytes then malformed "route"
      else if creditsLeft s t route < list.length ∧ bufKind s k b.src2 ≠ 1 then malformed "SRC2"
      else
        let q := routeEach s t k route list
        let s := if bufKind s k b.src2 = 1 then
            bufWrite q.1 t k b.src2 0 (toLE 4 q.2.length ++ zeros 4 ++ q.2.flatMap (fun r => keptRow r.1 r.2.1 r.2.2))
          else q.1
        .next (advance s t)

/-! ### Loops, exits, results -/

/-- LOOP (R111, R113). -/
def execLoop (t trip : Nat) (s : State) : Res :=
  if trip = 0 ∨ 16777216 < trip then malformed "TRIP"
  else
    onTask s t fun _ k =>
      if 4 ≤ k.loops.length then .next s
      else .next (setTask s t (fun k => { k with pos := k.pos + 1, loops := (k.pos + 1, trip) :: k.loops }))

/-- END_LOOP ends the innermost LOOP: its body repeats, or the program goes on after it (R111). -/
def execEndLoop (t : Nat) (s : State) : Res :=
  onTask s t fun _ k =>
    match k.loops with
    | [] => .next s
    | (body, left) :: rest =>
      if 1 < left then .next (setTask s t (fun k => { k with pos := body, loops := (body, left - 1) :: rest }))
      else .next (setTask s t (fun k => { k with pos := k.pos + 1, loops := rest }))

/-- Position after the END_LOOP that matches the innermost LOOP, from a position in its body. -/
def afterLoop : List OpRec → Nat → Nat → Nat
  | [], _, pos => pos
  | o :: os, depth, pos =>
    if o.op = 0x0D then afterLoop os (depth + 1) (pos + 1)
    else if o.op = 0x0E then (if depth = 0 then pos + 1 else afterLoop os (depth - 1) (pos + 1))
    else afterLoop os depth (pos + 1)

/-- The scalar test of EXIT_IF (R113). -/
def exitTest (test : Nat) (x y : FNum) : Bool :=
  match test with
  | 0 => ltNum y x
  | 1 => ltNum x y
  | 2 => eqNum x y
  | _ => !(eqNum x y)

/-- A task completes (R135): what it has made is published at the boundary that ends its frame. -/
def taskDone (s : State) (t : Nat) : State :=
  let s := setTask s t (fun k => { k with complete := true })
  let x := tileAt s t
  bump (setTile s t { x with run := .idle, passes := [] }) (.tile t) 0x20 1

/-- Nothing of a task is still under way: no SEND or STREAM_WAIT waits, no pass is in flight, and every stream with
LAND_FRAMES 0 is complete (R102, R116, R128). -/
def taskSettled (x : Tile) (k : Task) : Bool :=
  x.passes.isEmpty && k.waiting.isNone && k.waitStream.isNone &&
  x.streams.all (fun r => r.done || decide (0 < r.desc.landFrames))

/-- EXIT_IF (R113). SCOPE 1 ends the task: at once, or with the program at its end once what is still under way has
completed. -/
def execExitIf (t test fmt scope : Nat) (threshold : Word) (b : Bufs) (s : State) : Res :=
  if 3 < test ∨ 1 < scope ∨ fmtWidth fmt = 0 then malformed "parameters"
  else
    onTask s t fun x k =>
      let w := fmtWidth fmt
      let v := numOf fmt ((elems w 1 (bufRead s t x k b.src0 0 (elemBytes w 1))).getD 0 0)
      if exitTest test v (numOf fmt (threshold.toNat % 2 ^ w)) = false then .next (advance s t)
      else if scope = 1 then
        if taskSettled x k then .next (taskDone s t)
        else .next (setTask s t (fun k => { k with pos := (((programOf s k).map (·.ops.length)).getD (k.pos + 1)), loops := [] }))
      else
        match k.loops with
        | [] => .next s
        | _ :: rest =>
          let pos := match programOf s k with
            | some p => afterLoop (p.ops.drop (k.pos + 1)) 0 (k.pos + 1)
            | none => k.pos + 1
          .next (setTask s t (fun k => { k with pos := pos, loops := rest }))

/-- EMIT: a result fragment, published with the task (R111, R135). -/
def execEmit (t bytes : Nat) (b : Bufs) (s : State) : Res :=
  onTask s t fun x k =>
    let data := bufRead s t x k b.src0 0 bytes
    .next (advance (setTask s t (fun k => { k with frags := k.frags ++ [data] })) t)

/-- TASK_COMPLETE (R135). -/
def execTaskComplete (t : Nat) (s : State) : Res :=
  onTask s t fun x k => if taskSettled x k ∧ k.loops = [] then .next (taskDone s t) else .next s

/-! ### Context switch -/

/-- Scale register words of a tile that are not 0 (R84). -/
def scaleWords (s : State) (t : Nat) : Table Word :=
  (List.range 2048).foldr (fun i acc =>
    let v := reg s (.scale t) (0x4000 + 8 * i)
    if v = 0 then acc else (8 * i, v) :: acc) []

/-- The scale registers of a tile set to a saved state's. -/
def putScales (s : State) (t : Nat) (l : Table Word) : State :=
  let lo := regAddr (.scale t) 0x4000
  let s := { s with regs := s.regs.filter (fun e => decide (e.1 < lo) || decide (lo + 16384 ≤ e.1)) }
  l.foldl (fun s e => setReg s (.scale t) (0x4000 + e.1) e.2) s

/-- A context switch begins: the tile saves the outgoing occupant's state and overwrites its own (R138 steps 1 and 2). -/
def beginSwitch (s : State) (t c ready : Nat) : State :=
  let x := tileAt s t
  let s := match x.occupant with
    | some old => { s with tier := { s.tier with
        saves := tset s.tier.saves (old * 640 + t) { sram := x.sram, vregs := x.vregs, scales := scaleWords s t } } }
    | none => s
  let s := putScales s t []
  let s := setTile s t { x with run := .switching, task := none, sram := [], vregs := [], streams := [], passes := [],
                                occupant := none, switch := some (c, ready) }
  bump s (.spire (tileSpire t)) 0x28 1

/-- CONTEXT_SWITCH_COMPLETE: the tile restores the incoming occupant's state, if it has a saved one, and has it as its
occupant; it serves it from the frame that R33 counts (R138 step 3). -/
def execContextSwitchComplete (t : Nat) (s : State) : Res :=
  if 640 ≤ t then malformed "tile"
  else
    let x := tileAt s t
    match x.switch with
    | none => .next s
    | some (c, _) =>
      if x.run ≠ .switching then .next s
      else
        let key := c * 640 + t
        let save := (tget s.tier.saves key).getD { sram := [], vregs := [], scales := [] }
        let s := { s with tier := { s.tier with saves := tdel s.tier.saves key } }
        let s := putScales s t save.scales
        .next (setFlag (setTile s t { x with run := .idle, occupant := some c, sram := save.sram, vregs := save.vregs })
          (.tile t) 0x08 3)

end Sys2Proof.Machine
end

