-- ==== Sys2Proof/Machine/Tokens.lean ====
section
/-! DEFINITION. How tasks come to run and how their outputs travel (chapter 05): stages and slots, delivery of tokens, the
start of a task on a tile, publication at the boundary that ends a task's frame, and Elastic dispatch. -/

namespace Sys2Proof.Machine

/-! ### Stages and slots -/

/-- The stage is the pipeline's scan stage (R164). -/
def isScanStage (s : State) (p j : Nat) : Bool :=
  match pipeOf s p with
  | some q => decide (q.scanStage = j) && decide (j < q.stages.length)
  | none => false

/-- The stage is a text stage (R227). -/
def isTextStage (s : State) (p j : Nat) : Bool :=
  (stageOf s p j).isSome && decide (tilesPerSlot s p j = 0) && !(isScanStage s p j)

/-- The serving stage of a pipeline. -/
def servingStage (s : State) (p : Nat) : Option Nat :=
  match pipeOf s p with
  | some q => leastBelow (fun j => (servingRec s p j).isSome) q.stages.length
  | none => none

/-- The companion of a pipeline's serving stage: the stage whose OFFSET is one greater (R234). -/
def companionOf (s : State) (p : Nat) : Option Nat :=
  match pipeOf s p, servingStage s p with
  | some q, some j =>
    let o := ((q.stages[j]?).map (·.offset)).getD 0
    leastBelow (fun i => decide (((q.stages[i]?).map (·.offset)).getD 0 = o + 1)) q.stages.length
  | _, _ => none

/-- Frames that a stage lasts for a request: d of R237 in a serving stage and its companion, DURATION elsewhere. -/
def stageFrames (s : State) (r : Request) (j : Nat) : Nat :=
  if r.gen.isSome ∧ (servingStage s r.pipeline = some j ∨ companionOf s r.pipeline = some j) then r.servFrames
  else ((stageOf s r.pipeline j).map (·.duration)).getD 0

/-- The roles of one slot of a stage, in ascending tile of the image: rank k is position k (R116). -/
def slotRoles (s : State) (p j slot : Nat) : List TileRec :=
  match s.img.image with
  | some i =>
    sortBy (fun a b => decide (a.tile ≤ b.tile)) (i.tiles.filter (fun r =>
      decide (r.role = .bound) && decide (r.pipeline = p) && decide (r.stage = j) && decide (r.slot = slot)))
  | none => []

/-- The program that a task of a rank runs where it is dispatched first-free (R55): the stage's own, or for an Elastic request
in a stage placed statically the program of that rank's BOUND tile (R32, R235; log entry 78). -/
def rankProgram (s : State) (p j rank : Nat) : Nat :=
  let own := ((stageOf s p j).map (·.program)).getD 0xFFFFFFFF
  if own ≠ 0xFFFFFFFF then own
  else
    match s.img.image with
    | none => own
    | some i =>
      let slot := ((asSet ((i.tiles.filter (fun r => decide (r.role = .bound) && decide (r.pipeline = p) &&
        decide (r.stage = j))).map (·.slot))).head?).getD 0xFF
      (((slotRoles s p j slot)[rank]?).map (·.program)).getD own

/-- The tile that serves a role now, if one does (R54). -/
def tileServing (s : State) (r : TileRec) : Option Nat :=
  (s.tiles.find? (fun p => decide (p.2.serves = some r))).map (·.1)

/-- The tile of a rank of a slot. -/
def slotTile (s : State) (p j slot rank : Nat) : Option Nat := ((slotRoles s p j slot)[rank]?).bind (tileServing s)

/-- Rank of a role in its slot. -/
def roleRank (s : State) (r : TileRec) : Nat := (slotRoles s r.pipeline r.stage r.slot).idxOf r

/-- The planned frames of a stage of a request that hold frame `n`: the step of frame `n`. -/
def planStep (r : Request) (j n : Nat) : Option Nat :=
  (r.plan.find? (fun g => decide (g.stage = j) && decide (g.first ≤ n) && decide (n < g.first + g.frames))).map
    (fun g => g.step0 + (n - g.first))

/-- A request that still runs. -/
def alive (r : Request) : Bool := decide (r.state ≠ .ending) && r.sentFrame.isNone && r.produced.isNone

/-- The graph stage of a search of a graph index: the stage after the first (log entry 21). -/
def graphStage : Nat := 1

/-- Mode of an index image in service: 0 scan, 1 graph (R160). -/
def indexMode (s : State) (ref : Nat) : Option Nat :=
  match s.img.image, tget s.img.loaded ref with
  | some i, some l =>
    if i.refs.any (fun q => decide (q.kind = 2) && decide (q.ref = ref)) then some (fieldLE (loadedBytes s l 0 128) 6 1)
    else none
  | _, _ => none

/-- The request searches a graph index. -/
def isGraph (s : State) (r : Request) : Bool :=
  match r.search with
  | some b => decide (indexMode s b.indexRef = some 1)
  | none => false

/-- The search stage of a request: its pipeline's scan stage, or the graph stage. -/
def searchStage (s : State) (r : Request) : Option Nat :=
  match r.search, pipeOf s r.pipeline with
  | some _, some q => if isGraph s r then some graphStage else if q.scanStage < q.stages.length then some q.scanStage else none
  | _, _ => none

/-! ### Delivery -/

/-- A token in a consumer tile's inbox. -/
def toInbox (s : State) (t : Nat) (k : Token) : State :=
  let x := tileAt s t
  touch (setTile s t { x with inbox := x.inbox ++ [k] }) t k.entry

/-- A posted token reaches its consumer at the boundary from which it is visible (R118): a sketch reaches the query tables
(R167), data for a text stage or for Elastic staging reach the Dome (R123, R228), any other token its tile. -/
def deliver_ (s : State) (k : Token) : State :=
  match routeAt s k.route, reqAt s k.entry with
  | some r, some q =>
    if alive q = false then giveBack s [k]
    else if searchStage s q = some r.dstStage ∧ r.dstPipeline = q.pipeline then
      let s := updReq s k.entry (fun q => { q with sketch := some k.data })
      if isScanStage s r.dstPipeline r.dstStage then giveBack s [k] else toTile s k r q
    else if isTextStage s r.dstPipeline r.dstStage then { s with dome := s.dome ++ [k] }
    else toTile s k r q
  | _, _ => giveBack s [k]
where
  toTile (s : State) (k : Token) (r : RouteRec) (q : Request) : State :=
    if floats s q.elastic r.dstPipeline r.dstStage then { s with dome := s.dome ++ [k] }
    else
      let slot := if r.dstSlot = 0xFF then q.slots.getD r.dstStage 0xFF else r.dstSlot
      match slotTile s r.dstPipeline r.dstStage slot k.dstRank with
      | some t => toInbox s t k
      | none => giveBack s [k]

/-- Index of a route into a stage from a stage, for the Dome's own tokens (R180, R229). -/
def routeBetween (s : State) (p src dst : Nat) : Option Nat :=
  match s.img.image with
  | some i => leastBelow (fun n =>
      match i.routes[n]? with
      | some r => decide (r.srcPipeline = p) && decide (r.srcStage = src) && decide (r.dstPipeline = p) &&
          decide (r.dstStage = dst)
      | none => false) i.routes.length
  | none => none

/-- A token that the Dome posts for a request, as the last of its route to a rank. -/
def domeToken (s : State) (e : Nat) (q : Request) (route rank : Nat) (data : List Byte) : Token :=
  { entry := e, ctx := q.ctx, route := route, buffer := 0, bytes := data.length, start := q.start, visible := now s,
    seed := false, last := true, elastic := q.elastic, slotMap := q.slots, srcTile := 640, srcRank := 0, dstRank := rank,
    data := data }

/-! ### Inputs of a task -/

/-- Producer ranks of a route (R109). -/
def producers (s : State) (r : RouteRec) : Nat := max 1 (tilesPerSlot s r.srcPipeline r.srcStage)

/-- Routes into a stage's slot on a channel, by index. -/
def routesInto (s : State) (p j slot channel : Nat) : List (Nat × RouteRec) :=
  match s.img.image with
  | some i =>
    ((List.range i.routes.length).zip i.routes).filter (fun r =>
      decide (r.2.dstPipeline = p) && decide (r.2.dstStage = j) && decide (r.2.channel = channel) &&
      (decide (r.2.dstSlot = 0xFF) || decide (r.2.dstSlot = slot)))
  | none => []

/-- Program of an image. -/
def progOf (s : State) (n : Nat) : Option ProgramRec :=
  match s.img.image with
  | some i => i.programs.find? (fun p => decide (p.num = n))
  | none => none

/-- INPUT channels of a program. -/
def inputChannels (p : ProgramRec) : List Nat := (p.bufs.filter (fun b => decide (b.kind = 2))).map (·.channel)

/-- Every token that step 0 needs is there: the LAST token of every producer rank on every INPUT channel, and the SEED in
channel 0 of the first stage (R120, R121). -/
def inputsReady (s : State) (toks : List Token) (e p j slot rank program : Nat) : Bool :=
  let have_ := toks.filter (fun k => decide (k.entry = e) && decide (k.dstRank = rank) && decide (k.visible ≤ now s))
  match progOf s program with
  | none => false
  | some g =>
    (decide (j ≠ 0) || have_.any (·.seed)) &&
    (inputChannels g).all (fun c => (routesInto s p j slot c).all (fun r =>
      (List.range (producers s r.2)).all (fun a =>
        have_.any (fun k => !k.seed && decide (k.route = r.1) && decide (k.srcRank = a) && k.last))))

/-- Offset of a route's credit buffers in its channel's INPUT buffer: routes in ascending index, then producer ranks, then
buffers (log entry 22). -/
def inputOffset (s : State) (l : List (Nat × RouteRec)) (route srcRank buffer : Nat) : Nat :=
  let before := l.takeWhile (fun r => decide (r.1 ≠ route))
  let own := match l.find? (fun r => decide (r.1 = route)) with
    | some r => r.2.creditBytes * (srcRank * r.2.credits + buffer)
    | none => 0
  sumBy (fun r => producers s r.2 * r.2.credits * r.2.creditBytes) before + own

/-- The tokens of a task's inputs written to its INPUT buffers. -/
def placeInputs (s : State) (sram : Table Byte) (toks : List Token) (e p j slot rank : Nat) (g : ProgramRec) : Table Byte :=
  ((List.range g.bufs.length).zip g.bufs).foldl (fun m b =>
    if b.2.kind ≠ 2 then m
    else
      let l := routesInto s p j slot b.2.channel
      (toks.filter (fun k => decide (k.entry = e) && decide (k.dstRank = rank))).foldl (fun m k =>
        if k.seed then (if b.2.channel = 0 then sramWrite m (bufKey e false b.1 0) k.data else m)
        else if l.any (fun r => decide (r.1 = k.route)) then
          sramWrite m (bufKey e false b.1 (inputOffset s l k.route k.srcRank k.buffer)) k.data
        else m) m) sram

/-- A task starts on a tile (R107, R108): SCRATCH is undefined, and step 0 finds its inputs and nothing else. -/
def startTask (s : State) (t e : Nat) (q : Request) (j step rank program : Nat) (toks : List Token) : State :=
  let x := tileAt s t
  match progOf s program with
  | none => s
  | some g =>
    let sram :=
      if step = 0 then
        placeInputs s (clearSram x.sram e (fun _ => true)) toks e q.pipeline j (q.slots.getD j 0xFF) rank g
      else clearSram x.sram e (fun b => decide (((g.bufs[b]?).map (·.kind)).getD 0 = 0))
    let k : Task :=
      { entry := e, ctx := q.ctx, pipeline := q.pipeline, rank := rank, program := program, stage := j, step := step,
        frame := now s, elastic := q.elastic, pos := 0, loops := [], complete := false, tokens := [], frags := [],
        deltas := [], waiting := none, waitStream := none }
    touch (setTile s t { x with sram := sram, run := .running, task := some k, passes := [], program := program }) t e

/-! ### Bound tasks -/

/-- The request that holds a role's slot in the current frame, with its step (R121). -/
def slotHolder (s : State) (r : TileRec) : Option (Nat × Request × Nat) :=
  (s.reqs.find? (fun p => alive p.2 && decide (p.2.state ≠ .pending) && decide (p.2.pipeline = r.pipeline) &&
    decide (p.2.slots.getD r.stage 0xFF = r.slot) && (planStep p.2 r.stage (now s)).isSome)).map
    (fun p => (p.1, p.2, (planStep p.2 r.stage (now s)).getD 0))

/-- A Bound tile that lacks an input does not start its task (R121). -/
def inputMissing (s : State) (t e : Nat) (q : Request) (why : Nat) : State :=
  missed (stall (bump (setFlag s (.tile t) 0x08 4) (.tile t) 0x30 1) why q.ctx t e) e

/-- The task that a BOUND tile would start in this frame: entry, request, step and role (R121). -/
def boundTask (s : State) (t : Nat) : Option (Nat × Request × Nat × TileRec) :=
  let x := tileAt s t
  match x.serves with
  | none => none
  | some r =>
    if x.inService = false ∨ enabled s (.tile t) = false ∨ (servingRec s r.pipeline r.stage).isSome then none
    else (slotHolder s r).map (fun h => (h.1, h.2.1, h.2.2, r))

/-- What the task of a BOUND tile lacks: a route's LAST token or a landing, by its stall cause, with the landing (R121). -/
def boundLacks (s : State) (t : Nat) : Option (Nat × Option StreamRun) :=
  match boundTask s t with
  | none => none
  | some (e, _, step, r) =>
    let x := tileAt s t
    if step = 0 ∧ inputsReady s x.inbox e r.pipeline r.stage r.slot (roleRank s r) r.program = false then some (1, none)
    else (landingLate s x e).map (fun q => (lateCause q, some q))

/-- A tile lacks a landing of an entry: its read is counted where it is the pool's, and the request misses its input. -/
def landingMissing (s : State) (t e : Nat) (q : Request) (r : StreamRun) : State :=
  inputMissing (countLate s t r) t e q (lateCause r)

/-- One BOUND tile at a boundary: it starts its task, or lacks an input; `s0` is the state in which every tile takes its
decision (R121). -/
def boundTile (s0 s : State) (t : Nat) : State :=
  match boundTask s0 t with
  | none => s
  | some (e, q, step, r) =>
    match boundLacks s0 t with
    | some (why, none) => inputMissing s t e q why
    | some (_, some run) => landingMissing s t e q run
    | none =>
      if (reqAt s e).any alive then startTask s t e q r.stage step (roleRank s r) r.program (tileAt s t).inbox else s

/-- Every BOUND tile takes its decision, in ascending tile (R121). -/
def startBound (s : State) : State :=
  ((s.tiles.filter (fun p => p.2.serves.isSome)).map (·.1)).foldl (boundTile s) s

/-- The roles of a request's stages in this frame have a tile each; a role that no spare took breaches the request
(R54). -/
def missingRole (s : State) (q : Request) : Bool :=
  q.plan.any (fun g => decide (g.first ≤ now s) && decide (now s < g.first + g.frames) &&
    !(floats s q.elastic q.pipeline g.stage) &&
    (slotRoles s q.pipeline g.stage (q.slots.getD g.stage 0xFF)).any (fun r => (tileServing s r).isNone))

/-- Requests whose slot has lost a tile for good breach (R54). -/
def breachLost (s : State) : State :=
  ((s.reqs.filter (fun p => alive p.2 && decide (p.2.state ≠ .pending))).map (·.1)).foldl (fun s e =>
    match reqAt s e with
    | some q => if alive q ∧ missingRole s q then missed s e else s
    | none => s) s

/-! ### Publication -/

/-- The last token of a task on each route to each rank carries LAST (R117, log entry 23). -/
def markLast : List Token → List Token
  | [] => []
  | k :: ks =>
    (if ks.any (fun j => decide (j.route = k.route) && decide (j.dstRank = k.dstRank)) then k else { k with last := true }) ::
      markLast ks

/-- Deltas of a task numbered from FTAB_SEQ (R206). -/
def numberDeltas (seq : Nat) (l : List DeltaRec) : List DeltaRec :=
  ((List.range l.length).zip l).map (fun q => { q.2 with seq := seq + q.1 })

/-- A message to the home of a delta: one DELTA message for each delta (R206, R345). A home without a session to it loses
the delta. -/
def sendDelta (s : State) (d : DeltaRec) : State :=
  match peerNeighbour s ((ftabOf s d.table).home d.row) with
  | none => s
  | some i =>
    match neighbourEndpoint s i with
    | none => s
    | some ep =>
      let s := { s with feat := { s.feat with unacked := s.feat.unacked ++ [(ep, d)] } }
      match mineTo s ep with
      | some n =>
        match sessAt s n with
        | some x => sendMsg s n (x.firstMsgq + 1) 0x40 0 (toLE 4 1 ++ zeros 4 ++ deltaWire d)
        | none => s
      | none => loseDeltas s ep

/-- The deltas of a task published: those homed here enter the delta area, the others leave (R206, R207). -/
def publishDeltas (s : State) (l : List DeltaRec) : State :=
  let ds := numberDeltas s.feat.seq l
  let s := { s with feat := { s.feat with seq := s.feat.seq + l.length } }
  ds.foldl (fun s d => if (ftabOf s d.table).home d.row = deviceId s then acceptDelta s d else sendDelta s d) s

/-- The delta area cannot take a task's local deltas (R206). -/
def deltasFull (s : State) (k : Task) : Bool :=
  decide (deltaRoom s < sumBy deltaSize (k.deltas.filter (fun d => decide ((ftabOf s d.table).home d.row = deviceId s))))

/-- Tokens that a task consumed: step 0 reads every token of its request in the tile, or in the staging area (R118). -/
def consumed (s : State) (t : Nat) (k : Task) : List Token :=
  if k.step ≠ 0 then []
  else ((tileAt s t).inbox ++ s.dome).filter (fun j => decide (j.entry = k.entry) && decide (j.dstRank = k.rank) &&
    (match routeAt s j.route with
     | some r => j.seed || (decide (r.dstPipeline = k.pipeline) && decide (r.dstStage = k.stage))
     | none => j.seed))

/-- A credit is usable again (R118). -/
def freeCredit (s : State) (t route : Nat) : State :=
  let x := tileAt s t
  setTile s t { x with spent := tsetD x.spent route (tgetD x.spent route 0 - 1) 0 }

/-- A task leaves its tile at the boundary: SCRATCH and INPUT are cleared, and after the last step all of its request's
data (R122, R135). -/
def leaveTile (s : State) (t : Nat) (k : Task) (lastStep : Bool) : State :=
  let x := tileAt s t
  let scratch (b : Nat) : Bool := lastStep || taskOnly s k b
  setTile s t { x with task := none, run := .idle, passes := [], sram := clearSram x.sram k.entry scratch,
                       streams := x.streams.filter (fun r => decide (r.entry ≠ k.entry) ||
                         (!lastStep && decide (0 < r.desc.landFrames) && (!r.done || decide (now s ≤ r.frame + r.desc.landFrames)))) }

/-- The outputs of a completed task are published (R135); the task of a request that has ended publishes nothing (R388). -/
def publishTask (s : State) (t : Nat) (k : Task) : State :=
  match (reqAt s k.entry).filter (fun q => !ended q) with
  | none => giveBack (leaveTile s t k true) k.tokens
  | some q =>
    if deltasFull s k then
      abortTask (setFlag s .tier 0x8010 0) t 5 0 11
    else
      let frames := stageFrames s q k.stage
      let serving := (servingRec s k.pipeline k.stage).isSome
      let used := consumed s t k
      let s := leaveTile s t k (decide (frames ≤ k.step + 1))
      let x := tileAt s t
      let s := setTile s t { x with inbox := x.inbox.filter (fun j => !(used.contains j)) }
      let s := { s with dome := s.dome.filter (fun j => !(used.contains j)) }
      let s := (used.filter (fun j => !j.seed && decide (j.srcTile < 640))).foldl (fun s j =>
        freeCredit s j.srcTile j.route) s
      let s := { s with hold := s.hold ++ k.frags.map (fun b =>
        ({ entry := k.entry, bytes := b, frame := k.frame } : Fragment)) }
      let s := publishDeltas s k.deltas
      let s := (markLast k.tokens).foldl (fun s j => deliver_ s { j with visible := now s }) s
      if serving then s
      else
        let s := updReq s k.entry (fun q => { q with
          steps := tset q.steps (k.stage * 65536 + k.rank) (k.step + 1) })
        if k.step + 1 < frames ∧ floats s k.elastic k.pipeline k.stage then
          queueTask s (tileSpire t) { entry := k.entry, ctx := k.ctx, rank := k.rank, stage := k.stage, step := k.step + 1,
                                      prio := q.prio, promised := q.promised, visible := now s, cont := some t }
        else s

/-- The outputs of every completed task, in ascending tile (R135, R206). -/
def publishAll (s : State) : State :=
  (s.tiles.map (·.1)).foldl (fun s t =>
    match (tileAt s t).task with
    | some k => if k.complete ∧ k.frame < now s then publishTask s t k else s
    | none => s) s

/-- Credits of aborted tasks and dropped tokens come back (R118). -/
def returnCredits (s : State) : State :=
  (s.tiles.map (·.1)).foldl (fun s t =>
    let x := tileAt s t
    let due := x.returns.filter (fun r => decide (r.2 ≤ now s))
    let s := setTile s t { x with returns := x.returns.filter (fun r => decide (now s < r.2)) }
    due.foldl (fun s r => freeCredit s t r.1) s) s

/-! ### Overruns -/

/-- A context leaves OPEN at this boundary: a close was ordered, or an orphan is a second old and has no entry in the
request table (R356, R357). -/
def leavesOpen (s : State) (c : Nat) : Bool :=
  match ctxAt s c with
  | some x => decide (x.state = .opened) &&
      (x.closing || (x.owner.isNone && x.aged && s.reqs.all (fun r => decide (r.2.ctx ≠ c))))
  | none => false

/-- A task still running at the boundary that ends its frame (R31, R137, R382): a Bound one is a failure of its tile; an
Elastic one is aborted and queued again, and its request replanned. A task of a context that enters SLATE at this boundary
is left to its scrub (R136), and one on a tile out of service, or of a request that has ended, only leaves. -/
def overrun (s : State) (t : Nat) : State :=
  let x := tileAt s t
  match x.task with
  | none => s
  | some k =>
    if k.complete ∨ now s ≤ k.frame ∨ (k.elastic ∧ leavesOpen s k.ctx) then s
    else if x.inService = false ∨ (reqAt s k.entry).all ended then giveBack (leaveTile s t k true) k.tokens
    else if floats s k.elastic k.pipeline k.stage then
      abortTask (setFlag s .frame 0x30 5) t 6 0 0
    else detectTile (setFlag s .frame 0x30 6) 0x0B t 0

/-- Every overrun of the frame that ended, in ascending tile. -/
def overruns (s : State) : State := (s.tiles.map (·.1)).foldl overrun s

/-! ### Elastic dispatch -/

/-- An ELASTIC tile that is in service and not in a context switch (R123). -/
def elasticUp (s : State) (t : Nat) (x : Tile) : Bool :=
  decide (x.role = .elastic) && x.inService && x.switch.isNone && decide (x.run ≠ .switching) && enabled s (.tile t)

/-- A tile that counts as free for a task of a context, and has not been given a task for this frame (R107, R123). -/
def freeFor (s : State) (c t : Nat) : Bool :=
  let x := tileAt s t
  elasticUp s t x && (decide (x.occupant = none) || decide (x.occupant = some c)) && x.task.isNone

/-- The first free tile of a Spire for a context, in ascending index. -/
def freeTile (s : State) (c p : Nat) : Option Nat := (leastBelow (fun i => freeFor s c (80 * p + i)) 80).map (80 * p + ·)

/-- Free ELASTIC tiles of a Spire for a context. -/
def freeCount (s : State) (c p : Nat) : Nat := ((List.range 80).filter (fun i => freeFor s c (80 * p + i))).length

/-- The Spire with the most free ELASTIC tiles, the lowest on ties (R123). -/
def fullestSpire (s : State) (c : Nat) : Nat :=
  (List.range 8).foldl (fun best p => if freeCount s c best < freeCount s c p then p else best) 0

/-- A task of a stage and rank is queued or on a tile. -/
def underWay (s : State) (e j rank : Nat) : Bool :=
  s.spires.any (fun p => p.2.queue.any (fun q => decide (q.entry = e) && decide (q.stage = j) && decide (q.rank = rank))) ||
  s.tiles.any (fun p => p.2.task.toList.any (fun k => decide (k.entry = e) && decide (k.stage = j) && decide (k.rank = rank)))

/-- The Spire whose queue a step 0 joins: that of the producer tile whose token made it runnable, or the Spire with the
most free tiles for a first stage or a producer in the Dome (R123). -/
def queueSpire (s : State) (e j rank : Nat) (c : Nat) : Nat :=
  let toks := s.dome.filter (fun k => decide (k.entry = e) && decide (k.dstRank = rank) && !k.seed && decide (k.srcTile < 640) &&
    (match routeAt s k.route with
     | some r => decide (r.dstStage = j)
     | none => false))
  match toks.getLast? with
  | some k => tileSpire k.srcTile
  | none => fullestSpire s c

/-- The steps 0 of a request's Elastic stages that have become runnable join a queue (R123). -/
def enqueueReady (s : State) (e : Nat) : State :=
  match reqAt s e with
  | none => s
  | some q =>
    match pipeOf s q.pipeline with
    | none => s
    | some p =>
      if q.elastic = false ∨ alive q = false ∨ q.state = .pending ∨ now s < q.start then s
      else
        (List.range p.stages.length).foldl (fun s j =>
          match p.stages[j]? with
          | none => s
          | some g =>
            (List.range g.tilesPerSlot).foldl (fun s rank =>
              if floats s q.elastic q.pipeline j ∧ stepsAt q j rank = 0 ∧ underWay s e j rank = false ∧
                  inputsReady s s.dome e q.pipeline j 0xFF rank (rankProgram s q.pipeline j rank) then
                queueTask s (queueSpire s e j rank q.ctx) { entry := e, ctx := q.ctx, rank := rank, stage := j, step := 0,
                                                            prio := q.prio, promised := q.promised, visible := now s, cont := none }
              else s) s) s

/-- The order in which a Spire takes its tasks (R123). -/
def taskBefore (a b : QTask) : Bool :=
  decide (b.prio < a.prio) || (decide (a.prio = b.prio) && (decide (a.promised < b.promised) ||
    (decide (a.promised = b.promised) && decide (a.entry ≤ b.entry))))

/-- A program leaves data in its tile between tasks: PERSIST or LANDING buffers, persistent vector registers or T0 data
(R109, R122). -/
def leavesData (s : State) (q : Request) (j program : Nat) : Bool :=
  (match progOf s program with
   | some g => decide (0 < g.vregPersist) || g.bufs.any (fun b => decide (b.kind % 2 = 1))
   | none => false) || decide (0 < ((stageOf s q.pipeline j).map (·.t0Kib)).getD 0)

/-- A task placed on a tile (R122, R123). -/
def placeTask (s : State) (p t : Nat) (k : QTask) (q : Request) (program : Nat) : State :=
  let x := tileAt s t
  let occ := if leavesData s q k.stage program then some k.ctx else x.occupant
  let s := setTile s t { x with occupant := occ }
  let s := bump (startTask s t k.entry q k.stage k.step k.rank program s.dome) (.spire (tileSpire t)) 0x18 1
  if tileSpire t ≠ p then setFlag (bump s (.spire p) 0x20 1) (.spire p) 0x08 1 else s

/-- One queued task at a boundary: placed, or kept in the queue with its request replanned (R123). A continuation step whose
tile has left service goes where any other task goes (R43; log entry 77). -/
def dispatchOne (s : State) (p : Nat) (k : QTask) : State :=
  match reqAt s k.entry with
  | none => s
  | some q =>
    if alive q = false then s
    else
      let program := rankProgram s q.pipeline k.stage k.rank
      let tile := match k.cont.filter (fun t => (tileAt s t).inService) with
        | some t => if freeFor s k.ctx t then some t else none
        | none => (List.range 8).findSome? (fun i => freeTile s k.ctx ((p + i) % 8))
      match tile with
      | some t =>
        match landingLate s (tileAt s t) k.entry with
        | some r => queueTask (missed (stall (countLate s t r) (lateCause r) k.ctx t k.entry) k.entry) p k
        | none => placeTask s p t k q program
      | none => queueTask (replan s k.entry) p k

/-- Elastic dispatch at a boundary: each Spire in ascending number takes the tasks of its queue in order (R123). -/
def dispatchAll (s : State) : State :=
  let s := (s.reqs.map (·.1)).foldl enqueueReady s
  let s := (List.range 8).foldl (fun s p =>
    let l := sortBy taskBefore (spireAt s p).queue
    l.foldl (fun s k => dispatchOne s p k) (setSpire s p { spireAt s p with queue := [] })) s
  (List.range 8).foldl (fun s p =>
    let free := ((List.range 80).filter (fun i =>
      elasticUp s (80 * p + i) (tileAt s (80 * p + i)) && (tileAt s (80 * p + i)).task.isNone)).length
    setSpire s p { spireAt s p with free := free }) s

/-! ### Context switches -/

/-- Frames for which a switched tile is unavailable (R33). -/
def switchFrames (s : State) : Nat := ceilDiv 2000 (periodUs s)

/-- The switches that the admission pass of the frame before ordered begin (R124, R138), and the tiles whose switch is over
serve their new occupant. -/
def beginSwitches (s : State) : State :=
  let orders := s.adm.switches.filter (fun o => decide (o.frame ≤ now s))
  let s := { s with adm := { s.adm with switches := s.adm.switches.filter (fun o => decide (now s < o.frame)) } }
  let s := (s.tiles.map (·.1)).foldl (fun s t =>
    let x := tileAt s t
    match x.switch with
    | some (_, f) => if f ≤ now s ∧ x.run ≠ .switching then setTile s t { x with switch := none } else s
    | none => s) s
  orders.foldl (fun s o =>
    let x := tileAt s o.tile
    if elasticUp s o.tile x ∧ x.task.isNone ∧ x.occupant ≠ some o.ctx ∧ x.occupant.isSome then
      beginSwitch s o.tile o.ctx (now s + switchFrames s)
    else s) s

end Sys2Proof.Machine
end

