-- ==== Sys2Proof/Machine/Search.lean ====
section
/-! DEFINITION. Sketch search (chapter 07): index images, their versions and changes, the scan rotation, graph walks, the
shortlist, edge repair, packing and the search result. -/

namespace Sys2Proof.Machine

/-! ### The index image -/

/-- Header of an index image (R160), with the place of its bytes. -/
structure IndexHdr where
  img : LoadedImage
  shape : IndexShape
  slice : Nat
  slices : Nat
  entries : Nat
  vecNs : Nat
  nbBytes : Nat
  nbBase : Nat
  deriving DecidableEq, Repr

/-- A header's fields. -/
def parseIndex (l : LoadedImage) (h : List Byte) : IndexHdr :=
  { img := l, shape := indexShape h, slice := fieldLE h 0x10 4, slices := fieldLE h 0x14 1, entries := fieldLE h 0x1F 1,
    vecNs := fieldLE h 0x1C 1, nbBytes := fieldLE h 0x32 2, nbBase := fieldLE h 0x38 8 }

/-- The index image of a REF in the image in service. -/
def indexAt (s : State) (ref : Nat) : Option IndexHdr :=
  match indexMode s ref, tget s.img.loaded ref with
  | some _, some l => some (parseIndex l (loadedBytes s l 0 128))
  | _, _ => none

/-- Passages of one shard. -/
def IndexHdr.perShard (x : IndexHdr) : Nat := x.slice * x.slices

/-- Bytes of one whole bitmap. -/
def IndexHdr.mapBytes (x : IndexHdr) : Nat := ceilDiv x.shape.slots 8

/-- Offset of a graph index's ENTRY region (R161). -/
def IndexHdr.entryOff (x : IndexHdr) : Nat := 2048 + upGranule (16 * x.shape.slots)

/-- Offset of a graph index's ADJ region. -/
def IndexHdr.adjOff (x : IndexHdr) : Nat := x.entryOff + upGranule (x.entries * (8 + x.shape.sketchBytes))

/-- Offset of a graph index's LIVE region. -/
def IndexHdr.liveOff (x : IndexHdr) : Nat := x.adjOff + upGranule (384 * x.shape.slots)

/-- End of the last region (R161, R462). -/
def IndexHdr.end_ (x : IndexHdr) : Nat :=
  if x.shape.mode = 0 then 2048 + x.shape.shards * shardBytes x.shape + 16 * x.shape.slots
  else x.liveOff + x.shape.filters.length * upGranule x.mapBytes + x.mapBytes

/-- The rules of R160 on a header, and the length of R161 (R462). -/
def indexOk (h : List Byte) (bytes : Nat) : Bool :=
  let x := parseIndex { kind := 2, bytes := bytes, resident := true, ns := 0, base := 0, upto := 0, valid := false,
                        noSpace := false } h
  let scan := decide (x.shape.mode = 0)
  let mask := fieldLE h 0x16 2
  let dim := fieldLE h 0x1A 2
  let vecBase := fieldLE h 0x20 8
  decide (fieldLE h 0 4 = 0x5849535A) && decide (fieldLE h 4 2 = 1) && decide (x.shape.mode ≤ 1) &&
  decide (7 ≤ fieldLE h 7 1) && decide (fieldLE h 7 1 ≤ 10) && decide (x.shape.slots ≤ 2 ^ 40) && decide (mask % 2 = 0) &&
  (if scan then
    decide (x.slice % 2048 = 0) && decide (1 ≤ x.slices) && decide (x.slices ≤ 10) && decide (1 ≤ x.shape.shards) &&
    decide (x.shape.shards ≤ 32) && decide (x.shape.shards * x.perShard = x.shape.slots) && decide (x.entries = 0) &&
    decide (x.nbBytes = 0) && decide (x.nbBase = 0)
  else
    decide (x.slice = 0) && decide (x.slices = 0) && decide (x.shape.shards = 0) && decide (1 ≤ x.entries) &&
    decide (x.entries ≤ 64) && decide (x.nbBytes % 2048 = 0)) &&
  (decide (fieldLE h 0x18 1 = 1) || decide (fieldLE h 0x18 1 = 2)) && decide (32 ≤ dim) && decide (dim ≤ 4096) &&
  (if fieldLE h 0x18 1 = 2 then decide (vecBase / 2 ^ 58 = x.vecNs) else decide (2 ^ 63 ≤ vecBase)) &&
  decide (16 ≤ fieldLE h 0x30 2) && decide (fieldLE h 0x30 2 ≤ 1024) && zeroRange h 0x34 4 && zeroRange h 0x40 64 &&
  decide (x.end_ = bytes)

/-- Offset in the image of byte `b` of the bitmap of filter `f`, where bitmap byte b covers slots 8b to 8b + 7. -/
def IndexHdr.mapOff (x : IndexHdr) (f b : Nat) : Nat :=
  let i := if f = 0 then 0 else 1 + x.shape.filters.idxOf f
  if x.shape.mode = 0 then
    let per := x.perShard / 8
    2048 + b / per * shardBytes x.shape + upGranule (x.perShard * x.shape.sketchBytes) + i * upGranule per + b % per
  else x.liveOff + i * upGranule x.mapBytes + b

/-- Bytes of an index image. -/
def indexRead (s : State) (x : IndexHdr) (off n : Nat) : List Byte := loadedBytes s x.img off n

/-- Bytes of an index image written. -/
def indexWrite (s : State) (x : IndexHdr) (off : Nat) (bs : List Byte) : State :=
  if x.img.resident then { s with tier := { s.tier with t1 := memWrite s.tier.t1 (2 ^ 68 + x.img.base + off) bs } }
  else flashPut s (x.img.ns * 2 ^ 58 + x.img.base + off) bs

/-- A byte of a bitmap as the image holds it. -/
def imageMapByte (s : State) (x : IndexHdr) (f b : Nat) : Byte := (indexRead s x (x.mapOff f b) 1).getD 0 0

/-- A byte of a bitmap in a version that differs from the image by `diff`. -/
def mapByte (s : State) (x : IndexHdr) (diff : Table Byte) (f b : Nat) : Byte :=
  match tget diff (f * 2 ^ 40 + b) with
  | some v => v
  | none => imageMapByte s x f b

/-- A bitmap byte written into a version. -/
def putMap (s : State) (x : IndexHdr) (diff : Table Byte) (f b : Nat) (v : Byte) : Table Byte :=
  if imageMapByte s x f b = v then tdel diff (f * 2 ^ 40 + b) else tset diff (f * 2 ^ 40 + b) v

/-- Bit of passage `p` in a bitmap. -/
def mapBit (s : State) (x : IndexHdr) (diff : Table Byte) (f p : Nat) : Bool := (mapByte s x diff f (p / 8)).getLsbD (p % 8)

/-- A passage is a match of a query's filters (R168, R170). -/
def isMatch (s : State) (x : IndexHdr) (diff : Table Byte) (filters : List Nat) (p : Nat) : Bool :=
  decide (p < x.shape.slots) && (0 :: filters.filter (· ≠ 0)).all (fun f => mapBit s x diff f p)

/-- Set bits of a byte. -/
def popByte (b : Byte) : Nat := ((List.range 8).filter (fun i => b.getLsbD i)).length

/-- Hamming distance of two sketches (R165). -/
def hamming : List Byte → List Byte → Nat
  | a :: as, b :: bs => popByte (a ^^^ b) + hamming as bs
  | _, _ => 0

/-- Sketch of a passage of a scan index. -/
def scanSketch (s : State) (x : IndexHdr) (p : Nat) : List Byte :=
  indexRead s x (2048 + p / x.perShard * shardBytes x.shape + p % x.perShard * x.shape.sketchBytes)
    x.shape.sketchBytes

/-! ### Versions and changes -/

/-- The versions of an index; version 0 until the first publication (R171). -/
def indexSt (s : State) (ref : Nat) : IndexSt :=
  tgetD s.search.indexes ref
    { version := 0, cur := [], prev := [], spare := none, changing := none, held := [], publishAt := none, repairDue := false }

/-- The versions of an index written. -/
def setIndex (s : State) (ref : Nat) (x : IndexSt) : State :=
  { s with search := { s.search with indexes := tset s.search.indexes ref x } }

/-- Bitmaps of a bound version. -/
def versionMaps (x : IndexSt) (v : Nat) : Table Byte := if v = x.version then x.cur else x.prev

/-- Entries whose search has begun and is not over: they are bound to a version. -/
def boundEntries (s : State) : List Nat := asSet (s.search.cands.map (·.entry) ++ s.search.walks.map (·.entry))

/-- Versions of an index to which queries are bound. -/
def boundVersions (s : State) (ref : Nat) : List Nat :=
  (boundEntries s).filterMap (fun e =>
    match reqAt s e with
    | some r =>
      (match r.search with
       | some b => if b.indexRef = ref then some r.version else none
       | none => none)
    | none => none)

/-- The first change since a publication must wait (R172 rule 1). -/
def mustWait (s : State) (ref : Nat) (x : IndexSt) : Bool :=
  x.publishAt.isSome || (x.spare.isNone && (boundVersions s ref).any (fun v => decide (v + 1 = x.version)))

/-- LOAD_REPLY (R341). -/
def loadReply (s : State) (n tag status version : Nat) : State :=
  sendCtl s n 0x87 tag (toLE 1 status ++ zeros 7 ++ toLE 8 version)

/-- A change applied to the spare copy, or a publication ordered, with its LOAD_REPLY (R172). -/
def applyChange (s : State) (ref : Nat) (h : IndexHdr) (x : IndexSt) (c : HeldChange) : State :=
  if c.isPublish then
    loadReply (setIndex s ref { x with publishAt := some (now s) }) c.session c.tag 0 (x.version + 1)
  else
    let spare := x.spare.getD x.cur
    let spare :=
      if c.passages ≠ [] then
        c.passages.foldl (fun m p =>
          putMap s h m 0 (p / 8) (mapByte s h m 0 (p / 8) &&& ~~~(BitVec.ofNat 8 (2 ^ (p % 8))))) spare
      else
        ((List.range c.data.length).zip c.data).foldl (fun m q => putMap s h m c.filter (c.offset + q.1) q.2) spare
    loadReply (setIndex s ref { x with spare := some spare }) c.session c.tag 0 0

/-- A change or a publication that arrives: applied, or held behind a bound version and every change before it (R172). -/
def takeChange (s : State) (ref : Nat) (h : IndexHdr) (c : HeldChange) : State :=
  let x := indexSt s ref
  let x := { x with changing := if c.isPublish then none else some c.filter }
  if x.held ≠ [] ∨ (c.isPublish = false ∧ mustWait s ref x) then setIndex s ref { x with held := x.held ++ [c] }
  else applyChange s ref h x c

/-- A kind 5 LOAD (R341): a PRIVILEGED session, Ivory or Amber, and an index in service; then `run`. -/
def indexLoad (s : State) (n tag ref : Nat) (run : IndexHdr → Res) : Res :=
  match sessAt s n with
  | none => .next s
  | some x =>
    if epPriv s x.endpoint = false then .next (reject s n x.firstMsgq 0x03 tag 4)
    else if serving s = false then .next (loadReply s n tag 2 0)
    else
      match indexAt s ref with
      | none => .next (loadReply s n tag 3 0)
      | some h => run h

/-- A change to a second bitmap before PUBLISH (R172 rule 2). -/
def secondMap (s : State) (ref f : Nat) : Bool :=
  match (indexSt s ref).changing with
  | some g => decide (g ≠ f)
  | none => false

/-- DELETE: tombstones passages in the spare copy of the live bitmap (R170, R172). A passage number beyond the slots is out
of range. -/
def execDelete (n tag ref : Nat) (passages : List Nat) (s : State) : Res :=
  indexLoad s n tag ref fun h =>
    if passages.any (fun p => decide (h.shape.slots ≤ p)) then .next (loadReply s n tag 4 0)
    else if secondMap s ref 0 then .next (loadReply s n tag 6 0)
    else .next (takeChange s ref h
      { session := n, tag := tag, isPublish := false, filter := 0, offset := 0, data := [], passages := passages })

/-- FILTER_WRITE: a byte range of one bitmap (R170, R172). -/
def execFilterWrite (n tag ref f offset : Nat) (bytes : List Byte) (s : State) : Res :=
  indexLoad s n tag ref fun h =>
    if (f ≠ 0 ∧ h.shape.filters.contains f = false) ∨ h.mapBytes < offset + bytes.length then .next (loadReply s n tag 4 0)
    else if secondMap s ref f then .next (loadReply s n tag 6 0)
    else .next (takeChange s ref h
      { session := n, tag := tag, isPublish := false, filter := f, offset := offset, data := bytes, passages := [] })

/-- PUBLISH: the changed bitmap becomes current at the next boundary, as the next version; without a change since the last
publication no version is created (R172 rule 3). -/
def execPublish (n tag ref : Nat) (s : State) : Res :=
  indexLoad s n tag ref fun h =>
    if (indexSt s ref).changing.isNone then .next (loadReply s n tag 0 (indexSt s ref).version)
    else .next (takeChange s ref h
      { session := n, tag := tag, isPublish := true, filter := 0, offset := 0, data := [], passages := [] })

/-- CHANGE_APPLIED: the oldest held change applies once no query is bound to the version whose copy it takes (R172). -/
def execChangeApplied (ref : Nat) (s : State) : Res :=
  match indexAt s ref, (indexSt s ref).held with
  | some h, c :: rest =>
    let x := indexSt s ref
    if c.isPublish = false ∧ mustWait s ref x then .next s
    else .next (applyChange s ref h { x with held := rest } c)
  | _, _ => .next s

/-- Keeps that hold a shard of the scan index. -/
def shardKeeps (s : State) : List Nat :=
  match indexAt s (scanRef s) with
  | some h => if h.shape.mode = 0 then List.range h.shape.shards else []
  | none => []

/-- The publication of an index takes effect at a boundary (R171, R172): the spare copy is current, and the copy that was
current is the one that queries bound before read. -/
def switchVersion (s : State) (ref : Nat) : State :=
  let x := indexSt s ref
  match x.publishAt, indexAt s ref with
  | some t, some h =>
    if t < now s then
      let cur := x.spare.getD x.cur
      let dead := (cur ++ x.cur).any (fun q => decide (q.1 < 2 ^ 40) &&
        decide (mapByte s h x.cur 0 q.1 &&& ~~~(mapByte s h cur 0 q.1) ≠ 0))
      let s := setIndex s ref { x with version := x.version + 1, cur := cur, prev := x.cur, spare := none, publishAt := none,
                                       repairDue := (x.repairDue || dead) && decide (h.shape.mode = 1) }
      let s := if ref = scanRef s then (shardKeeps s).foldl (fun s k => setFlag s (.lucarne k) 0x08 3) s else s
      logEntry s 7 0 3 0xFF 0x0600 0xFFFF (x.version + 1)
    else s
  | _, _ => s

/-- Every publication that is due. -/
def switchVersions (s : State) : State := (s.search.indexes.map (·.1)).foldl switchVersion s

/-! ### Graph indexes -/

/-- Offset of an adjacency slot of a node in the image (R174). -/
def adjAt (x : IndexHdr) (node j : Nat) : Nat := x.adjOff + 384 * node + 192 * j

/-- VALID_FROM of an adjacency slot. -/
def validFrom (s : State) (x : IndexHdr) (node j : Nat) : Nat := leNat (indexRead s x (adjAt x node j) 8)

/-- The adjacency slot that a walk bound to version `v` reads (R174). -/
def adjSlot (s : State) (x : IndexHdr) (node v : Nat) : Nat :=
  let a := validFrom s x node 0
  let b := validFrom s x node 1
  if b ≤ v ∧ (v < a ∨ a < b) then 1 else 0

/-- Neighbours of a node with the offsets of their sketches in T2 (R174). -/
def neighbours (s : State) (x : IndexHdr) (node v : Nat) : List (Nat × List Byte) :=
  let j := adjSlot s x node v
  (List.range 32).map (fun i =>
    (leNat (indexRead s x (adjAt x node j + 8 + 5 * i) 5),
     memRead s.flash.data (x.vecNs * 2 ^ 58 + x.nbBase + (2 * node + j) * x.nbBytes + i * x.shape.sketchBytes)
       x.shape.sketchBytes))

/-- Entry points with their sketches (R161). -/
def entryPoints (s : State) (x : IndexHdr) : List (Nat × List Byte) :=
  (List.range x.entries).map (fun i =>
    let k := x.entryOff + i * (8 + x.shape.sketchBytes)
    (leNat (indexRead s x k 8), indexRead s x (k + 8) x.shape.sketchBytes))

/-- The bottom order of R144 on (distance, passage). -/
def nearer (a b : Nat × Nat) : Bool := decide (a.1 < b.1) || (decide (a.1 = b.1) && decide (a.2 ≤ b.2))

/-- One copy of each passage, the best first. -/
def bestOf : List (Nat × Nat) → List (Nat × Nat)
  | [] => []
  | x :: xs => x :: (bestOf xs).filter (fun y => decide (y.2 ≠ x.2))

/-- A walk as it begins (R175). -/
def startWalk (s : State) (x : IndexHdr) (maps : Table Byte) (e : Nat) (b : SearchBlock) (q : List Byte) : Walk :=
  let pts := (entryPoints s x).map (fun p => (hamming q p.2, p.1))
  let beam := bestOf (sortBy nearer pts)
  { entry := e, beam := beam, expanded := [], met := beam.filter (fun p => isMatch s x maps b.filters p.2), round := 0 }

/-- One round of a walk (R175). -/
def walkRound (s : State) (x : IndexHdr) (maps : Table Byte) (v : Nat) (b : SearchBlock) (q : List Byte) (w : Walk) : Walk :=
  let front := (w.beam.filter (fun p => !(w.expanded.contains p.2))).take b.expand
  let new := front.flatMap (fun p => (neighbours s x p.2 v).map (fun y => (hamming q y.2, y.1)))
  { w with beam := (bestOf (sortBy nearer (w.beam ++ new))).take b.beam, expanded := w.expanded ++ front.map (·.2),
           met := bestOf (sortBy nearer (w.met ++ new.filter (fun p => isMatch s x maps b.filters p.2))), round := w.round + 1 }

/-- A node's own sketch, from the ENTRY region or from a neighbourhood block that holds it. -/
def nodeSketch (s : State) (x : IndexHdr) (v y : Nat) : Option (List Byte) :=
  match (entryPoints s x).find? (fun p => decide (p.1 = y)) with
  | some p => some p.2
  | none => (List.range x.shape.slots).findSome? (fun n =>
      ((neighbours s x n v).find? (fun p => decide (p.1 = y))).map (·.2))

/-- Edges of a node after repair (R178): each edge to a tombstoned node goes to that node's nearest live neighbour. -/
def repairEdges (s : State) (x : IndexHdr) (maps : Table Byte) (v y : Nat) : List (Nat × List Byte) :=
  let own := neighbours s x y v
  let live (p : Nat) : Bool := mapBit s x maps 0 p
  match nodeSketch s x v y with
  | none => own
  | some sk =>
    (List.range own.length).foldl (fun l i =>
      let e := l.getD i (0, [])
      if live e.1 then l
      else
        let cands := (neighbours s x e.1 v).filter (fun z => live z.1 && decide (z.1 ≠ y) && !((l.map (·.1)).contains z.1))
        match (sortBy (fun (a b : Nat × List Byte) => nearer (hamming sk a.2, a.1) (hamming sk b.2, b.1)) cands).head? with
        | some z => l.set i z
        | none => l) own

/-- A node's repaired adjacency and block, written into the slot that is not current (R178). -/
def writeEdges (s : State) (x : IndexHdr) (v y : Nat) (l : List (Nat × List Byte)) : State :=
  let j := 1 - adjSlot s x y v
  let adj := toLE 8 (v + 1) ++ l.flatMap (fun e => toLE 5 e.1)
  let block := x.vecNs * 2 ^ 58 + x.nbBase + (2 * y + j) * x.nbBytes
  let s := indexWrite s x (adjAt x y j) adj
  flashPut s block (l.flatMap (·.2))

/-- EDGE_REPAIR: after a publication that tombstoned nodes, the edges of live nodes to tombstoned ones are replaced, in
ascending node, and the repair publishes itself as a change of its own, which waits as any first change does (R172, R178).
A slot that a bound walk reads is not reused. -/
def execEdgeRepair (ref : Nat) (s : State) : Res :=
  match indexAt s ref with
  | none => .next s
  | some x =>
    let ix := indexSt s ref
    if ix.repairDue = false ∨ ix.spare.isSome ∨ ix.held ≠ [] ∨ mustWait s ref ix ∨ serving s = false then .next s
    else
      let live (p : Nat) : Bool := mapBit s x ix.cur 0 p
      let due := (List.range x.shape.slots).filter (fun y => live y &&
        decide ((repairEdges s x ix.cur ix.version y).map (·.1) ≠ (neighbours s x y ix.version).map (·.1)))
      let busy (y : Nat) : Bool :=
        (boundVersions s ref).any (fun v => decide (v < validFrom s x y (adjSlot s x y ix.version)))
      if due.any busy then .next s
      else
        let plans := due.map (fun y => (y, repairEdges s x ix.cur ix.version y))
        let s := plans.foldl (fun s p => writeEdges s x ix.version p.1 p.2) s
        let ix := { ix with repairDue := false }
        .next (setIndex s ref (if due = [] then ix else { ix with spare := some ix.cur, publishAt := some (now s) }))

/-! ### Search parameters -/

/-- A vocabulary slot is valid (R216). -/
def vocabValid (s : State) (j : Nat) : Bool := decide (j < 16) && bit (reg s .text (0x100 + 8 * j)) 16

/-- A request's search block obeys R163 and the compiled limits. -/
def searchBlockOk (s : State) (p : PipelineRec) (b : SearchBlock) : Bool :=
  match indexAt s b.indexRef with
  | none => false
  | some x =>
    let scan := decide (x.shape.mode = 0)
    let noFour := decide (b.filters.length = 4)
    decide (b.packMode ≤ 2) && vocabValid s b.vocab && noFour &&
    b.filters.all (fun f => decide (f = 0) || x.shape.filters.contains f) && decide (1 ≤ b.kShort) &&
    decide (b.kShort ≤ 1024) && decide (1 ≤ b.kCross) && decide (b.kCross ≤ 32) && decide (b.budget ≤ 65536) &&
    b.reservedZero &&
    (if scan then
      decide (b.beam = 0) && decide (b.rounds = 0) && decide (b.expand = 0) && decide (b.indexRef = scanRef s) &&
      decide (p.scanStage < p.stages.length) && decide (b.kShort ≤ fld s (.lucarne 0) 0x10 16 11)
    else
      decide (b.kShort ≤ b.beam) && decide (b.beam ≤ 1024) && decide (1 ≤ b.rounds) && decide (b.rounds ≤ 64) &&
      decide (1 ≤ b.expand) && decide (b.expand ≤ 32) && !(decide (p.scanStage < p.stages.length)) &&
      decide (b.rounds + 1 ≤ ((p.stages[graphStage]?).map (·.duration)).getD 0))

/-! ### Candidate lists -/

/-- A match as an entry of a selection with key type HAM16. -/
def candEntry (m : Nat × Nat) : SelEntry := { index := m.2, key := m.1, source := 0 }

/-- A candidate list in the form of R146 (R168). -/
def candRec (k : Nat) (l : List (Nat × Nat)) : SelRec := selectBest 6 true k (l.map candEntry)

/-- A candidate list as Keep base SRAM holds it: the header of R146, then for each entry DIST in bits 15 to 0 and the passage
number in bits 55 to 16 (R168). -/
def candBytes (r : SelRec) : List Byte := (selBytes r).take 64 ++ r.entries.flatMap (fun e => toLE 2 e.key ++ toLE 6 e.index)

/-- A candidate list read back from Keep base SRAM. -/
def candParse (bs : List Byte) : SelRec :=
  { selParse (bs.take 64) with
    entries := (List.range (fieldLE bs 0 4)).map (fun i =>
      { index := fieldLE bs (66 + 8 * i) 5, key := fieldLE bs (64 + 8 * i) 2, source := 0 }) }

/-- The candidate list of a query in a Keep as its batch begins. -/
def emptyList (e k kShort : Nat) : CandList := { entry := e, keep := k, matches_ := [], sram := candBytes (candRec kShort []) }

/-- Matches joined to a candidate list, and the list in Keep base SRAM brought up to date. -/
def joinList (kShort : Nat) (c : CandList) (m : List (Nat × Nat)) : CandList :=
  { c with matches_ := c.matches_ ++ m, sram := candBytes (candRec kShort (c.matches_ ++ m)) }

/-! ### Binding, scanning and walking -/

/-- A search stage begins without its sketch: a missing input (R121, R167). -/
def sketchMissing (s : State) (r : Request) (e : Nat) : State := missed (stall s 1 r.ctx 0x0600 e) e

/-- A request's search stage begins in the current frame: it binds to the current version (R167, R171). -/
def bindSearch (s : State) (e : Nat) : State :=
  match reqAt s e with
  | none => s
  | some r =>
    match r.search, searchStage s r with
    | some b, some j =>
      match indexAt s b.indexRef with
      | none => s
      | some x =>
        if alive r = false ∨ r.state = .pending ∨ planStep r j (now s) ≠ some 0 then s
        else
          match r.sketch with
          | none => sketchMissing s r e
          | some q =>
            if q.length ≠ x.shape.sketchBytes then sketchMissing s r e
            else
              let ix := indexSt s b.indexRef
              let s := setReq s e { r with version := ix.version, shortlist := none, packed := [] }
              let cands := s.search.cands.filter (fun c => decide (c.entry ≠ e))
              let walks := s.search.walks.filter (fun w => decide (w.entry ≠ e))
              if x.shape.mode = 0 then
                { s with search := { s.search with walks := walks, cands := cands ++
                    (List.range x.shape.shards).map (fun k => emptyList e k b.kShort) } }
              else { s with search := { s.search with cands := cands, walks := walks ++ [startWalk s x ix.cur e b q] } }
    | _, _ => s

/-- Every search stage that begins in the current frame. -/
def bindSearches (s : State) : State := (s.reqs.map (·.1)).foldl bindSearch s

/-- Entries whose batches a Keep serves in a frame. -/
def batchOf (s : State) (k f : Nat) : List Nat :=
  (s.search.cands.filter (fun c => decide (c.keep = k) && (match reqAt s c.entry, indexAt s (scanRef s) with
    | some r, some x =>
      (match searchStage s r with
       | some j => (match planStep r j f with
         | some i => decide (i < x.slices)
         | none => false)
       | none => false)
    | _, _ => false))).map (·.entry)

/-- Matches of one query in the slice that a Keep reads in frame `f` (R165, R168). -/
def sliceMatches (s : State) (x : IndexHdr) (k f : Nat) (r : Request) (b : SearchBlock) (q : List Byte) : List (Nat × Nat) :=
  let first := k * x.perShard + f % x.slices * x.slice
  let maps := versionMaps (indexSt s b.indexRef) r.version
  ((List.range x.slice).filter (fun i => isMatch s x maps b.filters (first + i))).map (fun i =>
    (hamming q (scanSketch s x (first + i)), first + i))

/-- The slice's matches joined to a query's candidate list of a Keep. -/
def scanQuery (s : State) (x : IndexHdr) (k f e : Nat) : State :=
  match reqAt s e with
  | none => s
  | some r =>
    match r.search, r.sketch with
    | some b, some q =>
      let m := sliceMatches s x k f r b q
      { s with search := { s.search with cands := s.search.cands.map (fun c =>
          if c.entry = e ∧ c.keep = k then joinList b.kShort c m else c) } }
    | _, _ => s

/-- Some block of the slice that a Keep reads in frame `f` is uncorrectable (R169). -/
def sliceBad (s : State) (x : IndexHdr) (k f : Nat) : Option Nat :=
  match s.img.image with
  | none => none
  | some i =>
    let base := saveSlots i k
    let j := f % x.slices
    let sk := x.slice * x.shape.sketchBytes
    let map := x.slice / 8
    let first := upGranule (x.perShard * x.shape.sketchBytes)
    let ranges := (j * sk, sk) :: (List.range (1 + x.shape.filters.length)).map (fun m =>
      (first + m * upGranule (x.perShard / 8) + j * map, map))
    (s.tier.badBlocks.filter (fun b => decide (b / 2 ^ 30 = k) && decide (32 * base ≤ b % 2 ^ 30) &&
      (let o := (b % 2 ^ 30 - 32 * base) * 64
       ranges.any (fun r => decide (o < r.1 + r.2) && decide (r.1 < o + 64))))).head?

/-- One Keep's scanner over the frame that ends (R165, R166, R169). -/
def scanKeep (s : State) (x : IndexHdr) (f : Nat) (late lanes : List Nat) (k : Nat) : State :=
  if enabled s (.lucarne k) = false then s
  else
    let es := batchOf s k f
    let bytes := x.slice * x.shape.sketchBytes + fld s (.lucarne k) 0x10 8 5 * (x.slice / 8)
    let s := bump (bump s (.lucarne k) 0x28 bytes) (.lucarne k) 0x30 (x.slice * es.length)
    let s := es.foldl (fun s e => scanQuery s x k f e) s
    let s := if lanes.contains k then
        detect (setFlag s (.lucarne k) 0x08 2)
          { mech := 0x02, action := 0, unit := 0x0400 + k, key := some (0x0400 + k), ctx := 0xFF, entry := 0xFFFF, detail := 0,
            affected := es }
      else s
    let bad := sliceBad s x k f
    if late.contains k ∨ bad.isSome then
      let s := bump (setFlag s (.lucarne k) 0x08 1) (.lucarne k) 0x38 1
      let s := es.foldl (fun s e => missed (stall s 9 (((reqAt s e).map (·.ctx)).getD 0) (0x0400 + k) e) e) s
      match bad with
      | some b => detectKeep (keepError s k (b % 2 ^ 30) true false) k 0xFF 0xFFFF 0 []
      | none => s
    else s

/-- The scanners over the frame `f` that ends. -/
def scanFrame (s : State) (f : Nat) (late lanes : List Nat) : State :=
  match indexAt s (scanRef s) with
  | some x => if x.shape.mode = 0 then (shardKeeps s).foldl (scanKeep · x f late lanes) s else s
  | none => s

/-! ### The shortlist -/

/-- The shortlist leaves for the stage after the search stage (R180). -/
def sendShortlist (s : State) (e : Nat) (r : Request) (j k : Nat) (rec_ : SelRec) : State :=
  match routeBetween s r.pipeline j (j + 1) with
  | none => s
  | some route =>
    let ranks := max 1 (tilesPerSlot s r.pipeline (j + 1))
    let q := ceilDiv k ranks
    (List.range ranks).foldl (fun s a =>
      let l := (rec_.entries.drop (a * q)).take q
      deliver_ s (domeToken s e r route a (toLE 4 l.length ++ zeros 4 ++ l.flatMap (fun x => toLE 8 x.index)))) s

/-- The last frame of a search stage ends: merge, result and shortlist tokens (R179, R180). -/
def finishSearch (s : State) (e : Nat) (r : Request) (b : SearchBlock) (j frames : Nat) : State :=
  let lists := (s.search.cands.filter (fun c => decide (c.entry = e))).map (fun c => candParse c.sram)
  let m := match s.search.walks.find? (fun w => decide (w.entry = e)) with
    | some w => (candRec b.kShort w.met, false)
    | none => mergeRecs b.kShort true lists
  let s := { s with search := { s.search with cands := s.search.cands.filter (fun c => decide (c.entry ≠ e)),
                                              walks := s.search.walks.filter (fun w => decide (w.entry ≠ e)) } }
  let s := setReq s e { r with shortlist := some (selBytes m.1),
                               steps := if isScanStage s r.pipeline j then tset r.steps (j * 65536) frames else r.steps }
  let s := sendShortlist s e r j b.kShort m.1
  if m.2 then
    detect s { mech := 0x03, action := 0, unit := 0x0600, key := some 0x0600, ctx := r.ctx, entry := e, detail := 0,
               affected := [e] }
  else s

/-- The namespace of an index's neighbourhood blocks can be read (R174, R308). -/
def blocksReadable (s : State) (x : IndexHdr) : Bool :=
  (nsAt s x.vecNs).any (fun n => decide (nsState s n = .active) || decide (nsState s n = .readOnly))

/-- A request's search stage over the frame `f` that ends: a round of its walk, which a lost tier fails as it fails a stream,
and the merge in the stage's last frame (R136, R175, R176, R179). -/
def searchFrame (s : State) (f e : Nat) : State :=
  match reqAt s e with
  | none => s
  | some r =>
    match r.search, searchStage s r with
    | some b, some j =>
      match indexAt s b.indexRef, planStep r j f, r.sketch with
      | some x, some step, some q =>
        let maps := versionMaps (indexSt s b.indexRef) r.version
        let reads := decide (x.shape.mode = 1) && decide (0 < step) && decide (step ≤ b.rounds)
        if reads && !blocksReadable s x then missed (stall s 5 r.ctx 0x0600 e) e
        else
        let s := if reads then
            { s with search := { s.search with walks := s.search.walks.map (fun w =>
                if w.entry = e ∧ w.round < step then walkRound s x maps r.version b q w else w) } }
          else s
        let frames := stageFrames s r j
        if step + 1 = frames then finishSearch s e r b j frames else s
      | _, _, _ => s
    | _, _ => s

/-- Every search in flight over the frame that ends. -/
def searchFrames (s : State) (f : Nat) : State := (boundEntries s).foldl (fun s e => searchFrame s f e) s

/-! ### Packing and the search result -/

/-- What packing does with a passage of the final list (R184): tokens placed, and whether it was cut. -/
structure Packed where
  passage : Nat
  score : Nat
  offset : Nat
  placed : List Nat
  cut : Bool
  omitted : Bool
  deriving DecidableEq, Repr

/-- The packing of R184 over the final list: passage, score and tokens; `pos` is the tokens placed so far and `stop` tells
that every later passage is omitted. -/
def packList (mode opening closing left pos : Nat) (stop : Bool) : List (Nat × Nat × List Nat) → List Packed
  | [] => []
  | (p, sc, t) :: rest =>
    let need := opening + t.length + closing
    let skipped : Packed := { passage := p, score := sc, offset := 0, placed := [], cut := false, omitted := true }
    if stop then skipped :: packList mode opening closing left pos true rest
    else if need ≤ left then
      { passage := p, score := sc, offset := pos + opening, placed := t, cut := false, omitted := false } ::
        packList mode opening closing (left - need) (pos + need) false rest
    else if mode = 1 then skipped :: packList mode opening closing left pos false rest
    else if mode = 2 ∧ opening + closing < left then
      { passage := p, score := sc, offset := pos + opening, placed := t.take (left - opening - closing), cut := true,
        omitted := false } :: packList mode opening closing 0 (pos + left) true rest
    else skipped :: packList mode opening closing left pos true rest

/-- A pack entry (R185). -/
def packEntry (p : Packed) : List Byte :=
  toLE 8 p.passage ++ toLE 4 p.score ++ toLE 4 p.offset ++ toLE 4 p.placed.length ++
  toLE 1 ((if p.cut then 1 else 0) + (if p.omitted then 2 else 0)) ++ zeros 3

/-- The search header (R185). -/
def searchHeader (version validCount shortCount placed omitted flags used : Nat) (digest : List Byte) : List Byte :=
  toLE 8 version ++ toLE 8 validCount ++ toLE 2 shortCount ++ toLE 2 placed ++ toLE 2 omitted ++ toLE 1 flags ++ zeros 1 ++
  toLE 4 used ++ zeros 4 ++ fit 32 digest

/-- A search result (R185): header, final list, pack entries and tokens. -/
def searchResult (version : Nat) (short final : SelRec) (graph noPack : Bool) (opening closing : List Nat) (digest : List Byte)
    (l : List Packed) : List Byte :=
  let put := l.filter (fun p => !p.omitted)
  let toks := put.flatMap (fun p => opening ++ p.placed ++ closing)
  let flags := (if graph then 1 else 0) + (if l.any (·.cut) then 2 else 0) + (if noPack then 4 else 0)
  let head (used placed omitted : Nat) : List Byte :=
    searchHeader version short.valid short.entries.length placed omitted flags used digest
  if noPack then head 0 0 0 ++ selBytes final
  else head toks.length put.length (l.length - put.length) ++ selBytes final ++ l.flatMap packEntry ++ toks.flatMap (toLE 4)

/-- Bytes are a final list: the record of SELECT in mode TOP with key type FP32 and K = K_CROSS (R183). -/
def isFinalList (b : SearchBlock) (bs : List Byte) : Bool :=
  let r := selParse bs
  decide (bs.length = 64 + 16 * b.kCross) && decide (r.mode = 0) && decide (r.keyType = 0) && decide (r.k = b.kCross) &&
    decide (r.entries.length ≤ b.kCross)

/-- DIGEST of an image that the image in service refers to (R61). -/
def refDigest (s : State) (ref : Nat) : List Byte :=
  match s.img.image with
  | some i => ((i.refs.find? (fun r => decide (r.ref = ref))).map (·.digest)).getD []
  | none => []

/-- The search result made of a final list (R171, R177, R184, R185): the passages packed with the tokens that the text engine
gave for them, job i being the list's passage i (log entry 81). -/
def resultOf (s : State) (r : Request) (b : SearchBlock) (opening closing : List Nat) (final : SelRec) : List Byte :=
  let l := packList b.packMode opening.length closing.length b.budget 0 false
    (((List.range final.entries.length).zip final.entries).map (fun q => (q.2.index, q.2.key, tgetD r.packed q.1 [])))
  searchResult r.version (selParse (r.shortlist.getD [])) final (decide (indexMode s b.indexRef = some 1)) b.noPack opening closing
    (refDigest s b.indexRef) l
end Sys2Proof.Machine
end

