-- ==== Sys2Proof/Machine/Text.lean ====
section
/-! DEFINITION. The text engine (chapter 09): vocabularies, tokenizing, detokenizing, stop strings, and text stages. -/

namespace Sys2Proof.Machine

/-! ### Vocabularies -/

/-- A token record (R215). -/
structure TokenRec where
  left : Nat
  right : Nat
  kind : Nat
  length : Nat
  reserved : Nat
  deriving DecidableEq, Repr

/-- A vocabulary (R214). -/
structure Vocab where
  presplit : Bool
  recs : List TokenRec
  opening : List Nat
  closing : List Nat
  endToken : Nat
  deriving DecidableEq, Repr

/-- A record's fields. -/
def tokenRec (bs : List Byte) : TokenRec :=
  let w := fieldLE bs 0 8
  { left := w % 2 ^ 18, right := w / 2 ^ 18 % 2 ^ 18, kind := w / 2 ^ 36 % 4, length := w / 2 ^ 38 % 256, reserved := w / 2 ^ 46 }

/-- The vocabulary whose image has header `h` and records `recs`. -/
def parseVocab (h : List Byte) (recs : List TokenRec) : Vocab :=
  { presplit := decide (fieldLE h 6 1 = 1), recs := recs,
    opening := (List.range (fieldLE h 0x0C 1)).map (fun i => fieldLE h (0x20 + 4 * i) 4),
    closing := (List.range (fieldLE h 0x0D 1)).map (fun i => fieldLE h (0x40 + 4 * i) 4), endToken := fieldLE h 0x10 4 }

/-- Record of a token. -/
def Vocab.tok (v : Vocab) (t : Nat) : TokenRec := v.recs.getD t { left := 0, right := 0, kind := 2, length := 0, reserved := 0 }

/-- A record obeys R215. -/
def tokenOk (v : Vocab) (t : Nat) : Bool :=
  let r := v.tok t
  decide (r.reserved = 0) &&
  (if t < 256 then decide (r.kind = 0) && decide (r.length = 1) && decide (r.left = 0) && decide (r.right = 0)
   else if r.kind = 1 then
     decide (r.left < t) && decide (r.right < t) && decide ((v.tok r.left).kind ≠ 2) && decide ((v.tok r.right).kind ≠ 2) &&
     decide (r.length = (v.tok r.left).length + (v.tok r.right).length) && decide (r.length ≤ 128)
   else decide (r.kind = 2) && decide (r.length = 0) && decide (r.left = 0) && decide (r.right = 0))

/-- A vocabulary image obeys R214 and R215. -/
def vocabOk (h : List Byte) (recs : List TokenRec) (bytes : Nat) : Bool :=
  let v := parseVocab h recs
  let n := fieldLE h 8 4
  let pairs := (v.recs.filter (fun r => decide (r.kind = 1))).map (fun r => r.left * 2 ^ 18 + r.right)
  decide (fieldLE h 0 4 = 0x4256535A) && decide (fieldLE h 4 2 = 1) && decide (fieldLE h 6 1 ≤ 1) && zeroRange h 7 1 &&
  decide (256 ≤ n) && decide (n ≤ 262144) && decide (recs.length = n) && decide (bytes = 128 + 8 * n) &&
  decide (v.opening.length ≤ 8) && decide (v.closing.length ≤ 8) && zeroRange h 0x0E 2 && zeroRange h 0x14 12 &&
  zeroRange h (0x20 + 4 * v.opening.length) (32 - 4 * v.opening.length) &&
  zeroRange h (0x40 + 4 * v.closing.length) (32 - 4 * v.closing.length) && zeroRange h 0x60 32 &&
  (v.opening ++ v.closing).all (fun t => decide (t < n)) &&
  (decide (v.endToken = 0xFFFFFFFF) || (decide (v.endToken < n) && decide ((v.tok v.endToken).kind = 2))) &&
  (List.range n).all (tokenOk v) && !(repeats pairs)

/-- Token records of an image in device image space. -/
def readRecs (s : State) (base n : Nat) : List TokenRec :=
  (List.range n).map (fun i => tokenRec (memRead s.tier.t1 (2 ^ 68 + base + 128 + 8 * i) 8))

/-- The vocabulary of a slot (R216). -/
def vocabAt (s : State) (j : Nat) : Option Vocab :=
  if vocabValid s j then
    match tget s.img.loaded (fld s .text (0x100 + 8 * j) 0 16) with
    | some l =>
      let h := imageHeader s l.base
      some (parseVocab h (readRecs s l.base (fieldLE h 8 4)))
    | none => none
  else none

/-- Bytes of a token (R215, R221), to a depth of `fuel` merges. -/
def tokenBytes (v : Vocab) : Nat → Nat → List Byte
  | 0, t => if t < 256 then [BitVec.ofNat 8 t] else []
  | fuel + 1, t =>
    let r := v.tok t
    if r.kind = 0 then [BitVec.ofNat 8 t]
    else if r.kind = 1 then tokenBytes v fuel r.left ++ tokenBytes v fuel r.right
    else []

/-- Bytes of a token: no token is deeper than its length. -/
def Vocab.bytes (v : Vocab) (t : Nat) : List Byte := tokenBytes v 128 t

/-! ### From bytes to tokens -/

/-- A byte lies in a range. -/
def inRange (lo hi : Nat) (b : Byte) : Bool := decide (lo ≤ b.toNat) && decide (b.toNat ≤ hi)

/-- A continuation byte. -/
def contByte (b : Byte) : Bool := inRange 0x80 0xBF b

/-- Length of the character at the front of a byte string, 0 where its bytes match no row of R217. -/
def charLen : List Byte → Nat
  | [] => 0
  | a :: rest =>
    let x := a.toNat
    let lead (lo hi more : Nat) : Nat :=
      match rest with
      | b :: r => if inRange lo hi b && decide ((r.take more).length = more) && (r.take more).all contByte then 2 + more else 0
      | [] => 0
    if x ≤ 0x7F then 1
    else if 0xC2 ≤ x ∧ x ≤ 0xDF then lead 0x80 0xBF 0
    else if x = 0xE0 then lead 0xA0 0xBF 1
    else if x = 0xED then lead 0x80 0x9F 1
    else if 0xE1 ≤ x ∧ x ≤ 0xEF then lead 0x80 0xBF 1
    else if x = 0xF0 then lead 0x90 0xBF 2
    else if 0xF1 ≤ x ∧ x ≤ 0xF3 then lead 0x80 0xBF 2
    else if x = 0xF4 then lead 0x80 0x8F 2
    else 0

/-- Whitespace of R218. -/
def isSpace (b : Byte) : Bool := [0x09, 0x0A, 0x0D, 0x20].contains b.toNat

/-- A piece closed, if it is not empty. -/
def closePiece (piece : List Byte) : List (List Byte × Bool) := if piece = [] then [] else [(piece, false)]

/-- Pieces of an input (R217, R218): bytes, and whether the piece is a fallback byte token. `piece` is the open piece. -/
def pieces (presplit : Bool) : Nat → List Byte → List Byte → List (List Byte × Bool)
  | 0, piece, _ => closePiece piece
  | _ + 1, piece, [] => closePiece piece
  | fuel + 1, piece, b :: rest =>
    let n := charLen (b :: rest)
    if n = 0 then closePiece piece ++ ([b], true) :: pieces presplit fuel [] rest
    else
      let c := (b :: rest).take n
      let opens := (presplit && isSpace b && !((piece.getLast?).any isSpace)) || decide (1024 < piece.length + n)
      if opens then closePiece piece ++ pieces presplit fuel c ((b :: rest).drop n)
      else pieces presplit fuel (piece ++ c) ((b :: rest).drop n)

/-- The merged token of two tokens (R219). -/
def Vocab.merged (v : Vocab) (l r : Nat) : Option Nat :=
  leastBelow (fun t => decide ((v.tok t).kind = 1) && decide ((v.tok t).left = l) && decide ((v.tok t).right = r)) v.recs.length

/-- The best merge of a sequence: lowest token, then leftmost place (R219). -/
def bestMerge (v : Vocab) : List Nat → Nat → Option (Nat × Nat)
  | a :: b :: rest, i =>
    match v.merged a b, bestMerge v (b :: rest) (i + 1) with
    | some t, some (u, j) => if u < t then some (u, j) else some (t, i)
    | some t, none => some (t, i)
    | none, r => r
  | _, _ => none

/-- Merges applied while there are any, at most `fuel` (R219). -/
def mergeSeq (v : Vocab) : Nat → List Nat → List Nat
  | 0, seq => seq
  | fuel + 1, seq =>
    match bestMerge v seq 0 with
    | none => seq
    | some (t, i) => mergeSeq v fuel (seq.take i ++ t :: seq.drop (i + 2))

/-- Tokens of one piece (R219). -/
def pieceTokens (v : Vocab) (bs : List Byte) : List Nat := mergeSeq v bs.length (bs.map (·.toNat))

/-- Tokens of an input, and how many are byte tokens made under R217. -/
def tokenizeBytes (v : Vocab) (bs : List Byte) : List Nat × Nat :=
  let l := pieces v.presplit (bs.length + 1) [] bs
  (l.flatMap (fun p => if p.2 then p.1.map (·.toNat) else pieceTokens v p.1), (l.filter (·.2)).length)

/-! ### Stop strings -/

/-- Stop strings of a stop set (R222). -/
def stopSet (bs : List Byte) : List (List Byte) :=
  (List.range (fieldLE bs 0 1)).map (fun i => sub bs (16 + 72 * i) (fieldLE bs (8 + 72 * i) 1))

/-- A stop set obeys R222. -/
def stopSetOk (bs : List Byte) : Bool :=
  let n := fieldLE bs 0 1
  decide (bs.length = 584) && decide (n ≤ 8) && zeroRange bs 1 7 &&
  (List.range n).all (fun i =>
    let len := fieldLE bs (8 + 72 * i) 1
    decide (1 ≤ len) && decide (len ≤ 64) && zeroRange bs (9 + 72 * i) 7 && zeroRange bs (16 + 72 * i + len) (64 - len)) &&
  zeroRange bs (8 + 72 * n) (576 - 72 * n)

/-- A stop (R223): number, start in the history, bytes of the token discarded, index of the token. -/
structure StopHit where
  index : Nat
  start : Nat
  discarded : Nat
  token : Nat
  deriving DecidableEq, Repr

/-- The stop string that ends at the end of a history: the one that starts earliest, then the lowest number (R223). -/
def stopAt (set : List (List Byte)) (hist : List Byte) : Option (Nat × Nat) :=
  let ends := (List.range set.length).filter (fun i =>
    let w := set.getD i []
    decide (w ≠ []) && decide (w.length ≤ hist.length) && decide (hist.drop (hist.length - w.length) = w))
  let hits := ends.map (fun i => (hist.length - (set.getD i []).length, i))
  ((sortBy (fun (a b : Nat × Nat) => decide (a.1 < b.1) || (decide (a.1 = b.1) && decide (a.2 ≤ b.2))) hits).head?).map
    (fun h => (h.2, h.1))

/-- A token's bytes appended one at a time, up to the first stop (R223). -/
def appendBytes (set : List (List Byte)) (tokenIndex : Nat) : List Byte → List Byte → List Byte × Option StopHit
  | hist, [] => (hist, none)
  | hist, b :: bs =>
    match stopAt set (hist ++ [b]) with
    | some (i, a) => (hist ++ [b], some { index := i, start := a, discarded := bs.length, token := tokenIndex })
    | none => appendBytes set tokenIndex (hist ++ [b]) bs

/-- Tokens appended in order, up to the first stop (R223, R225). -/
def appendTokens (set : List (List Byte)) (bytesOf : Nat → List Byte) : Nat → List Byte → List Nat → List Byte × Option StopHit
  | _, hist, [] => (hist, none)
  | i, hist, t :: ts =>
    match appendBytes set i hist (bytesOf t) with
    | (h, some x) => (h, some x)
    | (h, none) => appendTokens set bytesOf (i + 1) h ts

/-- Bytes of the history that may be released while generation goes on (R224). -/
def releasable (set : List (List Byte)) (hist : List Byte) : Nat :=
  hist.length - (set.foldl (fun m w => max m w.length) 0 - 1)

/-- The stop report (R226). -/
def stopReport (h : StopHit) : List Byte :=
  toLE 1 h.index ++ toLE 1 h.discarded ++ zeros 2 ++ toLE 4 h.token ++ toLE 8 h.start

/-! ### Jobs -/

/-- The TEXT_STAGE record of a stage (R227). -/
def textRec (s : State) (p j : Nat) : Option Nat :=
  leastBelow (fun i => bit (reg s .text (0x200 + 8 * i)) 24 && decide (fld s .text (0x200 + 8 * i) 0 16 = p) &&
    decide (fld s .text (0x200 + 8 * i) 16 8 = j)) 16

/-- A request whose job breaks R229 or R230 completes with FAULT. -/
def textFault (s : State) (e : Nat) : State :=
  let s := bump (setFlag s .text 0x08 1) .text 0x328 1
  complete (endRequest s e stFault (now s)) e stFault

/-- Job parts cut from what one producer rank sent; `none` where a header breaks R228. -/
def parseJobs (e route : Nat) : Nat → List Byte → Option (List TextJob)
  | 0, _ => none
  | _ + 1, [] => some []
  | fuel + 1, b :: rest =>
    let bs := b :: rest
    let n := fieldLE bs 8 4
    if bs.length < 32 + n then none
    else
      let flags := fieldLE bs 2 1
      let j : TextJob :=
        { entry := e, kind := fieldLE bs 0 1, vocab := fieldLE bs 1 1, first := decide (flags % 2 = 1),
          last := decide (flags / 2 % 2 = 1), replyRank := fieldLE bs 3 1, job := fieldLE bs 4 4, route := route,
          reservedZero := decide (flags < 4) && zeroRange bs 12 20, bytes := sub bs 32 n }
      if j.kind = 1 ∨ j.kind = 2 then (parseJobs e route fuel (bs.drop (32 + n))).map (j :: ·) else none

/-- Input bytes and jobs of a list of parts (R230): a job counts with its first part. -/
def jobLoad (l : List TextJob) : Nat × Nat := (sumBy (fun j => j.bytes.length) l, (l.filter (·.first)).length)

/-- Job parts enter the engine at the boundary that opens a text stage's frame, unless they exceed the stage's limits
(R230). -/
def openText (s : State) (e p j : Nat) (jobs : List TextJob) : State :=
  let lim := match textRec s p j with
    | some i => (fld s .text (0x200 + 8 * i) 32 20, fld s .text (0x200 + 8 * i) 52 12)
    | none => (0, 0)
  let load := jobLoad jobs
  if lim.1 < load.1 ∨ lim.2 < load.2 then textFault s e
  else { s with text := { s.text with queue := s.text.queue ++ jobs } }

/-- The route by which a text stage sends its output (R229). -/
def outRoute (s : State) (p j : Nat) : Nat :=
  match s.img.image with
  | some i => (leastBelow (fun n =>
      match i.routes[n]? with
      | some r => decide (r.srcPipeline = p) && decide (r.srcStage = j)
      | none => false) i.routes.length).getD 0xFFFF
  | none => 0xFFFF

/-- What a request's producers sent to a text stage, by ascending rank and in send order (R229); a first stage reads the
submission's data (R227, log entry 24). -/
def textInput (s : State) (e : Nat) (r : Request) (j : Nat) : List (List Byte) × List Token :=
  if j = 0 then ([r.input], [])
  else
    let mine := s.dome.filter (fun k => decide (k.entry = e) && (match routeAt s k.route with
      | some q => decide (q.dstPipeline = r.pipeline) && decide (q.dstStage = j)
      | none => false))
    let sorted := sortBy (fun a b => decide (a.srcRank ≤ b.srcRank)) mine
    ((asSet (mine.map (·.srcRank))).map (fun k => (sorted.filter (fun t => decide (t.srcRank = k))).flatMap (·.data)), mine)

/-- Every job that one producer rank sent ends with its LAST part (R229). -/
def jobsWhole : List TextJob → Bool
  | [] => true
  | j :: r => (j :: r).any (fun k => decide (k.job = j.job) && k.last) && jobsWhole r

/-- A request's text stage opens its frame (R228 to R230): a job without its LAST part is a missing input, which leaves what
was sent where it is, and a broken header completes the request with FAULT. -/
def openStage (s : State) (e : Nat) (r : Request) (j : Nat) : State :=
  let input := textInput s e r j
  let parsed := input.1.map (fun bs => parseJobs e (outRoute s r.pipeline j) (bs.length + 1) bs)
  let taken := giveBack { s with dome := s.dome.filter (fun k => !(input.2.contains k)) } input.2
  if parsed.any (·.isNone) then textFault taken e
  else if parsed.any (fun l => !(jobsWhole (l.getD []))) then missed (stall s 1 r.ctx 0x0600 e) e
  else openText taken e r.pipeline j (parsed.filterMap id).flatten

/-- The text stages of the frame that begins, in ascending entry; a serving stage's companion takes its jobs from the
serving stage. -/
def openTexts (s : State) : State :=
  (s.reqs.map (·.1)).foldl (fun s e =>
    match reqAt s e with
    | none => s
    | some r =>
      match pipeOf s r.pipeline with
      | none => s
      | some p =>
        (List.range p.stages.length).foldl (fun s j =>
          match reqAt s e with
          | some r =>
            if alive r ∧ r.state ≠ .pending ∧ isTextStage s r.pipeline j ∧ (planStep r j (now s)).isSome ∧
                !(r.gen.isSome ∧ companionOf s r.pipeline = some j) then openStage s e r j
            else s
          | none => s) s) s

/-- The parts of a job that have run. -/
def openJob (s : State) (e job : Nat) : Option OpenJob :=
  s.text.jobs.find? (fun o => decide (o.entry = e) && decide (o.job = job))

/-- A TOKENIZE job of a search after its shortlist, in the search's vocabulary: a passage of the final list (R184). -/
def packing (r : Request) (j : TextJob) : Bool := r.shortlist.isSome && r.search.any (fun b => !b.noPack && decide (b.vocab = j.vocab))

/-- A job's bytes so far, with those of a part. -/
def jobBytes (s : State) (j : TextJob) : List Byte := ((openJob s j.entry j.job).map (·.bytes)).getD [] ++ j.bytes

/-- The jobs but one. -/
def jobsBut (s : State) (j : TextJob) : List OpenJob :=
  s.text.jobs.filter (fun o => !(decide (o.entry = j.entry) && decide (o.job = j.job)))

/-- A part that is not the last: its bytes join the job (R228). -/
def keepPart (s : State) (j : TextJob) : State :=
  { s with text := { s.text with
    jobs := jobsBut s j ++ [{ entry := j.entry, kind := j.kind, job := j.job, bytes := jobBytes s j }] } }

/-- A TOKENIZE part: its bytes join the job, and the last one gives the output (R219, R220, R229). -/
def runTokenize (s : State) (j : TextJob) (v : Vocab) : State :=
  let bytes := jobBytes s j
  let s := bump s .text 0x308 j.bytes.length
  if j.last = false then keepPart s j
  else
    let t := tokenizeBytes v bytes
    let out := toLE 4 j.job ++ toLE 4 t.1.length ++ toLE 4 t.2 ++ zeros 20 ++ t.1.flatMap (toLE 4)
    let s := { s with text := { s.text with
      jobs := jobsBut s j, outputs := s.text.outputs ++ [(j.entry, j.route, j.replyRank, out)] } }
    let s := updReq s j.entry (fun r => if packing r j then { r with packed := tset r.packed j.job t.1 } else r)
    let s := bump (bump s .text 0x300 1) .text 0x310 t.1.length
    if t.2 = 0 then s else bump (setFlag s .text 0x08 2) .text 0x318 t.2

/-- A result fragment of a text job: bytes of the output, with the header of R258 for a generation request. -/
def textFragment (s : State) (e : Nat) (r : Request) (first generated : Nat) (bs : List Byte) : State :=
  if bs = [] then s
  else
    let head := if r.gen.isSome then toLE 8 first ++ toLE 4 bs.length ++ toLE 4 generated else []
    { s with hold := s.hold ++ [{ entry := e, bytes := head ++ bs, frame := now s }] }

/-- The tokens of a DETOKENIZE job: their bytes join the history up to a stop, and what no stop string can still begin at
is released (R221, R223 to R226, R258). -/
def detokenize (s : State) (j : TextJob) (v : Vocab) (r : Request) (toks : List Nat) : State :=
  let set := match r.gen with
    | some g => stopSet g.stop
    | none => []
  let res := appendTokens set v.bytes r.detok r.hist toks
  let upto := match res.2 with
    | some h => h.start
    | none => if r.endReason.isSome then res.1.length else max r.released (releasable set res.1)
  let s := bump s .text 0x300 1
  let s := if res.2.isSome then bump s .text 0x320 1 else s
  let generated := match res.2 with
    | some h => h.token + 1
    | none => r.detok + toks.length
  let s := textFragment s j.entry r r.released generated ((res.1.take upto).drop r.released)
  let r := match res.2, r.gen with
    | some h, some _ => { r with generated := h.token + 1, tokens := r.tokens.take (h.token + 1), length := r.promptLen + h.token }
    | _, _ => r
  setReq s j.entry { r with hist := res.1, released := max r.released upto, detok := r.detok + toks.length,
                            stop := res.2.map stopReport, endReason := if res.2.isSome then some 0 else r.endReason,
                            produced := if r.gen.isSome ∧ (res.2.isSome ∨ r.endReason.isSome) then some (now s) else r.produced }

/-- A DETOKENIZE part: its tokens join the job, and the last one runs it (R228). -/
def runDetokenize (s : State) (j : TextJob) (v : Vocab) (r : Request) : State :=
  let bytes := jobBytes s j
  if j.last = false then keepPart s j
  else detokenize { s with text := { s.text with jobs := jobsBut s j } } j v r (unpackWords 4 (bytes.length / 4) bytes)

/-- A job part runs (R229). -/
def runJob (s : State) (j : TextJob) : State :=
  match reqAt s j.entry, vocabAt s j.vocab with
  | none, _ => s
  | some _, none => textFault s j.entry
  | some r, some v =>
    let opened := (openJob s j.entry j.job).isSome
    let badToken := decide (j.kind = 2) && (decide (j.bytes.length % 4 ≠ 0) ||
      (unpackWords 4 (j.bytes.length / 4) j.bytes).any (fun t => decide (v.recs.length ≤ t)))
    if r.produced.isSome then s
    else if j.reservedZero = false ∨ j.first = opened ∨ badToken ∨
        (openJob s j.entry j.job).any (fun o => decide (o.kind ≠ j.kind)) then
      textFault s j.entry
    else if j.kind = 1 then runTokenize s j v
    else runDetokenize s j v r

/-- A text command: the engine takes the oldest part of its entry, which is the one the command names (R229). A unit whose
lanes disagree is a dangerous failure (R231). -/
def textCommand (kind : Nat) (j : TextJob) (lane : Option Nat) (s : State) : Res :=
  if (lane.getD 0) ≥ 8 ∨ j.kind ≠ kind then malformed "job"
  else if enabled s .text = false ∨ s.text.queue.find? (fun q => decide (q.entry = j.entry)) ≠ some j then .next s
  else
    let s := { s with text := { s.text with queue := s.text.queue.erase j } }
    let s := runJob s j
    match lane with
    | none => .next s
    | some u =>
      .next (detect (setFlag s .text 0x08 3)
        { mech := 0x02, action := 0, unit := 0x0600, key := some (0x100000 + u), ctx := 0xFF, entry := j.entry, detail := 0,
          affected := [j.entry] })

/-- TOKENIZE (R219, R220, R229 to R231). -/
def execTokenize (j : TextJob) (lane : Option Nat) (s : State) : Res := textCommand 1 j lane s

/-- DETOKENIZE (R221 to R226, R229, R231). -/
def execDetokenize (j : TextJob) (lane : Option Nat) (s : State) : Res := textCommand 2 j lane s

/-- Output tokens of a text stage, each in a buffer of its own. -/
def outputToken (s : State) (k : Nat) (o : Nat × Nat × Nat × List Byte) : Option Token :=
  (reqAt s o.1).map (fun r => { domeToken s o.1 r o.2.1 o.2.2.1 o.2.2.2 with buffer := k, last := false })

/-- A frame of the engine ends: what no command ran runs in its order (R230), the outputs are sent (R229), and the text
stages of frame `f` are complete. -/
def closeTexts (s : State) (f : Nat) : State :=
  let s := (s.text.queue).foldl (fun s j => if s.text.queue.contains j then
    runJob { s with text := { s.text with queue := s.text.queue.erase j } } j else s) s
  let outs := s.text.outputs
  let s := { s with text := { queue := [], jobs := [], outputs := [] } }
  let toks := ((List.range outs.length).zip outs).filterMap (fun q =>
    let before := (outs.take q.1).filter (fun o => decide (o.1 = q.2.1) && decide (o.2.1 = q.2.2.1) &&
      decide (o.2.2.1 = q.2.2.2.1))
    outputToken s before.length q.2)
  let entries := asSet (toks.map (·.entry))
  let s := entries.foldl (fun s e => (markLast (toks.filter (fun k => decide (k.entry = e)))).foldl deliver_ s) s
  { s with reqs := s.reqs.map (fun p =>
      (p.1, match pipeOf s p.2.pipeline with
        | none => p.2
        | some q => (List.range q.stages.length).foldl (fun r j =>
            if alive r ∧ isTextStage s r.pipeline j ∧ planStep r j f = some 0 ∧
                !(r.gen.isSome ∧ companionOf s r.pipeline = some j) then { r with steps := tset r.steps (j * 65536) 1 }
            else r) p.2)) }

/-! ### Search results -/

/-- A result fragment of a search: one that is the final list leaves as the search result (R185); any other as it is. -/
def searchFragment (s : State) (x : Fragment) : Fragment :=
  match (reqAt s x.entry).bind (fun r => r.search.map (fun b => (r, b))) with
  | some (r, b) =>
    if x.frame + 1 = now s ∧ isFinalList b x.bytes then
      match vocabAt s b.vocab with
      | some v => { x with bytes := resultOf s r b v.opening v.closing (selParse x.bytes) }
      | none => x
    else x
  | none => x

/-- The results of the searches whose last tasks have just published. -/
def formResults (s : State) : State := { s with hold := s.hold.map (searchFragment s) }

end Sys2Proof.Machine
end

