-- ==== Sys2Proof/Machine/Serving.lean ====
section
/-! DEFINITION. Generation serving (chapter 10): serving stages, KV pages and the prefix tree, prefill and speculative
decode steps, the choice of a token, model variants and their swaps, and the head of a request table entry. -/

namespace Sys2Proof.Machine

/-! ### Records -/

/-- A field of word 0 of a GEN_STAGE record (R266). -/
def genChunk (s : State) (g : Nat) : Nat := fld s .reqtab (0x200 + 16 * g) 32 10
def genLanes (s : State) (g : Nat) : Nat := fld s .reqtab (0x200 + 16 * g) 42 7
def genTokens (s : State) (g : Nat) : Nat := fld s .reqtab (0x208 + 16 * g) 0 16
def genLookup (s : State) (g : Nat) : Nat := fld s .reqtab (0x208 + 16 * g) 16 9

/-- The GEN_VARIANT record of a model variant (R259). -/
def variantRec (s : State) (ref : Nat) : Option Nat :=
  leastBelow (fun v => bit (reg s .reqtab (0x400 + 16 * v)) 36 && decide (fld s .reqtab (0x400 + 16 * v) 0 16 = ref)) 32

/-- A variant is fixed (R259). -/
def variantFixed (s : State) (v : Nat) : Bool := bit (reg s .reqtab (0x400 + 16 * v)) 35

/-- Region of a swappable variant. -/
def variantRegion (s : State) (v : Nat) : Nat := fld s .reqtab (0x400 + 16 * v) 32 3

/-- MAX_TOKENS of a variant. -/
def variantTokens (s : State) (v : Nat) : Nat := fld s .reqtab (0x408 + 16 * v) 32 18

/-- Granules that a variant's page needs (R243). -/
def variantGranules (s : State) (v : Nat) : Nat := ceilDiv (128 + 16 * fld s .reqtab (0x408 + 16 * v) 0 32) 2048

/-- Pages and page size of a context's pool (R243). -/
def poolPages (s : State) (c : Nat) : Nat := fld s .reqtab (0x708 + 16 * c) 0 32
def poolGranules (s : State) (c : Nat) : Nat := fld s .reqtab (0x708 + 16 * c) 32 16

/-- The serving record of a request's pipeline. -/
def requestGen (s : State) (r : Request) : Option Nat := (servingStage s r.pipeline).bind (servingRec s r.pipeline)

/-- Frames of a generation request's prefill, fp of R237. -/
def prefillFrames (s : State) (g : Nat) (b : GenBlock) : Nat := ceilDiv b.promptMax (max 1 (genChunk s g))

/-- Page footprint of a generation request (R246). -/
def footprint (b : GenBlock) : Nat := ceilDiv (b.promptMax + b.maxNew) 16 + 1

/-- The frame of its serving stage that a request has in frame `n`: 0 the lookup, 1 to fp a prefill chunk, then a decode
step (R252). -/
def servIndex (s : State) (r : Request) (n : Nat) : Option Nat := (servingStage s r.pipeline).bind (fun j => planStep r j n)

/-! ### Pages -/

/-- Key of a page. -/
def pageKey (c p : Nat) : Nat := c * 2 ^ 32 + p

/-- Reference count of a page (R245). -/
def pageRefs (s : State) (c p : Nat) : Nat := tgetD s.serv.refs (pageKey c p) 0

/-- Reference count of a page written. -/
def setRefs (s : State) (c p n : Nat) : State :=
  { s with serv := { s.serv with refs := tsetD s.serv.refs (pageKey c p) n 0 } }

/-- One more reference. -/
def takeRef (c : Nat) (s : State) (p : Nat) : State := setRefs s c p (pageRefs s c p + 1)

/-- One reference less; a page without one is free (R245). -/
def dropRef (c : Nat) (s : State) (p : Nat) : State := setRefs s c p (pageRefs s c p - 1)

/-- The node of a page in its context's trees. -/
def nodeOf (s : State) (c p : Nat) : Option PrefixNode :=
  s.serv.tree.find? (fun n => decide (n.ctx = c) && decide (n.page = p))

/-- The node that an allocation evicts: the oldest last use, then the lowest page (R250). -/
def evictable (s : State) (c : Nat) : Option PrefixNode :=
  let l := s.serv.tree.filter (fun n => decide (n.ctx = c) && decide (pageRefs s c n.page = 1) &&
    !(s.serv.tree.any (fun m => decide (m.ctx = c) && decide (m.parent = some n.page))))
  (sortBy (fun a b => decide (a.lastUse < b.lastUse) || (decide (a.lastUse = b.lastUse) && decide (a.page ≤ b.page))) l).head?

/-- A node evicted and its page freed (R250). -/
def evict (s : State) (n : PrefixNode) : State :=
  let s := dropRef n.ctx { s with serv := { s.serv with tree := s.serv.tree.filter (fun m => decide (m ≠ n)) } } n.page
  bump (setFlag s .ptree 0x08 1) .ptree 0x30 1

/-- The lowest free page of a context's pool. -/
def freePage (s : State) (c : Nat) : Option Nat := leastBelow (fun p => decide (pageRefs s c p = 0)) (poolPages s c)

/-- A page allocated, evicting a node where none is free (R245, R250). -/
def allocPage (s : State) (c : Nat) : State × Option Nat :=
  match freePage s c with
  | some p => (takeRef c s p, some p)
  | none =>
    match evictable s c with
    | none => (s, none)
    | some n =>
      let s := evict s n
      match freePage s c with
      | some p => (takeRef c s p, some p)
      | none => (s, none)

/-- T1 address of a page (R243). -/
def pageAddr (s : State) (c p : Nat) : Nat := (reg s .reqtab (0x700 + 16 * c)).toNat + p * poolGranules s c * 2048

/-- The list page of a request written (R244). -/
def writeList (s : State) (e : Nat) : State :=
  match reqAt s e with
  | some r =>
    (match r.pageHead with
     | some h => t1Write s r.ctx (pageAddr s r.ctx h) (toLE 4 r.pages.length ++ zeros 4 ++ r.pages.flatMap (toLE 4))
     | none => s)
  | none => s

/-- Data pages of a request up to `n` of them. -/
def growPages (e n : Nat) : Nat → State → State
  | 0, s => s
  | fuel + 1, s =>
    match reqAt s e with
    | none => s
    | some r =>
      if n ≤ r.pages.length then s
      else
        match allocPage s r.ctx with
        | (s, some p) => growPages e n fuel (updReq s e (fun r => { r with pages := r.pages ++ [p] }))
        | (s, none) => s

/-- The references of a request released, and its acceptance estimate written back where its production ended (R245, R251
step 1, R255); an estimate that a decode step took is never 0. -/
def releasePages (s : State) (e : Nat) : State :=
  match reqAt s e with
  | none => s
  | some r =>
    let s := (r.pages ++ r.pageHead.toList).foldl (dropRef r.ctx) s
    let s := match requestGen s r with
      | some g => if r.produced.isSome ∧ r.acceptEst ≠ 0#32 then
          { s with serv := { s.serv with est := tset s.serv.est (r.ctx * 16 + g) r.acceptEst } } else s
      | none => s
    updReq s e (fun r => { r with pages := [], pageHead := none })

/-- The data pages that a rollback freed: those whose first position is at or beyond LENGTH (R254). -/
def rollBack (s : State) (e : Nat) : State :=
  match reqAt s e with
  | none => s
  | some r =>
    let keep := ceilDiv r.length 16
    let gone := r.pages.drop keep
    if gone = [] then s
    else
      let s := gone.foldl (dropRef r.ctx) s
      let s := bump s .reqtab 0x38 gone.length
      writeList (updReq s e (fun r => { r with pages := r.pages.take keep })) e

/-- Token at a position of a request. -/
def tokenAt (r : Request) (p : Nat) : Nat := if p < r.promptLen then r.prompt.getD p 0 else r.tokens.getD (p - r.promptLen) 0

/-- The 16 tokens of a block. -/
def blockTokens (r : Request) (i : Nat) : List Nat := (List.range 16).map (fun k => tokenAt r (16 * i + k))

/-- The node of a block under a parent (R247). -/
def childNode (s : State) (c variant : Nat) (parent : Option Nat) (toks : List Nat) : Option PrefixNode :=
  s.serv.tree.find? (fun n => decide (n.ctx = c) && decide (n.variant = variant) && decide (n.parent = parent) &&
    decide (n.tokens = toks))

/-- One page of a request entered into the tree (R249). -/
def insertPage (s : State) (e variant : Nat) (i : Nat) : State :=
  match reqAt s e with
  | none => s
  | some r =>
    let page := r.pages.getD i 0
    let parent := if i = 0 then none else some (r.pages.getD (i - 1) 0)
    let parentIn := match parent with
      | none => true
      | some p => (nodeOf s r.ctx p).isSome
    if parentIn = false ∨ (nodeOf s r.ctx page).isSome ∨ (childNode s r.ctx variant parent (blockTokens r i)).isSome then s
    else
      let n : PrefixNode := { ctx := r.ctx, variant := variant, page := page, parent := parent, tokens := blockTokens r i,
                              lastUse := now s }
      bump (takeRef r.ctx { s with serv := { s.serv with tree := s.serv.tree ++ [n] } } page) .ptree 0x28 1

/-- The pages of a request that have become whole since the last boundary enter the tree in position order, or stay private
(R249). -/
def insertPages (s : State) (e : Nat) : State :=
  match reqAt s e with
  | none => s
  | some r =>
    match r.gen, requestGen s r with
    | some b, some g =>
      if alive r = false then s
      else
        let whole := min r.pages.length (r.length / 16)
        let fresh := if genLookup s g = 0 ∨ enabled s .ptree = false then []
          else (List.range whole).filter (fun i => decide (r.entered ≤ i))
        updReq (fresh.foldl (fun s i => insertPage s e b.variant i) s) e (fun r => { r with entered := max r.entered whole })
    | _, _ => s

/-- The nodes that match the leading blocks of a prompt, at most `fuel` of them (R248). -/
def matchBlocks (s : State) (c variant : Nat) (r : Request) : Nat → Nat → Option Nat → List PrefixNode
  | 0, _, _ => []
  | fuel + 1, i, parent =>
    match childNode s c variant parent (blockTokens r i) with
    | some n => n :: matchBlocks s c variant r fuel (i + 1) (some n.page)
    | none => []

/-! ### The prompt and its lookup -/

/-- Token numbers of a byte string. -/
def wordsOf (bs : List Byte) : List Nat := unpackWords 4 (bs.length / 4) bs

/-- Tokens that brought a request's prompt to its serving stage. -/
def promptMsgs (s : State) (e : Nat) (r : Request) (j : Nat) : List Token :=
  sortBy (fun a b => decide (a.route < b.route) || (decide (a.route = b.route) && decide (a.srcRank ≤ b.srcRank)))
    ((s.tiles.flatMap (·.2.inbox)).filter (fun k => decide (k.entry = e) && (match routeAt s k.route with
      | some q => decide (q.dstPipeline = r.pipeline) && decide (q.dstStage = j)
      | none => false)))

/-- The prompt of a request, if it is complete: the submission's data where the serving stage is the first, otherwise what
its producers sent, a text stage's output without its header (R239, log entry 25). -/
def promptOf (s : State) (e : Nat) (r : Request) (j : Nat) : Option (List Nat) :=
  if j = 0 then some ((wordsOf r.input).map (· % 2 ^ 18))
  else
    let l := promptMsgs s e r j
    let srcs : List (Nat × RouteRec) := match s.img.image with
      | some i => ((List.range i.routes.length).zip i.routes).filter (fun q => decide (q.2.dstPipeline = r.pipeline) &&
          decide (q.2.dstStage = j))
      | none => []
    let whole : Bool := !srcs.isEmpty && srcs.all (fun q => (List.range (producers s q.2)).all (fun a =>
      l.any (fun k => decide (k.route = q.1) && decide (k.srcRank = a) && k.last)))
    if whole then
      some (l.flatMap (fun k =>
        let text := match routeAt s k.route with
          | some q => isTextStage s q.srcPipeline q.srcStage
          | none => false
        wordsOf (if text then k.data.drop 32 else k.data)))
    else none

/-- A generation request completes with FAULT (R237, R239, R256). -/
def genFault (s : State) (e : Nat) : State :=
  complete (endRequest s e stFault (now s)) e stFault

/-- The tiles of the slot that serves a request. -/
def slotTiles (s : State) (r : Request) (j : Nat) : List Nat :=
  (s.tiles.filter (fun p => p.2.serves.any (fun q => decide (q.pipeline = r.pipeline) && decide (q.stage = j) &&
    decide (q.slot = r.slots.getD j 0xFF)))).map (·.1)

/-- A prompt that is not complete is a missing input on every tile of the slot (R121, R239). -/
def promptMissing (s : State) (e : Nat) (r : Request) (j : Nat) : State :=
  missed ((slotTiles s r j).foldl (fun s t => inputMissing s t e r 1) s) e

/-- Frame f0 of a request: the prompt arrives and is looked up in the tree (R239, R248). -/
def lookUp (s : State) (e : Nat) : State :=
  match reqAt s e with
  | none => s
  | some r =>
    match r.gen, servingStage s r.pipeline, requestGen s r with
    | some b, some j, some g =>
      match promptOf s e r j with
      | none => promptMissing s e r j
      | some prompt =>
        let msgs := promptMsgs s e r j
        let s := giveBack { s with tiles := s.tiles.map (fun p =>
          (p.1, { p.2 with inbox := p.2.inbox.filter (fun k => !(msgs.contains k)) })) } msgs
        if prompt = [] ∨ b.promptMax < prompt.length then genFault s e
        else
          let r := { r with prompt := prompt, promptLen := prompt.length }
          let look := decide (0 < genLookup s g) && enabled s .ptree
          let m := if look then matchBlocks s r.ctx b.variant r (min (genLookup s g) ((prompt.length - 1) / 16)) 0 none else []
          let s := if look then bump (bump s .ptree 0x18 1) .ptree 0x20 m.length else s
          let s := m.foldl (fun s n => takeRef r.ctx s n.page) s
          let s := { s with serv := { s.serv with tree := s.serv.tree.map (fun n =>
            if m.contains n then { n with lastUse := now s } else n) } }
          setReq s e { r with pages := m.map (·.page), sharedPages := m.length, prefillPos := 16 * m.length }
    | _, _, _ => s

/-! ### Drafting -/

/-- One half and one eighth. -/
def half : FNum := .fin false 1 (-1)
def eighth : FNum := .fin false 1 (-3)

/-- FP32 value of 0.5 (R255). -/
def estReset : BitVec 32 := 0x3F000000#32

/-- The estimate after a step (R255). -/
def estNext (e : BitVec 32) (m d : Nat) : BitVec 32 :=
  let ratio := rne32 (divNum (ofInt m 0) (ofInt d 0))
  let diff := rne32 (addNum ratio (negNum (num32 e)))
  BitVec.ofNat 32 (toFloat fp32 false (addNum (num32 e) (mulNum diff eighth)))

/-- ⌊8 × e + 0.5⌋ of an estimate (R255). -/
def draftWish (e : BitVec 32) : Nat :=
  match addNum (mulNum (num32 e) (ofInt 8 0)) half with
  | .fin false m x => if 0 ≤ x then m <<< x.toNat else m >>> (-x).toNat
  | _ => 0

/-- DRAFT_LEN of a decode step (R253, R255). -/
def decideDraft (s : State) (e : Nat) : State :=
  match reqAt s e with
  | none => s
  | some r =>
    match r.gen, requestGen s r with
    | some b, some g =>
      let r := if r.generated = 1 then { r with acceptEst := tgetD s.serv.est (r.ctx * 16 + g) estReset } else r
      let top := ((variantRec s b.variant).map (variantTokens s)).getD 0
      let wish := if b.speculate = false ∨ r.draftOff then 0 else min 8 (max 1 (draftWish r.acceptEst))
      setReq s e { r with draftLen := min wish (min (b.maxNew - r.generated - 1) (top - r.length - 2)) }
    | _, _ => s

/-- The drafting state after a step with D drafts of which m were accepted (R255). -/
def draftStep (s : State) (r : Request) (b : GenBlock) (d m : Nat) : State × Request :=
  if b.speculate = false then (s, r)
  else if r.draftOff then
    if 64 ≤ r.plainSteps + 1 then (s, { r with draftOff := false, rejectRun := 0, plainSteps := 0, acceptEst := estReset })
    else (s, { r with plainSteps := r.plainSteps + 1 })
  else if d = 0 then (s, r)
  else
    let r := { r with acceptEst := estNext r.acceptEst m d, rejectRun := if m = 0 then r.rejectRun + 1 else 0 }
    if r.rejectRun = 4 then (setFlag s .reqtab 0x08 2, { r with draftOff := true }) else (s, r)

/-! ### The choice of a token -/

/-- The draw for a position, in units of 2^-24 (R256). -/
def drawU (seed p : Nat) : Nat :=
  let w := 2 ^ 64
  let x := (seed % w) ^^^ (p * 0x9E3779B97F4A7C15 % w)
  let x := (x ^^^ (x >>> 30)) * 0xBF58476D1CE4E5B9 % w
  let x := (x ^^^ (x >>> 27)) * 0x94D049BB133111EB % w
  (x ^^^ (x >>> 31)) >>> 40

/-- The main model's choice at a position from the logits of the one before; `none` when every logit is NaN (R256). -/
def choose (b : GenBlock) (p : Nat) (logits : List (BitVec 32)) : Option Nat :=
  let all := ((List.range logits.length).zip logits).map (fun q => ({ index := q.1, key := q.2.toNat, source := 0 } : SelEntry))
  let sel := (selectBest 0 false (if b.sample then max 1 b.topK else 1) all).entries
  match sel with
  | [] => none
  | first :: _ =>
    if b.sample = false then some first.index
    else
      let l0 := numOf 8 first.key
      let ws := sel.map (fun e => rne32 (expNum (rne32 (divNum (rne32 (addNum (numOf 8 e.key) (negNum l0))) (num32 b.temp)))))
      let cs := (List.range ws.length).map (fun i => (ws.take (i + 1)).foldl (fun c w => rne32 (addNum c w)) .zero)
      let bar := rne32 (mulNum (.fin false (drawU b.seed p) (-24)) (cs.getLast?.getD .zero))
      match (List.range cs.length).find? (fun i => ltNum bar (cs.getD i .zero)) with
      | some i => (sel[i]?).map (·.index)
      | none => (sel.getLast?).map (·.index)

/-- The choices of a step from position `p` on: drafts are followed while they agree, up to the END_TOKEN (R253, R257), and
whether a choice was reached whose logits are all NaN (R256). -/
def choices (b : GenBlock) (endTok : Nat) : Nat → List Nat → List (List (BitVec 32)) → List Nat × Bool
  | _, _, [] => ([], false)
  | p, drafts, row :: rows =>
    match choose b p row with
    | none => ([], true)
    | some c =>
      match drafts with
      | d :: ds =>
        if d = c ∧ c ≠ endTok then
          let r := choices b endTok (p + 1) ds rows
          (c :: r.1, r.2)
        else ([c], false)
      | [] => ([c], false)

/-- END_TOKEN of a generation request's vocabulary. -/
def endTokenOf (s : State) (b : GenBlock) : Nat := ((vocabAt s b.vocab).map (·.endToken)).getD 0xFFFFFFFF

/-- A stop completes in the tokens of a request that the companion has not yet taken, followed by `toks`: what comes after it
is not generated, whatever its logits (R257, R264). -/
def stopsIn (s : State) (r : Request) (b : GenBlock) (toks : List Nat) : Bool :=
  match vocabAt s b.vocab with
  | some v => (appendTokens (stopSet b.stop) v.bytes r.detok r.hist (r.tokens.drop r.detok ++ toks)).2.isSome
  | none => false

/-- Tokens of a step that are generated, up to the one that ends generation, and its END_REASON (R257). -/
def takeTokens (maxNew topTokens endToken promptLen : Nat) : Nat → List Nat → List Nat × Option Nat
  | _, [] => ([], none)
  | generated, t :: ts =>
    let g := generated + 1
    if t = endToken then ([t], some 1)
    else if maxNew ≤ g then ([t], some 2)
    else if topTokens ≤ promptLen + g then ([t], some 3)
    else
      let r := takeTokens maxNew topTokens endToken promptLen g ts
      (t :: r.1, r.2)

/-- The tokens of a step sent to the companion for its next frame (R228, R252). -/
def emitTokens (s : State) (e : Nat) (r : Request) (b : GenBlock) (toks : List Nat) : State :=
  match companionOf s r.pipeline with
  | none => s
  | some c =>
    openText s e r.pipeline c
      [{ entry := e, kind := 2, vocab := b.vocab, first := true, last := true, replyRank := 0, job := 0, route := 0xFFFF,
         reservedZero := true, bytes := toks.flatMap (toLE 4) }]

/-- Generated tokens joined to a request: GENERATED, LENGTH and END_REASON (R253, R257). -/
def generate (s : State) (e : Nat) (r : Request) (b : GenBlock) (toks : List Nat) : State :=
  let top := ((variantRec s b.variant).map (variantTokens s)).getD 0
  let endTok := endTokenOf s b
  let t := takeTokens b.maxNew top endTok r.promptLen r.generated toks
  let r := { r with tokens := r.tokens ++ t.1, generated := r.generated + t.1.length,
                    length := r.promptLen + r.generated + t.1.length - 1,
                    endReason := if t.2.isSome then t.2 else r.endReason }
  emitTokens (setReq s e r) e r b t.1

/-- What a decode step counts, and the drafting state after it (R255, R266). -/
def countStep (s : State) (r : Request) (b : GenBlock) (m : Nat) : State × Request :=
  draftStep (bump (bump (bump s .reqtab 0x20 1) .reqtab 0x28 r.draftLen) .reqtab 0x30 m) r b r.draftLen m

/-- What the models of a request's lane give a step with `k` drafts: the drafts, and one logits row for each choice; free
values where they report none of that form (log entry 103). -/
def outputOf (s : State) (e k : Nat) (ins : List DecodeIn) : State × DecodeIn :=
  match ins.find? (fun d => decide (d.entry = e) && decide (d.drafts.length = k) && decide (d.logits.length = k + 1)) with
  | some d => (s, d)
  | none =>
    ({ s with fresh := s.fresh + 1 },
     { entry := e, drafts := (List.range k).map (Config.draftToken s.fresh),
       logits := (List.range (k + 1)).map (Config.logitsRow s.fresh) })

/-- The decode step of the frame in which the companion finds a stop: it runs, and its tokens are discarded and not generated
(R225, R257). It began at the length that the tokens sent to the companion gave. -/
def discardedStep (s : State) (e : Nat) (r : Request) (b : GenBlock) (ins : List DecodeIn) : State :=
  let o := outputOf s e r.draftLen ins
  let m := (choices b (endTokenOf s b) (r.promptLen + r.detok) o.2.drafts o.2.logits).1.length - 1
  let q := countStep o.1 r b m
  setReq q.1 e q.2

/-- The chunk that reaches PROMPT_LEN chooses the first token from its last row of logits (R252, R256). -/
def firstToken (s : State) (e : Nat) (r : Request) (b : GenBlock) (ins : List DecodeIn) : State :=
  let o := outputOf s e 0 ins
  match choose b r.promptLen (o.2.logits.headD []) with
  | some t => generate o.1 e { r with prefillPos := r.promptLen, length := r.promptLen } b [t]
  | none => genFault o.1 e

/-- One decode step (R253): the tokens emitted, or FAULT where a row of logits it reaches is all NaN (R256). -/
def decodeStep (s : State) (e : Nat) (r : Request) (b : GenBlock) (ins : List DecodeIn) : State :=
  let o := outputOf s e r.draftLen ins
  let c := choices b (endTokenOf s b) (r.length + 1) o.2.drafts o.2.logits
  if c.2 ∧ stopsIn s r b c.1 = false then genFault o.1 e
  else
    let q := countStep o.1 r b (c.1.length - 1)
    rollBack (generate q.1 e q.2 b c.1) e

/-- What a request's lane did in the frame that ended, from what its models produced (R252, R253). -/
def laneFrame (n : Nat) (ins : List DecodeIn) (s : State) (e : Nat) : State :=
  match reqAt s e with
  | none => s
  | some r =>
    match r.gen, requestGen s r, servIndex s r n with
    | some b, some g, some i =>
      let fp := prefillFrames s g b
      if r.endReason = some 0 ∧ r.produced = some n ∧ fp < i then discardedStep s e r b ins
      else if alive r = false ∨ r.endReason.isSome ∨ r.promptLen = 0 ∨ i = 0 then s
      else if fp < i then decodeStep s e r b ins
      else if r.promptLen ≤ r.prefillPos then s
      else if r.prefillPos + genChunk s g < r.promptLen then
        setReq s e { r with prefillPos := r.prefillPos + genChunk s g }
      else firstToken s e r b ins
    | _, _, _ => s

/-- Every serving lane over the frame `n` that ended, in ascending entry. -/
def laneFrames (s : State) (n : Nat) (ins : List DecodeIn) : State := (s.reqs.map (·.1)).foldl (laneFrame n ins) s

/-! ### The boundary -/

/-- Pages that a request's work in frame `f` may write (R251 step 4). -/
def growFor (s : State) (f e : Nat) : State :=
  match reqAt s e with
  | none => s
  | some r =>
    match r.gen, requestGen s r, servIndex s r f with
    | some b, some g, some i =>
      if alive r = false ∨ r.endReason.isSome ∨ r.promptLen = 0 then s
      else
        let s := if r.pageHead.isSome then s
          else
            match allocPage s r.ctx with
            | (s, some p) => updReq s e (fun r => { r with pageHead := some p })
            | (s, none) => s
        let upto := if i ≤ prefillFrames s g b then ceilDiv r.promptLen 16 else (r.length + r.draftLen) / 16 + 1
        if upto ≤ r.pages.length ∧ r.pageHead.isSome then s
        else writeList (growPages e upto (upto + 1) s) e
    | _, _, _ => s

/-- The serving state at the boundary that opens frame `f` (R251); pages of tokens that a stop dropped are freed as a
rollback's (R225), the lookups of requests whose f0 is that frame before
step 4, so that what they match is not evicted. -/
def servingBoundary (s : State) : State :=
  let f := now s
  let es := s.reqs.map (·.1)
  let ended (s : State) (e : Nat) : State :=
    match reqAt s e with
    | some r =>
      if alive r = false ∧ (r.pageHead.isSome ∨ r.pages ≠ []) then
        releasePages (if r.endReason = some 0 then rollBack s e else s) e
      else s
    | none => s
  let s := es.foldl ended s
  let s := es.foldl insertPages s
  let step (i0 : Bool) (run : State → Nat → State) (s : State) (e : Nat) : State :=
    match reqAt s e with
    | some r =>
      (match r.gen, requestGen s r, servIndex s r f with
       | some b, some g, some i =>
         if alive r ∧ r.state ≠ .pending ∧ r.endReason.isNone ∧ (if i0 then i = 0 else prefillFrames s g b < i) then run s e
         else s
       | _, _, _ => s)
    | none => s
  let s := es.foldl (step true lookUp) s
  let s := es.foldl (step false decideDraft) s
  es.foldl (fun s e => growFor s f e) s

/-- A lane with work in the current frame (R252). -/
def laneWorks (s : State) (r : Request) (p j slot : Nat) : Bool :=
  match r.gen, requestGen s r, servIndex s r (now s) with
  | some b, some g, some i =>
    alive r && r.endReason.isNone && decide (r.pipeline = p) && decide (r.slots.getD j 0xFF = slot) && decide (0 < i) &&
    decide (0 < r.promptLen) && (decide (prefillFrames s g b < i) || decide (r.prefillPos < r.promptLen))
  | _, _, _ => false

/-- A serving tile runs its program for its slot's lanes (R234, R252); a lane whose landing is late misses its input (R121);
the task is counted to the request of the lowest lane that runs. -/
def startServing (s : State) : State :=
  ((s.tiles.filter (fun p => p.2.serves.isSome)).map (·.1)).foldl (fun s t =>
    let x := tileAt s t
    match x.serves with
    | none => s
    | some r =>
      if x.inService = false ∨ enabled s (.tile t) = false ∨ (servingRec s r.pipeline r.stage).isNone then s
      else
        let work := s.reqs.filter (fun p => laneWorks s p.2 r.pipeline r.stage r.slot)
        let late := work.filterMap (fun p => (landingLate s x p.1).map (fun run => (p, run)))
        let s := late.foldl (fun s p => landingMissing s t p.1.1 p.1.2 p.2) s
        let ready := work.filter (fun p => !(late.any (fun q => decide (q.1.1 = p.1))))
        match (sortBy (fun (a b : Nat × Request) => decide (a.2.lane ≤ b.2.lane)) ready).head? with
        | none => s
        | some (e, q) => startTask s t e q r.stage (max 1 ((servIndex s q (now s)).getD 1)) (roleRank s r) r.program []) s

/-! ### Model variants -/

/-- Frames of a swap of a region to an image of `bytes` bytes (R260). -/
def swapFrames (s : State) (region bytes : Nat) : Nat := ceilDiv bytes (16384 * max 1 (fld s .reqtab (0x608 + 16 * region) 32 16))

/-- The variant's bytes copied from where its image lies to its region. -/
def loadRegion (s : State) (region ref : Nat) : State :=
  match tget s.img.loaded ref with
  | none => s
  | some l =>
    let dst := 2 ^ 68 + ((reg s .reqtab (0x600 + 16 * region)).toNat - 2 ^ 63)
    let t1 := memZero s.tier.t1 dst (2048 * regionGranules s region)
    { s with tier := { s.tier with
        t1 := if l.resident then memCopy s.tier.t1 (2 ^ 68 + l.base) t1 dst l.bytes
              else memCopy s.flash.data (l.ns * 2 ^ 58 + l.base) t1 dst l.bytes } }

/-- The weight cache drops every line of a region (R134). -/
def dropLines (s : State) (region : Nat) : State :=
  let lo := (2 ^ 68 + ((reg s .reqtab (0x600 + 16 * region)).toNat - 2 ^ 63)) / 2048
  { s with spires := s.spires.map (fun p =>
      (p.1, { p.2 with lines := p.2.lines.filter (fun l => decide (l < lo ∨ lo + regionGranules s region ≤ l)) })) }

/-- A swap of a region that ends after another. -/
def laterSwap (s : State) (w : SwapPlan) (f : Nat) : Bool :=
  s.adm.swaps.any (fun v => decide (v.region = w.region) && decide (w.start < v.start) && decide (v.start + v.frames ≤ f))

/-- Requests that depend on a swap: those of its variant that start on its occupant, before any later swap of the region
(R262). -/
def swapUsers (s : State) (w : SwapPlan) : List Nat :=
  (s.reqs.filter (fun p => alive p.2 && decide (w.start + w.frames ≤ p.2.start) && !laterSwap s w p.2.start &&
    (match p.2.gen with
     | some b => decide (b.variant = w.ref)
     | none => false))).map (·.1)

/-- The variant's bytes, as the media engine reads them, have its DIGEST (R260). -/
def swapDigestOk (s : State) (ref : Nat) : Bool :=
  match tget s.img.loaded ref, s.img.image with
  | some l, some i => (i.refs.find? (fun r => decide (r.ref = ref))).any (fun r =>
      decide (sha256 (loadedBytes s l 0 l.bytes) = r.digest))
  | _, _ => false

/-- A swap ends at a boundary (R260, R262); one whose reads never completed is late (R295). -/
def endSwap (s : State) (w : SwapPlan) : State :=
  if w.outcome = some true then
    let s := dropLines (loadRegion s w.region w.ref) w.region
    bump { s with serv := { s.serv with occupant := tset s.serv.occupant w.region w.ref } } .reqtab 0x40 1
  else
    let s := { s with serv := { s.serv with occupant := tdel s.serv.occupant w.region } }
    let s := if w.outcome.isNone then setFlag (bump s .flash 0x48 1) .flash 0x08 5 else s
    (swapUsers s w).foldl (fun s e => missed (stall s 10 (((reqAt s e).map (·.ctx)).getD 0) 0x0600 e) e)
      (setFlag s .reqtab 0x08 1)

/-- The swaps whose last frame has ended; a swap without its completion is late and has failed. -/
def endSwaps (s : State) : State :=
  let due := s.adm.swaps.filter (fun w => decide (w.start + w.frames ≤ now s))
  due.foldl endSwap { s with adm := { s.adm with swaps := s.adm.swaps.filter (fun w => decide (now s < w.start + w.frames)) } }

/-- SWAP_COMPLETE: the media engine has read a swap's bytes, and in its last frame compares their SHA-256 with the variant's
DIGEST; or a read failed, or its data are late (R260, R262, R295). The region changes at the boundary that ends the swap. -/
def execSwapComplete (region : Nat) (reads : ReadEnd) (s : State) : Res :=
  match s.adm.swaps.find? (fun w => decide (w.region = region) && w.outcome.isNone && decide (w.start ≤ now s)) with
  | none => .next s
  | some w =>
    if reads = .inTime ∧ now s + 1 < w.start + w.frames then .next s
    else
      let good := decide (reads = .inTime) && swapDigestOk s w.ref
      let s := match reads with
        | .inTime => s
        | .late => setFlag (bump s .flash 0x48 1) .flash 0x08 5
        | .failed => setFlag (bump s .flash 0x50 1) .flash 0x08 5
      .next { s with adm := { s.adm with swaps := s.adm.swaps.map (fun v =>
        if v = w then { v with outcome := some good } else v) } }

/-! ### The head of an entry -/

/-- Codes of R242. -/
def stateCode : ReqState → Nat
  | .pending => 1
  | .running => 2
  | .serving => 3
  | .holding => 4
  | .ending => 5

/-- The 128-byte head of an entry (R240). -/
def headBytes (r : Request) : List Byte :=
  let g (f : GenBlock → Nat) (d : Nat) : Nat := match r.gen with
    | some b => f b
    | none => d
  let flag (b : Bool) (n : Nat) : Nat := if b then n else 0
  let flags := flag r.elastic 1 + (match r.gen with
    | some b => 2 + flag b.speculate 4 + flag b.sample 8
    | none => 0) + flag r.draftOff 16
  toLE 1 (stateCode r.state) ++ toLE 1 r.ctx ++ toLE 1 r.prio ++ toLE 1 flags ++ toLE 2 r.pipeline ++
  toLE 2 (g (·.variant) 0xFFFF) ++ toLE 1 (g (·.vocab) 0) ++ toLE 1 r.draftLen ++ toLE 1 r.rejectRun ++ toLE 1 r.lane ++
  toLE 2 r.plainSteps ++ toLE 2 r.queue ++ toLE 8 r.start ++ toLE 8 r.promised ++ toLE 8 r.deadline ++ toLE 4 r.length ++
  toLE 4 r.promptLen ++ toLE 4 r.prefillPos ++ toLE 4 (g (·.maxNew) 0) ++ toLE 4 r.generated ++
  toLE 4 (r.pageHead.getD 0xFFFFFFFF) ++ toLE 4 r.pages.length ++ toLE 4 r.sharedPages ++ toLE 4 r.acceptEst.toNat ++
  toLE 4 (g (·.temp.toNat) 0) ++ toLE 2 (g (·.topK) 0) ++ zeros 2 ++ toLE 4 (g (·.promptMax) 0) ++ toLE 8 (g (·.seed) 0) ++
  toLE 8 r.tag ++ zeros 24

/-- REQTAB_INSPECT: the head of an entry copied into REQTAB_VIEW; a FREE entry shows zeros (R265, R266, log entry 26). -/
def inspect (s : State) (v : Word) : State :=
  let bs := match reqAt s (bits v 0 16) with
    | some r => headBytes r
    | none => []
  { s with serv := { s.serv with view := bs } }

/-! ### Block checks -/

/-- Finite and greater than 0. -/
def positive (x : BitVec 32) : Bool :=
  match num32 x with
  | .fin false m _ => decide (0 < m)
  | _ => false

/-- A generation block and its stop set obey R236 and R222, d included (R237). -/
def genBlockOk (s : State) (p : PipelineRec) (b : GenBlock) : Bool :=
  match variantRec s b.variant, servingStage s p.num with
  | some v, some j =>
    match servingRec s p.num j with
    | some g =>
      let top := variantTokens s v
      b.reservedZero && vocabValid s b.vocab && decide (1 ≤ b.promptMax) && decide (b.promptMax ≤ top - 1) &&
      decide (1 ≤ b.maxNew) && decide (b.maxNew ≤ top - b.promptMax) &&
      (if b.sample then positive b.temp && decide (1 ≤ b.topK) && decide (b.topK ≤ 128)
       else decide (b.temp = 0) && decide (b.topK = 0) && decide (b.seed = 0)) && stopSetOk b.stop &&
      decide (prefillFrames s g b + b.maxNew ≤ ((p.stages[j]?).map (·.duration)).getD 0)
    | none => false
  | _, _ => false

end Sys2Proof.Machine
end

