-- ==== Sys2Proof/Machine/Admission.lean ====
section
/-! DEFINITION. Admission (chapter 02): the ledger, computed from the plans of the accepted requests, the fit of a request
at a start frame, and the admission pass with its replans, swaps and context switches. -/

namespace Sys2Proof.Machine

/-- A request under decision: its class, context, pipeline and blocks, with the frames planned for it at start frame 0. -/
structure Ask where
  ctx : Nat
  elastic : Bool
  pipe : PipelineRec
  gen : Option GenBlock
  search : Option SearchBlock
  /-- Plan relative to the start frame. -/
  plan : List PlanStage
  deriving DecidableEq, Repr

/-- Frames from the start to the end of the last planned stage (R34). -/
def planSpan (l : List PlanStage) : Nat := l.foldl (fun m g => max m (g.first + g.frames)) 0

/-- A plan moved to a start frame. -/
def shiftPlan (s0 : Nat) (l : List PlanStage) : List PlanStage := l.map (fun g => { g with first := s0 + g.first })

/-- A plan's stage holds a frame. -/
def PlanStage.holds (g : PlanStage) (f : Nat) : Bool := decide (g.first ≤ f) && decide (f < g.first + g.frames)

/-- Requests that hold capacity: accepted, and neither ended nor out of production (R42, R257). -/
def holders (s : State) : List (Nat × Request) := s.reqs.filter (fun p => alive p.2)

/-- Frames of a request's serving stage, d of R237; 1 where its block breaks a rule. -/
def servingFrames (s : State) (p : PipelineRec) (b : GenBlock) : Nat :=
  match (servingStage s p.num).bind (servingRec s p.num) with
  | some g => if genBlockOk s p b then prefillFrames s g b + b.maxNew else 1
  | none => 1

/-- The plan of a new request at start frame 0 (R34, R237): a serving stage and its companion last d frames, and every
stage that begins after the serving stage does begins DURATION − d frames earlier. -/
def newPlan (s : State) (p : PipelineRec) (gen : Option GenBlock) : List PlanStage :=
  let serve := servingStage s p.num
  let comp := companionOf s p.num
  let d := match gen with
    | some b => servingFrames s p b
    | none => 0
  (List.range p.stages.length).filterMap (fun j => (p.stages[j]?).map (fun g =>
    match gen, serve with
    | some _, some v =>
      let sg := p.stages[v]?
      let o := (sg.map (·.offset)).getD 0
      let cut := (sg.map (·.duration)).getD 0 - d
      if j = v ∨ comp = some j then { stage := j, first := g.offset, frames := d, step0 := 0 }
      else { stage := j, first := if o < g.offset then g.offset - cut else g.offset, frames := g.duration, step0 := 0 }
    | _, _ => { stage := j, first := g.offset, frames := g.duration, step0 := 0 }))

/-! ### Slots, lanes and seats -/

/-- Throttle factor of R44 on an amount. -/
def throttled (s : State) (n : Nat) : Nat := n * (4 - s.adm.level) / 4

/-- Slots of a tile stage with the context that owns each; a slot that has lost a tile for good is not offered (R53,
R54). -/
def tileSlots (s : State) (p j : Nat) : List (Nat × Nat) :=
  match s.img.image with
  | none => []
  | some i =>
    let roles := i.tiles.filter (fun r => decide (r.role = .bound) && decide (r.pipeline = p) && decide (r.stage = j))
    (asSet (roles.map (·.slot))).filterMap (fun k =>
      let mine := roles.filter (fun r => decide (r.slot = k))
      if mine.all (fun r => (tileServing s r).isSome) then some (k, ((mine.head?).map (·.ctx)).getD 0xFF) else none)

/-- Reservations of a stage in ascending context (R56). -/
def stageRes (s : State) (p j : Nat) : List ReservationRec :=
  match s.img.image with
  | some i => sortBy (fun a b => decide (a.ctx ≤ b.ctx)) (i.reservations.filter (fun r =>
      decide (r.pipeline = p) && decide (r.stage = j)))
  | none => []

/-- A context's reservation of a stage. -/
def ctxRes (s : State) (c p j : Nat) : Option ReservationRec := (stageRes s p j).find? (fun r => decide (r.ctx = c))

/-- Slots of a text stage with their owners: reserved slots in ascending context, then the others (log entry 27). -/
def textSlots (s : State) (p j : Nat) : List (Nat × Nat) :=
  let owners := (stageRes s p j).flatMap (fun r => List.replicate r.slots r.ctx)
  let n := ((stageOf s p j).map (·.slots)).getD 0
  (List.range n).map (fun k => (k, owners.getD k 0xFF))

/-- Requests whose planned frames of a stage meet those of a plan's stage, with the slot they hold. -/
def rivals (s : State) (p : Nat) (g : PlanStage) : List (Nat × Request × PlanStage) :=
  (holders s).flatMap (fun q => if q.2.pipeline = p then
    (q.2.plan.filter (fun h => decide (h.stage = g.stage) && decide (h.first < g.first + g.frames) &&
      decide (g.first < h.first + h.frames))).map (fun h => (q.1, q.2, h)) else [])

/-- The lowest slot of a list that no rival holds. -/
def freeSlot (s : State) (p : Nat) (g : PlanStage) (slots : List Nat) : Option Nat :=
  let used := (rivals s p g).map (fun q => q.2.1.slots.getD g.stage 0xFF)
  slots.find? (fun k => !(used.contains k))

/-- Tokens that a request takes of its slot in frame `f` of its serving stage (R238). -/
def laneTokens (s : State) (g : Nat) (b : GenBlock) (h : PlanStage) (f : Nat) : Nat :=
  if h.holds f then
    let i := h.step0 + (f - h.first)
    if i = 0 then 0 else if i ≤ prefillFrames s g b then genChunk s g else if b.speculate then 9 else 1
  else 0

/-- Slot and lane of a serving stage for a plan (R235, R238). -/
def freeLane (s : State) (a : Ask) (g : PlanStage) : Option (Nat × Nat) :=
  match servingRec s a.pipe.num g.stage, a.gen with
  | some rec_, some b =>
    let scale (n : Nat) : Nat := if a.elastic then throttled s n else n
    let owner := if a.elastic then 0xFF else a.ctx
    let slots := ((tileSlots s a.pipe.num g.stage).filter (fun k => decide (k.2 = owner))).map (·.1)
    let rs := rivals s a.pipe.num g
    slots.findSome? (fun k =>
      let mine := rs.filter (fun q => decide (q.2.1.slots.getD g.stage 0xFF = k))
      let lane := leastBelow (fun l => !(mine.any (fun q => decide (q.2.1.lane = l)))) (scale (genLanes s rec_))
      let room := (List.range g.frames).all (fun i =>
        let f := g.first + i
        let used := sumBy (fun q => match q.2.1.gen with
          | some c => laneTokens s rec_ c q.2.2 f
          | none => 0) mine
        decide (used + laneTokens s rec_ b g f ≤ scale (genTokens s rec_)))
      if room then lane.map (fun l => (k, l)) else none)
  | _, _ => none

/-- Seats that all contexts reserve in the scan stages of the image: the batch of a frame is one for all pipelines (R34, R56,
R164). -/
def reservedSeats (s : State) : Nat :=
  match s.img.image with
  | some i => sumBy (fun r => if isScanStage s r.pipeline r.stage then r.seats else 0) i.reservations
  | none => 0

/-- Seat of a scan stage whose batch starts in a frame (R34, R164; log entry 28). -/
def freeSeat (s : State) (a : Ask) (g : PlanStage) : Option Nat :=
  let batch := (holders s).filter (fun q => (match pipeOf s q.2.pipeline with
    | some p => q.2.plan.any (fun h => decide (h.stage = p.scanStage) && decide (h.first = g.first))
    | none => false))
  let ok :=
    if a.elastic then decide ((batch.filter (fun q => q.2.elastic)).length < 64 - reservedSeats s)
    else
      match ctxRes s a.ctx a.pipe.num g.stage with
      | some r => decide ((batch.filter (fun q => !q.2.elastic && decide (q.2.ctx = a.ctx) &&
          decide (q.2.pipeline = a.pipe.num))).length < r.seats)
      | none => false
  let seats := batch.filterMap (fun q => (pipeOf s q.2.pipeline).map (fun p => q.2.slots.getD p.scanStage 0xFF))
  if ok then leastBelow (fun k => !(seats.contains k)) 64 else none

/-- Elastic requests that hold a stage in a frame of a plan's stage. -/
def elasticRivals (s : State) (p : Nat) (g : PlanStage) (f : Nat) : Nat :=
  ((rivals s p g).filter (fun q => q.2.1.elastic && q.2.2.holds f)).length

/-- SLOT_MAP byte of a stage for a plan, with the lane of a serving stage; `none` where no slot is free (R34, R120, R227,
R238). -/
def stageSlot (s : State) (a : Ask) (g : PlanStage) : Option (Nat × Nat) :=
  let p := a.pipe.num
  if g.frames = 0 then some (0xFF, 0)
  else if isScanStage s p g.stage then (freeSeat s a g).map (fun k => (k, 0))
  else if isTextStage s p g.stage then
    let all := textSlots s p g.stage
    if a.elastic then
      let free := (all.filter (fun k => decide (k.2 = 0xFF))).map (·.1)
      if (List.range g.frames).all (fun i => decide (elasticRivals s p g (g.first + i) < throttled s free.length)) then
        (freeSlot s p g free).map (fun k => (k, 0))
      else none
    else (freeSlot s p g ((all.filter (fun k => decide (k.2 = a.ctx))).map (·.1))).map (fun k => (k, 0))
  else if (servingRec s p g.stage).isSome then freeLane s a g
  else if a.elastic then
    let slots := ((a.pipe.stages[g.stage]?).map (·.slots)).getD 0 - sumBy (·.slots) (stageRes s p g.stage)
    if (List.range g.frames).all (fun i => decide (elasticRivals s p g (g.first + i) < throttled s slots)) then some (0xFF, 0)
    else none
  else (freeSlot s p g (((tileSlots s p g.stage).filter (fun k => decide (k.2 = a.ctx))).map (·.1))).map (fun k => (k, 0))

/-- SLOT_MAP and lane for a whole plan. -/
def planSlots (s : State) (a : Ask) (plan : List PlanStage) : Option (List Nat × Nat) :=
  (List.range a.pipe.stages.length).foldl (fun acc j =>
    match acc, plan.find? (fun g => decide (g.stage = j)) with
    | some (l, lane), some g =>
      (stageSlot s a g).map (fun k => (l ++ [k.1], if (servingRec s a.pipe.num j).isSome then k.2 else lane))
    | some (l, lane), none => some (l ++ [0xFF], lane)
    | none, _ => none) (some ([], 0))

/-! ### Bandwidth and footprints -/

/-- T2 bytes that a round of a search's walk reads: EXPAND neighbourhood blocks, in granules (R176). -/
def walkT2 (s : State) (b : SearchBlock) : Nat :=
  match indexAt s b.indexRef with
  | some x => if x.shape.mode = 1 then ceilDiv (b.expand * x.nbBytes) granuleBytes * granuleBytes else 0
  | none => 0

/-- T2 bytes that a planned stage takes in a frame: T2_BYTES of the stage, and at least what a round of a walk charges
(R55, R176). -/
def stageT2 (s : State) (search : Option SearchBlock) (p : PipelineRec) (h : PlanStage) (f : Nat) : Nat :=
  let g := ((p.stages[h.stage]?).map (·.t2Bytes)).getD 0
  match search with
  | some b => if h.stage = graphStage ∧ f < h.first + b.rounds then max g (walkT2 s b) else g
  | none => g

/-- A module counts in M for frame `f` (R296): in PS0, or awake by the start of `f`. A module below PS0 counts from the frame
after its exit latency, since the pass that debits pool bytes wakes it. -/
def countsIn (s : State) (f : Nat) (x : Module) : Bool :=
  modUsable x && !x.restoring &&
  (modInM x || decide ((if x.waking then x.wakeFrame else now s + wakeFrames s x) ≤ f))

/-- M of the ledger for frame `f` (R274, R296). -/
def modulesFor (s : State) (f : Nat) : Nat := (s.flash.modules.filter (fun p => countsIn s f p.2)).length

/-- The T2 read pool P2 and its Bound part with M modules (R274). -/
def t2Pool (s : State) (m : Nat) : Nat := 28800 * m * periodUs s * 4095 / 4096
def t2Bound (s : State) (m : Nat) : Nat := fld s .tier 0x18 0 7 * t2Pool s m / 100

/-- T2 bytes of the accepted requests of a class in a frame. -/
def t2Used (s : State) (elastic : Bool) (f : Nat) : Nat :=
  sumBy (fun q => if q.2.elastic = elastic then
    (match pipeOf s q.2.pipeline with
     | some p => sumBy (fun h => if h.holds f then stageT2 s q.2.search p h f else 0) q.2.plan
     | none => 0) else 0) (holders s)

/-- T2 bytes of the swaps of a frame (R260). -/
def t2Swaps (s : State) (f : Nat) : Nat :=
  sumBy (fun w => if w.start ≤ f ∧ f < w.start + w.frames then w.bytesPerFrame else 0) s.adm.swaps

/-- A plan's T2 demand fits in a frame (R34, R274). -/
def t2Fits (s : State) (a : Ask) (plan : List PlanStage) (f : Nat) : Bool :=
  let need := sumBy (fun h => if h.holds f then stageT2 s a.search a.pipe h f else 0) plan
  if need = 0 then true
  else
    let m := modulesFor s f
    if a.elastic then decide (t2Used s true f + t2Swaps s f + need ≤ t2Pool s m - t2Bound s m)
    else
      decide (t2Used s false f + need ≤ t2Bound s m) &&
      plan.all (fun h => !(h.holds f) || decide (stageT2 s a.search a.pipe h f = 0) ||
        (match ctxRes s a.ctx a.pipe.num h.stage with
         | some r => decide (sumBy (fun q => if q.2.1.ctx = a.ctx ∧ q.2.1.elastic = false ∧ q.2.2.holds f then
             stageT2 s q.2.1.search a.pipe q.2.2 f else 0) (rivals s a.pipe.num h) + stageT2 s a.search a.pipe h f ≤ r.t2Bytes)
         | none => false))

/-- What a plan holds in a frame: T0 bytes, T1 bytes of its stages, and T1 bytes of its pages. -/
structure Held where
  t0 : Nat
  work : Nat
  pages : Nat
  deriving DecidableEq, Repr

/-- T1 bytes held. -/
def Held.t1 (h : Held) : Nat := h.work + h.pages

/-- Two holdings together. -/
def Held.add (a b : Held) : Held := { t0 := a.t0 + b.t0, work := a.work + b.work, pages := a.pages + b.pages }

/-- What a plan holds in a frame; a generation request holds its pages in every frame of its span, in place of its serving
stage's T1_KIB (R34, R238, R246). -/
def heldBytes (s : State) (p : PipelineRec) (c : Nat) (gen : Option GenBlock) (plan : List PlanStage) (f : Nat) : Held :=
  let on := plan.filter (fun h => h.holds f)
  let span := decide ((plan.map (·.first)).any (fun x => decide (x ≤ f))) && plan.any (fun h => decide (f < h.first + h.frames))
  { t0 := sumBy (fun h => 1024 * ((p.stages[h.stage]?).map (·.t0Kib)).getD 0) on,
    work := sumBy (fun h => if gen.isSome ∧ (servingRec s p.num h.stage).isSome then 0
      else 1024 * ((p.stages[h.stage]?).map (·.t1Kib)).getD 0) on,
    pages := match gen with
      | some b => if span then footprint b * poolGranules s c * 2048 else 0
      | none => 0 }

/-- What a context's requests hold in a frame. -/
def ctxHeld (s : State) (c f : Nat) : Held :=
  (holders s).foldl (fun acc q =>
    if q.2.ctx = c then
      match pipeOf s q.2.pipeline with
      | some p => acc.add (heldBytes s p c q.2.gen q.2.plan f)
      | none => acc
    else acc) { t0 := 0, work := 0, pages := 0 }

/-- Bytes of a context's WORK extent (R270). -/
def workBytes (s : State) (c : Nat) : Nat := sumBy (fun x => if x.work then 2048 * x.granules else 0) (extents s c)

/-- Pages of a context's pool that its requests hold in a frame (R246). -/
def pagesHeld (s : State) (c f : Nat) : Nat :=
  sumBy (fun q => match q.2.gen with
    | some b => if q.2.ctx = c ∧ (q.2.plan.map (·.first)).any (fun x => decide (x ≤ f)) ∧
        q.2.plan.any (fun h => decide (f < h.first + h.frames)) then footprint b else 0
    | none => 0) (holders s)

/-- Quota record of a context (R56). -/
def quotaOf (s : State) (c : Nat) : Option QuotaRec :=
  match s.img.image with
  | some i => i.quotas.find? (fun q => decide (q.ctx = c))
  | none => none

/-- A plan's footprint fits in a frame: the context's quotas, its WORK extent and its page pool (R34, R270). -/
def footFits (s : State) (a : Ask) (plan : List PlanStage) (f : Nat) : Bool :=
  let h := heldBytes s a.pipe a.ctx a.gen plan f
  let all := (ctxHeld s a.ctx f).add h
  (match quotaOf s a.ctx with
   | some q => decide (all.t0 ≤ q.t0) && decide (all.t1 ≤ q.t1)
   | none => false) &&
  (decide (h.work = 0) || decide (all.work ≤ workBytes s a.ctx)) &&
  (match a.gen with
   | some b => decide (pagesHeld s a.ctx f + footprint b ≤ poolPages s a.ctx)
   | none => true)

/-- T3 bytes that a stage's streams may take per frame (R129, R275): every stream at its largest list on every tile. -/
def stageT3 (s : State) (p : PipelineRec) (j : Nat) : Nat :=
  match s.img.image with
  | none => 0
  | some i =>
    let tiles := max 1 (((p.stages[j]?).map (·.tilesPerSlot)).getD 0)
    sumBy (fun r => if r.pipeline = p.num ∧ r.stage = j ∧ r.desc.farTier = 3 then
      tiles * (if r.desc.kind = 1 then r.desc.indexMax * (4096 * ceilDiv r.desc.rowBytes 4096)
               else sumBy (fun e => 4096 * ceilDiv e.2.2 4096) (affineElems r.desc)) else 0) i.streams

/-- The T3 pool of a frame: the grants of the active leases and the peer grant (R275, R277). -/
def t3Pool (s : State) : Nat :=
  sumBy (fun l => if l.2.notice.isNone ∧ l.2.ended = false then l.2.mbps * periodUs s else 0) s.tier.leases +
    fld s .tier 0x50 0 16 * periodUs s

/-- T3 bytes of the accepted Elastic requests in a frame. -/
def t3Used (s : State) (f : Nat) : Nat :=
  sumBy (fun q => match pipeOf s q.2.pipeline with
    | some p => sumBy (fun h => if h.holds f then stageT3 s p h.stage else 0) q.2.plan
    | none => 0) (holders s)

/-- A plan's T3 demand fits in a frame: Bound requests may have none (R34). -/
def t3Fits (s : State) (a : Ask) (plan : List PlanStage) (f : Nat) : Bool :=
  let need := sumBy (fun h => if h.holds f then stageT3 s a.pipe h.stage else 0) plan
  decide (need = 0) || (a.elastic && decide (t3Used s f + need ≤ t3Pool s))

/-! ### Elastic tiles and context switches -/

/-- ELASTIC tiles in service (R122). -/
def elasticTiles (s : State) : List Nat :=
  (s.tiles.filter (fun p => decide (p.2.role = .elastic) && p.2.inService)).map (·.1)

/-- Occupant of a tile in a frame: `none` while it is in a switch, `some none` when it has no occupant (R33, R124). -/
def occupantAt (s : State) (t f : Nat) : Option (Option Nat) :=
  let x := tileAt s t
  match x.switch, s.adm.switches.find? (fun o => decide (o.tile = t)) with
  | some (c, ready), _ => if f < ready then none else some (some c)
  | none, some o => if f < o.frame then some x.occupant else if f < o.frame + switchFrames s then none else some (some o.ctx)
  | none, none => some x.occupant

/-- Tiles that accepted Elastic requests of a context hold in a frame. -/
def tilesHeld (s : State) (c f : Nat) : Nat :=
  sumBy (fun q => match pipeOf s q.2.pipeline with
    | some p => if q.2.ctx = c then
        sumBy (fun h => if h.holds f ∧ floats s q.2.elastic p.num h.stage then tilesPerSlot s p.num h.stage else 0) q.2.plan
      else 0
    | none => 0) (holders s)

/-- ELASTIC tiles that a request of context `c` may count on in a frame: those with its occupant or none, less what accepted
tasks hold, where tasks of another context take the tiles of that context first (R124; log entry 29). -/
def tilesFor (s : State) (c f : Nat) : Nat :=
  let occ := (elasticTiles s).filterMap (fun t => occupantAt s t f)
  let with_ (x : Option Nat) : Nat := (occ.filter (fun o => decide (o = x))).length
  let others := sumBy (fun d => if d = c then 0 else tilesHeld s d f - with_ (some d)) (List.range 16)
  with_ (some c) + with_ none - tilesHeld s c f - others

/-- Tiles that a plan's Elastic stages need in a frame. -/
def tilesNeeded (s : State) (a : Ask) (plan : List PlanStage) (f : Nat) : Nat :=
  sumBy (fun h => if h.holds f ∧ floats s a.elastic a.pipe.num h.stage then tilesPerSlot s a.pipe.num h.stage else 0) plan

/-- Frames of a plan. -/
def planFrames (plan : List PlanStage) : List Nat := asSet (plan.flatMap (fun g => (List.range g.frames).map (g.first + ·)))

/-- Tiles that a pass in frame `m` may order to switch to context `c`, in ascending number, at most four of a Spire in a
switch at one time (R124). -/
def switchable (s : State) (c m : Nat) : List Nat :=
  let k := switchFrames s
  let busy (t : Nat) : Bool := (tileAt s t).switch.isSome || s.adm.switches.any (fun o => decide (o.tile = t))
  (elasticTiles s).foldl (fun acc t =>
    match (tileAt s t).occupant with
    | some d =>
      let idle := (List.range k).all (fun i => decide (tilesHeld s d (m + 1 + i) = 0))
      let moving := ((elasticTiles s).filter (fun u => decide (tileSpire u = tileSpire t) && (busy u || acc.contains u))).length
      if d ≠ c ∧ busy t = false ∧ idle ∧ moving < 4 then acc ++ [t] else acc
    | none => acc) []

/-- The context switches that a plan needs; `none` where no set of them covers the shortfall (R124). -/
def switchesFor (s : State) (a : Ask) (m : Nat) (plan : List PlanStage) : Option (List Nat) :=
  let short (f : Nat) : Nat := tilesNeeded s a plan f - tilesFor s a.ctx f
  let frames := (planFrames plan).filter (fun f => decide (0 < tilesNeeded s a plan f))
  let most := frames.foldl (fun n f => max n (short f)) 0
  if most = 0 then some []
  else
    let l := (switchable s a.ctx m).take most
    if l.length = most ∧ frames.all (fun f => decide (short f = 0) || decide (m + 1 + switchFrames s ≤ f)) then some l else none

/-! ### Model variants -/

/-- Bytes of an image of IMAGE_REFS. -/
def refBytes (s : State) (ref : Nat) : Nat :=
  match s.img.image with
  | some i => ((i.refs.find? (fun r => decide (r.ref = ref))).map (·.bytes)).getD 0
  | none => 0

/-- A pipeline can use a variant: the one its head names, or another of the same region (R259). -/
def canUse (s : State) (p : PipelineRec) (ref : Nat) : Bool :=
  match variantRec s p.variant, variantRec s ref with
  | some v, some w => decide (p.variant = ref) ||
      (!(variantFixed s v) && !(variantFixed s w) && decide (variantRegion s v = variantRegion s w))
  | _, _ => false

/-- Region that a request of a swappable variant uses. -/
def regionOf (s : State) (gen : Option GenBlock) : Option Nat :=
  match gen with
  | some b =>
    (match variantRec s b.variant with
     | some v => if variantFixed s v then none else some (variantRegion s v)
     | none => none)
  | none => none

/-- The scheduled occupant of a region in a frame (R261). -/
def occupantIn (s : State) (region f : Nat) : Option Nat :=
  let mine := s.adm.swaps.filter (fun w => decide (w.region = region) && decide (w.start ≤ f))
  match (sortBy (fun (a b : SwapPlan) => decide (b.start ≤ a.start)) mine).head? with
  | some w => if w.start + w.frames ≤ f then some w.ref else none
  | none => tget s.serv.occupant region

/-- A region's occupant is a variant, or a swap that will make it so is scheduled (R261). -/
def willHold (s : State) (region ref : Nat) : Bool :=
  decide (tget s.serv.occupant region = some ref) ||
  s.adm.swaps.any (fun w => decide (w.region = region) && decide (w.ref = ref))

/-- Last frame in which an accepted request or a swap uses a region. -/
def regionBusy (s : State) (region : Nat) : Nat :=
  let r := (holders s).foldl (fun m q => if regionOf s q.2.gen = some region then max m (planSpan q.2.plan) else m) 0
  s.adm.swaps.foldl (fun m w => if w.region = region then max m (w.start + w.frames) else m) r

/-- Frames that a request's swap adds before its start (R36, R261). -/
def swapDelay (s : State) (gen : Option GenBlock) : Nat :=
  match gen, regionOf s gen with
  | some b, some r => if willHold s r b.variant then 0 else swapFrames s r (refBytes s b.variant)
  | _, _ => 0

/-- The swap that a start frame calls for (R261): `none` where the start does not fit, `some none` where no swap is
needed. -/
def swapFor (s : State) (a : Ask) (n s0 span : Nat) : Option (Option SwapPlan) :=
  match a.gen, regionOf s a.gen with
  | some b, some r =>
    if (List.range span).all (fun i => decide (occupantIn s r (s0 + i) = some b.variant)) then some none
    else
      let d := swapFrames s r (refBytes s b.variant)
      let per := 16384 * fld s .reqtab (0x608 + 16 * r) 32 16
      let m := modulesFor s (s0 - d)
      if n + 1 + d ≤ s0 ∧ regionBusy s r ≤ s0 - d ∧ (List.range d).all (fun i =>
          decide (t2Used s true (s0 - d + i) + t2Swaps s (s0 - d + i) + per ≤ t2Pool s m - t2Bound s m)) then
        some (some { region := r, ref := b.variant, start := s0 - d, frames := d, bytesPerFrame := per, outcome := none })
      else none
  | _, _ => some none

/-! ### The decision -/

/-- What a start frame gives a request: its plan, SLOT_MAP, lane, swap and context switches. -/
structure Fit where
  start : Nat
  plan : List PlanStage
  slots : List Nat
  lane : Nat
  swap : Option SwapPlan
  switches : List Nat
  deriving DecidableEq, Repr

/-- A request fits at a start frame (R34, R124, R261). -/
def fits (s : State) (a : Ask) (n s0 : Nat) : Option Fit :=
  let plan := shiftPlan s0 a.plan
  if (planFrames plan).all (fun f => t2Fits s a plan f && footFits s a plan f && t3Fits s a plan f) then
    match planSlots s a plan, swapFor s a n s0 (planSpan a.plan), switchesFor s a n plan with
    | some k, some w, some l => some { start := s0, plan := plan, slots := k.1, lane := k.2, swap := w, switches := l }
    | _, _, _ => none
  else none

/-- The first start frame from `s0` on that fits, with a promised frame of at most `n` + 4,096 (R36). -/
def search_ (s : State) (a : Ask) (n : Nat) : Nat → Nat → Option Fit
  | 0, _ => none
  | fuel + 1, s0 =>
    if n + 4096 < s0 + planSpan a.plan + 2 then none
    else
      match fits s a n s0 with
      | some f => some f
      | none => search_ s a n fuel (s0 + 1)

/-- The lowest number from `k` on that is no key of a table in rising order. -/
def firstGap {α : Type} : Table α → Nat → Nat
  | [], k => k
  | (j, _) :: r, k => if j = k then firstGap r (k + 1) else k

/-- Lowest FREE entry (R241). -/
def freeEntry (s : State) : Option Nat :=
  let e := firstGap s.reqs 0
  if e < 65536 then some e else none

/-- The footprint of some frame exceeds the context's whole quota, or its pages the pool (R38, R237, R243). -/
def quotaBreach (s : State) (a : Ask) : Bool :=
  let exceeds (f : Nat) : Bool :=
    let h := heldBytes s a.pipe a.ctx a.gen a.plan f
    match quotaOf s a.ctx with
    | some q => decide (q.t0 < h.t0) || decide (q.t1 < h.t1)
    | none => true
  (planFrames a.plan).any exceeds ||
  (match a.gen with
   | some b => decide (poolPages s a.ctx < footprint b) || (match variantRec s b.variant with
     | some v => decide (poolGranules s a.ctx < variantGranules s v)
     | none => false)
   | none => false)

/-- The static check of R36: the lowest code of R38 that applies, STATE of the device first (R39). -/
def staticCheck (s : State) (x : Submission) : Nat ⊕ Ask :=
  let b := x.body
  if serving s = false then .inl 7
  else if (freeEntry s).isNone then .inl 3
  else
    match pipeOf s b.pipeline with
    | none => .inl 4
    | some p =>
      let reserved := (List.range p.stages.length).any (fun j => (ctxRes s b.ctx p.num j).isSome)
      let a : Ask := { ctx := b.ctx, elastic := b.elastic, pipe := p, gen := b.gen, search := b.search, plan := newPlan s p b.gen }
      if b.elastic = false ∧ (p.cls = 1 ∨ reserved = false) then .inl 5
      else
        match ctxAt s b.ctx with
        | none => .inl 6
        | some c =>
          if c.state = .slate then .inl 7
          else if c.owner ≠ some x.session then .inl 6
          else if quotaBreach s a then .inl 8
          else
            match b.gen with
            | some g => if canUse s p g.variant then .inr a else .inl 9
            | none => .inr a

/-- The fit debits bytes of the T2 pool. -/
def drawsPool (s : State) (a : Ask) (f : Fit) : Bool :=
  f.swap.isSome || (planFrames f.plan).any (fun n => f.plan.any (fun h => h.holds n && decide (0 < stageT2 s a.search a.pipe h n)))

/-- What admission records for a fit: the swap and the switches it orders; a pass that debits pool bytes wakes every module
below PS0 (R296). -/
def orderFit (s : State) (a : Ask) (f : Fit) : State :=
  let s := if drawsPool s a f then (s.flash.modules.map (·.1)).foldl wake s else s
  { s with adm := { s.adm with
      swaps := s.adm.swaps ++ f.swap.toList,
      switches := s.adm.switches ++ f.switches.map (fun t => ({ tile := t, ctx := a.ctx, frame := now s + 1 } : SwitchOrder)) } }

/-- The entry of an accepted request. -/
def newRequest (s : State) (x : Submission) (f : Fit) (promised : Nat) : Request :=
  let b := x.body
  { state := .pending, ctx := b.ctx, prio := b.prio, elastic := b.elastic, pipeline := b.pipeline, session := x.session,
    queue := x.queue, tag := x.tag, stamp := x.stamp, acceptFrame := now s, start := f.start, promised := promised,
    deadline := b.deadline, slots := f.slots, plan := f.plan, search := b.search, gen := b.gen, input := b.input,
    servFrames := (match b.gen, pipeOf s b.pipeline with
      | some g, some p => servingFrames s p g
      | _, _ => 0),
    steps := [], affected := false, status := 0, dueFrame := none, sentFrame := none, produced := none, resultBytes := 0,
    sketch := none, version := 0, shortlist := none, packed := [], lane := f.lane, draftOff := false, draftLen := 0, rejectRun := 0,
    plainSteps := 0, length := 0, promptLen := 0, prefillPos := 0, generated := 0, pageHead := none, pages := [],
    sharedPages := 0, entered := 0, acceptEst := 0, prompt := [], tokens := [], hist := [], released := 0, detok := 0, stop := none,
    endReason := none }

/-- ACCEPT (R339). -/
def acceptMsg (s : State) (e : Nat) (r : Request) : State :=
  bump (sendMsg s r.session r.queue 0x81 r.tag
    (toLE 8 (handle e r) ++ toLE 8 r.promised ++ toLE 1 (if r.elastic then 1 else 0) ++ zeros 7)) .admission 0x10 1

/-- A submission decided (R36, R37). -/
def decideNew (s : State) (x : Submission) : State :=
  match staticCheck s x with
  | .inl reason => refuseMsg s x reason 0
  | .inr a =>
    let n := now s
    match search_ s a n 4096 (n + 1 + swapDelay s a.gen) with
    | none => refuseMsg s x 2 0
    | some f =>
      let promised := f.start + planSpan a.plan + 2
      if x.body.deadline ≠ 0 ∧ x.body.deadline < promised then refuseMsg s x 1 promised
      else
        match freeEntry s with
        | none => refuseMsg s x 3 0
        | some e =>
          let r := newRequest s x f promised
          let s := acceptMsg (setReq (orderFit s a f) e r) e r
          { s with adm := { s.adm with auditCopy := s.adm.auditCopy ++
              [{ entry := e, start := f.start, promised := promised, slots := f.slots }] } }

/-! ### Replans -/

/-- Steps of a stage that a request has completed, every rank counted (R43). -/
def stepsDone (s : State) (r : Request) (j : Nat) : Nat := stageSteps r j (tilesPerSlot s r.pipeline j)

/-- Frames left of a generation request's serving stage, and the index of the first (R263). -/
def servingLeft (s : State) (r : Request) (b : GenBlock) : Nat × Nat :=
  match requestGen s r with
  | some g =>
    if r.promptLen = 0 then (r.servFrames, 0)
    else
      let fp := prefillFrames s g b
      let chunks := ceilDiv (r.promptLen - r.prefillPos) (max 1 (genChunk s g))
      (chunks + (b.maxNew - r.generated), fp + 1 - chunks)
  | none => (r.servFrames, 0)

/-- The remaining plan of a request, relative to its new start: the earliest incomplete stage and every later one, each at
its first step not completed, with the image's offsets between them (R43). -/
def replanStages (s : State) (p : PipelineRec) (r : Request) : List PlanStage :=
  let base := newPlan s p r.gen
  let left (g : PlanStage) : PlanStage :=
    match r.gen with
    | some b =>
      if (servingRec s p.num g.stage).isSome ∨ companionOf s p.num = some g.stage then
        let l := servingLeft s r b
        { g with frames := l.1, step0 := l.2 }
      else
        let d := stepsDone s r g.stage
        { g with frames := g.frames - d, step0 := d }
    | none =>
      let d := stepsDone s r g.stage
      { g with frames := g.frames - d, step0 := d }
  let rest := ((base.map left).dropWhile (fun g => decide (g.frames = 0))).filter (fun g => decide (0 < g.frames))
  let least := (rest.drop 1).foldl (fun m g => min m g.first) (((rest.head?).map (·.first)).getD 0)
  rest.map (fun g => { g with first := g.first - least })

/-- A replan decided (R43): a new promise, or the request is abandoned. -/
def decideReplan (s : State) (e : Nat) : State :=
  match reqAt s e with
  | none => s
  | some r =>
    match pipeOf s r.pipeline with
    | none => s
    | some p =>
      if alive r = false then s
      else
        let n := now s
        let a : Ask := { ctx := r.ctx, elastic := r.elastic, pipe := p, gen := r.gen, search := r.search, plan := replanStages s p r }
        let bare := setReq s e { r with plan := [] }
        match search_ bare a n 4096 (n + 1 + swapDelay bare r.gen) with
        | some f =>
          let promised := f.start + planSpan a.plan + 2
          let keep := (List.range f.slots.length).map (fun j =>
            if a.plan.any (fun g => decide (g.stage = j)) then f.slots.getD j 0xFF else r.slots.getD j 0xFF)
          let r := { r with plan := f.plan, start := f.start, promised := promised, slots := keep, lane := f.lane }
          let s := setReq (orderFit bare a f) e r
          let s := { s with spires := s.spires.map (fun q =>
            (q.1, { q.2 with queue := q.2.queue.map (fun k => if k.entry = e then { k with promised := promised } else k) })) }
          eventTo (bump s .admission 0x28 1) r.session 0x02 (handle e r) promised
        | none => complete (endRequest s e stAbandoned n) e stAbandoned

/-! ### The pass -/

/-- An item of an admission pass: priority, replan or new, arrival stamp, queue (R35). -/
structure PassItem where
  prio : Nat
  fresh : Bool
  stamp : Nat
  queue : Nat
  replan : Nat
  sub : Option Submission
  deriving DecidableEq, Repr

/-- The order of R35. -/
def itemBefore (a b : PassItem) : Bool :=
  decide (b.prio < a.prio) || (decide (a.prio = b.prio) &&
    ((!a.fresh && b.fresh) || (decide (a.fresh = b.fresh) &&
      (decide (a.stamp < b.stamp) || (decide (a.stamp = b.stamp) && decide (a.queue ≤ b.queue))))))

/-- The items of a pass in order. -/
def passItems (s : State) : List PassItem :=
  let old := s.adm.replans.filterMap (fun e => (reqAt s e).map (fun r =>
    ({ prio := r.prio, fresh := false, stamp := r.stamp, queue := r.queue, replan := e, sub := none } : PassItem)))
  let new := s.adm.subs.map (fun x =>
    ({ prio := x.body.prio, fresh := true, stamp := x.stamp, queue := x.queue, replan := 0, sub := some x } : PassItem))
  sortBy itemBefore (old ++ new)

/-- One item decided. -/
def decideItem (s : State) (i : PassItem) : State :=
  match i.sub with
  | some x => decideNew s x
  | none => decideReplan s i.replan

/-- The admission pass at the start of a frame: at most ⌊32 × PERIOD_US⌋ decisions, and the rest carry over (R35). -/
def admissionPass (s : State) : State :=
  let items := passItems s
  let k := 32 * periodUs s
  let later := items.drop k
  let s := { s with adm := { s.adm with subs := later.filterMap (·.sub), auditCopy := [],
                                        replans := (later.filter (fun i => i.sub.isNone)).map (·.replan) } }
  let s := if later = [] then s else bump s .admission 0x20 later.length
  (items.take k).foldl decideItem s

end Sys2Proof.Machine
end

