-- ==== Sys2Proof/Machine/Tier.lean ====
section
/-! DEFINITION. Leases, peers, the tier engine, Keep arbitration, patrol scrub and row repair (chapter 11), and the
messages between devices (R345, R346). -/

namespace Sys2Proof.Machine

/-- A management reply, kept with its SEQ for a repeated request (R408, R410). A link that has ended gets none. -/
def mgmtReply (s : State) (link op status seq : Nat) (body : List Byte) : State :=
  match tget s.lantern.links link with
  | none => s
  | some l =>
    let l' := { l with seq := seq, cache := (op, status, body) }
    emitOut { s with lantern := { s.lantern with links := tset s.lantern.links link l' } } (.mgmt link op status seq body)

/-! ### The lend region -/

/-- Granules of the lend region over all Keeps (R271, R275). -/
def lendTotal (s : State) : Nat := 32 * lendGranules s

/-- The free runs of granules below `total`, given the runs in use in ascending order. -/
def freeRuns (total : Nat) : Nat → List (Nat × Nat) → List (Nat × Nat)
  | pos, [] => if pos < total then [(pos, total - pos)] else []
  | pos, (a, n) :: r => (if pos < a then [(pos, a - pos)] else []) ++ freeRuns total (max pos (a + n)) r

/-- The first `k` granules of a list of runs. -/
def takeRuns : Nat → List (Nat × Nat) → List (Nat × Nat)
  | _, [] => []
  | k, (a, n) :: r => if k = 0 then [] else if k ≤ n then [(a, k)] else (a, n) :: takeRuns (k - n) r

/-- Granules in a list of runs. -/
def runsLen (l : List (Nat × Nat)) : Nat := sumBy (·.2) l

/-- Granules lent to all borrowers (TIER_LENT). -/
def lentGranules (s : State) : Nat := sumBy (fun l => runsLen l.pieces) s.tier.lent

/-- The lowest free granules of the lend region, whole or not at all (R275). -/
def freeLend (s : State) (k : Nat) : Option (List (Nat × Nat)) :=
  let used := sortBy (fun a b : Nat × Nat => decide (a.1 ≤ b.1)) (s.tier.lent.flatMap (·.pieces))
  let l := takeRuns k (freeRuns (lendTotal s) 0 used)
  if runsLen l = k then some l else none

/-- Granule of the lend region that granule `g` of a lease is. -/
def pieceAt : List (Nat × Nat) → Nat → Option Nat
  | [], _ => none
  | (a, n) :: r, g => if g < n then some (a + g) else pieceAt r (g - n)

/-- Lend-region byte behind a lease offset. -/
def Lent.byteAt (l : Lent) (off : Nat) : Option Nat := (pieceAt l.pieces (off / 2048)).map (fun g => 2048 * g + off % 2048)

/-- A lease granted to a neighbour, by its wire number. -/
def lentOf (s : State) (l : LeaseId) : Option Lent :=
  s.tier.lent.find? (fun x => decide (x.neighbour = l.neighbour) && decide (x.wire = l.lease))

/-- A session with the neighbour carries its LEASE messages (R327, R335). -/
def leaseHeard (s : State) (l : LeaseId) : Bool :=
  match neighbourEndpoint s l.neighbour with
  | some e => epDevice s e && (neighbourSession s l.neighbour false).isSome
  | none => false

/-- LEASE_REQUEST: the lender grants the lease whole or denies it (R275, R346). -/
def execLeaseRequest (l : LeaseId) (granules mbps : Nat) (s : State) : Res :=
  if leaseHeard s l = false then .next s
  else
    let deny := sendLease s l.neighbour false 3 l.lease 0 0 []
    let lentMbps := sumBy (·.mbps) s.tier.lent
    if !serving s ∨ granules = 0 ∨ fld s .tier 0x20 32 16 < lentMbps + mbps ∨ (lentOf s l).isSome then .next deny
    else
      match freeLend s granules with
      | none => .next deny
      | some p =>
        let s := { s with tier := { s.tier with
          lent := s.tier.lent ++ [{ neighbour := l.neighbour, wire := l.lease, pieces := p, mbps := mbps }] } }
        .next (sendLease s l.neighbour false 2 l.lease granules mbps [])

/-- LEASE_RELEASE: the lease ends and its granules are overwritten (R275, R276). -/
def execLeaseRelease (l : LeaseId) (s : State) : Res :=
  if leaseHeard s l = false then .next s
  else
    match lentOf s l with
    | none => .next s
    | some x =>
      .next { s with tier := { s.tier with
        lent := s.tier.lent.filter (fun y => decide (y ≠ x)), lendMem := zeroPieces s.tier.lendMem x.pieces } }

/-- Bytes of a lease, where every one lies in it. -/
def Lent.keys (x : Lent) (off n : Nat) : Option (List Nat) := (List.range n).mapM (fun i => x.byteAt (off + i))

/-- The data behind a READ: a lease offset, or with bit 63 set an address that this device's home map of the same context
resolves to a Keep (R276, R277, R346). -/
def leaseBytes (s : State) (l : LeaseId) (addr : Nat) (ctx n : Nat) : Option (List Byte) :=
  if addr < 2 ^ 63 then
    (lentOf s l).bind (fun x => (x.keys addr n).map (fun ks => ks.map (memByte s.tier.lendMem)))
  else
    let a := addr - 2 ^ 63
    let here (g : Nat) : Bool := match serveAt s ctx false false g with
      | .keep _ => true
      | _ => false
    if serving s ∧ ctxConf s ctx = false ∧ (granulesFrom a n).all here ∧ a + n ≤ 2 ^ 63 ∧ badAt s ctx a n = false then
      some (t1Read s ctx a n)
    else none

/-- LEASE_READ: the lender answers with DATA, or FAIL (R346); feature rows with due deltas are settled first (R209). -/
def execLeaseRead (l : LeaseId) (addr : Word) (ctx bytes : Nat) (s : State) : Res :=
  if 16 ≤ ctx then malformed "context"
  else if leaseHeard s l = false then .next s
  else
    let s := if 2 ^ 63 ≤ addr.toNat then settleBytes s ctx (addr.toNat - 2 ^ 63) bytes else s
    match leaseBytes s l addr.toNat ctx bytes with
    | some d => .next (sendLease s l.neighbour false 8 l.lease addr.toNat (ctx + bytes * 16) d)
    | none => .next (sendLease s l.neighbour false 10 l.lease addr.toNat 0 [])

/-- LEASE_WRITE: the lender stores the bytes at the lease offset, or answers FAIL (R346). -/
def execLeaseWrite (l : LeaseId) (addr : Nat) (bytes : List Byte) (s : State) : Res :=
  if leaseHeard s l = false then .next s
  else
    match (lentOf s l).bind (fun x => x.keys addr bytes.length) with
    | some ks =>
      .next { s with tier := { s.tier with lendMem := (ks.zip bytes).foldl (fun m p => memPut m p.1 p.2) s.tier.lendMem } }
    | none => .next (sendLease s l.neighbour false 10 l.lease addr 0 [])

/-! ### Leases held -/

/-- The lowest lease number, 0 to 15, neither held nor asked for. -/
def freeLease (s : State) : Option Nat :=
  leastBelow (fun j => (tget s.tier.leases j).isNone && s.tier.asked.all (fun a => decide (a.2.2.2 ≠ j))) 16

/-- A lease this device holds, by its neighbour and wire number. -/
def leaseOf (s : State) (l : LeaseId) : Option (Nat × Lease) :=
  s.tier.leases.find? (fun p => decide (p.2.neighbour = l.neighbour) && decide (p.2.wire = l.lease))

/-- The lease can take granules: neither recalled nor ended. -/
def Lease.active (x : Lease) : Bool := x.notice.isNone && !x.ended

/-- The answer to the management order that waits names this lease (R412). -/
def askedFor (s : State) (l : LeaseId) : Option (Nat × Nat) :=
  (s.tier.asked.find? (fun a => decide (a.2.2 = (l.neighbour, l.lease)))).map (fun a => (a.1, a.2.1))

/-- Reply of the management operation LEASE (R412). -/
def leaseReply (s : State) (link seq result lease : Nat) : State :=
  mgmtReply { s with tier := { s.tier with asked := s.tier.asked.filter (fun a => decide ((a.1, a.2.1) ≠ (link, seq))) } } link 0x23 0 seq (toLE 1 result ++ toLE 4 lease)

/-- LEASE_GRANT: the lease asked for is held (R275, R346); an answer that nobody waits for changes nothing. -/
def execLeaseGrant (l : LeaseId) (granules mbps : Nat) (s : State) : Res :=
  if leaseHeard s l = false then .next s
  else
    match askedFor s l with
    | none => .next s
    | some (link, seq) =>
      let x : Lease := { neighbour := l.neighbour, wire := l.lease, granules := granules, mbps := mbps, notice := none,
                         ended := false }
      .next (leaseReply { s with tier := { s.tier with leases := tset s.tier.leases l.lease x } } link seq 0 l.lease)

/-- LEASE_DENY (R346). -/
def execLeaseDeny (l : LeaseId) (s : State) : Res :=
  if leaseHeard s l = false then .next s
  else
    match askedFor s l with
    | none => .next s
    | some (link, seq) => .next (leaseReply s link seq 1 l.lease)

/-- LEASE_REPLY_TIMEOUT: 1 s without an answer to the oldest request that waits (R412). -/
def execLeaseReplyTimeout (s : State) : Res :=
  match s.tier.asked with
  | [] => .next s
  | (link, seq, _, w) :: _ => .next (leaseReply s link seq 2 w)

/-- Accepted Elastic requests with T3 demand join the replans of the next pass (R276 step 1). -/
def replanT3 (s : State) : State :=
  (holders s).foldl (fun s q =>
    match pipeOf s q.2.pipeline with
    | some p => if q.2.elastic ∧ q.2.plan.any (fun h => decide (0 < stageT3 s p h.stage)) then replan s q.1 else s
    | none => s) s

/-- Frames of a recall's notice (R276 step 2). -/
def noticeFrames (s : State) (ms : Nat) : Nat := ms * 1000 / periodUs s

/-- LEASE_RECALL: the notice runs, nothing more is debited on the lease, and the requests that relied on it are replanned
(R276). -/
def execLeaseRecall (l : LeaseId) (noticeMs : Nat) (s : State) : Res :=
  if leaseHeard s l = false then .next s
  else
    match leaseOf s l with
    | none => .next s
    | some (j, x) =>
      if x.active = false then .next s
      else
        let x' := { x with notice := some (now s + noticeFrames s noticeMs) }
        let s := setFlag { s with tier := { s.tier with leases := tset s.tier.leases j x' } } .tier 0x08 3
        .next (eventPriv (replanT3 s) 0x0A j noticeMs)

/-- LEASE_END: the lease ends at once (R276). -/
def execLeaseEnd (l : LeaseId) (s : State) : Res :=
  if leaseHeard s l = false then .next s
  else
    match leaseOf s l with
    | none => .next s
    | some (j, x) =>
      .next (replanT3 { s with tier := { s.tier with leases := tset s.tier.leases j { x with ended := true } } })

/-- Keys of the granules that a lease homes. -/
def leaseHomes (s : State) (j : Nat) : List (Nat × Nat) :=
  s.tier.homes.filterMap (fun p => match p.2 with
    | .lease i off => if i = j then some (p.1, off) else none
    | _ => none)

/-- A lease is gone: the granules it still homes are lost (R276 step 3). -/
def loseLease (s : State) (j : Nat) : State :=
  let n := (leaseHomes s j).length
  let lose (h : Home) : Home := match h with
    | .lease i off => if i = j then .lost else .lease i off
    | other => other
  let held := (leaseHomes s j).map (·.1)
  let s := { s with tier := { s.tier with
    leases := tdel s.tier.leases j, homes := s.tier.homes.map (fun p => (p.1, lose p.2)),
    fetch := s.tier.fetch.filter (fun p => !held.contains p.1) } }
  if n = 0 then s else eventPriv (setFlag s .tier 0x08 4) 0x0B j n

/-- RECALL_NOTICE_END: the notice has run out at the boundary just passed (R276 step 3). -/
def execRecallNoticeEnd (lease : Nat) (s : State) : Res :=
  match tget s.tier.leases lease with
  | none => .next s
  | some x =>
    match x.notice with
    | some f => if f ≤ now s then .next (loseLease s lease) else .next s
    | none => .next s

/-- Leases ended at once, and recalls whose end was not reported by itself, at a boundary (R276). -/
def loseLeases (s : State) : State :=
  (s.tier.leases.filter (fun p => p.2.ended || (match p.2.notice with
    | some f => decide (f < now s)
    | none => false))).foldl (fun s p => loseLease s p.1) s

/-- Bytes that DATA brings, in whole granules: number of the granule from the first, 2,048 bytes (R346). -/
def wholeGranules (bytes : List Byte) : List (Nat × List Byte) :=
  (List.range (bytes.length / 2048)).map (fun i => (i, sub bytes (2048 * i) 2048))

/-- A granule's bytes handed to the streams of its context that wait for it. -/
def handGranule (s : State) (ctx a : Nat) (d : List Byte) : State :=
  { s with tiles := s.tiles.map (fun p => (p.1, { p.2 with streams := p.2.streams.map (fun r =>
      if r.ctx = ctx ∧ r.done = false ∧ (awaited s r).contains a then { r with got := r.got ++ [(a, d)] } else r) })) }

/-- A granule's bytes kept for the move that asked for them (R273). -/
def fetched (s : State) (k : Nat) (d : List Byte) : State :=
  if tget s.tier.fetch k = some none then { s with tier := { s.tier with fetch := tset s.tier.fetch k (some d) } } else s

/-- LEASE_DATA: the bytes of READs arrive, for the streams and the moves that wait for them (R273, R276, R277, R346). -/
def execLeaseData (l : LeaseId) (addr : Word) (ctx : Nat) (bytes : List Byte) (s : State) : Res :=
  if 16 ≤ ctx then malformed "context"
  else if leaseHeard s l = false then .next s
  else
    let a := addr.toNat
    let parts := if a % 2048 = 0 then wholeGranules bytes else []
    if 2 ^ 63 ≤ a then .next (parts.foldl (fun s q => handGranule s ctx (a - 2 ^ 63 + 2048 * q.1) q.2) s)
    else
      match leaseOf s l with
      | none => .next s
      | some (j, _) =>
        .next (parts.foldl (fun s q =>
          match (leaseHomes s j).find? (fun p => decide (p.2 = a / 2048 + q.1)) with
          | some p => fetched (handGranule s (p.1 / 2 ^ 64) (p.1 % 2 ^ 64) q.2) p.1 q.2
          | none => s) s)

/-- An element of a T3 stream that a failed READ served: same context and granule (R278). -/
def failedRun (s : State) (l : LeaseId) (addr : Nat) (r : StreamRun) : Bool :=
  decide (r.desc.farTier = 3) && !r.done && (r.elems.flatMap (fun e => granulesFrom e.1 e.2.2)).any (fun g =>
    match servedBy s r g with
    | .lease j off =>
      match tget s.tier.leases j with
      | some x => decide (x.neighbour = l.neighbour) && decide (x.wire = l.lease) && decide (off = addr / 2048)
      | none => false
    | .peer id => decide (peerNeighbour s id = some l.neighbour) && decide (2 ^ 63 ≤ addr) &&
        decide (g = (addr - 2 ^ 63) / 2048 * 2048)
    | _ => false)

/-- A granule that the tier engine asked for and that failed is asked for again (R273). -/
def unfetch (s : State) (l : LeaseId) (addr : Nat) : State :=
  match leaseOf s l with
  | none => s
  | some (j, _) =>
    match (leaseHomes s j).find? (fun p => decide (p.2 = addr / 2048)) with
    | some p => if tget s.tier.fetch p.1 = some none then { s with tier := { s.tier with fetch := tdel s.tier.fetch p.1 } } else s
    | none => s

/-- LEASE_FAIL: a lender or peer could not serve a READ or WRITE, and the streams that wait for it stall as T3_FAIL (R278,
R346). A PEER read that the peer cannot resolve aborts with cause ADDRESS (R277). -/
def execLeaseFail (l : LeaseId) (addr : Word) (s : State) : Res :=
  if leaseHeard s l = false then .next s
  else
    let a := addr.toNat
    let hit := s.tiles.flatMap (fun p => (p.2.streams.filter (failedRun s l a)).map (fun r => (p.1, r)))
    .next (hit.foldl (fun s p => streamAbort s p.1 p.2 (if 2 ^ 63 ≤ a then 2 else 5) 7) (unfetch s l a))

/-! ### The tier engine -/

/-- The least number at or above `k` missing from an ascending list. -/
def lowestGap : Nat → List Nat → Nat
  | k, [] => k
  | k, x :: r => if k < x then k else lowestGap (max k (x + 1)) r

/-- The lowest free granule of a lease, if it has room. -/
def leaseGap (s : State) (j : Nat) : Option Nat :=
  match tget s.tier.leases j with
  | none => none
  | some x =>
    let g := lowestGap 0 (asSet ((leaseHomes s j).map (·.2)))
    if g < x.granules then some g else none

/-- The home that a move to a target gives the next granule (R273). -/
def targetHome (s : State) (target : Nat) : Option Home :=
  if target = 16 then some .keep
  else
    match tget s.tier.leases target with
    | some x => if x.active then (leaseGap s target).map (.lease target) else none
    | none => none

/-- The home that a recall gives a granule: another active lease with room, the lowest first, for a context that is not
confidential, and otherwise its Keep home (R276 step 2, R273). -/
def recallHome (s : State) (j ctx : Nat) : Home :=
  let ok (i : Nat) : Bool := decide (i ≠ j) && (targetHome s i).isSome
  match (if ctxConf s ctx then none else leastBelow ok 16) with
  | some i => (targetHome s i).getD .keep
  | none => .keep

/-- Home of a key. -/
def homeAtKey (s : State) (k : Nat) : Home := tgetD s.tier.homes k .keep

/-- Bytes of a granule at its home: what its Keep holds, what DATA brought from its lease, zeros where it is lost. -/
def granuleData (s : State) (k : Nat) : List Byte :=
  match homeAtKey s k with
  | .keep => memRead s.tier.t1 k 2048
  | .lease _ _ => (tgetD s.tier.fetch k none).getD (zeros 2048)
  | .lost => zeros 2048

/-- The tier engine has a granule's bytes. -/
def atHand (s : State) (k : Nat) : Bool :=
  match homeAtKey s k with
  | .lease _ _ => (tgetD s.tier.fetch k none).isSome
  | _ => true

/-- A granule that went to a lease: its key, its new home and its bytes. -/
structure Transfer where
  key : Nat
  dst : Home
  data : List Byte
  deriving DecidableEq, Repr

/-- The WRITE of a transfer to the lender (R346). -/
def sendTransfer (s : State) (h : Home) (d : List Byte) : State :=
  match h with
  | .lease j off =>
    match tget s.tier.leases j with
    | some l => sendLease s l.neighbour true 9 l.wire (2048 * off) d.length d
    | none => s
  | _ => s

/-- Two adjacent granules that go to adjacent places (R273). -/
def sameWay (a b : Home) : Bool :=
  match a, b with
  | .lease i x, .lease j y => decide (i = j) && decide (y = x + 1)
  | _, _ => false

/-- Every transfer's message, two adjacent granules that go the same way to a transfer (R273). -/
def sendTransfers (s : State) : List Transfer → State
  | [] => s
  | [x] => sendTransfer s x.dst x.data
  | x :: y :: r =>
    if y.key = x.key + 2048 ∧ sameWay x.dst y.dst then sendTransfers (sendTransfer s x.dst (x.data ++ y.data)) r
    else sendTransfers (sendTransfer s x.dst x.data) (y :: r)

/-- The map switched for one granule: its bytes lie at the new home, and its old home reads zeros (R272, R273). -/
def rehome (s : State) (k : Nat) (h : Home) : State :=
  let t1 := match h with
    | .keep => memWrite s.tier.t1 k (granuleData s k)
    | _ => memZero s.tier.t1 k 2048
  { s with tier := { s.tier with homes := tsetD s.tier.homes k h .keep, t1 := t1, fetch := tdel s.tier.fetch k } }

/-- One granule switched, with its transfer noted. -/
def switchGranule (p : State × List Transfer) (k : Nat) (h : Home) : State × List Transfer :=
  (rehome p.1 k h, p.2 ++ [{ key := k, dst := h, data := granuleData p.1 k }])

/-- A lease's notice runs, and its granules leave it (R276 step 2). -/
def recalled (s : State) (j : Nat) : Bool := (tget s.tier.leases j).any (fun x => x.notice.isSome && !x.ended)

/-- The granules that recalls move, before any other move, in ascending key (R273, R276). -/
def recallTodo (s : State) : List Nat :=
  s.tier.homes.filterMap (fun p => match p.2 with
    | .lease j _ => if recalled s j then some p.1 else none
    | _ => none)

/-- One recalled granule switched (R276 step 2). -/
def recallOne (p : State × List Transfer) (k : Nat) : State × List Transfer :=
  match homeAtKey p.1 k with
  | .lease j _ => switchGranule p k (recallHome p.1 j (k / 2 ^ 64))
  | _ => p

/-- One granule of the ordered move switched, where its target has room. -/
def moveOne (m : Move) (p : State × List Transfer) (a : Nat) : State × List Transfer :=
  match targetHome p.1 m.target with
  | none => p
  | some h => switchGranule p (m.ctx * 2 ^ 64 + a) h

/-- The ordered move stands: its context is open and its target takes granules. -/
def moveStands (s : State) (m : Move) : Bool := ctxOpen s m.ctx && (targetHome s m.target).isSome

/-- Granules of a lease that the tier engine still has to ask for: all of a recalled lease's, and those of the ordered
move. -/
def toAsk (s : State) (j : Nat) : List (Nat × Nat) :=
  (leaseHomes s j).filter (fun p => (tget s.tier.fetch p.1).isNone &&
    (recalled s j || s.tier.move.any (fun m => decide (p.1 / 2 ^ 64 = m.ctx) && m.todo.contains (p.1 % 2 ^ 64))))

/-- The first `n` transfers of a list of leased granules: two adjacent granules to a transfer (R273). -/
def firstTransfers : Nat → List (Nat × Nat) → List (List (Nat × Nat))
  | 0, _ => []
  | _, [] => []
  | _ + 1, [x] => [[x]]
  | n + 1, x :: y :: r =>
    if y.1 = x.1 + 2048 ∧ y.2 = x.2 + 1 then [x, y] :: firstTransfers n r else [x] :: firstTransfers n (y :: r)

/-- The READs of a frame to one lender, at most the lease's grant (R275, R276, R346). -/
def askLease (s : State) (j : Nat) : State :=
  match tget s.tier.leases j with
  | none => s
  | some l =>
    (firstTransfers (l.mbps * periodUs s / 4096) (toAsk s j)).foldl (fun s q =>
      match q with
      | [] => s
      | x :: _ =>
        let s := sendLease s l.neighbour true 7 l.wire (2048 * x.2) (x.1 / 2 ^ 64 + q.length * 2048 * 16) []
        { s with tier := { s.tier with fetch := q.foldl (fun f p => tset f p.1 none) s.tier.fetch } }) s

/-- The READs of a frame. -/
def askLeases (s : State) : State := (s.tier.leases.map (·.1)).foldl askLease s

/-- The map switches at a boundary for what the tier engine copied in the frame that ended, recalls first and then the
ordered move in ascending address, up to `copied` granules; a granule written in that frame is copied again later. The
copies of the next frame begin (R273, R276). -/
def tierBoundary (s : State) (copied : Nat) : State :=
  let recalls := (recallTodo s).filter (atHand s)
  let a := (recalls.take copied).foldl recallOne (s, [])
  let left := copied - recalls.length
  let s := a.1
  match s.tier.move with
  | none => askLeases (sendTransfers s a.2)
  | some m =>
    if moveStands s m = false then
      askLeases (setFlag { sendTransfers s a.2 with tier := { s.tier with move := none } } .tier 0x08 2)
    else
      let ready := (m.todo.filter (fun g => atHand s (m.ctx * 2 ^ 64 + g))).take left
      let go := ready.filter (fun g => !m.written.contains g)
      let b := go.foldl (moveOne m) (s, a.2)
      let todo := m.todo.filter (fun g => !go.contains g)
      let s := sendTransfers b.1 b.2
      if todo = [] then askLeases (setFlag { s with tier := { s.tier with move := none } } .tier 0x08 1)
      else askLeases { s with tier := { s.tier with move := some { m with todo := todo, written := [] } } }

/-- The home of a granule is already the target of a move. -/
def atTarget (s : State) (target c a : Nat) : Bool :=
  match homeOf s c a with
  | .keep => decide (target = 16)
  | .lease j _ => decide (j = target)
  | .lost => false

/-- Room of a lease in granules. -/
def leaseRoom (s : State) (j : Nat) : Nat :=
  match tget s.tier.leases j with
  | some x => if x.active then x.granules - (leaseHomes s j).length else 0
  | none => 0

/-- The move that a write of TIER_MOVE_CMD orders, if R273 allows it: no move runs, the context is open, the range lies in
one T3-eligible extent, and the target takes it. -/
def moveOf (s : State) (v : Word) : Option Move :=
  let c := bits v 0 4
  let n := bits v 4 32
  let target := bits v 36 5
  let a := s.tier.moveAddr
  match extentAt s c a with
  | none => none
  | some x =>
    if s.tier.move.isSome ∨ !ctxOpen s c ∨ a % 2048 ≠ 0 ∨ n = 0 ∨ x.kind ≠ 1 ∨ x.vbase + 2048 * x.granules < a + 2048 * n ∨
        16 < target ∨ (decide (target < 16) && ctxConf s c) then none
    else
      let todo := ((List.range n).map (fun i => a + 2048 * i)).filter (fun g => !atTarget s target c g)
      if target < 16 ∧ ((tget s.tier.leases target).any Lease.active = false ∨ leaseRoom s target < todo.length) then none
      else some { ctx := c, todo := todo, target := target, written := [] }

/-- TIER_MOVE_CMD written (R273, R286): a move begins, or the command is refused with MOVE_REJECTED. -/
def writeMoveCmd (s : State) (v : Word) : State :=
  match moveOf s v with
  | none => setFlag s .tier 0x08 2
  | some m =>
    if m.todo = [] then setFlag s .tier 0x08 1 else askLeases { s with tier := { s.tier with move := some m } }

/-! ### Keep arbitration -/

/-- Bytes of a rate in MB/s in a window of 2,048 cycles of 2,250 MHz (R280). -/
def windowBytes (mbps : Nat) : Nat := mbps * 2048 / 2250

/-- Rate of a Keep's external link in MB/s (R59). -/
def linkMbps (s : State) (k : Nat) : Nat := min 1600000 ((100 - fld s (.keep k) 0x18 0 7) * 32000)

/-- Percentage of a share: 0 read, 1 write, 2 remote (R59). -/
def sharePct (s : State) (k share : Nat) : Nat := fld s (.keep k) 0x18 (7 + 7 * share) 7

/-- Bytes of a share in a window. -/
def shareBytes (s : State) (k share : Nat) : Nat := windowBytes (linkMbps s k * sharePct s k share / 100)

/-- Share of an access to a Keep (R11, R279): a tile of the Keep's own Spire and a switch read and write on their shares,
delta application likewise, and everything else is remote. -/
def shareOf (k : Nat) (a : Access) : Nat :=
  let own := if a.write then 1 else 0
  match a.kind with
  | .stream => if a.tile / 80 = k / 4 then own else 2
  | .switch => own
  | .delta => own
  | _ => 2

/-- An access that a grant bounds: a Bound stream or a switch transfer. -/
def isGranted (a : Access) : Bool := a.bound || decide (a.kind = .switch)

/-- Rank of Elastic traffic (R280): requests, then the tier engine, delta application and host loads, then lease and PEER
service. -/
def trafficRank : Traffic → Nat
  | .stream | .switch | .dome => 0
  | .delta | .tierEngine | .hostLoad => 1
  | .lease => 2

/-- Order of the Elastic traffic (R280). -/
def accessBefore (a b : Access) : Bool :=
  decide (trafficRank a.kind < trafficRank b.kind) || (decide (trafficRank a.kind = trafficRank b.kind) &&
    (decide (b.prio < a.prio) || (decide (a.prio = b.prio) && decide (a.entry ≤ b.entry))))

/-- Accesses served in order from a capacity: the capacity left, and the accesses with the bytes served. -/
def serveList : Nat → List Access → Nat × List (Access × Nat)
  | cap, [] => (cap, [])
  | cap, a :: r =>
    let want := if isGranted a then min a.bytes (windowBytes a.grantMbps) else a.bytes
    let got := min cap want
    let p := serveList (cap - got) r
    (p.1, (a, got) :: p.2)

/-- One share's own capacity used: what is left, the bytes served, and the Elastic accesses with their bytes unserved. -/
def serveShare (s : State) (k : Nat) (reqs : List Access) (share : Nat) : Nat × Nat × List Access :=
  let mine := reqs.filter (fun a => decide (shareOf k a = share))
  let p := serveList (shareBytes s k share) (sortBy (fun a b => decide (a.tile ≤ b.tile)) (mine.filter isGranted))
  let q := serveList p.1 (sortBy accessBefore (mine.filter (fun a => !isGranted a)))
  (q.1, sumBy (·.2) p.2 + sumBy (·.2) q.2, (q.2.filter (fun x => decide (x.2 < x.1.bytes))).map
    (fun x => { x.1 with bytes := x.1.bytes - x.2 }))

/-- Bytes served on each share in a window: its own capacity first, then what other shares leave, which goes to Elastic
traffic only (R280). -/
def windowServed (s : State) (k : Nat) (reqs : List Access) : List Nat :=
  let own := (List.range 3).map (serveShare s k reqs)
  let p := serveList (sumBy (·.1) own) (sortBy accessBefore (own.flatMap (·.2.2)))
  (List.range 3).map (fun i => (own.getD i (0, 0, [])).2.1 +
    sumBy (·.2) (p.2.filter (fun x => decide (shareOf k x.1 = i))))

/-- ARBITRATION_WINDOW: the bytes served are counted on their shares (R280, R287). -/
def execArbitrationWindow (keep : Nat) (reqs : List Access) (s : State) : Res :=
  if 32 ≤ keep ∨ reqs.any (fun a => decide (640 ≤ a.tile)) then malformed "access"
  else
    let l := windowServed s keep reqs
    .next (bump (bump (bump s (.keep keep) 0x48 (l.getD 0 0)) (.keep keep) 0x50 (l.getD 1 0)) (.keep keep) 0x58 (l.getD 2 0))

/-! ### Patrol and repair -/

/-- Key of a row in the record of corrected patrol errors. -/
def rowKey (bank row : Nat) : Nat := bank * 2 ^ 32 + row

/-- The patrol goes on to the next granule; a pass that ends is counted, saturating (R283, R287). -/
def nextPatrol (s : State) (k : Nat) : State :=
  let g := fld s (.keep k) 0x40 32 25
  if g + 1 < keepGranules then setFld s (.keep k) 0x40 32 25 (g + 1)
  else setFld (setFld s (.keep k) 0x40 32 25 0) (.keep k) 0x40 0 32 (min (fld s (.keep k) 0x40 0 32 + 1) (2 ^ 32 - 1))

/-- Patrol passes completed. -/
def patrolPass (s : State) (k : Nat) : Nat := fld s (.keep k) 0x40 0 32

/-- The patrol meets an error in a 64-byte block of a Keep: a corrected one is noted for its row, an uncorrectable one is a
latent fault (R282, R283, R284). -/
def patrolFind (k : Nat) (s : State) (b : Nat × Bool) : State :=
  if b.2 then
    let key := k * 2 ^ 30 + b.1
    let s := keepError { s with tier := { s.tier with badBlocks := asSet (s.tier.badBlocks ++ [key]) } } k b.1 true true
    latent s 0x05 (0x0400 + k) key
  else
    keepError { s with tier := { s.tier with
      corrected := s.tier.corrected ++ [(k, rowKeyOf k b.1, now s, patrolPass s k)] } } k b.1 false true

/-- The errors that the patrol meets in granule `g` of a Keep, in ascending block: what the command reports, and every block
known to be uncorrectable, which reads so again (R282). -/
def patrolFinds (s : State) (k g : Nat) (finds : List (Nat × Bool)) : List (Nat × Bool) :=
  (List.range 32).filterMap (fun b =>
    if s.tier.badBlocks.contains (k * 2 ^ 30 + g * 32 + b) ∨ finds.contains (b, true) then some (g * 32 + b, true)
    else if finds.contains (b, false) then some (g * 32 + b, false)
    else none)

/-- The errors of the four quarters of a granule, 8 blocks each, as blocks of the granule. -/
def quarterFinds (q0 q1 q2 q3 : List (Nat × Bool)) : List (Nat × Bool) :=
  q0 ++ q1.map (fun b => (8 + b.1, b.2)) ++ q2.map (fun b => (16 + b.1, b.2)) ++ q3.map (fun b => (24 + b.1, b.2))

/-- PATROL_SCRUB: the patrol reads the 32 blocks of the next granule of a Keep (R283); the operands are the blocks of its
quarters that showed an error, and whether it was uncorrectable. -/
def execPatrolScrub (keep : Nat) (q0 q1 q2 q3 : List (Nat × Bool)) (s : State) : Res :=
  if 32 ≤ keep ∨ (q0 ++ q1 ++ q2 ++ q3).any (fun b => decide (8 ≤ b.1)) then malformed "block"
  else if enabled s (.keep keep) = false then .next s
  else
    let finds := patrolFinds s keep (fld s (.keep keep) 0x40 32 25) (quarterFinds q0 q1 q2 q3)
    .next (nextPatrol (finds.foldl (patrolFind keep) s) keep)

/-- A corrected error of a row found on two patrol passes within 24 hours (R284). -/
def twiceCorrected (s : State) (k row : Nat) : Bool :=
  let l := (s.tier.corrected.filter (fun c => decide (c.1 = k) && decide (c.2.1 = row))).map (·.2.2)
  (l.zip (l.drop 1)).any (fun p => decide (p.1.2 ≠ p.2.2) && decide ((p.2.1 - p.1.1) * periodUs s ≤ 86400000000))

/-- An uncorrectable block lies in a row that has not been moved for it (R284). -/
def rowBad (s : State) (k bank row : Nat) : Bool :=
  !(s.nv.repairs.contains (k, bank, row)) &&
  s.tier.badBlocks.any (fun b => decide (b / 2 ^ 30 = k) && decide (rowKeyOf k (b % 2 ^ 30) = rowKey bank row))

/-- A row is due for repair: an uncorrectable error in it, or corrected ones on two passes (R284). -/
def repairDue (s : State) (k bank row : Nat) : Bool := rowBad s k bank row || twiceCorrected s k (rowKey bank row)

/-- ROW_REPAIR: the row moves into a spare row of its bank, or stays where no spare is left (R284, R401). Uncorrectable
blocks stay so. -/
def execRowRepair (keep bank row : Nat) (s : State) : Res :=
  if 32 ≤ keep ∨ 512 ≤ bank then malformed "bank"
  else if repairDue s keep bank row = false then .next s
  else
    let used := tgetD s.tier.sparesUsed (keep * 512 + bank) 0
    let s := { s with tier := { s.tier with
      corrected := s.tier.corrected.filter (fun c => !(decide (c.1 = keep) && decide (c.2.1 = rowKey bank row))) } }
    if used < 16 then
      let s := { s with
        tier := { s.tier with sparesUsed := tset s.tier.sparesUsed (keep * 512 + bank) (used + 1) },
        nv := { s.nv with repairs := s.nv.repairs ++ [(keep, bank, row)] } }
      let s := setFlag (setFld s (.keep keep) 0x38 0 14 (fld s (.keep keep) 0x38 0 14 + 1)) (.keep keep) 0x08 3
      .next (logEntry s 5 0 3 0xFF (0x0400 + keep) 0xFFFF (bank * 2 ^ 32 + row))
    else
      let s := if used = 16 then
          setFld { s with tier := { s.tier with sparesUsed := tset s.tier.sparesUsed (keep * 512 + bank) 17 } } (.keep keep) 0x38 28 10
            (fld s (.keep keep) 0x38 28 10 + 1)
        else s
      .next (setFlag s (.keep keep) 0x08 4)

/-! ### Errors of reads in a frame -/

/-- Sizes of the regions of Dome SRAM in service, in address order: request table, Tytos transport buffers, shortlist merge,
prefix tree cache, control-core data, result hold, Elastic staging, delta area (R285). -/
def domeRegions (s : State) : List Nat :=
  [54525952, 33554432, 33816576, 8388608, 8388608, 1024 * fld s .dsram 0x10 0 17, 1024 * fld s .dsram 0x18 0 17,
   1024 * fld s .tier 0x8008 0 16]

/-- Number of the region that an offset lies in; the number of regions for the space after the last. -/
def regionOfOffset : List Nat → Nat → Nat
  | [], _ => 0
  | n :: r, a => if a < n then 0 else 1 + regionOfOffset r (a - n)

/-- Action of an uncorrectable Dome SRAM word: REQUEST in the regions that hold requests' data, otherwise DEVICE (R285,
R390). -/
def domeAction (s : State) (addr : Nat) : Nat :=
  if serving s ∧ [0, 2, 5, 6, 7].contains (regionOfOffset (domeRegions s) addr) then 0 else 2

/-- A Dome SRAM word read with an error (R285, R288). The word of a request table entry, 832 bytes each, names its
request. -/
def domeError (s : State) (d : DomeErr) : State :=
  if d.ue = false then bump (setFlag s .dsram 0x08 1) .dsram 0x20 1
  else
    let s := bump (setFlag s .dsram 0x08 2) .dsram 0x28 1
    let act := domeAction s d.addr
    let es := if act = 0 ∧ d.addr < 54525952 then [d.addr / 832] else d.entries
    let live := es.filter (fun e => (reqAt s e).isSome)
    let e := (live.head?).getD 0xFFFF
    detect s { mech := 0x06, action := act, unit := 0x0600, key := some (d.addr / 64),
               ctx := ((reqAt s e).map (·.ctx)).getD 0xFF, entry := e, detail := d.addr,
               affected := if act = 0 then live else [] }

/-- The errors that reads of Keeps and of Dome SRAM met in the frame that ends (R282, R285). -/
def memoryErrors (b : BoundaryIn) (s : State) : State :=
  let s := b.corrected.foldl (fun s q => keepError s q.1 q.2 false false) s
  b.dome.foldl domeError s

/-! ### Deltas between devices -/

/-- The last of each source and table among deltas, oldest first. -/
def deltaKeys (ds : List DeltaRec) : List Nat := asSet (ds.map seqKey)

/-- DELTA: each delta is accepted or rejected, and each table and source is acknowledged (R207, R345). -/
def execDelta (n _tag : Nat) (ds : List DeltaRec) (s : State) : Res :=
  match sessAt s n with
  | none => .next s
  | some x =>
    if epDevice s x.endpoint = false then .next s
    else
      let s := ds.foldl acceptDelta s
      .next ((deltaKeys ds).foldl (fun s k =>
        sendMsg s n (x.firstMsgq + 1) 0x41 0 (toLE 2 (k / 16) ++ zeros 6 ++ toLE 8 (tgetD s.feat.taken k 0))) s)

/-- DELTA_ACK: the deltas that it covers are released (R345). -/
def execDeltaAck (n table seq : Nat) (s : State) : Res :=
  match sessAt s n with
  | none => .next s
  | some x =>
    if epDevice s x.endpoint = false then .next s
    else
      .next { s with feat := { s.feat with
        unacked := s.feat.unacked.filter (fun d =>
          !(decide (d.1 = x.endpoint) && decide (d.2.table = table) && decide (d.2.seq ≤ seq))) } }

end Sys2Proof.Machine
end

