-- ==== Sys2Proof/Machine/Image.lean ====
section
/-! DEFINITION. The structure image as bytes (R47 to R61, R108 to R110, R126, R127): its directory, its records, and the
checks of COMMIT steps 1 to 5 (R63, R64). -/

namespace Sys2Proof.Machine

/-- A refusal of COMMIT: code and DETAIL of R64. -/
abbrev Refuse := Nat × Nat

/-- A directory entry (R49), with its index. -/
structure SecEntry where
  idx : Nat
  type : Nat
  flags : Nat
  count : Nat
  off : Nat
  len : Nat
  deriving DecidableEq, Repr

/-! ### Header and directory -/

/-- FLAGS of the header: SIGNED and EXTRA_TILES_ELASTIC (R48). -/
def hdrSigned (b : List Byte) : Bool := decide (fieldLE b 0x1E 1 % 2 = 1)
def hdrExtra (b : List Byte) : Bool := decide (fieldLE b 0x1E 1 / 2 % 2 = 1)

/-- Number of directory entries. -/
def secCount (b : List Byte) : Nat := fieldLE b 0x20 2

/-- Start of the trailer, D of R51. -/
def trailerAt (b : List Byte) : Nat := fieldLE b 8 8 - (if hdrSigned b then 112 else 32)

/-- End of the directory. -/
def dirEnd (b : List Byte) : Nat := 128 + 16 * secCount b

/-- The directory. -/
def directory (b : List Byte) : List SecEntry :=
  (List.range (secCount b)).map (fun i =>
    let o := 128 + 16 * i
    { idx := i, type := fieldLE b o 2, flags := fieldLE b (o + 2) 2, count := fieldLE b (o + 4) 4, off := fieldLE b (o + 8) 4,
      len := fieldLE b (o + 12) 4 })

/-- The section of a type. -/
def sectionOf (b : List Byte) (type : Nat) : Option SecEntry := (directory b).find? (fun e => decide (e.type = type))

/-- Offset of the first byte of `n` from `off` that is not as expected. -/
def firstDiff (b expect : List Byte) (off : Nat) : Option Nat :=
  (leastBelow (fun i => decide ((b.drop off).getD i 0 ≠ expect.getD i 0)) expect.length).map (off + ·)

/-- Offset of the first non-zero byte of a range. -/
def firstNonZero (b : List Byte) (off n : Nat) : Option Nat := firstDiff b (zeros n) off

/-- The first of several failures. -/
def firstOf {α : Type} : List (Option α) → Option α
  | [] => none
  | some x :: _ => some x
  | none :: r => firstOf r

/-- A failure where a condition does not hold. -/
def unless' {α : Type} (c : Bool) (x : α) : Option α := if c then none else some x

/-- Step 1: the offset of the first failing byte of the header, or of the trailer's reserved field (R63, R64). -/
def headerBad (b : List Byte) (len : Nat) : Option Nat :=
  let d := trailerAt b
  firstOf [
    firstDiff b (toLE 4 0x4953535A ++ toLE 2 1 ++ toLE 2 128 ++ toLE 8 len) 0,
    unless' (decide (len ≤ 134217728)) 8,
    unless' (decide (fieldLE b 0x1E 1 / 4 = 0)) 0x1E,
    unless' (decide (fieldLE b 0x1F 1 = 0)) 0x1F,
    unless' (decide (1 ≤ secCount b) && decide (secCount b ≤ 64) && decide (dirEnd b ≤ d)) 0x20,
    firstNonZero b 0x22 94,
    if hdrSigned b then firstNonZero b (d + 33) 15 else none]

/-- Step 4: the SIZES section, found and judged (R52, R63). -/
def sizesBad (b : List Byte) : Option Refuse :=
  match sectionOf b 1 with
  | none => some (7, secCount b)
  | some e =>
    if e.off < dirEnd b ∨ trailerAt b < e.off + e.len ∨ e.len ≠ e.count * 16 then some (7, e.idx)
    else
      let recs := (List.range e.count).map (fun i => (fieldLE b (e.off + 16 * i) 2, fieldLE b (e.off + 16 * i + 8) 8))
      if repeats (recs.map (·.1)) then some (7, e.idx)
      else
        firstOf (recs.map (fun r =>
          match sizeTable[r.1]? with
          | none => some (6, r.1)
          | some q => unless' (sizeOk q.1 q.2 r.2) (5, r.1)))

/-- Pipeline records, walked by their own lengths (R63 step 5). -/
def walkPipes : Nat → List Byte → Option (List (List Byte))
  | 0, bs => if bs = [] then some [] else none
  | n + 1, bs =>
    let l := 16 + 32 * fieldLE bs 3 1
    if bs.length < l then none else (walkPipes n (bs.drop l)).map (bs.take l :: ·)

/-- Program records, walked by their own lengths; each with its offset from `off`. -/
def walkProgs : Nat → Nat → List Byte → Option (List (Nat × List Byte))
  | 0, _, bs => if bs = [] then some [] else none
  | n + 1, off, bs =>
    let l := ceilDiv (8 + fieldLE bs 4 4) 8 * 8
    if bs.length < 8 ∨ bs.length < l then none else (walkProgs n (off + l) (bs.drop l)).map ((off, bs.take l) :: ·)

/-- Record size of a section type, 0 for a variable one; none for an unknown type (R50). -/
def recordSize : Nat → Option Nat
  | 1 => some 16
  | 2 => some 16
  | 3 => some 0
  | 4 => some 16
  | 5 => some 40
  | 6 => some 16
  | 7 => some 72
  | 8 => some 8
  | 9 => some 16
  | 10 => some 0
  | 11 => some 48
  | _ => none

/-- LENGTH agrees with COUNT (R50, R63 step 5). -/
def lengthOk (b : List Byte) (e : SecEntry) : Bool :=
  match recordSize e.type with
  | none => true
  | some 0 =>
    let bs := sub b e.off e.len
    if e.type = 3 then (walkPipes e.count bs).isSome else (walkProgs e.count e.off bs).isSome
  | some n => decide (e.len = e.count * n)

/-- Two sections overlap. -/
def overlap (a e : SecEntry) : Bool :=
  decide (a.off < e.off + e.len) && decide (e.off < a.off + a.len) && decide (0 < a.len) && decide (0 < e.len)

/-- One directory entry against those before it (R47, R49, R50). -/
def entryBad (b : List Byte) (before : List SecEntry) (e : SecEntry) : Option Refuse :=
  if (recordSize e.type).isNone ∧ e.flags % 2 = 0 then some (8, e.type)
  else
    unless' (!(before.any (fun a => decide (a.type = e.type))) && decide (e.off % 64 = 0) && decide (dirEnd b ≤ e.off) &&
      decide (e.off + e.len ≤ trailerAt b) && !(before.any (overlap e)) && lengthOk b e) (7, e.idx)

/-- Entries against those before them. -/
def entriesBad (b : List Byte) (before : List SecEntry) : List SecEntry → Option Refuse
  | [] => none
  | e :: r =>
    match entryBad b before e with
    | some x => some x
    | none => entriesBad b (before ++ [e]) r

/-- Step 5: the directory and the section bounds. DETAIL of a missing section is SECTION_COUNT (log entry 94). -/
def directoryBad (b : List Byte) : Option Refuse :=
  match entriesBad b [] (directory b) with
  | some x => some x
  | none => unless' ([1, 2, 3, 5, 9, 10].all (fun t => (sectionOf b t).isSome)) (7, secCount b)

/-! ### Records -/

/-- Offsets of the records of a section of fixed record size. -/
def recordOffs (b : List Byte) (type : Nat) : List Nat :=
  match sectionOf b type, recordSize type with
  | some e, some n => (List.range e.count).map (fun i => e.off + n * i)
  | _, _ => []

/-- The pipeline records with their offsets. -/
def pipeRecs (b : List Byte) : List (Nat × List Byte) :=
  match sectionOf b 3 with
  | none => []
  | some e => offs e.off ((walkPipes e.count (sub b e.off e.len)).getD [])
where
  offs (o : Nat) : List (List Byte) → List (Nat × List Byte)
    | [] => []
    | x :: r => (o, x) :: offs (o + x.length) r

/-- The program records with their offsets. -/
def progRecs (b : List Byte) : List (Nat × List Byte) :=
  match sectionOf b 10 with
  | none => []
  | some e => (walkProgs e.count e.off (sub b e.off e.len)).getD []

/-- Roles by code (R53). -/
def roleOf : Nat → Role
  | 1 => .bound
  | 2 => .spare
  | 3 => .elastic
  | _ => .off

def roleCode : Role → Nat
  | .off => 0
  | .bound => 1
  | .spare => 2
  | .elastic => 3

def tileRec (b : List Byte) (o : Nat) : TileRec :=
  { tile := 80 * fieldLE b o 1 + fieldLE b (o + 1) 1, role := roleOf (fieldLE b (o + 2) 1), ctx := fieldLE b (o + 3) 1,
    pipeline := fieldLE b (o + 4) 2, stage := fieldLE b (o + 6) 1, slot := fieldLE b (o + 7) 1, program := fieldLE b (o + 8) 4 }

def stageRec (x : List Byte) (j : Nat) : StageRec :=
  let o := 16 + 32 * j
  { offset := fieldLE x o 2, duration := fieldLE x (o + 2) 2, slots := fieldLE x (o + 4) 2, tilesPerSlot := fieldLE x (o + 6) 2,
    wcet := fieldLE x (o + 8) 4, program := fieldLE x (o + 12) 4, t2Bytes := fieldLE x (o + 16) 8,
    t0Kib := fieldLE x (o + 24) 4, t1Kib := fieldLE x (o + 28) 4 }

def pipelineRec (x : List Byte) : PipelineRec :=
  { num := fieldLE x 0 2, cls := fieldLE x 2 1, span := fieldLE x 4 2, variant := fieldLE x 6 2, scanStage := fieldLE x 8 1,
    stages := (List.range (fieldLE x 3 1)).map (stageRec x) }

def reservationRec (b : List Byte) (o : Nat) : ReservationRec :=
  { ctx := fieldLE b o 1, stage := fieldLE b (o + 1) 1, pipeline := fieldLE b (o + 2) 2, slots := fieldLE b (o + 4) 2,
    seats := fieldLE b (o + 6) 2, t2Bytes := fieldLE b (o + 8) 8 }

def quotaRec (b : List Byte) (o : Nat) : QuotaRec :=
  { ctx := fieldLE b o 1, t0 := fieldLE b (o + 8) 8, t1 := fieldLE b (o + 16) 8, t2 := fieldLE b (o + 24) 8,
    t3 := fieldLE b (o + 32) 8 }

def routeRec (b : List Byte) (o : Nat) : RouteRec :=
  { srcPipeline := fieldLE b o 2, srcStage := fieldLE b (o + 2) 1, srcSlot := fieldLE b (o + 3) 1,
    dstPipeline := fieldLE b (o + 4) 2, dstStage := fieldLE b (o + 6) 1, dstSlot := fieldLE b (o + 7) 1,
    channel := fieldLE b (o + 8) 1, credits := fieldLE b (o + 9) 1, creditBytes := fieldLE b (o + 10) 2,
    via := fieldLE b (o + 12) 1 }

/-- A 32-bit two's complement field. -/
def int32 (n : Nat) : Int := if n < 2 ^ 31 then n else (n : Int) - 2 ^ 32

/-- A stream descriptor (R126, R127). -/
def streamDescOf (kind : Nat) (x : List Byte) : StreamDesc :=
  let flags := fieldLE x 1 1
  if kind = 1 then
    { kind := 1, farTier := fieldLE x 0 1, write := decide (flags % 2 = 1), idx64 := decide (flags / 2 % 2 = 1), weight := false,
      indexBuf := fieldLE x 2 1, sramBuf := fieldLE x 3 1, grantMbps := fieldLE x 4 4, farBase := fieldLE x 8 8,
      rowStride := fieldLE x 16 8, rowBytes := fieldLE x 24 4, indexMax := fieldLE x 28 4, indexLimit := fieldLE x 32 8,
      sramStride := fieldLE x 40 4, landFrames := fieldLE x 44 1, elemLog2 := 0, sramOffset := 0, dimNum := 0, dims := [] }
  else
    { kind := kind, farTier := fieldLE x 0 1, write := decide (flags % 2 = 1), idx64 := false,
      weight := decide (flags / 2 % 2 = 1), indexBuf := 0, sramBuf := fieldLE x 16 1, grantMbps := fieldLE x 4 4,
      farBase := fieldLE x 8 8, rowStride := 0, rowBytes := 0, indexMax := 0, indexLimit := 0, sramStride := 0,
      landFrames := fieldLE x 17 1, elemLog2 := fieldLE x 3 1, sramOffset := fieldLE x 20 4,
      dimNum := fieldLE x 2 1, dims := (List.range 5).map (fun d => (fieldLE x (24 + 8 * d) 4, int32 (fieldLE x (28 + 8 * d) 4))) }

def streamRec (b : List Byte) (o : Nat) : StreamRec :=
  { pipeline := fieldLE b o 2, stage := fieldLE b (o + 2) 1, index := fieldLE b (o + 3) 1,
    desc := streamDescOf (fieldLE b (o + 4) 1) (sub b (o + 8) 64) }

def splitRec (b : List Byte) (o : Nat) : SplitRec :=
  { keep := fieldLE b o 1, scan := fieldLE b (o + 1) 1, read := fieldLE b (o + 2) 1, write := fieldLE b (o + 3) 1,
    remote := fieldLE b (o + 4) 1 }

def refRec (b : List Byte) (o : Nat) : ImageRef :=
  { ref := fieldLE b o 2, kind := fieldLE b (o + 2) 1, resident := decide (fieldLE b (o + 3) 1 = 1),
    bytes := fieldLE b (o + 8) 8, digest := sub b (o + 16) 32 }

/-- Operator records (R110), which fill the body exactly. -/
def walkOps : Nat → List Byte → Option (List OpRec)
  | 0, bs => if bs = [] then some [] else none
  | n + 1, bs =>
    let k := fieldLE bs 2 2
    let l := 8 + ceilDiv k 8 * 8
    if bs.length < 8 ∨ bs.length < l then none
    else (walkOps n (bs.drop l)).map
      ({ op := fieldLE bs 0 1, sub := fieldLE bs 1 1, dst := fieldLE bs 4 1, src0 := fieldLE bs 5 1, src1 := fieldLE bs 6 1,
         src2 := fieldLE bs 7 1, params := sub bs 8 k } :: ·)

/-- Buffer records of a task body (R109). -/
def bufRecs (x : List Byte) : List BufRec :=
  (List.range (fieldLE x 4 1)).map (fun i =>
    let o := 32 + 8 * i
    { kind := fieldLE x o 1, channel := fieldLE x (o + 1) 1, bytes := fieldLE x (o + 4) 4 })

/-- A program record (R58, R108), or its number where the body's records do not fill it exactly. -/
def programRec (x : List Byte) : Nat × Option ProgramRec :=
  let num := fieldLE x 0 4
  let body := sub x 8 (fieldLE x 4 4)
  let bufs := bufRecs body
  (num, if body.length < 32 + 8 * bufs.length then none
    else (walkOps (fieldLE body 0 4) (body.drop (32 + 8 * bufs.length))).map (fun ops =>
      { num := num, vregPersist := fieldLE body 5 1, bufs := bufs, ops := ops }))

/-- A program, without operators where its body does not hold its records, which no rule admits (R108, R115). -/
def programOf' (x : Nat × Option ProgramRec) : ProgramRec := x.2.getD { num := x.1, vregPersist := 0, bufs := [], ops := [] }

/-- The image that bytes hold. -/
def parseImage (b : List Byte) : Image :=
  { period := fieldLE b 0x1C 2, extraElastic := hdrExtra b, imageId := fieldLE b 0x10 8,
    signer := if hdrSigned b then some (fieldLE b (trailerAt b + 32) 1) else none,
    digest := sub b (trailerAt b) 32,
    sizes := (recordOffs b 1).map (fun o => (fieldLE b o 2, fieldLE b (o + 8) 8)),
    tiles := (recordOffs b 2).map (tileRec b), pipelines := (pipeRecs b).map (fun r => pipelineRec r.2),
    reservations := (recordOffs b 4).map (reservationRec b), quotas := (recordOffs b 5).map (quotaRec b),
    routes := (recordOffs b 6).map (routeRec b), streams := (recordOffs b 7).map (streamRec b),
    splits := (recordOffs b 8).map (splitRec b),
    writes := (recordOffs b 9).map (fun o => (fieldLE b o 4, fieldLE b (o + 8) 8)),
    programs := (progRecs b).map (fun r => programOf' (programRec r.2)), refs := (recordOffs b 11).map (refRec b) }

/-! ### Reserved fields and padding -/

/-- Reserved bytes: offsets from a record's start, with a mask of the reserved bits. -/
def resRange (o n : Nat) : List (Nat × Nat) := (List.range n).map (fun i => (o + i, 0xFF))

/-- Reserved bits of an operator's parameters, from the start of its record. -/
def opReserved (op params : Nat) : List (Nat × Nat) :=
  let p := (match op with
    | 0x01 => (3, 0xC0) :: resRange 22 10
    | 0x02 => (3, 0xFE) :: (resRange 5 3 ++ resRange 12 4)
    | 0x04 | 0x05 => resRange 1 3
    | 0x06 => resRange 3 1 ++ resRange 12 4
    | 0x07 => (1, 0xFC) :: (resRange 2 2 ++ resRange 12 4)
    | 0x08 => (4, 0xFC) :: resRange 5 3
    | _ => []).filter (fun r => decide (r.1 < params))
  (p ++ resRange params (ceilDiv params 8 * 8 - params)).map (fun r => (8 + r.1, r.2))

/-- Reserved bits of operator records from an offset. -/
def opsReserved (o : Nat) : List OpRec → List (Nat × Nat)
  | [] => []
  | x :: r =>
    (opReserved x.op x.params.length).map (fun q => (o + q.1, q.2)) ++
      opsReserved (o + 8 + ceilDiv x.params.length 8 * 8) r

/-- Reserved bits of a program record. -/
def progReserved (o : Nat) (x : List Byte) : List (Nat × Nat) :=
  let len := fieldLE x 4 4
  let body := sub x 8 len
  let bufs := fieldLE body 4 1
  resRange (o + 14) 26 ++ (List.range bufs).flatMap (fun i => resRange (o + 8 + 32 + 8 * i + 2) 2) ++
    (match (programRec x).2 with
     | some p => opsReserved (o + 8 + 32 + 8 * bufs) p.ops
     | none => []) ++ resRange (o + 8 + len) (x.length - 8 - len)

/-- Reserved bits of a stream record. -/
def streamReserved (b : List Byte) (o : Nat) : List (Nat × Nat) :=
  resRange (o + 5) 3 ++ (o + 9, 0xFC) :: (if fieldLE b (o + 4) 1 = 1 then resRange (o + 8 + 45) 19 else resRange (o + 8 + 18) 2)

/-- Padding: bytes between the directory and the trailer that lie in no section (R47). -/
def padding (from_ : Nat) (d : Nat) : List SecEntry → List (Nat × Nat)
  | [] => resRange from_ (d - from_)
  | e :: r => resRange from_ (e.off - from_) ++ padding (max from_ (e.off + e.len)) d r

/-- Every reserved bit of an image outside its header and trailer, with the padding. -/
def reservedBits (b : List Byte) : List (Nat × Nat) :=
  (directory b).flatMap (fun e => [(128 + 16 * e.idx + 2, 0xFE), (128 + 16 * e.idx + 3, 0xFF)]) ++
  padding (dirEnd b) (trailerAt b) (sortBy (fun x y => decide (x.off ≤ y.off)) ((directory b).filter (fun e => decide (0 < e.len)))) ++
  (recordOffs b 1).flatMap (fun o => resRange (o + 2) 6) ++ (recordOffs b 2).flatMap (fun o => resRange (o + 12) 4) ++
  (pipeRecs b).flatMap (fun r => resRange (r.1 + 9) 7) ++ (recordOffs b 5).flatMap (fun o => resRange (o + 1) 7) ++
  (recordOffs b 6).flatMap (fun o => resRange (o + 13) 3) ++ (recordOffs b 7).flatMap (streamReserved b) ++
  (recordOffs b 8).flatMap (fun o => resRange (o + 5) 3) ++ (recordOffs b 9).flatMap (fun o => resRange (o + 4) 4) ++
  (progRecs b).flatMap (fun r => progReserved r.1 r.2) ++ (recordOffs b 11).flatMap (fun o => resRange (o + 4) 4)

/-- The least of a list of numbers. -/
def leastOf : List Nat → Option Nat
  | [] => none
  | x :: r => some (r.foldl min x)

/-- Offset of the first non-zero reserved or padding byte (R64). -/
def firstReserved (b : List Byte) : Option Nat :=
  leastOf (((reservedBits b).filter (fun r => decide ((b.getD r.1 0).toNat &&& r.2 ≠ 0))).map (·.1))

end Sys2Proof.Machine
end

