-- ==== Sys2Proof/Machine/Program.lean ====
section
/-! DEFINITION. Task programs as COMMIT checks them: operator records, buffers, streams and worst-case cost (R108 to R116,
R119, R128 to R130, R155, R156, R193, R199). -/

namespace Sys2Proof.Machine

/-! ### Parameters of operator records -/

/-- A zero point byte in a format (R87), signed formats in two's complement (R80; log entry 95). -/
def zpByte (f c : Nat) : Int := if f % 2 = 0 ∧ 128 ≤ c then (c : Int) - 256 else c

def matmulParams (x : List Byte) : MatmulP :=
  let fl := fieldLE x 3 1
  { aFmt := fieldLE x 0 1, bFmt := fieldLE x 1 1, outFmt := fieldLE x 2 1, fp8Sat := decide (fl % 2 = 1),
    sparse := decide (fl / 2 % 2 = 1), skip := decide (fl / 4 % 2 = 1), plusMinus := decide (fl / 8 % 2 = 1),
    scaleMode := fl / 16 % 4, aZp := zpByte (fieldLE x 0 1) (fieldLE x 4 1), bZp := zpByte (fieldLE x 1 1) (fieldLE x 5 1),
    outZp := zpByte (fieldLE x 2 1) (fieldLE x 6 1), problems := fieldLE x 7 1, m := fieldLE x 8 2, n := fieldLE x 10 2,
    k := fieldLE x 12 4, outScale := BitVec.ofNat 32 (fieldLE x 16 4), scaleBase := fieldLE x 20 2, shapes := [] }

def quantParams (x : List Byte) (elems : Nat) : QuantP :=
  { inFmt := fieldLE x 0 1, outFmt := fieldLE x 1 1, had := fieldLE x 2 1, fp8Sat := decide (fieldLE x 3 1 % 2 = 1),
    zp := zpByte (fieldLE x 1 1) (fieldLE x 4 1), invScale := BitVec.ofNat 32 (fieldLE x 8 4), elems := elems }

def selectParams (x : List Byte) : SelectP :=
  { mode := fieldLE x 0 1, keyType := fieldLE x 1 1, explicit := decide (fieldLE x 2 1 = 1), k := fieldLE x 4 4,
    e := fieldLE x 8 4, base := fieldLE x 16 8, threshold := fieldLE x 24 8 }

def mergeParams (x : List Byte) : MergeP :=
  let fl := fieldLE x 1 1
  { lists := fieldLE x 0 1, dedup := decide (fl % 2 = 1), disjoint := decide (fl / 2 % 2 = 1), kOut := fieldLE x 4 4,
    stride := fieldLE x 8 4 }

def gatherParams (x : List Byte) : GatherP :=
  let fl := fieldLE x 4 1
  { table := fieldLE x 0 2, mean := decide (fieldLE x 2 1 = 1), outFmt := fieldLE x 3 1, weighted := decide (fl % 2 = 1),
    rowSrc := decide (fl / 2 % 2 = 1), bags := fieldLE x 8 4, indexMax := fieldLE x 12 4,
    lr := BitVec.ofNat 32 (fieldLE x 20 4), eps := BitVec.ofNat 32 (fieldLE x 24 4), uniqueMax := fieldLE x 28 4 }

/-! ### Records -/

/-- Bytes of a buffer of a program; 0 for none. -/
def progBuf (g : ProgramRec) (b : Nat) : Nat := ((g.bufs[b]?).map (·.bytes)).getD 0

/-- Length of an operator's parameter block, and which of DST, SRC0, SRC1 it must name (R110, R111). -/
def opForm : Nat → Option (Nat × Bool × Bool × Bool)
  | 0x01 => some (32, true, true, true)
  | 0x02 => some (16, true, true, false)
  | 0x03 => some (4, false, true, false)
  | 0x04 => some (8, true, true, false)
  | 0x05 => some (8, true, true, false)
  | 0x06 => some (32, true, true, false)
  | 0x07 => some (16, true, true, false)
  | 0x08 => some (32, false, true, false)
  | 0x09 => some (1, false, false, false)
  | 0x0A => some (1, false, false, false)
  | 0x0B => some (7, false, true, false)
  | 0x0C => some (10, false, true, true)
  | 0x0D => some (4, false, false, false)
  | 0x0E => some (0, false, false, false)
  | 0x0F => some (10, false, true, false)
  | 0x10 => some (4, false, true, false)
  | _ => none

/-- SUB is one that the operator has; 0 where it has none (R110, R111, R113, R193). -/
def subOk (op sub : Nat) : Bool :=
  match op with
  | 0x01 => decide (sub ≤ 1)
  | 0x04 => decide (sub ≤ 11)
  | 0x05 => decide (sub ≤ 2)
  | 0x08 => decide (sub ≤ 2)
  | 0x0F => decide (sub ≤ 3)
  | _ => decide (sub = 0)

/-- Elements that a buffer holds at a format's width. -/
def bufElems (g : ProgramRec) (b fmt : Nat) : Nat := progBuf g b * 8 / max 1 (fmtWidth fmt)

/-- Source operands of a VEC sub-code. -/
def vecSources (sub : Nat) : Nat := if sub = 3 then 3 else if sub ≤ 5 then 2 else 1

/-- A format of R76 that CONVERT takes: any but BIN (R77). -/
def convFmt (f : Nat) : Bool := f != 9 && fmtWidth f != 0

/-- The widest format that a buffer holds E elements of: a record of CONVERT names no target (log entry 16). -/
def targetWidth (bytes e : Nat) : Nat := ([32, 16, 8, 4].find? (fun w => decide (elemBytes w e ≤ bytes))).getD 0

/-- `n` bytes from the start of a buffer lie in it (log entry 79). -/
def holds (g : ProgramRec) (b n : Nat) : Bool := decide (n ≤ progBuf g b)

/-- VEC and REDUCE: formats by operation (R79, R106, R111), and every operand in its buffer. -/
def vecOk (g : ProgramRec) (x : OpRec) : Bool :=
  let fmt := fieldLE x.params 0 1
  let n := elemBytes (fmtWidth fmt) (fieldLE x.params 4 4)
  if x.op = 0x05 then coreFmt fmt && holds g x.src0 n
  else
    (if x.sub = 6 then convFmt fmt && decide (0 < targetWidth (progBuf g x.dst) (fieldLE x.params 4 4))
     else (if x.sub ≤ 5 then coreFmt fmt else coreFloat fmt) && holds g x.dst n) &&
    ([x.src0, x.src1, x.src2].take (vecSources x.sub)).all (fun b => decide (b < g.bufs.length) && holds g b n)

/-- The parameters of one operator record obey its rules (R85, R87, R111, R113, R114, R145, R152, R193). -/
def paramsOk (s : State) (g : ProgramRec) (x : OpRec) : Bool :=
  let p := x.params
  match x.op with
  | 0x01 =>
    let q := matmulParams p
    let n := passBytes q
    matmulOk q && holds g x.src0 n.1 && holds g x.src1 n.2 &&
      holds g x.dst (elemBytes (fmtWidth q.outFmt) (q.problems * q.m * q.n)) &&
      (!(q.skip || decide (2 ≤ q.scaleMode)) || decide (x.src2 < g.bufs.length))
  | 0x02 =>
    let q := quantParams p (bufElems g x.src0 (fieldLE p 0 1))
    quantOk q && holds g x.dst (elemBytes (fmtWidth q.outFmt) q.elems)
  | 0x03 => decide (fieldLE p 0 2 + fieldLE p 2 2 ≤ 4096) && holds g x.src0 (4 * fieldLE p 2 2)
  | 0x04 | 0x05 => vecOk g x
  | 0x06 =>
    let q := selectParams p
    let w := keyWidth q.keyType / 8
    selectOk q && decide (fieldLE p 2 1 ≤ 1) && decide (x.src2 = 0xFF) && decide (64 + 16 * q.k ≤ progBuf g x.dst) &&
      decide (w * q.e ≤ progBuf g x.src0) && (!q.explicit || decide (8 * q.e ≤ progBuf g x.src1))
  | 0x07 =>
    let q := mergeParams p
    mergeOk q && decide (x.src1 = 0xFF) && decide (x.src2 = 0xFF) && holds g x.src0 (q.lists * q.stride) &&
      holds g x.dst (64 + 16 * q.kOut)
  | 0x08 =>
    let q := gatherParams p
    let t := ftabOf s q.table
    gatherOk q (decide (x.sub = 0)) (decide (x.sub = 1)) && decide (fieldLE p 2 1 ≤ 1) &&
      (decide (x.sub = 0) || decide (fieldLE p 16 4 = 0)) && decide (t.cls ≠ 0) &&
      (decide (x.sub ≠ 1) || (decide (t.cls = 2) && epsOk t.adagrad q.eps))
  | 0x0D => decide (1 ≤ fieldLE p 0 4) && decide (fieldLE p 0 4 ≤ 2 ^ 24)
  | 0x0B => holds g x.src0 (fieldLE p 0 4)
  | 0x0C => holds g x.src0 (fieldLE p 2 4 * fieldLE p 6 4) && holds g x.src1 (4 * fieldLE p 6 4) &&
      decide (((g.bufs[x.src2]?).map (·.kind)) = some 1)
  | 0x0F => decide (fieldLE p 1 1 ≤ 1) && decide (fmtWidth (fieldLE p 0 1) ≠ 0)
  | 0x10 => holds g x.src0 (fieldLE p 0 4)
  | _ => true

/-- A buffer number names a buffer of the program, or none where none is needed. -/
def bufNamed (g : ProgramRec) (needed : Bool) (b : Nat) : Bool := decide (b < g.bufs.length) || (!needed && decide (b = 0xFF))

/-- One operator record is valid by itself (R110, R111). -/
def opOk (s : State) (g : ProgramRec) (x : OpRec) : Bool :=
  match opForm x.op with
  | none => false
  | some (n, d, a, b) =>
    decide (x.params.length = n) && subOk x.op x.sub && bufNamed g d x.dst && bufNamed g a x.src0 && bufNamed g b x.src1 &&
      bufNamed g false x.src2 && paramsOk s g x

/-- LOOPs close, nest to a depth of at most 4, and repeat at most 2^24 records in all, and an EXIT_IF with SCOPE 0 has a LOOP
to leave (R113): the open LOOPs' TRIPs, innermost first, and the records counted so far. -/
def loopsOk : List Nat → Nat → List OpRec → Bool
  | open_, n, [] => decide (open_ = []) && decide (n ≤ 2 ^ 24)
  | open_, n, x :: r =>
    let n' := n + open_.foldl (· * ·) 1
    if x.op = 0x0D then decide (open_.length < 4) && loopsOk (fieldLE x.params 0 4 :: open_) n' r
    else if x.op = 0x0E then
      match open_ with
      | [] => false
      | _ :: o => loopsOk o n' r
    else !(decide (x.op = 0x0F ∧ fieldLE x.params 1 1 = 0 ∧ open_ = [])) && loopsOk open_ n' r

/-- A program record is valid by itself (R108, R109, R111, R113, R115). -/
def programOk (s : State) (g : ProgramRec) : Bool :=
  decide (1 ≤ g.ops.length) && decide (g.ops.length ≤ 65535) && decide (1 ≤ g.bufs.length) && decide (g.bufs.length ≤ 64) &&
  decide (g.vregPersist ≤ 8) && g.ops.all (opOk s g) && loopsOk [] 0 g.ops

/-! ### A program in its stage -/

/-- Stream records of a stage (R58). -/
def stageStreams (i : Image) (p j : Nat) : List StreamRec :=
  i.streams.filter (fun r => decide (r.pipeline = p) && decide (r.stage = j))

/-- Stream of a stage by index: the first of several records (log entry 94). -/
def stageStream (i : Image) (p j idx : Nat) : Option StreamDesc :=
  ((stageStreams i p j).find? (fun r => decide (r.index = idx))).map (·.desc)

/-- Buffers of a program that obey R109 in a stage: sizes, the sum for an INPUT buffer over every slot's routes, and the whole
of the space. -/
def buffersOk (s : State) (g : ProgramRec) (p j : Nat) (slots : List Nat) : Bool :=
  let inputOk (b : BufRec) (slot : Nat) : Bool :=
    decide (b.bytes = sumBy (fun r => r.2.credits * r.2.creditBytes * producers s r.2) (routesInto s p j slot b.channel))
  let one (b : BufRec) : Bool := decide (b.kind ≤ 3) && decide (b.bytes % 256 = 0) &&
    (if b.kind = 2 then decide (b.channel < 16) && slots.all (inputOk b) else decide (b.channel = 0))
  g.bufs.all one &&
    decide (sumBy (fun b => if b.kind = 1 then 2 * b.bytes else b.bytes) g.bufs + 1024 * fld s .tier 0x10 0 12 ≤ 3072 * 1024)

/-- GRANT_MBPS is a guaranteed rate of T1 streams of Bound stages, and 0 elsewhere (R126, R193). -/
def grantOk (bound guaranteed : Bool) (grant : Nat) : Bool := (bound && guaranteed) || decide (grant = 0)

/-- A stream descriptor's fields are in range (R126, R127), and a task writes neither T2 nor T3 (R128). -/
def descOk (g : ProgramRec) (bound : Bool) (d : StreamDesc) : Bool :=
  (decide (d.kind = 1) || decide (d.kind = 2)) && decide (d.farTier ≤ 3) && !(d.write && decide (2 ≤ d.farTier)) &&
  decide (d.sramBuf < g.bufs.length) && grantOk bound (decide (d.farTier = 1)) d.grantMbps &&
  (if d.farTier ≤ 1 then decide (d.landFrames = 0)
   else decide (1 ≤ d.landFrames) && decide (d.landFrames ≤ 8) && decide (((g.bufs[d.sramBuf]?).map (·.kind)) = some 3)) &&
  (if d.kind = 1 then decide (d.indexBuf < g.bufs.length) && decide (1 ≤ d.rowBytes) && decide (d.rowBytes ≤ 2 ^ 20)
   else decide (1 ≤ d.dimNum) && decide (d.dimNum ≤ 5) && decide (d.elemLog2 ≤ 12) &&
     d.dims.all (fun q => decide (1 ≤ q.1)) && (d.dims.drop d.dimNum).all (fun q => decide (q = (1, 0))) &&
     !(d.weight && (d.write || decide (d.farTier ≠ 1))))

/-- Buffers that an operator record names. -/
def opBufs (x : OpRec) : List Nat := [x.dst, x.src0, x.src1, x.src2].filter (fun b => decide (b ≠ 0xFF))

/-- A stream's buffers: those it reads or writes on the SRAM side, and its index list (R126, R127). -/
def streamBufs (d : StreamDesc) : List Nat := d.sramBuf :: (if d.kind = 1 then [d.indexBuf] else [])

/-- A stream writes its SRAM buffer: a read does, and a T0 stream has both ends there (R125). -/
def writesBuf (d : StreamDesc) : Bool := !d.write || decide (d.farTier = 0)

/-- What the text of a program has done with streams so far (R128): those that may still run, those started, the landings on
their way, and, for each open LOOP, those that may run where an EXIT_IF leaves it. -/
structure StreamText where
  live : List (Nat × StreamDesc)
  started : List Nat
  landing : List StreamDesc
  exits : List (List (Nat × StreamDesc))

/-- Buffers that streams of the text may be writing. -/
def StreamText.held (w : StreamText) : List Nat := (w.live.filter (fun q => writesBuf q.2)).map (·.2.sramBuf)

/-- One record's breach of R128, or what follows it. A landing is usable from frame n + λ, in a stage that is still running
then: `steps` is the stage's DURATION (log entry 79). -/
def streamOp (i : Image) (g : ProgramRec) (p j steps : Nat) (bound : Bool) (w : StreamText) (x : OpRec) : Option StreamText :=
  let idx := fieldLE x.params 0 1
  if x.op = 0x09 then
    match stageStream i p j idx with
    | none => none
    | some d =>
      let busy := w.live.any (fun q => decide (q.1 = idx)) || (streamBufs d).any (fun b => w.held.contains b) ||
        w.landing.any (fun q => (streamBufs d).contains q.sramBuf &&
          (decide (steps ≤ q.landFrames) || (writesBuf d && decide (d.sramBuf = q.sramBuf))))
      if descOk g bound d = false ∨ busy then none
      else if d.landFrames = 0 then some { w with live := (idx, d) :: w.live, started := idx :: w.started }
      else some { w with started := idx :: w.started, landing := d :: w.landing }
  else if x.op = 0x0A then
    if w.started.contains idx then some { w with live := w.live.filter (fun q => decide (q.1 ≠ idx)) } else none
  else if x.op = 0x0D then some { w with exits := [] :: w.exits }
  else if x.op = 0x0E then
    match w.exits with
    | [] => none
    | e :: es => some { w with live := w.live ++ e.filter (fun q => !w.live.any (fun r => decide (r.1 = q.1))), exits := es }
  else if (opBufs x).any (fun b => w.held.contains b || w.landing.any (fun q => decide (q.sramBuf = b) && decide (steps ≤ q.landFrames))) then
    none
  else if x.op = 0x0F ∧ fieldLE x.params 1 1 = 0 then
    match w.exits with
    | [] => none
    | e :: es => some { w with exits := (e ++ w.live) :: es }
  else some w

/-- The records as they run, a LOOP's body twice where it repeats: what a second repetition adds, a third adds too. The
open LOOPs, each with its TRIP and the records before it, and the records so far are held in reverse. -/
def unrolled : List (Nat × List OpRec) → List OpRec → List OpRec → List OpRec
  | _, acc, [] => acc.reverse
  | open_, acc, x :: r =>
    if x.op = 0x0D then unrolled ((fieldLE x.params 0 4, x :: acc) :: open_) [] r
    else if x.op = 0x0E then
      match open_ with
      | [] => unrolled [] (x :: acc) r
      | (trip, before) :: o => unrolled o (x :: (if trip = 1 then acc else acc ++ acc) ++ before) r
    else unrolled open_ (x :: acc) r

/-- The streams of a program obey R128. -/
def streamsOk (i : Image) (g : ProgramRec) (p j steps : Nat) (bound : Bool) : Bool :=
  ((unrolled [] [] g.ops).foldl (fun w x => w.bind (streamOp i g p j steps bound · x))
    (some { live := [], started := [], landing := [], exits := [] })).isSome

/-- Route that a SEND or ROUTE_ROWS names, of this stage (R57, R116). -/
def sendRoute (i : Image) (p j n : Nat) : Option RouteRec :=
  match i.routes[n]? with
  | some r => if r.srcPipeline = p ∧ r.srcStage = j then some r else none
  | none => none

/-- SENDs fit their routes' credits and name ranks that exist (R114, R116). -/
def sendOk (s : State) (i : Image) (p j : Nat) (x : OpRec) : Bool :=
  if x.op = 0x0B then
    match sendRoute i p j (fieldLE x.params 4 2) with
    | some r => decide (fieldLE x.params 0 4 ≤ r.creditBytes) &&
        decide (fieldLE x.params 6 1 < max 1 (tilesPerSlot s r.dstPipeline r.dstStage))
    | none => false
  else if x.op = 0x0C then
    (sendRoute i p j (fieldLE x.params 0 2)).any (fun r => decide (fieldLE x.params 2 4 + 8 ≤ r.creditBytes))
  else true

/-- A program obeys the rules that its stage brings (R116, R128, R193). -/
def programFits (s : State) (i : Image) (g : ProgramRec) (p j : Nat) : Bool :=
  let bound := (pipeOf s p).any (fun q => decide (q.cls = 0))
  g.ops.all (fun x => sendOk s i p j x &&
      (decide (x.op ≠ 0x08) || grantOk bound (decide (x.sub = 0)) (fieldLE x.params 16 4))) &&
    streamsOk i g p j (((stageOf s p j).map (·.duration)).getD 1) bound

/-- SENDs that a program can make on a route in one step, with every LOOP at its TRIP (R119). -/
def sendsOn (route : Nat) : List Nat → List OpRec → Nat
  | _, [] => 0
  | open_, x :: r =>
    let times := open_.foldl (· * ·) 1
    if x.op = 0x0D then sendsOn route (fieldLE x.params 0 4 :: open_) r
    else if x.op = 0x0E then sendsOn route (open_.drop 1) r
    else if x.op = 0x0B ∧ fieldLE x.params 4 2 = route then times + sendsOn route open_ r
    else sendsOn route open_ r

/-- Bytes that a program can EMIT in one step. -/
def emitBytes : List Nat → List OpRec → Nat
  | _, [] => 0
  | open_, x :: r =>
    if x.op = 0x0D then emitBytes (fieldLE x.params 0 4 :: open_) r
    else if x.op = 0x0E then emitBytes (open_.drop 1) r
    else (if x.op = 0x10 then open_.foldl (· * ·) 1 * fieldLE x.params 0 4 else 0) + emitBytes open_ r

/-! ### Cost -/

/-- Fabric cost of bytes on a route (R132). -/
def fabricCost (via bytes : Nat) : Nat := if via = 0 then ceilDiv (bytes * 5) 1024 + 64 else ceilDiv (bytes * 9) 160 + 2000

/-- Feed time F and scan W of a pass (R88, R93, R95, R102). -/
def feedCycles (p : MatmulP) : Nat :=
  let k := if p.sparse then 2 * ceilDiv p.k 4 else p.k
  let f8 := if p.aFmt = 9 then 1 else if 6 ≤ p.aFmt then 32 else if p.aFmt < 2 ∧ p.bFmt < 2 then 8 else 16
  ceilDiv ((if 1 < p.problems then 4 else 1) * f8 * k) 8

def scanCycles (p : MatmulP) : Nat := if p.aFmt = 6 ∨ p.aFmt = 7 then ceilDiv p.k 16 else 0

/-- The vector cost of R112: factor c, elements, width, bytes read and written. -/
def vectorCost (c e w r wb : Nat) : Nat := max (ceilDiv (c * e * w) 65536) (max (ceilDiv r 4096) (ceilDiv wb 4096)) + 32

/-- Cost of SELECT (R155); the per-pass limit of R148 is the keys per vector register. -/
def selectCost (q : SelectP) : Nat :=
  let w := keyWidth q.keyType
  let r := 4096 / w
  let e := ceilDiv q.e 128
  let bytes := q.e * (w / 8 + (if q.explicit then 8 else 0))
  let out := ceilDiv (64 + 16 * q.k) 4096 + 96
  if q.mode < 2 then ceilDiv q.k r * (max (ceilDiv e r * 48) (ceilDiv bytes 4096) + 560) + out
  else max (ceilDiv e r * 12) (ceilDiv bytes 4096) + 224 + out

/-- Cost of MERGE (R156). -/
def mergeCost (q : MergeP) : Nat :=
  let n := q.lists * ((q.stride - 64) / 16)
  ceilDiv q.kOut 128 * (max (ceilDiv (ceilDiv n 128) 128 * 64) (ceilDiv (16 * n) 4096) + 560) +
    ceilDiv (64 + 16 * q.kOut) 4096 + 128

/-- Cost of GATHER_POOL (R199). -/
def gatherCost (s : State) (sub : Nat) (q : GatherP) (grant : Nat) : Nat :=
  let t := ftabOf s q.table
  let n := q.indexMax
  let u := q.uniqueMax
  let log := if n ≤ 2 then 1 else Nat.log2 (n - 1) + 1
  let dedup := 8 * ceilDiv n 128 * log + 512
  if sub = 0 then
    let fetch := if q.rowSrc then 0
      else if 0 < grant then ceilDiv (u * t.granules * 2048 * 2250) grant + 2048
      else ceilDiv (u * t.granules * 2048) 64 + 2048
    dedup + fetch + (ceilDiv (n * t.dim * 32) 65536 + ceilDiv (q.bags * t.dim * fmtWidth q.outFmt) 32768 + 64) + 128
  else if sub = 1 then
    dedup + ceilDiv (n * t.dim * 32) 65536 + (ceilDiv (u * (32 + 4 * t.dim) * 9) 160 + 2000) + 128
  else dedup + ceilDiv (8 + 8 * u) 4096 + 128

/-- Charged bytes of a stream at its largest (R129). -/
def streamCharge (d : StreamDesc) : Nat :=
  let m := tierUnit d.farTier
  if d.kind = 1 then d.indexMax * (m * ceilDiv d.rowBytes m)
  else
    let el : Nat := 2 ^ d.elemLog2
    let total := d.dims.foldl (fun n q => n * q.1) 1
    match d.dims with
    | (c, st) :: _ =>
      if st = (el : Int) then total / max 1 c * (m * ceilDiv (el * c) m) else total * (m * ceilDiv el m)
    | [] => 0

/-- First byte and the byte after the last that an affine stream can touch (R127). -/
def affineSpan (d : StreamDesc) : Int × Int :=
  d.dims.foldl (fun r q =>
    let w : Int := ((q.1 : Int) - 1) * q.2
    (r.1 + min 0 w, r.2 + max 0 w)) ((d.farBase : Int), (d.farBase : Int) + (2 ^ d.elemLog2 : Nat))

/-- Spires whose tiles run a stage: those of its BOUND roles, or of the ELASTIC tiles of an Elastic pipeline. -/
def stageSpires (s : State) (i : Image) (p j : Nat) : List Nat :=
  (List.range 8).filter (fun sp =>
    if (pipeOf s p).map (·.cls) = some 1 then
      (List.range 80).any (fun t => decide (imageRole i (80 * sp + t) = .elastic))
    else i.tiles.any (fun t => decide (t.role = .bound) && decide (t.pipeline = p) && decide (t.stage = j) &&
      decide (t.tile / 80 = sp)))

/-- A WEIGHT read lies in one pinned region of the weight cache of each Spire that runs its stage (R133). -/
def pinnedRead (s : State) (i : Image) (p j : Nat) (d : StreamDesc) : Bool :=
  let span := affineSpan d
  d.weight && (stageSpires s i p j).all (fun sp => (List.range 16).any (fun r =>
    let b : Int := (reg s (.wcache sp) (0x100 + 16 * r)).toNat
    decide (b ≤ span.1) && decide (span.2 ≤ b + fld s (.wcache sp) (0x108 + 16 * r) 0 32)))

/-- Cycles from STREAM_START to completion (R130, R133). -/
def streamCycles (s : State) (i : Image) (p j : Nat) (d : StreamDesc) : Nat :=
  if d.farTier = 0 then ceilDiv (streamCharge d) 4096 + 32
  else if d.farTier = 1 then
    if pinnedRead s i p j d then ceilDiv (streamCharge d) 64 + 256
    else if d.grantMbps = 0 then 0 else ceilDiv (streamCharge d * 2250) d.grantMbps + 2048
  else 0

/-- The cost timeline (R111): the current cycle, the ends of running streams, the feed start and feed time of a pass that a
next one may overlap, the passes in flight by DST and end, and the LOOPs open, each with the cycle it began and its TRIP. -/
structure Timeline where
  at_ : Nat
  streams : List (Nat × Nat)
  pass : Option (Nat × Nat)
  flights : List (Nat × Nat)
  loops : List (Nat × Nat)

/-- Cost of an operator that only advances the timeline. -/
def opCost (s : State) (i : Image) (g : ProgramRec) (p j : Nat) (x : OpRec) : Nat :=
  let q := x.params
  let fmt := fieldLE q 0 1
  let e := fieldLE q 4 4
  let w := fmtWidth fmt
  match x.op with
  | 0x02 =>
    let z := quantParams q (bufElems g x.src0 fmt)
    ceilDiv z.elems 256 + 24 + 4 * (if z.had = 0 then 0 else z.had + 3)
  | 0x03 => ceilDiv (fieldLE q 2 2) 8 + 16
  | 0x04 =>
    let out := if x.sub = 6 then targetWidth (progBuf g x.dst) e else w
    vectorCost (if 7 ≤ x.sub then 4 else 1) e (max w out) (vecSources x.sub * elemBytes w e) (elemBytes out e)
  | 0x05 =>
    let out := if fmt = 0xA ∧ x.sub = 0 then 64 else w
    vectorCost 1 e (max w out) (elemBytes w e) (min (elemBytes out e) (progBuf g x.dst)) + 64
  | 0x06 => selectCost (selectParams q)
  | 0x07 => mergeCost (mergeParams q)
  | 0x08 => gatherCost s x.sub (gatherParams q) (fieldLE q 16 4)
  | 0x09 => 16
  | 0x0B =>
    match sendRoute i p j (fieldLE q 4 2) with
    | some r => fabricCost r.via (fieldLE q 0 4)
    | none => 0
  | 0x0C =>
    match sendRoute i p j (fieldLE q 0 2) with
    | some r => fabricCost r.via (fieldLE q 6 4 * (fieldLE q 2 4 + 8)) + 64 * max 1 (tilesPerSlot s r.dstPipeline r.dstStage)
    | none => 0
  | 0x0F => 8
  | 0x10 => fabricCost 1 (fieldLE q 0 4)
  | _ => 0

/-- A pass on the timeline (R102, R111): with INDEP it may overlap the pass before it, but waits for every pass in flight
whose outputs it consumes. -/
def timePass (t : Timeline) (x : OpRec) : Timeline :=
  let q := matmulParams x.params
  let f := feedCycles q
  let ready := (t.flights.filter (fun r => (opBufs { x with dst := 0xFF }).contains r.1)).foldl (fun m r => max m r.2) 0
  let feed := match t.pass with
    | some (f0, fp) =>
      if x.sub = 1 then max (f0 + max fp 136) (if ready = 0 then 0 else ready + scanCycles q) else t.at_ + scanCycles q
    | none => t.at_ + scanCycles q
  let fin := feed + f + 273
  { t with at_ := max t.at_ fin, pass := some (feed, f), flights := (x.dst, fin) :: t.flights }

/-- The timeline after one operator record. -/
def timeOp (s : State) (i : Image) (g : ProgramRec) (p j : Nat) (t : Timeline) (x : OpRec) : Timeline :=
  let idx := fieldLE x.params 0 1
  if x.op = 0x01 then timePass t x
  else
    let t := { t with pass := none, flights := [] }
    if x.op = 0x0A then { t with at_ := max t.at_ (((t.streams.find? (fun r => decide (r.1 = idx))).map (·.2)).getD 0) }
    else if x.op = 0x0D then { t with loops := (t.at_, fieldLE x.params 0 4) :: t.loops }
    else if x.op = 0x0E then
      match t.loops with
      | (t0, trip) :: r => { t with at_ := t0 + (t.at_ - t0) * trip + 4 * trip, loops := r }
      | [] => t
    else
      let streams := if x.op = 0x09 then
          (idx, t.at_ + (match stageStream i p j idx with
            | some d => streamCycles s i p j d
            | none => 0)) :: t.streams.filter (fun r => decide (r.1 ≠ idx))
        else t.streams
      { t with at_ := t.at_ + opCost s i g p j x, streams := streams }

/-- Copying a task's inputs into an Elastic tile, through the Dome (R123). -/
def copyCost (s : State) (g : ProgramRec) (p : Nat) : Nat :=
  let n := sumBy (fun b => if b.kind = 2 then b.bytes else 0) g.bufs
  if (pipeOf s p).any (fun q => decide (q.cls = 1)) ∧ 0 < n then fabricCost 1 n else 0

/-- Worst-case cycles of a program in a stage (R113, R115, R123). -/
def programCost (s : State) (i : Image) (g : ProgramRec) (p j : Nat) : Nat :=
  (g.ops.foldl (timeOp s i g p j) 
    { at_ := 512 + copyCost s g p, streams := [], pass := none, flights := [], loops := [] }).at_ + 256

end Sys2Proof.Machine
end

