-- ==== Sys2Proof/Machine/Commit.lean ====
section
/-! DEFINITION. COMMIT step 6: the semantic checks of a structure image, in the order of R63 and R461, made on the state that
the image's configuration would give (R53 to R61, R30, R64 and the rules of the blocks' chapters). -/

namespace Sys2Proof.Machine

/-! ### The state an image would give -/

/-- A configuration or control register of a block that the image owns. FRAME_CTRL, FRAME_EPOCH and FRAME_PPS_SECONDS hold what
the host owns (R68). -/
def imageRegister (a : Nat) : Bool :=
  match decodeAddr a with
  | some (.frame, off) => decide (off = 0x08)
  | some (b, off) => decide (blkOwner b = .image) && (decide (off = 0) || isCfgAddr a)
  | none => false

/-- Every image-owned configuration register at its reset value, the lowered-code stores among them, and every ENABLE clear
(R66, R69, R141). -/
def clearImageRegs (s : State) : State :=
  setEnable { s with regs := s.regs.filter (fun e => !imageRegister e.1), lowered := [] } .frame false

/-- A register written by the loader: its writable bits (R60, R69). -/
def loaderWrite (s : State) (a : Nat) (v : Word) : State :=
  match decodeAddr a with
  | some (b, off) =>
    match regDesc b off with
    | some d => setReg s b off (v &&& d.rw)
    | none => s
  | none => s

/-- The role of each tile written to TILE_CTRL (R141). -/
def writeRoles (s : State) (i : Image) : State :=
  (List.range 640).foldl (fun s t =>
    match imageRole i t with
    | .off => s
    | r => setFld s (.tile t) 0 1 2 (roleCode r)) s

/-- The configuration of an image: FRAME_PERIOD, the CONFIG_WRITES records, and what TILES and KEEP_SPLIT give (R63 step 7);
of two records for one Keep the later stands (log entry 94). -/
def applyConfig (s : State) (i : Image) : State :=
  let s := setReg (clearImageRegs s) .frame 0x08 (BitVec.ofNat 64 (i.period + i.period * 2250 * 2 ^ 32))
  let s := i.writes.foldl (fun s w => loaderWrite s w.1 (BitVec.ofNat 64 w.2)) s
  let s := i.splits.foldl (fun s k => setReg s (.keep k.keep) 0x18
    (BitVec.ofNat 64 (k.scan + k.read * 2 ^ 7 + k.write * 2 ^ 14 + k.remote * 2 ^ 21))) s
  { writeRoles s i with tier := { s.tier with
      mapModules := (s.flash.modules.filter (fun m => modUsable m.2)).length } }

/-- The state on which an image is judged. -/
def trial (s : State) (i : Image) : State :=
  let s := applyConfig s i
  { s with img := { s.img with image := some i } }

/-! ### Forms of DETAIL (R461) -/

def tileForm (t : Nat) : Nat := 0x01000000 + t
def stageForm (p j : Nat) : Nat := p * 256 + j
def ctxForm (c : Nat) : Nat := 0x02000000 + c
def sumForm : Nat := 0xFFFFFFFF

/-- The checks of a list in order. -/
def firstBad {α : Type} (f : α → Option Refuse) : List α → Option Refuse
  | [] => none
  | x :: r =>
    match f x with
    | some e => some e
    | none => firstBad f r

/-- A list with, for each member, those before it. -/
def withBefore {α : Type} : List α → List α → List (List α × α)
  | _, [] => []
  | b, x :: r => (b, x) :: withBefore (b ++ [x]) r

/-! ### TILES (R53) -/

/-- BOUND records of a pipeline, stage and slot. -/
def sameSlot (x y : TileRec) : Bool :=
  decide (y.role = .bound) && decide (y.pipeline = x.pipeline) && decide (y.stage = x.stage) && decide (y.slot = x.slot)

/-- A TILES record is in range: `code` is its ROLE as written. -/
def tileRecOk (i : Image) (spire index code : Nat) (x : TileRec) : Bool :=
  decide (spire < 8) && decide (index < 80) && decide (code ≤ 3) &&
  (if code = 1 then
    (decide (x.ctx < 16) || decide (x.ctx = 0xFF)) && decide (x.slot < 255) &&
      i.pipelines.any (fun p => decide (p.num = x.pipeline) && decide (x.stage < p.stages.length)) &&
      i.programs.any (fun g => decide (g.num = x.program))
  else decide (x.ctx = 0xFF) && decide (x.pipeline = 0xFFFF) && decide (x.stage = 0xFF) && decide (x.slot = 0xFF) &&
    decide (x.program = 0xFFFFFFFF))

/-- A slot's CONTEXT differs: the lowest tile whose CONTEXT is not that of the slot's lowest tile. -/
def slotClash (i : Image) (x : TileRec) : Option Nat :=
  let l := sortBy (fun a b : TileRec => decide (a.tile ≤ b.tile)) (i.tiles.filter (sameSlot x))
  match l with
  | [] => none
  | y :: r => (r.find? (fun z => decide (z.ctx ≠ y.ctx))).map (·.tile)

/-- A serving stage's tiles alone may carry CONTEXT 0xFF (R53, R235). -/
def unownedOk (s : State) (x : TileRec) : Bool := decide (x.ctx ≠ 0xFF) || (servingRec s x.pipeline x.stage).isSome

def tilesBad (s : State) (b : List Byte) (i : Image) : Option Refuse :=
  let recs := (recordOffs b 2).map (fun o => (fieldLE b o 1, fieldLE b (o + 1) 1, fieldLE b (o + 2) 1, tileRec b o))
  let one (p : List (Nat × Nat × Nat × TileRec) × (Nat × Nat × Nat × TileRec)) : Option Refuse :=
    let x := p.2
    let t := x.2.2.2
    if tileRecOk i x.1 x.2.1 x.2.2.1 t = false ∨ p.1.any (fun y => decide (y.2.2.2.tile = t.tile)) ∨
        (decide (t.role = .bound) && !unownedOk s t) then some (0x0B, tileForm t.tile)
    else if t.role = .bound then (slotClash i t).map (fun z => (0x0B, tileForm z)) else none
  match firstBad one (withBefore [] recs) with
  | some e => some e
  | none =>
    firstBad (fun sp =>
      let here (r : Role) := (i.tiles.filter (fun t => decide (t.role = r) && decide (t.tile / 80 = sp))).map (·.tile)
      match leastOf (here .bound) with
      | some t => unless' (decide (here .spare ≠ [])) (0x0B, tileForm t)
      | none => none) (List.range 8)

/-! ### PIPELINES (R55, R164, R227, R234, R268) -/

def headOk (i : Image) (before : List PipelineRec) (p : PipelineRec) : Bool :=
  decide (p.cls ≤ 1) && decide (1 ≤ p.stages.length) && decide (p.stages.length ≤ 32) &&
  decide (p.span = p.stages.foldl (fun m g => max m (g.offset + g.duration)) 0) &&
  (decide (p.variant = 0xFFFF) || i.refs.any (fun r => decide (r.ref = p.variant) && decide (r.kind = 1))) &&
  (decide (p.scanStage = 0xFF) || decide (p.scanStage < p.stages.length)) &&
  !(before.any (fun q => decide (q.num = p.num)))

/-- Slots reserved in a stage over all contexts. -/
def reservedSlots (i : Image) (p j : Nat) : Nat :=
  sumBy (fun r => if r.pipeline = p ∧ r.stage = j then r.slots else 0) i.reservations

/-- BOUND tile records of a stage. -/
def stageTiles (i : Image) (p j : Nat) : List TileRec :=
  i.tiles.filter (fun t => decide (t.role = .bound) && decide (t.pipeline = p) && decide (t.stage = j))

/-- Programs that run in a stage (R53, R55). -/
def stagePrograms (i : Image) (p : PipelineRec) (j : Nat) : List ProgramRec :=
  match p.stages[j]? with
  | none => []
  | some g =>
    let nums := if g.tilesPerSlot = 0 then [] else if p.cls = 0 then asSet ((stageTiles i p.num j).map (·.program)) else [g.program]
    nums.filterMap (fun n => i.programs.find? (fun q => decide (q.num = n)))

/-- A stage that runs on tiles. -/
def tileStageOk (s : State) (i : Image) (p : PipelineRec) (j : Nat) (g : StageRec) : Bool :=
  if p.cls = 0 then
    let slots := asSet ((stageTiles i p.num j).map (·.slot))
    decide (g.program = 0xFFFFFFFF) && decide (slots.length = g.slots) &&
      slots.all (fun k => decide (((stageTiles i p.num j).filter (fun t => decide (t.slot = k))).length = g.tilesPerSlot))
  else decide (g.slots ≤ 255) && i.programs.any (fun q => decide (q.num = g.program)) && (servingRec s p.num j).isNone

/-- Bytes of a loaded image: in T1 at its place, or in the namespace recorded with it (R61, R341). -/
def imageBytesAt (s : State) (r : ImageRef) (off n : Nat) : List Byte :=
  match tget s.img.loaded r.ref with
  | some l => loadedBytes s l off n
  | none => []

/-- A referenced image is present: loaded whole, in T1 at its place where RESIDENT is 1 and in T1 or T2 otherwise, with a
matching digest, and valid where its kind has rules (R61, R215, R462). -/
def present (s : State) (i : Image) (r : ImageRef) : Bool :=
  match tget s.img.loaded r.ref with
  | none => false
  | some l =>
    let head := imageBytesAt s r 0 128
    l.valid && decide (l.kind = r.kind) && decide (l.bytes = r.bytes) &&
    (!r.resident || (l.resident && decide (l.base = imageBase (scanRef s) i r.ref))) &&
    decide (sha256 (imageBytesAt s r 0 r.bytes) = r.digest) &&
    (if r.kind = 2 then indexOk head r.bytes
     else if r.kind = 3 then
       vocabOk head ((List.range (fieldLE head 8 4)).map (fun n => tokenRec (imageBytesAt s r (128 + 8 * n) 8))) r.bytes
     else true)

/-- The index images of the image whose headers are valid, with their headers; one that is absent is judged by R61 and R462
alone. -/
def validIndexes (s : State) (i : Image) : List (ImageRef × List Byte) :=
  (i.refs.filter (fun r => decide (r.kind = 2) && present s i r)).map (fun r => (r, imageBytesAt s r 0 128))

/-- The valid scan indexes (R164). -/
def scanIndexes (s : State) (i : Image) : List (ImageRef × List Byte) :=
  (validIndexes s i).filter (fun r => decide ((indexShape r.2).mode = 0))

/-- SCAN_REF names an index of the image whose header is not valid. -/
def scanAbsent (s : State) (i : Image) : Bool :=
  i.refs.any (fun r => decide (r.kind = 2) && decide (r.ref = scanRef s) && !present s i r)

/-- The shape of a scan stage (R164): with no valid header to compare with, its DURATION is at least one slice and the merge. -/
def scanStageOk (s : State) (i : Image) (g : StageRec) : Bool :=
  decide (g.slots = 0) && decide (g.tilesPerSlot = 0) && decide (g.wcet = 0) && decide (g.program = 0xFFFFFFFF) &&
  (scanAbsent s i || (scanIndexes s i).any (fun r => decide (r.1.ref = scanRef s) && decide (g.duration = fieldLE r.2 0x14 1 + 1)))

def textStageOk (s : State) (p : PipelineRec) (j : Nat) (g : StageRec) : Bool :=
  let d := if companionOf s p.num = some j then
      ((servingStage s p.num).bind (fun k => p.stages[k]?)).elim 1 (·.duration) else 1
  decide (g.wcet = 0) && decide (g.program = 0xFFFFFFFF) && decide (g.duration = d) && decide (g.slots ≤ 255) &&
  (textRec s p.num j).isSome

/-- The rules of R234 and R235 on a serving stage. -/
def servingOk (s : State) (i : Image) (p : PipelineRec) (j : Nat) (g : StageRec) (r : Nat) : Bool :=
  decide (0 < g.tilesPerSlot) && decide (p.cls = 0) && (companionOf s p.num).any (fun c => isTextStage s p.num c) &&
  decide (genChunk s r ≤ genTokens s r) && decide (9 ≤ genTokens s r) &&
  (decide (g.slots ≤ reservedSlots i p.num j) ||
    (stagePrograms i p j).all (fun q => decide (q.vregPersist = 0) && q.bufs.all (fun b => decide (b.kind ≠ 1))))

def stageOk (s : State) (i : Image) (p : PipelineRec) (j : Nat) (g : StageRec) : Bool :=
  decide (1 ≤ g.duration) &&
  (decide (0 < g.tilesPerSlot) || decide (stageTiles i p.num j = [])) &&
  (if p.scanStage = j then scanStageOk s i g
   else if g.tilesPerSlot = 0 then textStageOk s p j g
   else tileStageOk s i p j g) &&
  (match servingRec s p.num j with
   | some r => servingOk s i p j g r
   | none => true)

/-- Lanes of a stage: LANES of a serving stage, 1 otherwise (R268, R285). -/
def stageLanes (s : State) (p j : Nat) : Nat :=
  match servingRec s p j with
  | some r => genLanes s r
  | none => 1

/-- The T0 footprint of a stage fits its tiles' stores (R268). -/
def t0Ok (s : State) (p : PipelineRec) (j : Nat) (g : StageRec) : Bool :=
  decide (g.t0Kib * stageLanes s p.num j ≤ fld s .tier 0x10 0 12 * g.tilesPerSlot)

def pipelineBad (s : State) (i : Image) (q : List PipelineRec × PipelineRec) : Option Refuse :=
  let p := q.2
  if headOk i q.1 p = false then some (0x0B, stageForm p.num 255)
  else
    firstBad (fun j =>
      match p.stages[j]? with
      | none => none
      | some g =>
        if stageOk s i p j g = false then some (0x0B, stageForm p.num j)
        else if t0Ok s p j g = false then some (0x0D, stageForm p.num j)
        else none) (List.range p.stages.length)

/-- The first scan stage of the image. -/
def firstScan (i : Image) : Nat :=
  match i.pipelines.find? (fun p => decide (p.scanStage < p.stages.length)) with
  | some p => stageForm p.num p.scanStage
  | none => 0

/-- GEN_STAGE records that name no stage of the image (R234). -/
def strayServing (s : State) (i : Image) : Option Refuse :=
  firstBad (fun g =>
    let w := reg s .reqtab (0x200 + 16 * g)
    let known := i.pipelines.any (fun p => decide (p.num = bits w 0 16) && decide (bits w 16 8 < p.stages.length))
    unless' (!bit w 24 || known) (0x0B, stageForm (bits w 0 16) (bits w 16 8))) (List.range 16)

def pipelinesBad (s : State) (i : Image) : Option Refuse :=
  match firstBad (pipelineBad s i) (withBefore [] i.pipelines) with
  | some e => some e
  | none =>
    match strayServing s i with
    | some e => some e
    | none => unless' (decide ((scanIndexes s i).length ≤ 1)) (0x0B, firstScan i)

/-! ### RESERVATIONS and QUOTAS (R56, R268, R271, R274) -/

def reservationBad (s : State) (q : List ReservationRec × ReservationRec) : Option Refuse :=
  let r := q.2
  let upto := q.1 ++ [r]
  let here := upto.filter (fun x => decide (x.pipeline = r.pipeline) && decide (x.stage = r.stage))
  let ok := match pipeOf s r.pipeline, stageOf s r.pipeline r.stage with
    | some p, some g =>
      decide (r.ctx < 16) && decide (p.cls = 0) &&
      !(q.1.any (fun x => decide (x.ctx = r.ctx) && decide (x.pipeline = r.pipeline) && decide (x.stage = r.stage))) &&
      decide (sumBy (·.slots) here ≤ g.slots) && decide (sumBy (·.seats) here ≤ 64) &&
      (decide (r.seats = 0) || decide (p.scanStage = r.stage))
    | _, _ => false
  unless' ok (0x0D, stageForm r.pipeline r.stage)

def reservationsBad (s : State) (i : Image) : Option Refuse :=
  match firstBad (reservationBad s) (withBefore [] i.reservations) with
  | some e => some e
  | none => unless' (decide (sumBy (·.t2Bytes) i.reservations ≤ t2Bound s (modulesInM s))) (0x0D, sumForm)

/-- KIND 0 and KIND 1 granules of a context. -/
def keptGranules (s : State) (c : Nat) : Nat := sumBy (fun x => if x.kind < 2 then x.granules else 0) (extents s c)

/-- A context's extents find room in every Keep of their masks, after those of the contexts before it (R271). -/
def roomOk (s : State) (i : Image) (c : Nat) : Bool :=
  (List.range 32).all (fun k =>
    let mine := sumBy (fun x => if x.kind < 2 then x.inKeep k else 0) (extents s c)
    decide (mine = 0) || decide (item4Base s i k +
      sumBy (fun q => if q.1 ≤ c then q.2.inKeep k else 0) (keepExtents s) ≤ keepGranules))

/-- T1 quota of a context. -/
def t1Quota (i : Image) (c : Nat) : Nat := ((i.quotas.find? (fun q => decide (q.ctx = c))).map (·.t1)).getD 0

/-- Tiles that are not OFF. -/
def liveTiles (i : Image) : Nat := ((List.range 640).filter (fun t => decide (imageRole i t ≠ .off))).length

def quotasBad (s : State) (i : Image) : Option Refuse :=
  let one (q : List QuotaRec × QuotaRec) : Option Refuse :=
    unless' (decide (q.2.ctx < 16) && !(q.1.any (fun x => decide (x.ctx = q.2.ctx)))) (0x0D, ctxForm q.2.ctx)
  match firstBad one (withBefore [] i.quotas) with
  | some e => some e
  | none =>
    match firstBad (fun c => unless' (decide (2048 * keptGranules s c ≤ t1Quota i c) && roomOk s i c) (0x0D, ctxForm c))
        (List.range 16) with
    | some e => some e
    | none =>
      unless' (decide (sumBy (·.t0) i.quotas ≤ fld s .tier 0x10 0 12 * 1024 * liveTiles i) &&
        decide (sumBy (·.t1) i.quotas ≤ t1Capacity s i)) (0x0D, sumForm)

/-! ### ROUTES (R57, R119) -/

/-- Spires on which a stage's slot can run; `none` for any. -/
def slotSpires (s : State) (i : Image) (p j slot : Nat) : Option (List Nat) :=
  match pipeOf s p with
  | none => none
  | some q =>
    if q.cls = 0 ∧ 0 < tilesPerSlot s p j then
      some (asSet (((stageTiles i p j).filter (fun t => decide (slot = 0xFF) || decide (t.slot = slot))).map (·.tile / 80)))
    else none

/-- Producer and consumer can lie on different Spires. -/
def crossSpire (s : State) (i : Image) (r : RouteRec) : Bool :=
  match slotSpires s i r.srcPipeline r.srcStage r.srcSlot, slotSpires s i r.dstPipeline r.dstStage r.dstSlot with
  | some a, some b => !(a.all (fun x => b.all (fun y => decide (x = y))))
  | _, _ => true

/-- A pipeline is Bound. -/
def boundStage (s : State) (p : Nat) : Bool := (pipeOf s p).any (fun q => decide (q.cls = 0))

/-- A named end exists: a stage, and one of its slots. The slots of a Bound stage on tiles are those that its tiles carry; a
consumer may name 0xFF, the slot of SLOT_MAP, in a stage of at most 255 slots (R57, R120). -/
def endOk (s : State) (i : Image) (consumer : Bool) (p j slot : Nat) : Bool :=
  match stageOf s p j with
  | some g =>
    if slot = 0xFF then consumer && decide (g.slots ≤ 255)
    else if boundStage s p ∧ 0 < g.tilesPerSlot then (stageTiles i p j).any (fun t => decide (t.slot = slot))
    else decide (slot < max 1 g.slots)
  | none => false

def routeBad (s : State) (i : Image) (n : Nat) (r : RouteRec) : Option Refuse :=
  let inRange := endOk s i false r.srcPipeline r.srcStage r.srcSlot && endOk s i true r.dstPipeline r.dstStage r.dstSlot &&
    decide (r.channel < 16) && decide (1 ≤ r.credits) && decide (r.credits ≤ 64) && decide (r.creditBytes % 256 = 0) &&
    decide (r.via ≤ 1) && (decide (r.via = 1) || !crossSpire s i r)
  let progs := (pipeOf s r.srcPipeline).elim [] (fun p => stagePrograms i p r.srcStage)
  let enough := !boundStage s r.dstPipeline || progs.all (fun g => decide (2 * sendsOn n [] g.ops ≤ r.credits))
  unless' (inRange && enough) (0x0B, stageForm r.srcPipeline r.srcStage)

def routesBad (s : State) (i : Image) : Option Refuse :=
  firstBad (fun q => routeBad s i q.1 q.2) ((List.range i.routes.length).zip i.routes)

/-! ### KEEP_SPLIT (R59, R131, R166) -/

def splitBad (k : SplitRec) : Option Refuse :=
  unless' (decide (k.keep < 32) && decide (k.scan ≤ 90) &&
    [k.scan, k.read, k.write, k.remote].all (fun x => decide (x % 5 = 0)) && decide (k.read + k.write + k.remote = 100))
    (0x0C, k.keep)

/-- The scanner's reads of a frame fit the scan share, and the bitmap slices serve every filter, the live bitmap and one in
transition, in a Keep that holds a shard of a scan index (R166). -/
def scanFits (s : State) (i : Image) (k : Nat) : Bool :=
  (scanIndexes s i).all (fun r =>
    let x := indexShape r.2
    let slice := fieldLE r.2 0x10 4
    let slots := fld s (.lucarne k) 0x10 8 5
    decide (x.shards ≤ k) ||
      (decide (x.filters.length + 2 ≤ slots) &&
        decide (slice * 2 ^ fieldLE r.2 7 1 / 8 + slots * slice / 8 ≤
          fld s (.keep k) 0x18 0 7 * 3200 * 10 * periodUs s * 4095 / 4096)))

/-- Keeps of an extent that `n` bytes from an address cover. -/
def Extent.keepsIn (x : Extent) (a n : Nat) : List Nat :=
  let lo := max a x.vbase
  let hi := min (a + n) (x.vbase + 2048 * x.granules)
  let l := maskKeeps x.mask
  if hi ≤ lo ∨ x.kind = 2 then []
  else if 2048 * l.length ≤ hi - lo then l
  else (granulesFrom lo (hi - lo)).map (fun g => x.keep ((g - x.vbase) / 2048))

/-- Keeps that `n` bytes from an address of a context cover, over every extent they touch. -/
def keepsOf (s : State) (c a n : Nat) : List Nat :=
  if 2 ^ 63 ≤ a then if 65536 ≤ n then List.range 32 else asSet ((granulesFrom a n).map (keepRead s c))
  else asSet ((extents s c).flatMap (fun x => x.keepsIn a n))

/-- Keeps that a Bound T1 stream can reach. -/
def streamKeeps (s : State) (c : Nat) (d : StreamDesc) : List Nat :=
  if d.kind = 1 then keepsOf s c d.farBase ((d.indexLimit - 1) * d.rowStride + d.rowBytes)
  else asSet ((affineElems d).flatMap (fun e => keepsOf s c e.1 e.2.2))

/-- Keeps that can home a table's rows on this device. -/
def tableKeeps (s : State) (t : Nat) : List Nat :=
  let x := ftabOf s t
  keepsOf s x.ctx x.base (x.homed s * x.stride)

/-- Grants in MB/s that the Bound streams of one tile may draw from a share of a Keep at one time (R131). -/
def tileDraw (s : State) (i : Image) (t : TileRec) (k share : Nat) : Nat :=
  let own := decide (k / 4 = t.tile / 80)
  let streams := sumBy (fun r =>
    let d := r.desc
    let sh := if own then (if d.write then 1 else 0) else 2
    if d.farTier = 1 ∧ sh = share ∧ (streamKeeps s t.ctx d).contains k then d.grantMbps else 0)
    (stageStreams i t.pipeline t.stage)
  let gathers := match i.programs.find? (fun g => decide (g.num = t.program)) with
    | some g => sumBy (fun x => if share = 0 ∧ x.op = 0x08 ∧ x.sub = 0 ∧ (gatherParams x.params).rowSrc = false ∧
        (tableKeeps s (fieldLE x.params 0 2)).contains k then fieldLE x.params 16 4 else 0) g.ops
    | none => 0
  streams + gathers

/-- The Bound grants and the context switch reservation of 4 tiles at 4.25 GB/s fit a Keep's shares (R131, R138). -/
def grantsFit (s : State) (i : Image) (k : Nat) : Bool :=
  (List.range 3).all (fun share =>
    decide ((if share < 2 then 17000 else 0) +
      sumBy (fun t => if t.role = .bound then tileDraw s i t k share else 0) i.tiles ≤
      linkMbps s k * sharePct s k share / 100))

def splitsBad (s : State) (i : Image) : Option Refuse :=
  match firstBad splitBad i.splits with
  | some e => some e
  | none => firstBad (fun k => unless' (scanFits s i k && grantsFit s i k) (0x0C, k)) (List.range 32)

/-! ### CONFIG_WRITES (R60, R461) -/

/-- ADDRESS is a configuration register of an image-owned block other than a control register and FRAME. -/
def writeOk (a : Nat) : Bool :=
  match decodeAddr a with
  | some (.frame, _) => false
  | some (b, off) => decide (a % 8 = 0) && decide (blkOwner b = .image) && decide (off ≠ 0) && isCfgAddr a
  | none => false

/-- Index of the last record that wrote an address; the number of records where none did. -/
def lastWriter (i : Image) (a : Nat) : Nat :=
  (leastOf (((List.range i.writes.length).filter (fun n =>
    decide ((i.writes.getD (i.writes.length - 1 - n) (0, 0)).1 = a))))).elim i.writes.length (fun n => i.writes.length - 1 - n)

/-- The record to name for a register whose value breaks a rule that gives WRITE (R461). -/
def regRefuse (i : Image) (b : Blk) (off : Nat) (ok : Bool) : Option Nat := unless' ok (lastWriter i (regAddr b off))

/-- LUCARNE_CONFIG agrees with the header of the scan index in each Keep that holds a shard (R164, R166, R187). -/
def lucarneOk (s : State) (i : Image) (k : Nat) : Bool :=
  (scanIndexes s i).all (fun r =>
    decide ((indexShape r.2).shards ≤ k) ||
      (decide (fld s (.lucarne k) 0x10 0 4 = fieldLE r.2 0x14 1) && decide (fld s (.lucarne k) 0x10 4 4 = fieldLE r.2 7 1) &&
        decide (fld s (.lucarne k) 0x10 32 16 = r.1.ref)))

/-- Numbers rise strictly. -/
def timersRise : List Nat → Bool
  | a :: b :: r => decide (a < b) && timersRise (b :: r)
  | _ => true

/-- FLASH_IDLE and FLASH_GC obey R319. -/
def idleOk (s : State) : Bool :=
  timersRise ([fld s .flash 0x10 0 16, fld s .flash 0x10 16 16, fld s .flash 0x10 32 16].filter (fun n => decide (n ≠ 0)))
def gcOk (s : State) : Bool :=
  decide (4 ≤ fld s .flash 0x18 0 8) && decide (fld s .flash 0x18 0 8 < fld s .flash 0x18 8 8) &&
    decide (fld s .flash 0x18 8 8 ≤ 16)

/-- A table directory entry obeys R192. -/
def ftabOk (s : State) (t : Nat) : Bool :=
  let x := ftabOf s t
  let size := if x.adagrad then x.accOff + 4 else x.dim * x.elemSize
  decide (x.cls = 0) ||
  (decide (x.cls ≤ 2) && decide (x.base % 2048 = 0) && decide (1 ≤ x.rows) && decide (1 ≤ x.perDevice) &&
    (decide (x.fmt = 6) || decide (x.fmt = 7) || decide (x.fmt = 8) || (decide (x.fmt = 2) && decide (x.cls = 1))) &&
    (!x.adagrad || decide (x.cls = 2)) && decide (1 ≤ x.dim) && decide (x.dim ≤ 4096) &&
    ((decide (0 < x.stride) && decide (x.stride % 2048 = 0)) || (List.range 12).any (fun n => decide (x.stride = 2 ^ n))) &&
    decide (size ≤ x.stride))

/-- A reference of the image by REF and kind. -/
def refOf (i : Image) (ref kind : Nat) : Option ImageRef := i.refs.find? (fun r => decide (r.ref = ref) && decide (r.kind = kind))

/-- A vocabulary slot obeys R216. -/
def vocabSlotOk (s : State) (i : Image) (j : Nat) : Bool :=
  !vocabValid s j || (refOf i (fld s .text (0x100 + 8 * j) 0 16) 3).any (·.resident)

/-- A text stage record clashes with one at a lower offset (R227). -/
def textClash (s : State) (j : Nat) : Bool :=
  let w (k : Nat) := reg s .text (0x200 + 8 * k)
  bit (w j) 24 && (List.range j).any (fun k => bit (w k) 24 && decide (bits (w k) 0 24 = bits (w j) 0 24))

/-- A variant record obeys R244 and R259: its list page fits every pool in use, and a swappable variant its region. -/
def variantOk (s : State) (i : Image) (v : Nat) : Bool :=
  let w := reg s .reqtab (0x400 + 16 * v)
  if bit w 36 then
    let list := 8 + 4 * ceilDiv (variantTokens s v) 16
    let pools := (List.range 16).all (fun c => decide (poolPages s c = 0) || decide (list ≤ poolGranules s c * 2048))
    let ref := refOf i (bits w 0 16) 1
    let place := if bit w 35 then ref.any (·.resident)
      else
        let r := variantRegion s v
        bit (reg s .reqtab (0x608 + 16 * r)) 48 &&
          ref.any (fun q => !q.resident && decide (q.bytes ≤ 2048 * regionGranules s r))
    pools && place
  else true

/-- KiB pinned in a Spire's weight cache (R133). -/
def pinsOk (s : State) (p : Nat) : Bool := decide (sumBy (fun j => fld s (.wcache p) (0x108 + 16 * j) 0 32) (List.range 16) ≤ 57344 * 1024)

/-- The configurable regions of Dome SRAM fit (R285). -/
def domeOk (s : State) : Bool := decide (fld s .dsram 0x10 0 17 + fld s .dsram 0x18 0 17 + fld s .tier 0x8008 0 16 ≤ 126720)

/-- The last pin register with a length, whose record R461 names. -/
def lastPin (s : State) (p : Nat) : Nat :=
  0x108 + 16 * (((List.range 16).filter (fun j => decide (fld s (.wcache p) (0x108 + 16 * j) 0 32 ≠ 0))).foldl max 0)

/-- The records to name for every register rule that gives WRITE and is broken. -/
def registersBad (s : State) (i : Image) : List Nat :=
  ((List.range 32).map (fun v => regRefuse i .reqtab (0x400 + 16 * v) (variantOk s i v)) ++
   (List.range 16).map (fun j => regRefuse i .text (0x100 + 8 * j) (vocabSlotOk s i j)) ++
   (List.range 16).map (fun j => regRefuse i .text (0x200 + 8 * j) (!textClash s j)) ++
   [regRefuse i .flash 0x10 (idleOk s), regRefuse i .flash 0x18 (gcOk s)] ++
   (List.range 64).map (fun t => regRefuse i .tier (ftabOff t 0x18) (ftabOk s t)) ++
   [regRefuse i .dsram 0x18 (domeOk s)] ++
   (List.range 8).map (fun p => regRefuse i (.wcache p) (lastPin s p) (pinsOk s p)) ++
   (List.range 32).map (fun k => regRefuse i (.lucarne k) 0x10 (lucarneOk s i k))).filterMap id

/-- The first failing record, in record order: its ADDRESS breaks R60, or it was the last to write a register whose value
breaks a rule (R461). -/
def writesBad (s : State) (i : Image) : Option Refuse :=
  (leastOf ((List.range i.writes.length).filter (fun n => !writeOk (i.writes.getD n (0, 0)).1) ++ registersBad s i)).map
    (fun n => (0x0E, n))

/-! ### PROGRAMS (R58, R109, R111, R115, R191) -/

/-- Pipelines in ascending number. -/
def sortedPipes (i : Image) : List PipelineRec := sortBy (fun a b => decide (a.num ≤ b.num)) i.pipelines

/-- The stages that run programs, in ascending pipeline and stage. -/
def programUses (i : Image) : List (PipelineRec × Nat × ProgramRec) :=
  (sortedPipes i).flatMap (fun p => (List.range p.stages.length).flatMap (fun j =>
    (stagePrograms i p j).map (fun g => (p, j, g))))

/-- Slot numbers whose routes an INPUT buffer serves. -/
def inputSlots (i : Image) (p : PipelineRec) (j : Nat) : List Nat :=
  if p.cls = 0 then asSet ((stageTiles i p.num j).map (·.slot)) else [0]

/-- A Bound stage gathers from a TRAINED table (R191). -/
def gathersTrained (s : State) (p : PipelineRec) (g : ProgramRec) : Bool :=
  decide (p.cls = 0) && g.ops.any (fun x => decide (x.op = 0x08) && decide (x.sub = 0) &&
    decide ((ftabOf s (fieldLE x.params 0 2)).cls = 2))

def programsBad (s : State) (b : List Byte) (i : Image) : Option Refuse :=
  let recs := (progRecs b).map (fun r => programRec r.2)
  match firstBad (fun q : List (Nat × Option ProgramRec) × (Nat × Option ProgramRec) =>
      unless' (q.2.2.any (programOk s) && !(q.1.any (fun r => decide (r.1 = q.2.1)))) (0x0F, q.2.1)) (withBefore [] recs) with
  | some e => some e
  | none =>
    firstBad (fun u =>
      if buffersOk s u.2.2 u.1.num u.2.1 (inputSlots i u.1 u.2.1) = false ∨ gathersTrained s u.1 u.2.2 then
        some (0x0B, stageForm u.1.num u.2.1)
      else unless' (programFits s i u.2.2 u.1.num u.2.1) (0x0F, u.2.2.num)) (programUses i)

/-! ### IMAGE_REFS (R61, R215, R462) -/

def refsBad (s : State) (b : List Byte) (i : Image) : Option Refuse :=
  firstBad (fun o =>
    let r := refRec b o
    unless' (decide (1 ≤ r.kind) && decide (r.kind ≤ 3) && decide (fieldLE b (o + 3) 1 ≤ 1) && present s i r) (0x10, r.ref))
    (recordOffs b 11)

/-! ### Budgets (R30, R115, R230, R248, R285) -/

/-- The task budget B (R30). -/
def taskBudget (period : Nat) : Nat := period * arithMhz - period * arithMhz / 4096 - 2048

/-- The text engine's budget E (R230). -/
def textBudget (period : Nat) : Nat := 8 * (period * (domainKhz 76 / 1000) * 4095 / 4096 - 40000)

/-- Probes of the prefix tree per frame (R248). -/
def probeBudget (period : Nat) : Nat := 32768 * period / 1000

/-- Every stage of the image in ascending pipeline and stage. -/
def allStages (i : Image) : List (PipelineRec × Nat × StageRec) :=
  (sortedPipes i).flatMap (fun p => ((List.range p.stages.length).zip p.stages).map (fun g => (p, g.1, g.2)))

/-- The first stage whose addition takes a sum above a limit. -/
def overBudget (limit : Nat) (cost : PipelineRec × Nat × StageRec → Nat) :
    Nat → List (PipelineRec × Nat × StageRec) → Option Refuse
  | _, [] => none
  | sum, x :: r =>
    let sum := sum + cost x
    if limit < sum then some (0x0A, stageForm x.1.num x.2.1) else overBudget limit cost sum r

/-- Engine cycles of a text stage (R230). -/
def textCost (s : State) (x : PipelineRec × Nat × StageRec) : Nat :=
  if isTextStage s x.1.num x.2.1 then
    match textRec s x.1.num x.2.1 with
    | some r => x.2.2.slots * (36 * fld s .text (0x200 + 8 * r) 32 20 + 1000 * fld s .text (0x200 + 8 * r) 52 12)
    | none => 0
  else 0

/-- Probes of a serving stage (R248). -/
def probeCost (s : State) (x : PipelineRec × Nat × StageRec) : Nat :=
  match servingRec s x.1.num x.2.1 with
  | some g => x.2.2.slots * genLanes s g * genLookup s g
  | none => 0

/-- Result bytes of a stage in one step, three times (R285). -/
def holdCost (s : State) (i : Image) (x : PipelineRec × Nat × StageRec) : Nat :=
  let bytes := if isTextStage s x.1.num x.2.1 then
      (textRec s x.1.num x.2.1).elim 0 (fun r => fld s .text (0x200 + 8 * r) 32 20)
    else (stagePrograms i x.1 x.2.1).foldl (fun m g => max m (emitBytes [] g.ops)) 0
  3 * (x.2.2.slots * stageLanes s x.1.num x.2.1 * bytes)

def budgetsBad (s : State) (i : Image) : Option Refuse :=
  let stages := allStages i
  firstOf [
    firstBad (fun x => unless' (decide (x.2.2.wcet ≤ taskBudget i.period)) (0x0A, stageForm x.1.num x.2.1)) stages,
    firstBad (fun u => unless' (decide (programCost s i u.2.2 u.1.num u.2.1 ≤ ((u.1.stages[u.2.1]?).map (·.wcet)).getD 0))
      (0x0A, stageForm u.1.num u.2.1)) (programUses i),
    overBudget (textBudget i.period) (textCost s) 0 stages,
    overBudget (probeBudget i.period) (probeCost s) 0 stages,
    overBudget (fld s .dsram 0x10 0 17 * 1024) (holdCost s i) 0 stages]

/-! ### Steps 1 to 6 -/

/-- Step 3 (R51, R375): the signature of slot SIGNER over bytes 0 to D − 1. -/
def signatureOk (s : State) (b : List Byte) : Bool :=
  let d := trailerAt b
  match tget s.nv.operators (fieldLE b (d + 32) 1) with
  | some o => decide (o.roles / 2 % 2 = 1) && ecdsaVerify o.key (sha256 (b.take d)) (sub b (d + 48) 32) (sub b (d + 80) 32)
  | none => false

/-- Step 6: the sections in type order, then the budgets, reserved fields and lowering. -/
def semanticsBad (s : State) (b : List Byte) (overflow : Option Nat) : Option Refuse :=
  let i := parseImage b
  let t := trial s i
  if i.period < 100 ∨ 4000 < i.period then some (0x09, i.period)
  else
    firstOf [tilesBad t b i, pipelinesBad t i, reservationsBad t i, quotasBad t i, routesBad t i, splitsBad t i, writesBad t i,
      programsBad t b i, refsBad t b i, budgetsBad t i, (firstReserved b).map (fun o => (0x11, o)),
      overflow.map (fun n => (0x0F, n))]

/-- The first check of steps 1 to 6 that fails (R63). -/
def commitBad (s : State) (b : List Byte) (overflow : Option Nat) : Option Refuse :=
  match headerBad b b.length with
  | some o => some (1, o)
  | none =>
    if sha256 (b.take (trailerAt b)) ≠ sub b (trailerAt b) 32 then some (2, 0)
    else if hdrSigned b ∧ signatureOk s b = false then some (3, fieldLE b (trailerAt b + 32) 1)
    else if hdrSigned b = false ∧ s.nv.requireSigned then some (4, 0)
    else
      match sizesBad b with
      | some e => some e
      | none =>
        match directoryBad b with
        | some e => some e
        | none => semanticsBad s b overflow

end Sys2Proof.Machine
end

