-- ==== Sys2Proof/Machine/Loader.lean ====
section
/-! DEFINITION. The loader: staging, COMMIT, leaving Sable, DISCARD, UNLOAD (chapter 03 R62 to R67), and the LOAD messages
of kinds 1 to 4 (chapter 13 R341). -/

namespace Sys2Proof.Machine

/-- Sable, start-up over, no image in service and no whole-device scrub: the loader takes bytes and commands (R62, R63,
R435). -/
def loaderReady (s : State) : Bool :=
  decide (s.dev = .sable) && s.img.image.isNone && s.sec.scrub.isNone && (decide (s.power.phase = 0) || decide (9 ≤ s.power.phase))

/-- Bytes of the staging area: 128 MiB (R47, R285). -/
def stagingMax : Nat := 134217728

/-- CMD_REJECTED set (R67). -/
def cmdRejected (s : State) : State := setFlag s .img 0x20 2

/-- An entry of class LOAD (R401). -/
def logLoad (s : State) (detail : Nat) : State := logEntry s 7 0 3 0xFF 0x0600 0xFFFF detail

/-- Bytes placed at their offset in the staging area (R62). -/
def stageBytes (s : State) (offset : Nat) (bytes : List Byte) : State :=
  { s with img := { s.img with staged := memWrite s.img.staged offset bytes,
                               stagedLen := if bytes = [] then s.img.stagedLen else max s.img.stagedLen (offset + bytes.length),
                               phase := if bytes = [] ∧ s.img.phase = .empty then .empty else .staging } }

/-- The staging area emptied (R62, R67). -/
def emptyStaging (s : State) : State := { s with img := { s.img with staged := [], stagedLen := 0 } }

/-- The staged bytes. -/
def stagedBytes (s : State) : List Byte := memRead s.img.staged 0 s.img.stagedLen

/-- A refused COMMIT: IMG_RESULT, REFUSED and the LOAD entry; the staged bytes are kept (R64, R67). -/
def refuseCommit (s : State) (code detail logDetail : Nat) : State :=
  logLoad (setFlag { s with img := { s.img with phase := .refused, code := code, detail := detail } } .img 0x20 4) logDetail

/-- COMMIT ends with APPLY_FAULT; the detection of it puts the device in Vermilion (R64). -/
def applyFault (s : State) (addr : Nat) : State := refuseCommit s 0x12 addr addr

/-- The parity mismatch of step 7 lies outside the tile-level blocks. -/
def parityOutside (a : Nat) : Bool :=
  match decodeAddr a with
  | some (b, _) => (tileLevel b).isNone
  | none => false

/-- A block that COMMIT enables: every block that the image owns, but a scanner only in a Keep that holds a shard of the scan
index (R63 step 8, R188). -/
def toEnable (s : State) (i : Image) (b : Blk) : Bool :=
  match b with
  | .lucarne k => (scanIndexes s i).any (fun r => decide (k < (indexShape r.2).shards))
  | _ => true

/-- ENABLE set in the blocks of an image, FRAME last (R63 step 8). -/
def enableBlocks (s : State) (i : Image) : State :=
  (imageBlks.filter (toEnable s i)).foldl (fun s b => if b = .frame then enableFrame s else setEnable s b true) s

/-- A tile as a COMMIT of an image leaves it: the role of the image, and no work (R53, R63). -/
def assigned (i : Image) (t : Nat) (x : Tile) : Tile :=
  let role := imageRole i t
  { x with role := role, serves := if role = .bound then i.tiles.find? (fun r => decide (r.tile = t)) else none,
           occupant := none, task := none, run := .idle, inbox := [], spent := [], returns := [], passes := [],
           streams := [], switch := none, history := [], program := 0 }

/-- The roles of the image given to the tiles; a BOUND tile that is out of service hands over at the next boundary
(R53, R54). -/
def assignTiles (s : State) (i : Image) : State :=
  let changed := (List.range 640).filter (fun t => !decide (assigned i t (tileAt s t) = tileAt s t))
  let leaves := (List.range 640).filter (fun t => decide (imageRole i t = .bound) && !(tileAt s t).inService)
  let s := changed.foldl (fun s t => setTile s t (assigned i t (tileAt s t))) s
  leaves.foldl (fun s t => { s with belfry := { s.belfry with leaving := addNat t s.belfry.leaving } }) s

/-- State of the serving, search, feature and tier units that a COMMIT starts afresh (R134, R171, R203, R245, R260,
R271). -/
def freshService (s : State) : State :=
  { s with serv := { Serving.reset with view := s.serv.view },
           search := { indexes := [], cands := [], walks := [] },
           spires := [],
           feat := { s.feat with tracker := [], reads := [], chosen := [], chosenFor := none, firstWindow := 0 },
           tier := { s.tier with homes := [], saves := [] } }

/-- SIGNER as the history takes it: 0xFF for an unsigned image (R365). -/
def signerByte (i : Image) : Nat := i.signer.getD 0xFF

/-- The image history extended (R365). -/
def extendHistory (s : State) (digest : List Byte) (signer imageId : Nat) : State :=
  { s with sec := { s.sec with history := sha256 (s.sec.history ++ digest ++ toLE 1 signer ++ toLE 8 imageId) } }

/-- The gated domains that run while an image is in service (R432): the text engine, and the five domains of each Spire that
has a tile which is not OFF. -/
def imageDomains (s : State) : List Nat :=
  (List.range 8).flatMap (fun p =>
    if s.tiles.any (fun e => decide (e.1 / 80 = p) && decide (e.2.role ≠ .off)) then (List.range 5).map (5 * p + ·) else []) ++ [76]

/-- Steps 7 to 9 of COMMIT on an image that passed the checks (R63, R64). -/
def applyImage (s : State) (i : Image) (c : CommitIn) : State :=
  let s := applyConfig s i
  match c.parityBad.filter parityOutside, c.deviceFault with
  | some a, _ =>
    let s := applyFault s a
    match decodeAddr a with
    | some (b, _) => parityFault s a b
    | none => s
  | none, true => detectDevice (applyFault s 0) 0x0C 0x0600 0
  | none, false =>
    let s := placeTables (freshService (enableBlocks s i)) i
    let s := match c.parityBad with
      | some a =>
        match decodeAddr a with
        | some (b, _) => parityFault s a b
        | none => s
      | none => s
    let s := c.tileFaults.foldl (fun s t => detectTile s 0x08 t 0) s
    let s := assignTiles s i
    let s := extendHistory { s with img := { s.img with
      image := some i, phase := .inService, code := 0, detail := 0, awaiting := true } } i.digest (signerByte i) i.imageId
    let s := (imageDomains s).foldl (fun s d => queueWake s d 0) s
    logLoad (setFlag s .img 0x20 3) 0

/-- The answer of a LOAD: from a PRIVILEGED session, `run`; any other is rejected; none where there is no session (R336,
R341). -/
def loadAnswer (s : State) (n tag : Nat) (run : State) : Option State :=
  (sessAt s n).map (fun x => if epPriv s x.endpoint then run else reject s n x.firstMsgq 0x03 tag 4)

/-- What reaches the loader while it checks and applies: load data is discarded, which a LOAD of kind 1 hears as DROPPED and
one of another kind, or a STAGE, as STATE; a second command is ignored (R65, R341). -/
def duringOne (s : State) : DuringCommit → State
  | .load n tag kind => (loadAnswer s n tag (loadReply (setFlag s .img 0x20 1) n tag (if kind = 1 then 1 else 2) 0)).getD s
  | .stage link seq =>
    if (tget s.lantern.links link).isSome then mgmtReply (setFlag s .img 0x20 1) link 0x12 4 seq [] else s
  | .command => cmdRejected s

/-- What COMMIT does (R63 to R65). -/
def commitOp (s : State) (c : CommitIn) : State :=
  if loaderReady s = false then cmdRejected s
  else
    let b := stagedBytes s
    let s := c.during.foldl duringOne s
    match commitBad s b c.overflow with
    | some r => refuseCommit s r.1 r.2 0
    | none => applyImage s (parseImage b) c

/-- The hardware facts of a COMMIT that meets no fault. -/
def cleanCommit : CommitIn := { during := [], parityBad := none, tileFaults := [], deviceFault := false, overflow := none }

/-- What DISCARD does (R65, R67). -/
def discardOp (s : State) : State :=
  if loaderReady s then
    let s := emptyStaging s
    { s with img := { s.img with phase := .empty } }
  else cmdRejected s

/-- ENABLE cleared in the reverse order of step 8, FRAME first, and the image-owned registers reset (R66). -/
def disableBlocks (s : State) : State := clearImageRegs (stopFrames s)

/-- The image leaves service (R66, R365): admission stops, the blocks are disabled and reset, staging is emptied and the
device is in Sable. The images in T1 go with it; those in T2 stay. -/
def removeImage (s : State) : State :=
  let s := s.adm.subs.foldl (fun s x => refuseMsg s x 0x07 0) { s with adm := { s.adm with subs := [] } }
  let s := gateDomains (emptyStaging (disableBlocks s)) (imageDomains s)
  let off (x : Tile) : Tile := { x with role := .off, serves := none, occupant := none, task := none, run := .idle,
                                        passes := [], streams := [], inbox := [], switch := none, spent := [], returns := [] }
  let s := { s with
    adm := { Admission.reset with level := s.adm.level },
    tiles := s.tiles.map (fun p => (p.1, off p.2)),
    img := { s.img with phase := .empty, code := 0, detail := 0, image := none, awaiting := false,
                        loaded := s.img.loaded.filter (fun p => !p.2.resident) } }
  let s := extendHistory (freshService s) (zeros 32) 0xFF 0
  logLoad (enterDev s .sable 2) 0

/-- What UNLOAD does: in Ivory and Amber with no open context (R66). -/
def unloadOp (s : State) : State :=
  if serving s && decide (s.sec.ctxs = []) then removeImage s else cmdRejected s

/-- A write to IMG_CMD over one of the two paths: DENIED to an endpoint that is not PRIVILEGED, and in Vermilion (R69,
R342). -/
def imgCommand (s : State) (path : RegPath) (f : State → State) : Res :=
  let run : Res := if s.dev = .vermilion then .next (emitOut s (.access 2 0)) else .next (emitOut (f s) (.access 0 0))
  match path with
  | .mgmt => run
  | .window n =>
    match sessAt s n with
    | none => .next s
    | some x => if epPriv s x.endpoint then run else .next (emitOut s (.access 2 0))

/-- COMMIT: the staged image is checked, applied, enabled and measured, or refused (R63). -/
def execCommit (path : RegPath) (c : CommitIn) (s : State) : Res :=
  if c.tileFaults.any (fun t => decide (640 ≤ t)) ∨ c.parityBad.any (fun a => !isCfgAddr a) then malformed "unit"
  else imgCommand s path (fun s => commitOp s c)

/-- DISCARD: the staging area is emptied (R67). -/
def execDiscard (path : RegPath) (s : State) : Res := imgCommand s path discardOp

/-- UNLOAD: the image in service is removed (R66). -/
def execUnload (path : RegPath) (s : State) : Res := imgCommand s path unloadOp

/-- A tile that the image does not mark OFF is out of service (R63, R392). -/
def tileMissing (s : State) : Bool := s.tiles.any (fun p => !p.2.inService && decide (p.2.role ≠ .off))

/-- The state that the tiles and the throttle call for: Amber while a tile is missing or the level is above 0, Ivory
otherwise (R392). -/
def serviceState (s : State) : DevState := if tileMissing s || decide (0 < s.adm.level) then .amber else .ivory

/-- The first window counted: the first that begins at or after the first frame in service (R203). -/
def firstCounted (s : State) : Nat :=
  let w := hotWindow s
  if w = 0 then 0 else (now s + w - 1) / w

/-- LEAVE_SABLE: FRAME_LOCK reads LOCKED or FREE after step 8 (R63). -/
def execLeaveSable (s : State) : Res :=
  if s.img.awaiting && decide (s.dev = .sable) && enabled s .frame &&
      (decide (s.frame.lock = .locked) || decide (s.frame.lock = .free)) then
    let s := { s with img := { s.img with awaiting := false }, feat := { s.feat with firstWindow := firstCounted s } }
    .next (enterDev s (serviceState s) 0)
  else .next s

/-! ### LOAD -/

/-- A LOAD as a command: no message comes from a session that is not there (R330). -/
def privLoad (s : State) (n tag : Nat) (run : State) : Res :=
  match loadAnswer s n tag run with
  | none => .next s
  | some t => .next t

/-- Staging over the port or the management path: 0 OK, 1 DROPPED, 2 STATE, 4 RANGE (R62, R65, R341). -/
def stageOp (s : State) (offset : Nat) (bytes : List Byte) : State × Nat :=
  if s.img.image.isSome then (setFlag s .img 0x20 1, 1)
  else if loaderReady s = false then (s, 2)
  else if stagingMax < offset + bytes.length then (s, 4)
  else (stageBytes s offset bytes, 0)

/-- LOAD_STRUCTURE: bytes of a structure image (R62, R341). -/
def execLoadStructure (n tag offset : Nat) (bytes : List Byte) (s : State) : Res :=
  let r := stageOp s offset bytes
  privLoad s n tag (loadReply r.1 n tag r.2 0)

/-- The REF of the staged IMAGE_REFS with a kind. -/
def stagedRef (i : Image) (ref kind : Nat) : Option ImageRef :=
  i.refs.find? (fun r => decide (r.ref = ref) && decide (r.kind = kind))

/-- End of the images recorded in a namespace, those of other REFs. -/
def usedIn (s : State) (ns ref : Nat) : Nat :=
  s.img.loaded.foldl (fun m p =>
    if !p.2.resident && !p.2.noSpace && decide (p.2.ns = ns) && decide (p.1 ≠ ref) then max m (p.2.base + p.2.bytes) else m) 0

/-- The lowest-numbered device-owned namespace with room for an image (R341). -/
def roomFor (s : State) (ref bytes : Nat) : Option Nat :=
  (s.flash.nss.find? (fun e => decide (e.2.owner = 0xFF) && decide (nsState s e.2 = .active) &&
    decide (usedIn s e.1 ref + bytes ≤ e.2.size))).map (·.1)

/-- The record of an image as its loading starts: its place (R341). -/
def startLoad (s : State) (i : Image) (r : ImageRef) : LoadedImage :=
  let x : LoadedImage := { kind := r.kind, bytes := r.bytes, resident := r.resident, ns := 0, base := 0, upto := 0,
                           valid := false, noSpace := false }
  if r.resident then { x with base := imageBase (scanRef (trial s i)) i r.ref }
  else
    match roomFor s r.ref r.bytes with
    | some ns => { x with ns := ns, base := usedIn s ns r.ref }
    | none => { x with noSpace := true }

/-- The record that a LOAD continues, or a new one: from offset 0, or where the place or size is another. -/
def loadRecord (s : State) (i : Image) (r : ImageRef) (offset : Nat) : LoadedImage :=
  match tget s.img.loaded r.ref with
  | none => startLoad s i r
  | some x =>
    if offset = 0 ∨ x.kind ≠ r.kind ∨ x.bytes ≠ r.bytes ∨ x.resident ≠ r.resident ∨
        (r.resident ∧ x.base ≠ imageBase (scanRef (trial s i)) i r.ref) then startLoad s i r
    else x

/-- A part of an image written at its place; the part that completes it has its digest compared (R341). -/
def loadPart (s : State) (r : ImageRef) (x : LoadedImage) (offset : Nat) (bytes : List Byte) : State × Nat :=
  let put := if x.resident then
      { s with tier := { s.tier with t1 := memWrite s.tier.t1 (2 ^ 68 + x.base + offset) bytes } }
    else flashPut s (x.ns * 2 ^ 58 + x.base + offset) bytes
  let upto := if offset ≤ x.upto then max x.upto (offset + bytes.length) else x.upto
  let whole := decide (upto = x.bytes)
  let good := whole && decide (sha256 (loadedBytes put x 0 x.bytes) = r.digest)
  ({ put with img := { put.img with loaded := tset put.img.loaded r.ref { x with upto := upto, valid := good } } },
   if whole && !good then 5 else 0)

/-- A LOAD of kind 2 to 4 on the state it may act on (R341): the state and STATUS. -/
def loadImage (s : State) (kind ref offset : Nat) (bytes : List Byte) : State × Nat :=
  let b := stagedBytes s
  if s.img.image.isSome then (setFlag s .img 0x20 1, 2)
  else if loaderReady s = false ∨ (headerBad b b.length).isSome ∨ (directoryBad b).isSome then (s, 2)
  else
    let i := parseImage b
    match stagedRef i ref kind with
    | none => (s, 3)
    | some r =>
      if r.bytes < offset + bytes.length then (s, 4)
      else
        let x := loadRecord s i r offset
        if x.noSpace then ({ s with img := { s.img with loaded := tset s.img.loaded ref x } }, 7)
        else loadPart s r x offset bytes

/-- A LOAD of an image with its reply. -/
def loadMsg (s : State) (n tag kind ref offset : Nat) (bytes : List Byte) : Res :=
  let r := loadImage s kind ref offset bytes
  privLoad s n tag (loadReply r.1 n tag r.2 0)

/-- LOAD_MODEL: bytes of a model image (R341). -/
def execLoadModel (n tag ref offset : Nat) (bytes : List Byte) (s : State) : Res := loadMsg s n tag 1 ref offset bytes

/-- LOAD_INDEX: bytes of an index image (R341). -/
def execLoadIndex (n tag ref offset : Nat) (bytes : List Byte) (s : State) : Res := loadMsg s n tag 2 ref offset bytes

/-- LOAD_VOCABULARY: bytes of a vocabulary image (R341). -/
def execLoadVocabulary (n tag ref offset : Nat) (bytes : List Byte) (s : State) : Res :=
  loadMsg s n tag 3 ref offset bytes

end Sys2Proof.Machine
end

