-- ==== Sys2Proof/Machine/Boundary.lean ====
section
/-! DEFINITION. The frame boundary: what every unit does when frame `n` begins, in one order. Each part is decided in its
own chapter; this file holds the parts of the whole device (R22, R24, R40, R42, R54, R242, R356, R358, R383, R392, R393)
and their order. -/

namespace Sys2Proof.Machine

/-- A part of the boundary that runs only in Ivory and Amber. -/
def inServiceOnly (f : State → State) (s : State) : State := if serving s then f s else s

/-! ### The frame timer at a boundary -/

/-- OFFSET_NS as the register holds it: saturating at 32 bits (R29). -/
def satOffset (x : Int) : Int := if x < -2147483648 then -2147483648 else if 2147483647 < x then 2147483647 else x

/-- The steering limit in cycles (R24). -/
def steerLimit (s : State) : Nat := periodUs s * 2250 / 4096

/-- Cycles by which the frame that begins is lengthened to bring the next boundary back, within the limit (R24). -/
def steerFor (s : State) (offset : Int) : Int :=
  let want := -(offset * 9 / 4)
  let lim : Int := (steerLimit s : Nat)
  if want < -lim then -lim else if lim < want then lim else want

/-- The offset of the boundary measured, lock kept or left, and the frame steered (R23, R24). In HOLDOVER without the
reference, frames continue with the correction of the last frame that had one (R23; log entry 30). -/
def measureOffset (s : State) (offset : Int) : State :=
  if referenced s && s.frame.acquired && s.frame.present then
    let small := decide (-50 < offset ∧ offset < 50)
    let s := { s with frame := { s.frame with
      offsetNs := satOffset offset, good := if small then s.frame.good + 1 else 0, steer := steerFor s offset } }
    if !small && decide (s.frame.lock = .locked) then leaveLocked s .acquiring else s
  else if s.frame.lock = .holdover then s
  else { s with frame := { s.frame with steer := 0 } }

/-- The counter at the boundary: one more, or once the frame that the acquisition set (R22, R24); and what counts within
one frame begins again. -/
def openFrame (s : State) : State :=
  let n := s.frame.nextFrame.getD (s.frame.count + 1)
  { s with frame := { s.frame with count := n, nextFrame := none },
           belfry := { s.belfry with posted := 0, reports := [], retries := [] },
           power := { s.power with released := 0 },
           feat := { s.feat with reads := [] },
           tiles := s.tiles.map (fun p => (p.1, { p.2 with history := p.2.history.filter (fun h => decide (n ≤ h.2 + 3)) })) }

/-! ### Release and completion -/

/-- The order in which results leave: priority, then acceptance (R41). -/
def releaseBefore (a b : Nat × Request) : Bool :=
  if a.2.prio ≠ b.2.prio then decide (b.2.prio < a.2.prio)
  else if a.2.acceptFrame ≠ b.2.acceptFrame then decide (a.2.acceptFrame < b.2.acceptFrame)
  else if a.2.stamp ≠ b.2.stamp then decide (a.2.stamp < b.2.stamp)
  else decide (a.2.queue ≤ b.2.queue)

/-- Pieces of a fragment of at most 1,048,576 bytes; at least one (R340). -/
def cutFragment : Nat → List Byte → List (List Byte)
  | 0, bs => [bs]
  | fuel + 1, bs => if bs.length ≤ 1048576 then [bs] else bs.take 1048576 :: cutFragment fuel (bs.drop 1048576)

/-- One FRAGMENT message (R340). -/
def sendPiece (s : State) (e : Nat) (last : Bool) (bs : List Byte) : State :=
  match reqAt s e with
  | none => s
  | some r =>
    let s := setReq s e { r with resultBytes := r.resultBytes + bs.length }
    sendMsg s r.session r.queue 0x83 r.tag
      (toLE 8 (handle e r) ++ toLE 8 r.resultBytes ++ toLE 4 bs.length ++ toLE 4 (if last then 1 else 0) ++ bs)

/-- A fragment released: its messages in order, the last one with LAST where it ends the result (R340). -/
def sendFragment (s : State) (e : Nat) (last : Bool) (bs : List Byte) : State :=
  let l := cutFragment (bs.length / 1048576) bs
  ((List.range l.length).zip l).foldl (fun s q => sendPiece s e (last && decide (q.1 + 1 = l.length)) q.2) s

/-- The fragments of a request that are due, and its completion with the last one (R40, R41, R242). -/
def releaseEntry (s : State) (e : Nat) : State :=
  match reqAt s e with
  | none => s
  | some r =>
    if r.state = .ending ∨ r.sentFrame.isSome then s
    else
      let mine := s.hold.filter (fun f => decide (f.entry = e))
      let due := mine.filter (fun f => decide (f.frame + 3 ≤ now s))
      let left := mine.filter (fun f => !decide (f.frame + 3 ≤ now s))
      let done : Bool := r.produced.any (fun p => decide (p + 3 ≤ now s)) && left.isEmpty
      let ends : Bool := r.produced.isSome && left.isEmpty
      let s := { s with hold := s.hold.filter (fun f => !(decide (f.entry = e) && decide (f.frame + 3 ≤ now s))) }
      let s := ((List.range due.length).zip due).foldl
        (fun s q => sendFragment s e (ends && decide (q.1 + 1 = due.length)) q.2.bytes) s
      if done then complete s e stDone else s

/-- The release decision of the first cycles of a frame: nothing while the gate is closed (R40, R394, R429). -/
def releaseAll (s : State) : State :=
  if s.belfry.gateClosed then s
  else (sortBy releaseBefore s.reqs).foldl (fun s p => releaseEntry s p.1) s

/-- The completions that are due of requests that ended (R42, R388). -/
def completeDue (s : State) : State :=
  s.reqs.foldl (fun s p =>
    if p.2.state = .ending ∧ p.2.dueFrame.any (fun f => decide (f ≤ now s)) then complete s p.1 p.2.status else s) s

/-- An entry becomes FREE: its pages and its data in the tiles go with it (R241, R242, R251). -/
def freeReq (s : State) (e : Nat) : State :=
  let s := dropWork (releasePages s e) e
  { s with reqs := tdel s.reqs e, hold := s.hold.filter (fun f => decide (f.entry ≠ e)),
           tiles := s.tiles.map (fun p => (p.1, { p.2 with sram := clearSram p.2.sram e (fun _ => true) })) }

/-- The entries whose completion was handed over in the frame before (R241). -/
def freeReqs (s : State) : State :=
  ((s.reqs.filter (fun p => p.2.sentFrame.any (fun f => decide (f < now s)))).map (·.1)).foldl freeReq s

/-! ### Request states -/

/-- Every stage of a request has completed in the frame before (R41, R242); a generation ends with its last payload. -/
def markProduced (s : State) : State :=
  { s with reqs := s.reqs.map (fun p =>
      (p.1,
        let r := p.2
        if alive r && r.gen.isNone && decide (r.state ≠ .pending) then
          match pipeOf s r.pipeline with
          | none => r
          | some q =>
            if (List.range q.stages.length).all (fun j => decide (stageFrames s r j ≤ stageSteps r j (tilesPerSlot s r.pipeline j)))
            then { r with produced := some (now s - 1) } else r
        else r)) }

/-- Bytes of a search block (R163). -/
def searchBytes (b : SearchBlock) : List Byte :=
  toLE 2 b.indexRef ++ toLE 1 b.packMode ++ toLE 1 b.vocab ++ fit 4 (b.filters.flatMap (toLE 1)) ++ toLE 2 b.kShort ++
  toLE 1 b.kCross ++ toLE 1 (if b.noPack then 1 else 0) ++ toLE 4 b.budget ++ toLE 2 b.beam ++ toLE 1 b.rounds ++
  toLE 1 b.expand ++ zeros 12

/-- Bytes of a generation block with its stop set (R236). -/
def genBytes (b : GenBlock) : List Byte :=
  toLE 2 b.variant ++ toLE 1 b.vocab ++ toLE 1 ((if b.speculate then 1 else 0) + (if b.sample then 2 else 0)) ++
  toLE 4 b.promptMax ++ toLE 4 b.maxNew ++ toLE 4 b.temp.toNat ++ toLE 2 b.topK ++ zeros 6 ++ toLE 8 b.seed ++
  fit 584 b.stop

/-- The submission body from CONTEXT onward, as the SEED token carries it (R338). -/
def seedBytes (r : Request) : List Byte :=
  toLE 1 r.ctx ++ toLE 1 (if r.elastic then 1 else 0) ++ toLE 1 r.prio ++
  toLE 1 ((if r.search.isSome then 1 else 0) + (if r.gen.isSome then 2 else 0)) ++ toLE 2 r.pipeline ++ zeros 2 ++
  toLE 8 r.deadline ++ toLE 4 r.input.length ++ zeros 12 ++ (r.search.toList.flatMap searchBytes) ++
  (r.gen.toList.flatMap genBytes) ++ r.input

/-- The SEED token of a request for one rank of its first stage, visible from frame s (R117, R120). -/
def seedToken (s : State) (e : Nat) (r : Request) (rank : Nat) : Token :=
  { entry := e, ctx := r.ctx, route := 0xFFFF, buffer := 0, bytes := (seedBytes r).length, start := r.start,
    visible := now s, seed := true, last := true, elastic := r.elastic, slotMap := r.slots, srcTile := 640, srcRank := 0,
    dstRank := rank, data := seedBytes r }

/-- The SEED placed in channel 0 of the first stage's slot, or in Elastic staging; a first stage that the Dome serves
reads the submission itself (R120, R123). -/
def placeSeeds (s : State) (e : Nat) (r : Request) : State :=
  (List.range (tilesPerSlot s r.pipeline 0)).foldl (fun s rank =>
    let k := seedToken s e r rank
    if (servingRec s r.pipeline 0).isSome then s
    else if floats s r.elastic r.pipeline 0 then { s with dome := s.dome ++ [k] }
    else
      match slotTile s r.pipeline 0 (r.slots.getD 0 0xFF) rank with
      | some t => toInbox s t k
      | none => s) s

/-- The generation block of a request suits its pipeline (R236, R237). -/
def genSuits (s : State) (r : Request) (p : PipelineRec) : Bool :=
  match r.gen, servingStage s r.pipeline with
  | none, none => true
  | some b, some _ => genBlockOk s p b
  | _, _ => false

/-- The search block of a request suits its pipeline (R163). -/
def searchSuits (s : State) (r : Request) (p : PipelineRec) : Bool :=
  match r.search with
  | none => decide (p.stages.length ≤ p.scanStage)
  | some b => searchBlockOk s p b

/-- Frame s of a request begins: it runs, or its blocks break a rule and it completes with FAULT (R163, R237, R242). -/
def beginRequest (s : State) (e : Nat) (r : Request) : State :=
  let s := setReq s e { r with state := .running }
  match pipeOf s r.pipeline with
  | none => s
  | some p =>
    if genSuits s r p = false then genFault s e
    else if searchSuits s r p = false then complete (endRequest s e stFault (now s)) e stFault
    else placeSeeds s e r

/-- The frame of its serving stage in which a request is, if it has one that has begun. -/
def servingBegun (s : State) (r : Request) : Bool :=
  match servingStage s r.pipeline with
  | some j => r.plan.any (fun g => decide (g.stage = j) && decide (g.first ≤ now s))
  | none => false

/-- At most one transition of an entry, in the order of the table (R242). -/
def transition (s : State) (e : Nat) : State :=
  match reqAt s e with
  | none => s
  | some r =>
    if r.state = .pending then (if r.start ≤ now s then beginRequest s e r else s)
    else if r.state = .running ∧ r.gen.isSome ∧ servingBegun s r then setReq s e { r with state := .serving }
    else if (r.state = .running ∨ r.state = .serving) ∧ r.produced.isSome then setReq s e { r with state := .holding }
    else s

/-- The transitions of a boundary. -/
def transitions (s : State) : State := (s.reqs.map (·.1)).foldl transition s

/-! ### Tiles that leave and return -/

/-- The lowest SPARE tile of a Spire that is in service and holds no role (R54). -/
def freeSpare (s : State) (p : Nat) : Option Nat :=
  (leastBelow (fun i =>
    let x := tileAt s (80 * p + i)
    decide (x.role = .spare) && x.inService && x.serves.isNone) 80).map (80 * p + ·)

/-- A tile that has left service hands its role to a spare of its Spire (R54). -/
def handOver (s : State) (t : Nat) : State :=
  let x := tileAt s t
  match x.serves with
  | none => s
  | some r =>
    let s := setTile s t { x with serves := none }
    match freeSpare s (tileSpire t) with
    | none => s
    | some u =>
      logService (setFld (setTile s u { tileAt s u with serves := some r }) (.tile u) 0 1 2 (roleCode .bound)) u 0

/-- The hand-overs of the tiles that left service in the frame before, in ascending tile. -/
def handOvers (s : State) : State :=
  let l := s.belfry.leaving
  l.foldl handOver { s with belfry := { s.belfry with leaving := [] } }

/-- The tiles that fail at this boundary leave service and hand over, with no request affected (R398). -/
def failTiles (s : State) : State :=
  let l := s.belfry.failing
  handOvers (l.foldl tileOut { s with belfry := { s.belfry with failing := [] } })

/-- A tile takes its recovery tests at the end of the scrub that covered it (R100, R157, R393): the selection network, any
spare switch-in with the array test pass, and the others. -/
def returnTile (pes : List (Nat × Nat × Nat)) (fails netFails : List Nat) (s : State) (t : Nat) : State :=
  let s := bump (switchIn pes s t) (.selnet t) 0x10 1
  let s := if netFails.contains t then setFlag s (.selnet t) 0x08 2 else s
  if fails.contains t ∨ netFails.contains t ∨ retired s t then s
  else
    let x := tileAt s t
    let s := [Blk.tile t, .array t, .stream t, .tdma t, .selnet t, .scale t].foldl (fun s b => setEnable s b true) s
    let role : Role := match x.role with
      | .bound => .spare
      | r => r
    let s := setTile s t { x with role := role, serves := none, occupant := none, inService := true, run := .idle,
                                  netBad := false }
    logService (setFlag (setFld s (.tile t) 0 1 2 (roleCode role)) .belfry 0x00 4) t 0

/-- The tiles that a finished scrub covered. -/
def returnTiles (pes : List (Nat × Nat × Nat)) (fails netFails : List Nat) (s : State) : State :=
  let l := s.belfry.returning
  l.foldl (returnTile pes fails netFails) { s with belfry := { s.belfry with returning := [] } }

/-- A missing or wrong heartbeat of a unit in service (R383, R390). -/
def silentUnit (s : State) (u : UnitId) : State :=
  match u with
  | .tile t => if (tileAt s t).inService then detectTile s 0x0A t 0 else s
  | _ => detectDevice s 0x0A (unitCode u) 0

/-- Units that send heartbeats (R383). -/
def beats (u : UnitId) : Bool :=
  match u with
  | .tile _ | .keepBase _ | .lucarne _ | .text _ => unitExists u
  | _ => false

/-! ### Slate -/

/-- A tile that the scrub of a context covers: a BOUND tile of it, an ELASTIC tile that it occupies or is switching into
it, and a tile out of service that held its data (R358, R393). -/
def coveredBy (c : Nat) (x : Tile) : Bool :=
  (match x.serves with
   | some r => decide (r.ctx = c)
   | none => false) || decide (x.occupant = some c) ||
  (match x.switch with
   | some (d, _) => decide (d = c)
   | none => false) || x.heldCtx.contains c

/-- The spare switch-in of a tile in service that a scrub covers; a tile that it retires leaves service (R99, R100). -/
def switchServing (pes : List (Nat × Nat × Nat)) (s : State) (t : Nat) : State :=
  let s := switchIn pes s t
  if retired s t then tileOut s t else s

/-- A tile overwritten by a context's scrub (R358, R362); a task still running there aborts with cause SLATE (R136). -/
def scrubTile (c : Nat) (pes : List (Nat × Nat × Nat)) (s : State) (t : Nat) : State :=
  let x := tileAt s t
  let s := match x.task with
    | some k => if k.complete then giveBack s k.tokens else abortTask s t 7 0 0
    | none => s
  let x := tileAt s t
  let back := x.inbox
  let incoming : Bool := match x.switch with
    | some (d, _) => decide (d = c)
    | none => false
  let s := setTile s t { x with sram := [], vregs := [], inbox := [], spent := [], returns := [], passes := [], streams := [],
                                task := none, occupant := none, switch := if incoming then none else x.switch,
                                run := if incoming then .idle else x.run, heldCtx := [] }
  let s := giveBack (putScales s t []) back
  if x.inService then switchServing pes s t
  else { s with belfry := { s.belfry with returning := addNat t s.belfry.returning } }

/-- A request of the context ends with FAULT, or with the status that already ended it; its completion leaves now, if its
session is open (R359, R388). -/
def slateReq (s : State) (e : Nat) : State :=
  match reqAt s e with
  | none => s
  | some r => complete (endRequest s e stFault (now s)) e (if r.state = .ending then r.status else stFault)

/-- Granules of a context that the Keep bases overwrite: its KIND 0 extents, the Keep homes of its KIND 1 extents, and its
save slots (R358). -/
def scrubGranules (s : State) (c : Nat) : Nat :=
  keptGranules s c +
  saveGranules * (match s.img.image with
    | some i => ((List.range 640).filter (fun t => decide (imageRole i t = .elastic))).length
    | none => 0)

/-- Homes of a context's granules on a lease: keys and lease offsets. -/
def onLease (s : State) (c j : Nat) : List (Nat × Nat) :=
  s.tier.homes.filterMap (fun h => match h.2 with
    | .lease i off => if i = j ∧ h.1 / 2 ^ 64 = c then some (h.1, off) else none
    | _ => none)

/-- One lease as a context enters Slate (R358): released where it held the context's granules alone, and otherwise those
granules are overwritten with zeros on it. -/
def slateLease (c : Nat) (s : State) (p : Nat × Lease) : State :=
  let mine := onLease s c p.1
  if mine = [] then s
  else if (s.tier.homes.filter (fun h => match h.2 with
      | .lease i _ => decide (i = p.1) && decide (h.1 / 2 ^ 64 ≠ c)
      | _ => false)) = [] then
    sendLease { s with tier := { s.tier with leases := tdel s.tier.leases p.1 } } p.2.neighbour true 4 p.2.wire 0 0 []
  else mine.foldl (fun s m => sendLease s p.2.neighbour true 9 p.2.wire (2048 * m.2) 2048 (zeros 2048)) s

/-- Storage commands of a context's queues that have not started complete with ABORTED (R310, R359). -/
def slateQueues (c : Nat) (s : State) : State :=
  (s.flash.cmds.filter (fun d => !d.started && decide (tget s.flash.queues d.cmd.queue = some c))).foldl
    (fun s d => storDone s d 0x0A d.cmd.nsid 0 0 []) s

/-- A context enters SLATE at a boundary (R356, R358, R359). -/
def enterSlate (pes : List (Nat × Nat × Nat)) (s : State) (c : Nat) : State :=
  match ctxAt s c with
  | none => s
  | some k =>
    let s := setCtx s c { k with state := .slate, closing := false, replies := [], left := scrubGranules s c }
    let s := ((s.reqs.filter (fun p => decide (p.2.ctx = c))).map (·.1)).foldl slateReq s
    let s := ((s.tiles.filter (fun p => coveredBy c p.2)).map (·.1)).foldl (scrubTile c pes) s
    let s := dropFeatures s c
    let s := s.tier.leases.foldl (slateLease c) s
    let s := slateQueues c s
    let s := { s with
      serv := { s.serv with refs := s.serv.refs.filter (fun r => decide (r.1 / 2 ^ 32 ≠ c)),
                            tree := s.serv.tree.filter (fun n => decide (n.ctx ≠ c)),
                            est := s.serv.est.filter (fun e => decide (e.1 / 16 ≠ c)) },
      spires := s.spires.map (fun p => (p.1, { p.2 with
        lines := p.2.lines.filter (fun l => decide (l / 2 ^ 53 ≠ c)),
        replicas := p.2.replicas.filter (fun r => decide ((ftabOf s r.1).ctx ≠ c)) })),
      tier := { s.tier with saves := s.tier.saves.filter (fun v => decide (v.1 / 640 ≠ c)),
                            homes := s.tier.homes.filter (fun h => decide (h.1 / 2 ^ 64 ≠ c)),
                            fetch := s.tier.fetch.filter (fun h => decide (h.1 / 2 ^ 64 ≠ c)) } }
    k.replies.foldl (fun s r => sessionReply s r.1 r.2 2 c 0 0) s

/-- The contexts that enter SLATE, and the granules overwritten in the frame before (R358). -/
def slates (b : BoundaryIn) (s : State) : State :=
  let done (c : Nat) : Nat := sumBy (fun (q : Nat × Nat) => if q.1 = c then q.2 else 0) b.scrubbed
  let s : State := { s with sec := { s.sec with ctxs := s.sec.ctxs.map (fun (p : Nat × Ctx) =>
    (p.1, if p.2.state = CtxState.slate then { p.2 with left := p.2.left - done p.1 } else p.2)) } }
  ((s.sec.ctxs.map (·.1)).filter (leavesOpen s)).foldl (enterSlate b.scrubPes) s

/-! ### The boundary -/

/-- What the frame that ends leaves: text outputs, scans and walks, and deltas still to apply (R169, R209, R229). -/
def closeFrame (b : BoundaryIn) (s : State) : State :=
  let f := now s
  let s := searchFrames (scanFrame (closeTexts s f) f b.late b.lanes) f
  if s.feat.area.any (fun d => decide (d.due ≤ f)) then setFlag s .tier 0x8010 2 else s

/-- Tasks of this boundary whose request a breach of the same boundary has ended do not run (R42, R388). -/
def dropDead (s : State) : State :=
  (s.tiles.map (·.1)).foldl (fun s t =>
    match (tileAt s t).task with
    | some k => if (reqAt s k.entry).all ended then leaveTile s t k true else s
    | none => s) s

/-- What the admitted work does at the boundary (R107, R121, R123, R242, R251). -/
def startWork (s : State) : State :=
  let s := openTexts (bindSearches (transitions s))
  let s := servingBoundary s
  dropDead (dispatchAll (breachLost (startServing (startBound (beginSwitches s)))))

/-- The replicas of the frame that ended expire; new ones are filled at every boundary but the one that opens a window, where
REPLICATION_WINDOW does it (R202). -/
def refill (s : State) : State :=
  if hotWindow s ≠ 0 ∧ now s % hotWindow s ≠ 0 then fillReplicas s
  else { s with spires := s.spires.map (fun p => (p.1, { p.2 with replicas := [] })) }

/-- Ivory or Amber as the tiles and the throttle call for (R392). -/
def reportService (s : State) : State := enterDev s (serviceState s) 0

/-- The boundary in Ivory and Amber: `s` is the state as the frame ends, and its operands are well formed. -/
def serviceBoundary (b : BoundaryIn) (s : State) : State :=
  let s := tierBoundary (closeFrame b s) b.copied
  let n := now s
  let s := overruns (measureOffset (openFrame s) b.offsetNs)
  let s := slates b s
  let s := freeReqs (completeDue (releaseAll s))
  let s := formResults (publishAll (returnCredits s))
  let s := failTiles (handOvers (markProduced (laneFrames s n b.decode)))
  let s := b.silent.foldl silentUnit s
  [switchVersions, loseLeases, endSwaps, returnTiles b.scrubPes b.failTests b.netFails, startWork, admissionPass, refill,
   reportService].foldl (fun s f => inServiceOnly f s) s

/-- The boundary in the other states: the counter runs, heartbeats are checked, and completed requests free their
entries. In Sable a tile of the image in service that has left service hands over its role (R54, R63). -/
def idleBoundary (b : BoundaryIn) (s : State) : State :=
  let s := freeReqs (measureOffset (openFrame s) b.offsetNs)
  let s := if s.dev = .sable ∧ s.img.image.isSome then failTiles (handOvers s) else s
  b.silent.foldl silentUnit s

/-- What a boundary reports names units, contexts and requests that exist (R9, R383). -/
def boundaryOk (s : State) (b : BoundaryIn) : Bool :=
  b.silent.all beats && b.late.all (fun k => decide (k < 32)) && b.lanes.all (fun k => decide (k < 32)) &&
  b.failTests.all (fun t => decide (t < 640)) &&
  b.corrected.all (fun q => decide (q.1 < 32) && decide (q.2 < keepGranules * 32)) && b.netFails.all (fun t => decide (t < 640)) &&
  b.scrubPes.all (fun p => decide (p.1 < 640) && decide (p.2.1 < 132) && decide (p.2.2 < 132)) && b.decode.all (fun d => (reqAt s d.entry).isSome)

/-- FRAME_BOUNDARY: the frame timer reaches the next boundary (R22). -/
def execFrameBoundary (b : BoundaryIn) (s : State) : Res :=
  if enabled s .frame = false then .next s
  else if boundaryOk s b = false then malformed "boundary"
  else
    let s := memoryErrors b s
    .next (if serving s then serviceBoundary b s else idleBoundary b s)

end Sys2Proof.Machine
end

