-- ==== Sys2Proof/Machine/Security.lean ====
section
/-! DEFINITION. The end of orphaning, the ends of the scrubs, and the whole-device scrub (chapter 14, R357, R358, R361,
R362). -/

namespace Sys2Proof.Machine

/-- ORPHAN_TIMEOUT: 1 s has passed since the session that owned a context ended; the context enters SLATE at the first
boundary at which it has no entry (R357). -/
def execOrphanTimeout (c : Nat) (s : State) : Res :=
  if 15 < c then malformed "context"
  else
    match ctxAt s c with
    | none => .next s
    | some k =>
      if k.state = .opened ∧ k.owner = none then .next (setCtx s c { k with aged := true }) else .next s

/-- A context's space in the Keeps reads as zeros once it is overwritten (R358). -/
def zeroSpace (s : State) (c : Nat) : State :=
  { s with tier := { s.tier with t1 := s.tier.t1.filter (fun b => decide (b.1 / 2 ^ 64 ≠ c)) } }

/-- A context is CLOSED (R358). -/
def closeCtx (s : State) (c : Nat) : State :=
  let s := zeroSpace { s with sec := { s.sec with ctxs := tdel s.sec.ctxs c } } c
  bump (setFlag s .ctx 0x00 3) .ctx 0x08 1

/-- CONTEXT_SCRUB_COMPLETE: the last Keep granule is done (R358). -/
def execContextScrubComplete (c : Nat) (s : State) : Res :=
  if 15 < c then malformed "context"
  else
    match ctxAt s c with
    | none => .next s
    | some k => if k.state = .slate ∧ k.left = 0 then .next (closeCtx s c) else .next s

/-- A whole-device scrub is ordered (R361 steps 1 to 3): the device is in Slate, every session has ended, and no request
or context runs on. `reply` is the management request that waits for Sable. -/
def startScrub (s : State) (reply : Nat × Nat) : State :=
  let s := endAllSessions s
  let s := { s with adm := { Admission.reset with level := s.adm.level }, reqs := [], hold := [], dome := [],
                    text := { queue := [], jobs := [], outputs := [] },
                    search := { s.search with cands := [], walks := [] },
                    feat := { s.feat with area := [], tracker := [], reads := [] },
                    sec := { s.sec with scrub := some 0, scrubReply := some reply } }
  let wipe (x : Tile) : Tile := { x with sram := [], vregs := [], inbox := [], spent := [], returns := [], passes := [],
                                         streams := [], task := none, run := .idle, occupant := none, switch := none }
  let out := (s.tiles.filter (fun p => !p.2.inService && decide (p.2.heldCtx ≠ []))).map (·.1)
  let s := { s with tiles := s.tiles.map (fun p => (p.1, { wipe p.2 with heldCtx := [] })),
                    belfry := { s.belfry with returning := out } }
  sendBeacons (enterDev s .slate 3)

/-- Everything a whole-device scrub overwrites reads as zeros, and every context is CLOSED (R361 steps 4 and 5). -/
def wipeDevice (s : State) : State :=
  { s with tier := { Tiers.reset with sparesUsed := s.tier.sparesUsed, corrected := s.tier.corrected },
           sec := { s.sec with ctxs := [], scrub := none, scrubReply := none },
           lowered := [] }

/-- The end of a whole-device scrub (R361, R412): every tile takes its tests as after a scrub (R100, R393), `pes`, `fails` and
`nets` being the PEs they locate, the tiles that fail and the selection networks that fail; the device is in Sable with no
image, and the SCRUB request is answered. -/
def finishScrub (pes : List (Nat × Nat × Nat)) (fails nets : List Nat) (s : State) : State :=
  let asked := s.sec.scrubReply
  let s := (asSet (s.tiles.map (·.1) ++ pes.map (·.1))).foldl (fun s t =>
    if (tileAt s t).inService then switchServing pes s t else s) s
  let s := wipeDevice (returnTiles pes fails nets s)
  let s := if s.img.image.isSome then removeImage s
           else
             let s := disableBlocks (emptyStaging s)
             enterDev { s with img := { s.img with phase := .empty,
                                                   loaded := s.img.loaded.filter (fun p => !p.2.resident) } } .sable 2
  let s := setFlag s .ctx 0x00 4
  match asked with
  | some (link, seq) => mgmtReply s link 0x22 0 seq []
  | none => s

/-- WHOLE_DEVICE_SCRUB_COMPLETE: a whole-device scrub has ended; what its test passes found is free (R361, R393). -/
def execWholeDeviceScrubComplete (s : State) : Res :=
  if s.sec.scrub.isNone ∨ s.dev ≠ .slate then .next s
  else
    let pes := (Config.scrubPes s.fresh).filter (fun p => decide (p.1 < 640) && decide (p.2.1 < 132) && decide (p.2.2 < 132))
    .next (finishScrub pes (Config.scrubFails s.fresh) (Config.scrubNets s.fresh) { s with fresh := s.fresh + 1 })

end Sys2Proof.Machine
end

