-- ==== Sys2Proof/Machine/Access.lean ====
section
/-! DEFINITION. Register accesses: what each register reads, the decision of R69 on an access, what a write does, and the
commands that access registers over the register window and the management path (chapter 03, R69 to R74; R342). -/

namespace Sys2Proof.Machine

/-! ### What RO registers show -/

/-- Fields packed into a word: position and value, disjoint. -/
def packed (l : List (Nat × Nat)) : Word := BitVec.ofNat 64 (sumBy (fun p => p.2 * 2 ^ p.1) l)

/-- One for true. -/
def flag (b : Bool) : Nat := if b then 1 else 0

/-- The start-up tests have run, so that tiles are in or out of service (R435). -/
def testsDone (s : State) : Bool := decide (s.power.phase = 0) || decide (9 ≤ s.power.phase)

/-- Code of a lock state (R28). -/
def lockCode : Lock → Nat
  | .free => 0 | .acquiring => 1 | .locked => 2 | .holdover => 3

/-- Code of a loader state (R67). -/
def phaseCode : LoadPhase → Nat
  | .empty => 0 | .staging => 1 | .checking => 2 | .applying => 3 | .inService => 4 | .refused => 5

/-- Code of a run state (R141). -/
def runCode : RunState → Nat
  | .idle => 0 | .running => 1 | .preempted => 2 | .switching => 3

/-- Word `i` of a byte string, little-endian. -/
def wordOf (bs : List Byte) (i : Nat) : Word := BitVec.ofNat 64 (fieldLE bs (8 * i) 8)

/-- The RO registers of FRAME (R27 to R29). -/
def showFrame (s : State) (off : Nat) : Option Word :=
  if off = 0x08 then some (packed [(0, periodUs s), (32, periodUs s * 2250)])
  else if off = 0x20 then some (BitVec.ofNat 64 s.frame.count)
  else if off = 0x28 then some (packed [(0, twos 32 s.frame.offsetNs)])
  else if off = 0x38 then some (packed [(0, lockCode s.frame.lock)])
  else none

/-- The RO registers of IMG (R67). -/
def showImg (s : State) (off : Nat) : Option Word :=
  let inUse (f : Image → Word) : Word := (s.img.image.map f).getD 0
  if off = 0x08 then some (packed [(0, phaseCode s.img.phase)])
  else if off = 0x10 then some (packed [(0, s.img.stagedLen)])
  else if off = 0x18 then some (packed [(0, s.img.code), (16, s.img.detail)])
  else if off = 0x28 then some (inUse (fun i => BitVec.ofNat 64 i.imageId))
  else if off = 0x30 then some (inUse (fun i => match i.signer with
    | some n => packed [(0, n), (3, 1)]
    | none => 0))
  else if 0x40 ≤ off then some (inUse (fun i => wordOf i.digest ((off - 0x40) / 8)))
  else none

/-- SPIRE_QUEUE: dispatch state (R139). -/
def showSpire (s : State) (p off : Nat) : Option Word :=
  let x := spireAt s p
  if off = 0x10 then
    some (packed [(0, x.queue.length), (16, x.free),
      (24, (s.tiles.filter (fun t => decide (tileSpire t.1 = p) && decide (t.2.run = .switching))).length)])
  else none

/-- KiB that the pinned regions of a Spire hold (R140). -/
def showWcache (s : State) (p off : Nat) : Option Word :=
  if off = 0x10 then some (packed [(0, pinnedLines s p * 2)]) else none

/-- TILE_STATE, and TILE_LOWERED: the page that TILE_LOWERED_PAGE selects, whose words are core code while an image is in
service (R141). -/
def showTile (s : State) (t off : Nat) : Option Word :=
  let x := tileAt s t
  if off = 0x10 then
    some (packed [(0, runCode x.run), (2, x.occupant.getD 0), (6, flag x.occupant.isSome),
      (7, flag (testsDone s && x.inService)), (8, x.program)])
  else if 0x800 ≤ off then
    let page := fld s (.tile t) 0x38 0 9
    if inService s then some (Config.loweredWord t (page * 256 + (off - 0x800) / 8))
    else some (tgetD s.lowered (t * 2 ^ 20 + page * 2 ^ 11 + (off - 0x800)) 0)
  else none

/-- The frames of its scan at which the batches that a Keep serves now stand: one number for each batch (R166). -/
def batchesNow (s : State) (k : Nat) : List Nat :=
  asSet ((batchOf s k (now s)).filterMap (fun e => match reqAt s e with
    | some r => (searchStage s r).bind (fun j => planStep r j (now s))
    | none => none))

/-- Two copies of one bitmap are being read: batches of a Keep are bound to versions that differ (R171). -/
def inTransition (s : State) (k : Nat) : Bool :=
  let x := indexSt s (scanRef s)
  let vs := asSet ((batchOf s k (now s)).filterMap (fun e => (reqAt s e).map (·.version)))
  vs.any (fun v => vs.any (fun w => decide (versionMaps x v ≠ versionMaps x w)))

/-- The RO registers of LUCARNE (R190). -/
def showLucarne (s : State) (k off : Nat) : Option Word :=
  if off = 0x18 then
    match indexAt s (scanRef s) with
    | some x => if enabled s (.lucarne k) then
        some (packed [(0, now s % x.slices), (4, (batchesNow s k).length), (8, flag (inTransition s k))])
      else some 0
    | none => some 0
  else if off = 0x20 then some (BitVec.ofNat 64 (indexSt s (scanRef s)).version)
  else none

/-- The RO registers of TIER with those of the feature tables (R212, R286). -/
def showTier (s : State) (off : Nat) : Option Word :=
  if off = 0x28 then
    some (packed [(0, match s.img.image with
      | some i => t1Capacity s i / 2 ^ 30
      | none => 0), (32, t2Pool s (modulesInM s) / 1000)])
  else if off = 0x40 then
    some (match s.tier.move with
      | some m => packed [(0, m.todo.length), (32, 1)]
      | none => 0)
  else if off = 0x48 then some (packed [(0, lentGranules s)])
  else if 0x400 ≤ off ∧ off < 0x480 then
    some (match tget s.tier.leases ((off - 0x400) / 8) with
      | some x => packed [(0, x.neighbour), (4, 1), (5, flag x.notice.isSome), (16, x.mbps), (32, x.granules)]
      | none => 0)
  else if off = 0x8018 then some (BitVec.ofNat 64 s.feat.seq)
  else none

/-- The RO registers of FLASH (R319). -/
def showFlash (s : State) (off : Nat) : Option Word :=
  let most (f : Module → Nat) : Nat := (s.flash.modules.filter (fun p => modUsable p.2)).foldl (fun m p => max m (f p.2)) 0
  if off = 0x20 then some (packed [(0, most (·.trMaxUs)), (16, most (·.tsusMaxUs))])
  else if 0x100 ≤ off ∧ off < 0x140 then
    (modAt s ((off - 0x100) / 8)).map (fun x =>
      if modUsable x then packed [(0, 1), (1, flag (modInM x)), (2, x.pstate), (4, flag x.eol), (5, flag x.firstUse),
        (6, x.psLimit), (8, spareMin x), (24, (peCounts x).2.2.1)]
      else packed [(4, flag x.eol), (6, x.psLimit)])
  else if 0x200 ≤ off then
    some (match nsAt s ((off - 0x200) / 8) with
      | some x => packed [(0, nsCode (nsState s x)), (4, x.owner), (12, maskOf (nsPorts s x)), (20, x.readers)]
      | none => 0)
  else none

/-- Code of a context state (R354). -/
def ctxCode : CtxState → Nat
  | .opened => 1 | .slate => 2

/-- The RO registers of CTX (R378). -/
def showCtx (s : State) (off : Nat) : Option Word :=
  if off = 0x10 then some (packed [(0, flag s.sec.scrub.isSome), (1, s.sec.scrub.getD 0)])
  else if 0x100 ≤ off then
    some (match ctxAt s ((off - 0x100) / 8) with
      | some x => packed [(0, ctxCode x.state), (2, flag x.confidential), (3, flag x.owner.isNone),
          (4, match x.owner with
            | some _ => x.endpoint
            | none => 0), (16, x.left)]
      | none => 0)
  else none

/-- The RO registers of CRYPTO (R379): versions, and no stepping, for which the spec gives no register (R1; log entry 91). -/
def showCrypto (s : State) (off : Nat) : Option Word :=
  let b := s.sec.boot
  if off = 0x08 then
    some (packed [(0, flag b.slotB), (1, flag b.fellBack), (2, flag b.trial), (3, flag b.identityOk),
      (4, flag s.nv.requireSigned), (16, 0x0100)])
  else if off = 0x10 then some (packed [(0, b.lanternVersion), (32, b.domeVersion)])
  else if off = 0x18 then some (packed [(0, s.nv.counter), (32, b.svn)])
  else if off = 0x20 then some (packed (s.nv.operators.map (fun p => (p.1, 1))))
  else if 0x40 ≤ off then some (wordOf s.sec.history ((off - 0x40) / 8))
  else none

/-- Tile `t` counts as out of service (R392, R405). -/
def tileIsOut (s : State) (t : Nat) : Bool := testsDone s && !(tileAt s t).inService

/-- The RO registers of BELFRY that mirror other state (R405). -/
def showBelfry (s : State) (off : Nat) : Option Word :=
  if off = 0x08 then
    some (packed [(0, flag s.pins.fltLow), (1, flag s.belfry.incident.isSome),
      (2, if testsDone s then (s.tiles.filter (fun p => !p.2.inService)).length else 0),
      (16, min s.belfry.unacked.length 65535)])
  else if off = 0x18 then
    some (match s.belfry.last with
      | some e => packed [(0, e.mech), (8, e.action), (16, e.unit), (32, e.frame % 2 ^ 32)]
      | none => 0)
  else if 0x200 ≤ off ∧ off < 0x250 then
    let w := (off - 0x200) / 8
    some (packed ((List.range 64).map (fun i => (i, flag (tileIsOut s (64 * w + i))))))
  else if 0x300 ≤ off then some (packed [(0, twos 32 (max 0 (sensorValue s (64 + (off - 0x300) / 8))))])
  else none

/-- The RO registers of PWRSEQ (R441). -/
def showPwrseq (s : State) (off : Nat) : Option Word :=
  if off = 0x18 then some (packed [(0, s.power.phase), (4, s.power.cause), (8, s.power.voutMv)])
  else if off = 0x20 then
    some (packed [(0, s.power.slew), (8, paceMaxUs s), (20, min (sumBy (fun w => stepAmps w.domain) s.power.wakes) 4095)])
  else none

/-- The RO registers of IDBUS (R442). -/
def showIdbus (s : State) (off : Nat) : Option Word :=
  if off = 0x08 then
    some (packed [(0, flag s.power.regulatorOk), (1, s.power.modulesOk), (16, s.power.pmbusAddr)])
  else if off = 0x18 then some (packed [(0, s.power.statusWord)])
  else none

/-- A register that shows state kept elsewhere; every other register shows its stored value. -/
def shown (s : State) (b : Blk) (off : Nat) : Option Word :=
  match b with
  | .size => some (BitVec.ofNat 64 ((sizeTable.getD (off / 8) (0, .floor)).1))
  | .frame => showFrame s off
  | .admission => if off = 0x00 then some (packed [(0, s.adm.level)]) else if off = 0x08 then some (packed [(0, 4096)]) else none
  | .img => showImg s off
  | .spire p => showSpire s p off
  | .wcache p => showWcache s p off
  | .tile t => showTile s t off
  | .lucarne k => showLucarne s k off
  | .keep k =>
    if off = 0x8020 then
      some (packed [(0, min (s.feat.tracker.filter (fun r => decide (r.keep = k))).length 4096)])
    else none
  | .text => if off = 0x10 then some (packed [(0, if inService s then textBudget (periodUs s) else 0)]) else none
  | .reqtab =>
    if off = 0x10 then some (packed [(0, s.reqs.length)])
    else if 0x100 ≤ off ∧ off < 0x180 then some (wordOf s.serv.view ((off - 0x100) / 8))
    else none
  | .ptree =>
    if off = 0x10 then some (packed [(0, if inService s then probeBudget (periodUs s) else 0)])
    else if off = 0x38 then some (packed [(0, s.serv.tree.length)])
    else none
  | .tier => showTier s off
  | .flash => showFlash s off
  | .mac => if off = 0x40 then some (if s.port.up then packed [(0, 0x3FF)] else 0) else none
  | .tytos => if off = 0x20 then some (packed [(0, s.port.sessions.length)]) else none
  | .ctx => showCtx s off
  | .crypto => showCrypto s off
  | .belfry => showBelfry s off
  | .pwrseq => showPwrseq s off
  | .idbus => showIdbus s off
  | .array _ | .stream _ | .tdma _ | .selnet _ | .scale _ | .dsram => none

/-- What a read of a register returns: 0 for a WO register (R69). -/
def readReg (s : State) (b : Blk) (off : Nat) : Word :=
  match regDesc b off with
  | none => 0
  | some d => if d.wo then 0 else (shown s b off).getD (reg s b off)

/-- A read of a register with RC fields clears them (R72). -/
def clearRead (s : State) (b : Blk) (off : Nat) : State :=
  match regDesc b off with
  | none => s
  | some d => if d.rc = 0 then s else setReg s b off (reg s b off &&& ~~~ d.rc)

/-! ### Writes -/

/-- A write to a control register under R71. ENABLE of an Image-owned block is cleared by the device only. -/
def writeControl (s : State) (b : Blk) (d : RegDesc) (v : Word) : State :=
  let old := reg s b 0
  let others : Word := d.rw &&& ~~~ 1#64
  if bit old 0 then
    let s := if (v &&& others) ≠ (old &&& others) then setFlag s b (statusOff b) 0 else s
    if bit v 0 ∨ blkOwner b = .image then s else setEnable s b false
  else setReg s b 0 ((old &&& ~~~ d.rw) ||| (v &&& d.rw))

/-- A write to a configuration register under R70: ignored in full while ENABLE is 1. -/
def writeConfig (s : State) (b : Blk) (off : Nat) (d : RegDesc) (v : Word) : State :=
  if enabled s b then setFlag s b (statusOff b) 0
  else setReg s b off ((reg s b off &&& ~~~ d.rw) ||| (v &&& d.rw))

/-- A write to IMG_CMD: CMD, bits 3 to 0, is 1 COMMIT, 2 DISCARD or 3 UNLOAD; any other value is rejected, and the reserved
bits are discarded (R67, R69). -/
def writeImgCmd (s : State) (v : Word) : State :=
  if bits v 0 4 = 1 then commitOp s cleanCommit
  else if bits v 0 4 = 2 then discardOp s
  else if bits v 0 4 = 3 then unloadOp s
  else cmdRejected s

/-- A permitted write to a register of TILE beside the configuration of R70: TILE_LOWERED_PAGE takes effect whatever
ENABLE is, and TILE_LOWERED writes the word of the selected page (R141). -/
def writeTile (s : State) (t off : Nat) (d : RegDesc) (v : Word) : State :=
  if off = 0x38 then setReg s (.tile t) off (v &&& d.rw)
  else if enabled s (.tile t) then setFlag s (.tile t) 0x08 0
  else
    { s with lowered := tsetD s.lowered (t * 2 ^ 20 + fld s (.tile t) 0x38 0 9 * 2 ^ 11 + (off - 0x800)) v 0 }

/-- What a permitted write of a register does; RO and RC fields and reserved bits ignore it (R69 to R71). -/
def writeReg (s : State) (b : Blk) (off : Nat) (d : RegDesc) (v : Word) : State :=
  match b, off with
  | .img, 0x00 => writeImgCmd s v
  | .frame, 0x00 => writeFrameCtrl s v
  | .mac, 0x00 => writeMacCtrl s v
  | .belfry, 0x10 => acknowledge s v
  | .reqtab, 0x18 => inspect s v
  | .tier, 0x30 => { s with tier := { s.tier with moveAddr := v.toNat } }
  | .tier, 0x38 => writeMoveCmd s v
  | .pwrseq, 0x10 => writeLimits s v
  | b, off =>
    if d.rw = 0 then s
    else if off = 0 then
      let t := writeControl s b d v
      if b = .tytos ∧ enabled t b ∧ enabled s b = false then pumpSessions t else t
    else
      match b with
      | .tile t => writeTile s t off d v
      | b => if d.cfg then writeConfig s b off d v else setReg s b off ((reg s b off &&& ~~~ d.rw) ||| (v &&& d.rw))

/-! ### Accesses -/

/-- Status of an access that is not refused by R342: 0 OK, 1 BUS_ERROR, 2 DENIED; the rows of R69 in order. -/
def accessStatus (s : State) (path : RegPath) (write : Bool) (addr size : Nat) : Nat :=
  if size ≠ 8 ∨ addr % 8 ≠ 0 then 1
  else
    match decodeAddr addr with
    | none => 1
    | some (b, off) =>
      match regDesc b off with
      | none => 1
      | some d =>
        let window : Bool := match path with
          | .window _ => true
          | .mgmt => false
        if write = false then 0
        else if s.dev = .vermilion ∧ !(b = .belfry ∧ off = 0x10 ∧ window = false) then 2
        else if window ∧ blkOwner b = .management then 2
        else if blkOwner b = .image ∧ (d.cfg ∨ off = 0) ∧ inService s then 2
        else 0

/-- An access on a path: the status and value, and the state after it. A write over the management path to a register of
MAC or TYTOS that start-up restores is saved where the register takes it; `writeLimits` saves its own (R70, R436). -/
def access (s : State) (path : RegPath) (write : Bool) (addr size : Nat) (v : Word) : State × Nat × Word :=
  let st := accessStatus s path write addr size
  match decodeAddr addr with
  | none => (s, st, 0)
  | some (b, off) =>
    match regDesc b off with
    | none => (s, st, 0)
    | some d =>
      if st ≠ 0 then (s, st, 0)
      else if write then
        let saves : Bool := match path with
          | .mgmt => !(decide (b = .pwrseq) && decide (off = 0x10)) && !(d.cfg && enabled s b)
          | .window _ => false
        let t := writeReg s b off d v
        (if saves then saveMgmt t b off v else t, 0, 0)
      else (clearRead s b off, 0, readReg s b off)

/-- R342 before the table: a REG of an endpoint that is not PRIVILEGED, or any in Vermilion, gives DENIED. `none` where the
path carries no session, from which no access can come (R330). -/
def onPath (s : State) (path : RegPath) (write : Bool) (addr size : Nat) (v : Word) : Option (State × Nat × Word) :=
  match path with
  | .mgmt => some (access s path write addr size v)
  | .window n =>
    match sessAt s n with
    | none => none
    | some x =>
      if epPriv s x.endpoint = false ∨ s.dev = .vermilion then some (s, 2, 0)
      else some (access s path write addr size v)

/-- A write that has no reply of its own: its status goes out. -/
def writeOn (s : State) (path : RegPath) (addr size : Nat) (v : Word) : Res :=
  match onPath s path true addr size v with
  | none => .next s
  | some (t, st, _) => .next (emitOut t (.access st 0))

/-- ENABLE: a write of FRAME_CTRL (R27, R69, R71). -/
def execEnable (path : RegPath) (value : Word) (s : State) : Res := writeOn s path (regAddr .frame 0x00) 8 value

/-- REGISTER_WRITE: a write to any register, decided by the access rules (R69). -/
def execRegisterWrite (path : RegPath) (addr size : Nat) (value : Word) (s : State) : Res :=
  writeOn s path addr size value

/-- REQTAB_INSPECT: a write that copies an entry's head into REQTAB_VIEW (R266). -/
def execReqtabInspect (path : RegPath) (value : Word) (s : State) : Res :=
  writeOn s path (regAddr .reqtab 0x18) 8 value

/-- TIER_MOVE_CMD: a write that orders a move from TIER_MOVE_ADDR on (R273, R286). -/
def execTierMoveCmd (path : RegPath) (value : Word) (s : State) : Res := writeOn s path (regAddr .tier 0x38) 8 value

/-- A REG message and its REG_REPLY (R342). -/
def regWindow (s : State) (n tag : Nat) (write : Bool) (addr : Nat) (v : Word) : Res :=
  match onPath s (.window n) write addr 8 v with
  | none => .next s
  | some (t, st, w) => .next (sendCtl t n 0x88 tag (toLE 1 st ++ zeros 7 ++ toLE 8 w.toNat))

/-- REG_WINDOW_READ: a REG with OP 0 (R342). -/
def execRegWindowRead (n tag addr : Nat) (s : State) : Res := regWindow s n tag false addr 0

/-- REG_WINDOW_WRITE: a REG with OP 1 (R342). -/
def execRegWindowWrite (n tag addr : Nat) (value : Word) (s : State) : Res := regWindow s n tag true addr value

end Sys2Proof.Machine
end

