-- ==== Sys2Proof/Machine/Spdm.lean ====
section
/-! DEFINITION. Attestation and session keys (R363 to R369): the SPDM requests and the answers of the responder. Fields
whose value DSP0274 or X.509 forms and the spec does not state are free bytes (`Config.signedBytes`, log entry 11). -/

namespace Sys2Proof.Machine

/-- SPDM_REPLY with one SPDM 1.2 message: version 0x12, response code, two parameters, payload (R343). -/
def spdmReply (s : State) (n tag code p1 p2 : Nat) (payload : List Byte) : State :=
  sendCtl s n 0x8A tag (toLE 1 0x12 ++ toLE 1 code ++ toLE 1 p1 ++ toLE 1 p2 ++ payload)

/-- An ERROR response, counted (R379). -/
def spdmError (s : State) (n tag code : Nat) : State :=
  setFlag (bump (spdmReply s n tag 0x7F code 0 []) .crypto 0x30 1) .crypto 0x00 2

/-- ERROR codes used: InvalidRequest, Unspecified, DecryptError, SessionLimitExceeded, UnexpectedRequest. -/
def errInvalid : Nat := 0x01
def errUnexpected : Nat := 0x04
def errUnspecified : Nat := 0x05
def errDecrypt : Nat := 0x06
def errSessionLimit : Nat := 0x0A

/-- `k` free bytes and the state after the draw. -/
def freeBytes (s : State) (k : Nat) : List Byte × State :=
  (fit k (Config.signedBytes s.fresh k), { s with fresh := s.fresh + 1 })

/-- SPDM progress of a session changed. -/
def updSpdm (s : State) (n : Nat) (f : Spdm → Spdm) : State :=
  match sessAt s n with
  | some x => setSess s n { x with spdm := f x.spdm }
  | none => s

/-- The reply of a request on an open session; where there is none, nothing answers (R330). -/
def onSession (s : State) (n : Nat) (f : Session → Res) : Res :=
  match sessAt s n with
  | none => .next s
  | some x => f x

/-- GET_VERSION: version 1.2 only (R363). -/
def execGetVersion (n tag : Nat) (s : State) : Res :=
  onSession s n fun _ =>
    .next (updSpdm (sendCtl s n 0x8A tag (toLE 1 0x10 ++ toLE 1 0x04 ++ zeros 3 ++ toLE 1 1 ++ toLE 2 0x1200)) n
      (fun p => { p with version := true }))

/-- The responder flags of R363: CERT_CAP, CHAL_CAP, MEAS_CAP 2, ENCRYPT_CAP, MAC_CAP, KEY_EX_CAP and
HANDSHAKE_IN_THE_CLEAR_CAP at the bit places of DSP0274. -/
def responderFlags : Nat := 0x02 + 0x04 + 0x10 + 0x40 + 0x80 + 0x200 + 0x8000

/-- GET_CAPABILITIES (R363): CTExponent and the two sizes are free, and the reserved bytes 0 (R5). -/
def execGetCapabilities (n tag : Nat) (s : State) : Res :=
  onSession s n fun _ =>
    let a := freeBytes s 1
    let b := freeBytes a.2 8
    .next (updSpdm (spdmReply b.2 n tag 0x61 0 0 (zeros 1 ++ a.1 ++ zeros 2 ++ toLE 4 responderFlags ++ b.1)) n
      (fun p => { p with capabilities := true }))

/-- NEGOTIATE_ALGORITHMS: the algorithms of R363, with the reserved bytes 0 (R5), or InvalidRequest where the host does not
offer them all. -/
def execNegotiateAlgorithms (n tag : Nat) (offersAll : Bool) (s : State) : Res :=
  onSession s n fun _ =>
    if offersAll then
      let a := freeBytes s 34
      let body := a.1.take 16 ++ zeros 12 ++ (a.1.drop 16).take 2 ++ zeros 2 ++ a.1.drop 18
      .next (updSpdm (spdmReply a.2 n tag 0x63 0 0 body) n (fun p => { p with algorithms := true }))
    else .next (spdmError s n tag errInvalid)

/-- GET_DIGESTS: slot 0 (R363). -/
def execGetDigests (n tag : Nat) (s : State) : Res :=
  onSession s n fun _ =>
    let a := freeBytes s 32
    .next (spdmReply a.2 n tag 0x01 0 0x01 a.1)

/-- GET_CERTIFICATE: slot 0, with the identity (R363, R364). -/
def execGetCertificate (n tag slot _offset length : Nat) (s : State) : Res :=
  onSession s n fun _ =>
    if s.sec.boot.identityOk = false then .next (spdmError s n tag errUnspecified)
    else if slot ≠ 0 then .next (spdmError s n tag errInvalid)
    else
      let a := freeBytes s (min length 0xFFFF)
      .next (spdmReply a.2 n tag 0x02 0 0 a.1)

/-- The firmware bundle bytes of the slot that booted. -/
def bootedSlot (s : State) : FwSlot := if s.sec.boot.slotB then s.nv.slotB else s.nv.slotA

/-- The operator table as a byte string: for slots 0 to 7 the key and the role mask, zeros where a slot is empty (DESIGN
CHOICE of the layout that measurement 9 digests, log entry 12). -/
def operatorBytes (s : State) : List Byte :=
  (List.range 8).flatMap (fun i =>
    match tget s.nv.operators i with
    | some o => fit 64 o.key ++ toLE 1 o.roles
    | none => zeros 65)

/-- The manifest of measurement 8: one record per image of IMAGE_REFS present with a matching digest, in ascending REF
(R365). -/
def manifest (s : State) : List Byte :=
  match s.img.image with
  | none => []
  | some i =>
    ((sortBy (fun a b => decide (a.ref ≤ b.ref)) i.refs).filter (fun r =>
      match tget s.img.loaded r.ref with
      | some l => l.valid
      | none => false)).flatMap (fun r =>
        toLE 2 r.ref ++ toLE 1 r.kind ++ toLE 1 (if r.resident then 1 else 0) ++ zeros 4 ++ fit 32 r.digest)

/-- Measurement type byte and value of an index 1 to 9 (R365). -/
def measurement (s : State) (i : Nat) : Nat × List Byte :=
  let b := s.sec.boot
  match i with
  | 1 => (0x00, fit 32 Config.romDigest)
  | 2 => (0x01, memRead (bootedSlot s).bytes 0x40 32)
  | 3 => (0x01, memRead (bootedSlot s).bytes 0x60 32)
  | 4 => (0x86, toLE 4 0x00010000 ++ toLE 4 b.lanternVersion ++ toLE 4 b.domeVersion ++ toLE 4 0xB0)
  | 5 => (0x87, toLE 4 s.nv.counter ++ toLE 4 b.svn)
  | 6 => (0x03, match s.img.image with | some g => fit 32 g.digest | none => zeros 32)
  | 7 => (0x03, fit 32 s.sec.history)
  | 8 => (0x84, manifest s)
  | 9 => (0x85, toLE 1 (1 + (if s.nv.requireSigned then 2 else 0) + (if b.identityOk then 4 else 0)) ++ zeros 15 ++
      sha256 (operatorBytes s))
  | _ => (0, [])

/-- A measurement block in DMTF form: index, specification 1, size, type, value size, value (R365). -/
def measurementBlock (s : State) (i : Nat) : List Byte :=
  let m := measurement s i
  toLE 1 i ++ toLE 1 1 ++ toLE 2 (3 + m.2.length) ++ toLE 1 m.1 ++ toLE 2 m.2.length ++ m.2

/-- CHALLENGE: summary hash of type all or none, signed by the Alias key (R363, R364). -/
def execChallenge (n tag slot measType : Nat) (s : State) : Res :=
  onSession s n fun _ =>
    if s.sec.boot.identityOk = false then .next (spdmError s n tag errUnspecified)
    else if slot ≠ 0 ∨ (measType ≠ 0 ∧ measType ≠ 0xFF) then .next (spdmError s n tag errInvalid)
    else
      let a := freeBytes s 64
      let summary := if measType = 0xFF then
        sha256 ((List.range 9).flatMap (fun i => measurementBlock s (i + 1))) else []
      let b := freeBytes a.2 66
      .next (spdmReply b.2 n tag 0x03 0 0x01 (a.1 ++ summary ++ b.1))

/-- GET_MEASUREMENTS: one block or all, signed or unsigned (R363 to R365). -/
def execGetMeasurements (n tag index : Nat) (signed : Bool) (s : State) : Res :=
  onSession s n fun _ =>
    if signed = true ∧ s.sec.boot.identityOk = false then .next (spdmError s n tag errUnspecified)
    else if index ≠ 0xFF ∧ (index = 0 ∨ 9 < index) then .next (spdmError s n tag errInvalid)
    else
      let is := if index = 0xFF then (List.range 9).map (· + 1) else [index]
      let record := is.flatMap (measurementBlock s)
      let a := freeBytes s (if signed then 98 else 34)
      .next (spdmReply a.2 n tag 0x60 0 0
        (toLE 1 is.length ++ toLE 3 record.length ++ record ++ a.1))

/-- KEY_EXCHANGE: binds one SPDM session to the Tytos session (R366). -/
def execKeyExchange (n tag : Nat) (s : State) : Res :=
  onSession s n fun x =>
    if s.sec.boot.identityOk = false then .next (spdmError s n tag errUnspecified)
    else if x.spdm.exchanged then .next (spdmError s n tag errSessionLimit)
    else
      let a := freeBytes s 200
      .next (updSpdm (spdmReply a.2 n tag 0x64 0 0 a.1) n (fun p => { p with exchanged := true }))

/-- SEQ of the packet that ends the stream of a queue: the last one sent, or the last of those still to send. -/
def lastSeq (y : QueueSt) : Nat := y.txNext + ceilDiv y.txStream.length 8960 - 1

/-- FINISH: verified, it is answered by an unprotected FINISH_RSP, and from then on only protected packets are accepted
(R368 step 1); a failure ends the SPDM session with ERROR and leaves the session unprotected. -/
def execFinish (n tag : Nat) (verifyOk : Bool) (s : State) : Res :=
  onSession s n fun x =>
    if x.spdm.exchanged = false ∨ x.spdm.established = true then .next (spdmError s n tag errUnexpected)
    else if verifyOk = false then
      .next (updSpdm (spdmError s n tag errDecrypt) n (fun p => { p with exchanged := false }))
    else
      let s := bump (spdmReply s n tag 0x65 0 0 []) .crypto 0x28 1
      match sessAt s n with
      | none => .next s
      | some x =>
        match tget x.queues x.firstMsgq with
        | none => .next s
        | some y =>
          .next (setSess s n { x with rxProtected := true, finishRsp := some (lastSeq y),
                                      spdm := { x.spdm with established := true } })

end Sys2Proof.Machine
end

