-- ==== Sys2Proof/Machine/Lantern.lean ====
section
/-! DEFINITION. Lantern (chapter 16): the management lane and its links, the management operations, sensors, logs, the wear
prediction (chapter 15, R399, R400), and the firmware update path. -/

namespace Sys2Proof.Machine

/-! ### Links -/

/-- Lantern or the recovery loader serves the lane, and the lane is up (R406, R422, R423). -/
def laneServed (s : State) : Bool := s.lantern.laneUp && (s.lantern.running || s.lantern.recovery)

/-- The links that satisfy a condition end; an update lock that one of them held passes back (R410, R416). -/
def endLinks (s : State) (p : Nat → Link → Bool) : State :=
  let links := s.lantern.links.filter (fun e => !p e.1 e.2)
  let lock := s.lantern.lock.filter (fun l => (tget links l).isSome)
  { s with lantern := { s.lantern with links := links, lock := lock } }

/-- A clear reply of HELLO or AUTH, on a link that may not exist (R409, R410). -/
def clearReply (s : State) (link op status : Nat) (body : List Byte) : State := emitOut s (.mgmt link op status 0 body)

/-- The least number from `n` on that no link has, within `fuel`. -/
def unusedLink (s : State) (n : Nat) : Nat → Nat
  | 0 => n
  | k + 1 => if (tget s.lantern.links n).isNone then n else unusedLink s (n % (2 ^ 32 - 1) + 1) k

/-- A link that HELLO opens (R409 step 2): LINK, CHALLENGE and the ephemeral key are free values, and so is the
signature, which is zero without IDENTITY_OK. -/
def openLink (s : State) : State :=
  let link := unusedLink s (1 + Config.random s.fresh % (2 ^ 32 - 1)) s.lantern.links.length
  let s := { s with fresh := s.fresh + 1 }
  let c := freeBytes s 32
  let k := freeBytes c.2 64
  let sig := if s.sec.boot.identityOk then freeBytes k.2 64 else (zeros 64, k.2)
  let s := sig.2
  let mode := flag s.sec.boot.identityOk + 2 * flag s.lantern.recovery + 4 * flag (decide (s.nv.operators = []))
  let x : Link := { authed := false, slot := 0xFF, key := [], challenge := c.1, ephemeral := k.1, seq := 0,
                    cache := (0x02, 0, []) }
  let s := { s with lantern := { s.lantern with links := tset s.lantern.links link x } }
  clearReply s link 0x01 0 (toLE 4 link ++ toLE 1 mode ++ zeros 3 ++ c.1 ++ k.1 ++ sig.1)

/-- HELLO: a link opens with a challenge; a fifth gives BUSY (R409, R410). A HELLO with a SEQ other than 0, and any packet
that no one serves, is dropped. -/
def execHello (seqZero : Bool) (nonce : List Byte) (s : State) : Res :=
  if laneServed s = false ∨ seqZero = false then .next s
  else if 4 ≤ s.lantern.links.length then .next (clearReply s 0 0x01 6 [])
  else if nonce.length ≠ 32 then .next (clearReply s 0 0x01 5 [])
  else .next (openLink s)

/-- The ASCII bytes "ZS8032 mgmt" (R409). -/
def mgmtLabel : List Byte :=
  ([0x5A, 0x53, 0x38, 0x30, 0x33, 0x32, 0x20, 0x6D, 0x67, 0x6D, 0x74] : List Nat).map (BitVec.ofNat 8)

/-- The key against which AUTH is verified: that of its slot, or PUBKEY for SLOT 0xFF while the table is empty; none where
the slot is empty, or PUBKEY is not zero beside another slot (R409). -/
def authKey (s : State) (a : AuthIn) : Option (List Byte) :=
  if a.slot = 0xFF then (if s.nv.operators = [] then some a.pubkey else none)
  else if a.pubkey ≠ zeros 64 then none
  else (tget s.nv.operators a.slot).map (·.key)

/-- AUTH verifies: signature over label, CHALLENGE, both ephemeral keys and PUBKEY, and an ephemeral key with which key
agreement succeeds (R409). -/
def authOk (s : State) (l : Link) (a : AuthIn) : Bool :=
  match authKey s a with
  | none => false
  | some k =>
    a.reservedZero && decide (a.ephemeral.length = 64) &&
    onCurve (beNat (a.ephemeral.take 32)) (beNat (a.ephemeral.drop 32)) &&
    ecdsaVerify k (sha256 (mgmtLabel ++ l.challenge ++ l.ephemeral ++ a.ephemeral ++ a.pubkey)) a.sigR a.sigS

/-- AUTH: the link is authenticated, or AUTH_FAILED and the link discarded; a repeated AUTH has its reply sent again
(R409, R410). -/
def execAuth (a : AuthIn) (s : State) : Res :=
  if laneServed s = false then .next s
  else
    match tget s.lantern.links a.link with
    | none => .next s
    | some l =>
      if l.authed then
        if l.seq = 0 then .next (emitOut s (.mgmt a.link l.cache.1 l.cache.2.1 0 l.cache.2.2)) else .next s
      else if authOk s l a then
        let x : Link := { l with authed := true, slot := a.slot, key := a.pubkey, seq := 0 }
        let s := { s with lantern := { s.lantern with links := tset s.lantern.links a.link x } }
        .next (mgmtReply s a.link 0x02 0 0 [])
      else .next (clearReply (endLinks s (fun n _ => decide (n = a.link))) a.link 0x02 8 [])

/-! ### Requests -/

/-- Role bits of R375. -/
def roleAdmin : Nat := 1
def roleFirmware : Nat := 4
def roleMaintain : Nat := 8
def roleObserve : Nat := 16

/-- The link's slot holds one of the roles of a mask. A link of slot 0xFF holds none (R409). -/
def holdsRole (s : State) (l : Link) (mask : Nat) : Bool :=
  match tget s.nv.operators l.slot with
  | some o => decide (l.slot < 8) && decide (o.roles &&& mask ≠ 0)
  | none => false

/-- A request of a link is still executing: its reply waits for a lender or for Sable (R410, R412). -/
def executing (s : State) (link : Nat) : Bool :=
  s.tier.asked.any (fun a => decide (a.1 = link)) ||
  (match s.sec.scrubReply with
   | some p => decide (p.1 = link)
   | none => false)

/-- Operations that act on firmware. -/
def isFirmwareOp (op : Nat) : Bool := decide (0x30 ≤ op) && decide (op ≤ 0x36)

/-- Operations of the recovery loader (R422). -/
def inRecoveryLoader (op : Nat) : Bool :=
  decide (op = 0x30) || decide (op = 0x31) || decide (op = 0x32) || decide (op = 0x33) || decide (op = 0x36)

/-- The role condition of an operation: in the recovery loader its operations take a FIRMWARE operator, or anyone while the
operator table is empty (R412, R422). -/
def roleHeld (s : State) (l : Link) (op mask : Nat) : Bool :=
  if s.lantern.recovery && inRecoveryLoader op then
    decide (s.nv.operators = []) || holdsRole s l roleFirmware
  else holdsRole s l mask

/-- The states in which an operation is accepted (R412). -/
def allStates : List DevState := [.sable, .ivory, .amber, .slate, .vermilion]
def notVermilion : List DevState := [.sable, .ivory, .amber, .slate]
def beforeSlate : List DevState := [.sable, .ivory, .amber]
def inUseStates : List DevState := [.ivory, .amber]

/-- What a request meets before it runs: 0, or the first of ROLE, STATE, BUSY and INVALID that applies (R411). -/
def refusal (s : State) (link op : Nat) (role state fields : Bool) : Nat :=
  if role = false then 3
  else if state = false ∨ (s.lantern.recovery && !inRecoveryLoader op) then 4
  else if isFirmwareOp op && s.lantern.lock.any (fun k => decide (k ≠ link)) then 6
  else if fields = false then 5
  else 0

/-- A protected request (R408, R410, R411): dropped with a bad tag, a wrong SEQ or no keyed link; answered from the cache
when repeated; otherwise refused, or run, where `run` hands out the reply. -/
def request (m : MgmtReq) (op : Nat) (role : State → Link → Bool) (state fields : State → Bool) (run : State → State)
    (s : State) : Res :=
  if laneServed s = false ∨ m.tagOk = false then .next s
  else
    match tget s.lantern.links m.link with
    | none => .next s
    | some l =>
      if l.authed = false ∨ executing s m.link then .next s
      else if m.seq = l.seq then
        if l.seq = 0 then .next s else .next (emitOut s (.mgmt m.link l.cache.1 l.cache.2.1 m.seq l.cache.2.2))
      else if m.seq ≠ l.seq + 1 then .next s
      else
        let st := refusal s m.link op (role s l) (state s) (m.reservedZero && fields s)
        if st = 0 then .next (run s) else .next (mgmtReply s m.link op st m.seq [])

/-- A request whose roles and states are those of the table of R412. -/
def plainRequest (m : MgmtReq) (op mask : Nat) (states : List DevState) (more fields : State → Bool) (run : State → State)
    (s : State) : Res :=
  request m op (fun s l => roleHeld s l op mask) (fun s => states.contains s.dev && more s) fields run s

/-- OK with a body. -/
def okReply (s : State) (m : MgmtReq) (op : Nat) (body : List Byte) : State := mgmtReply s m.link op 0 m.seq body

/-! ### Operators, policy, addresses -/

/-- Some slot of an operator table holds ADMIN (R376). -/
def keepsAdmin (t : Table Operator) : Bool := t.any (fun p => decide (p.2.roles &&& roleAdmin ≠ 0))

/-- The operator table replaced; the links of the slot end after the reply (R410, R423). -/
def changeSlot (s : State) (m : MgmtReq) (op slot : Nat) (t : Table Operator) : State :=
  endLinks (okReply { s with nv := { s.nv with operators := t } } m op []) (fun _ l => l.authed && decide (l.slot = slot))

/-- ENROL: a slot's key and roles are replaced (R412). On a link opened with slot 0xFF only the first enrolment of slot 0
with ADMIN and the link's own key is accepted (R376, R409). -/
def execEnrol (m : MgmtReq) (slot roles : Nat) (pubkey : List Byte) (s : State) : Res :=
  let next (s : State) : Table Operator := tset s.nv.operators slot { key := pubkey, roles := roles }
  request m 0x03
    (fun s l => if l.slot = 0xFF then
        decide (s.nv.operators = []) && decide (slot = 0) && decide (roles &&& roleAdmin ≠ 0) && decide (pubkey = l.key)
      else holdsRole s l roleAdmin)
    (fun s => notVermilion.contains s.dev)
    (fun s => decide (slot < 8) && decide (roles < 32) && decide (pubkey.length = 64) && keepsAdmin (next s))
    (fun s => changeSlot s m 0x03 slot (next s)) s

/-- REMOVE: a slot is cleared, unless no slot would keep ADMIN (R412). -/
def execRemove (m : MgmtReq) (slot : Nat) (s : State) : Res :=
  plainRequest m 0x04 roleAdmin notVermilion (fun _ => true)
    (fun s => decide (slot < 8) && keepsAdmin (tdel s.nv.operators slot))
    (fun s => changeSlot s m 0x04 slot (tdel s.nv.operators slot)) s

/-- SET_POLICY: REQUIRE_SIGNED, from the next COMMIT on (R412). -/
def execSetPolicy (m : MgmtReq) (requireSigned : Bool) (s : State) : Res :=
  plainRequest m 0x05 roleAdmin notVermilion (fun _ => true) (fun _ => true)
    (fun s => okReply { s with nv := { s.nv with requireSigned := requireSigned } } m 0x05 []) s

/-- SET_NET: Lantern's global addresses; every link ends after the reply (R407, R412). -/
def execSetNet (m : MgmtReq) (ipv4 ipv6 : Nat) (s : State) : Res :=
  plainRequest m 0x06 roleAdmin notVermilion (fun _ => true) (fun _ => decide (ipv4 < 2 ^ 32) && decide (ipv6 < 2 ^ 128))
    (fun s => endLinks (okReply { s with nv := { s.nv with ipv4 := ipv4, ipv6 := ipv6 } } m 0x06 []) (fun _ _ => true)) s

/-! ### Registers and staging -/

/-- REG_READ over the management path (R69, R72, R412). -/
def execRegRead (m : MgmtReq) (addr : Nat) (s : State) : Res :=
  plainRequest m 0x10 (roleObserve + roleMaintain) allStates (fun _ => true) (fun _ => decide (addr < 2 ^ 32))
    (fun s =>
      let r := access s .mgmt false addr 8 0
      mgmtReply r.1 m.link 0x10 r.2.1 m.seq (if r.2.1 = 0 then toLE 8 r.2.2.toNat else [])) s

/-- REG_WRITE over the management path (R69 to R72, R395, R412). -/
def execRegWrite (m : MgmtReq) (addr : Nat) (value : Word) (s : State) : Res :=
  plainRequest m 0x11 roleMaintain allStates (fun _ => true) (fun _ => decide (addr < 2 ^ 32))
    (fun s =>
      let r := access s .mgmt true addr 8 value
      mgmtReply r.1 m.link 0x11 r.2.1 m.seq []) s

/-- A request of an operator with a role, and not a repeated one: the device decides it now (R410, R411). -/
def decidedNow (s : State) (m : MgmtReq) (op mask : Nat) : Bool :=
  laneServed s && m.tagOk && (match tget s.lantern.links m.link with
    | some l => l.authed && !executing s m.link && decide (m.seq = l.seq + 1) && roleHeld s l op mask
    | none => false)

/-- STAGE: 1 to 1,024 bytes staged in Sable (R62, R412). Beside an image in service they are dropped, which LOAD_DROPPED
says whatever state the reply names (R65). -/
def execStage (m : MgmtReq) (offset : Nat) (bytes : List Byte) (s : State) : Res :=
  let s := if decidedNow s m 0x12 roleMaintain && s.img.image.isSome then setFlag s .img 0x20 1 else s
  plainRequest m 0x12 roleMaintain [.sable] (fun _ => true)
    (fun _ => decide (1 ≤ bytes.length) && decide (bytes.length ≤ 1024))
    (fun s =>
      let r := stageOp s offset bytes
      mgmtReply r.1 m.link 0x12 (if r.2 = 0 then 0 else if r.2 = 4 then 5 else 4) m.seq []) s

/-! ### Sensors -/

/-- A sensor of the inventory (R413). -/
def sensorExists (i : Nat) : Bool :=
  decide (i ≤ 8) || (decide (16 ≤ i) && decide (i ≤ 53)) || (decide (64 ≤ i) && decide (i ≤ 72))

/-- Sampling interval of a sensor in µs (R413). -/
def sensorInterval (i : Nat) : Nat := if i < 48 then 1000 else if i < 64 then 10000 else 1000000

/-- Frame of a sample taken now: 0 before the frame timer runs (R414). -/
def sampleFrame (s : State) : Nat := if enabled s .frame then now s else 0

/-- A sample is older than 10 intervals, as far as frames tell (R414). -/
def sampleStale (s : State) (i : Nat) (x : Sample) : Bool :=
  enabled s .frame && decide (10 * sensorInterval i < (now s - x.frame) * periodUs s)

/-- One record of SENSORS (R414). -/
def sensorRecord (s : State) (i : Nat) : List Byte :=
  if sensorExists i = false then toLE 2 i ++ toLE 1 1 ++ zeros 13
  else
    match tget s.lantern.sensors i with
    | none => toLE 2 i ++ toLE 1 2 ++ zeros 13
    | some x =>
      toLE 2 i ++ toLE 1 (if sampleStale s i x then 2 else 0) ++ zeros 1 ++ toLE 4 (twos 32 x.value) ++ toLE 8 x.frame

/-- SENSORS: COUNT records from FIRST (R414). -/
def execSensors (m : MgmtReq) (first count : Nat) (s : State) : Res :=
  plainRequest m 0x13 roleObserve allStates (fun _ => true)
    (fun _ => decide (1 ≤ count) && decide (count ≤ 64) && decide (first + count ≤ 2 ^ 16))
    (fun s => okReply s m 0x13 ((List.range count).flatMap (fun i => sensorRecord s (first + i)))) s

/-- Fault bits of the PMBus STATUS_WORD (R428): every bit but BUSY, OFF and POWER_GOOD#. -/
def pmbusFaults : Nat := 0xF73F

/-- Mean of a list of samples, rounded down. -/
def mean (l : List Int) : Int := if l = [] then 0 else l.foldl (· + ·) 0 / (l.length : Int)

/-- SENSOR_SAMPLE: one sensor is sampled; a regulator value comes with STATUS_WORD, and sensor 53 is Lantern's mean of
sensor 51 over the last 1 s (R413, R428). -/
def execSensorSample (id : Nat) (value : Int) (statusWord : Option Nat) (s : State) : Res :=
  if sensorExists id = false then malformed "sensor"
  else if s.lantern.running = false then .next s
  else
    let s := match statusWord with
      | some w =>
        if 48 ≤ id ∧ id ≤ 52 then
          let s := { s with power := { s.power with statusWord := w % 2 ^ 16 } }
          if w &&& pmbusFaults ≠ 0 then setFlag s .idbus 0x00 3 else s
        else s
      | none => s
    let s := if id = 51 then
        { s with lantern := { s.lantern with powerSamples := (value :: s.lantern.powerSamples).take 100 } }
      else s
    let v := if id = 53 then mean s.lantern.powerSamples else value
    let x : Sample := { value := v, frame := sampleFrame s }
    .next { s with lantern := { s.lantern with sensors := tset s.lantern.sensors id x } }

/-! ### Logs -/

/-- A log entry as the stores hold it: 32 bytes (R401). -/
def entryBytes (e : LogEntry) : List Byte :=
  toLE 8 e.seq ++ toLE 8 e.frame ++ toLE 1 e.cls ++ toLE 1 e.mech ++ toLE 1 e.action ++ toLE 1 e.ctx ++ toLE 2 e.unit ++
  toLE 2 e.entry ++ toLE 8 e.detail

/-- The records of a source of LOG_READ, ascending: number, class, bytes (R415). Summaries have no class. -/
def logRecords (s : State) (source : Nat) : List (Nat × Option Nat × List Byte) :=
  if source = 0 then s.lantern.volatileLog.map (fun e => (e.seq, some e.cls, entryBytes e))
  else if source = 1 then
    s.nv.persist.map (fun r => (r.num, some r.entry.cls, toLE 8 r.num ++ toLE 4 r.boot ++ zeros 4 ++ entryBytes r.entry))
  else
    s.nv.summaries.map (fun r => (r.num, none, toLE 8 r.num ++ toLE 4 r.boot ++ zeros 4 ++ toLE 8 r.incident.first ++
      toLE 8 r.incident.last ++ (List.range 7).flatMap (fun c =>
        toLE 4 (tgetD r.incident.kept (c + 1) 0) ++ toLE 4 (tgetD r.incident.dropped (c + 1) 0))))

/-- Records examined in ascending number until `count` are returned: the number after the last one examined, and those
returned (R415). -/
def examine (classes : Nat) : Nat → Nat → List (Nat × Option Nat × List Byte) → Nat × List (List Byte)
  | _, next, [] => (next, [])
  | 0, next, _ :: _ => (next, [])
  | count + 1, _, (n, c, bs) :: rest =>
    let wanted := match c with
      | some k => classes.testBit k
      | none => true
    if wanted then
      let r := examine classes count (n + 1) rest
      (r.1, bs :: r.2)
    else examine classes (count + 1) (n + 1) rest

/-- Largest COUNT of a source (R415). -/
def logMax (source : Nat) : Nat := if source = 0 then 40 else if source = 1 then 28 else 15

/-- LOG_READ (R415). -/
def execLogRead (m : MgmtReq) (source classes count from_ : Nat) (s : State) : Res :=
  plainRequest m 0x14 roleObserve allStates (fun _ => true)
    (fun _ => decide (source ≤ 2) && decide (classes < 256) && decide (count ≤ logMax source))
    (fun s =>
      let all := logRecords s source
      let oldest := (all.head?.map (·.1)).getD 0
      let r := examine classes count (max from_ oldest) (all.filter (fun x => decide (from_ ≤ x.1)))
      okReply s m 0x14 (toLE 8 oldest ++ toLE 8 r.1 ++ toLE 4 s.nv.boots ++ toLE 2 r.2.length ++ zeros 2 ++ r.2.flatten)) s

/-! ### Wear -/

/-- Spare tiles of a Spire that its retired tiles leave, under the image in service (R399). -/
def sparesLeft (s : State) (i : Image) (p : Nat) : Int :=
  ((i.tiles.filter (fun r => decide (r.role = .spare) && decide (tileSpire r.tile = p))).length : Int) -
  (((List.range 80).filter (fun k => retired s (tileNo p k))).length : Int)

/-- Sample of an indicator (R399): AGEING the largest slowdown in ppm; KEEP_SPARES the largest USED; ARRAY_SPARES the least
spares left in a Spire; FLASH the least SPARE_MIN; REGULATOR the efficiency in hundredths of a percent. None where its
source is absent. -/
def wearOf (s : State) (ind : Nat) : Option Int :=
  let mods := (s.flash.modules.filter (fun p => modUsable p.2)).map (·.2)
  if ind = 1 then
    let l := (List.range 9).filterMap (fun a => (tget s.lantern.sensors (64 + a)).map (·.value))
    if l = [] then none else some (l.foldl max 0)
  else if ind = 2 then some ((List.range 32).foldl (fun x k => max x (fld s (.keep k) 0x38 0 14 : Int)) 0)
  else if ind = 3 then
    s.img.image.map (fun i => (List.range 8).foldl (fun x p => min x (sparesLeft s i p)) (sparesLeft s i 0))
  else if ind = 4 then
    match mods with
    | [] => none
    | x :: rest => some ((rest.foldl (fun n y => min n (spareMin y)) (spareMin x) : Nat) : Int)
  else
    match tget s.lantern.sensors 50, tget s.lantern.sensors 51 with
    | some i, some o => if 0 < i.value then some (10000 * o.value / i.value) else none
    | _, _ => none

/-- History of an indicator: day and sample, oldest first. -/
def wearHistory (s : State) (ind : Nat) : List (Nat × Int) :=
  (s.nv.wear.filter (fun w => decide (w.2.1 = ind))).map (fun w => (w.1, w.2.2))

/-- The regulator's threshold: 3 points below the mean of its first 30 days (R399). -/
def regulatorFloor (h : List (Nat × Int)) : Int :=
  match h with
  | [] => 0
  | p :: _ => mean ((h.filter (fun q => decide (q.1 < p.1 + 30))).map (·.2)) - 300

/-- Threshold of an indicator, and whether its samples rise towards it (R399). -/
def wearThreshold (ind : Nat) (h : List (Nat × Int)) : Int × Bool :=
  if ind = 1 then (30000, true)
  else if ind = 2 then (7372, true)
  else if ind = 5 then (regulatorFloor h, false)
  else (0, false)

/-- An indicator is already at its threshold (R399, R400). -/
def wearReached (s : State) (ind : Nat) (h : List (Nat × Int)) (last : Int) : Bool :=
  let t := wearThreshold ind h
  (if t.2 then decide (t.1 ≤ last) else decide (last ≤ t.1)) ||
  (decide (ind = 2) && (List.range 32).any (fun k => decide (0 < fld s (.keep k) 0x38 28 10))) ||
  (decide (ind = 4) && s.flash.modules.any (fun p => modUsable p.2 && decide (30000 ≤ (peCounts p.2).2.2.2)))

/-- Days from `today` on which the least-squares line through the points first reaches a threshold; none where the line
does not lead to it (R400). The line is y = b + a x with a = A/D, and reaches T at (T n D − Sy D + A Sx) / (n A). -/
def lineReaches (pts : List (Nat × Int)) (t : Int) (rising : Bool) (today : Nat) : Option Nat :=
  let n : Int := pts.length
  let sx : Int := pts.foldl (fun a p => a + p.1) 0
  let sy : Int := pts.foldl (fun a p => a + p.2) 0
  let sxx : Int := pts.foldl (fun a p => a + p.1 * p.1) 0
  let sxy : Int := pts.foldl (fun a p => a + p.1 * p.2) 0
  let d := n * sxx - sx * sx
  let a := n * sxy - sx * sy
  if d ≤ 0 ∨ (if rising then a ≤ 0 else 0 ≤ a) then none
  else
    let num := (t * n * d - sy * d + a * sx) - n * a * today
    let den := n * a
    let days := if 0 < den then -((-num) / den) else -(num / (-den))
    some (min days.toNat 0xFFFE)

/-- Prediction of an indicator in days from `today`: none with fewer than 30 days of history (R400). -/
def wearDays (s : State) (ind today : Nat) : Option Nat :=
  let h := wearHistory s ind
  match h.getLast? with
  | none => none
  | some last =>
    if (asSet (h.map (·.1))).length < 30 then none
    else if wearReached s ind h last.2 then some 0
    else
      let t := wearThreshold ind h
      lineReaches (h.filter (fun p => decide (today < p.1 + 180))) t.1 t.2 today

/-- The earliest prediction with the indicator that sets it (R400). -/
def endOfLifeDate (s : State) (today : Nat) : Option (Nat × Nat) :=
  ([1, 2, 3, 4, 5].filterMap (fun i => (wearDays s i today).map (fun d => (d, i)))).foldl (fun acc p =>
    match acc with
    | none => some p
    | some q => if p.1 < q.1 then some p else some q) none

/-- WEAR_SAMPLE: the indicators are sampled, and the end-of-life date predicted anew (R399, R400). -/
def execWearSample (day : Nat) (s : State) : Res :=
  if s.lantern.running = false then .next s
  else
    let new := [1, 2, 3, 4, 5].filterMap (fun i => (wearOf s i).map (fun v => (day, i, v)))
    let s := { s with nv := { s.nv with wear := s.nv.wear ++ new } }
    let w : Word := match endOfLifeDate s day with
      | some (d, i) => packed [(0, d), (16, i)]
      | none => packed [(0, 0xFFFF)]
    .next (logEntry (setReg s .belfry 0x48 w) 5 0 0 0xFF 0x0600 0xFFFF 0)

/-- One record of the WEAR reply (R412). -/
def wearRecord (s : State) (ind : Nat) : List Byte :=
  match (wearHistory s ind).getLast? with
  | none => zeros 12 ++ toLE 2 0xFFFF ++ zeros 2
  | some last =>
    toLE 8 (twos 64 last.2) ++ toLE 4 last.1 ++ toLE 2 ((wearDays s ind last.1).getD 0xFFFF) ++ zeros 2

/-- WEAR: samples and predictions of the five indicators (R412). -/
def execWear (m : MgmtReq) (s : State) : Res :=
  plainRequest m 0x15 roleObserve allStates (fun _ => true) (fun _ => true)
    (fun s => okReply s m 0x15 ([1, 2, 3, 4, 5].flatMap (wearRecord s))) s

/-! ### Contexts, scrub, leases, tiles -/

/-- GRANT: the grant table's entry of a context (R355, R412). -/
def execGrant (m : MgmtReq) (ctx : Nat) (requireConf : Bool) (mask : Word) (s : State) : Res :=
  plainRequest m 0x20 roleMaintain notVermilion (fun _ => true) (fun _ => decide (ctx < 16))
    (fun s => okReply { s with nv := { s.nv with grants := tsetD s.nv.grants ctx (mask, requireConf) (0, false) } } m 0x20 []) s

/-- CLOSE: an open context enters SLATE at the next boundary (R356, R412). -/
def execClose (m : MgmtReq) (ctx : Nat) (s : State) : Res :=
  plainRequest m 0x21 roleMaintain inUseStates (fun _ => true) (fun s => decide (ctx < 16) && ctxOpen s ctx)
    (fun s =>
      match ctxAt s ctx with
      | some k => okReply (setCtx s ctx { k with closing := true }) m 0x21 []
      | none => okReply s m 0x21 []) s

/-- SCRUB: a whole-device scrub starts; the reply leaves when the device enters Sable (R361, R412). -/
def execScrub (m : MgmtReq) (s : State) : Res :=
  plainRequest m 0x22 roleMaintain beforeSlate testsDone (fun _ => true) (fun s => startScrub s (m.link, m.seq)) s

/-- LEASE with ACTION 1: REQUEST goes to the neighbour, and the reply waits for its answer (R346, R412). With all 16 leases
held no request can be formed, which gives STATE. -/
def execMgmtLeaseRequest (m : MgmtReq) (neighbour granules mbps : Nat) (s : State) : Res :=
  plainRequest m 0x23 roleMaintain inUseStates (fun s => (freeLease s).isSome)
    (fun _ => decide (neighbour < 16) && decide (granules < 2 ^ 64) && decide (mbps < 2 ^ 64))
    (fun s =>
      let j := (freeLease s).getD 0
      sendLease { s with tier := { s.tier with asked := s.tier.asked ++ [(m.link, m.seq, neighbour, j)] } }
        neighbour true 1 j granules mbps []) s

/-- LEASE with ACTION 4: RELEASE goes to the neighbour, and the granules still homed on the lease are lost (R275, R276,
R346, R412). -/
def execMgmtLeaseRelease (m : MgmtReq) (neighbour lease : Nat) (s : State) : Res :=
  plainRequest m 0x23 roleMaintain inUseStates (fun _ => true)
    (fun s => decide (neighbour < 16) && (leaseOf s { neighbour := neighbour, lease := lease }).isSome)
    (fun s =>
      let t := sendLease s neighbour true 4 lease 0 0 []
      let t := match leaseOf s { neighbour := neighbour, lease := lease } with
        | some (j, _) => loseLease t j
        | none => t
      okReply t m 0x23 (toLE 1 0 ++ toLE 4 lease)) s

/-- The tile is ELASTIC (R412). -/
def isElastic (s : State) (t : Nat) : Bool := decide (t < 640) && decide ((tileAt s t).role = .elastic)

/-- HALT: the tile's Elastic task is pre-empted (R137, R412). A task that the power sequencer has pre-empted stays so until
RESUME. -/
def execHalt (m : MgmtReq) (t : Nat) (s : State) : Res :=
  plainRequest m 0x24 roleMaintain inUseStates (fun _ => true) (fun s => isElastic s t)
    (fun s =>
      let s := if elasticRunning (tileAt s t) then preempt s t else s
      okReply { s with power := { s.power with preempted := s.power.preempted.filter (· ≠ t) } } m 0x24 []) s

/-- RESUME: a halted tile's task runs on (R137, R412); one that the power sequencer holds waits for it. -/
def execResume (m : MgmtReq) (t : Nat) (s : State) : Res :=
  plainRequest m 0x24 roleMaintain inUseStates (fun _ => true) (fun s => isElastic s t)
    (fun s =>
      let s := if (tileAt s t).run = .preempted ∧ !(s.power.preempted.contains t) then resumeTask s t else s
      okReply s m 0x24 []) s

/-! ### Resets -/

/-- A reset ordered over the management path: the reply is sent, then the device restarts. During the wait of a brownout or
a trip the cause stays that of the wait (R437, R452). -/
def orderedReset (s : State) (cause : Nat) : State := resetOp s (s.power.wait.getD cause)

/-- WARM_MGMT: RESET with KIND 1 (R412, R437). -/
def execWarmMgmt (m : MgmtReq) (s : State) : Res :=
  plainRequest m 0x25 roleMaintain allStates (fun _ => true) (fun _ => true)
    (fun s => orderedReset (okReply s m 0x25 []) 2) s

/-- FIRMWARE: RESET with KIND 2 (R412, R437). -/
def execFirmware (m : MgmtReq) (s : State) : Res :=
  plainRequest m 0x25 roleMaintain allStates (fun _ => true) (fun _ => true)
    (fun s => orderedReset (okReply s m 0x25 []) 3) s

/-! ### Firmware update -/

/-- The slot that firmware operations act on: the inactive one, or in the recovery loader the one that the boot flags name
active (R417, R422). -/
def fwTarget (s : State) : Bool := if s.lantern.recovery then s.nv.activeB else !s.nv.activeB

/-- The slot that firmware operations act on. -/
def targetSlot (s : State) : FwSlot := fwSlot s (fwTarget s)

/-- FW_BEGIN: the slot is erased and WRITING, and the link takes the update lock (R416, R417). -/
def execFwBegin (m : MgmtReq) (bytes : Nat) (s : State) : Res :=
  plainRequest m 0x30 roleFirmware allStates (fun s => s.lantern.recovery || !s.nv.trial)
    (fun _ => decide (256 ≤ bytes) && decide (bytes ≤ 25165824))
    (fun s =>
      let s := setFwSlot s (fwTarget s) { bytes := [], length := bytes, status := .writing }
      okReply { s with lantern := { s.lantern with lock := some m.link } } m 0x30 []) s

/-- FW_WRITE: bytes programmed into the slot that FW_BEGIN opened (R417). -/
def execFwWrite (m : MgmtReq) (offset : Nat) (bytes : List Byte) (s : State) : Res :=
  plainRequest m 0x31 roleFirmware allStates (fun s => decide ((targetSlot s).status = .writing))
    (fun s => decide (1 ≤ bytes.length) && decide (bytes.length ≤ 1024) &&
      decide (offset + bytes.length ≤ (targetSlot s).length))
    (fun s =>
      let f := targetSlot s
      okReply (setFwSlot s (fwTarget s) { f with bytes := memWrite f.bytes offset bytes }) m 0x31 []) s

/-- FW_VERIFY: the checks of the boot ROM and of the length; the slot is VERIFIED or FAILED (R418). -/
def execFwVerify (m : MgmtReq) (s : State) : Res :=
  plainRequest m 0x32 roleFirmware allStates (fun _ => true) (fun _ => true)
    (fun s =>
      let f := targetSlot s
      let c := bundleCheck s f (some f.length)
      let s := setFwSlot s (fwTarget s) { f with status := if c = 0 then .verified else .failed }
      if c = 0 then okReply s m 0x32 [] else mgmtReply s m.link 0x32 7 m.seq (toLE 1 c)) s

/-- FW_SWITCH and FW_REVERT may run: the slot is VERIFIED, no context is open and no COMMIT runs (R419, R420). -/
def switchReady (s : State) : Bool :=
  decide ((targetSlot s).status = .verified) && decide (s.sec.ctxs = []) && decide (s.img.phase ≠ .checking) &&
  decide (s.img.phase ≠ .applying)

/-- Steps 2 to 4 of R419: admission stops, the image is removed, the device is in Sable with BEACON REASON 1, the reply
leaves and the firmware restarts. -/
def fwRestart (s : State) (m : MgmtReq) (op : Nat) : State :=
  let s := if s.img.image.isSome then removeImage s else s
  let s := sendBeacons { s with reason := 1 }
  orderedReset (okReply s m op []) 3

/-- FW_SWITCH: the boot flags name the slot active on TRIAL, and the device restarts (R419, R422). -/
def execFwSwitch (m : MgmtReq) (s : State) : Res :=
  plainRequest m 0x33 roleFirmware beforeSlate switchReady (fun _ => true)
    (fun s => fwRestart { s with nv := { s.nv with activeB := fwTarget s, trial := true, trialBooted := false } } m 0x33) s

/-- FW_CONFIRM: the anti-rollback counter rises to the bundle's SVN and TRIAL clears (R374, R420). -/
def execFwConfirm (m : MgmtReq) (s : State) : Res :=
  plainRequest m 0x34 roleFirmware notVermilion (fun s => s.nv.trial && s.sec.boot.trial && s.sec.boot.served) (fun _ => true)
    (fun s => okReply { s with nv := { s.nv with counter := max s.nv.counter s.sec.boot.svn, trial := false,
                                                 trialBooted := false } } m 0x34 []) s

/-- FW_REVERT: the trial is abandoned for the other slot, and the device restarts (R420). -/
def execFwRevert (m : MgmtReq) (s : State) : Res :=
  plainRequest m 0x35 roleFirmware beforeSlate (fun s => s.nv.trial && switchReady s) (fun _ => true)
    (fun s => fwRestart { s with nv := { s.nv with activeB := !s.nv.activeB, trial := false, trialBooted := false } } m 0x35) s

/-- Code of a slot's status (R421). -/
def slotCode : SlotStatus → Nat
  | .empty => 0 | .writing => 1 | .verified => 2 | .failed => 3

/-- FW_STATUS (R421). -/
def execFwStatus (m : MgmtReq) (s : State) : Res :=
  plainRequest m 0x36 (roleObserve + roleFirmware) allStates (fun _ => true) (fun _ => true)
    (fun s =>
      let f := targetSlot s
      let flags := flag s.nv.trial + 2 * flag s.sec.boot.fellBack + 4 * flag s.lantern.lock.isSome + 8 * flag s.sec.boot.served
      okReply s m 0x36 (toLE 1 (flag s.nv.activeB) ++ toLE 1 flags ++ toLE 1 (slotCode f.status) ++ zeros 1 ++
        toLE 4 s.nv.counter ++ toLE 4 s.sec.boot.svn ++
        (if f.status = .verified then memRead f.bytes 0x0C 4 else zeros 4) ++ memRead f.bytes 0x10 4 ++
        memRead f.bytes 0x14 4)) s

/-! ### Lane events -/

/-- LINK_TIMEOUT: 300 s without a valid request end the link (R410). -/
def execLinkTimeout (link : Nat) (s : State) : Res :=
  if (tget s.lantern.links link).isNone then .next s
  else .next (endLinks s (fun n _ => decide (n = link)))

/-- MANAGEMENT_LANE_DOWN: service, RDY and FLT_N are unaffected, and links run on toward their timeout (R423). -/
def execManagementLaneDown (s : State) : Res :=
  if s.lantern.laneUp then .next { s with lantern := { s.lantern with laneUp := false } } else .next s

/-- MANAGEMENT_LANE_UP: after a loss the lane serves packets again (R407). -/
def execManagementLaneUp (s : State) : Res :=
  if s.lantern.laneUp ∨ (s.lantern.running || s.lantern.recovery) = false then .next s
  else .next { s with lantern := { s.lantern with laneUp := true } }

end Sys2Proof.Machine
end

