-- ==== Sys2Proof/Machine/SelfTest.lean ====
section
/-! DEFINITION. The rolling self-test of Belfry (chapter 15, R397, R398), with the selection network that it compares with
the cores (R157). -/

namespace Sys2Proof.Machine

/-- The reaction to an item that fails (R397, R398). -/
def selfTestFail (s : State) : TestItem → State
  | .sparePe t row col =>
    let x := tileAt s t
    latent (setTile s t { x with badPes := x.badPes ++ [(row, col)] }) 0x01 t 0
  | .tileComparator t mech => failTile (latent s mech t 0) t
  | .selectionNetwork t _ _ _ _ _ =>
    let x := tileAt s t
    latent (setFlag (setTile s t { x with netBad := true }) (.selnet t) 0x08 2) 0x03 t 0
  | .keepSpareRow k bank _ =>
    let key := 512 * k + bank
    let s := { s with tier := { s.tier with sparesUsed := tset s.tier.sparesUsed key (tgetD s.tier.sparesUsed key 0 + 1) } }
    latent (setFld s (.keep k) 0x38 0 14 (min 8192 (fld s (.keep k) 0x38 0 14 + 1))) 0x05 (0x0400 + k) 0
  | .linkCrc u =>
    match u with
    | .tile t => failTile (latent s 0x09 t 0) t
    | _ => latentVermilion s 0x09 (unitCode u)
  | .keepChecker k mech => latentVermilion s mech (0x0400 + k)
  | .domeChecker mech => latentVermilion s mech 0x0600
  | .heartbeatMonitor u => latentVermilion s 0x0A (unitCode u)
  | .auditUnit => latentVermilion s 0x0D 0x0600
  | .belfryHalf => latentVermilion s 0x0C 0x0600
  | .fltDriver => latentVermilion s 0x0C 0x0600
  | .rdyDriver => latent s 0x0C 0x0600 0

/-- The item names units that the device has. -/
def itemExists : TestItem → Bool
  | .sparePe t row col => decide (t < 640) && decide (row < 132) && decide (col < 132)
  | .tileComparator t mech => decide (t < 640) && decide (mech < 15)
  | .selectionNetwork t keyType _ k keys _ =>
    decide (t < 640) && decide (keyType ≤ 2) && (decide (k = 8) || decide (k = 64)) && keys.all (fun c => decide (c < 2 ^ 32))
  | .keepSpareRow k bank _ => decide (k < 32) && decide (bank < 512)
  | .linkCrc u => unitExists u
  | .keepChecker k mech => decide (k < 32) && decide (mech < 15)
  | .domeChecker mech => decide (mech < 15)
  | .heartbeatMonitor u => unitExists u
  | _ => true

/-- An item as the pass counts it: a network is one item whatever the keys of its test. -/
def itemKey : TestItem → TestItem
  | .selectionNetwork t _ _ _ _ _ => .selectionNetwork t 0 false 8 [] []
  | i => i

/-- The network's selection agrees with the cores' (R157); other items report their own outcome. -/
def itemAgrees : TestItem → Bool
  | .selectionNetwork _ keyType bottom k keys got => decide (got = networkRecord keyType bottom k keys)
  | _ => true

/-- A test that runs a selection network counts its selection (R157, R158). -/
def countRun (s : State) : TestItem → State
  | .selectionNetwork t _ _ _ _ _ => bump s (.selnet t) 0x10 1
  | _ => s

/-- SELF_TEST: the rolling self-test tests its next item (R397, R398). `maxAgeS` is the age of the least recently tested
item, `passDone` that this item ends a complete cycle (R405). -/
def execSelfTest (item : TestItem) (ok : Bool) (maxAgeS : Nat) (passDone : Bool) (s : State) : Res :=
  if itemExists item = false then malformed "item"
  else
    let s := setFld s .belfry 0x40 32 16 (min maxAgeS 65535)
    let s := if passDone then setFld s .belfry 0x40 0 32 (min (fld s .belfry 0x40 0 32 + 1) (2 ^ 32 - 1)) else s
    let s := { s with belfry := { s.belfry with
      tested := if passDone then [] else if s.belfry.tested.contains (itemKey item) then s.belfry.tested
                else s.belfry.tested ++ [itemKey item] } }
    let s := countRun s item
    .next (if ok && itemAgrees item then s else selfTestFail s item)

end Sys2Proof.Machine
end

