-- ==== Sys2Proof/Machine/Dispatch.lean ====
section
/-! DEFINITION. The dispatch of the commands: one arm per constructor of `Instr`. -/

namespace Sys2Proof.Machine

/-- The effect of a command on everything but the queue. -/
def exec (i : Instr) (s : State) : Host.Outcome State Fault Refusal :=
  match i with
  | .frameBoundary b => Sys2Proof.Machine.execFrameBoundary b s
  | .referenceAcquired refNs => Sys2Proof.Machine.execReferenceAcquired refNs s
  | .lockAcquired => Sys2Proof.Machine.execLockAcquired s
  | .refLost => Sys2Proof.Machine.execRefLost s
  | .ppsEdge stepNs => Sys2Proof.Machine.execPpsEdge stepNs s
  | .announce a => Sys2Proof.Machine.execAnnounce a s
  | .sync p => Sys2Proof.Machine.execSync p s
  | .followUp p => Sys2Proof.Machine.execFollowUp p s
  | .delayResp p => Sys2Proof.Machine.execDelayResp p s
  | .enable path value => Sys2Proof.Machine.execEnable path value s
  | .commit path c => Sys2Proof.Machine.execCommit path c s
  | .leaveSable => Sys2Proof.Machine.execLeaveSable s
  | .discard path => Sys2Proof.Machine.execDiscard path s
  | .unload path => Sys2Proof.Machine.execUnload path s
  | .registerWrite path addr size value => Sys2Proof.Machine.execRegisterWrite path addr size value s
  | .configParitySweep bad => Sys2Proof.Machine.execConfigParitySweep bad s
  | .matmul t p b indep => Sys2Proof.Machine.execMatmul t p b indep s
  | .matmulPassComplete t errs laneBad => Sys2Proof.Machine.execMatmulPassComplete t errs laneBad s
  | .quantise t p b laneBad => Sys2Proof.Machine.execQuantise t p b laneBad s
  | .scaleLoad t base n b => Sys2Proof.Machine.execScaleLoad t base n b s
  | .vecAdd t p b => Sys2Proof.Machine.execVecAdd t p b s
  | .vecSub t p b => Sys2Proof.Machine.execVecSub t p b s
  | .vecMul t p b => Sys2Proof.Machine.execVecMul t p b s
  | .vecFma t p b => Sys2Proof.Machine.execVecFma t p b s
  | .vecMax t p b => Sys2Proof.Machine.execVecMax t p b s
  | .vecMin t p b => Sys2Proof.Machine.execVecMin t p b s
  | .vecConvert t p b => Sys2Proof.Machine.execVecConvert t p b s
  | .vecExp t p b => Sys2Proof.Machine.execVecExp t p b s
  | .vecRecip t p b => Sys2Proof.Machine.execVecRecip t p b s
  | .vecRsqrt t p b => Sys2Proof.Machine.execVecRsqrt t p b s
  | .vecTanh t p b => Sys2Proof.Machine.execVecTanh t p b s
  | .vecGeluTanh t p b => Sys2Proof.Machine.execVecGeluTanh t p b s
  | .reduceSum t p b => Sys2Proof.Machine.execReduceSum t p b s
  | .reduceMax t p b => Sys2Proof.Machine.execReduceMax t p b s
  | .reduceMin t p b => Sys2Proof.Machine.execReduceMin t p b s
  | .select t p b checkBad => Sys2Proof.Machine.execSelect t p b checkBad s
  | .merge t p b checkBad => Sys2Proof.Machine.execMerge t p b checkBad s
  | .gather t p b => Sys2Proof.Machine.execGather t p b s
  | .update t p b => Sys2Proof.Machine.execUpdate t p b s
  | .unique t p b => Sys2Proof.Machine.execUnique t p b s
  | .streamStart t idx => Sys2Proof.Machine.execStreamStart t idx s
  | .streamWait t idx => Sys2Proof.Machine.execStreamWait t idx s
  | .streamComplete t idx => Sys2Proof.Machine.execStreamComplete t idx s
  | .streamFault t idx cause addr => Sys2Proof.Machine.execStreamFault t idx cause addr s
  | .lineFill s_ line tiles ecc => Sys2Proof.Machine.execLineFill s_ line tiles ecc s
  | .send t bytes route rank b => Sys2Proof.Machine.execSend t bytes route rank b s
  | .sendAfterCredit t => Sys2Proof.Machine.execSendAfterCredit t s
  | .routeRows t route rowBytes rows b => Sys2Proof.Machine.execRouteRows t route rowBytes rows b s
  | .loop t trip => Sys2Proof.Machine.execLoop t trip s
  | .endLoop t => Sys2Proof.Machine.execEndLoop t s
  | .exitIf t test fmt scope threshold b => Sys2Proof.Machine.execExitIf t test fmt scope threshold b s
  | .emit t bytes b => Sys2Proof.Machine.execEmit t bytes b s
  | .taskComplete t => Sys2Proof.Machine.execTaskComplete t s
  | .contextSwitchComplete t => Sys2Proof.Machine.execContextSwitchComplete t s
  | .delete session tag ref passages => Sys2Proof.Machine.execDelete session tag ref passages s
  | .filterWrite session tag ref filter offset bytes => Sys2Proof.Machine.execFilterWrite session tag ref filter offset bytes s
  | .publish session tag ref => Sys2Proof.Machine.execPublish session tag ref s
  | .changeApplied ref => Sys2Proof.Machine.execChangeApplied ref s
  | .edgeRepair ref => Sys2Proof.Machine.execEdgeRepair ref s
  | .deltaApply keep => Sys2Proof.Machine.execDeltaApply keep s
  | .replicationWindow => Sys2Proof.Machine.execReplicationWindow s
  | .tokenize j laneBad => Sys2Proof.Machine.execTokenize j laneBad s
  | .detokenize j laneBad => Sys2Proof.Machine.execDetokenize j laneBad s
  | .swapComplete region reads => Sys2Proof.Machine.execSwapComplete region reads s
  | .reqtabInspect path value => Sys2Proof.Machine.execReqtabInspect path value s
  | .tierMoveCmd path value => Sys2Proof.Machine.execTierMoveCmd path value s
  | .recallNoticeEnd lease => Sys2Proof.Machine.execRecallNoticeEnd lease s
  | .arbitrationWindow keep reqs => Sys2Proof.Machine.execArbitrationWindow keep reqs s
  | .patrolScrub keep q0 q1 q2 q3 => Sys2Proof.Machine.execPatrolScrub keep q0 q1 q2 q3 s
  | .rowRepair keep bank row => Sys2Proof.Machine.execRowRepair keep bank row s
  | .read c => Sys2Proof.Machine.execRead c s
  | .write c data => Sys2Proof.Machine.execWrite c data s
  | .trim c => Sys2Proof.Machine.execTrim c s
  | .flush c => Sys2Proof.Machine.execFlush c s
  | .identify c => Sys2Proof.Machine.execIdentify c s
  | .nsCreate c => Sys2Proof.Machine.execNsCreate c s
  | .nsDelete c => Sys2Proof.Machine.execNsDelete c s
  | .nsDeleteEnd nsid => Sys2Proof.Machine.execNsDeleteEnd nsid s
  | .abort c => Sys2Proof.Machine.execAbort c s
  | .getLog c => Sys2Proof.Machine.execGetLog c s
  | .setPower c => Sys2Proof.Machine.execSetPower c s
  | .mediaReadComplete queue tag failAt => Sys2Proof.Machine.execMediaReadComplete queue tag failAt s
  | .poolReadComplete t idx failed lateLanding => Sys2Proof.Machine.execPoolReadComplete t idx failed lateLanding s
  | .granuleProgramComplete queue tag granule ok => Sys2Proof.Machine.execGranuleProgramComplete queue tag granule ok s
  | .blockEraseComplete m plane block ok => Sys2Proof.Machine.execBlockEraseComplete m plane block ok s
  | .foldStart m plane cls => Sys2Proof.Machine.execFoldStart m plane cls s
  | .foldCommit m plane => Sys2Proof.Machine.execFoldCommit m plane s
  | .garbageCollection m plane => Sys2Proof.Machine.execGarbageCollection m plane s
  | .checkpoint m => Sys2Proof.Machine.execCheckpoint m s
  | .heatHalving m => Sys2Proof.Machine.execHeatHalving m s
  | .idleTimer m level => Sys2Proof.Machine.execIdleTimer m level s
  | .moduleWake m => Sys2Proof.Machine.execModuleWake m s
  | .moduleLost m => Sys2Proof.Machine.execModuleLost m s
  | .flashRestoreComplete m => Sys2Proof.Machine.execFlashRestoreComplete m s
  | .macEnable value => Sys2Proof.Machine.execMacEnable value s
  | .linkUp => Sys2Proof.Machine.execLinkUp s
  | .linkDown => Sys2Proof.Machine.execLinkDown s
  | .arpRequest target senderMac senderIp => Sys2Proof.Machine.execArpRequest target senderMac senderIp s
  | .neighborSolicitation target senderMac => Sys2Proof.Machine.execNeighborSolicitation target senderMac s
  | .data p => Sys2Proof.Machine.execData p s
  | .ack p => Sys2Proof.Machine.execAck p s
  | .openSession endpoint ce header wire => Sys2Proof.Machine.execOpen endpoint ce header wire s
  | .openReply endpoint ce header wire => Sys2Proof.Machine.execOpenReply endpoint ce header wire s
  | .closePacket p => Sys2Proof.Machine.execClosePacket p s
  | .neighbourOpen endpoint => Sys2Proof.Machine.execNeighbourOpen endpoint s
  | .ackDelay session queue => Sys2Proof.Machine.execAckDelay session queue s
  | .rtoExpiry session queue seq => Sys2Proof.Machine.execRtoExpiry session queue seq s
  | .linkHoldExpiry session => Sys2Proof.Machine.execLinkHoldExpiry session s
  | .rateIncrease session => Sys2Proof.Machine.execRateIncrease session s
  | .beacon => Sys2Proof.Machine.execBeacon s
  | .openContext session tag ctx => Sys2Proof.Machine.execOpenContext session tag ctx s
  | .closeContext session tag ctx => Sys2Proof.Machine.execCloseContext session tag ctx s
  | .bindQueue session tag ctx queue => Sys2Proof.Machine.execBindQueue session tag ctx queue s
  | .submit session queue tag b => Sys2Proof.Machine.execSubmit session queue tag b s
  | .loadStructure session tag offset bytes => Sys2Proof.Machine.execLoadStructure session tag offset bytes s
  | .loadModel session tag ref offset bytes => Sys2Proof.Machine.execLoadModel session tag ref offset bytes s
  | .loadIndex session tag ref offset bytes => Sys2Proof.Machine.execLoadIndex session tag ref offset bytes s
  | .loadVocabulary session tag ref offset bytes => Sys2Proof.Machine.execLoadVocabulary session tag ref offset bytes s
  | .regWindowRead session tag addr => Sys2Proof.Machine.execRegWindowRead session tag addr s
  | .regWindowWrite session tag addr value => Sys2Proof.Machine.execRegWindowWrite session tag addr value s
  | .delta session tag ds => Sys2Proof.Machine.execDelta session tag ds s
  | .deltaAck session table seq => Sys2Proof.Machine.execDeltaAck session table seq s
  | .leaseRequest l granules mbps => Sys2Proof.Machine.execLeaseRequest l granules mbps s
  | .leaseGrant l granules mbps => Sys2Proof.Machine.execLeaseGrant l granules mbps s
  | .leaseDeny l => Sys2Proof.Machine.execLeaseDeny l s
  | .leaseRelease l => Sys2Proof.Machine.execLeaseRelease l s
  | .leaseRecall l noticeMs => Sys2Proof.Machine.execLeaseRecall l noticeMs s
  | .leaseEnd l => Sys2Proof.Machine.execLeaseEnd l s
  | .leaseRead l addr ctx bytes => Sys2Proof.Machine.execLeaseRead l addr ctx bytes s
  | .leaseData l addr ctx bytes => Sys2Proof.Machine.execLeaseData l addr ctx bytes s
  | .leaseWrite l addr bytes => Sys2Proof.Machine.execLeaseWrite l addr bytes s
  | .leaseFail l addr => Sys2Proof.Machine.execLeaseFail l addr s
  | .getVersion session tag => Sys2Proof.Machine.execGetVersion session tag s
  | .getCapabilities session tag => Sys2Proof.Machine.execGetCapabilities session tag s
  | .negotiateAlgorithms session tag offersAll => Sys2Proof.Machine.execNegotiateAlgorithms session tag offersAll s
  | .getDigests session tag => Sys2Proof.Machine.execGetDigests session tag s
  | .getCertificate session tag slot offset length => Sys2Proof.Machine.execGetCertificate session tag slot offset length s
  | .challenge session tag slot measType => Sys2Proof.Machine.execChallenge session tag slot measType s
  | .getMeasurements session tag index signed => Sys2Proof.Machine.execGetMeasurements session tag index signed s
  | .keyExchange session tag => Sys2Proof.Machine.execKeyExchange session tag s
  | .finish session tag verifyOk => Sys2Proof.Machine.execFinish session tag verifyOk s
  | .orphanTimeout ctx => Sys2Proof.Machine.execOrphanTimeout ctx s
  | .contextScrubComplete ctx => Sys2Proof.Machine.execContextScrubComplete ctx s
  | .wholeDeviceScrubComplete => Sys2Proof.Machine.execWholeDeviceScrubComplete s
  | .linkCrc u ownPort twice => Sys2Proof.Machine.execLinkCrc u ownPort twice s
  | .lockstep => Sys2Proof.Machine.execLockstep s
  | .belfryHalfHeartbeat missing => Sys2Proof.Machine.execBelfryHalfHeartbeat missing s
  | .audit upset => Sys2Proof.Machine.execAudit upset s
  | .fltNMinimumEnd => Sys2Proof.Machine.execFltNMinimumEnd s
  | .belfryAck value => Sys2Proof.Machine.execBelfryAck value s
  | .selfTest item ok maxAgeS passDone => Sys2Proof.Machine.execSelfTest item ok maxAgeS passDone s
  | .wearSample day => Sys2Proof.Machine.execWearSample day s
  | .incidentEnd => Sys2Proof.Machine.execIncidentEnd s
  | .hello seqZero nonce => Sys2Proof.Machine.execHello seqZero nonce s
  | .auth a => Sys2Proof.Machine.execAuth a s
  | .enrol m slot roles pubkey => Sys2Proof.Machine.execEnrol m slot roles pubkey s
  | .remove m slot => Sys2Proof.Machine.execRemove m slot s
  | .setPolicy m requireSigned => Sys2Proof.Machine.execSetPolicy m requireSigned s
  | .setNet m ipv4 ipv6 => Sys2Proof.Machine.execSetNet m ipv4 ipv6 s
  | .regRead m addr => Sys2Proof.Machine.execRegRead m addr s
  | .regWrite m addr value => Sys2Proof.Machine.execRegWrite m addr value s
  | .stage m offset bytes => Sys2Proof.Machine.execStage m offset bytes s
  | .sensors m first count => Sys2Proof.Machine.execSensors m first count s
  | .logRead m source classes count from_ => Sys2Proof.Machine.execLogRead m source classes count from_ s
  | .wear m => Sys2Proof.Machine.execWear m s
  | .grant m ctx requireConf mask => Sys2Proof.Machine.execGrant m ctx requireConf mask s
  | .close m ctx => Sys2Proof.Machine.execClose m ctx s
  | .scrub m => Sys2Proof.Machine.execScrub m s
  | .mgmtLeaseRequest m neighbour granules mbps => Sys2Proof.Machine.execMgmtLeaseRequest m neighbour granules mbps s
  | .mgmtLeaseRelease m neighbour lease => Sys2Proof.Machine.execMgmtLeaseRelease m neighbour lease s
  | .leaseReplyTimeout => Sys2Proof.Machine.execLeaseReplyTimeout s
  | .halt m t => Sys2Proof.Machine.execHalt m t s
  | .resume m t => Sys2Proof.Machine.execResume m t s
  | .warmMgmt m => Sys2Proof.Machine.execWarmMgmt m s
  | .firmware m => Sys2Proof.Machine.execFirmware m s
  | .fwBegin m bytes => Sys2Proof.Machine.execFwBegin m bytes s
  | .fwWrite m offset bytes => Sys2Proof.Machine.execFwWrite m offset bytes s
  | .fwVerify m => Sys2Proof.Machine.execFwVerify m s
  | .fwSwitch m => Sys2Proof.Machine.execFwSwitch m s
  | .fwConfirm m => Sys2Proof.Machine.execFwConfirm m s
  | .fwRevert m => Sys2Proof.Machine.execFwRevert m s
  | .fwStatus m => Sys2Proof.Machine.execFwStatus m s
  | .linkTimeout link => Sys2Proof.Machine.execLinkTimeout link s
  | .sensorSample id value statusWord => Sys2Proof.Machine.execSensorSample id value statusWord s
  | .powerOn => Sys2Proof.Machine.execPowerOn s
  | .warmPin released => Sys2Proof.Machine.execWarmPin released s
  | .startUp i_ => Sys2Proof.Machine.execStartUp i_ s
  | .vrPgGood i_ => Sys2Proof.Machine.execVrPgGood i_ s
  | .vrPgTimeout => Sys2Proof.Machine.execVrPgTimeout s
  | .vrPgFall longUs => Sys2Proof.Machine.execVrPgFall longUs s
  | .brownout => Sys2Proof.Machine.execBrownout s
  | .thermalTrip sensors => Sys2Proof.Machine.execThermalTrip sensors s
  | .thermal => Sys2Proof.Machine.execThermal s
  | .voutStep marginOk => Sys2Proof.Machine.execVoutStep marginOk s
  | .throttleEvaluation => Sys2Proof.Machine.execThrottleEvaluation s
  | .peakPowerWindow estimates => Sys2Proof.Machine.execPeakPowerWindow estimates s
  | .wakeStepRelease => Sys2Proof.Machine.execWakeStepRelease s
  | .pwrseqLimits value => Sys2Proof.Machine.execPwrseqLimits value s
  | .powerDown => Sys2Proof.Machine.execPowerDown s
  | .delayReq seq sentNs => Sys2Proof.Machine.execDelayReq seq sentNs s
  | .managementLaneDown => Sys2Proof.Machine.execManagementLaneDown s
  | .managementLaneUp => Sys2Proof.Machine.execManagementLaneUp s
  | .receiveError e => Sys2Proof.Machine.execReceiveError e s

end Sys2Proof.Machine
end

