-- ==== Sys2Proof/Safety.lean ====
section
/-! DEFINITION. The terms in which claims about the block are stated: a command that takes effect, registers changed
and left alone, flags and counters, a task that can go on, and the invariants that every step keeps. -/

namespace Sys2Proof.Machine

/-- Command `c` takes effect in state `s` and leaves state `t`. -/
def Does (c : Instr) (s t : State) : Prop := exec c s = .next t

/-- Command `c` completes in state `s`: it answers a next state. -/
def Completes (c : Instr) (s : State) : Prop := ∃ t, exec c s = .next t

/-- Every register outside the addresses listed holds what it held. -/
def RegsBut (l : List Nat) (s t : State) : Prop := ∀ a, a ∉ l → tget t.regs a = tget s.regs a

/-- Flag `i` of a register is set. -/
def FlagUp (s : State) (b : Blk) (off i : Nat) : Prop := bit (reg s b off) i = true

/-- A counter has counted `n`, saturating. -/
def Counted (s t : State) (b : Blk) (off n : Nat) : Prop :=
  (reg t b off).toNat = min ((reg s b off).toNat + n) (2 ^ 64 - 1)

/-- Messages or packets were handed out and nothing else happened: outputs are added behind those before, sessions'
streams move on, and only the count of frames sent changes in the registers (R328, R340, R352). -/
def Handed (s t : State) : Prop :=
  (∃ l, t.out = s.out ++ l) ∧ RegsBut [regAddr .mac 0x50] s t ∧
  t = { s with regs := t.regs, out := t.out, port := { s.port with sessions := t.port.sessions } }

/-- As `Handed`, with the registers listed changed as well. -/
def HandedBut (l : List Nat) (s t : State) : Prop :=
  (∃ o, t.out = s.out ++ o) ∧ RegsBut (regAddr .mac 0x50 :: l) s t ∧
  t = { s with regs := t.regs, out := t.out, port := { s.port with sessions := t.port.sessions } }

/-- The bytes of a memory from an address on are those given, and every other byte is what it was. -/
def WroteMem (m m' : Table Byte) (a : Nat) (bs : List Byte) : Prop :=
  (∀ i, (h : i < bs.length) → memByte m' (a + i) = bs[i]) ∧
  ∀ x, x < a ∨ a + bs.length ≤ x → memByte m' x = memByte m x

/-- As `WroteMem`, in a tile's SRAM, where a byte that nothing has written is none. -/
def WroteSram (m m' : Table Byte) (a : Nat) (bs : List Byte) : Prop :=
  (∀ i, (h : i < bs.length) → tget m' (a + i) = some bs[i]) ∧
  ∀ x, x < a ∨ a + bs.length ≤ x → tget m' x = tget m x

/-- Tile `t` runs task `k`, which has neither ended nor waits: its next operator can take effect (R107, R110, R116). -/
def Ready (s : State) (t : Nat) (k : Task) : Prop :=
  t < 640 ∧ (tileAt s t).task = some k ∧ (tileAt s t).run = .running ∧ k.complete = false ∧ k.waiting = none ∧
  k.waitStream = none

/-- The task as it stands after its operator: the next record, everything else as given. -/
def Task.next (k : Task) : Task := { k with pos := k.pos + 1 }

/-- The bytes a task has written to a buffer from offset `off` on, in the half that its step writes of a PERSIST buffer
(R109), and no others of the tile's SRAM. -/
def WroteBuffer (s u : State) (t : Nat) (k : Task) (b off : Nat) (bs : List Byte) : Prop :=
  let key := bufKey k.entry (decide (bufKind s k b = 1) && decide (k.step % 2 = 0)) b off
  (∀ i, (h : i < bs.length) → tget (tileAt u t).sram (key + i) = some bs[i]) ∧
  (∀ a, a < key ∨ key + bs.length ≤ a → tget (tileAt u t).sram a = tget (tileAt s t).sram a)

/-- Tile `t` goes on with the next record of task `k`; of the tile only SRAM may differ, and no other tile does. -/
def NextRecord (s u : State) (t : Nat) (k : Task) : Prop :=
  tileAt u t = { tileAt s t with sram := (tileAt u t).sram, task := some k.next } ∧
  ∀ t', t' ≠ t → tileAt u t' = tileAt s t'

/-- The task of tile `t` has aborted with a cause (R136): the tile is idle, TASK_ABORTED is set, the abort is counted, and
TILE_ABORT names the cause and the request. -/
def TaskAborted (s u : State) (t : Nat) (k : Task) (cause : Nat) : Prop :=
  (tileAt u t).task = none ∧ (tileAt u t).run = .idle ∧ FlagUp u (.tile t) 0x08 1 ∧ Counted s u (.tile t) 0x28 1 ∧
  fld u (.tile t) 0x18 0 4 = cause ∧ fld u (.tile t) 0x18 16 16 = k.entry % 2 ^ 16

/-- Element `i` of an operand of `n` elements of `w` bits in a buffer, as the task reads it. -/
def operand (s : State) (t : Nat) (k : Task) (src w n i : Nat) : Nat :=
  (elems w n (bufRead s t (tileAt s t) k src 0 (elemBytes w n))).getD i 0

/-- No lower than before: the anti-rollback counter; and never changed: the mask ROM (R371, R374). -/
def RollbackSafe (n : Nat) (rom : Rom) (s : State) : Prop := n ≤ s.nv.counter ∧ s.rom = rom

/-- RDY is high exactly in Ivory and Amber, outside reset (R348). -/
def RdyRight (s : State) : Prop := s.pins.rdy = (serving s && !s.pins.rstLow)

end Sys2Proof.Machine
end

