-- ==== Sys2Proof/Certificates/Slice0/Obligations.lean ====
section
/-! DEFINITION. The statements for the provers. Each says what the spec's rules make of commands: results, what stays
unchanged, completion, and what every step keeps. A clause that rests on a choice of the model names its log entry. -/

open Sys2Proof Sys2Proof.Machine

/-! ### The queue, reset and the whole-machine rules -/

/-- The model's queue (log entry 1): a step runs the front command on the rest of the queue; an empty queue idles. -/
def Obligations.StepRunsFrontCommand : Prop :=
  (∀ (s : State) (c : Instr) (rest : List Instr), s.pending = c :: rest →
    step s = exec c { s with pending := rest }) ∧
  (∀ s : State, s.pending = [] → step s = .next s)

/-- The machine right after reset, by the rules that give its values: Sable and RDY low (R348), FLT_N released (R389), the
frame counter at 0 (R22), every register at its reset value (R69), no request, session or context (R438), H of 32 zero
bytes (R365), start-up at step 1 (R435). -/
def Obligations.ResetState : Prop :=
  State.reset.dev = .sable ∧ State.reset.pins.rdy = false ∧ State.reset.pins.fltLow = false ∧ now State.reset = 0 ∧
  (∀ (b : Blk) (off : Nat), reg State.reset b off = regReset b off) ∧
  (∀ e, reqAt State.reset e = none) ∧ (∀ n, sessAt State.reset n = none) ∧ (∀ c, ctxAt State.reset c = none) ∧
  State.reset.img.image = none ∧ State.reset.sec.history = zeros 32 ∧ State.reset.power.phase = 1 ∧
  State.reset.power.cause = 0 ∧ State.reset.pending = []

/-- R374: the anti-rollback counter never decreases, whatever command is taken; nor does the mask ROM change (R371). -/
def Obligations.StepKeepsRollbackCounter : Prop :=
  ∀ (n : Nat) (rom : Rom) (s t : State), RollbackSafe n rom s → step s = .next t → RollbackSafe n rom t

/-- The invariant of R374 holds at reset, for the counter 0 that the model's factory state has (log entry 9). -/
def Sys2Proof.Claims.ResetRollbackSafe : Prop := RollbackSafe 0 Rom.reset State.reset

/-- R348: RDY is high exactly while the device is in Ivory or Amber and RST_N is released; every step keeps it so. -/
def Obligations.StepKeepsRdy : Prop := ∀ s t : State, RdyRight s → step s = .next t → RdyRight t

/-- The invariant of R348 holds at reset. -/
def Sys2Proof.Claims.ResetRdyRight : Prop := RdyRight State.reset

/-- The invariants that every step keeps hold at reset. -/
def Obligations.ResetMeetsInvariants : Prop :=
  Claims.ResetRollbackSafe ∧ Claims.ResetRdyRight

/-- A command leaves the commands that wait behind it as they are, in their order (log entry 1). -/
def Obligations.StepKeepsQueue : Prop :=
  ∀ (s t : State) (c : Instr) (rest : List Instr), s.pending = c :: rest → step s = .next t → t.pending = rest

/-! ### The frame timer and the ordinary clock -/

/-- REFERENCE_ACQUIRED and LOCK_ACQUIRED (R22 to R24): the next boundary begins the first frame n whose instant EPOCH + n
periods lies after the reference time; 16 frames below 50 ns lock the timer; nothing else changes. -/
def Sys2Proof.Claims.ReferenceAndLockAcquired : Prop :=
  (∀ s : State, Completes .lockAcquired s) ∧
  (∀ (s : State) (refNs : Nat), enabled s .frame = true → refsel s < 2 → s.dev = .sable → s.frame.acquired = false →
    0 < periodUs s →
    (refsel s = 1 → ∃ k, s.frame.ppsSecond = some k ∧ k * 1000000000 ≤ refNs ∧ refNs < (k + 1) * 1000000000) →
    (refsel s = 0 → s.frame.ptp.lastSync ≠ none) →
    ∃ n, Does (.referenceAcquired refNs) s
        { s with frame := { s.frame with acquired := true, present := true, nextFrame := some n } } ∧
      refNs < (reg s .frame 0x10).toNat + n * (periodUs s * 1000) ∧
      ∀ m, m < n → (reg s .frame 0x10).toNat + m * (periodUs s * 1000) ≤ refNs) ∧
  (∀ s : State, enabled s .frame = true → refsel s < 2 → s.frame.lock ≠ .locked → 16 ≤ s.frame.good →
    Does .lockAcquired s { s with frame := { s.frame with lock := .locked } })

/-- REF_LOST (R25): REF_LOST is set, a LOCKED timer goes to HOLDOVER with ALIGN_LOST, and any other keeps its state; no
promise changes: requests, results and the counter stay. REF_LOST, REFERENCE_ACQUIRED and PPS_EDGE complete in every state. -/
def Sys2Proof.Claims.ReferenceLost : Prop :=
  (∀ (s : State) (ref : Nat) (step : Int), Completes .refLost s ∧ Completes (.referenceAcquired ref) s ∧
    Completes (.ppsEdge step) s) ∧
  ∀ s : State, enabled s .frame = true → refsel s < 2 → s.frame.present = true →
    ∃ t, Does .refLost s t ∧ t.frame.present = false ∧ FlagUp t .frame 0x30 2 ∧
      (s.frame.lock = .locked → t.frame.lock = .holdover ∧ FlagUp t .frame 0x30 3) ∧
      (s.frame.lock ≠ .locked → t.frame.lock = s.frame.lock) ∧
      t.frame.count = s.frame.count ∧ RegsBut [regAddr .frame 0x30, regAddr .mac 0x50] s t ∧
      t = { s with frame := t.frame, regs := t.regs, out := t.out, port := { s.port with sessions := t.port.sessions } }

/-- PPS_EDGE (R23, R24): with PPS_IN selected the first edge marks second FRAME_PPS_SECONDS and each further edge the next
second; a jump of more than 1 µs sets TIME_STEP and takes a LOCKED timer to HOLDOVER; with another reference selected, or
the timer off, nothing changes. -/
def Sys2Proof.Claims.PpsEdge : Prop :=
  (∀ (s : State) (step : Int), (enabled s .frame = false ∨ refsel s ≠ 1) → Does (.ppsEdge step) s s) ∧
  (∀ (s : State) (step : Int), enabled s .frame = true → refsel s = 1 → s.frame.ppsSecond = none →
    Does (.ppsEdge step) s { s with frame := { s.frame with
      ppsSecond := some (reg s .frame 0x18).toNat, present := true } }) ∧
  (∀ (s : State) (step : Int) (k : Nat), enabled s .frame = true → refsel s = 1 → s.frame.ppsSecond = some k →
    -1000 ≤ step → step ≤ 1000 →
    Does (.ppsEdge step) s { s with frame := { s.frame with ppsSecond := some (k + 1), present := true } }) ∧
  (∀ (s : State) (step : Int) (k : Nat), enabled s .frame = true → refsel s = 1 → s.frame.ppsSecond = some k →
    (step < -1000 ∨ 1000 < step) →
    ∃ t, Does (.ppsEdge step) s t ∧ t.frame.ppsSecond = some (k + 1) ∧ FlagUp t .frame 0x30 4 ∧
      (s.frame.lock = .locked → t.frame.lock = .holdover ∧ FlagUp t .frame 0x30 3) ∧
      (s.frame.lock ≠ .locked → t.frame.lock = s.frame.lock) ∧ t.frame.good = 0 ∧ t.frame.count = s.frame.count ∧
      RegsBut [regAddr .frame 0x30, regAddr .mac 0x50] s t ∧
      t = { s with frame := t.frame, regs := t.regs, out := t.out, port := { s.port with sessions := t.port.sessions } })

/-- The events of the time reference: acquired, locked, lost, and the edges of PPS_IN. -/
def Obligations.ReferenceEvents : Prop :=
  Claims.ReferenceAndLockAcquired ∧ Claims.ReferenceLost ∧ Claims.PpsEdge

/-- A message of IEEE 1588 reaches the clock (R322, R325): the link is up, no scrub of the device runs, it came by the
transport selected and is of the clock's domain. -/
def HeardByClock (s : State) (domain : Nat) (ipv6 : Bool) : Prop :=
  s.port.up = true ∧ s.sec.scrub = none ∧ ipv6 = bit (reg s .mac 0x38) 8 ∧ domain = fld s .mac 0x38 0 8

/-- ANNOUNCE (R325): its master replaces what was heard of it, the clock's parent is a master heard that no other beats,
the frame is counted; nothing else changes. -/
def Sys2Proof.Claims.AnnounceChoosesMaster : Prop :=
  ∀ (s : State) (a : AnnounceIn), HeardByClock s a.domain a.ipv6 → a.steps < 255 →
    ∃ t, Does (.announce a) s t ∧ Counted s t .mac 0x48 1 ∧
      t.frame.ptp.masters = s.frame.ptp.masters.filter (fun m => decide (m.port ≠ a.port)) ++ [a] ∧
      (∃ m, m ∈ t.frame.ptp.masters ∧ t.frame.ptp.parent = some m.port ∧
        ∀ x ∈ t.frame.ptp.masters, betterMaster m x = true) ∧
      RegsBut [regAddr .mac 0x48] s t ∧
      t = { s with regs := t.regs, frame := { s.frame with ptp := { s.frame.ptp with
              masters := t.frame.ptp.masters, parent := t.frame.ptp.parent } } }

/-- SYNC, FOLLOW_UP, DELAY_REQ, DELAY_RESP (R325), while another reference is selected: a one-step Sync of the parent gives
the offset receive time − correction − origin time − delay; a two-step one waits for the Follow_Up of its number, whose
correction counts too; a Delay_Req leaves; its answer gives the mean of the two one-way times. A received message
completes in every state, for one that does not concern the clock is dropped or discarded. -/
def Sys2Proof.Claims.OrdinaryClock : Prop :=
  (∀ (s : State) (seq : Nat) (sent : Int), Completes (.delayReq seq sent) s) ∧
  (∀ (s : State) (a : AnnounceIn) (p : PtpIn), Completes (.announce a) s ∧ Completes (.sync p) s ∧
    Completes (.followUp p) s ∧ Completes (.delayResp p) s) ∧
  (∀ (s : State) (p : PtpIn), HeardByClock s p.domain p.ipv6 → s.frame.ptp.parent = some p.port → refsel s ≠ 0 →
    ∃ t, Does (.sync p) s t ∧ RegsBut [regAddr .mac 0x48] s t ∧
      t = { s with regs := t.regs, frame := { s.frame with ptp := t.frame.ptp } } ∧
      (p.twoStep = true → t.frame.ptp = { s.frame.ptp with pendingSync := some (p.seq, p.localNs, p.corrNs) }) ∧
      (p.twoStep = false → t.frame.ptp.offsetNs = p.localNs - p.corrNs - p.remoteNs - s.frame.ptp.delayNs ∧
        t.frame.ptp.lastSync = some (p.remoteNs, p.localNs - p.corrNs) ∧ t.frame.ptp.pendingSync = none)) ∧
  (∀ (s : State) (p : PtpIn) (t2 c : Int), HeardByClock s p.domain p.ipv6 → s.frame.ptp.parent = some p.port →
    refsel s ≠ 0 → s.frame.ptp.pendingSync = some (p.seq, t2, c) →
    ∃ t, Does (.followUp p) s t ∧ RegsBut [regAddr .mac 0x48] s t ∧
      t = { s with regs := t.regs, frame := { s.frame with ptp := t.frame.ptp } } ∧
      t.frame.ptp.offsetNs = t2 - c - p.corrNs - p.remoteNs - s.frame.ptp.delayNs ∧ t.frame.ptp.pendingSync = none) ∧
  (∀ (s : State) (seq : Nat) (sentNs : Int), s.port.up = true → s.frame.ptp.parent ≠ none →
    ∃ t, Does (.delayReq seq sentNs) s t ∧ Counted s t .mac 0x50 1 ∧ RegsBut [regAddr .mac 0x50] s t ∧
      t = { s with regs := t.regs, out := s.out ++ [.delayReq seq],
                   frame := { s.frame with ptp := { s.frame.ptp with pendingReq := some (seq, sentNs) } } }) ∧
  (∀ (s : State) (p : PtpIn) (t1 t2 t3 : Int), HeardByClock s p.domain p.ipv6 → s.frame.ptp.parent = some p.port →
    s.frame.ptp.pendingReq = some (p.seq, t3) → s.frame.ptp.lastSync = some (t1, t2) →
    ∃ t, Does (.delayResp p) s t ∧ RegsBut [regAddr .mac 0x48] s t ∧
      t = { s with regs := t.regs, frame := { s.frame with ptp := { s.frame.ptp with
              pendingReq := none, delayNs := ((t2 - t1) + (p.remoteNs - p.corrNs - t3)) / 2 } } })

/-- The ordinary clock of IEEE 1588: its choice of master, its offset and its delay. -/
def Obligations.PtpClock : Prop :=
  Claims.AnnounceChoosesMaster ∧ Claims.OrdinaryClock

/-! ### Registers -/

/-- ENABLE (R27): with the timer off, ENABLE set with a period of 100 to 4,000 µs and REFSEL below 3 starts frame 0, FREE
with REFSEL 2 and ACQUIRING otherwise; outside them ENABLE stays 0 and CFG_RANGE is set. -/
def Sys2Proof.Claims.EnableFrameTimer : Prop :=
  ∀ (s : State) (v : Word), s.dev ≠ .vermilion → inService s = false → enabled s .frame = false → bit v 0 = true →
    ∃ t, Does (.enable .mgmt v) s t ∧ t.out = s.out ++ [.access 0 0] ∧ refsel t = bits v 1 2 ∧
      (100 ≤ periodUs s → periodUs s ≤ 4000 → bits v 1 2 ≠ 3 →
        enabled t .frame = true ∧ now t = 0 ∧ t.frame.acquired = false ∧
        t.frame.lock = (if bits v 1 2 = 2 then .free else .acquiring)) ∧
      (periodUs s < 100 ∨ 4000 < periodUs s ∨ bits v 1 2 = 3 →
        enabled t .frame = false ∧ FlagUp t .frame 0x30 1 ∧ t.frame = s.frame) ∧
      RegsBut [regAddr .frame 0, regAddr .frame 0x30] s t ∧
      t = { s with frame := t.frame, regs := t.regs, out := t.out }

/-- Access rules (R69): a REGISTER_WRITE of another size than 8 bytes, off a multiple of 8, or of an address that no block
implements gives BUS_ERROR and changes no register; in Vermilion a write gives DENIED, but for BELFRY_ACK over the
management path (R394). ENABLE, REGISTER_WRITE, REQTAB_INSPECT and TIER_MOVE_CMD complete in every state over either path. -/
def Sys2Proof.Claims.RefusedRegisterWrite : Prop :=
  (∀ (s : State) (path : RegPath) (addr size : Nat) (v : Word), Completes (.enable path v) s ∧
    Completes (.registerWrite path addr size v) s ∧ Completes (.reqtabInspect path v) s ∧ Completes (.tierMoveCmd path v) s) ∧
  (∀ (s : State) (addr size : Nat) (v : Word),
    (size ≠ 8 ∨ addr % 8 ≠ 0 ∨ decodeAddr addr = none ∨
      ∃ b off, decodeAddr addr = some (b, off) ∧ regDesc b off = none) →
    Does (.registerWrite .mgmt addr size v) s { s with out := s.out ++ [.access 1 0] }) ∧
  (∀ (s : State) (addr : Nat) (v : Word) (b : Blk) (off : Nat) (d : RegDesc), s.dev = .vermilion → addr % 8 = 0 →
    decodeAddr addr = some (b, off) → regDesc b off = some d → (b ≠ .belfry ∨ off ≠ 0x10) →
    Does (.registerWrite .mgmt addr 8 v) s { s with out := s.out ++ [.access 2 0] })

/-- Register writes: ENABLE of the frame timer, and the writes that are refused. -/
def Obligations.RegisterWrites : Prop :=
  Claims.EnableFrameTimer ∧ Claims.RefusedRegisterWrite

/-- R70: every block with configuration registers has ENABLE in bit 0 of its register at offset 0; while ENABLE is 1 a write
to a configuration register is ignored in full, with CFG_WHILE_ENABLED in bit 0 of the block's status register and the
outcome OK; while it is 0 the RW bits take the written value and the others stay. TILE's code store and PWRSEQ_LIMITS, whose
chapters say what they take while ENABLE is 0, stand aside in the last clause only. -/
def Obligations.ConfigurationWrite : Prop :=
  (∀ (b : Blk) (off : Nat) (d : RegDesc), regDesc b off = some d → d.cfg = true →
    ∃ c, regDesc b 0 = some c ∧ c.cfg = false ∧ bit c.rw 0 = true) ∧
  ∀ (s : State) (addr : Nat) (v : Word) (b : Blk) (off : Nat) (d : RegDesc), s.dev ≠ .vermilion → addr % 8 = 0 →
    decodeAddr addr = some (b, off) → regDesc b off = some d → d.cfg = true →
    (blkOwner b ≠ .image ∨ inService s = false) →
    (enabled s b = true → ∃ t, Does (.registerWrite .mgmt addr 8 v) s t ∧ FlagUp t b (statusOff b) 0 ∧
      RegsBut [regAddr b (statusOff b)] s t ∧
      t = { s with regs := t.regs, out := s.out ++ [.access 0 0] }) ∧
    (enabled s b = false → (∀ t, b ≠ .tile t) → (b ≠ .pwrseq ∨ off ≠ 0x10) →
      ∃ t, Does (.registerWrite .mgmt addr 8 v) s t ∧ RegsBut [regAddr b off] s t ∧
        reg t b off = (reg s b off &&& ~~~ d.rw) ||| (v &&& d.rw) ∧
        t = { s with regs := t.regs, out := s.out ++ [.access 0 0], nv := { s.nv with saved := t.nv.saved } })

/-! ### The loader -/

/-- Session `n` is open, its endpoint is PRIVILEGED and its control queue exists: privileged messages are taken and
answered on that queue (R326, R327). -/
def PrivSession (s : State) (n : Nat) (x : Session) : Prop :=
  sessAt s n = some x ∧ epPriv s x.endpoint = true ∧ (tget x.queues x.firstMsgq).isSome = true

/-- COMMIT of a staged image that passes every check, with no fault while it is applied (R63, R64, R365): the image is in
service with IMG_RESULT 0 and COMMITTED, the device stays in Sable until the timer is LOCKED or FREE, and H is extended by
DIGEST, SIGNER and IMAGE_ID; requests, sessions, flash and the secure flash stay; the wake-up steps of the domains that an image needs join the
queue (R432, log entry 90). A COMMIT over either path completes whatever the image holds, the faults found and the messages
that arrive meanwhile. -/
def Obligations.CommitPlacesImage : Prop :=
  (∀ (s : State) (c : CommitIn) (path : RegPath), (∀ t ∈ c.tileFaults, t < 640) →
    (∀ a, c.parityBad = some a → isCfgAddr a = true) → Completes (.commit path c) s) ∧
  ∀ (s : State) (c : CommitIn), loaderReady s = true → c.during = [] → c.parityBad = none → c.tileFaults = [] →
    c.deviceFault = false → commitBad s (stagedBytes s) c.overflow = none →
    ∃ t, Does (.commit .mgmt c) s t ∧ t.img.image = some (parseImage (stagedBytes s)) ∧ t.img.phase = .inService ∧
      t.img.code = 0 ∧ t.img.awaiting = true ∧ t.dev = .sable ∧ FlagUp t .img 0x20 3 ∧
      t.sec.history = sha256 (s.sec.history ++ (parseImage (stagedBytes s)).digest ++
        toLE 1 ((parseImage (stagedBytes s)).signer.getD 0xFF) ++ toLE 8 (parseImage (stagedBytes s)).imageId) ∧
      t.out = s.out ++ [.access 0 0] ∧ t.reqs = s.reqs ∧ t.port = s.port ∧ t.flash = s.flash ∧ t.nv = s.nv ∧
      t.pins = s.pins ∧ t.power = { s.power with
        wakes := s.power.wakes ++ (imageDomains t).map (fun d => { domain := d, port := 0 }) }

/-- COMMIT refused by a check (R64, R67): IMG_STATE REFUSED, IMG_RESULT names the code and DETAIL, REFUSED is set, the
staged bytes are kept and no image is in service; registers of the image's blocks stay. A COMMIT outside a ready loader,
or any DISCARD or UNLOAD out of place, sets CMD_REJECTED and does no more (R63, R66, R67). -/
def Obligations.LoaderCommandsRefused : Prop :=
  (∀ (s : State) (c : CommitIn) (r : Nat × Nat), loaderReady s = true → c.during = [] → c.parityBad = none →
    c.tileFaults = [] → commitBad s (stagedBytes s) c.overflow = some r →
    ∃ t, Does (.commit .mgmt c) s t ∧ t.img = { s.img with phase := .refused, code := r.1, detail := r.2 } ∧
      FlagUp t .img 0x20 4 ∧ RegsBut [regAddr .img 0x20, regAddr .belfry 0x00, regAddr .belfry 0x30] s t ∧
      t.out = s.out ++ [.access 0 0]) ∧
  (∀ (s : State) (c : Instr),
    (∃ i, c = .commit .mgmt i ∧ i.parityBad = none ∧ i.tileFaults = [] ∧ loaderReady s = false) ∨
    (c = .discard .mgmt ∧ loaderReady s = false) ∨
    (c = .unload .mgmt ∧ (serving s = false ∨ s.sec.ctxs ≠ [])) →
    s.dev ≠ .vermilion →
    ∃ t, Does c s t ∧ FlagUp t .img 0x20 2 ∧ RegsBut [regAddr .img 0x20] s t ∧
      t = { s with regs := t.regs, out := s.out ++ [.access 0 0] })

/-- DISCARD empties the staging area and changes nothing else (R67); over either path it completes in every state. -/
def Sys2Proof.Claims.DiscardEmptiesStaging : Prop :=
  (∀ (s : State) (path : RegPath), Completes (.discard path) s) ∧
  ∀ s : State, loaderReady s = true →
    Does (.discard .mgmt) s { s with img := { s.img with staged := [], stagedLen := 0, phase := .empty },
                                     out := s.out ++ [.access 0 0] }

/-- UNLOAD in Ivory or Amber with no open context (R66, R365): no image is in service, staging is empty, frames have
stopped, every tile is OFF, the device is in Sable with RDY low, and H is extended by 32 zero bytes, 0xFF and 0; images in
T2 are kept, and the wake-up steps of the gated domains that still wait are dropped (R432, log entry 90). UNLOAD over either
path completes in every state. -/
def Sys2Proof.Claims.UnloadRemovesImage : Prop :=
  (∀ (s : State) (path : RegPath), Completes (.unload path) s) ∧
  ∀ s : State, serving s = true → s.sec.ctxs = [] →
    ∃ t, Does (.unload .mgmt) s t ∧ t.img.image = none ∧ t.img.staged = [] ∧ t.img.phase = .empty ∧
      enabled t .frame = false ∧ t.dev = .sable ∧ t.pins.rdy = false ∧ t.adm.subs = [] ∧
      t.sec.history = sha256 (s.sec.history ++ zeros 32 ++ toLE 1 0xFF ++ toLE 8 0) ∧
      (∀ p ∈ s.img.loaded, p.2.resident = false → p ∈ t.img.loaded) ∧
      t.flash = s.flash ∧ t.reqs = s.reqs ∧ t.power = { s.power with wakes := t.power.wakes } ∧
      (∀ w, w ∈ t.power.wakes ↔ w ∈ s.power.wakes ∧ w.domain ∉ imageDomains s)

/-- LEAVE_SABLE (R63, R348, R392): once the timer is LOCKED or FREE after a COMMIT, the device enters Amber if a tile is
missing or the throttle level is above 0, Ivory otherwise, and RDY rises. LEAVE_SABLE completes in every
state. -/
def Sys2Proof.Claims.LeaveSableServes : Prop :=
  (∀ s : State, Completes .leaveSable s) ∧
  ∀ s : State, s.img.awaiting = true → s.dev = .sable → enabled s .frame = true →
    (s.frame.lock = .locked ∨ s.frame.lock = .free) →
    ∃ t, Does .leaveSable s t ∧ t.img.awaiting = false ∧
      t.dev = (if tileMissing s = true ∨ 0 < s.adm.level then .amber else .ivory) ∧
      t.pins.rdy = !s.pins.rstLow ∧ t.sec.boot.served = true ∧ t.frame = s.frame ∧ t.reqs = s.reqs ∧ t.tiles = s.tiles

/-- DISCARD, UNLOAD and LEAVE_SABLE. -/
def Obligations.ImageComesAndGoes : Prop :=
  Claims.DiscardEmptiesStaging ∧ Claims.UnloadRemovesImage ∧ Claims.LeaveSableServes

/-- LOAD of kind 1 from a PRIVILEGED session (R62, R341): the bytes lie at their offset in the staging area, the others
stay, and LOAD_REPLY OK leaves on the control queue. In every state a LOAD of any kind completes, with the reply or REJECT
that R341 gives it. -/
def Sys2Proof.Claims.LoadStructureStages : Prop :=
  (∀ (s : State) (n tag ref offset : Nat) (bytes : List Byte), Completes (.loadStructure n tag offset bytes) s ∧
    Completes (.loadModel n tag ref offset bytes) s ∧ Completes (.loadIndex n tag ref offset bytes) s ∧
    Completes (.loadVocabulary n tag ref offset bytes) s) ∧
  ∀ (s : State) (n tag offset : Nat) (bytes : List Byte) (x : Session), PrivSession s n x → loaderReady s = true →
    offset + bytes.length ≤ 134217728 → bytes ≠ [] →
    ∃ t, Does (.loadStructure n tag offset bytes) s t ∧ t.img.phase = .staging ∧
      t.img.stagedLen = max s.img.stagedLen (offset + bytes.length) ∧
      (∀ i, (h : i < bytes.length) → memByte t.img.staged (offset + i) = bytes[i]) ∧
      (∀ a, a < offset ∨ offset + bytes.length ≤ a → memByte t.img.staged a = memByte s.img.staged a) ∧
      Out.msg n x.firstMsgq 0x87 tag (toLE 1 0 ++ zeros 7 ++ toLE 8 0) (now s) ∈ t.out ∧
      Handed { s with img := t.img } t

/-- LOAD_MODEL, LOAD_INDEX and LOAD_VOCABULARY from a PRIVILEGED session (R341), of an image that the staged IMAGE_REFS
name: the bytes lie at their place in T1 (RESIDENT 1) or in the namespace (RESIDENT 0), every other byte of both stays, the
record keeps how far the image has arrived, and unless the whole has arrived with another digest the reply is OK. -/
def Sys2Proof.Claims.LoadImagePlaces : Prop :=
  ∀ (s : State) (n tag kind ref offset : Nat) (bytes : List Byte) (x : Session) (r : ImageRef) (c : Instr),
    ((c = .loadModel n tag ref offset bytes ∧ kind = 1) ∨ (c = .loadIndex n tag ref offset bytes ∧ kind = 2) ∨
     (c = .loadVocabulary n tag ref offset bytes ∧ kind = 3)) →
    PrivSession s n x → s.img.image = none → loaderReady s = true →
    headerBad (stagedBytes s) (stagedBytes s).length = none → directoryBad (stagedBytes s) = none →
    stagedRef (parseImage (stagedBytes s)) ref kind = some r → r.ref = ref → offset + bytes.length ≤ r.bytes →
    (loadRecord s (parseImage (stagedBytes s)) r offset).noSpace = false →
    (loadRecord s (parseImage (stagedBytes s)) r offset).bytes = r.bytes →
    (loadRecord s (parseImage (stagedBytes s)) r offset).upto + bytes.length < r.bytes →
    ∃ t, Does c s t ∧
      (let y := loadRecord s (parseImage (stagedBytes s)) r offset
       let at_ := if y.resident then 2 ^ 68 + y.base + offset else y.ns * 2 ^ 58 + y.base + offset
       (y.resident = true → t.flash = s.flash ∧
         (∀ i, (h : i < bytes.length) → memByte t.tier.t1 (at_ + i) = bytes[i]) ∧
         (∀ a, a < at_ ∨ at_ + bytes.length ≤ a → memByte t.tier.t1 a = memByte s.tier.t1 a)) ∧
       (y.resident = false → t.tier = s.tier ∧
         (∀ i, (h : i < bytes.length) → memByte t.flash.data (at_ + i) = bytes[i]) ∧
         (∀ a, a < at_ ∨ at_ + bytes.length ≤ a → memByte t.flash.data a = memByte s.flash.data a)) ∧
       (∃ z, tget t.img.loaded ref = some z ∧ z.valid = false ∧
         (offset ≤ y.upto → z.upto = max y.upto (offset + bytes.length)))) ∧
      Out.msg n x.firstMsgq 0x87 tag (toLE 1 0 ++ zeros 7 ++ toLE 8 0) (now s) ∈ t.out ∧
      Handed { s with img := t.img, tier := t.tier, flash := t.flash } t

/-- The four kinds of LOAD. -/
def Obligations.LoadsArrive : Prop :=
  Claims.LoadStructureStages ∧ Claims.LoadImagePlaces

/-- CONFIG_PARITY_SWEEP that finds no mismatch changes nothing; one that finds a mismatch in a block of a tile clears that
block's ENABLE, takes the tile out of service and records the detection with the register's address (R73, R390); a sweep
completes whatever configuration registers mismatch. -/
def Obligations.ConfigParity : Prop :=
  (∀ (s : State) (bad : List Nat), (∀ a ∈ bad, isCfgAddr a = true) → Completes (.configParitySweep bad) s) ∧
  (∀ s : State, Does (.configParitySweep []) s s) ∧
  (∀ (s : State) (a : Nat) (b : Blk) (off t : Nat), isCfgAddr a = true → decodeAddr a = some (b, off) →
    tileLevel b = some t → s.dev ≠ .vermilion →
    ∃ u, Does (.configParitySweep [a]) s u ∧ enabled u b = false ∧ (tileAt u t).inService = false ∧
      u.pins.fltLow = true ∧ (∃ e, u.belfry.last = some e ∧ e.mech = 0x08 ∧ e.unit = t ∧ e.detail = a) ∧
      s.belfry.seq ∈ u.belfry.unacked ∧ u.img = s.img ∧ u.sec.ctxs = s.sec.ctxs ∧ u.dev = s.dev)

/-! ### Tensor operators -/

/-- The element-wise operation of a VEC command with two operands or three on codes of format `f`: ADD, SUB, MUL, FMA, MAX,
MIN (R79, R106, R111). -/
def vecArith (c : Instr) (t : Nat) (p : VecP) (b : Bufs) (g : FNum → FNum → FNum → FNum) : Prop :=
  (c = .vecAdd t p b ∧ g = fun x y _ => addNum x y) ∨ (c = .vecSub t p b ∧ g = fun x y _ => addNum x (negNum y)) ∨
  (c = .vecMul t p b ∧ g = fun x y _ => mulNum x y) ∨ (c = .vecFma t p b ∧ g = fun x y z => addNum (mulNum x y) z) ∨
  (c = .vecMax t p b ∧ g = fun x y _ => maxNum x y) ∨ (c = .vecMin t p b ∧ g = fun x y _ => minNum x y)

/-- VEC ADD, SUB, MUL, FMA, MAX and MIN in BF16, FP16, FP32 and INT32 (R79, R111): element i of the destination is the
exact result on elements i of the sources, rounded once; the task goes on, and nothing else changes. Each
completes on any tile. -/
def Sys2Proof.Claims.VecArithmetic : Prop :=
  (∀ (s : State) (t : Nat) (p : VecP) (b : Bufs), t < 640 → coreFmt p.fmt = true →
    Completes (.vecAdd t p b) s ∧ Completes (.vecSub t p b) s ∧ Completes (.vecMul t p b) s ∧
    Completes (.vecFma t p b) s ∧ Completes (.vecMax t p b) s ∧ Completes (.vecMin t p b) s) ∧
  ∀ (s : State) (t : Nat) (p : VecP) (b : Bufs) (k : Task) (c : Instr) (g : FNum → FNum → FNum → FNum),
    Ready s t k → vecArith c t p b g → coreFmt p.fmt = true →
    ∃ u, Does c s u ∧ NextRecord s u t k ∧ u = { s with tiles := u.tiles } ∧
      WroteBuffer s u t k b.dst 0 (packElems (fmtWidth p.fmt) ((List.range p.elems).map (fun i => coreCode p.fmt
        (g (numOf p.fmt (operand s t k b.src0 (fmtWidth p.fmt) p.elems i))
           (numOf p.fmt (operand s t k b.src1 (fmtWidth p.fmt) p.elems i))
           (numOf p.fmt (operand s t k b.src2 (fmtWidth p.fmt) p.elems i))))))

/-- VEC EXP, RECIP, RSQRT and TANH in the floating formats, VEC CONVERT, and VEC GELU_TANH, whose value the spec leaves
open (log entries 15, 17, 18): element by element from SRC0; the task goes on, and nothing else changes. Each completes
on any tile. -/
def Sys2Proof.Claims.VecFunctions : Prop :=
  (∀ (s : State) (t : Nat) (p : VecP) (b : Bufs), t < 640 → (coreFloat p.fmt = true →
      Completes (.vecExp t p b) s ∧ Completes (.vecRecip t p b) s ∧ Completes (.vecRsqrt t p b) s ∧
      Completes (.vecTanh t p b) s ∧ Completes (.vecGeluTanh t p b) s) ∧
    (p.fmt ≠ 9 → fmtWidth p.fmt ≠ 0 → p.toFmt ≠ 9 → fmtWidth p.toFmt ≠ 0 → Completes (.vecConvert t p b) s)) ∧
  ∀ (s : State) (t : Nat) (p : VecP) (b : Bufs) (k : Task) (c : Instr) (toFmt : Nat) (g : Nat → Nat), Ready s t k →
    ((coreFloat p.fmt = true ∧ toFmt = p.fmt ∧
        ((c = .vecExp t p b ∧ g = fun x => coreCode p.fmt (expNum (numOf p.fmt x))) ∨
         (c = .vecRecip t p b ∧ g = fun x => coreCode p.fmt (recipNum (numOf p.fmt x))) ∨
         (c = .vecRsqrt t p b ∧ g = fun x => coreCode p.fmt (rsqrtNum (numOf p.fmt x))) ∨
         (c = .vecTanh t p b ∧ g = fun x => coreCode p.fmt (tanhNum (numOf p.fmt x))) ∨
         (c = .vecGeluTanh t p b ∧
           g = fun x => coreCode p.fmt (numOf p.fmt
             ((Config.geluTanh p.fmt (BitVec.ofNat 64 x)).toNat % 2 ^ fmtWidth p.fmt))))) ∨
     (p.fmt ≠ 9 ∧ fmtWidth p.fmt ≠ 0 ∧ p.toFmt ≠ 9 ∧ fmtWidth p.toFmt ≠ 0 ∧ toFmt = p.toFmt ∧ c = .vecConvert t p b ∧
        g = fun x => (convert p.toFmt false 0 (numOf p.fmt x)).code)) →
    ∃ u, Does c s u ∧ NextRecord s u t k ∧ u = { s with tiles := u.tiles } ∧
      WroteBuffer s u t k b.dst 0 (packElems (fmtWidth toFmt)
        ((List.range p.elems).map (fun i => g (operand s t k b.src0 (fmtWidth p.fmt) p.elems i))))

/-- VEC arithmetic in INT32 wraps modulo 2^32 (R106). -/
def Sys2Proof.Claims.Int32Wraps : Prop :=
  ∀ x y : Nat, x < 2 ^ 32 → y < 2 ^ 32 →
    coreCode 0xA (addNum (numOf 0xA x) (numOf 0xA y)) = (x + y) % 2 ^ 32 ∧
    coreCode 0xA (addNum (numOf 0xA x) (negNum (numOf 0xA y))) = (x + (2 ^ 32 - y)) % 2 ^ 32 ∧
    coreCode 0xA (mulNum (numOf 0xA x) (numOf 0xA y)) = x * y % 2 ^ 32

/-- REDUCE SUM, MAX and MIN (R111): row r of INNER elements of SRC0 reduces to element r of the destination. An INT32 sum
is 64 bits wide and exact; MAX and MIN keep the format; a floating sum rounds after each addition, in ascending order. Each
completes on any tile. -/
def Sys2Proof.Claims.Reductions : Prop :=
  (∀ (s : State) (t : Nat) (p : VecP) (b : Bufs), t < 640 → coreFmt p.fmt = true → p.inner ≠ 0 →
    p.elems % p.inner = 0 →
    Completes (.reduceSum t p b) s ∧ Completes (.reduceMax t p b) s ∧ Completes (.reduceMin t p b) s) ∧
  ∀ (s : State) (t : Nat) (p : VecP) (b : Bufs) (k : Task) (c : Instr) (w : Nat) (row : List FNum → Nat), Ready s t k →
    coreFmt p.fmt = true → p.inner ≠ 0 → p.elems % p.inner = 0 →
    ((c = .reduceMax t p b ∧ w = fmtWidth p.fmt ∧ row = fun l => coreCode p.fmt (foldRow maxNum l)) ∨
     (c = .reduceMin t p b ∧ w = fmtWidth p.fmt ∧ row = fun l => coreCode p.fmt (foldRow minNum l)) ∨
     (c = .reduceSum t p b ∧ p.fmt = 0xA ∧ w = 64 ∧ row = fun l =>
        match l.foldl addNum .zero with
        | .fin neg m e => (rneInt neg m e % (2 ^ 64 : Nat)).toNat
        | _ => 0) ∨
     (c = .reduceSum t p b ∧ ∃ g, floatFmt p.fmt = some g ∧ w = g.width ∧ row = fun l =>
        toFloat g false (l.foldl (fun acc v => floatNum g (toFloat g false (addNum acc v))) .zero))) →
    ∃ u, Does c s u ∧ NextRecord s u t k ∧ u = { s with tiles := u.tiles } ∧
      WroteBuffer s u t k b.dst 0 (packElems w ((List.range (p.elems / p.inner)).map (fun r =>
        row ((((elems (fmtWidth p.fmt) p.elems (bufRead s t (tileAt s t) k b.src0 0 (elemBytes (fmtWidth p.fmt) p.elems))).map
          (numOf p.fmt)).drop (r * p.inner)).take p.inner))))

/-- The VEC and REDUCE operators. -/
def Obligations.VectorOperators : Prop :=
  Claims.VecArithmetic ∧ Claims.VecFunctions ∧ Claims.Reductions

/-- MATMUL (R87, R94, R98, R102): with its array enabled, and no pass in flight that it must wait for, the pass begins with
the operands that the buffers hold now, and the task goes on; metadata that break R83, R93 or R94 set META_FAULT and abort
the task with cause 0x3, and no pass begins. A MATMUL
that has to wait, or whose array is not enabled, changes nothing. -/
def Sys2Proof.Claims.MatmulBegins : Prop :=
  (∀ (s : State) (t : Nat) (p : MatmulP) (b : Bufs) (indep : Bool), t < 640 → matmulOk p = true → shapesOk p = true →
    Completes (.matmul t p b indep) s ∧ ((enabled s (.array t) = false ∨ passWaits (tileAt s t) b indep = true) →
      Does (.matmul t p b indep) s s)) ∧
  ∀ (s : State) (t : Nat) (p : MatmulP) (b : Bufs) (indep : Bool) (k : Task), Ready s t k → matmulOk p = true →
    shapesOk p = true → enabled s (.array t) = true → passWaits (tileAt s t) b indep = false →
    (let read (src n : Nat) : List Byte := bufRead s t (tileAt s t) k src 0 n
     let q : Pass := { p := p, bufs := b, a := read b.src0 (passBytes p).1, b := read b.src1 (passBytes p).2,
                       c := if p.skip then read b.src2 (8 + 4 * leNat (read b.src2 4))
                            else if 2 ≤ p.scaleMode then read b.src2 (elemBase p p.problems scaleSize) else [] }
     let fit := (List.range p.problems).all (fun i => metaOk (problemOf p q.a q.b q.c i))
     (fit = true → ∃ u, Does (.matmul t p b indep) s u ∧ u = { s with tiles := u.tiles } ∧
       (∀ t', t' ≠ t → tileAt u t' = tileAt s t') ∧
       tileAt u t = { tileAt s t with task := some k.next, passes := (tileAt s t).passes ++ [q] }) ∧
     (fit = false → ∃ u, Does (.matmul t p b indep) s u ∧ (tileAt u t).passes = [] ∧
       FlagUp u (.array t) 0x08 6 ∧ TaskAborted s u t k 3))

/-- MATMUL_PASS_COMPLETE (R92, R96 to R98): without an error the oldest pass leaves the array, its outputs, row by row, lie in
its destination, saturated and special outputs are counted, and nothing else changes. A checksum fault sets CHECKSUM_FAULT and
is counted and detected, the outputs are kept and the task continues. Whatever accumulators are wrong, in data or checksum
PEs, and whether or not conversion lanes disagree, the pass completes. -/
def Sys2Proof.Claims.MatmulPassCompletes : Prop :=
  (∀ (s : State) (t : Nat) (errs : List AccErr) (laneBad : Bool), t < 640 → (tileAt s t).passes = [] →
    Does (.matmulPassComplete t errs laneBad) s s) ∧
  ∀ (s : State) (t : Nat) (k : Task) (q : Pass) (rest : List Pass), t < 640 → (tileAt s t).task = some k →
    (tileAt s t).passes = q :: rest →
    (∀ (errs : List AccErr) (laneBad : Bool),
      (∀ e ∈ errs, e.row < blockLines q.p + 2 ∧ e.col < blockLines q.p + 2 ∧ e.problem < q.p.problems) →
      Completes (.matmulPassComplete t errs laneBad) s) ∧
    (∀ errs : List AccErr,
      (∀ e ∈ errs, e.row < blockLines q.p + 2 ∧ e.col < blockLines q.p + 2 ∧ e.problem < q.p.problems) →
      checksumFails q errs = true →
      ∃ u, Does (.matmulPassComplete t errs false) s u ∧ FlagUp u (.array t) 0x08 1 ∧ Counted s u (.array t) 0x20 1 ∧
        (∃ e, u.belfry.last = some e ∧ e.mech = 0x01 ∧ e.unit = t) ∧
        (tileAt u t).task = some k ∧ (tileAt u t).passes = rest ∧
        WroteBuffer s u t k q.bufs.dst 0
          (packElems (fmtWidth q.p.outFmt) ((passOutputs s t q errs).map (·.code)))) ∧
    (matmulOk q.p = true → shapesOk q.p = true →
      ∃ u, Does (.matmulPassComplete t [] false) s u ∧
        tileAt u t = { tileAt s t with passes := rest, sram := (tileAt u t).sram } ∧
        (∀ t', t' ≠ t → tileAt u t' = tileAt s t') ∧
        WroteBuffer s u t k q.bufs.dst 0
          (packElems (fmtWidth q.p.outFmt) ((passOutputs s t q []).map (·.code))) ∧
        RegsBut [regAddr (.array t) 0x08, regAddr (.array t) 0x30, regAddr (.array t) 0x38] s u ∧
        u = { s with tiles := u.tiles, regs := u.regs })

/-- The integer matrix product (R80, R89, R92): for integer operands, one dense problem and OUT_FMT INT32, output (m, n) is
the sum over the depth of (A − A_ZP) × (B − B_ZP), clamped to 32 bits. -/
def Sys2Proof.Claims.IntegerProductIsExact : Prop :=
  ∀ (s : State) (t : Nat) (x : Pass) (m n : Nat), isIntOperand x.p.aFmt = true → isIntOperand x.p.bFmt = true →
    x.p.outFmt = 0xA → x.p.problems = 1 → x.p.sparse = false → x.p.skip = false → x.p.scaleMode = 0 →
    m < x.p.m → n < x.p.n →
    let q := problemOf x.p x.a x.b x.c 0
    let sum := (List.range x.p.k).foldl (fun acc i => acc +
      (intVal x.p.aFmt (q.a.getD (m * x.p.k + i) 0) - x.p.aZp) * (intVal x.p.bFmt (q.b.getD (i * x.p.n + n) 0) - x.p.bZp)) 0
    ((passOutputs s t x [])[m * x.p.n + n]?).map (·.code) =
      some ((max (-2147483648) (min 2147483647 sum) % (2 ^ 32 : Nat)).toNat)

/-- Integer arithmetic: INT32 of VEC wraps, the integer product of MATMUL is exact and clamped. -/
def Obligations.IntegerArithmetic : Prop :=
  Claims.Int32Wraps ∧ Claims.IntegerProductIsExact

/-- QUANTISE (R85): the rotation and conversion of the elements of SRC0 lie in the destination, the task goes on, saturated
and special outputs are counted. With a lane mismatch LANE_MISMATCH is set and the fault counted besides, the outputs are
kept and the task continues (R92). QUANTISE completes
on any tile. -/
def Sys2Proof.Claims.QuantiseWrites : Prop :=
  (∀ (s : State) (t : Nat) (p : QuantP) (b : Bufs) (bad : Bool), t < 640 → quantOk p = true →
    Completes (.quantise t p b bad) s) ∧
  ∀ (s : State) (t : Nat) (p : QuantP) (b : Bufs) (k : Task), Ready s t k → quantOk p = true →
    ∃ u, Does (.quantise t p b false) s u ∧ NextRecord s u t k ∧
      WroteBuffer s u t k b.dst 0 (packElems (fmtWidth p.outFmt) ((quantOutputs p
        (bufRead s t (tileAt s t) k b.src0 0 (elemBytes (fmtWidth p.inFmt) p.elems))).map (·.code))) ∧
      RegsBut [regAddr (.array t) 0x08, regAddr (.array t) 0x30, regAddr (.array t) 0x38] s u ∧
      u = { s with tiles := u.tiles, regs := u.regs } ∧
    ∃ v, Does (.quantise t p b true) s v ∧ (tileAt v t).sram = (tileAt u t).sram ∧ (tileAt v t).task = some k.next ∧
      FlagUp v (.array t) 0x08 2 ∧ Counted s v (.array t) 0x20 1 ∧
      (∃ e, v.belfry.last = some e ∧ e.mech = 0x02 ∧ e.unit = t)

/-- SCALE_LOAD (R84, R111): entry BASE + i of the scale registers is word i of SRC0, every other entry and register stays,
and the task goes on, whatever the block's ENABLE. -/
def Sys2Proof.Claims.ScaleLoadWrites : Prop :=
  (∀ (s : State) (t base n : Nat) (b : Bufs), t < 640 → base + n ≤ 4096 → Completes (.scaleLoad t base n b) s) ∧
  ∀ (s : State) (t base n : Nat) (b : Bufs) (k : Task), Ready s t k → base + n ≤ 4096 →
    ∃ u, Does (.scaleLoad t base n b) s u ∧ NextRecord s u t k ∧ (tileAt u t).sram = (tileAt s t).sram ∧
      u = { s with tiles := u.tiles, regs := u.regs } ∧
      (∀ i, i < n → fld u (.scale t) (0x4000 + 8 * ((base + i) / 2)) (32 * ((base + i) % 2)) 32 =
        operand s t k b.src0 32 n i) ∧
      (∀ j, j < 4096 → (j < base ∨ base + n ≤ j) →
        fld u (.scale t) (0x4000 + 8 * (j / 2)) (32 * (j % 2)) 32 = fld s (.scale t) (0x4000 + 8 * (j / 2)) (32 * (j % 2)) 32) ∧
      (∀ a, a < regAddr (.scale t) 0x4000 ∨ regAddr (.scale t) 0x8000 ≤ a → tget u.regs a = tget s.regs a)

/-- MATMUL and the end of its pass, QUANTISE and SCALE_LOAD. -/
def Obligations.MatrixOperators : Prop :=
  Claims.MatmulBegins ∧ Claims.MatmulPassCompletes ∧ Claims.QuantiseWrites ∧ Claims.ScaleLoadWrites

/-! ### Selection -/

/-- SELECT of every mode (R144 to R149): the destination holds the record of the keys of SRC0, each with its implicit index
or with the one that SRC1 gives, and the task goes on; the sentinel's index, or one given twice, aborts the task with cause
0x1. SELECT completes whatever its result check finds (R151). -/
def Sys2Proof.Claims.SelectWrites : Prop :=
  (∀ (s : State) (t : Nat) (p : SelectP) (b : Bufs) (bad : Bool), t < 640 → selectOk p = true →
    Completes (.select t p b bad) s) ∧
  ∀ (s : State) (t : Nat) (p : SelectP) (b : Bufs) (k : Task), Ready s t k → selectOk p = true →
    (∀ bad, Completes (.select t p b bad) s) ∧
    (let idx := (List.range p.e).map (fun i =>
       if p.explicit then operand s t k b.src1 64 p.e i else (p.base + i) % 2 ^ 64)
     let all := (List.range p.e).map (fun i => ({ index := idx.getD i 0, source := 0,
                                                  key := operand s t k b.src0 (keyWidth p.keyType) p.e i } : SelEntry))
     (2 ^ 64 - 1 ∉ idx → idx.Nodup →
       ∃ u, Does (.select t p b false) s u ∧ NextRecord s u t k ∧ u = { s with tiles := u.tiles } ∧
         WroteBuffer s u t k b.dst 0 (selBytes
           (if p.mode < 2 then selectBest p.keyType (decide (p.mode = 1)) p.k all
            else selectThreshold p.keyType (decide (p.mode = 3)) p.k p.threshold all))) ∧
     (2 ^ 64 - 1 ∈ idx ∨ ¬ idx.Nodup → ∃ u, Does (.select t p b false) s u ∧ TaskAborted s u t k 1))

/-- The record of TOP and BOTTOM (R144, R147, R149): at most K entries, each of them one considered; as many as K or as
there are valid ones; no entry left out precedes one taken; and the counts of valid and NaN entries add up to all. -/
def Obligations.SelectTakesTheBest : Prop :=
  ∀ (ty : Nat) (bottom : Bool) (k : Nat) (all : List SelEntry), repeats (all.map (·.index)) = false →
    let r := selectBest ty bottom k all
    r.entries.length = min k r.valid ∧ r.valid + r.nan = all.length ∧ (∀ e ∈ r.entries, e ∈ all) ∧
    (∀ e ∈ r.entries, ∀ f ∈ all, keyNum ty f.key ≠ .nan → f ∉ r.entries → precedes ty bottom f e = false)

/-- MERGE (R152 to R154): of records that agree, the destination holds the merged record, and the task goes on; records
that do not agree, or an index in two lists with neither DEDUP nor DISJOINT, abort the task with cause 0x1. MERGE completes
whatever its result check finds. -/
def Sys2Proof.Claims.MergeWrites : Prop :=
  (∀ (s : State) (t : Nat) (p : MergeP) (b : Bufs) (bad : Bool), t < 640 → mergeOk p = true →
    Completes (.merge t p b bad) s) ∧
  ∀ (s : State) (t : Nat) (p : MergeP) (b : Bufs) (k : Task), Ready s t k → mergeOk p = true →
    (∀ bad, Completes (.merge t p b bad) s) ∧
    (let recs := (List.range p.lists).map (fun i => selParse (bufRead s t (tileAt s t) k b.src0 (i * p.stride) p.stride))
     let out := mergeRecs p.kOut (p.dedup || p.disjoint) recs
     (mergeInputsOk p recs = true → (out.2 = false ∨ p.dedup = true) →
       ∃ u, Does (.merge t p b false) s u ∧ NextRecord s u t k ∧ u = { s with tiles := u.tiles } ∧
         WroteBuffer s u t k b.dst 0 (selBytes out.1)) ∧
     (mergeInputsOk p recs = false ∨ (out.2 = true ∧ p.dedup = false ∧ p.disjoint = false) →
       ∃ u, Does (.merge t p b false) s u ∧ TaskAborted s u t k 1))

/-- SELECT and MERGE. -/
def Obligations.SelectionWrites : Prop :=
  Claims.SelectWrites ∧ Claims.MergeWrites

/-! ### Feature tables -/

/-- A GATHER_POOL operator that finds its table, its context open and its batch in order (R189, R193, R194). -/
def BatchReady (s : State) (t : Nat) (p : GatherP) (b : Bufs) (k : Task) (q : Batch) (gather update : Bool) : Prop :=
  Ready s t k ∧ gatherOk p gather update = true ∧ (ftabOf s p.table).cls ≠ 0 ∧ (ftabOf s p.table).ctx = k.ctx ∧
  ctxOpen s k.ctx = true ∧ readBatch s t (tileAt s t) k p b.src0 (if update then b.src2 else b.src1) = some q ∧
  batchOk s (ftabOf s p.table) p q (gather && !p.rowSrc) = true

/-- GATHER (R195 to R198, R209): the destination holds the 64-byte head (row numbers, unique rows, empty bags, the highest
multiplicity) and the pooled bags, from rows in SRC2 or from blocks of T1 that read well (R282), as they stand once every due
delta of a row is applied; with ROW_SRC buffer nothing but the buffer changes. GATHER completes whatever its
batch and whatever its rows hold. -/
def Sys2Proof.Claims.GatherPools : Prop :=
  (∀ (s : State) (t : Nat) (p : GatherP) (b : Bufs), t < 640 → gatherOk p true false = true → Completes (.gather t p b) s) ∧
  ∀ (s : State) (t : Nat) (p : GatherP) (b : Bufs) (k : Task) (q : Batch), BatchReady s t p b k q true false →
    ((ftabOf s p.table).cls = 2 → k.elastic = true) →
    (p.rowSrc = true ∨
      ∀ r ∈ uniqueRows q.rows, ∃ j, serveAt s k.ctx (!k.elastic) false (rowAddr s (ftabOf s p.table) r) = .keep j) →
    badRow s t k p (ftabOf s p.table) (uniqueRows q.rows) = none →
    ∃ u, Does (.gather t p b) s u ∧ NextRecord s u t k ∧
      (let y := ftabOf s p.table
       let rows := uniqueRows q.rows
       let bytes (i r : Nat) : List Byte :=
         if p.rowSrc then bufRead s t (tileAt s t) k b.src2 (i * y.stride) (y.dim * y.elemSize)
         else t1Read u k.ctx (rowAddr s y r) (y.dim * y.elemSize)
       let value (r e : Nat) : FNum :=
         match (List.range rows.length).find? (fun i => decide (rows.getD i 0 = r)) with
         | some i => (y.values (bytes i r)).getD e .zero
         | none => .zero
       let empty := ((List.range p.bags).filter (fun i => decide (q.offs.getD i 0 = q.offs.getD (i + 1) 0))).length
       let mult := (rows.map (fun r => q.rows.count r)).foldl max 0
       WroteBuffer s u t k b.dst 0 (toLE 8 q.rows.length ++ toLE 8 rows.length ++ toLE 8 empty ++ toLE 8 mult ++ zeros 32 ++
         packElems (fmtWidth p.outFmt) ((List.range p.bags).flatMap (fun i => (List.range y.dim).map (fun e =>
           poolElem p (combined (q.bag i)) (sumNums ((q.bag i).map (·.2))) (fun r => value r e))))) ∧
       (p.rowSrc = true → u = { s with tiles := u.tiles }) ∧
       (p.rowSrc = false → u = { s with tiles := u.tiles, regs := u.regs, tier := u.tier, feat := u.feat } ∧
         ∀ d ∈ u.feat.area, d.delta.table = p.table → d.delta.row ∈ rows → now s < d.due))

/-- Element e of the gradient of bag i in SRC1. -/
def bagGradient (s : State) (t : Nat) (k : Task) (p : GatherP) (b : Bufs) (dim i e : Nat) : FNum :=
  numOf 8 ((unpackWords 4 (p.bags * dim) (bufRead s t (tileAt s t) k b.src1 0 (4 * p.bags * dim))).getD (i * dim + e) 0)

/-- UPDATE (R204, R206): one delta for each unique row, ascending, kept with the task: element e is the exact sum, over
the bags that hold the row, of its combined weight there and the bag's gradient, rounded once to FP32; with MEAN a bag of
weight 0 does not count and a gradient is divided by its bag's weight first. Nothing else changes. UPDATE completes whatever its batch holds. -/
def Sys2Proof.Claims.UpdateMakesDeltas : Prop :=
  (∀ (s : State) (t : Nat) (p : GatherP) (b : Bufs), t < 640 → gatherOk p false true = true →
    epsOk (ftabOf s p.table).adagrad p.eps = true → Completes (.update t p b) s) ∧
  ∀ (s : State) (t : Nat) (p : GatherP) (b : Bufs) (k : Task) (q : Batch), BatchReady s t p b k q false true →
    (ftabOf s p.table).cls = 2 → k.elastic = true → epsOk (ftabOf s p.table).adagrad p.eps = true →
    (ctxConf s k.ctx = true → ∀ r ∈ uniqueRows q.rows, (ftabOf s p.table).home r = deviceId s) →
    ∃ (u : State) (ds : List DeltaRec), Does (.update t p b) s u ∧ u = { s with tiles := u.tiles } ∧ (∀ t', t' ≠ t → tileAt u t' = tileAt s t') ∧
      tileAt u t = { tileAt s t with task := some { k.next with deltas := k.deltas ++ ds } } ∧
      ds.map (·.row) = uniqueRows q.rows ∧
      (∀ d ∈ ds, d.table = p.table ∧ d.source = deviceId s ∧ d.lr = p.lr ∧ d.eps = p.eps ∧
        d.opt = (if (ftabOf s p.table).adagrad then 1 else 0) ∧ d.grad.length = (ftabOf s p.table).dim ∧
        ∀ e, e < (ftabOf s p.table).dim →
          (let weight (i : Nat) : FNum := sumNums ((q.bag i).map (·.2))
           let at_ := bagGradient s t k p b (ftabOf s p.table).dim
           d.grad[e]? = some (code32 (sumNums ((List.range p.bags).filterMap (fun i =>
             if p.mean = true ∧ isZero (weight i) = true then none
             else ((combined (q.bag i)).lookup d.row).map (fun c =>
               mulNum c (if p.mean then rne32 (divNum (at_ i e) (weight i)) else at_ i e))))))))

/-- UNIQUE (R195): the destination holds the distinct row numbers of the batch, ascending, in index-buffer form: their
count in bytes 0 to 3, the numbers from byte 8. -/
def Sys2Proof.Claims.UniqueListsRows : Prop :=
  (∀ (s : State) (t : Nat) (p : GatherP) (b : Bufs), t < 640 → gatherOk p false false = true → Completes (.unique t p b) s) ∧
  ∀ (s : State) (t : Nat) (p : GatherP) (b : Bufs) (k : Task) (q : Batch), BatchReady s t p b k q false false →
    ∃ (u : State) (rows : List Nat), Does (.unique t p b) s u ∧ rows.Pairwise (· < ·) ∧ (∀ r, r ∈ rows ↔ r ∈ q.rows) ∧
      NextRecord s u t k ∧ u = { s with tiles := u.tiles } ∧
      (let key := bufKey k.entry (decide (bufKind s k b.dst = 1) && decide (k.step % 2 = 0)) b.dst 0
       (∀ i, (h : i < (toLE 4 rows.length).length) → tget (tileAt u t).sram (key + i) = some (toLE 4 rows.length)[i]) ∧
       (∀ i, (h : i < (rows.flatMap (toLE 8)).length) →
         tget (tileAt u t).sram (key + 8 + i) = some (rows.flatMap (toLE 8))[i]) ∧
       (∀ a, a < key ∨ (key + 4 ≤ a ∧ a < key + 8) ∨ key + 8 + 8 * rows.length ≤ a →
         tget (tileAt u t).sram a = tget (tileAt s t).sram a))

/-- GATHER, UPDATE and UNIQUE. -/
def Obligations.FeatureOperators : Prop :=
  Claims.GatherPools ∧ Claims.UpdateMakesDeltas ∧ Claims.UniqueListsRows

/-- DELTA_APPLY (R208, R209): every due delta whose row is homed in the Keep leaves the delta area and no other does; only
T1 and the Keeps' counters of applied deltas change. A single due delta replaces its row's bytes by the updated ones. -/
def Sys2Proof.Claims.DeltaApplyApplies : Prop :=
  ∀ (s : State) (keep : Nat), keep < 32 →
    (let due (d : DueDelta) : Bool :=
       decide (d.due ≤ now s) && decide (rowKeep s (ftabOf s d.delta.table) d.delta.row = keep)
     ∃ u, Does (.deltaApply keep) s u ∧ u.feat = { s.feat with area := s.feat.area.filter (fun d => !due d) } ∧
      RegsBut ((List.range 32).map (fun j => regAddr (.keep j) 0x8000)) s u ∧
      u = { s with feat := u.feat, tier := u.tier, regs := u.regs } ∧
      (s.feat.area.filter due = [] → u.tier = s.tier ∧ u.regs = s.regs) ∧
      (∀ d, s.feat.area.filter due = [d] → Counted s u (.keep keep) 0x8000 1 ∧
        (let x := ftabOf s d.delta.table
         let a := rowAddr s x d.delta.row
         WroteMem s.tier.t1 u.tier.t1 (t1Key x.ctx a) (applyTo x d.delta (t1Read s x.ctx a x.rowBytes)))))

/-- REPLICATION_WINDOW (R200 to R203): at the boundary that opens a window the tracker empties, each Spire holds as
replicas rows that its tiles read at least HOT_HITS times and that fit in REPLICA_KIB, for this window. REPLICATION_WINDOW completes in
every state. -/
def Sys2Proof.Claims.ReplicationWindowChooses : Prop :=
  (∀ s : State, Completes .replicationWindow s) ∧
  ∀ s : State, hotWindow s ≠ 0 → enabled s .tier = true → s.img.awaiting = false → now s % hotWindow s = 0 →
    s.feat.chosenFor ≠ some (now s / hotWindow s) →
    ∃ u, Does .replicationWindow s u ∧
      u.feat = { s.feat with chosen := u.feat.chosen, chosenFor := some (now s / hotWindow s), tracker := [] } ∧
      (∀ p, p < 8 →
        (∀ r ∈ (spireAt u p).replicas, ∃ x ∈ s.feat.tracker, x.table = r.1 ∧ x.row = r.2 ∧
          fld s .tier 0x8000 16 16 ≤ x.counts.getD p 0) ∧
        2048 * replicaLines s (spireAt u p).replicas ≤ fld s .tier 0x8000 32 14 * 1024 ∧
        (spireAt u p).queue = (spireAt s p).queue ∧ (spireAt u p).lines <+: (spireAt s p).lines) ∧
      RegsBut ((List.range 32).map (fun j => regAddr (.keep j) 0x8010)) s u ∧
      u = { s with feat := u.feat, spires := u.spires, regs := u.regs }

/-- DELTA and DELTA_ACK of a device session (R207, R345): an acceptable delta enters the delta area, due in the next frame,
and its SEQ is the last of its series; an unacceptable one is discarded and counted; DELTA_ACK answers on the second
message queue. A DELTA_ACK releases what it covers, and nothing else changes. Both complete in every state. -/
def Sys2Proof.Claims.DeltasArrive : Prop :=
  (∀ (s : State) (n tag table seq : Nat) (ds : List DeltaRec), Completes (.delta n tag ds) s ∧
    Completes (.deltaAck n table seq) s) ∧
  (∀ (s : State) (n tag : Nat) (d : DeltaRec) (x : Session), sessAt s n = some x → epDevice s x.endpoint = true →
    (tget x.queues (x.firstMsgq + 1)).isSome = true →
    ∃ u, Does (.delta n tag [d]) s u ∧
      (deltaBad s d = false → u.feat.area = s.feat.area ++ [{ due := now s + 1, delta := d }] ∧
        tget u.feat.lastSeq (seqKey d) = some d.seq ∧ HandedBut [] { s with feat := u.feat } u) ∧
      (deltaBad s d = true → u.feat.area = s.feat.area ∧ u.feat.lastSeq = s.feat.lastSeq ∧ Counted s u .tier 0x8020 1 ∧
        FlagUp u .tier 0x8010 1 ∧ HandedBut [regAddr .tier 0x8020, regAddr .tier 0x8010] { s with feat := u.feat } u) ∧
      Out.msg n (x.firstMsgq + 1) 0x41 0 (toLE 2 (seqKey d / 16) ++ zeros 6 ++ toLE 8 d.seq) (now s) ∈ u.out) ∧
  (∀ (s : State) (n table seq : Nat) (x : Session), sessAt s n = some x → epDevice s x.endpoint = true →
    ∃ u, Does (.deltaAck n table seq) s u ∧ u = { s with feat := { s.feat with unacked := u.feat.unacked } } ∧
      ∀ d, d ∈ u.feat.unacked ↔
        d ∈ s.feat.unacked ∧ ¬ (d.1 = x.endpoint ∧ d.2.table = table ∧ d.2.seq ≤ seq))

/-- DELTA_APPLY, REPLICATION_WINDOW, DELTA and DELTA_ACK. -/
def Obligations.FeatureDeltas : Prop :=
  Claims.DeltaApplyApplies ∧ Claims.ReplicationWindowChooses ∧ Claims.DeltasArrive

/-! ### Streams -/

/-- STREAM_START and STREAM_WAIT (R111, R126 to R128): a stream begins with the elements its list or dimensions give, and
the task goes on; a wait goes on when the stream is complete and otherwise waits. Element i of an index list of N numbers,
N at most INDEX_MAX, lies at FAR_BASE + index × ROW_STRIDE and at i × SRAM_STRIDE of the buffer. Both complete on
any tile. -/
def Obligations.StreamsStart : Prop :=
  (∀ (s : State) (t idx : Nat), t < 640 → Completes (.streamWait t idx) s ∧
    ((∀ k, (tileAt s t).task = some k → streamDesc s k idx ≠ none) → Completes (.streamStart t idx) s)) ∧
  (∀ (s : State) (t idx : Nat) (k : Task) (d : StreamDesc), Ready s t k → streamDesc s k idx = some d →
    enabled s (streamBlk d t) = true → (d.write = true → d.farTier < 2) →
    (∀ r ∈ (tileAt s t).streams, r.index = idx → r.done = true) →
    ∃ u, Does (.streamStart t idx) s u ∧ (∀ t', t' ≠ t → tileAt u t' = tileAt s t') ∧
      tileAt u t = { tileAt s t with
        task := some k.next, history := (tileAt u t).history,
        streams := (tileAt s t).streams.filter (fun q => !(decide (q.index = idx) && q.done)) ++
          [newRun s t (tileAt s t) k idx d] } ∧
      (k.entry, now s) ∈ (tileAt u t).history ∧ Handed { s with tiles := u.tiles } u ∧
      (d.farTier ≠ 3 → u = { s with tiles := u.tiles })) ∧
  (∀ (s : State) (t idx : Nat) (x : Tile) (k : Task) (d : StreamDesc), d.kind = 1 →
    leNat (bufRead s t x k d.indexBuf 0 4) ≤ d.indexMax →
    (newRun s t x k idx d).tooMany = false ∧
    (newRun s t x k idx d).elems.length = leNat (bufRead s t x k d.indexBuf 0 4) ∧
    ∀ i, i < leNat (bufRead s t x k d.indexBuf 0 4) →
      (newRun s t x k idx d).elems[i]? = some
        ((d.farBase + leNat (bufRead s t x k d.indexBuf (8 + i * (if d.idx64 then 8 else 4)) (if d.idx64 then 8 else 4)) *
            d.rowStride) % 2 ^ 64, i * d.sramStride, d.rowBytes)) ∧
  (∀ (s : State) (t idx : Nat) (k : Task) (r : StreamRun), Ready s t k →
    (tileAt s t).streams.find? (fun r => decide (r.index = idx) && decide (r.entry = k.entry)) = some r →
    ∃ u, Does (.streamWait t idx) s u ∧ u = { s with tiles := u.tiles } ∧ (∀ t', t' ≠ t → tileAt u t' = tileAt s t') ∧
      (r.done = true → tileAt u t = { tileAt s t with task := some k.next }) ∧
      (r.done = false → tileAt u t = { tileAt s t with task := some { k with waitStream := some idx } }))

/-- STREAM_COMPLETE, and POOL_READ_COMPLETE in time and without failure (R126, R128, R129, R142, R209, R295): the stream is
done, its charged bytes and its elements are counted, a read changes SRAM at its elements only and no byte of T1 but the
rows of due deltas, a write T1 at its elements only and SRAM nowhere, and a T0 stream copies within SRAM; a single element
holds the data moved, as the rows stand once their due deltas are applied. A failed pool read counts as T2_FAIL; one that
misses its landing completes too. Both complete on any
tile. -/
def Obligations.StreamsLand : Prop :=
  (∀ (s : State) (t idx : Nat) (failed late : Bool), t < 640 → Completes (.streamComplete t idx) s ∧
    Completes (.poolReadComplete t idx failed late) s) ∧
  (∀ (s : State) (t idx : Nat) (r : StreamRun) (c : Instr), t < 640 → runAt s t idx = some r → r.tooMany = false →
    firstFault s r (runSize s t r) = none → missing s t r = [] → awaited s r = [] →
    (c = .streamComplete t idx ∨ (c = .poolReadComplete t idx false false ∧ r.desc.farTier = 2 ∧
      now s < r.frame + r.desc.landFrames)) →
    (r.desc.farTier = 2 → r.desc.write = false) →
    ∃ u, Does c s u ∧ Counted s u (streamBlk r.desc t) 0x10 (chargedBytes r) ∧
      Counted s u (streamBlk r.desc t) 0x18 r.elems.length ∧
      (∀ q ∈ (tileAt u t).streams, q.index = r.index → q.entry = r.entry → q.frame = r.frame → q.done = true) ∧
      (∀ t', t' ≠ t → tileAt u t' = tileAt s t') ∧
      u = { s with tiles := u.tiles, tier := u.tier, spires := u.spires, regs := u.regs, feat := u.feat } ∧
      ((r.desc.farTier % 2 = 1 → r.desc.write = false → ∀ d ∈ s.feat.area, now s < d.due) →
        u.feat = s.feat ∧ (r.desc.write = false ∨ r.desc.farTier = 0 → u.tier = s.tier) ∧
        RegsBut [regAddr (streamBlk r.desc t) 0x10, regAddr (streamBlk r.desc t) 0x18,
          regAddr (.wcache (tileSpire t)) 0x18] s u) ∧
      (let at_ (o : Nat) := bufKey r.entry r.wrHalf r.desc.sramBuf o
       (r.desc.farTier = 0 →
         (∀ e, r.elems = [e] → WroteSram (tileAt s t).sram (tileAt u t).sram
           (at_ (if r.desc.write then e.1 else e.2.1))
           (sramRead (tileAt s t) t r (if r.desc.write then e.2.1 else e.1) e.2.2))) ∧
       (r.desc.farTier ≠ 0 → r.desc.write = false →
         (∀ a, (∀ e ∈ r.elems, a < at_ e.2.1 ∨ at_ e.2.1 + e.2.2 ≤ a) →
           tget (tileAt u t).sram a = tget (tileAt s t).sram a) ∧
         (∀ e, r.elems = [e] → WroteSram (tileAt s t).sram (tileAt u t).sram (at_ e.2.1)
           (if r.desc.farTier = 2 then t2Read s e.1 e.2.2 else farRead u r e.1 e.2.2))) ∧
       (r.desc.farTier ≠ 0 → r.desc.write = true → (tileAt u t).sram = (tileAt s t).sram ∧
         (∀ a, (∀ e ∈ r.elems, a < t1Key r.ctx e.1 ∨ t1Key r.ctx e.1 + e.2.2 ≤ a) →
           memByte u.tier.t1 a = memByte s.tier.t1 a) ∧
         (∀ e, r.elems = [e] → WroteMem s.tier.t1 u.tier.t1 (t1Key r.ctx e.1)
           (sramRead (tileAt s t) t r e.2.1 e.2.2))))) ∧
  (∀ (s : State) (t idx : Nat) (r : StreamRun) (late : Bool), t < 640 → runAt s t idx = some r → r.desc.farTier = 2 →
    late = decide (r.frame + r.desc.landFrames ≤ now s) →
    (∃ u, Does (.poolReadComplete t idx true late) s u ∧ Counted s u .flash 0x50 1 ∧ FlagUp u .flash 0x08 5 ∧
      Counted s u .tier 0x128 1) ∧
    (r.tooMany = false → firstFault s r (runSize s t r) = none → missing s t r = [] →
      Completes (.poolReadComplete t idx false late) s))

/-- STREAM_FAULT of causes 1 and 2, INDEX_RANGE and ADDRESS, in the task that started the stream (R42, R136): the task
aborts, FAULT and STREAM_FAULT_ADDR name it, TILE_ABORT's event is set, the request completes with FAULT at once, and no
other request changes. STREAM_FAULT completes on any tile. -/
def Sys2Proof.Claims.StreamFaultAborts : Prop :=
  (∀ (s : State) (t idx cause : Nat) (addr : Word), t < 640 → Completes (.streamFault t idx cause addr) s) ∧
  ∀ (s : State) (t idx cause : Nat) (addr : Word) (r : StreamRun) (k : Task) (q : Request), t < 640 →
    runAt s t idx = some r → (cause = 1 ∨ cause = 2) → faultAt s t r cause addr.toNat = true →
    (∀ i c l, firstFault s r (runSize s t r) = some (i, c, l) → l = false) →
    (tileAt s t).task = some k → k.entry = r.entry → k.frame = r.frame → k.complete = false →
    reqAt s k.entry = some q → q.state ≠ .ending → q.sentFrame = none →
    ∃ u, Does (.streamFault t idx cause addr) s u ∧ (tileAt u t).task = none ∧ (tileAt u t).run = .idle ∧
      FlagUp u (streamBlk r.desc t) 0x08 1 ∧ reg u (streamBlk r.desc t) 0x20 = addr ∧ FlagUp u (.tile t) 0x08 1 ∧
      Counted s u (.tile t) 0x28 1 ∧ fld u (.tile t) 0x18 0 4 = cause ∧
      (∃ q', reqAt u k.entry = some q' ∧ q'.status = stFault ∧ q'.sentFrame = some (now s) ∧ q'.state = .ending) ∧
      (∀ e, e ≠ k.entry → reqAt u e = reqAt s e) ∧ (∀ f ∈ u.hold, f ∈ s.hold ∧ f.entry ≠ k.entry) ∧
      u.flash = s.flash ∧ u.sec = s.sec ∧ u.img = s.img ∧ u.dev = s.dev ∧ u.pins = s.pins

/-- LINE_FILL (R133) completes with any error and without one. Without an uncorrectable error one miss is counted, each further waiting tile as coalesced; the line is
the most recently used of its Spire where there is room, and every waiting stream has it; a corrected error sets its
event. -/
def Sys2Proof.Claims.LineFillServes : Prop :=
  ∀ (s : State) (p line : Nat) (tiles : List Nat) (ecc : Nat), p < 8 → tiles ≠ [] →
    (∀ t ∈ tiles, t < 640 ∧ tileSpire t = p ∧ (waitsLine s line t).isSome = true) → enabled s (.wcache p) = true →
    Completes (.lineFill p line tiles 2) s ∧ (ecc < 2 → ∃ u, Does (.lineFill p line tiles ecc) s u ∧ Counted s u (.wcache p) 0x20 1 ∧
      Counted s u (.wcache p) 0x28 (tiles.length - 1) ∧ (ecc = 1 → FlagUp u (.wcache p) 0x08 1) ∧
      spireAt u p = { spireAt s p with
        lines := (line :: (spireAt s p).lines).take
          (32768 - pinnedLines s p - replicaLines s (spireAt s p).replicas) } ∧
      (∀ t r, t ∈ tiles → waitsLine s line t = some r →
        ∃ q ∈ (tileAt u t).streams, q.index = r.index ∧ q.entry = r.entry ∧ line ∈ q.filled) ∧
      (∀ t, t ∉ tiles → tileAt u t = tileAt s t) ∧
      (∀ t, tileAt u t = { tileAt s t with streams := (tileAt u t).streams }) ∧
      RegsBut [regAddr (.wcache p) 0x20, regAddr (.wcache p) 0x28, regAddr (.wcache p) 0x08] s u ∧
      u = { s with regs := u.regs, spires := u.spires, tiles := u.tiles })

/-- STREAM_FAULT and LINE_FILL. -/
def Obligations.StreamTrouble : Prop :=
  Claims.StreamFaultAborts ∧ Claims.LineFillServes

/-! ### Tokens, loops and the end of a task -/

/-- A token posted by tile `t` for task `k` (R116, R117): it names its request and its route, carries the data given, and is
visible to its consumer from the next frame. -/
def Posted (s : State) (t : Nat) (k : Task) (route rank : Nat) (data : List Byte) (j : Token) : Prop :=
  j.entry = k.entry ∧ j.ctx = k.ctx ∧ j.route = route ∧ j.srcTile = t ∧ j.srcRank = k.rank ∧ j.dstRank = rank ∧
  j.data = data ∧ j.bytes = data.length ∧ j.visible = now s + 1 ∧ j.seed = false ∧ j.elastic = k.elastic

/-- SEND and SEND_AFTER_CREDIT (R116, R118): with a credit, one is taken and one token with the bytes of SRC0 waits with
the task's outputs; with none left, the task waits; nothing else changes. -/
def Sys2Proof.Claims.SendTakesCredit : Prop :=
  (∀ (s : State) (t : Nat), t < 640 → Completes (.sendAfterCredit t) s) ∧
  (∀ (s : State) (t bytes route rank : Nat) (b : Bufs) (k : Task) (r : RouteRec), routeAt s route = some r → Ready s t k →
    routeOk s k r rank = true → bytes ≤ r.creditBytes →
    ∃ u, Does (.send t bytes route rank b) s u ∧ u = { s with tiles := u.tiles } ∧
      (∀ t', t' ≠ t → tileAt u t' = tileAt s t') ∧
      (creditsLeft s t route ≠ 0 → ∃ j, Posted s t k route rank (bufRead s t (tileAt s t) k b.src0 0 bytes) j ∧
        tileAt u t = { tileAt s t with task := some { k.next with tokens := k.tokens ++ [j] }, spent := (tileAt u t).spent } ∧
        creditsLeft u t route = creditsLeft s t route - 1 ∧
        ∀ i, i ≠ route → creditsLeft u t i = creditsLeft s t i) ∧
      (creditsLeft s t route = 0 → tileAt u t = { tileAt s t with task := some { k with
        waiting := some { bytes := bytes, route := route, rank := rank, src := b.src0 } } })) ∧
  (∀ (s : State) (t : Nat) (k : Task) (w : WaitingSend), t < 640 → (tileAt s t).task = some k → k.waiting = some w →
    (tileAt s t).run = .running → creditsLeft s t w.route ≠ 0 →
    ∃ (u : State) (j : Token), Does (.sendAfterCredit t) s u ∧ u = { s with tiles := u.tiles } ∧
      (∀ t', t' ≠ t → tileAt u t' = tileAt s t') ∧
      Posted s t k w.route w.rank (bufRead s t (tileAt s t) k w.src 0 w.bytes) j ∧
      tileAt u t = { tileAt s t with
        task := some { k.next with tokens := k.tokens ++ [j], waiting := none }, spent := (tileAt u t).spent } ∧
      creditsLeft u t w.route = creditsLeft s t w.route - 1 ∧
      ∀ i, i ≠ w.route → creditsLeft u t i = creditsLeft s t i)

/-- ROUTE_ROWS (R114): the rows of SRC0, or in a later step those kept in SRC2, leave in order, one token each with its row
number in front, while the route has credits; the others are kept in a PERSIST SRC2 (their form is log entry 20). A row goes
to the rank that SRC1 names; what a number that names none gives is free (log entry 80). -/
def Sys2Proof.Claims.RouteRowsSendsInOrder : Prop :=
  ∀ (s : State) (t route rowBytes rows : Nat) (b : Bufs) (k : Task) (r : RouteRec), routeAt s route = some r →
    Ready s t k → routeOk s k r 0 = true → 8 + rowBytes ≤ r.creditBytes →
    (let x := tileAt s t
     let list : List (Nat × Nat × List Byte) :=
       if k.step = 0 then (List.range rows).map (fun i =>
         (i, rowRank s route r ((unpackWords 4 rows (bufRead s t x k b.src1 0 (4 * rows))).getD i 0),
          bufRead s t x k b.src0 (i * rowBytes) rowBytes))
       else (List.range (leNat (bufRead s t x k b.src2 0 4))).map (fun i =>
         let e := bufRead s t x k b.src2 (8 + i * (16 + rowBytes)) (16 + rowBytes)
         (fieldLE e 0 8, rowRank s route r (fieldLE e 8 4), e.drop 16))
     let n := creditsLeft s t route
     (list.length ≤ n ∨ bufKind s k b.src2 = 1) →
     ∃ (u : State) (js : List Token), Does (.routeRows t route rowBytes rows b) s u ∧ u = { s with tiles := u.tiles } ∧
       (∀ t', t' ≠ t → tileAt u t' = tileAt s t') ∧
       js.length = min n list.length ∧
       (∀ (i : Nat) (j : Token) (q : Nat × Nat × List Byte), js[i]? = some j → list[i]? = some q → Posted s t k route q.2.1 (toLE 8 q.1 ++ q.2.2) j) ∧
       tileAt u t = { x with
         task := some { k.next with tokens := k.tokens ++ js }, spent := (tileAt u t).spent, sram := (tileAt u t).sram } ∧
       creditsLeft u t route = n - js.length ∧
       (bufKind s k b.src2 ≠ 1 → (tileAt u t).sram = x.sram) ∧
       (bufKind s k b.src2 = 1 → WroteBuffer s u t k b.src2 0 (toLE 4 (list.length - n) ++ zeros 4 ++
         (list.drop n).flatMap (fun (q : Nat × Nat × List Byte) => toLE 8 q.1 ++ toLE 4 q.2.1 ++ zeros 4 ++ q.2.2))))

/-- SEND, SEND_AFTER_CREDIT and ROUTE_ROWS. -/
def Obligations.SendsTokens : Prop :=
  Claims.SendTakesCredit ∧ Claims.RouteRowsSendsInOrder

/-- The task of tile `t` stands as given, and nothing else has changed. -/
def OnlyTask (s u : State) (t : Nat) (k : Task) : Prop :=
  tileAt u t = { tileAt s t with task := some k } ∧ (∀ t', t' ≠ t → tileAt u t' = tileAt s t') ∧
  u = { s with tiles := u.tiles }

/-- The task of tile `t` is complete, its tile idle and the task counted; nothing else has changed. -/
def TaskEnds (s u : State) (t : Nat) (k : Task) : Prop :=
  tileAt u t = { tileAt s t with task := some { k with complete := true }, run := .idle, passes := [] } ∧
  (∀ t', t' ≠ t → tileAt u t' = tileAt s t') ∧ Counted s u (.tile t) 0x20 1 ∧ RegsBut [regAddr (.tile t) 0x20] s u ∧
  u = { s with tiles := u.tiles, regs := u.regs }

/-- LOOP, END_LOOP, EXIT_IF and EMIT (R111, R113, R135): where the program goes on, with nothing else changed but the task
and, when it completes, its tile; EXIT_IF of the task goes to the program's end while something of the task is under way. Each completes on any tile. -/
def Sys2Proof.Claims.ControlRecords : Prop :=
  (∀ (s : State) (t n bytes : Nat) (b : Bufs) (w : Word) (test fmt scope : Nat), t < 640 → 1 ≤ n → n ≤ 16777216 →
    Completes (.loop t n) s ∧ Completes (.endLoop t) s ∧ Completes (.emit t bytes b) s ∧
    (test < 4 → scope < 2 → fmtWidth fmt ≠ 0 → Completes (.exitIf t test fmt scope w b) s)) ∧
  (∀ (s : State) (t trip : Nat) (k : Task), Ready s t k → 1 ≤ trip → trip ≤ 16777216 → k.loops.length < 4 →
    ∃ u, Does (.loop t trip) s u ∧ OnlyTask s u t { k with pos := k.pos + 1, loops := (k.pos + 1, trip) :: k.loops }) ∧
  (∀ (s : State) (t : Nat) (k : Task) (body left : Nat) (rest : List (Nat × Nat)), Ready s t k →
    k.loops = (body, left) :: rest →
    ∃ u, Does (.endLoop t) s u ∧
      (1 < left → OnlyTask s u t { k with pos := body, loops := (body, left - 1) :: rest }) ∧
      (left ≤ 1 → OnlyTask s u t { k with pos := k.pos + 1, loops := rest })) ∧
  (∀ (s : State) (t test fmt scope : Nat) (threshold : Word) (b : Bufs) (k : Task), Ready s t k → test < 4 → scope < 2 →
    fmtWidth fmt ≠ 0 →
    (let holds := exitTest test (numOf fmt (operand s t k b.src0 (fmtWidth fmt) 1 0))
       (numOf fmt (threshold.toNat % 2 ^ fmtWidth fmt))
     (holds = false → ∃ u, Does (.exitIf t test fmt scope threshold b) s u ∧ OnlyTask s u t k.next) ∧
     (holds = true → scope = 0 → ∀ l rest, k.loops = l :: rest →
       ∃ u, Does (.exitIf t test fmt scope threshold b) s u ∧ OnlyTask s u t { k with loops := rest, pos :=
         ((programOf s k).map (fun p => afterLoop (p.ops.drop (k.pos + 1)) 0 (k.pos + 1))).getD (k.pos + 1) }) ∧
     (holds = true → scope = 1 →
       ∃ u, Does (.exitIf t test fmt scope threshold b) s u ∧
         (taskSettled (tileAt s t) k = true → TaskEnds s u t k) ∧
         (taskSettled (tileAt s t) k = false →
           OnlyTask s u t { k with loops := [], pos := ((programOf s k).map (·.ops.length)).getD (k.pos + 1) })))) ∧
  (∀ (s : State) (t bytes : Nat) (b : Bufs) (k : Task), Ready s t k →
    ∃ u, Does (.emit t bytes b) s u ∧
      OnlyTask s u t { k.next with frags := k.frags ++ [bufRead s t (tileAt s t) k b.src0 0 bytes] })

/-- TASK_COMPLETE with nothing of the task under way (R135), and CONTEXT_SWITCH_COMPLETE (R138): the incoming context
occupies the tile with the SRAM and vector registers of its save, empty where it has none, and the save is used up. Both complete on any
tile. -/
def Sys2Proof.Claims.TaskAndSwitchComplete : Prop :=
  (∀ (s : State) (t : Nat), t < 640 → Completes (.taskComplete t) s ∧ Completes (.contextSwitchComplete t) s) ∧
  (∀ (s : State) (t : Nat) (k : Task), Ready s t k → taskSettled (tileAt s t) k = true → k.loops = [] →
    ∃ u, Does (.taskComplete t) s u ∧ TaskEnds s u t k) ∧
  (∀ (s : State) (t c f : Nat), t < 640 → (tileAt s t).switch = some (c, f) → (tileAt s t).run = .switching →
    ∃ u, Does (.contextSwitchComplete t) s u ∧ FlagUp u (.tile t) 0x08 3 ∧
      (let save := tget s.tier.saves (c * 640 + t)
       tileAt u t = { tileAt s t with
         run := .idle, occupant := some c,
         sram := (save.map (·.sram)).getD [], vregs := (save.map (·.vregs)).getD [] } ∧
       (save = none → (∀ i, i < 2048 → reg u (.scale t) (0x4000 + 8 * i) = 0) ∧
         ∀ a, a < regAddr (.scale t) 0x4000 ∨ regAddr (.scale t) 0x8000 ≤ a → a ≠ regAddr (.tile t) 0x08 →
           tget u.regs a = tget s.regs a) ∧
       (∀ v, save = some v → Table.sorted v.scales = true → ∀ e ∈ v.scales, e.1 < 16384 →
         reg u (.scale t) (0x4000 + e.1) = e.2)) ∧
      (∀ t', t' ≠ t → tileAt u t' = tileAt s t') ∧ tget u.tier.saves (c * 640 + t) = none ∧
      u = { s with tiles := u.tiles, regs := u.regs, tier := { s.tier with saves := u.tier.saves } })

/-- The control records and the ends of tasks and context switches. -/
def Obligations.TasksRun : Prop :=
  Claims.ControlRecords ∧ Claims.TaskAndSwitchComplete

/-! ### Index changes and text -/

/-- A PRIVILEGED session changes an index in service, in Ivory or Amber (R341); its slots are those of R160. -/
def IndexSession (s : State) (n ref : Nat) (x : Session) (h : IndexHdr) : Prop :=
  PrivSession s n x ∧ serving s = true ∧ indexAt s ref = some h ∧ h.shape.slots ≤ 2 ^ 40

/-- Only one index changed, its current and previous versions stand, and messages left. -/
def IndexOnly (s u : State) (ref : Nat) : Prop :=
  (indexSt u ref).version = (indexSt s ref).version ∧ (indexSt u ref).cur = (indexSt s ref).cur ∧
  (indexSt u ref).prev = (indexSt s ref).prev ∧ (∀ r, r ≠ ref → indexSt u r = indexSt s r) ∧
  Handed { s with search := u.search } u

/-- DELETE, FILTER_WRITE and PUBLISH (R170 to R172, R341): a change that need not wait is in the spare copy, where it
clears the live bits or holds the bytes and leaves every other bit; a publication is ordered as the next version, and
without a change creates none; a change that must wait is held. The versions that queries read stay. Each completes in
every state. -/
def Sys2Proof.Claims.IndexChanges : Prop :=
  (∀ (s : State) (n tag ref f offset : Nat) (passages : List Nat) (bytes : List Byte),
    Completes (.delete n tag ref passages) s ∧ Completes (.filterWrite n tag ref f offset bytes) s ∧
    Completes (.publish n tag ref) s) ∧
  (∀ (s : State) (n tag ref : Nat) (passages : List Nat) (x : Session) (h : IndexHdr), IndexSession s n ref x h →
    (∀ p ∈ passages, p < h.shape.slots) → secondMap s ref 0 = false → (indexSt s ref).held = [] →
    mustWait s ref (indexSt s ref) = false →
    ∃ u m, Does (.delete n tag ref passages) s u ∧ IndexOnly s u ref ∧ (indexSt u ref).spare = some m ∧
      (∀ p, mapBit s h m 0 p = (mapBit s h ((indexSt s ref).spare.getD (indexSt s ref).cur) 0 p && !(passages.contains p))) ∧
      (∀ f p, 1 ≤ f → mapBit s h m f p = mapBit s h ((indexSt s ref).spare.getD (indexSt s ref).cur) f p) ∧
      Out.msg n x.firstMsgq 0x87 tag (toLE 1 0 ++ zeros 7 ++ toLE 8 0) (now s) ∈ u.out) ∧
  (∀ (s : State) (n tag ref f offset : Nat) (bytes : List Byte) (x : Session) (h : IndexHdr), IndexSession s n ref x h →
    (f = 0 ∨ h.shape.filters.contains f = true) → offset + bytes.length ≤ h.mapBytes → secondMap s ref f = false →
    (indexSt s ref).held = [] → mustWait s ref (indexSt s ref) = false →
    ∃ u m, Does (.filterWrite n tag ref f offset bytes) s u ∧ IndexOnly s u ref ∧ (indexSt u ref).spare = some m ∧
      (indexSt u ref).changing = some f ∧
      (∀ g b, b < 2 ^ 40 → mapByte s h m g b =
        if g = f ∧ offset ≤ b ∧ b < offset + bytes.length then bytes.getD (b - offset) 0
        else mapByte s h ((indexSt s ref).spare.getD (indexSt s ref).cur) g b) ∧
      Out.msg n x.firstMsgq 0x87 tag (toLE 1 0 ++ zeros 7 ++ toLE 8 0) (now s) ∈ u.out) ∧
  (∀ (s : State) (n tag ref : Nat) (passages : List Nat) (x : Session) (h : IndexHdr), IndexSession s n ref x h →
    (∀ p ∈ passages, p < h.shape.slots) → secondMap s ref 0 = false →
    ((indexSt s ref).held ≠ [] ∨ mustWait s ref (indexSt s ref) = true) →
    ∃ u, Does (.delete n tag ref passages) s u ∧ IndexOnly s u ref ∧ (indexSt u ref).spare = (indexSt s ref).spare ∧
      (indexSt u ref).held.length = (indexSt s ref).held.length + 1 ∧ u.out = s.out) ∧
  (∀ (s : State) (n tag ref : Nat) (x : Session) (h : IndexHdr), IndexSession s n ref x h →
    ((indexSt s ref).changing = none ∨ (indexSt s ref).held = []) →
    ∃ u, Does (.publish n tag ref) s u ∧ IndexOnly s u ref ∧ (indexSt u ref).spare = (indexSt s ref).spare ∧
      ((indexSt s ref).changing = none → indexSt u ref = indexSt s ref ∧
        Out.msg n x.firstMsgq 0x87 tag (toLE 1 0 ++ zeros 7 ++ toLE 8 (indexSt s ref).version) (now s) ∈ u.out) ∧
      ((indexSt s ref).changing ≠ none → (indexSt u ref).publishAt = some (now s) ∧ (indexSt u ref).changing = none ∧
        Out.msg n x.firstMsgq 0x87 tag (toLE 1 0 ++ zeros 7 ++ toLE 8 ((indexSt s ref).version + 1)) (now s) ∈ u.out))

/-- CHANGE_APPLIED (R172): the oldest held change leaves the queue: a change is in the spare copy, a publication is ordered.
EDGE_REPAIR (R178): the repair is done once; where it changes an edge, the adjacency slot that the current version does not
read becomes valid from the next version, which is ordered; no session, request or register changes. Both complete in
every state. -/
def Sys2Proof.Claims.HeldChangesAndRepair : Prop :=
  (∀ (s : State) (ref : Nat), Completes (.changeApplied ref) s ∧ Completes (.edgeRepair ref) s) ∧
  (∀ (s : State) (ref : Nat) (h : IndexHdr) (c : HeldChange) (rest : List HeldChange), indexAt s ref = some h →
    (indexSt s ref).held = c :: rest → (c.isPublish = true ∨ mustWait s ref (indexSt s ref) = false) →
    ∃ u, Does (.changeApplied ref) s u ∧ IndexOnly s u ref ∧ (indexSt u ref).held = rest ∧
      (c.isPublish = true → (indexSt u ref).publishAt = some (now s) ∧ (indexSt u ref).spare = (indexSt s ref).spare) ∧
      (c.isPublish = false → (indexSt u ref).publishAt = (indexSt s ref).publishAt ∧ (indexSt u ref).spare.isSome = true)) ∧
  (∀ (s : State) (ref : Nat) (h : IndexHdr), indexAt s ref = some h → serving s = true →
    (indexSt s ref).repairDue = true → (indexSt s ref).spare = none → (indexSt s ref).held = [] →
    mustWait s ref (indexSt s ref) = false →
    (let ix := indexSt s ref
     let due (y : Nat) : Bool := decide (y < h.shape.slots) && mapBit s h ix.cur 0 y &&
       decide ((repairEdges s h ix.cur ix.version y).map (·.1) ≠ (neighbours s h y ix.version).map (·.1))
     (∀ y v, due y = true → v ∈ boundVersions s ref → validFrom s h y (adjSlot s h y ix.version) ≤ v) →
     ∃ u, Does (.edgeRepair ref) s u ∧ (indexSt u ref).repairDue = false ∧
       (∀ r, r ≠ ref → indexSt u r = indexSt s r) ∧
       ((∀ y, due y = false) → indexSt u ref = { ix with repairDue := false } ∧ u.tier = s.tier ∧ u.flash = s.flash) ∧
       ((∃ y, due y = true) → (indexSt u ref).publishAt = some (now s) ∧ (indexSt u ref).cur = ix.cur ∧
         (indexSt u ref).spare = some ix.cur) ∧
       (h.img.resident = true → ∀ y, due y = true → validFrom u h y (1 - adjSlot s h y ix.version) = (ix.version + 1) % 2 ^ 64) ∧
       u = { s with search := u.search, tier := { s.tier with t1 := u.tier.t1 },
                    flash := { s.flash with data := u.flash.data, seals := u.flash.seals } }))

/-- Changes of an index: DELETE, FILTER_WRITE, PUBLISH, CHANGE_APPLIED, EDGE_REPAIR. -/
def Obligations.IndexMaintenance : Prop :=
  Claims.IndexChanges ∧ Claims.HeldChangesAndRepair

/-- The text engine takes the oldest job part of an entry, with its vocabulary, of a request that still runs (R229). -/
def TextReady (s : State) (kind : Nat) (j : TextJob) (r : Request) (v : Vocab) : Prop :=
  enabled s .text = true ∧ s.text.queue.find? (fun q => decide (q.entry = j.entry)) = some j ∧ j.kind = kind ∧
  j.reservedZero = true ∧ reqAt s j.entry = some r ∧ r.produced = none ∧ vocabAt s j.vocab = some v ∧
  j.first = !(openJob s j.entry j.job).isSome ∧ (∀ o, openJob s j.entry j.job = some o → o.kind = j.kind)

/-- The bytes of a job's parts so far, with those of the part that runs, and the jobs of others (R228). -/
def partBytes (s : State) (j : TextJob) : List Byte := ((openJob s j.entry j.job).map (·.bytes)).getD [] ++ j.bytes
def otherJobs (s : State) (j : TextJob) : List OpenJob :=
  s.text.jobs.filter (fun o => !(decide (o.entry = j.entry) && decide (o.job = j.job)))

/-- TOKENIZE and DETOKENIZE (R219 to R226, R228, R229, R231): a part joins its job; the last part of a tokenization leaves one
output with the tokens of all its bytes, which a search after its shortlist keeps for its packing (R184); the last of a
detokenization appends its tokens' bytes to the history up to the first stop, which ends the generation and undoes the
tokens after it; a unit whose lanes disagree is a dangerous detection that names the request. A part of either
kind completes in every state. -/
def Obligations.TextJobsRun : Prop :=
  (∀ (s : State) (j : TextJob) (lane : Option Nat), (∀ l, lane = some l → l < 8) →
    (j.kind = 1 → Completes (.tokenize j lane) s) ∧ (j.kind = 2 → Completes (.detokenize j lane) s)) ∧
  (∀ (s : State) (j : TextJob) (r : Request) (v : Vocab), TextReady s 1 j r v →
    ∃ u, Does (.tokenize j none) s u ∧ u.text.queue = s.text.queue.erase j ∧
      RegsBut [regAddr .text 0x300, regAddr .text 0x308, regAddr .text 0x310, regAddr .text 0x318, regAddr .text 0x08] s u ∧
      u = { s with text := u.text, regs := u.regs, reqs := u.reqs } ∧ Counted s u .text 0x308 j.bytes.length ∧
      (∀ e, e ≠ j.entry → reqAt u e = reqAt s e) ∧
      (let toks := tokenizeBytes v (partBytes s j)
       (j.last = false → u.text.outputs = s.text.outputs ∧ u.reqs = s.reqs ∧
         u.text.jobs = otherJobs s j ++ [{ entry := j.entry, kind := 1, job := j.job, bytes := partBytes s j }]) ∧
       (j.last = true → u.text.jobs = otherJobs s j ∧ Counted s u .text 0x300 1 ∧
         reqAt u j.entry = some (if packing r j then { r with packed := tset r.packed j.job toks.1 } else r) ∧
         u.text.outputs = s.text.outputs ++ [(j.entry, j.route, j.replyRank, toLE 4 j.job ++
           toLE 4 toks.1.length ++ toLE 4 toks.2 ++ zeros 20 ++ toks.1.flatMap (toLE 4))]))) ∧
  (∀ (s : State) (j : TextJob) (r : Request) (v : Vocab), TextReady s 2 j r v → r.endReason = none →
    j.bytes.length % 4 = 0 → (∀ t ∈ unpackWords 4 (j.bytes.length / 4) j.bytes, t < v.recs.length) →
    (j.last = false →
      (let kept := otherJobs s j ++ [{ entry := j.entry, kind := 2, job := j.job, bytes := partBytes s j }]
       Does (.detokenize j none) s { s with text := { s.text with queue := s.text.queue.erase j, jobs := kept } })) ∧
    (j.last = true →
      (let toks := unpackWords 4 ((partBytes s j).length / 4) (partBytes s j)
       let set := (r.gen.map (fun g => stopSet g.stop)).getD []
       ∃ u q, Does (.detokenize j none) s u ∧
         u.text = { s.text with queue := s.text.queue.erase j, jobs := otherJobs s j } ∧
         reqAt u j.entry = some q ∧ (∀ e, e ≠ j.entry → reqAt u e = reqAt s e) ∧ Counted s u .text 0x300 1 ∧
         RegsBut [regAddr .text 0x300, regAddr .text 0x320] s u ∧
         u = { s with text := u.text, regs := u.regs, reqs := u.reqs, hold := u.hold } ∧
         ((appendTokens set v.bytes r.detok r.hist toks).2 = none →
           q = { r with
             hist := r.hist ++ toks.flatMap v.bytes, detok := r.detok + toks.length, stop := none,
             released := max r.released (releasable set (r.hist ++ toks.flatMap v.bytes)) } ∧ q.endReason = none) ∧
         (∀ x, (appendTokens set v.bytes r.detok r.hist toks).2 = some x → q.endReason = some 0 ∧
           q.stop = some (stopReport x) ∧ q.released = max r.released x.start ∧ Counted s u .text 0x320 1 ∧
           (r.gen ≠ none → q.generated = x.token + 1 ∧ q.tokens = r.tokens.take (x.token + 1) ∧
             q.length = r.promptLen + x.token ∧ q.produced = some (now s)))))) ∧
  (∀ (s : State) (j : TextJob) (l : Nat) (c : Instr),
    ((c = .tokenize j (some l) ∧ j.kind = 1) ∨ (c = .detokenize j (some l) ∧ j.kind = 2)) → l < 8 →
    enabled s .text = true → s.text.queue.find? (fun q => decide (q.entry = j.entry)) = some j → s.dev ≠ .vermilion →
    ∃ u e, Does c s u ∧ FlagUp u .text 0x08 3 ∧ u.pins.fltLow = true ∧ u.belfry.last = some e ∧ e.mech = 0x02 ∧
      e.cls = 1 ∧ e.entry = j.entry)

/-! ### Leases and the Keeps -/

/-- LEASE messages of a neighbour's lease are heard on session `n`, whose control queue exists (R327, R346). -/
def LeaseSession (s : State) (l : LeaseId) (n : Nat) (x : Session) : Prop :=
  leaseHeard s l = true ∧ neighbourSession s l.neighbour false = some n ∧ sessAt s n = some x ∧
  (tget x.queues x.firstMsgq).isSome = true

/-- A LEASE message for a lease is among the outputs (R346). -/
def LeaseSent (u : State) (n : Nat) (x : Session) (f op lease arg0 arg1 : Nat) (data : List Byte) : Prop :=
  Out.msg n x.firstMsgq 0x42 0 (toLE 1 op ++ zeros 3 ++ toLE 4 lease ++ toLE 8 arg0 ++ toLE 8 arg1 ++ data) f ∈ u.out

/-- The lender's side (R209, R275, R276, R346), where each command completes in every state: a REQUEST that fits is granted whole, any other is denied and changes nothing; a
READ is answered with the bytes, as feature rows stand once their due deltas are applied, or with FAIL; a WRITE is stored at the lease's bytes and nowhere else; a RELEASE overwrites
the lease's granules with zeros and nothing else. -/
def Sys2Proof.Claims.LenderAnswers : Prop :=
  (∀ (s : State) (l : LeaseId) (granules mbps ctx n addr : Nat) (a : Word) (bytes : List Byte), ctx < 16 →
    Completes (.leaseRequest l granules mbps) s ∧ Completes (.leaseRelease l) s ∧ Completes (.leaseRead l a ctx n) s ∧
    Completes (.leaseWrite l addr bytes) s) ∧
  ∀ (s : State) (l : LeaseId) (n : Nat) (x : Session), LeaseSession s l n x →
    (∀ granules mbps : Nat, ∃ u, Does (.leaseRequest l granules mbps) s u ∧ Handed { s with tier := u.tier } u ∧
      (let fits := serving s = true ∧ granules ≠ 0 ∧ sumBy (·.mbps) s.tier.lent + mbps ≤ fld s .tier 0x20 32 16 ∧
         lentOf s l = none ∧ freeLend s granules ≠ none
       (fits → ∃ p, u.tier = { s.tier with lent := s.tier.lent ++
           [{ neighbour := l.neighbour, wire := l.lease, pieces := p, mbps := mbps }] } ∧ runsLen p = granules ∧
         LeaseSent u n x (now s) 2 l.lease granules mbps []) ∧
       (¬ fits → u.tier = s.tier ∧ LeaseSent u n x (now s) 3 l.lease 0 0 []))) ∧
    (∀ (addr : Word) (ctx bytes : Nat), ctx < 16 → ∃ u, Does (.leaseRead l addr ctx bytes) s u ∧
      (addr.toNat < 2 ^ 63 ∨ (∀ d ∈ s.feat.area, now s < d.due) → Handed s u) ∧
      (∀ d, leaseBytes u l addr.toNat ctx bytes = some d →
        LeaseSent u n x (now s) 8 l.lease addr.toNat (ctx + bytes * 16) d) ∧
      (leaseBytes u l addr.toNat ctx bytes = none → LeaseSent u n x (now s) 10 l.lease addr.toNat 0 [])) ∧
    (∀ (addr : Nat) (bytes : List Byte), ∃ u, Does (.leaseWrite l addr bytes) s u ∧
      (∀ y ks, lentOf s l = some y → y.keys addr bytes.length = some ks →
        u = { s with tier := { s.tier with lendMem := u.tier.lendMem } } ∧
        (ks.Nodup → ∀ i, (h : i < bytes.length) → memByte u.tier.lendMem (ks.getD i 0) = bytes[i]) ∧
        ∀ a, a ∉ ks → memByte u.tier.lendMem a = memByte s.tier.lendMem a) ∧
      ((lentOf s l).bind (fun y => y.keys addr bytes.length) = none →
        Handed s u ∧ LeaseSent u n x (now s) 10 l.lease addr 0 [])) ∧
    (∃ u, Does (.leaseRelease l) s u ∧ (lentOf s l = none → u = s) ∧
      ∀ y, lentOf s l = some y →
        u = { s with tier := { s.tier with lent := u.tier.lent, lendMem := u.tier.lendMem } } ∧
        (∀ z, z ∈ u.tier.lent ↔ z ∈ s.tier.lent ∧ z ≠ y) ∧
        ∀ a, (∃ p ∈ y.pieces, 2048 * p.1 ≤ a ∧ a < 2048 * p.1 + 2048 * p.2) ∧ memByte u.tier.lendMem a = 0 ∨
          (∀ p ∈ y.pieces, a < 2048 * p.1 ∨ 2048 * p.1 + 2048 * p.2 ≤ a) ∧
            memByte u.tier.lendMem a = memByte s.tier.lendMem a)

/-- The borrower's side, answers to a LEASE order (R275, R346, R412): a GRANT makes the lease held, and a GRANT, a DENY and
1 s without an answer reply to the link that ordered it with 0, 1 and 2; nothing else changes. -/
def Sys2Proof.Claims.LeaseOrderAnswered : Prop :=
  (∀ s : State, Completes .leaseReplyTimeout s) ∧
  ∀ (s : State) (c : Instr) (l : LeaseId) (granules mbps link seq result : Nat) (k : Link), tget s.lantern.links link = some k →
    ((c = .leaseGrant l granules mbps ∧ result = 0 ∧ leaseHeard s l = true ∧ askedFor s l = some (link, seq)) ∨
     (c = .leaseDeny l ∧ result = 1 ∧ leaseHeard s l = true ∧ askedFor s l = some (link, seq)) ∨
     (c = .leaseReplyTimeout ∧ result = 2 ∧ ∃ rest, s.tier.asked = (link, seq, l.neighbour, l.lease) :: rest)) →
    ∃ u, Does c s u ∧ u.out = s.out ++ [.mgmt link 0x23 0 seq (toLE 1 result ++ toLE 4 l.lease)] ∧
      (result = 0 → tget u.tier.leases l.lease = some { neighbour := l.neighbour, wire := l.lease, granules := granules,
                                                        mbps := mbps, notice := none, ended := false }) ∧
      (∀ j, (result ≠ 0 ∨ j ≠ l.lease) → tget u.tier.leases j = tget s.tier.leases j) ∧
      (∀ a, a ∈ u.tier.asked ↔ a ∈ s.tier.asked ∧ ¬ (a.1 = link ∧ a.2.1 = seq)) ∧
      (∃ y, tget u.lantern.links link = some y ∧ y = { k with seq := seq, cache := y.cache }) ∧
      u = { s with tier := { s.tier with leases := u.tier.leases, asked := u.tier.asked },
                   lantern := { s.lantern with links := u.lantern.links }, out := u.out }

/-- RECALL, END, the end of a notice, DATA and FAIL (R273, R276, R278, R346): a recall starts its notice and sets its event;
an ended lease is marked; after the notice the lease is gone and what it homed is lost; a granule of DATA goes to the streams
that wait for it and to the move that asked for it, and nowhere else; a FAIL that no stream waits for changes no more than
such a fetch, and the task of a single stream that waits for it aborts as a stall. Each message of a neighbour completes in
every state. -/
def Sys2Proof.Claims.LeaseEvents : Prop :=
  (∀ (s : State) (j : Nat), Completes (.recallNoticeEnd j) s) ∧
  (∀ (s : State) (l : LeaseId) (granules mbps ms ctx : Nat) (a : Word) (bytes : List Byte), ctx < 16 →
    Completes (.leaseGrant l granules mbps) s ∧ Completes (.leaseDeny l) s ∧ Completes (.leaseRecall l ms) s ∧
    Completes (.leaseEnd l) s ∧ Completes (.leaseData l a ctx bytes) s ∧ Completes (.leaseFail l a) s) ∧
  (∀ (s : State) (l : LeaseId) (ms j : Nat) (x : Lease), leaseHeard s l = true → leaseOf s l = some (j, x) →
    x.active = true →
    ∃ u, Does (.leaseRecall l ms) s u ∧ FlagUp u .tier 0x08 3 ∧
      tget u.tier.leases j = some { x with notice := some (now s + ms * 1000 / periodUs s) } ∧
      (∀ i, i ≠ j → tget u.tier.leases i = tget s.tier.leases i) ∧ u.tier.homes = s.tier.homes ∧ u.reqs = s.reqs ∧
      RegsBut [regAddr .tier 0x08, regAddr .mac 0x50] s u) ∧
  (∀ (s : State) (l : LeaseId) (j : Nat) (x : Lease), leaseHeard s l = true → leaseOf s l = some (j, x) →
    ∃ u, Does (.leaseEnd l) s u ∧ tget u.tier.leases j = some { x with ended := true } ∧ u.tier.homes = s.tier.homes ∧
      u = { s with tier := { s.tier with leases := u.tier.leases }, adm := { s.adm with replans := u.adm.replans } }) ∧
  (∀ (s : State) (j f : Nat) (x : Lease), tget s.tier.leases j = some x → x.notice = some f → f ≤ now s →
    ∃ u, Does (.recallNoticeEnd j) s u ∧ tget u.tier.leases j = none ∧
      (∀ k off, tget s.tier.homes k = some (.lease j off) → tget u.tier.homes k = some .lost) ∧
      (∀ k, (∀ off, tget s.tier.homes k ≠ some (.lease j off)) → tget u.tier.homes k = tget s.tier.homes k) ∧
      (leaseHomes s j ≠ [] → FlagUp u .tier 0x08 4) ∧ RegsBut [regAddr .tier 0x08, regAddr .mac 0x50] s u ∧
      u.tier.t1 = s.tier.t1 ∧ u.reqs = s.reqs ∧ u.tiles = s.tiles) ∧
  (∀ (s : State) (l : LeaseId) (addr : Word) (ctx key : Nat) (bytes : List Byte), ctx < 16 → leaseHeard s l = true →
    addr.toNat % 2048 = 0 → bytes.length = 2048 →
    ((2 ^ 63 ≤ addr.toNat ∧ key = ctx * 2 ^ 64 + (addr.toNat - 2 ^ 63)) ∨
     (addr.toNat < 2 ^ 63 ∧ ∃ j x p, leaseOf s l = some (j, x) ∧
       (leaseHomes s j).find? (fun p => decide (p.2 = addr.toNat / 2048)) = some p ∧ key = p.1)) →
    ∃ u, Does (.leaseData l addr ctx bytes) s u ∧
      (∀ t, tileAt u t = { tileAt s t with streams := (tileAt s t).streams.map (fun r =>
        if r.ctx = key / 2 ^ 64 ∧ r.done = false ∧ (awaited s r).contains (key % 2 ^ 64) = true then
          { r with got := r.got ++ [(key % 2 ^ 64, bytes)] }
        else r) }) ∧
      (addr.toNat < 2 ^ 63 → tget s.tier.fetch key = some none → tget u.tier.fetch key = some (some bytes)) ∧
      (∀ k, (k ≠ key ∨ 2 ^ 63 ≤ addr.toNat ∨ tget s.tier.fetch key ≠ some none) → tget u.tier.fetch k = tget s.tier.fetch k) ∧
      u = { s with tiles := u.tiles, tier := { s.tier with fetch := u.tier.fetch } }) ∧
  (∀ (s : State) (l : LeaseId) (addr : Word), leaseHeard s l = true →
    (let hit := s.tiles.flatMap (fun p => (p.2.streams.filter (failedRun s l addr.toNat)).map (fun r => (p.1, r)))
     (hit = [] → ∃ u, Does (.leaseFail l addr) s u ∧ u = { s with tier := { s.tier with fetch := u.tier.fetch } }) ∧
     (∀ t r k, hit = [(t, r)] → addr.toNat < 2 ^ 63 → (tileAt s t).task = some k → k.entry = r.entry →
       k.frame = r.frame → k.complete = false →
       ∃ u, Does (.leaseFail l addr) s u ∧ (tileAt u t).task = none ∧ FlagUp u (.tile t) 0x08 1 ∧
         Counted s u .tier 0x138 1 ∧ u.tier = { s.tier with fetch := u.tier.fetch })))

/-- Leases: what a lender answers, the answers to the device's own orders, and what becomes of a lease. -/
def Obligations.Leases : Prop :=
  Claims.LenderAnswers ∧ Claims.LeaseOrderAnswered ∧ Claims.LeaseEvents

/-- ARBITRATION_WINDOW (R280, R287): the bytes served are counted on their shares, and together they are no more than the
three shares of the link in the window; nothing else changes. The share follows from the traffic and the tile (R11, R279). -/
def Sys2Proof.Claims.ArbitrationWindowServes : Prop :=
  ∀ (s : State) (keep : Nat) (reqs : List Access), keep < 32 → (∀ a ∈ reqs, a.tile < 640) →
    ∃ u a b c, Does (.arbitrationWindow keep reqs) s u ∧ windowServed s keep reqs = [a, b, c] ∧
      Counted s u (.keep keep) 0x48 a ∧ Counted s u (.keep keep) 0x50 b ∧ Counted s u (.keep keep) 0x58 c ∧
      a + b + c ≤ shareBytes s keep 0 + shareBytes s keep 1 + shareBytes s keep 2 ∧
      RegsBut [regAddr (.keep keep) 0x48, regAddr (.keep keep) 0x50, regAddr (.keep keep) 0x58] s u ∧
      u = { s with regs := u.regs }

/-- PATROL_SCRUB and ROW_REPAIR (R282 to R284, R398): the patrol goes on to the next granule, and after the last begins
again and counts the pass; a corrected error is counted and noted for its row and pass; an uncorrectable one is a latent fault
and its block is bad; a row that needs it takes a spare row of its bank, or with none left sets SPARES_EXHAUSTED. An enabled
Keep's patrol completes whatever errors it meets. -/
def Sys2Proof.Claims.PatrolAndRepair : Prop :=
  (∀ (s : State) (keep bank row : Nat), keep < 32 → bank < 512 → Completes (.rowRepair keep bank row) s) ∧
  (∀ (s : State) (keep : Nat) (q0 q1 q2 q3 : List (Nat × Bool)), keep < 32 → (∀ b ∈ q0 ++ q1 ++ q2 ++ q3, b.1 < 8) →
    Completes (.patrolScrub keep q0 q1 q2 q3) s) ∧
  (∀ (s : State) (keep : Nat), keep < 32 → enabled s (.keep keep) = true →
    (∀ b ∈ s.tier.badBlocks, b / 32 ≠ keep * 2 ^ 25 + fld s (.keep keep) 0x40 32 25) →
    ∃ u, Does (.patrolScrub keep [] [] [] []) s u ∧ u = { s with regs := u.regs } ∧
      RegsBut [regAddr (.keep keep) 0x40] s u ∧
      (fld s (.keep keep) 0x40 32 25 + 1 < 25165824 →
        fld u (.keep keep) 0x40 32 25 = fld s (.keep keep) 0x40 32 25 + 1 ∧
        fld u (.keep keep) 0x40 0 32 = fld s (.keep keep) 0x40 0 32) ∧
      (25165824 ≤ fld s (.keep keep) 0x40 32 25 + 1 → fld u (.keep keep) 0x40 32 25 = 0 ∧
        fld u (.keep keep) 0x40 0 32 = min (fld s (.keep keep) 0x40 0 32 + 1) (2 ^ 32 - 1))) ∧
  (∀ (s : State) (keep block : Nat) (q0 q1 q2 q3 : List (Nat × Bool)), keep < 32 → block < 32 →
    enabled s (.keep keep) = true → (∀ b ∈ q0 ++ q1 ++ q2 ++ q3, b.1 < 8) →
    quarterFinds q0 q1 q2 q3 = [(block, false)] →
    (∀ b ∈ s.tier.badBlocks, b / 32 ≠ keep * 2 ^ 25 + fld s (.keep keep) 0x40 32 25) →
    ∃ u, Does (.patrolScrub keep q0 q1 q2 q3) s u ∧ Counted s u (.keep keep) 0x20 1 ∧ FlagUp u (.keep keep) 0x08 1 ∧
      u = { s with regs := u.regs, tier := { s.tier with corrected := s.tier.corrected ++
        [(keep, rowKeyOf keep (fld s (.keep keep) 0x40 32 25 * 32 + block), now s, fld s (.keep keep) 0x40 0 32)] } }) ∧
  (∀ (s : State) (keep block : Nat) (q0 q1 q2 q3 : List (Nat × Bool)), keep < 32 → block < 32 →
    enabled s (.keep keep) = true → (∀ b ∈ q0 ++ q1 ++ q2 ++ q3, b.1 < 8) →
    quarterFinds q0 q1 q2 q3 = [(block, true)] →
    (let key := keep * 2 ^ 30 + fld s (.keep keep) 0x40 32 25 * 32 + block
     (∀ b ∈ s.tier.badBlocks, b / 32 = keep * 2 ^ 25 + fld s (.keep keep) 0x40 32 25 → b = key) →
     ∃ u, Does (.patrolScrub keep q0 q1 q2 q3) s u ∧ Counted s u (.keep keep) 0x28 1 ∧ FlagUp u (.keep keep) 0x08 2 ∧
       Counted s u .belfry 0x28 1 ∧ FlagUp u .belfry 0x00 2 ∧ key ∈ u.tier.badBlocks ∧ u.tier.t1 = s.tier.t1 ∧
       u.dev = s.dev ∧ u.pins = s.pins ∧ u.reqs = s.reqs)) ∧
  (∀ (s : State) (keep bank row : Nat), keep < 32 → bank < 512 → repairDue s keep bank row = true →
    ∃ u, Does (.rowRepair keep bank row) s u ∧
      (tgetD s.tier.sparesUsed (keep * 512 + bank) 0 < 16 → FlagUp u (.keep keep) 0x08 3 ∧
        tgetD u.tier.sparesUsed (keep * 512 + bank) 0 = tgetD s.tier.sparesUsed (keep * 512 + bank) 0 + 1 ∧
        u.nv.repairs = s.nv.repairs ++ [(keep, bank, row)]) ∧
      (16 ≤ tgetD s.tier.sparesUsed (keep * 512 + bank) 0 → FlagUp u (.keep keep) 0x08 4 ∧ u.nv = s.nv) ∧
      u.tier.badBlocks = s.tier.badBlocks ∧ u.tier.t1 = s.tier.t1 ∧ u.reqs = s.reqs ∧ u.dev = s.dev)

/-- The Keeps: arbitration windows, patrol scrub and row repair. -/
def Obligations.KeepEvents : Prop :=
  Claims.ArbitrationWindowServes ∧ Claims.PatrolAndRepair

/-! ### Commands through registers -/

/-- REQTAB_INSPECT, TIER_MOVE_CMD and SWAP_COMPLETE (R260, R262, R266, R273, R286, R295), the first two outside Vermilion:
the view shows the head of the entry, or zeros where it is FREE; a move begins with the granules not yet at the target,
ascending, or nothing but an event changes; a swap keeps for the boundary whether its bytes came in time and their digest is
the variant's. -/
def Obligations.ViewMoveSwap : Prop :=
  (∀ (s : State) (region : Nat) (reads : ReadEnd), Completes (.swapComplete region reads) s) ∧
  (∀ (s : State) (v : Word), s.dev ≠ .vermilion →
    Does (.reqtabInspect .mgmt v) s { s with
      serv := { s.serv with view := ((reqAt s (bits v 0 16)).map headBytes).getD [] }, out := s.out ++ [.access 0 0] }) ∧
  (∀ (s : State) (v : Word), s.dev ≠ .vermilion →
    ∃ u, Does (.tierMoveCmd .mgmt v) s u ∧ (∃ l, u.out = s.out ++ l ++ [.access 0 0]) ∧
      RegsBut [regAddr .tier 0x08, regAddr .mac 0x50] s u ∧
      u = { s with regs := u.regs, tier := { s.tier with move := u.tier.move, fetch := u.tier.fetch }, out := u.out,
                   port := { s.port with sessions := u.port.sessions } } ∧
      (moveOf s v = none → FlagUp u .tier 0x08 2 ∧ u.tier.move = s.tier.move) ∧
      (∀ m, moveOf s v = some m → m.ctx = bits v 0 4 ∧ m.target = bits v 36 5 ∧
        (m.todo ≠ [] → u.tier.move = some m ∧ reg u .tier 0x08 = reg s .tier 0x08) ∧
        (m.todo = [] → FlagUp u .tier 0x08 1 ∧ u.tier.move = s.tier.move) ∧
        m.todo = ((List.range (bits v 4 32)).map (fun i => s.tier.moveAddr + 2048 * i)).filter
          (fun g => !atTarget s m.target m.ctx g))) ∧
  (∀ (s : State) (region : Nat) (reads : ReadEnd) (w : SwapPlan),
    s.adm.swaps.find? (fun w => decide (w.region = region) && w.outcome.isNone && decide (w.start ≤ now s)) = some w →
    (reads ≠ .inTime ∨ w.start + w.frames ≤ now s + 1) →
    ∃ u, Does (.swapComplete region reads) s u ∧
      { w with outcome := some (decide (reads = .inTime) && swapDigestOk s w.ref) } ∈ u.adm.swaps ∧
      (∀ v ∈ s.adm.swaps, v ≠ w → v ∈ u.adm.swaps) ∧
      (reads = .failed → Counted s u .flash 0x50 1 ∧ FlagUp u .flash 0x08 5) ∧
      (reads = .late → Counted s u .flash 0x48 1 ∧ FlagUp u .flash 0x08 5) ∧
      (reads = .inTime → u.regs = s.regs) ∧
      RegsBut [regAddr .flash 0x48, regAddr .flash 0x50, regAddr .flash 0x08] s u ∧
      u = { s with regs := u.regs, adm := { s.adm with swaps := u.adm.swaps } })

/-- The register window (R342, R69, R72): in a PRIVILEGED session outside Vermilion a read answers OK with the value shown
and clears the RC bits, with no other register changed; a write to a block that Management owns answers DENIED and
changes no register. An access over the window completes in every state. -/
def Sys2Proof.Claims.RegisterWindow : Prop :=
  (∀ (s : State) (n tag addr : Nat) (v : Word), Completes (.regWindowRead n tag addr) s ∧
    Completes (.regWindowWrite n tag addr v) s) ∧
  (∀ (s : State) (n tag addr : Nat) (x : Session) (b : Blk) (off : Nat) (d : RegDesc), PrivSession s n x →
    s.dev ≠ .vermilion → addr % 8 = 0 → decodeAddr addr = some (b, off) → regDesc b off = some d →
    ∃ u, Does (.regWindowRead n tag addr) s u ∧
      Out.msg n x.firstMsgq 0x88 tag (toLE 1 0 ++ zeros 7 ++ toLE 8 (readReg s b off).toNat) (now s) ∈ u.out ∧
      HandedBut [regAddr b off] s u ∧
      ((b ≠ .mac ∨ off ≠ 0x50) → reg u b off = if d.rc = 0 then reg s b off else reg s b off &&& ~~~ d.rc)) ∧
  (∀ (s : State) (n tag addr : Nat) (v : Word) (x : Session) (b : Blk) (off : Nat) (d : RegDesc), PrivSession s n x →
    s.dev ≠ .vermilion → addr % 8 = 0 → decodeAddr addr = some (b, off) → regDesc b off = some d →
    blkOwner b = .management →
    ∃ u, Does (.regWindowWrite n tag addr v) s u ∧ Handed s u ∧
      Out.msg n x.firstMsgq 0x88 tag (toLE 1 2 ++ zeros 7 ++ toLE 8 0) (now s) ∈ u.out) ∧
  (∀ (s : State) (n tag addr : Nat) (v : Word) (x : Session) (b : Blk) (off : Nat) (d : RegDesc), PrivSession s n x →
    s.dev ≠ .vermilion → addr % 8 = 0 → decodeAddr addr = some (b, off) → regDesc b off = some d → d.cfg = true →
    blkOwner b = .image → inService s = false → enabled s b = false → off ≠ 0 → (∀ t, b ≠ .tile t) → d.rw ≠ 0 →
    ∃ u, Does (.regWindowWrite n tag addr v) s u ∧ HandedBut [regAddr b off] s u ∧
      reg u b off = (reg s b off &&& ~~~ d.rw) ||| (v &&& d.rw) ∧
      Out.msg n x.firstMsgq 0x88 tag (toLE 1 0 ++ zeros 7 ++ toLE 8 0) (now s) ∈ u.out)

/-- MAC_ENABLE, PWRSEQ_LIMITS and BELFRY_ACK (R349, R389, R404, R405, R433, R436, R441): a set ENABLE starts bring-up with
eight wake steps queued; with ENABLE of PWRSEQ 0, limits within R441 take effect and are saved, and others set LIMIT_RANGE; an
acknowledgement covers every record up to it and releases FLT_N when none and no minimum is left. Each completes in every
state. -/
def Sys2Proof.Claims.OperatorWrites : Prop :=
  (∀ (s : State) (v : Word), Completes (.macEnable v) s ∧ Completes (.pwrseqLimits v) s) ∧
  (∀ (s : State) (v : Word), s.dev ≠ .vermilion → enabled s .mac = false → bit v 0 = true →
    ∃ u, Does (.macEnable v) s u ∧ enabled u .mac = true ∧ fld u .mac 0 1 1 = bits v 1 1 ∧ u.port = { s.port with training := true } ∧
      u.power = { s.power with wakes := s.power.wakes ++ laneDomains.map (fun d => { domain := d, port := 0 }) } ∧ RegsBut [regAddr .mac 0] s u ∧
      tget u.nv.saved (regAddr .mac 0) = some v ∧
      u = { s with regs := u.regs, port := u.port, power := u.power, nv := { s.nv with saved := u.nv.saved },
                   out := s.out ++ [.access 0 0] }) ∧
  (∀ (s : State) (v : Word), s.dev ≠ .vermilion → enabled s .pwrseq = false →
    ∃ u, Does (.pwrseqLimits v) s u ∧ RegsBut [regAddr .pwrseq 0x10, regAddr .pwrseq 0x08] s u ∧
      u = { s with regs := u.regs, nv := { s.nv with saved := u.nv.saved }, out := s.out ++ [.access 0 0] } ∧
      (let ok := 1000 ≤ bits v 0 12 ∧ bits v 0 12 ≤ 3000 ∧ bits v 0 12 ≤ bits v 16 12 ∧ bits v 16 12 ≤ 3600
       (ok → fld u .pwrseq 0x10 0 12 = bits v 0 12 ∧ fld u .pwrseq 0x10 16 12 = bits v 16 12 ∧
         tget u.nv.saved (regAddr .pwrseq 0x10) = some (reg u .pwrseq 0x10)) ∧
       (¬ ok → FlagUp u .pwrseq 0x08 1 ∧ reg u .pwrseq 0x10 = reg s .pwrseq 0x10 ∧ u.nv = s.nv))) ∧
  (∀ (s : State) (v : Word), ∃ u, Does (.belfryAck v) s u ∧
    (∀ q, q ∈ u.belfry.unacked ↔ q ∈ s.belfry.unacked ∧ v.toNat < q) ∧
    (s.belfry.minimums = 0 ∧ u.belfry.unacked = [] ∧ s.dev ≠ .vermilion ∧ s.belfry.gateClosed = false →
      u.pins.fltLow = false) ∧
    (¬ (s.belfry.minimums = 0 ∧ u.belfry.unacked = [] ∧ s.dev ≠ .vermilion ∧ s.belfry.gateClosed = false) →
      u.pins.fltLow = s.pins.fltLow) ∧
    u = { s with belfry := { s.belfry with unacked := u.belfry.unacked },
                 pins := { s.pins with fltLow := u.pins.fltLow }, out := s.out ++ [.access 0 0] })

/-- The register window and the operator's writes. -/
def Obligations.RegisterPaths : Prop :=
  Claims.RegisterWindow ∧ Claims.OperatorWrites

/-! ### Flash -/

/-- A storage command that meets none of the common refusals (R310 to R313, R333), on a queue of session `n`. -/
def StorReady (s : State) (c : StorCmd) (op n : Nat) (x : Session) : Prop :=
  queueOwner s c.queue = some n ∧ sessAt s n = some x ∧ (tget x.queues c.queue).isSome = true ∧
  outstandingOf s c.queue < 4096 ∧ c.reservedZero = true ∧ cmdAt s c.queue c.tag = none ∧ queueRefusal s c.queue op = none

/-- A completion record of R313 with its data left on a storage queue. -/
def StorSent (u : State) (n q tag f status nsid result info : Nat) (data : List Byte) : Prop :=
  Out.msg n q 0x89 0 (toLE 2 tag ++ toLE 1 status ++ toLE 1 q ++ toLE 1 nsid ++ zeros 3 ++ toLE 8 result ++ toLE 8 info ++
    zeros 8 ++ data) f ∈ u.out

/-- The namespace of a command serves it: its state, the queue's permission and the range (R307, R308, R312). -/
def NsServes (s : State) (c : StorCmd) (writes : Bool) (upto : Nat) (y : Namespace) : Prop :=
  c.nsid < 64 ∧ nsAt s c.nsid = some y ∧ nsRefusal s c.nsid writes = none ∧ nsPermits s c.queue y writes = true ∧
  upto ≤ y.size

/-- No storage command waits to start. -/
def NoneWaiting (s : State) : Prop := ∀ c ∈ s.flash.cmds, c.started = true ∨ c.op = 0x04

/-- READ, WRITE, TRIM and FLUSH (R293, R294, R297, R298, R312, R313), each of which completes in every state; where no command
waits before it: a READ with no granule mapped is answered at once with its
bytes, any other waits for the media; a WRITE starts and changes no data yet, and sets BUFFER_FULL where a plane has no room for
a granule of it; a TRIM leaves its
granules unmapped and reading 0 and every other byte as it was; a FLUSH with nothing before it completes. -/
def Obligations.FlashDataCommands : Prop :=
  (∀ (s : State) (c : StorCmd) (data : List Byte), Completes (.read c) s ∧ Completes (.trim c) s ∧ Completes (.flush c) s ∧
    (data.length = c.length → Completes (.write c data) s)) ∧
  (∀ (s : State) (c : StorCmd) (n : Nat) (x : Session) (y : Namespace), StorReady s c 0x01 n x → NoneWaiting s →
    NsServes s c false (c.offset + c.length) y → 1 ≤ c.length → c.length ≤ 1048576 →
    ∃ u, Does (.read c) s u ∧
      (let need := (granulesOf c.offset c.length).filter (gMapped s c.nsid y)
       (need = [] → StorSent u n c.queue c.tag (now s) 0 c.nsid c.length 0
           (memRead s.flash.data (c.nsid * 2 ^ 58 + c.offset) c.length) ∧ (∀ d ∈ u.flash.cmds, d ∈ s.flash.cmds) ∧
         Handed { s with flash := { s.flash with cmds := u.flash.cmds, nextOrder := s.flash.nextOrder + 1 } } u) ∧
       (need ≠ [] → portsReady s (asSet (need.filterMap (fun g => (placeOf s y g).map (·.1)))) = true →
         (∃ d ∈ u.flash.cmds, d.cmd = c ∧ d.op = 0x01 ∧ d.started = true) ∧
         Handed { s with flash := { s.flash with cmds := u.flash.cmds, nextOrder := u.flash.nextOrder } } u ∧
         u.out = s.out))) ∧
  (∀ (s : State) (c : StorCmd) (data : List Byte) (n : Nat) (x : Session) (y : Namespace), StorReady s c 0x02 n x →
    NoneWaiting s → NsServes s c true (c.offset + c.length) y → data.length = c.length → c.offset % 16384 = 0 → c.length % 16384 = 0 →
    1 ≤ c.length → c.length ≤ 1048576 →
    portsReady s (asSet ((granulesOf c.offset c.length).filterMap (fun g => (placeOf s y g).map (·.1)))) = true →
    ∃ u, Does (.write c data) s u ∧ u.out = s.out ∧
      (∃ d ∈ u.flash.cmds, d.cmd = c ∧ d.op = 0x02 ∧ d.started = true ∧ d.left = (granulesOf c.offset c.length).map
        (fun g => (g, some (sub data (16384 * g - c.offset) 16384)))) ∧
      (let room := (granulesOf c.offset c.length).all (bufferRoom s c.nsid y)
       (room = true → u.regs = s.regs) ∧ (room = false → FlagUp u .flash 0x08 6)) ∧
      HandedBut [regAddr .flash 0x08] { s with flash := { s.flash with cmds := u.flash.cmds, nextOrder := u.flash.nextOrder } } u) ∧
  (∀ (s : State) (c : StorCmd) (n : Nat) (x : Session) (y : Namespace), StorReady s c 0x03 n x → NoneWaiting s →
    NsServes s c true (c.offset + 16384 * c.arg0) y → c.offset % 16384 = 0 → 1 ≤ c.arg0 → c.arg0 ≤ 2 ^ 32 →
    portsReady s (nsPorts s y) = true →
    ∃ u, Does (.trim c) s u ∧ StorSent u n c.queue c.tag (now s) 0 c.nsid c.arg0 0 [] ∧
      (let lo := c.nsid * 2 ^ 58 + 16384 * (c.offset / 16384)
       ∀ a, (lo ≤ a ∧ a < lo + 16384 * c.arg0 → memByte u.flash.data a = 0) ∧
         (a < lo ∨ lo + 16384 * c.arg0 ≤ a → memByte u.flash.data a = memByte s.flash.data a)) ∧
      (∀ m g, c.offset / 16384 ≤ g → g < c.offset / 16384 + c.arg0 → mapped u m c.nsid g = none) ∧
      u.flash.nss = s.flash.nss ∧ Handed { s with flash := u.flash } u) ∧
  (∀ (s : State) (c : StorCmd) (n : Nat) (x : Session), StorReady s c 0x04 n x →
    (∀ d ∈ s.flash.cmds, d.cmd.queue ≠ c.queue) →
    ∃ u, Does (.flush c) s u ∧ StorSent u n c.queue c.tag (now s) 0 c.nsid 0 0 [] ∧
      (∀ d ∈ u.flash.cmds, d ∈ s.flash.cmds) ∧ u.flash.data = s.flash.data ∧ u.flash.modules = s.flash.modules ∧
      Handed { s with flash := u.flash } u)

/-- NS_CREATE, NS_DELETE, IDENTIFY, ABORT, GET_LOG and SET_POWER (R307, R309, R312, R314 to R316): what each leaves and the
record it answers with. Each completes in every state; a creation and a deletion are stated where no command waits before
them. -/
def Obligations.FlashAdminCommands : Prop :=
  (∀ (s : State) (c : StorCmd), Completes (.nsCreate c) s ∧ Completes (.nsDelete c) s ∧ Completes (.identify c) s ∧
    Completes (.abort c) s ∧ Completes (.getLog c) s ∧ Completes (.setPower c) s) ∧
  (∀ (s : State) (c : StorCmd) (n m : Nat) (x : Session) (ports : List Nat), StorReady s c 0x06 n x → NoneWaiting s →
    (c.nsid < 64 ∨ c.nsid = 0xFF) → c.arg0 % 16384 = 0 → (c.arg1 % 256 < 16 ∨ c.arg1 % 256 = 0xFF) →
    createId s c.nsid = .inr m → createSet s (c.arg1 / 2 ^ 24 % 256) = .inr ports → portsReady s ports = true →
    (let y : Namespace := { size := c.arg0, owner := c.arg1 % 256, readers := c.arg1 / 256 % 2 ^ 16,
                            serials := ports.filterMap (fun p => (modAt s p).map (·.serial)), state := .active, visits := [],
                            sinceCursor := [] }
     (∀ r ∈ y.serials, nsReserve y ≤ unreserved s r) →
     ∃ u, Does (.nsCreate c) s u ∧ nsAt u m = some y ∧ (∀ i, i ≠ m → nsAt u i = nsAt s i) ∧ u.flash.data = s.flash.data ∧
       StorSent u n c.queue c.tag (now s) 0 m 0 0 [] ∧ Handed { s with flash := u.flash } u)) ∧
  (∀ (s : State) (c : StorCmd) (n : Nat) (x : Session) (y : Namespace), StorReady s c 0x07 n x →
    NoneWaiting s → NsServes s c false 0 y → portsReady s (nsPorts s y) = true →
    ∃ u, Does (.nsDelete c) s u ∧ (∃ z, nsAt u c.nsid = some z ∧ z = { y with
        state := .deleting, visits := z.visits, sinceCursor := [] }) ∧
      (∀ i, i ≠ c.nsid → nsAt u i = nsAt s i) ∧ (∃ d ∈ u.flash.cmds, d.cmd = c ∧ d.started = true) ∧ u.out = s.out ∧
      (∀ p ∈ u.img.loaded, p.2.resident = false → p.2.ns = c.nsid → p.2.valid = false) ∧ u.flash.data = s.flash.data ∧
      Handed { s with flash := u.flash, img := { s.img with loaded := u.img.loaded } } u) ∧
  (∀ (s : State) (c : StorCmd) (n : Nat) (x : Session), StorReady s c 0x05 n x →
    (c.arg0 % 256 = 0 ∨ (c.arg0 % 256 = 1 ∧ c.nsid < 64 ∧
      ∀ y, nsAt s c.nsid = some y → nsPermits s c.queue y false = true)) →
    ∃ u, Does (.identify c) s u ∧ Handed s u ∧
      (let r := if c.arg0 % 256 = 0 then tierRecord s else nsRecord s c.nsid
       StorSent u n c.queue c.tag (now s) 0 c.nsid r.length 0 r)) ∧
  (∀ (s : State) (c : StorCmd) (n : Nat) (x : Session), StorReady s c 0x08 n x →
    ∃ u, Does (.abort c) s u ∧ Handed { s with flash := { s.flash with cmds := u.flash.cmds } } u ∧
      (∀ d ∈ u.flash.cmds, d ∈ s.flash.cmds) ∧
      (cmdAt s c.queue (c.arg0 % 2 ^ 16) = none → u.flash = s.flash ∧ StorSent u n c.queue c.tag (now s) 0 c.nsid 2 0 []) ∧
      (∀ d, cmdAt s c.queue (c.arg0 % 2 ^ 16) = some d →
        (d.started = true → u.flash = s.flash ∧ StorSent u n c.queue c.tag (now s) 0 c.nsid 1 0 []) ∧
        (d.started = false → (∀ e ∈ u.flash.cmds, e.seq ≠ d.seq) ∧ StorSent u n c.queue c.tag (now s) 0 c.nsid 0 0 []))) ∧
  (∀ (s : State) (c : StorCmd) (n : Nat) (x : Session) (y : Module), StorReady s c 0x09 n x → c.arg0 % 256 = 1 →
    c.arg0 / 256 % 256 < 8 → modAt s (c.arg0 / 256 % 256) = some y → modUsable y = true →
    ∃ u, Does (.getLog c) s u ∧ Handed s u ∧ StorSent u n c.queue c.tag (now s) 0 c.nsid 64 0 (mediaHealth y)) ∧
  (∀ (s : State) (c : StorCmd) (n : Nat) (x : Session), StorReady s c 0x0A n x →
    ∃ u, Does (.setPower c) s u ∧ StorSent u n c.queue c.tag (now s) 0 c.nsid 0 0 [] ∧
      (∀ m y, m < 8 → modAt s m = some y → ∃ z, modAt u m = some z ∧
        z = { y with psLimit := if c.arg0.testBit m then c.arg0 / 256 % 4 else y.psLimit, waking := z.waking, wakeFrame := z.wakeFrame } ∧
        (c.arg0.testBit m = true → c.arg0 / 256 % 4 < y.pstate → modUsable y = true → z.waking = true)) ∧
      Handed { s with flash := { s.flash with modules := u.flash.modules },
                      power := { s.power with wakes := u.power.wakes } } u)

/-- MEDIA_READ_COMPLETE, GRANULE_PROGRAM_COMPLETE, NS_DELETE_END and BLOCK_ERASE_COMPLETE (R293, R294, R297, R301, R303, R309,
R313): a READ that its planes serve next is answered with its bytes, or with MEDIA_ERROR at the granule that failed or whose
CRC does not match; a granule that its plane programs next holds its bytes, is mapped and counted, and the WRITE completes with
its last one; any other of a started READ or WRITE completes after those before it; a deleted namespace is ABSENT and reads 0; an erased
block is free with one erase more, and retired at its limit or on a failure. Each completes in every
state. -/
def Obligations.FlashMediaEvents : Prop :=
  (∀ (s : State) (q tag g m plane block nsid : Nat) (ok : Bool) (f : Option Nat), Completes (.mediaReadComplete q tag f) s ∧
    Completes (.granuleProgramComplete q tag g ok) s ∧ Completes (.nsDeleteEnd nsid) s ∧
    (m < 8 → plane < 256 → block < 2484 → Completes (.blockEraseComplete m plane block ok) s)) ∧
  (∀ (s : State) (q tag : Nat) (c : Outstanding) (x : Session), cmdAt s q tag = some c → c.op = 0x01 → c.started = true →
    (∀ f, (∀ g, f = some g → g ∈ mediaGranules s c.cmd) → Completes (.mediaReadComplete q tag f) s) ∧
    (sessAt s c.session = some x → (tget x.queues c.cmd.queue).isSome = true → readsAhead s c = [] →
    ((∀ g ∈ mediaGranules s c.cmd, sealOk s c.cmd.nsid g = true) → ∃ u, Does (.mediaReadComplete q tag none) s u ∧
      StorSent u c.session c.cmd.queue c.cmd.tag (now s) 0 c.cmd.nsid c.cmd.length 0
        (memRead s.flash.data (c.cmd.nsid * 2 ^ 58 + c.cmd.offset) c.cmd.length) ∧
      (∀ d ∈ u.flash.cmds, d ∈ s.flash.cmds ∧ d.seq ≠ c.seq) ∧
      Handed { s with flash := { s.flash with cmds := u.flash.cmds } } u) ∧
    (∀ g f, g ∈ mediaGranules s c.cmd → (f = some g ∨
        (f = none ∧ (mediaGranules s c.cmd).find? (fun h => !sealOk s c.cmd.nsid h) = some g)) →
      ∃ u, Does (.mediaReadComplete q tag f) s u ∧ Counted s u .flash 0x50 1 ∧ u.flash.data = s.flash.data ∧
        StorSent u c.session c.cmd.queue c.cmd.tag (now s) 0x09 c.cmd.nsid 0 (16384 * g) [] ∧
        HandedBut [regAddr .flash 0x50] { s with flash := u.flash } u))) ∧
  (∀ (s : State) (q tag g m plane : Nat) (c : Outstanding) (l : List Byte) (y : Namespace) (md : Module)
    (b : Nat × FlashBlock), cmdAt s q tag = some c → c.op = 0x02 → c.started = true → nsAt s c.cmd.nsid = some y →
    (planeQueue s m plane).head?.map (fun w => (w.1.cmd.queue, w.1.cmd.tag, w.2)) = some (q, tag, g) →
    c.left.find? (fun l => decide (l.1 = g)) = some (g, some l) → l.length ≤ 16384 → placeOf s y g = some (m, plane) →
    modAt s m = some md → openBuffer (planeAt md plane) (writeClass md c.cmd.nsid g) = some b →
    ∃ u, Does (.granuleProgramComplete q tag g true) s u ∧
      WroteMem (memZero s.flash.data (c.cmd.nsid * 2 ^ 58 + 16384 * g) 16384) u.flash.data
        (c.cmd.nsid * 2 ^ 58 + 16384 * g) l ∧
      mapped u m c.cmd.nsid g = some (plane * 2 ^ 32 + b.1 * 2 ^ 16 + b.2.pages.length) ∧
      Counted s u .flash 0x28 1 ∧ Counted s u .flash 0x30 1 ∧ u.flash.nss = s.flash.nss ∧
      HandedBut [regAddr .flash 0x28, regAddr .flash 0x30] { s with flash := u.flash } u) ∧
  (∀ (s : State) (q tag g m plane : Nat) (ok : Bool) (c : Outstanding) (y : Namespace), cmdAt s q tag = some c → c.op = 0x02 →
    c.started = true → (∃ l ∈ c.left, l.1 = g) → nsAt s c.cmd.nsid = some y → placeOf s y g = some (m, plane) →
    Completes (.granuleProgramComplete q tag g ok) s) ∧
  (∀ (s : State) (nsid : Nat) (y : Namespace), nsAt s nsid = some y → nsState s y = .deleting → y.visits = [] →
    NoneWaiting s →
    ∃ u, Does (.nsDeleteEnd nsid) s u ∧ nsAt u nsid = none ∧ (∀ i, i ≠ nsid → nsAt u i = nsAt s i) ∧
      (∀ a, (a / 2 ^ 58 = nsid → memByte u.flash.data a = 0) ∧
        (a / 2 ^ 58 ≠ nsid → memByte u.flash.data a = memByte s.flash.data a)) ∧
      (∀ m g, g < 2 ^ 44 → mapped u m nsid g = none) ∧ Handed { s with flash := u.flash } u) ∧
  (∀ (s : State) (m plane block : Nat) (ok : Bool) (x : Module) (k : FlashBlock), m < 8 → plane < 256 →
    modAt s m = some x → modUsable x = true → x.restoring = false → visiting s m plane block = none →
    blockAt (planeAt x plane) block = some k → k.state = .erasing → NoneWaiting s →
    ∃ u z, Does (.blockEraseComplete m plane block ok) s u ∧ modAt u m = some z ∧ u.flash.data = s.flash.data ∧
      (∃ k', blockAt (planeAt z plane) block = some k' ∧ k'.erases = k.erases + 1 ∧ k'.pages = [] ∧
        (ok = true → k.erases + 1 < eraseLimit k → k'.state = .free) ∧
        (ok = false ∨ eraseLimit k ≤ k.erases + 1 → k'.state = .retired)))

/-- Only the module on port `m` changed. -/
def OnlyModule (s u : State) (m : Nat) : Prop :=
  (∀ i, i ≠ m → modAt u i = modAt s i) ∧ u = { s with flash := { s.flash with modules := u.flash.modules } }

/-- The flash engine and the modules (R299 to R302, R304, R305, R308, R316, R318): a fold, its commit and a collection move
no data; a commit maps to its block every copied granule that the map still holds where it was copied from; a
checkpoint spends the journal; every heat counter halves; the power state, the loss and the restore of a module, with which at first use the namespaces that lose their record go
(R293, R305). Each completes in every
state. -/
def Obligations.FlashEngineEvents : Prop :=
  (∀ (s : State) (m plane cls level : Nat), m < 8 → plane < 256 → cls < 3 → 1 ≤ level → level ≤ 3 →
    Completes (.foldStart m plane cls) s ∧ Completes (.foldCommit m plane) s ∧ Completes (.garbageCollection m plane) s ∧
    Completes (.checkpoint m) s ∧ Completes (.heatHalving m) s ∧ Completes (.idleTimer m level) s ∧
    Completes (.moduleWake m) s ∧ Completes (.moduleLost m) s ∧ Completes (.flashRestoreComplete m) s) ∧
  (∀ (s : State) (m plane cls : Nat) (x : Module) (t : Nat × FlashBlock), m < 8 → plane < 256 → cls < 3 →
    modAt s m = some x → modUsable x = true → x.restoring = false → (planeAt x plane).fold = none →
    foldDue (planeAt x plane) cls = true → leastWorn (freeOf (planeAt x plane) .qlc) = some t →
    (let sources := closedBuffer (planeAt x plane) cls
     let live := (sources.flatMap (fun b => validOf s x plane b.1 b.2)).take 3072
     ∃ u z, Does (.foldStart m plane cls) s u ∧ modAt u m = some z ∧ z.map = x.map ∧ u.flash.data = s.flash.data ∧
       (live ≠ [] → (planeAt z plane).fold =
         some { cls := cls, target := t.1, sources := sources.map (·.1), granules := live }) ∧
       (live = [] → (planeAt z plane).fold = none) ∧ u = { s with flash := { s.flash with modules := u.flash.modules } })) ∧
  (∀ (s : State) (m plane : Nat) (x : Module) (f : Fold) (k : FlashBlock), m < 8 → plane < 256 → modAt s m = some x →
    (planeAt x plane).fold = some f → modUsable x = true → x.restoring = false →
    blockAt (planeAt x plane) f.target = some k → (f.granules.map (·.1)).Nodup →
    ∃ u z, Does (.foldCommit m plane) s u ∧ modAt u m = some z ∧ (planeAt z plane).fold = none ∧
      (∀ i q, f.granules[i]? = some q → tget x.map q.1 = some q.2 →
        (∃ y, nsAt s (q.1 / 2 ^ 44) = some y ∧ y.state ≠ .deleting) →
        tget z.map q.1 = some (plane * 2 ^ 32 + f.target * 2 ^ 16 + i)) ∧
      (∀ key, key ∉ f.granules.map (·.1) → tget z.map key = tget x.map key) ∧
      Counted s u .flash 0x38 3072 ∧ RegsBut [regAddr .flash 0x38] s u ∧
      u = { s with regs := u.regs, flash := { s.flash with modules := u.flash.modules } }) ∧
  (∀ (s : State) (m plane v : Nat) (x : Module) (k : FlashBlock), m < 8 → plane < 256 → modAt s m = some x →
    modUsable x = true → x.restoring = false → gcVictim s x plane = some v → blockAt (planeAt x plane) v = some k →
    ((freeOf (planeAt x plane) .qlc).length < gcLow s ∨
      ((planeAt x plane).collecting = true ∧ (freeOf (planeAt x plane) .qlc).length < gcHigh s)) →
    ∃ u z k', Does (.garbageCollection m plane) s u ∧ modAt u m = some z ∧ blockAt (planeAt z plane) v = some k' ∧
      k'.state = .erasing ∧ Counted s u .flash 0x40 (validOf s x plane v k).length ∧
      RegsBut [regAddr .flash 0x38, regAddr .flash 0x40] s u ∧
      u = { s with regs := u.regs, flash := { s.flash with modules := u.flash.modules } }) ∧
  (∀ (s : State) (m : Nat) (x : Module), modAt s m = some x → modUsable x = true → x.restoring = false →
    ∃ u, Does (.checkpoint m) s u ∧ modAt u m = some { x with journal := [], checkpoints := x.checkpoints + 1 } ∧
      OnlyModule s u m) ∧
  (∀ (s : State) (m : Nat) (x : Module), modAt s m = some x → modUsable x = true → Table.sorted x.heat = true →
    1048576 * (x.halvings + 1) ≤ x.granuleWrites →
    ∃ u z, Does (.heatHalving m) s u ∧ modAt u m = some z ∧ (∀ r, tgetD z.heat r 0 = tgetD x.heat r 0 / 2) ∧
      z = { x with heat := z.heat, halvings := x.halvings + 1 } ∧ OnlyModule s u m) ∧
  (∀ (s : State) (m level : Nat) (x : Module), modAt s m = some x → 1 ≤ level → level ≤ 3 → modUsable x = true →
    x.restoring = false → x.waking = false → x.pstate < level → level ≤ x.psLimit → idleMs s level ≠ 0 →
    t2Reserved s = false → modIdle s m x = true →
    ∃ u, Does (.idleTimer m level) s u ∧ modAt u m = some { x with pstate := level } ∧ OnlyModule s u m) ∧
  (∀ (s : State) (m : Nat) (x : Module), modAt s m = some x → modUsable x = true → x.waking = true → NoneWaiting s →
    ∃ u, Does (.moduleWake m) s u ∧ modAt u m = some { x with pstate := 0, waking := false, wakeFrame := 0 } ∧ OnlyModule s u m) ∧
  (∀ (s : State) (m : Nat) (x : Module), modAt s m = some x → modUsable x = true →
    ∃ u, Does (.moduleLost m) s u ∧ modAt u m = some { x with failed := true, waking := false, wakeFrame := 0 } ∧
      FlagUp u .flash 0x08 1 ∧ u.flash.data = s.flash.data ∧ u.flash.nss = s.flash.nss ∧
      HandedBut [regAddr .flash 0x08] { s with flash := u.flash } u) ∧
  (∀ (s : State) (m : Nat) (x : Module), modAt s m = some x → modUsable x = true → x.restoring = true → NoneWaiting s →
    ∃ u z, Does (.flashRestoreComplete m) s u ∧ modAt u m = some z ∧ z.restoring = false ∧
      (x.firstUse = false → z = { x with restoring := false, planes := z.planes } ∧ u.flash.data = s.flash.data) ∧
      (x.firstUse = true → FlagUp u .flash 0x08 2 ∧ (∀ i y, nsAt u i = some y → x.serial ∉ y.serials) ∧
        ∀ a, (∃ y, nsAt s (a / 2 ^ 58) = some y ∧ x.serial ∈ y.serials) → memByte u.flash.data a = 0) ∧
      HandedBut [regAddr .flash 0x08] { s with flash := u.flash } u)

/-! ### The port, the transport and sessions -/

/-- One log entry of Belfry was written: it takes the next SEQ, and nothing but the logs, the incident, DROPPED and the
registers listed changed (R401, R402). -/
def LoggedBut (l : List Nat) (s t : State) : Prop :=
  t.belfry = { s.belfry with
    seq := s.belfry.seq + 1, posted := s.belfry.posted + 1, incident := t.belfry.incident } ∧
  RegsBut (regAddr .belfry 0x30 :: regAddr .belfry 0x00 :: l) s t ∧
  t = { s with regs := t.regs, belfry := t.belfry, lantern := { s.lantern with volatileLog := t.lantern.volatileLog } }

/-- LINK_UP, LINK_DOWN, ARP_REQUEST, NEIGHBOR_SOLICITATION, RECEIVE_ERROR, BEACON (R323, R347, R349, R350): the link carries
traffic or trains again, with its flag; a request for the device's own address is answered and any other dropped, each
counted; errors count in their counters; a beacon goes to every valid endpoint, with state, REASON and progress, which rises while a whole-device
scrub runs (by how much is free, log entry 104). What arrives completes in every state. -/
def Obligations.PortEvents : Prop :=
  (∀ s : State, Completes .linkUp s ∧ Completes .beacon s) ∧
  (∀ (s : State) (target mac ip : Nat) (e : RxErr), Completes .linkDown s ∧ Completes (.arpRequest target mac ip) s ∧
    Completes (.neighborSolicitation target mac) s ∧ Completes (.receiveError e) s) ∧
  (∀ s : State, s.port.training = true →
    ∃ t, Does .linkUp s t ∧ FlagUp t .mac 0x08 1 ∧
      HandedBut [regAddr .mac 0x08] { s with port := { s.port with up := true, training := false } } t) ∧
  (∀ s : State, s.port.up = true →
    ∃ t, Does .linkDown s t ∧ FlagUp t .mac 0x08 2 ∧ RegsBut [regAddr .mac 0x08] s t ∧
      t = { s with port := { s.port with up := false, training := true }, regs := t.regs }) ∧
  (∀ (s : State) (target mac ip : Nat), s.port.up = true → s.sec.scrub = none →
    ∃ t, Does (.arpRequest target mac ip) s t ∧ Counted s t .mac 0x48 1 ∧
      (let mine := fld s .mac 0x20 0 32
       (mine ≠ 0 ∧ target = mine → t.out = s.out ++ [.arpReply mac ip] ∧ Counted s t .mac 0x50 1 ∧
         RegsBut [regAddr .mac 0x48, regAddr .mac 0x50] s t) ∧
       (¬ (mine ≠ 0 ∧ target = mine) → t.out = s.out ∧ Counted s t .mac 0x58 1 ∧ FlagUp t .mac 0x08 4 ∧
         RegsBut [regAddr .mac 0x48, regAddr .mac 0x58, regAddr .mac 0x08] s t)) ∧
      t = { s with regs := t.regs, out := t.out }) ∧
  (∀ (s : State) (target mac : Nat), s.port.up = true → s.sec.scrub = none →
    ∃ t, Does (.neighborSolicitation target mac) s t ∧ Counted s t .mac 0x48 1 ∧
      (let mine := (reg s .mac 0x28).toNat * 2 ^ 64 + (reg s .mac 0x30).toNat
       (mine ≠ 0 ∧ target = mine → t.out = s.out ++ [.neighborAdvert mac target] ∧ Counted s t .mac 0x50 1 ∧
         RegsBut [regAddr .mac 0x48, regAddr .mac 0x50] s t) ∧
       (¬ (mine ≠ 0 ∧ target = mine) → t.out = s.out ∧ Counted s t .mac 0x58 1 ∧ FlagUp t .mac 0x08 4 ∧
         RegsBut [regAddr .mac 0x48, regAddr .mac 0x58, regAddr .mac 0x08] s t)) ∧
      t = { s with regs := t.regs, out := t.out }) ∧
  (∀ (s : State) (e : RxErr), s.port.up = true →
    ∃ t, Does (.receiveError e) s t ∧
      (e = .badFcs → Counted s t .mac 0x60 1 ∧ LoggedBut [regAddr .mac 0x60] s t) ∧
      (e = .fecUncorrected → Counted s t .mac 0x70 1 ∧ FlagUp t .mac 0x08 3 ∧
        LoggedBut [regAddr .mac 0x70, regAddr .mac 0x08] s t) ∧
      (∀ n, e = .fecCorrected n → Counted s t .mac 0x68 n ∧ RegsBut [regAddr .mac 0x68] s t ∧ t = { s with regs := t.regs }) ∧
      (e = .outside ∨ e = .pause → Counted s t .mac 0x58 1 ∧ FlagUp t .mac 0x08 4 ∧
        RegsBut [regAddr .mac 0x58, regAddr .mac 0x08] s t ∧ t = { s with regs := t.regs })) ∧
  (∀ s : State, serving s = false →
    ∃ u, (s.sec.scrub = none → u = s) ∧
      (∀ p, s.sec.scrub = some p → ∃ q, p ≤ q ∧ (p ≤ 1000 → q ≤ 1000) ∧
        u = { s with sec := { s.sec with scrub := some q }, fresh := s.fresh + 1 }) ∧
      Does .beacon s { u with out := u.out ++ (if carries u then ((List.range 64).filter (epValid u)).map (fun j =>
        packetOut u j 0 0 5 0 false (toLE 1 (devCode u.dev) ++ toLE 1 u.reason ++ toLE 2 (u.sec.scrub.getD 0) ++ zeros 4))
        else []) })

/-- Session `n`, and no other, changed to `x`. -/
def SessionNow (s t : State) (n : Nat) (x : Session) : Prop :=
  sessAt t n = some x ∧ ∀ m, m ≠ n → sessAt t m = sessAt s m

/-- Queue `q` of session `n` has become `y`; the session's other fields and queues and every other session stay. -/
def QueueNow (s t : State) (n q : Nat) (x : Session) (y : QueueSt) : Prop :=
  ∃ z, SessionNow s t n z ∧ z = { x with queues := z.queues } ∧ tget z.queues q = some y ∧
    ∀ r, r ≠ q → tget z.queues r = tget x.queues r

/-- A packet of a KIND that queue `y` of session `n` takes (R326 to R329): its sender, CRC and form are right, and it is
protected and verified exactly where its session protects its packets. -/
def TakenPacket (s : State) (p : PacketIn) (kind n : Nat) (x : Session) (y : QueueSt) : Prop :=
  carries s = true ∧ s.sec.scrub = none ∧ p.kind = kind ∧ p.ce = false ∧ epValid s p.endpoint = true ∧ p.crcOk = true ∧
  p.formOk = true ∧ sessionOf s p = some n ∧ sessAt s n = some x ∧ tget x.queues p.queue = some y ∧
  (if x.keys = true ∨ x.rxProtected = true then p.protectedFlag = true ∧ p.tagOk = true else p.protectedFlag = false)

/-- No sequence number of a protected session is at its end (R369). -/
def Unexhausted (x : Session) : Prop :=
  x.keys = true → ∀ q ∈ x.queues, q.2.rxNext + 2 < 2 ^ 32 ∧ q.2.txNext + 1 < 2 ^ 32

/-- DATA (R328, R330, R331, R333), which completes in every state: the packet next in sequence joins its queue's stream, and a
message that it completes is delivered with the packet's arrival stamp; one further ahead within the credit is held and
acknowledged; one beyond the credit is dropped with CREDIT_VIOLATION; one with a bad check code is dropped and counted. -/
def Obligations.DataArrives : Prop :=
  (∀ (s : State) (p : PacketIn), p.kind = 0 → Completes (.data p) s) ∧
  (∀ (s : State) (p : PacketIn) (n : Nat) (x : Session) (y : QueueSt), TakenPacket s p 0 n x y → Unexhausted x →
    seqAhead p.seq y.rxNext = 0 → y.rxNext < y.rxLimit → y.rxHeld = [] → y.rxSinceAck < 15 →
    (let m := y.rxStream ++ p.data
     (m.length < 16 ∨ (16 ≤ fieldLE m 4 4 ∧ fieldLE m 4 4 ≤ 1049600 ∧ m.length < fieldLE m 4 4) →
       ∃ t, Does (.data p) s t ∧ Counted s t .mac 0x48 1 ∧ RegsBut [regAddr .mac 0x48] s t ∧
         QueueNow s t n p.queue x { y with
           rxStream := m, rxNext := y.rxNext + 1, rxSinceAck := y.rxSinceAck + 1 } ∧
         t = { s with regs := t.regs, port := { s.port with sessions := t.port.sessions } }) ∧
     (16 ≤ m.length → m.length ≤ 1049600 → fieldLE m 4 4 = m.length → rejectReason s x p.queue m = none →
       ∃ t, Does (.data p) s t ∧ Counted s t .mac 0x48 1 ∧ RegsBut [regAddr .mac 0x48] s t ∧
         QueueNow s t n p.queue x { y with
           rxStream := [], rxNext := y.rxNext + 1, rxSinceAck := y.rxSinceAck + 1 } ∧
         t = { s with regs := t.regs, port := { s.port with
                 sessions := t.port.sessions,
                 delivered := s.port.delivered ++ [{ session := n, queue := p.queue, type := fieldLE m 0 2,
                                                     tag := fieldLE m 8 8, stamp := p.stamp }] } }))) ∧
  (∀ (s : State) (p : PacketIn) (n : Nat) (x : Session) (y : QueueSt), TakenPacket s p 0 n x y → Unexhausted x →
    0 < seqAhead p.seq y.rxNext → seqAhead p.seq y.rxNext < 2 ^ 31 →
    (y.rxNext + seqAhead p.seq y.rxNext < y.rxLimit →
      ∃ t z body, Does (.data p) s t ∧ QueueNow s t n p.queue x z ∧
        tget z.rxHeld (y.rxNext + seqAhead p.seq y.rxNext) =
          some ((tget y.rxHeld (y.rxNext + seqAhead p.seq y.rxNext)).getD p.data) ∧
        z = { y with rxHeld := z.rxHeld, rxLimit := z.rxLimit, rxSinceAck := 0, ackSerial := y.ackSerial + 1 } ∧
        t.out = s.out ++ [packetOut s x.endpoint (wireSession n) p.queue 1 (y.ackSerial % 2 ^ 32) x.keys body] ∧
        HandedBut [regAddr .mac 0x48] s t) ∧
    (y.rxLimit ≤ y.rxNext + seqAhead p.seq y.rxNext →
      ∃ t, Does (.data p) s t ∧ FlagUp t .tytos 0x08 2 ∧ QueueNow s t n p.queue x y ∧
        RegsBut [regAddr .mac 0x48, regAddr .tytos 0x08] s t ∧
        t = { s with regs := t.regs, port := { s.port with sessions := t.port.sessions } })) ∧
  (∀ (s : State) (p : PacketIn), carries s = true → s.sec.scrub = none → p.kind = 0 → p.ce = false →
    epValid s p.endpoint = true → p.crcOk = false →
    ∃ t, Does (.data p) s t ∧ Counted s t .tytos 0x48 1 ∧ FlagUp t .tytos 0x08 5 ∧ Counted s t .mac 0x48 1 ∧
      RegsBut [regAddr .mac 0x48, regAddr .tytos 0x48, regAddr .tytos 0x08] s t ∧ t = { s with regs := t.regs })

/-- A session that has failed: gone, with SESSION_FAILED (R332). -/
def SessionFailed (t : State) (n : Nat) : Prop := sessAt t n = none ∧ FlagUp t .tytos 0x08 1

/-- ACK, ACK_DELAY, RTO_EXPIRY, LINK_HOLD_EXPIRY, RATE_INCREASE (R329, R331, R332, R334): an ACK frees the packets below NEXT,
raises the credit and, with ECE, halves the rate; the delayed acknowledgement leaves with NEXT, LIMIT and SACK; a packet
not acknowledged is sent again as it was first sent, not while the port is down, and after MAX_RETRIES the session fails, as
it does when the link or the credit was away too long; the rate rises by 16 Gb/s to 1.6 Tb/s. -/
def Obligations.TransportTimers : Prop :=
  (∀ (s : State) (n q seq : Nat), Completes (.ackDelay n q) s ∧ Completes (.rtoExpiry n q seq) s ∧
    Completes (.linkHoldExpiry n) s ∧ Completes (.rateIncrease n) s) ∧
  (∀ (s : State) (p : PacketIn) (n q seq : Nat), (p.kind = 1 → Completes (.ack p) s) ∧
    (carries s = false → Does (.rtoExpiry n q seq) s s)) ∧
  (∀ (s : State) (p : PacketIn) (n : Nat) (x : Session) (y : QueueSt), TakenPacket s p 1 n x y → Unexhausted x →
    p.data.length = 24 → x.finishRsp = none → fieldLE p.data 8 8 = 0 → y.txStream = [] →
    seqAhead (fieldLE p.data 0 4) y.txAcked < 2 ^ 31 →
    (let next := y.txAcked + seqAhead (fieldLE p.data 0 4) y.txAcked
     let room := seqAhead (fieldLE p.data 4 4) next
     let ece := decide (fieldLE p.data 20 1 = 1)
     next ≤ y.txNext → room < 2 ^ 31 →
     ∃ t z w, Does (.ack p) s t ∧ SessionNow s t n z ∧ tget z.queues p.queue = some w ∧
       (∀ r, r ≠ p.queue → tget z.queues r = tget x.queues r) ∧
       w = { y with txAcked := next, txLimit := max y.txLimit (next + room), tx := w.tx } ∧
       (∀ e, e ∈ w.tx ↔ e ∈ y.tx ∧ next ≤ e.1) ∧
       z = { x with queues := z.queues, halved := x.halved || ece,
                    rateMbps := if ece = true ∧ x.halved = false then max 10000 (x.rateMbps / 2) else x.rateMbps } ∧
       Counted s t .mac 0x48 1 ∧ RegsBut [regAddr .mac 0x48] s t ∧
       t = { s with regs := t.regs, port := { s.port with sessions := t.port.sessions } })) ∧
  (∀ (s : State) (n q : Nat) (x : Session) (y : QueueSt), carries s = true → sessAt s n = some x →
    tget x.queues q = some y → y.rxSinceAck ≠ 0 →
    ∃ t, Does (.ackDelay n q) s t ∧ Counted s t .mac 0x50 1 ∧ Handed s t ∧
      t.out = s.out ++ [packetOut s x.endpoint (wireSession n) q 1 (y.ackSerial % 2 ^ 32) x.keys (toLE 4 y.rxNext ++
        toLE 4 (y.rxNext + creditWindow q) ++ toLE 8 (sackBits y) ++ toLE 4 (cmdLimit s q y) ++
        toLE 1 (if x.ece then 1 else 0) ++ zeros 3)] ∧
      QueueNow s t n q x { y with
        rxLimit := y.rxNext + creditWindow q, rxSinceAck := 0, ackSerial := y.ackSerial + 1 }) ∧
  (∀ (s : State) (n q seq : Nat) (x : Session) (y : QueueSt) (k : TxPacket), carries s = true → sessAt s n = some x →
    tget x.queues q = some y → tget y.tx seq = some k →
    ∃ t, Does (.rtoExpiry n q seq) s t ∧
      (fld s .tytos 0x18 16 4 ≤ k.retries → SessionFailed t n) ∧
      (k.retries < fld s .tytos 0x18 16 4 →
        t.out = s.out ++ [packetOut s x.endpoint (wireSession n) q 0 (seq % 2 ^ 32) k.protectedFlag k.data] ∧
        Counted s t .mac 0x50 1 ∧ Counted s t .tytos 0x28 1 ∧ HandedBut [regAddr .tytos 0x28] s t ∧
        ∃ w, QueueNow s t n q x w ∧ w = { y with tx := w.tx } ∧
          tget w.tx seq = some { k with retries := k.retries + 1, fast := false } ∧
          ∀ i, i ≠ seq → tget w.tx i = tget y.tx i)) ∧
  (∀ (s : State) (n : Nat) (x : Session), sessAt s n = some x →
    (s.port.up = false ∨ ∃ e ∈ x.queues, e.2.txStream ≠ [] ∧ e.2.txLimit ≤ e.2.txNext) →
    ∃ t, Does (.linkHoldExpiry n) s t ∧ SessionFailed t n) ∧
  (∀ (s : State) (n : Nat) (x : Session), sessAt s n = some x →
    ∃ t, Does (.rateIncrease n) s t ∧
      SessionNow s t n { x with rateMbps := min 1600000 (x.rateMbps + 16000), ece := false, halved := false } ∧
      t = { s with port := { s.port with sessions := t.port.sessions } })

/-- A session packet that passes the checks of R328 and comes unprotected. -/
def SessionPacket (s : State) (p : PacketIn) (kind : Nat) : Prop :=
  carries s = true ∧ s.sec.scrub = none ∧ p.kind = kind ∧ p.ce = false ∧ epValid s p.endpoint = true ∧ p.crcOk = true ∧
  p.formOk = true ∧ p.protectedFlag = false

/-- OPEN, OPEN_REPLY, CLOSE, NEIGHBOUR_OPEN (R326 to R328, R357), of which the received ones complete in every state: a session
granted whole has an unused number that is not 0, the lowest free queues and 1.6 Tb/s; the device's own OPEN to a neighbour
and its answer; a CLOSE ends the session at once and orphans its contexts. -/
def Obligations.SessionsOpenAndClose : Prop :=
  (∀ (s : State) (e : Nat), Completes (.neighbourOpen e) s) ∧
  (∀ (s : State) (p : PacketIn), (p.kind = 2 → Completes (.openSession p.endpoint p.ce p.header p.wire) s) ∧ (p.kind = 3 → Completes (.openReply p.endpoint p.ce p.header p.wire) s) ∧
    (p.kind = 4 → Completes (.closePacket p) s)) ∧
  (∀ (s : State) (p : PacketIn) (first : Nat) (qs : List Nat), SessionPacket s p 2 → p.session = 0 → p.queue = 0 →
    p.data.length = 8 → zeroRange p.data 2 6 = true →
    (let e := p.endpoint
     let msgq := fieldLE p.data 0 1
     let storq := fieldLE p.data 1 1
     openedBy s e = none → epDevice s e = false → (s.power.phase = 0 ∨ 9 ≤ s.power.phase) → 1 ≤ msgq → msgq ≤ 16 →
     storq ≤ 64 → s.port.sessions.length < 64 → freeMsgq s msgq = some first → freeStorqs s storq = some qs →
     ∃ t k, Does (.openSession p.endpoint p.ce p.header p.wire) s t ∧ k ≠ 0 ∧ k < 2 ^ 32 ∧ sessAt s k = none ∧
       SessionNow s t k (newSession e false first msgq qs) ∧
       t.out = s.out ++ [packetOut t e k 0 3 0 false (openReplyBody 0 first qs)] ∧ Counted s t .mac 0x50 1 ∧
       HandedBut [regAddr .mac 0x48] { s with fresh := s.fresh + 1 } t)) ∧
  (∀ (s : State) (p : PacketIn), SessionPacket s p 3 → p.endpoint ∈ s.port.opening → p.data.length = 16 →
    fieldLE p.data 0 1 = 0 → p.session ≠ 0 →
    ∃ t, Does (.openReply p.endpoint p.ce p.header p.wire) s t ∧
      SessionNow s t (mineKey p.endpoint p.session) (newSession p.endpoint true (fieldLE p.data 2 2) 2 []) ∧
      (∀ j, j ∈ t.port.opening ↔ j ∈ s.port.opening ∧ j ≠ p.endpoint) ∧ Counted s t .mac 0x48 1 ∧
      RegsBut [regAddr .mac 0x48] s t ∧
      t = { s with regs := t.regs, port := { s.port with sessions := t.port.sessions, opening := t.port.opening } }) ∧
  (∀ (s : State) (e : Nat), carries s = true → serving s = true → epValid s e = true → epDevice s e = true →
    neighbourOf s e ≠ none → mineTo s e = none → e ∉ s.port.opening →
    ∃ t, Does (.neighbourOpen e) s t ∧ Counted s t .mac 0x50 1 ∧ RegsBut [regAddr .mac 0x50] s t ∧
      t = { s with regs := t.regs, port := { s.port with opening := s.port.opening ++ [e] },
                   out := s.out ++ [packetOut s e 0 0 2 0 false (toLE 1 2 ++ zeros 7)] }) ∧
  (∀ (s : State) (p : PacketIn) (n : Nat) (x : Session) (y : QueueSt), TakenPacket s p 4 n x y → x.mine = false →
    ∃ t, Does (.closePacket p) s t ∧ sessAt t n = none ∧ (∀ m, m ≠ n → sessAt t m = sessAt s m) ∧
      (∀ c k, ctxAt s c = some k → ctxAt t c =
        some (if k.owner = some n then { k with owner := none, aged := false } else k)) ∧
      ((∃ p ∈ s.sec.ctxs, p.2.owner = some n) → FlagUp t .ctx 0x00 2) ∧ Counted s t .mac 0x48 1 ∧
      RegsBut [regAddr .mac 0x48, regAddr .ctx 0x00] s t ∧
      t = { s with regs := t.regs, sec := { s.sec with ctxs := t.sec.ctxs },
                   flash := { s.flash with queues := t.flash.queues, cmds := t.flash.cmds },
                   port := { s.port with sessions := t.port.sessions, delivered := t.port.delivered } })

/-- Session `n` is open and its control queue exists: messages are answered there (R327). -/
def SessionReady (s : State) (n : Nat) (x : Session) : Prop :=
  sessAt s n = some x ∧ (tget x.queues x.firstMsgq).isSome = true

/-- OPEN_CONTEXT, CLOSE_CONTEXT, BIND_QUEUE, SUBMIT (R39, R337, R338, R354 to R357): a granted context opens, owned by the
session and confidential with its keys, and an orphan is adopted; a closing context keeps the reply that it owes; a storage
queue is bound; a submission joins those of the next pass, or is refused with STATE outside Ivory and Amber. Each completes in every
state. -/
def Obligations.ContextMessages : Prop :=
  (∀ (s : State) (n tag c q : Nat) (b : SubmitBody), Completes (.openContext n tag c) s ∧ Completes (.closeContext n tag c) s ∧
    Completes (.bindQueue n tag c q) s ∧ Completes (.submit n q tag b) s) ∧
  (∀ (s : State) (n tag c : Nat) (x : Session), SessionReady s n x → c < 16 → hasQuota s c = true → serving s = true →
    bit (grantOf s c).1 x.endpoint = true → ((grantOf s c).2 = true → x.keys = true) →
    (ctxAt s c = none →
      ∃ t k, Does (.openContext n tag c) s t ∧ ctxAt t c = some k ∧ k.state = .opened ∧ k.owner = some n ∧
        k.endpoint = x.endpoint ∧ k.confidential = x.keys ∧ (∀ d, d ≠ c → ctxAt t d = ctxAt s d) ∧ FlagUp t .ctx 0x00 1 ∧
        Out.msg n x.firstMsgq 0x86 tag (toLE 1 1 ++ toLE 1 c ++ toLE 2 0 ++ toLE 1 0 ++ zeros 11) (now s) ∈ t.out ∧
        HandedBut [regAddr .ctx 0x00] { s with
          sec := { s.sec with ctxs := t.sec.ctxs }, serv := { s.serv with est := t.serv.est } } t) ∧
    (∀ k, ctxAt s c = some k → k.state = .opened → k.owner = none → (k.confidential = true → x.keys = true) →
      ∃ t, Does (.openContext n tag c) s t ∧
        ctxAt t c = some { k with owner := some n, endpoint := x.endpoint, aged := false } ∧
        (∀ d, d ≠ c → ctxAt t d = ctxAt s d) ∧
        Out.msg n x.firstMsgq 0x86 tag (toLE 1 1 ++ toLE 1 c ++ toLE 2 0 ++ toLE 1 0 ++ zeros 11) (now s) ∈ t.out ∧
        Handed { s with sec := { s.sec with ctxs := t.sec.ctxs } } t)) ∧
  (∀ (s : State) (n tag c : Nat) (x : Session) (k : Ctx), sessAt s n = some x → c < 16 → ctxAt s c = some k →
    k.owner = some n → k.state ≠ .slate →
    ∃ t, Does (.closeContext n tag c) s t ∧
      ctxAt t c = some { k with closing := true, replies := k.replies ++ [(n, tag)] } ∧
      (∀ d, d ≠ c → ctxAt t d = ctxAt s d) ∧ t = { s with sec := { s.sec with ctxs := t.sec.ctxs } }) ∧
  (∀ (s : State) (n tag c q : Nat) (x : Session), SessionReady s n x → x.storqs.contains q = true →
    ((c = 0xFF ∧ epPriv s x.endpoint = true) ∨
      (c < 16 ∧ ∃ k, ctxAt s c = some k ∧ k.owner = some n ∧ k.state ≠ .slate)) →
    ∃ t, Does (.bindQueue n tag c q) s t ∧ tget t.flash.queues q = some c ∧
      (∀ r, r ≠ q → tget t.flash.queues r = tget s.flash.queues r) ∧
      Out.msg n x.firstMsgq 0x86 tag (toLE 1 3 ++ toLE 1 c ++ toLE 2 q ++ toLE 1 0 ++ zeros 11) (now s) ∈ t.out ∧
      Handed { s with flash := { s.flash with queues := t.flash.queues } } t) ∧
  (∀ (s : State) (n q tag : Nat) (b : SubmitBody) (x : Session), sessAt s n = some x →
    (tget x.queues q).isSome = true → 64 ≤ q →
    (let d := takeDelivered s n q 0x02 tag
     let u : State := { s with port := { s.port with delivered := d.2 } }
     (serving s = true → Does (.submit n q tag b) s { u with adm := { s.adm with
        subs := s.adm.subs ++ [{ session := n, queue := q, tag := tag, stamp := (d.1.map (·.stamp)).getD 0, body := b }] } }) ∧
     (serving s = false → ∃ t, Does (.submit n q tag b) s t ∧
        Out.msg n q 0x82 tag (toLE 1 0x07 ++ zeros 7 ++ toLE 8 0) (now s) ∈ t.out ∧ Counted s t .admission 0x18 1 ∧
        HandedBut [regAddr .admission 0x18] u t)))

/-! ### Attestation, keys and scrubs -/

/-- An SPDM reply left on the control queue (R343). -/
def SpdmSent (s t : State) (n : Nat) (x : Session) (tag code p1 p2 : Nat) (payload : List Byte) : Prop :=
  Out.msg n x.firstMsgq 0x8A tag (toLE 1 0x12 ++ toLE 1 code ++ toLE 1 p1 ++ toLE 1 p2 ++ payload) (now s) ∈ t.out

/-- The measurement blocks of R365 that an index asks for. -/
def askedBlocks (index : Nat) : List Nat := if index = 0xFF then [1, 2, 3, 4, 5, 6, 7, 8, 9] else [index]

/-- The SPDM requests (R343, R363 to R368): each is answered on the control queue with its response code; GET_MEASUREMENTS
carries the blocks asked for and CHALLENGE their digest; KEY_EXCHANGE binds the SPDM session, and FINISH, verified, makes
the session take protected packets only. Bytes that DSP0274 or the identity forms are free (log entry 11). Each request
completes in every state, with whatever it asks for. -/
def Obligations.SpdmAnswers : Prop :=
  (∀ (s : State) (n tag a b c : Nat) (f : Bool),
    Completes (.getVersion n tag) s ∧ Completes (.getCapabilities n tag) s ∧ Completes (.negotiateAlgorithms n tag f) s ∧
    Completes (.getDigests n tag) s ∧ Completes (.getCertificate n tag a b c) s ∧ Completes (.challenge n tag a b) s ∧
    Completes (.getMeasurements n tag a f) s ∧ Completes (.keyExchange n tag) s ∧ Completes (.finish n tag f) s) ∧
  ∀ (s : State) (n tag : Nat) (x : Session), SessionReady s n x →
    (∃ t z, Does (.getVersion n tag) s t ∧ Handed s t ∧ sessAt t n = some z ∧ z.spdm = { x.spdm with version := true } ∧
      Out.msg n x.firstMsgq 0x8A tag (toLE 1 0x10 ++ toLE 1 0x04 ++ zeros 3 ++ toLE 1 1 ++ toLE 2 0x1200) (now s) ∈ t.out) ∧
    (∃ t z a b, Does (.getCapabilities n tag) s t ∧ Handed { s with fresh := t.fresh } t ∧ sessAt t n = some z ∧
      z.spdm = { x.spdm with capabilities := true } ∧ SpdmSent s t n x tag 0x61 0 0 
        (zeros 1 ++ a ++ zeros 2 ++ toLE 4 responderFlags ++ b) ∧ a.length = 1 ∧ b.length = 8) ∧
    (∃ t z a b c, Does (.negotiateAlgorithms n tag true) s t ∧ Handed { s with fresh := t.fresh } t ∧ sessAt t n = some z ∧
      z.spdm = { x.spdm with algorithms := true } ∧ SpdmSent s t n x tag 0x63 0 0 (a ++ zeros 12 ++ b ++ zeros 2 ++ c) ∧
      a.length = 16 ∧ b.length = 2 ∧ c.length = 16) ∧
    (∃ t a, Does (.getDigests n tag) s t ∧ Handed { s with fresh := t.fresh } t ∧ SpdmSent s t n x tag 0x01 0 1 a ∧
      a.length = 32) ∧
    (∀ offset length : Nat, s.sec.boot.identityOk = true →
      ∃ t a, Does (.getCertificate n tag 0 offset length) s t ∧ Handed { s with fresh := t.fresh } t ∧
        SpdmSent s t n x tag 0x02 0 0 a ∧ a.length = min length 65535) ∧
    (∀ m : Nat, s.sec.boot.identityOk = true → (m = 0 ∨ m = 0xFF) →
      ∃ t a b, Does (.challenge n tag 0 m) s t ∧ Handed { s with fresh := t.fresh } t ∧ a.length = 64 ∧ b.length = 66 ∧
        SpdmSent s t n x tag 0x03 0 1 (a ++ (if m = 0 then [] else
          sha256 ((askedBlocks 0xFF).flatMap (measurementBlock s))) ++ b)) ∧
    (∀ (index : Nat) (signed : Bool), (signed = true → s.sec.boot.identityOk = true) →
      (index = 0xFF ∨ (1 ≤ index ∧ index ≤ 9)) →
      ∃ t a, Does (.getMeasurements n tag index signed) s t ∧ Handed { s with fresh := t.fresh } t ∧
        (let r := (askedBlocks index).flatMap (measurementBlock s)
         SpdmSent s t n x tag 0x60 0 0 (toLE 1 (askedBlocks index).length ++ toLE 3 r.length ++ r ++ a)) ∧
        a.length = (if signed then 98 else 34)) ∧
    (s.sec.boot.identityOk = true → x.spdm.exchanged = false →
      ∃ t z a, Does (.keyExchange n tag) s t ∧ Handed { s with fresh := t.fresh } t ∧ sessAt t n = some z ∧
        z.spdm = { x.spdm with exchanged := true } ∧ SpdmSent s t n x tag 0x64 0 0 a) ∧
    (x.spdm.exchanged = true → x.spdm.established = false →
      ∃ t z, Does (.finish n tag true) s t ∧ sessAt t n = some z ∧ z.rxProtected = true ∧ z.keys = x.keys ∧
        z.spdm = { x.spdm with established := true } ∧ z.finishRsp ≠ none ∧ SpdmSent s t n x tag 0x65 0 0 [] ∧
        Counted s t .crypto 0x28 1 ∧ HandedBut [regAddr .crypto 0x28] s t)

/-- ORPHAN_TIMEOUT, CONTEXT_SCRUB_COMPLETE, WHOLE_DEVICE_SCRUB_COMPLETE (R357, R358, R361): an orphan is marked a second old;
a scrubbed context is CLOSED and its far space reads as zeros, every other byte staying; after the whole-device scrub no
context, image or byte of the Keeps is left, the device is in Sable, the flash stays, and the SCRUB request is answered. Each completes
in every state. -/
def Obligations.ScrubsEnd : Prop :=
  (∀ (s : State) (c : Nat), (c < 16 → Completes (.orphanTimeout c) s ∧ Completes (.contextScrubComplete c) s) ∧
    Completes .wholeDeviceScrubComplete s) ∧
  (∀ (s : State) (c : Nat) (k : Ctx), c < 16 → ctxAt s c = some k → k.state = .opened → k.owner = none →
    ∃ t, Does (.orphanTimeout c) s t ∧ ctxAt t c = some { k with aged := true } ∧
      (∀ d, d ≠ c → ctxAt t d = ctxAt s d) ∧ t = { s with sec := { s.sec with ctxs := t.sec.ctxs } }) ∧
  (∀ (s : State) (c : Nat) (k : Ctx), c < 16 → ctxAt s c = some k → k.state = .slate → k.left = 0 →
    ∃ t, Does (.contextScrubComplete c) s t ∧ ctxAt t c = none ∧ (∀ d, d ≠ c → ctxAt t d = ctxAt s d) ∧
      (∀ a, (a / 2 ^ 64 = c → memByte t.tier.t1 a = 0) ∧ (a / 2 ^ 64 ≠ c → memByte t.tier.t1 a = memByte s.tier.t1 a)) ∧
      FlagUp t .ctx 0x00 3 ∧ Counted s t .ctx 0x08 1 ∧ RegsBut [regAddr .ctx 0x00, regAddr .ctx 0x08] s t ∧
      t = { s with regs := t.regs, sec := { s.sec with ctxs := t.sec.ctxs }, tier := { s.tier with t1 := t.tier.t1 } }) ∧
  (∀ s : State, s.dev = .slate → s.sec.scrub.isSome = true →
    ∃ t, Does .wholeDeviceScrubComplete s t ∧ t.dev = .sable ∧ t.pins.rdy = false ∧ t.sec.ctxs = [] ∧
      t.sec.scrub = none ∧ t.img.image = none ∧ t.img.staged = [] ∧ t.tier.t1 = [] ∧ t.lowered = [] ∧
      FlagUp t .ctx 0x00 4 ∧ t.flash = s.flash ∧ t.rom = s.rom ∧ enabled t .frame = false ∧
      (∀ link seq l, s.sec.scrubReply = some (link, seq) → tget s.lantern.links link = some l →
        Out.mgmt link 0x22 0 seq [] ∈ t.out))

/-! ### Belfry -/

/-- A dangerous detection of a mechanism put the device in Vermilion (R389, R394): FLT_N low, RDY low, no release, every
accepted request completed. -/
def Vermilioned (s t : State) (mech : Nat) : Prop :=
  t.dev = .vermilion ∧ t.pins.fltLow = true ∧ t.pins.rdy = false ∧ t.belfry.gateClosed = true ∧
  (∃ e, t.belfry.last = some e ∧ e.mech = mech ∧ e.action = 2 ∧ e.seq ∈ t.belfry.unacked) ∧ FlagUp t .belfry 0x00 5 ∧
  (∀ e, t.belfry.last = some e → e.frame = now s) ∧ t.rom = s.rom ∧ t.nv.counter = s.nv.counter

/-- LINK_CRC, LOCKSTEP, BELFRY_HALF_HEARTBEAT, AUDIT (R384 to R386, R390): a link's retry is counted and logged and no more;
a flit that fails twice takes a tile out of service on its own port and puts the device in Vermilion on any other link;
disagreeing halves, a missing half and an audit that disagrees put it in Vermilion; an audit that agrees closes its pass. Each completes in
every state. -/
def Obligations.Detections : Prop :=
  (∀ (s : State) (u : UnitId) (own bad : Bool), (unitExists u = true → Completes (.linkCrc u own bad) s) ∧
    Completes .lockstep s ∧ Completes (.belfryHalfHeartbeat bad) s ∧ Completes (.audit bad) s) ∧
  (∀ (s : State) (u : UnitId) (own : Bool), unitExists u = true →
    (let key := 2 * unitCode u + (match u with
       | .tile _ => if own then 1 else 0
       | _ => 0)
     (tgetD s.belfry.retries key 0 < 16 →
       ∃ t, Does (.linkCrc u own false) s t ∧ Counted s t .belfry 0x38 1 ∧
         tgetD t.belfry.retries key 0 = tgetD s.belfry.retries key 0 + 1 ∧
         (∀ j, j ≠ key → tgetD t.belfry.retries j 0 = tgetD s.belfry.retries j 0) ∧
         LoggedBut [regAddr .belfry 0x38] { s with belfry := { s.belfry with retries := t.belfry.retries } } t)) ∧
    (s.dev ≠ .vermilion → (∀ i, u = .tile i → own = true →
      ∃ t, Does (.linkCrc u own true) s t ∧ (tileAt t i).inService = false ∧ t.pins.fltLow = true ∧ t.dev = s.dev ∧
        Counted s t .belfry 0x38 1 ∧ ∃ e, t.belfry.last = some e ∧ e.mech = 0x09 ∧ e.unit = i)) ∧
    (s.dev ≠ .vermilion → (own = false ∨ ∀ i, u ≠ .tile i) →
      ∃ t, Does (.linkCrc u own true) s t ∧ Vermilioned s t 0x09 ∧ Counted s t .belfry 0x38 1)) ∧
  (∀ s : State, s.dev ≠ .vermilion → ∃ t, Does .lockstep s t ∧ Vermilioned s t 0x0C) ∧
  (∀ s : State, Does (.belfryHalfHeartbeat false) s s ∧
    (s.dev ≠ .vermilion → ∃ t, Does (.belfryHalfHeartbeat true) s t ∧ Vermilioned s t 0x0C)) ∧
  (∀ (s : State) (upset : Bool), s.dev ≠ .vermilion →
    (let agree := upset = false ∧ ∀ a ∈ s.adm.auditCopy, auditAgrees s a = true
     (agree → Does (.audit upset) s { s with adm := { s.adm with auditCopy := [] } }) ∧
     (¬ agree → ∃ t, Does (.audit upset) s t ∧ Vermilioned s t 0x0D)))

/-- The run counter of the selection network that an item tests (R158). -/
def runsOf : TestItem → List Nat
  | .selectionNetwork j _ _ _ _ _ => [regAddr (.selnet j) 0x10]
  | _ => []

/-- FLT_N_MINIMUM_END, SELF_TEST, WEAR_SAMPLE, INCIDENT_END (R389, R397 to R402, R405): FLT_N rises with the last minimum once
every record is acknowledged, outside Vermilion; a self-test records its item and age, and a failure, or a selection of the
network that is not the cores' (R157), is a LATENT fault with the reaction of its unit; the wear indicators are sampled and the date predicted; an ended incident becomes a summary. Each completes in
every state. -/
def Obligations.HealthEvents : Prop :=
  (∀ (s : State) (i : TestItem) (ok pass : Bool) (n : Nat), Completes .fltNMinimumEnd s ∧ Completes (.wearSample n) s ∧
    Completes .incidentEnd s ∧ (itemExists i = true → Completes (.selfTest i ok n pass) s)) ∧
  (∀ s : State, s.belfry.minimums ≠ 0 →
    (let high := s.belfry.minimums = 1 ∧ s.belfry.unacked = [] ∧ s.dev ≠ .vermilion ∧ s.belfry.gateClosed = false
     ∃ t, Does .fltNMinimumEnd s t ∧ (high → t.pins.fltLow = false) ∧ (¬ high → t.pins = s.pins) ∧
       t = { s with pins := { s.pins with fltLow := t.pins.fltLow },
                    belfry := { s.belfry with minimums := s.belfry.minimums - 1 } })) ∧
  (∀ (s : State) (i : TestItem) (age : Nat) (pass : Bool), itemExists i = true →
    (itemAgrees i = true → ∃ t, Does (.selfTest i true age pass) s t ∧ fld t .belfry 0x40 32 16 = min age 65535 ∧
      fld t .belfry 0x40 0 32 = (if pass then min (fld s .belfry 0x40 0 32 + 1) (2 ^ 32 - 1) else fld s .belfry 0x40 0 32) ∧
      RegsBut (regAddr .belfry 0x40 :: runsOf i) s t ∧ (pass = true → t.belfry.tested = []) ∧
      (∀ j f o n l r, i = .selectionNetwork j f o n l r → Counted s t (.selnet j) 0x10 1) ∧
      (pass = false → itemKey i ∈ t.belfry.tested) ∧
      t = { s with regs := t.regs, belfry := { s.belfry with tested := t.belfry.tested } }) ∧
    (∀ ok, s.dev ≠ .vermilion → (ok && itemAgrees i) = false →
      ∃ t, Does (.selfTest i ok age pass) s t ∧ FlagUp t .belfry 0x00 2 ∧ Counted s t .belfry 0x28 1 ∧
        (∀ j m, i = .tileComparator j m → j ∈ t.belfry.failing ∧ t.dev = s.dev) ∧
        (∀ j r c, i = .sparePe j r c → (r, c) ∈ (tileAt t j).badPes ∧ t.dev = s.dev) ∧
        (∀ j f o n l r, i = .selectionNetwork j f o n l r → FlagUp t (.selnet j) 0x08 2 ∧ t.dev = s.dev) ∧
        (∀ k b r, i = .keepSpareRow k b r → t.dev = s.dev) ∧
        (i = .rdyDriver → t.dev = s.dev) ∧
        (i = .auditUnit ∨ i = .belfryHalf ∨ i = .fltDriver ∨ (∃ m, i = .domeChecker m) ∨ (∃ k m, i = .keepChecker k m) →
          t.dev = .vermilion ∧ t.pins.fltLow = true))) ∧
  (∀ (s : State) (day : Nat), s.lantern.running = true →
    ∃ t, Does (.wearSample day) s t ∧
      t.nv = { s.nv with
        wear := s.nv.wear ++ [1, 2, 3, 4, 5].filterMap (fun i => (wearOf s i).map (fun v => (day, i, v))) } ∧
      (∀ d i, endOfLifeDate { s with nv := t.nv } day = some (d, i) → reg t .belfry 0x48 = packed [(0, d), (16, i)]) ∧
      (endOfLifeDate { s with nv := t.nv } day = none → reg t .belfry 0x48 = packed [(0, 0xFFFF)]) ∧
      LoggedBut [regAddr .belfry 0x48] { s with nv := t.nv } t) ∧
  (∀ (s : State) (i : Incident), s.belfry.incident = some i →
    ∃ t, Does .incidentEnd s t ∧ t.nv.summaryNext = s.nv.summaryNext + 1 ∧
      t.nv.summaries = ringPush 4096 s.nv.summaries { num := s.nv.summaryNext, boot := s.nv.boots, incident := i } ∧
      t = { s with belfry := { s.belfry with incident := none },
                   nv := { s.nv with summaries := t.nv.summaries, summaryNext := t.nv.summaryNext } })

/-! ### The management lane -/

/-- A request that is accepted (R408, R410, R411): the lane is served, tag, SEQ and reserved fields are good, the link is
authenticated and runs no request, its role suffices, and for firmware no other link holds the update lock. -/
def MgmtReady (s : State) (m : MgmtReq) (op mask : Nat) (l : Link) : Prop :=
  laneServed s = true ∧ m.tagOk = true ∧ m.reservedZero = true ∧ tget s.lantern.links m.link = some l ∧
  l.authed = true ∧ executing s m.link = false ∧ m.seq = l.seq + 1 ∧ roleHeld s l op mask = true ∧
  (s.lantern.recovery = true → inRecoveryLoader op = true) ∧
  (isFirmwareOp op = true → s.lantern.lock = none ∨ s.lantern.lock = some m.link)

/-- The reply left and is kept for a repeated request; every other link, and everything else, is as in `s` (R408, R410). -/
def MgmtAnswered (s t : State) (m : MgmtReq) (l : Link) (op status : Nat) (body : List Byte) : Prop :=
  tget t.lantern.links m.link = some { l with seq := m.seq, cache := (op, status, body) } ∧
  (∀ i, i ≠ m.link → tget t.lantern.links i = tget s.lantern.links i) ∧
  t = { s with lantern := { s.lantern with links := t.lantern.links }, out := s.out ++ [.mgmt m.link op status m.seq body] }

/-- REG_READ, SENSORS, LOG_READ, WEAR, FW_STATUS (R69, R72, R412, R414, R415, R421): the reply carries what the rule lists;
reading a register clears its RC bits and nothing else changes. Each completes in every state. -/
def Obligations.ManagementReads : Prop :=
  (∀ (s : State) (m : MgmtReq) (a b c d : Nat), Completes (.regRead m a) s ∧ Completes (.sensors m a b) s ∧
    Completes (.logRead m a b c d) s ∧ Completes (.wear m) s ∧ Completes (.fwStatus m) s) ∧
  (∀ (s : State) (m : MgmtReq) (l : Link) (addr : Nat), MgmtReady s m 0x10 (roleObserve + roleMaintain) l → addr < 2 ^ 32 →
    (∀ b off d, addr % 8 = 0 → decodeAddr addr = some (b, off) → regDesc b off = some d →
      ∃ t u, Does (.regRead m addr) s t ∧ MgmtAnswered u t m l 0x10 0 (toLE 8 (readReg s b off).toNat) ∧
        u = { s with regs := u.regs } ∧ RegsBut [regAddr b off] s u ∧
        (d.rc ≠ 0 → reg u b off = reg s b off &&& ~~~ d.rc)) ∧
    ((addr % 8 ≠ 0 ∨ decodeAddr addr = none ∨ ∃ b off, decodeAddr addr = some (b, off) ∧ regDesc b off = none) →
      ∃ t, Does (.regRead m addr) s t ∧ MgmtAnswered s t m l 0x10 1 [])) ∧
  (∀ (s : State) (m : MgmtReq) (l : Link) (first count : Nat), MgmtReady s m 0x13 roleObserve l → 1 ≤ count → count ≤ 64 →
    first + count ≤ 2 ^ 16 →
    ∃ t, Does (.sensors m first count) s t ∧
      MgmtAnswered s t m l 0x13 0 ((List.range count).flatMap (fun i => sensorRecord s (first + i)))) ∧
  (∀ (s : State) (m : MgmtReq) (l : Link) (source classes count start : Nat), MgmtReady s m 0x14 roleObserve l →
    source ≤ 2 → classes < 256 → count ≤ logMax source →
    ∃ (t : State) (l' : List (List Byte)) (next : Nat), Does (.logRead m source classes count start) s t ∧
      (let all := logRecords s source
       let oldest := (all.head?.map (·.1)).getD 0
       MgmtAnswered s t m l 0x14 0 (toLE 8 oldest ++ toLE 8 next ++ toLE 4 s.nv.boots ++ toLE 2 l'.length ++ zeros 2 ++
         l'.flatten) ∧ l'.length ≤ count ∧
       (∀ b ∈ l', ∃ r ∈ all, r.2.2 = b ∧ start ≤ r.1 ∧ ∀ k, r.2.1 = some k → classes.testBit k = true))) ∧
  (∀ (s : State) (m : MgmtReq) (l : Link), MgmtReady s m 0x15 roleObserve l →
    ∃ t, Does (.wear m) s t ∧ MgmtAnswered s t m l 0x15 0 ([1, 2, 3, 4, 5].flatMap (wearRecord s))) ∧
  (∀ (s : State) (m : MgmtReq) (l : Link), MgmtReady s m 0x36 (roleObserve + roleFirmware) l →
    ∃ t, Does (.fwStatus m) s t ∧
      (let f := targetSlot s
       MgmtAnswered s t m l 0x36 0 (toLE 1 (if s.nv.activeB then 1 else 0) ++
         toLE 1 ((if s.nv.trial then 1 else 0) + (if s.sec.boot.fellBack then 2 else 0) +
           (if s.lantern.lock.isSome then 4 else 0) + (if s.sec.boot.served then 8 else 0)) ++
         toLE 1 (slotCode f.status) ++ zeros 1 ++ toLE 4 s.nv.counter ++ toLE 4 s.sec.boot.svn ++
         (if f.status = .verified then memRead f.bytes 0x0C 4 else zeros 4) ++ memRead f.bytes 0x10 4 ++
         memRead f.bytes 0x14 4)))

/-- SET_POLICY, SET_NET, ENROL, REMOVE, GRANT, REG_WRITE, STAGE (R62, R69, R355, R376, R407, R410, R412): the secure flash holds
the new policy, addresses, operator or grant; links of a changed slot end, and all links with the addresses; a register is
written with the status of the access; staged bytes lie at their offset, and beside an image in service they set LOAD_DROPPED
(R65). Each completes in every state. -/
def Obligations.ManagementSettings : Prop :=
  (∀ (s : State) (m : MgmtReq) (on : Bool) (a b : Nat) (key : List Byte) (v : Word), Completes (.setPolicy m on) s ∧
    Completes (.setNet m a b) s ∧ Completes (.enrol m a b key) s ∧ Completes (.remove m a) s ∧ Completes (.grant m a on v) s ∧
    Completes (.regWrite m a v) s ∧ Completes (.stage m a key) s) ∧
  (∀ (s : State) (m : MgmtReq) (l : Link) (on : Bool), MgmtReady s m 0x05 roleAdmin l → s.dev ≠ .vermilion →
    ∃ t, Does (.setPolicy m on) s t ∧ MgmtAnswered { s with nv := { s.nv with requireSigned := on } } t m l 0x05 0 []) ∧
  (∀ (s : State) (m : MgmtReq) (l : Link) (ipv4 ipv6 : Nat), MgmtReady s m 0x06 roleAdmin l → s.dev ≠ .vermilion →
    ipv4 < 2 ^ 32 → ipv6 < 2 ^ 128 →
    Does (.setNet m ipv4 ipv6) s { s with
      nv := { s.nv with ipv4 := ipv4, ipv6 := ipv6 }, lantern := { s.lantern with links := [], lock := none },
      out := s.out ++ [.mgmt m.link 0x06 0 m.seq []] }) ∧
  (∀ (s : State) (m : MgmtReq) (l : Link) (slot roles op : Nat) (key : List Byte) (c : Instr) (w : Option Operator),
    ((c = .enrol m slot roles key ∧ op = 0x03 ∧ w = some { key := key, roles := roles } ∧ roles < 32 ∧ key.length = 64 ∧
        l.slot ≠ 0xFF ∧ keepsAdmin (tset s.nv.operators slot { key := key, roles := roles }) = true) ∨
      (c = .remove m slot ∧ op = 0x04 ∧ w = none ∧ keepsAdmin (tdel s.nv.operators slot) = true)) →
    MgmtReady s m op roleAdmin l → s.dev ≠ .vermilion → slot < 8 →
    ∃ t, Does c s t ∧ tget t.nv.operators slot = w ∧
      (∀ i, i ≠ slot → tget t.nv.operators i = tget s.nv.operators i) ∧
      (∀ e ∈ t.lantern.links, ¬ (e.2.authed = true ∧ e.2.slot = slot)) ∧
      (∀ e ∈ s.lantern.links, e.1 ≠ m.link → ¬ (e.2.authed = true ∧ e.2.slot = slot) → e ∈ t.lantern.links) ∧
      t = { s with nv := { s.nv with operators := t.nv.operators },
                   lantern := { s.lantern with links := t.lantern.links, lock := t.lantern.lock },
                   out := s.out ++ [.mgmt m.link op 0 m.seq []] }) ∧
  (∀ (s : State) (m : MgmtReq) (l : Link) (c : Nat) (conf : Bool) (mask : Word), MgmtReady s m 0x20 roleMaintain l →
    s.dev ≠ .vermilion → c < 16 →
    ∃ t, Does (.grant m c conf mask) s t ∧ grantOf t c = (mask, conf) ∧ (∀ i, i ≠ c → grantOf t i = grantOf s i) ∧
      MgmtAnswered { s with nv := { s.nv with grants := t.nv.grants } } t m l 0x20 0 []) ∧
  (∀ (s : State) (m : MgmtReq) (l : Link) (addr : Nat) (v : Word), MgmtReady s m 0x11 roleMaintain l → addr < 2 ^ 32 →
    ∃ t, Does (.regWrite m addr v) s t ∧
      MgmtAnswered (access s .mgmt true addr 8 v).1 t m l 0x11 (access s .mgmt true addr 8 v).2.1 []) ∧
  (∀ (s : State) (m : MgmtReq) (l : Link) (offset : Nat) (bytes : List Byte), MgmtReady s m 0x12 roleMaintain l →
    s.dev = .sable → s.img.image = none → loaderReady s = true → 1 ≤ bytes.length → bytes.length ≤ 1024 →
    offset + bytes.length ≤ 134217728 →
    ∃ t, Does (.stage m offset bytes) s t ∧ WroteMem s.img.staged t.img.staged offset bytes ∧
      t.img = { s.img with staged := t.img.staged, stagedLen := max s.img.stagedLen (offset + bytes.length),
                           phase := .staging } ∧
      MgmtAnswered { s with img := t.img } t m l 0x12 0 []) ∧
  (∀ (s : State) (m : MgmtReq) (l : Link) (offset : Nat) (bytes : List Byte), MgmtReady s m 0x12 roleMaintain l →
    s.img.image.isSome = true →
    ∃ t, Does (.stage m offset bytes) s t ∧ FlagUp t .img 0x20 1 ∧ t.img = s.img ∧ t.dev = s.dev)

/-- CLOSE, SCRUB, LEASE, HALT, RESUME (R137, R275, R276, R346, R356, R361, R412): a context is marked to close; a scrub puts the
device in Slate, ends every session and request and owes its reply; a lease is asked for, or released with what it homes
lost; an Elastic task is pre-empted, or runs on unless the power sequencer holds it. Each completes in every state. -/
def Obligations.ManagementActions : Prop :=
  (∀ (s : State) (m : MgmtReq) (a b c : Nat), Completes (.close m a) s ∧ Completes (.scrub m) s ∧
    Completes (.mgmtLeaseRequest m a b c) s ∧ Completes (.mgmtLeaseRelease m a b) s ∧ Completes (.halt m a) s ∧
    Completes (.resume m a) s) ∧
  (∀ (s : State) (m : MgmtReq) (l : Link) (c : Nat) (k : Ctx), MgmtReady s m 0x21 roleMaintain l → serving s = true →
    c < 16 → ctxAt s c = some k → k.state = .opened →
    ∃ t, Does (.close m c) s t ∧ ctxAt t c = some { k with closing := true } ∧ (∀ d, d ≠ c → ctxAt t d = ctxAt s d) ∧
      MgmtAnswered { s with sec := { s.sec with ctxs := t.sec.ctxs } } t m l 0x21 0 []) ∧
  (∀ (s : State) (m : MgmtReq) (l : Link), MgmtReady s m 0x22 roleMaintain l →
    (s.dev = .sable ∨ s.dev = .ivory ∨ s.dev = .amber) → (s.power.phase = 0 ∨ 9 ≤ s.power.phase) →
    ∃ t, Does (.scrub m) s t ∧ t.dev = .slate ∧ t.pins.rdy = false ∧ t.sec.scrub = some 0 ∧
      t.sec.scrubReply = some (m.link, m.seq) ∧ t.reqs = [] ∧ t.hold = [] ∧ (∀ n, sessAt t n = none) ∧
      (∀ i, (tileAt t i).sram = [] ∧ (tileAt t i).task = none) ∧ t.img = s.img ∧ t.flash.data = s.flash.data ∧
      t.tier = s.tier ∧ t.nv = s.nv ∧ t.frame = s.frame ∧ t.lantern.links = s.lantern.links) ∧
  (∀ (s : State) (m : MgmtReq) (l : Link) (i granules mbps j n : Nat) (x : Session), MgmtReady s m 0x23 roleMaintain l →
    serving s = true → i < 16 → granules < 2 ^ 64 → mbps < 2 ^ 64 → freeLease s = some j →
    neighbourSession s i true = some n → SessionReady s n x →
    ∃ t, Does (.mgmtLeaseRequest m i granules mbps) s t ∧ LeaseSent t n x (now s) 1 j granules mbps [] ∧
      Handed { s with tier := { s.tier with asked := s.tier.asked ++ [(m.link, m.seq, i, j)] } } t) ∧
  (∀ (s : State) (m : MgmtReq) (l : Link) (i wire j : Nat) (y : Lease), MgmtReady s m 0x23 roleMaintain l →
    serving s = true → i < 16 → leaseOf s { neighbour := i, lease := wire } = some (j, y) →
    ∃ t, Does (.mgmtLeaseRelease m i wire) s t ∧ Out.mgmt m.link 0x23 0 m.seq (toLE 1 0 ++ toLE 4 wire) ∈ t.out ∧
      (∀ n x, neighbourSession s i true = some n → SessionReady s n x → LeaseSent t n x (now s) 4 wire 0 0 []) ∧
      tget t.tier.leases j = none ∧ (∀ k, k ≠ j → tget t.tier.leases k = tget s.tier.leases k) ∧
      (∀ a off, tget s.tier.homes a = some (.lease j off) → tget t.tier.homes a = some .lost) ∧
      (∀ a, (∀ off, tget s.tier.homes a ≠ some (.lease j off)) → tget t.tier.homes a = tget s.tier.homes a) ∧
      (∀ p ∈ t.tier.fetch, p ∈ s.tier.fetch) ∧
      t.tier = { s.tier with leases := t.tier.leases, homes := t.tier.homes, fetch := t.tier.fetch } ∧ t.reqs = s.reqs ∧ t.tiles = s.tiles) ∧
  (∀ (s : State) (m : MgmtReq) (l : Link) (i : Nat), MgmtReady s m 0x24 roleMaintain l → serving s = true → i < 640 →
    (tileAt s i).role = .elastic →
    (∃ t, Does (.halt m i) s t ∧
      (elasticRunning (tileAt s i) = true → tileAt t i = { tileAt s i with run := .preempted } ∧
        FlagUp t (.tile i) 0x08 2 ∧ Counted s t (.spire (i / 80)) 0x30 1) ∧
      (elasticRunning (tileAt s i) = false → t.tiles = s.tiles ∧ t.regs = s.regs) ∧
      (∀ k, k ≠ i → tileAt t k = tileAt s k) ∧ i ∉ t.power.preempted ∧
      RegsBut [regAddr (.tile i) 0x08, regAddr (.spire (i / 80)) 0x30] s t ∧
      MgmtAnswered { s with
        tiles := t.tiles, regs := t.regs, power := { s.power with preempted := t.power.preempted } } t m l 0x24 0 []) ∧
    (∃ t, Does (.resume m i) s t ∧
      (let held := (tileAt s i).run ≠ .preempted ∨ i ∈ s.power.preempted
       (held → t.tiles = s.tiles) ∧ (¬ held → tileAt t i = { tileAt s i with run := .running })) ∧
      (∀ k, k ≠ i → tileAt t k = tileAt s k) ∧ MgmtAnswered { s with tiles := t.tiles } t m l 0x24 0 []))

/-- The machine as a reset of a cause leaves it (R437, R438): the secure flash, the mask ROM, the Wavor contents, and the
records of valid images in device-owned namespaces survive; everything else is at its reset value. -/
def ResetTo (s t : State) (nv : SecureFlash) (cause : Nat) (rails low : Bool) : Prop :=
  t = { State.reset with
    nv := nv, rom := s.rom, flash := t.flash, out := t.out, fresh := s.fresh, pending := s.pending,
    img := { Loader.reset with loaded := t.img.loaded }, pins := { State.reset.pins with rstLow := low },
    power := { Power.reset with rails := rails, cause := cause } } ∧
  t.flash.data = s.flash.data ∧ t.flash.nss = s.flash.nss ∧ t.flash.cmds = [] ∧
  ∀ p, p ∈ t.img.loaded ↔ p ∈ s.img.loaded ∧ p.2.resident = false ∧ p.2.valid = true

/-- The firmware operations and RESET (R374, R412, R416 to R420, R437): FW_BEGIN erases the slot and takes the lock, FW_WRITE
programs bytes of it, FW_VERIFY leaves it VERIFIED or FAILED with the CHECK code, FW_SWITCH restarts on it on trial,
FW_CONFIRM raises the anti-rollback counter, FW_REVERT restarts on the other slot; RESET restarts after its reply. Each
completes in every state. -/
def Obligations.FirmwareOperations : Prop :=
  (∀ (s : State) (m : MgmtReq) (a : Nat) (bs : List Byte), Completes (.fwBegin m a) s ∧ Completes (.fwWrite m a bs) s ∧
    Completes (.fwVerify m) s ∧ Completes (.fwSwitch m) s ∧ Completes (.fwConfirm m) s ∧ Completes (.fwRevert m) s ∧
    Completes (.warmMgmt m) s ∧ Completes (.firmware m) s) ∧
  (∀ (s : State) (m : MgmtReq) (l : Link) (n : Nat), MgmtReady s m 0x30 roleFirmware l →
    (s.lantern.recovery = true ∨ s.nv.trial = false) → 256 ≤ n → n ≤ 25165824 →
    ∃ t, Does (.fwBegin m n) s t ∧ MgmtAnswered { setFwSlot s (fwTarget s)
        { bytes := [], length := n, status := .writing } with
        lantern := { s.lantern with lock := some m.link } } t m l 0x30 0 []) ∧
  (∀ (s : State) (m : MgmtReq) (l : Link) (offset : Nat) (bytes : List Byte), MgmtReady s m 0x31 roleFirmware l →
    (targetSlot s).status = .writing → 1 ≤ bytes.length → bytes.length ≤ 1024 →
    offset + bytes.length ≤ (targetSlot s).length →
    ∃ t f, Does (.fwWrite m offset bytes) s t ∧ f = { targetSlot s with bytes := f.bytes } ∧
      WroteMem (targetSlot s).bytes f.bytes offset bytes ∧ MgmtAnswered (setFwSlot s (fwTarget s) f) t m l 0x31 0 []) ∧
  (∀ (s : State) (m : MgmtReq) (l : Link), MgmtReady s m 0x32 roleFirmware l →
    (let c := bundleCheck s (targetSlot s) (some (targetSlot s).length)
     ∃ t, Does (.fwVerify m) s t ∧
       (c = 0 → MgmtAnswered (setFwSlot s (fwTarget s) { targetSlot s with status := .verified }) t m l 0x32 0 []) ∧
       (c ≠ 0 → MgmtAnswered (setFwSlot s (fwTarget s) { targetSlot s with status := .failed }) t m l 0x32 7 (toLE 1 c)))) ∧
  (∀ (s : State) (m : MgmtReq) (l : Link), MgmtReady s m 0x34 roleFirmware l → s.dev ≠ .vermilion → s.nv.trial = true →
    s.sec.boot.trial = true → s.sec.boot.served = true →
    ∃ t, Does (.fwConfirm m) s t ∧ MgmtAnswered { s with nv := { s.nv with
      counter := max s.nv.counter s.sec.boot.svn, trial := false, trialBooted := false } } t m l 0x34 0 []) ∧
  (∀ (s : State) (m : MgmtReq) (l : Link) (c : Instr) (op : Nat) (nv : SecureFlash),
    ((c = .fwSwitch m ∧ op = 0x33 ∧ nv = { s.nv with activeB := fwTarget s, trial := true, trialBooted := false }) ∨
      (c = .fwRevert m ∧ op = 0x35 ∧ s.nv.trial = true ∧
        nv = { s.nv with activeB := !s.nv.activeB, trial := false, trialBooted := false })) →
    MgmtReady s m op roleFirmware l → (s.dev = .sable ∨ s.dev = .ivory ∨ s.dev = .amber) →
    (targetSlot s).status = .verified → s.sec.ctxs = [] → s.img.phase ≠ .checking → s.img.phase ≠ .applying →
    ∃ t, Does c s t ∧ ResetTo s t nv (s.power.wait.getD 3) s.power.rails s.pins.rstLow ∧
      Out.mgmt m.link op 0 m.seq [] ∈ t.out) ∧
  (∀ (s : State) (m : MgmtReq) (l : Link) (c : Instr) (cause : Nat), MgmtReady s m 0x25 roleMaintain l →
    ((c = .warmMgmt m ∧ cause = 2) ∨ (c = .firmware m ∧ cause = 3)) →
    ∃ t, Does c s t ∧ ResetTo s t s.nv (s.power.wait.getD cause) s.power.rails s.pins.rstLow ∧
      t.out = s.out ++ [.mgmt m.link 0x25 0 m.seq []])

/-- HELLO, AUTH, LINK_TIMEOUT, the lane and SENSOR_SAMPLE (R407, R409, R410, R413, R423, R428): a link opens with an unused
number and a challenge, a fifth is BUSY; AUTH authenticates it or ends it with AUTH_FAILED; 300 s end it; the lane goes and
comes with nothing else; a sample is kept with its frame, and STATUS_WORD with its fault flag. Each completes in every
state. -/
def Obligations.ManagementLinks : Prop :=
  (∀ (s : State) (z : Bool) (nonce : List Byte) (a : AuthIn) (k : Nat) (v : Int) (w : Option Nat), Completes (.hello z nonce) s ∧
    Completes (.auth a) s ∧ Completes (.linkTimeout k) s ∧ Completes .managementLaneDown s ∧ Completes .managementLaneUp s ∧
    (sensorExists k = true → Completes (.sensorSample k v w) s)) ∧
  (∀ (s : State) (nonce : List Byte), laneServed s = true → nonce.length = 32 →
    (s.lantern.links.length < 4 →
      ∃ t k x sig, Does (.hello true nonce) s t ∧ k ≠ 0 ∧ k < 2 ^ 32 ∧ tget s.lantern.links k = none ∧
        tget t.lantern.links k = some x ∧ (∀ i, i ≠ k → tget t.lantern.links i = tget s.lantern.links i) ∧
        x.authed = false ∧ x.seq = 0 ∧ x.challenge.length = 32 ∧ x.ephemeral.length = 64 ∧ sig.length = 64 ∧
        (s.sec.boot.identityOk = false → sig = zeros 64) ∧
        t = { s with fresh := t.fresh, lantern := { s.lantern with links := t.lantern.links },
                     out := s.out ++ [.mgmt k 0x01 0 0 (toLE 4 k ++ toLE 1 ((if s.sec.boot.identityOk then 1 else 0) +
                       (if s.lantern.recovery then 2 else 0) + (if s.nv.operators = [] then 4 else 0)) ++ zeros 3 ++
                       x.challenge ++ x.ephemeral ++ sig)] }) ∧
    (4 ≤ s.lantern.links.length → Does (.hello true nonce) s { s with out := s.out ++ [.mgmt 0 0x01 6 0 []] })) ∧
  (∀ (s : State) (a : AuthIn) (l : Link), laneServed s = true → tget s.lantern.links a.link = some l → l.authed = false →
    (authOk s l a = true → ∃ t, Does (.auth a) s t ∧
      tget t.lantern.links a.link = some { l with
        authed := true, slot := a.slot, key := a.pubkey, seq := 0, cache := (0x02, 0, []) } ∧
      (∀ i, i ≠ a.link → tget t.lantern.links i = tget s.lantern.links i) ∧
      t = { s with lantern := { s.lantern with links := t.lantern.links }, out := s.out ++ [.mgmt a.link 0x02 0 0 []] }) ∧
    (authOk s l a = false → ∃ t, Does (.auth a) s t ∧ tget t.lantern.links a.link = none ∧
      (∀ i, i ≠ a.link → tget t.lantern.links i = tget s.lantern.links i) ∧ t.lantern.lock ≠ some a.link ∧
      t = { s with lantern := { s.lantern with links := t.lantern.links, lock := t.lantern.lock },
                   out := s.out ++ [.mgmt a.link 0x02 8 0 []] })) ∧
  (∀ (s : State) (k : Nat) (l : Link), tget s.lantern.links k = some l →
    ∃ t, Does (.linkTimeout k) s t ∧ tget t.lantern.links k = none ∧
      (∀ i, i ≠ k → tget t.lantern.links i = tget s.lantern.links i) ∧ t.lantern.lock ≠ some k ∧
      t = { s with lantern := { s.lantern with links := t.lantern.links, lock := t.lantern.lock } }) ∧
  (∀ s : State, s.lantern.laneUp = true →
    Does .managementLaneDown s { s with lantern := { s.lantern with laneUp := false } }) ∧
  (∀ s : State, s.lantern.laneUp = false → (s.lantern.running = true ∨ s.lantern.recovery = true) →
    Does .managementLaneUp s { s with lantern := { s.lantern with laneUp := true } }) ∧
  (∀ (s : State) (id : Nat) (v : Int) (w : Option Nat), sensorExists id = true → s.lantern.running = true →
    ∃ t x, Does (.sensorSample id v w) s t ∧ tget t.lantern.sensors id = some x ∧ x.frame = sampleFrame s ∧
      (id ≠ 53 → x.value = v) ∧ (id = 53 → x.value = mean s.lantern.powerSamples) ∧
      (∀ i, i ≠ id → tget t.lantern.sensors i = tget s.lantern.sensors i) ∧
      t.lantern.powerSamples = (if id = 51 then (v :: s.lantern.powerSamples).take 100 else s.lantern.powerSamples) ∧
      (∀ k, w = some k → 48 ≤ id → id ≤ 52 → t.power.statusWord = k % 2 ^ 16 ∧
        (k &&& 0xF73F ≠ 0 → FlagUp t .idbus 0x00 3) ∧ (k &&& 0xF73F = 0 → t.regs = s.regs)) ∧
      ((w = none ∨ id < 48 ∨ 52 < id) → t.power = s.power ∧ t.regs = s.regs) ∧
      RegsBut [regAddr .idbus 0x00] s t ∧
      t = { s with regs := t.regs, power := { s.power with statusWord := t.power.statusWord },
                   lantern := { s.lantern with sensors := t.lantern.sensors, powerSamples := t.lantern.powerSamples } })

/-! ### Power, reset and start-up -/

/-- POWER_ON, WARM_PIN, BROWNOUT, THERMAL, POWER_DOWN (R425, R429, R437, R438, R452, R458): each restarts the device with its
cause from its reset state, and the secure flash, the mask ROM, the Wavor contents and what was handed out stay; RST_N
released changes the pin alone. Each completes in every state, and where the pin or the wait is not there for it nothing
changes. -/
def Sys2Proof.Claims.Resets : Prop :=
  (∀ (s : State) (c : Instr) (cause : Nat) (rails low : Bool),
    ((c = .powerOn ∧ s.power.rails = false ∧ cause = 0 ∧ rails = true ∧ low = true) ∨
      (c = .warmPin false ∧ s.power.rails = true ∧ s.pins.rstLow = false ∧ cause = s.power.wait.getD 1 ∧ rails = true ∧
        low = true) ∨
      (c = .brownout ∧ s.power.wait = some 4 ∧ cause = 4 ∧ rails = s.power.rails ∧ low = s.pins.rstLow) ∨
      (c = .thermal ∧ s.power.wait = some 5 ∧ cause = 5 ∧ rails = s.power.rails ∧ low = s.pins.rstLow) ∨
      (c = .powerDown ∧ s.power.rails = true ∧ s.pins.rstLow = true ∧ cause = 0 ∧ rails = false ∧ low = true)) →
    ∃ t, Does c s t ∧ ResetTo s t s.nv cause rails low ∧ t.out = s.out) ∧
  (∀ s : State, s.power.rails = true → s.pins.rstLow = true →
    Does (.warmPin true) s { s with pins := { s.pins with rstLow := false } }) ∧
  (∀ s : State, (s.power.rails = true → Does .powerOn s s) ∧
    (∀ up, (s.power.rails = false ∨ s.pins.rstLow ≠ up) → Does (.warmPin up) s s) ∧
    (s.power.wait ≠ some 4 → Does .brownout s s) ∧ (s.power.wait ≠ some 5 → Does .thermal s s) ∧
    ((s.power.rails = false ∨ s.pins.rstLow = false) → Does .powerDown s s))

/-- START_UP, VR_PG_GOOD, VR_PG_TIMEOUT, VOUT_STEP, WAKE_STEP_RELEASE (R371, R373, R374, R422, R426, R427, R433, R435): the ROM
runs a slot that passes every check, or serves recovery; VR_EN rises only with a valid regulator memory; steps 5 to 9 end
with PHASE 9 and BEACON REASON 2, a failing tile out of service and any other failing unit in Vermilion; the supply steps
by 5 mV within 600 to 800 mV, and a wake step is released within the budget of its frame, or waits. Each completes in every
state. -/
def Obligations.StartUpAndSupply : Prop :=
  (∀ (s : State) (i : StartIn) (j : CoreIn) (ok : Bool), Completes (.startUp i) s ∧ Completes .vrPgTimeout s ∧
    Completes (.voutStep ok) s ∧ Completes .wakeStepRelease s ∧ ((∀ p ∈ j.badPes, p.1 < 640 ∧ p.2.1 < 132 ∧ p.2.2 < 132) →
      (∀ t ∈ j.tileFails, t < 640) → (∀ u ∈ j.unitFails, unitExists u = true) → Completes (.vrPgGood j) s)) ∧
  (∀ (s : State) (i : StartIn), s.power.rails = true → s.pins.rstLow = false → s.power.phase = 1 →
    s.lantern.recovery = false →
    ∃ t, Does (.startUp i) s t ∧ t.nv.counter = s.nv.counter ∧ t.rom = s.rom ∧ t.dev = s.dev ∧ t.out = s.out ∧
      (bootRom s i.identityOk = none →
        (∀ b, bundleCheck s (fwSlot s b) none ≠ 0) ∧ t.lantern.recovery = true ∧ t.lantern.laneUp = true ∧
        t.lantern.running = s.lantern.running ∧ t.power = s.power ∧ t.pins = s.pins) ∧
      (bootRom s i.identityOk ≠ none →
        bundleCheck s (fwSlot s t.sec.boot.slotB) none = 0 ∧ t.nv.activeB = t.sec.boot.slotB ∧ t.lantern.running = true ∧
        t.nv.boots = s.nv.boots + 1 ∧ t.sec.boot.identityOk = i.identityOk ∧
        (let good := (idAttempts i.regulator 64 0x5256535A).contains 0 && regulatorLimits i.regulator.bytes
         (good = true → t.power.phase = 4 ∧ t.power.voutMv = 800 ∧ t.power.awaitPg = true ∧
           t.pins = { s.pins with vrEn := true }) ∧
         (good = false → t.power.phase = 3 ∧ t.pins = s.pins ∧ FlagUp t .pwrseq 0x08 3)))) ∧
  (∀ (s : State) (i : CoreIn), s.power.awaitPg = true →
    (∀ p ∈ i.badPes, p.1 < 640 ∧ p.2.1 < 132 ∧ p.2.2 < 132) → (∀ t ∈ i.tileFails, t < 640) →
    (∀ u ∈ i.unitFails, unitExists u = true) →
    ∃ t, Does (.vrPgGood i) s t ∧ t.power.phase = 9 ∧ t.power.awaitPg = false ∧ t.pins.vrPg = true ∧
      Counted s t .pwrseq 0x30 32 ∧ (∀ k ∈ i.tileFails, (tileAt t k).inService = false) ∧ t.flash.data = s.flash.data ∧
      t.nv.counter = s.nv.counter ∧ t.rom = s.rom ∧ (i.unitFails = [] → t.dev = s.dev ∧ t.reason = 2 ∧ t.out = s.out) ∧
      (i.unitFails ≠ [] → t.dev = .vermilion)) ∧
  (∀ s : State, s.power.awaitPg = true →
    ∃ t, Does .vrPgTimeout s t ∧ FlagUp t .pwrseq 0x08 2 ∧ RegsBut [regAddr .pwrseq 0x08] s t ∧
      t = { s with regs := t.regs, power := { s.power with awaitPg := false } }) ∧
  (∀ (s : State) (ok : Bool), s.pins.vrEn = true → s.pins.vrPg = true →
    Does (.voutStep ok) s { s with power := { s.power with
      voutMv := if ok then max 600 (s.power.voutMv - 5) else min 800 (s.power.voutMv + 5) } }) ∧
  (∀ (s : State) (w : WakeStep) (rest : List WakeStep), s.power.wakes = w :: rest →
    (let used := if enabled s .frame then s.power.released else 0
     (rampBudget s < used + stepAmps w.domain → Does .wakeStepRelease s s) ∧
     (used + stepAmps w.domain ≤ rampBudget s →
       ∃ t, Does .wakeStepRelease s t ∧ Counted s t .pwrseq 0x30 1 ∧ RegsBut [regAddr .pwrseq 0x30] s t ∧
         t = { s with regs := t.regs, power := { s.power with wakes := rest, released := used + stepAmps w.domain } })))

/-- VR_PG_FALL and THERMAL_TRIP (R429, R451, R452, R458): a low of 1 µs while VR_EN is high, or a junction at its trip
temperature, closes the release gate, pulls FLT_N low, drops VR_EN, waits for the reset of its cause and puts its records in
the persistent store; a shorter low, or one with VR_EN low, or a trip after either, changes nothing. -/
def Sys2Proof.Claims.PowerLoss : Prop :=
  (∀ (s : State) (long : Bool), (s.pins.vrEn = false ∨ long = false ∨ s.power.awaitPg = true) → Does (.vrPgFall long) s s) ∧
  (∀ (s : State) (l : List Nat), l ≠ [] → (∀ i ∈ l, tripSensor i = true) → (s.power.wait ≠ none ∨ s.pins.vrEn = false) →
    Does (.thermalTrip l) s s) ∧
  (∀ (s : State) (c : Instr) (cause n : Nat),
    ((c = .vrPgFall true ∧ s.pins.vrEn = true ∧ s.power.awaitPg = false ∧ cause = 4 ∧ n = 1) ∨
      (∃ l : List Nat, c = .thermalTrip l ∧ l ≠ [] ∧ (∀ i ∈ l, tripSensor i = true) ∧ s.power.wait = none ∧
        s.pins.vrEn = true ∧ cause = 5 ∧ n = (asSet l).length)) →
    ∃ t, Does c s t ∧ (cause = 4 → FlagUp t .pwrseq 0x08 2) ∧ (cause = 5 → t.regs = s.regs) ∧
      RegsBut [regAddr .pwrseq 0x08] s t ∧ t.nv.persistNext = s.nv.persistNext + n ∧
      (∃ r, r ∈ t.nv.persist ∧ r.entry.cls = 1 ∧ r.entry.detail % 256 = cause) ∧
      t = { s with
        pins := { s.pins with fltLow := true, vrEn := false, vrPg := false },
        belfry := { s.belfry with gateClosed := true }, power := { s.power with wait := some cause, awaitPg := false },
        regs := t.regs, nv := { s.nv with persist := t.nv.persist, persistNext := t.nv.persistNext } })

/-- The resets and the losses of power that lead to them. -/
def Obligations.ResetsAndPowerLoss : Prop :=
  Claims.Resets ∧ Claims.PowerLoss

/-- THROTTLE_EVALUATION (R44, R430, R440): above 0.95 × SUSTAIN_W or at 90 °C the level rises by one up to 3, with its flag and
its event to every session; after ten calm evaluations, and ten since the last change, it falls by one; otherwise it
stays. PEAK_POWER_WINDOW (R137, R431): above 0.97 × PEAK_W the highest running Elastic tile of the busiest Spire is pre-empted,
counted and flagged; below 0.90 the latest one runs on; between them nothing changes. Each completes with any estimates. -/
def Obligations.PowerLimits : Prop :=
  (∀ s : State, serving s = false → Does .throttleEvaluation s s) ∧
  (∀ (s : State) (l : List Nat), Completes .throttleEvaluation s ∧ Completes (.peakPowerWindow l) s) ∧
  (∀ s : State, serving s = true →
    (let p := sensorValue s 53
     let w : Int := sustainW s
     let hot := 19 * w < 2 * p ∨ 900 ≤ hottest s
     let calm := if 2 * p < 17 * w ∧ hottest s ≤ 850 then s.power.calm + 1 else 0
     let up := hot ∧ s.adm.level < 3
     let down := ¬ hot ∧ 0 < s.adm.level ∧ 10 ≤ calm ∧ 10 ≤ s.power.sinceChange + 1
     ∃ t, Does .throttleEvaluation s t ∧ t.power = { s.power with calm := calm, sinceChange := t.power.sinceChange } ∧
       (up → t.adm.level = s.adm.level + 1) ∧ (down → t.adm.level = s.adm.level - 1) ∧
       (up ∨ down → FlagUp t .pwrseq 0x08 5 ∧ t.power.sinceChange = 0 ∧ ∀ n x, SessionReady s n x → x.mine = false →
         Out.msg n x.firstMsgq 0x85 0 (eventBody s 0x03 t.adm.level 0) (now s) ∈ t.out) ∧
       (¬ up → ¬ down → t.adm = s.adm ∧ t.regs = s.regs ∧ t.out = s.out ∧
         t.power.sinceChange = s.power.sinceChange + 1) ∧
       HandedBut [regAddr .pwrseq 0x08] { s with power := t.power, adm := { s.adm with level := t.adm.level } } t)) ∧
  (∀ (s : State) (e : Nat),
    (97 * peakW s < 100 * e → nextVictim s = none → Does (.peakPowerWindow [e]) s s) ∧
    (∀ i, 97 * peakW s < 100 * e → nextVictim s = some i →
      ∃ t, Does (.peakPowerWindow [e]) s t ∧ tileAt t i = { tileAt s i with run := .preempted } ∧
        (∀ k, k ≠ i → tileAt t k = tileAt s k) ∧ t.power = { s.power with preempted := i :: s.power.preempted } ∧
        FlagUp t .pwrseq 0x08 4 ∧ FlagUp t (.tile i) 0x08 2 ∧ Counted s t .pwrseq 0x28 1 ∧
        RegsBut [regAddr .pwrseq 0x08, regAddr .pwrseq 0x28, regAddr (.tile i) 0x08,
          regAddr (.spire (i / 80)) 0x30] s t ∧
        t = { s with regs := t.regs, tiles := t.tiles, power := t.power }) ∧
    (∀ i more, 100 * e < 90 * peakW s → s.power.preempted = i :: more →
      ∃ t, Does (.peakPowerWindow [e]) s t ∧
        ((tileAt s i).run = .preempted → tileAt t i = { tileAt s i with run := .running }) ∧
        ((tileAt s i).run ≠ .preempted → t.tiles = s.tiles) ∧ (∀ k, k ≠ i → tileAt t k = tileAt s k) ∧
        t = { s with tiles := t.tiles, power := { s.power with preempted := more } }) ∧
    (90 * peakW s ≤ 100 * e → 100 * e ≤ 97 * peakW s → Does (.peakPowerWindow [e]) s s))

/-! ### Frame boundaries, admission and release -/

/-- FRAME_BOUNDARY (R22, R24, R241): at every boundary of a running frame timer, whatever its operands report, the counter goes
up by one, or to the frame that the acquisition set. Outside Ivory and Amber, and with no unit silent and no Dome error, the
frame only frees the entries whose completion was handed over and keeps every other request, the image, the flash and the
device state; a stopped timer has no boundary. -/
def Obligations.FrameBoundary : Prop :=
  (∀ (s : State) (b : BoundaryIn), boundaryOk s b = true → Completes (.frameBoundary b) s) ∧
  (∀ (s : State) (b : BoundaryIn), enabled s .frame = true → boundaryOk s b = true →
    ∃ t, Does (.frameBoundary b) s t ∧ now t = s.frame.nextFrame.getD (s.frame.count + 1) ∧ t.frame.nextFrame = none) ∧
  (∀ (s : State) (b : BoundaryIn), enabled s .frame = true → serving s = false → boundaryOk s b = true → b.silent = [] →
    b.dome = [] →
    (let n := s.frame.nextFrame.getD (s.frame.count + 1)
     ∃ t, Does (.frameBoundary b) s t ∧ now t = n ∧ t.frame.nextFrame = none ∧ t.dev = s.dev ∧ t.img = s.img ∧
       t.flash = s.flash ∧ t.nv = s.nv ∧ t.pins = s.pins ∧
       (∀ e r f, reqAt s e = some r → r.sentFrame = some f → f < n → reqAt t e = none) ∧
       (∀ e, (∀ p ∈ s.reqs, p.1 = e → ∀ f, p.2.sentFrame = some f → n ≤ f) → reqAt t e = reqAt s e))) ∧
  (∀ (s : State) (b : BoundaryIn), enabled s .frame = false → Does (.frameBoundary b) s s)

/-- The release decision of a boundary (R40, R41): with the gate closed nothing leaves; otherwise no fragment of a running
request stays held beyond three frames after it was produced, no other request's fragment is touched, and a request whose
last payload is that old completes with DONE in this frame. -/
def Obligations.ReleaseDecision : Prop :=
  (∀ s : State, s.belfry.gateClosed = true → releaseAll s = s) ∧
  (∀ (s : State) (e : Nat) (r : Request), reqAt s e = some r → r.state ≠ .ending → r.sentFrame = none →
    (∀ f ∈ (releaseEntry s e).hold, f ∈ s.hold ∧ (f.entry = e → now s < f.frame + 3)) ∧
    (∀ f ∈ s.hold, (f.entry ≠ e ∨ now s < f.frame + 3) → f ∈ (releaseEntry s e).hold) ∧
    ((∀ f ∈ s.hold, f.entry = e → f.frame + 3 ≤ now s) → (∃ p, r.produced = some p ∧ p + 3 ≤ now s) →
      ∃ q, reqAt (releaseEntry s e) e = some q ∧ q.sentFrame = some (now s) ∧ q.status = 0) ∧
    (∀ k, k ≠ e → reqAt (releaseEntry s e) k = reqAt s k))

/-- Admission of a submission (R36, R37, R241, R339): the first start frame that fits, no earlier one; a promised frame of at
most n + 4,096; the lowest FREE entry, PENDING with its plan and promise; ACCEPT with handle and promise. A static check
that fails is answered with its REFUSE code, and no entry changes. -/
def Obligations.AdmissionDecides : Prop :=
  (∀ (s : State) (x : Submission) (a : Ask) (f : Fit) (e : Nat) (y : Session), staticCheck s x = .inr a →
    search_ s a (now s) 4096 (now s + 1 + swapDelay s a.gen) = some f → freeEntry s = some e →
    (x.body.deadline = 0 ∨ f.start + planSpan a.plan + 2 ≤ x.body.deadline) →
    sessAt s x.session = some y → (tget y.queues x.queue).isSome = true →
    (let r := newRequest s x f (f.start + planSpan a.plan + 2)
     fits s a (now s) f.start = some f ∧ now s + 1 + swapDelay s a.gen ≤ f.start ∧
     (∀ k, now s + 1 + swapDelay s a.gen ≤ k → k < f.start → fits s a (now s) k = none) ∧
     f.start + planSpan a.plan + 2 ≤ now s + 4096 ∧ (Table.sorted s.reqs = true → reqAt s e = none ∧ ∀ k, k < e → reqAt s k ≠ none) ∧
     reqAt (decideNew s x) e = some r ∧ r.state = .pending ∧
     (∀ k, k ≠ e → reqAt (decideNew s x) k = reqAt s k) ∧
     Out.msg x.session x.queue 0x81 x.tag (toLE 8 (handle e r) ++ toLE 8 r.promised ++
       toLE 1 (if r.elastic then 1 else 0) ++ zeros 7) (now s) ∈ (decideNew s x).out)) ∧
  (∀ (s : State) (x : Submission) (reason : Nat) (y : Session), staticCheck s x = .inl reason →
    sessAt s x.session = some y → (tget y.queues x.queue).isSome = true →
    (decideNew s x).reqs = s.reqs ∧ Counted s (decideNew s x) .admission 0x18 1 ∧
    Out.msg x.session x.queue 0x82 x.tag (toLE 1 reason ++ zeros 7 ++ toLE 8 0) (now s) ∈ (decideNew s x).out)

/-! ### Rules stated whole -/

/-- R39: outside Ivory and Amber a submission is answered with REFUSE and STATE and nothing is accepted; so is one for a
context in Slate that nothing else in R38 refuses first; in Ivory and Amber it joins the next pass. -/
def Obligations.RefusesOutsideService : Prop :=
  (∀ (s : State) (n q tag : Nat) (b : SubmitBody) (x : Session), sessAt s n = some x →
    (tget x.queues q).isSome = true → 64 ≤ q →
    (serving s = false → ∃ t, Does (.submit n q tag b) s t ∧
      Out.msg n q 0x82 tag (toLE 1 0x07 ++ zeros 7 ++ toLE 8 0) (now s) ∈ t.out ∧ t.reqs = s.reqs ∧ t.adm = s.adm) ∧
    (serving s = true → ∃ t y, Does (.submit n q tag b) s t ∧ t.adm = { s.adm with subs := s.adm.subs ++ [y] } ∧
      y.session = n ∧ y.queue = q ∧ y.tag = tag ∧ y.body = b ∧ t.reqs = s.reqs ∧ t.out = s.out)) ∧
  (∀ (s : State) (y : Submission), serving s = false → staticCheck s y = .inl 0x07) ∧
  (∀ (s : State) (y : Submission) (p : PipelineRec) (k : Ctx), serving s = true → freeEntry s ≠ none →
    pipeOf s y.body.pipeline = some p → y.body.elastic = true → ctxAt s y.body.ctx = some k → k.state = .slate →
    staticCheck s y = .inl 0x07) ∧
  (∀ (s : State) (y : Submission) (x : Session), staticCheck s y = .inl 0x07 → sessAt s y.session = some x →
    (tget x.queues y.queue).isSome = true → (decideNew s y).reqs = s.reqs ∧
    Out.msg y.session y.queue 0x82 y.tag (toLE 1 0x07 ++ zeros 7 ++ toLE 8 0) (now s) ∈ (decideNew s y).out)

/-- R416: FW_BEGIN takes the update lock for its link; while a link holds it every other link's firmware operation, FW_BEGIN
among them, is answered with BUSY and does no more; the lock passes back when its link ends. -/
def Obligations.UpdateLock : Prop :=
  (∀ (s : State) (m : MgmtReq) (l : Link) (n : Nat), MgmtReady s m 0x30 roleFirmware l →
    (s.lantern.recovery = true ∨ s.nv.trial = false) → 256 ≤ n → n ≤ 25165824 →
    ∃ t, Does (.fwBegin m n) s t ∧ t.lantern.lock = some m.link) ∧
  (∀ (s : State) (m : MgmtReq) (l : Link) (k op mask : Nat) (c : Instr), s.lantern.lock = some k → k ≠ m.link →
    ((∃ n, c = .fwBegin m n ∧ op = 0x30 ∧ mask = roleFirmware ∧ (s.lantern.recovery = true ∨ s.nv.trial = false)) ∨
      (∃ o bs, c = .fwWrite m o bs ∧ op = 0x31 ∧ mask = roleFirmware ∧ (targetSlot s).status = .writing) ∨
      (c = .fwVerify m ∧ op = 0x32 ∧ mask = roleFirmware) ∨
      (c = .fwSwitch m ∧ op = 0x33 ∧ mask = roleFirmware ∧ switchReady s = true ∧
        (s.dev = .sable ∨ s.dev = .ivory ∨ s.dev = .amber)) ∨
      (c = .fwConfirm m ∧ op = 0x34 ∧ mask = roleFirmware ∧ s.dev ≠ .vermilion ∧ s.nv.trial = true ∧
        s.sec.boot.trial = true ∧ s.sec.boot.served = true) ∨
      (c = .fwRevert m ∧ op = 0x35 ∧ mask = roleFirmware ∧ switchReady s = true ∧ s.nv.trial = true ∧
        (s.dev = .sable ∨ s.dev = .ivory ∨ s.dev = .amber)) ∨
      (c = .fwStatus m ∧ op = 0x36 ∧ mask = roleObserve + roleFirmware)) →
    laneServed s = true → m.tagOk = true → tget s.lantern.links m.link = some l → l.authed = true →
    executing s m.link = false → m.seq = l.seq + 1 → roleHeld s l op mask = true →
    (s.lantern.recovery = true → inRecoveryLoader op = true) →
    ∃ t, Does c s t ∧ MgmtAnswered s t m l op 0x06 []) ∧
  (∀ (s : State) (k : Nat) (l : Link), s.lantern.lock = some k → tget s.lantern.links k = some l →
    ∃ t, Does (.linkTimeout k) s t ∧ tget t.lantern.links k = none ∧ t.lantern.lock = none)

/-- R452: the cause that first drives VR_EN low sets RESET_CAUSE, since a trip can no longer begin and a low of VR_PG changes
nothing; an RST_N assertion during the 100 ms wait ends it with the cause of the wait; a VR_PG low before VR_EN rises, or
while it is low, is ignored. -/
def Obligations.FirstCauseStands : Prop :=
  (∀ s : State, s.pins.vrEn = true → s.power.awaitPg = false →
    ∃ t, Does (.vrPgFall true) s t ∧ t.pins.vrEn = false ∧ t.power.wait = some 4) ∧
  (∀ (s : State) (i : Nat) (l : List Nat), s.pins.vrEn = true → s.power.wait = none →
    (∀ j ∈ i :: l, tripSensor j = true) →
    ∃ t, Does (.thermalTrip (i :: l)) s t ∧ t.pins.vrEn = false ∧ t.power.wait = some 5) ∧
  (∀ (s : State) (c : Nat), s.power.wait = some c → s.pins.vrEn = false →
    (∀ long, Does (.vrPgFall long) s s) ∧
    (∀ j l, (∀ i ∈ j :: l, tripSensor i = true) → Does (.thermalTrip (j :: l)) s s) ∧
    (s.power.rails = true → s.pins.rstLow = false →
      ∃ t, Does (.warmPin false) s t ∧ t.power.cause = c ∧ t.power.wait = none ∧ t.pins.rstLow = true)) ∧
  (∀ (s : State) (long : Bool), s.pins.vrEn = false → Does (.vrPgFall long) s s)
end

