-- ==== Sys2Proof/Laws/Table.lean ====
section
/-! SUPPORT. Laws of tables and memories: a key reads what was written to it, every other key reads as before, and every
operation keeps the canonical form. -/

namespace Sys2Proof.Machine

variable {α : Type}

@[simp] theorem tget_nil (k : Nat) : tget ([] : Table α) k = none := rfl

@[simp] theorem tget_tset_same (t : Table α) (k : Nat) (v : α) : tget (tset t k v) k = some v := by
  induction t with
  | nil => simp [tset, tget]
  | cons e r ih =>
    obtain ⟨j, w⟩ := e
    unfold tset
    split
    · simp [tget]
    · split
      · simp [tget]
      · rename_i h1 h2
        simp [tget, h2, ih]

theorem tget_tset_ne (t : Table α) (k i : Nat) (v : α) (h : i ≠ k) : tget (tset t k v) i = tget t i := by
  induction t with
  | nil => simp [tset, tget, h]
  | cons e r ih =>
    obtain ⟨j, w⟩ := e
    unfold tset
    split
    · simp [tget, h]
    · split
      · rename_i _ h2
        subst h2
        simp [tget, h]
      · simp [tget, ih]

theorem tget_tdel_ne (t : Table α) (k i : Nat) (h : i ≠ k) : tget (tdel t k) i = tget t i := by
  induction t with
  | nil => rfl
  | cons e r ih =>
    obtain ⟨j, w⟩ := e
    unfold tdel
    split
    · rename_i h2
      subst h2
      simp [tget, h, ih]
    · simp [tget, ih]

theorem keysAbove_mono (t : Table α) (a b : Nat) (hab : a ≤ b) (h : keysAbove b t = true) : keysAbove a t = true := by
  cases t with
  | nil => rfl
  | cons e r =>
    simp only [keysAbove, Bool.and_eq_true, decide_eq_true_eq] at h ⊢
    exact ⟨by omega, h.2⟩

theorem tget_below (t : Table α) (k lo : Nat) (h : keysAbove lo t = true) (hk : k < lo) : tget t k = none := by
  induction t generalizing lo with
  | nil => rfl
  | cons e r ih =>
    obtain ⟨j, w⟩ := e
    simp only [keysAbove, Bool.and_eq_true, decide_eq_true_eq] at h
    have : k ≠ j := by omega
    simp only [tget, this, if_false]
    exact ih (j + 1) h.2 (by omega)

@[simp] theorem tget_tdel_same (t : Table α) (k : Nat) : tget (tdel t k) k = none := by
  induction t with
  | nil => rfl
  | cons e r ih =>
    obtain ⟨j, w⟩ := e
    unfold tdel
    split
    · exact ih
    · rename_i h2
      simp only [tget, h2, if_false]
      exact ih

theorem tset_keys (t : Table α) (k lo : Nat) (v : α) (hk : lo ≤ k) (h : keysAbove lo t = true) :
    keysAbove lo (tset t k v) = true := by
  induction t generalizing lo with
  | nil => simp [tset, keysAbove, hk]
  | cons e r ih =>
    obtain ⟨j, w⟩ := e
    simp only [keysAbove, Bool.and_eq_true, decide_eq_true_eq] at h
    unfold tset
    split
    · simp only [keysAbove, Bool.and_eq_true, decide_eq_true_eq]
      exact ⟨hk, by omega, h.2⟩
    · split
      · rename_i _ h2
        subst h2
        simp only [keysAbove, Bool.and_eq_true, decide_eq_true_eq]
        exact h
      · simp only [keysAbove, Bool.and_eq_true, decide_eq_true_eq]
        exact ⟨h.1, ih (j + 1) (by omega) h.2⟩

theorem tdel_keys (t : Table α) (k lo : Nat) (h : keysAbove lo t = true) : keysAbove lo (tdel t k) = true := by
  induction t generalizing lo with
  | nil => rfl
  | cons e r ih =>
    obtain ⟨j, w⟩ := e
    simp only [keysAbove, Bool.and_eq_true, decide_eq_true_eq] at h
    unfold tdel
    split
    · exact keysAbove_mono _ lo (j + 1) (by omega) (ih (j + 1) h.2)
    · simp only [keysAbove, Bool.and_eq_true, decide_eq_true_eq]
      exact ⟨h.1, ih (j + 1) h.2⟩

theorem filter_keys (t : Table α) (p : Nat × α → Bool) (lo : Nat) (h : keysAbove lo t = true) :
    keysAbove lo (t.filter p) = true := by
  induction t generalizing lo with
  | nil => rfl
  | cons e r ih =>
    obtain ⟨j, w⟩ := e
    simp only [keysAbove, Bool.and_eq_true, decide_eq_true_eq] at h
    simp only [List.filter_cons]
    split
    · simp only [keysAbove, Bool.and_eq_true, decide_eq_true_eq]
      exact ⟨h.1, ih (j + 1) h.2⟩
    · exact keysAbove_mono _ lo (j + 1) (by omega) (ih (j + 1) h.2)

theorem tset_sorted (t : Table α) (k : Nat) (v : α) (h : Table.sorted t = true) : Table.sorted (tset t k v) = true :=
  tset_keys t k 0 v (by omega) h

theorem tdel_sorted (t : Table α) (k : Nat) (h : Table.sorted t = true) : Table.sorted (tdel t k) = true :=
  tdel_keys t k 0 h

theorem mem_tset (t : Table α) (k : Nat) (v : α) (e : Nat × α) (h : e ∈ tset t k v) : e = (k, v) ∨ e ∈ t := by
  induction t with
  | nil => simpa [tset] using h
  | cons f r ih =>
    obtain ⟨j, w⟩ := f
    unfold tset at h
    split at h
    · rcases List.mem_cons.mp h with h | h
      · exact .inl h
      · exact .inr h
    · split at h
      · rcases List.mem_cons.mp h with h | h
        · exact .inl h
        · exact .inr (List.mem_cons_of_mem _ h)
      · rcases List.mem_cons.mp h with h | h
        · exact .inr (h ▸ List.mem_cons_self ..)
        · rcases ih h with h | h
          · exact .inl h
          · exact .inr (List.mem_cons_of_mem _ h)

theorem mem_tdel (t : Table α) (k : Nat) (e : Nat × α) (h : e ∈ tdel t k) : e ∈ t := by
  induction t with
  | nil => exact h
  | cons f r ih =>
    obtain ⟨j, w⟩ := f
    unfold tdel at h
    split at h
    · exact List.mem_cons_of_mem _ (ih h)
    · rcases List.mem_cons.mp h with h | h
      · exact h ▸ List.mem_cons_self ..
      · exact List.mem_cons_of_mem _ (ih h)

section Default
variable [DecidableEq α]

theorem tgetD_tsetD_ne (t : Table α) (k i : Nat) (v d : α) (h : i ≠ k) : tgetD (tsetD t k v d) i d = tgetD t i d := by
  unfold tgetD tsetD
  split
  · rw [tget_tdel_ne t k i h]
  · rw [tget_tset_ne t k i v h]

@[simp] theorem tgetD_tsetD_same (t : Table α) (k : Nat) (v d : α) : tgetD (tsetD t k v d) k d = v := by
  unfold tgetD tsetD
  split
  · rename_i hv
    simp [hv]
  · simp

theorem tget_tsetD_ne (t : Table α) (k i : Nat) (v d : α) (h : i ≠ k) : tget (tsetD t k v d) i = tget t i := by
  unfold tsetD
  split
  · exact tget_tdel_ne t k i h
  · exact tget_tset_ne t k i v h

/-- Writing a key keeps the canonical form: a value equal to the default removes the entry. -/
theorem tsetD_wf (t : Table α) (k : Nat) (v d : α) (h : Table.wf d t = true) : Table.wf d (tsetD t k v d) = true := by
  simp only [Table.wf, Bool.and_eq_true, List.all_eq_true, decide_eq_true_eq] at h ⊢
  unfold tsetD
  split
  · exact ⟨tdel_sorted t k h.1, fun e he => h.2 e (mem_tdel t k e he)⟩
  · rename_i hv
    refine ⟨tset_sorted t k v h.1, fun e he => ?_⟩
    rcases mem_tset t k v e he with h2 | h2
    · rw [h2]; exact hv
    · exact h.2 e h2

theorem filter_wf (t : Table α) (d : α) (p : Nat × α → Bool) (h : Table.wf d t = true) :
    Table.wf d (t.filter p) = true := by
  simp only [Table.wf, Bool.and_eq_true, List.all_eq_true, decide_eq_true_eq] at h ⊢
  exact ⟨filter_keys t p 0 h.1, fun e he => h.2 e ((List.mem_filter.mp he).1)⟩

end Default

/-! ### Memories -/

@[simp] theorem memByte_memPut_same (m : Table Byte) (a : Nat) (v : Byte) : memByte (memPut m a v) a = v :=
  tgetD_tsetD_same m a v 0

theorem memByte_memPut_ne (m : Table Byte) (a i : Nat) (v : Byte) (h : i ≠ a) :
    memByte (memPut m a v) i = memByte m i := tgetD_tsetD_ne m a i v 0 h

theorem memPut_wf (m : Table Byte) (a : Nat) (v : Byte) (h : Memory.wf m = true) : Memory.wf (memPut m a v) = true :=
  tsetD_wf m a v 0 h

theorem memWrite_wf (m : Table Byte) (a : Nat) (bs : List Byte) (h : Memory.wf m = true) :
    Memory.wf (memWrite m a bs) = true := by
  induction bs generalizing m a with
  | nil => exact h
  | cons b bs ih => exact ih _ _ (memPut_wf m a b h)

theorem memZero_wf (m : Table Byte) (a n : Nat) (h : Memory.wf m = true) : Memory.wf (memZero m a n) = true :=
  filter_wf m 0 _ h

/-- A write leaves every byte outside the written range as it was. -/
theorem memByte_memWrite_outside (m : Table Byte) (a i : Nat) (bs : List Byte) (h : i < a ∨ a + bs.length ≤ i) :
    memByte (memWrite m a bs) i = memByte m i := by
  induction bs generalizing m a with
  | nil => rfl
  | cons b bs ih =>
    simp only [List.length_cons] at h
    rw [memWrite, ih (memPut m a b) (a + 1) (by omega), memByte_memPut_ne m a i b (by omega)]

/-- A write is read back. -/
theorem memByte_memWrite_inside (m : Table Byte) (a i : Nat) (bs : List Byte) (hi : i < bs.length) : memByte (memWrite m a bs) (a + i) = bs[i] := by
  induction bs generalizing m a i with
  | nil => simp at hi
  | cons b bs ih =>
    cases i with
    | zero =>
      rw [memWrite, memByte_memWrite_outside _ _ _ _ (by omega)]
      simp
    | succ i =>
      have hi' : i < bs.length := by simpa using hi
      have := ih (memPut m a b) (a + 1) i hi'
      rw [memWrite, show a + (i + 1) = a + 1 + i by omega, this]
      simp

end Sys2Proof.Machine
end

