-- ==== Sys2Proof/Laws/State.lean ====
section
/-! SUPPORT. Laws of State: the fields of the base updates, each true by unfolding one definition, so that no proof unfolds
a record update; and the laws of registers. -/

namespace Sys2Proof.Machine

/-! ### setReg -/

@[simp] theorem setReg_dev (s : State) (b : Blk) (off : Nat) (v : Word) : (setReg s b off v).dev = s.dev := rfl
@[simp] theorem setReg_reason (s : State) (b : Blk) (off : Nat) (v : Word) : (setReg s b off v).reason = s.reason := rfl
@[simp] theorem setReg_pins (s : State) (b : Blk) (off : Nat) (v : Word) : (setReg s b off v).pins = s.pins := rfl
@[simp] theorem setReg_frame (s : State) (b : Blk) (off : Nat) (v : Word) : (setReg s b off v).frame = s.frame := rfl
@[simp] theorem setReg_img (s : State) (b : Blk) (off : Nat) (v : Word) : (setReg s b off v).img = s.img := rfl
@[simp] theorem setReg_adm (s : State) (b : Blk) (off : Nat) (v : Word) : (setReg s b off v).adm = s.adm := rfl
@[simp] theorem setReg_reqs (s : State) (b : Blk) (off : Nat) (v : Word) : (setReg s b off v).reqs = s.reqs := rfl
@[simp] theorem setReg_hold (s : State) (b : Blk) (off : Nat) (v : Word) : (setReg s b off v).hold = s.hold := rfl
@[simp] theorem setReg_tiles (s : State) (b : Blk) (off : Nat) (v : Word) : (setReg s b off v).tiles = s.tiles := rfl
@[simp] theorem setReg_spires (s : State) (b : Blk) (off : Nat) (v : Word) : (setReg s b off v).spires = s.spires := rfl
@[simp] theorem setReg_dome (s : State) (b : Blk) (off : Nat) (v : Word) : (setReg s b off v).dome = s.dome := rfl
@[simp] theorem setReg_lowered (s : State) (b : Blk) (off : Nat) (v : Word) : (setReg s b off v).lowered = s.lowered := rfl
@[simp] theorem setReg_search (s : State) (b : Blk) (off : Nat) (v : Word) : (setReg s b off v).search = s.search := rfl
@[simp] theorem setReg_feat (s : State) (b : Blk) (off : Nat) (v : Word) : (setReg s b off v).feat = s.feat := rfl
@[simp] theorem setReg_text (s : State) (b : Blk) (off : Nat) (v : Word) : (setReg s b off v).text = s.text := rfl
@[simp] theorem setReg_serv (s : State) (b : Blk) (off : Nat) (v : Word) : (setReg s b off v).serv = s.serv := rfl
@[simp] theorem setReg_tier (s : State) (b : Blk) (off : Nat) (v : Word) : (setReg s b off v).tier = s.tier := rfl
@[simp] theorem setReg_flash (s : State) (b : Blk) (off : Nat) (v : Word) : (setReg s b off v).flash = s.flash := rfl
@[simp] theorem setReg_port (s : State) (b : Blk) (off : Nat) (v : Word) : (setReg s b off v).port = s.port := rfl
@[simp] theorem setReg_sec (s : State) (b : Blk) (off : Nat) (v : Word) : (setReg s b off v).sec = s.sec := rfl
@[simp] theorem setReg_belfry (s : State) (b : Blk) (off : Nat) (v : Word) : (setReg s b off v).belfry = s.belfry := rfl
@[simp] theorem setReg_lantern (s : State) (b : Blk) (off : Nat) (v : Word) : (setReg s b off v).lantern = s.lantern := rfl
@[simp] theorem setReg_nv (s : State) (b : Blk) (off : Nat) (v : Word) : (setReg s b off v).nv = s.nv := rfl
@[simp] theorem setReg_rom (s : State) (b : Blk) (off : Nat) (v : Word) : (setReg s b off v).rom = s.rom := rfl
@[simp] theorem setReg_power (s : State) (b : Blk) (off : Nat) (v : Word) : (setReg s b off v).power = s.power := rfl
@[simp] theorem setReg_out (s : State) (b : Blk) (off : Nat) (v : Word) : (setReg s b off v).out = s.out := rfl
@[simp] theorem setReg_fresh (s : State) (b : Blk) (off : Nat) (v : Word) : (setReg s b off v).fresh = s.fresh := rfl
@[simp] theorem setReg_pending (s : State) (b : Blk) (off : Nat) (v : Word) : (setReg s b off v).pending = s.pending := rfl

/-! ### setFld -/

@[simp] theorem setFld_dev (s : State) (b : Blk) (off lo n v : Nat) : (setFld s b off lo n v).dev = s.dev := rfl
@[simp] theorem setFld_reason (s : State) (b : Blk) (off lo n v : Nat) : (setFld s b off lo n v).reason = s.reason := rfl
@[simp] theorem setFld_pins (s : State) (b : Blk) (off lo n v : Nat) : (setFld s b off lo n v).pins = s.pins := rfl
@[simp] theorem setFld_frame (s : State) (b : Blk) (off lo n v : Nat) : (setFld s b off lo n v).frame = s.frame := rfl
@[simp] theorem setFld_img (s : State) (b : Blk) (off lo n v : Nat) : (setFld s b off lo n v).img = s.img := rfl
@[simp] theorem setFld_adm (s : State) (b : Blk) (off lo n v : Nat) : (setFld s b off lo n v).adm = s.adm := rfl
@[simp] theorem setFld_reqs (s : State) (b : Blk) (off lo n v : Nat) : (setFld s b off lo n v).reqs = s.reqs := rfl
@[simp] theorem setFld_hold (s : State) (b : Blk) (off lo n v : Nat) : (setFld s b off lo n v).hold = s.hold := rfl
@[simp] theorem setFld_tiles (s : State) (b : Blk) (off lo n v : Nat) : (setFld s b off lo n v).tiles = s.tiles := rfl
@[simp] theorem setFld_spires (s : State) (b : Blk) (off lo n v : Nat) : (setFld s b off lo n v).spires = s.spires := rfl
@[simp] theorem setFld_dome (s : State) (b : Blk) (off lo n v : Nat) : (setFld s b off lo n v).dome = s.dome := rfl
@[simp] theorem setFld_lowered (s : State) (b : Blk) (off lo n v : Nat) : (setFld s b off lo n v).lowered = s.lowered := rfl
@[simp] theorem setFld_search (s : State) (b : Blk) (off lo n v : Nat) : (setFld s b off lo n v).search = s.search := rfl
@[simp] theorem setFld_feat (s : State) (b : Blk) (off lo n v : Nat) : (setFld s b off lo n v).feat = s.feat := rfl
@[simp] theorem setFld_text (s : State) (b : Blk) (off lo n v : Nat) : (setFld s b off lo n v).text = s.text := rfl
@[simp] theorem setFld_serv (s : State) (b : Blk) (off lo n v : Nat) : (setFld s b off lo n v).serv = s.serv := rfl
@[simp] theorem setFld_tier (s : State) (b : Blk) (off lo n v : Nat) : (setFld s b off lo n v).tier = s.tier := rfl
@[simp] theorem setFld_flash (s : State) (b : Blk) (off lo n v : Nat) : (setFld s b off lo n v).flash = s.flash := rfl
@[simp] theorem setFld_port (s : State) (b : Blk) (off lo n v : Nat) : (setFld s b off lo n v).port = s.port := rfl
@[simp] theorem setFld_sec (s : State) (b : Blk) (off lo n v : Nat) : (setFld s b off lo n v).sec = s.sec := rfl
@[simp] theorem setFld_belfry (s : State) (b : Blk) (off lo n v : Nat) : (setFld s b off lo n v).belfry = s.belfry := rfl
@[simp] theorem setFld_lantern (s : State) (b : Blk) (off lo n v : Nat) : (setFld s b off lo n v).lantern = s.lantern := rfl
@[simp] theorem setFld_nv (s : State) (b : Blk) (off lo n v : Nat) : (setFld s b off lo n v).nv = s.nv := rfl
@[simp] theorem setFld_rom (s : State) (b : Blk) (off lo n v : Nat) : (setFld s b off lo n v).rom = s.rom := rfl
@[simp] theorem setFld_power (s : State) (b : Blk) (off lo n v : Nat) : (setFld s b off lo n v).power = s.power := rfl
@[simp] theorem setFld_out (s : State) (b : Blk) (off lo n v : Nat) : (setFld s b off lo n v).out = s.out := rfl
@[simp] theorem setFld_fresh (s : State) (b : Blk) (off lo n v : Nat) : (setFld s b off lo n v).fresh = s.fresh := rfl
@[simp] theorem setFld_pending (s : State) (b : Blk) (off lo n v : Nat) : (setFld s b off lo n v).pending = s.pending := rfl

/-! ### setFlag -/

@[simp] theorem setFlag_dev (s : State) (b : Blk) (off i : Nat) : (setFlag s b off i).dev = s.dev := rfl
@[simp] theorem setFlag_reason (s : State) (b : Blk) (off i : Nat) : (setFlag s b off i).reason = s.reason := rfl
@[simp] theorem setFlag_pins (s : State) (b : Blk) (off i : Nat) : (setFlag s b off i).pins = s.pins := rfl
@[simp] theorem setFlag_frame (s : State) (b : Blk) (off i : Nat) : (setFlag s b off i).frame = s.frame := rfl
@[simp] theorem setFlag_img (s : State) (b : Blk) (off i : Nat) : (setFlag s b off i).img = s.img := rfl
@[simp] theorem setFlag_adm (s : State) (b : Blk) (off i : Nat) : (setFlag s b off i).adm = s.adm := rfl
@[simp] theorem setFlag_reqs (s : State) (b : Blk) (off i : Nat) : (setFlag s b off i).reqs = s.reqs := rfl
@[simp] theorem setFlag_hold (s : State) (b : Blk) (off i : Nat) : (setFlag s b off i).hold = s.hold := rfl
@[simp] theorem setFlag_tiles (s : State) (b : Blk) (off i : Nat) : (setFlag s b off i).tiles = s.tiles := rfl
@[simp] theorem setFlag_spires (s : State) (b : Blk) (off i : Nat) : (setFlag s b off i).spires = s.spires := rfl
@[simp] theorem setFlag_dome (s : State) (b : Blk) (off i : Nat) : (setFlag s b off i).dome = s.dome := rfl
@[simp] theorem setFlag_lowered (s : State) (b : Blk) (off i : Nat) : (setFlag s b off i).lowered = s.lowered := rfl
@[simp] theorem setFlag_search (s : State) (b : Blk) (off i : Nat) : (setFlag s b off i).search = s.search := rfl
@[simp] theorem setFlag_feat (s : State) (b : Blk) (off i : Nat) : (setFlag s b off i).feat = s.feat := rfl
@[simp] theorem setFlag_text (s : State) (b : Blk) (off i : Nat) : (setFlag s b off i).text = s.text := rfl
@[simp] theorem setFlag_serv (s : State) (b : Blk) (off i : Nat) : (setFlag s b off i).serv = s.serv := rfl
@[simp] theorem setFlag_tier (s : State) (b : Blk) (off i : Nat) : (setFlag s b off i).tier = s.tier := rfl
@[simp] theorem setFlag_flash (s : State) (b : Blk) (off i : Nat) : (setFlag s b off i).flash = s.flash := rfl
@[simp] theorem setFlag_port (s : State) (b : Blk) (off i : Nat) : (setFlag s b off i).port = s.port := rfl
@[simp] theorem setFlag_sec (s : State) (b : Blk) (off i : Nat) : (setFlag s b off i).sec = s.sec := rfl
@[simp] theorem setFlag_belfry (s : State) (b : Blk) (off i : Nat) : (setFlag s b off i).belfry = s.belfry := rfl
@[simp] theorem setFlag_lantern (s : State) (b : Blk) (off i : Nat) : (setFlag s b off i).lantern = s.lantern := rfl
@[simp] theorem setFlag_nv (s : State) (b : Blk) (off i : Nat) : (setFlag s b off i).nv = s.nv := rfl
@[simp] theorem setFlag_rom (s : State) (b : Blk) (off i : Nat) : (setFlag s b off i).rom = s.rom := rfl
@[simp] theorem setFlag_power (s : State) (b : Blk) (off i : Nat) : (setFlag s b off i).power = s.power := rfl
@[simp] theorem setFlag_out (s : State) (b : Blk) (off i : Nat) : (setFlag s b off i).out = s.out := rfl
@[simp] theorem setFlag_fresh (s : State) (b : Blk) (off i : Nat) : (setFlag s b off i).fresh = s.fresh := rfl
@[simp] theorem setFlag_pending (s : State) (b : Blk) (off i : Nat) : (setFlag s b off i).pending = s.pending := rfl

/-! ### bump -/

@[simp] theorem bump_dev (s : State) (b : Blk) (off n : Nat) : (bump s b off n).dev = s.dev := rfl
@[simp] theorem bump_reason (s : State) (b : Blk) (off n : Nat) : (bump s b off n).reason = s.reason := rfl
@[simp] theorem bump_pins (s : State) (b : Blk) (off n : Nat) : (bump s b off n).pins = s.pins := rfl
@[simp] theorem bump_frame (s : State) (b : Blk) (off n : Nat) : (bump s b off n).frame = s.frame := rfl
@[simp] theorem bump_img (s : State) (b : Blk) (off n : Nat) : (bump s b off n).img = s.img := rfl
@[simp] theorem bump_adm (s : State) (b : Blk) (off n : Nat) : (bump s b off n).adm = s.adm := rfl
@[simp] theorem bump_reqs (s : State) (b : Blk) (off n : Nat) : (bump s b off n).reqs = s.reqs := rfl
@[simp] theorem bump_hold (s : State) (b : Blk) (off n : Nat) : (bump s b off n).hold = s.hold := rfl
@[simp] theorem bump_tiles (s : State) (b : Blk) (off n : Nat) : (bump s b off n).tiles = s.tiles := rfl
@[simp] theorem bump_spires (s : State) (b : Blk) (off n : Nat) : (bump s b off n).spires = s.spires := rfl
@[simp] theorem bump_dome (s : State) (b : Blk) (off n : Nat) : (bump s b off n).dome = s.dome := rfl
@[simp] theorem bump_lowered (s : State) (b : Blk) (off n : Nat) : (bump s b off n).lowered = s.lowered := rfl
@[simp] theorem bump_search (s : State) (b : Blk) (off n : Nat) : (bump s b off n).search = s.search := rfl
@[simp] theorem bump_feat (s : State) (b : Blk) (off n : Nat) : (bump s b off n).feat = s.feat := rfl
@[simp] theorem bump_text (s : State) (b : Blk) (off n : Nat) : (bump s b off n).text = s.text := rfl
@[simp] theorem bump_serv (s : State) (b : Blk) (off n : Nat) : (bump s b off n).serv = s.serv := rfl
@[simp] theorem bump_tier (s : State) (b : Blk) (off n : Nat) : (bump s b off n).tier = s.tier := rfl
@[simp] theorem bump_flash (s : State) (b : Blk) (off n : Nat) : (bump s b off n).flash = s.flash := rfl
@[simp] theorem bump_port (s : State) (b : Blk) (off n : Nat) : (bump s b off n).port = s.port := rfl
@[simp] theorem bump_sec (s : State) (b : Blk) (off n : Nat) : (bump s b off n).sec = s.sec := rfl
@[simp] theorem bump_belfry (s : State) (b : Blk) (off n : Nat) : (bump s b off n).belfry = s.belfry := rfl
@[simp] theorem bump_lantern (s : State) (b : Blk) (off n : Nat) : (bump s b off n).lantern = s.lantern := rfl
@[simp] theorem bump_nv (s : State) (b : Blk) (off n : Nat) : (bump s b off n).nv = s.nv := rfl
@[simp] theorem bump_rom (s : State) (b : Blk) (off n : Nat) : (bump s b off n).rom = s.rom := rfl
@[simp] theorem bump_power (s : State) (b : Blk) (off n : Nat) : (bump s b off n).power = s.power := rfl
@[simp] theorem bump_out (s : State) (b : Blk) (off n : Nat) : (bump s b off n).out = s.out := rfl
@[simp] theorem bump_fresh (s : State) (b : Blk) (off n : Nat) : (bump s b off n).fresh = s.fresh := rfl
@[simp] theorem bump_pending (s : State) (b : Blk) (off n : Nat) : (bump s b off n).pending = s.pending := rfl

/-! ### setEnable -/

@[simp] theorem setEnable_dev (s : State) (b : Blk) (on : Bool) : (setEnable s b on).dev = s.dev := rfl
@[simp] theorem setEnable_reason (s : State) (b : Blk) (on : Bool) : (setEnable s b on).reason = s.reason := rfl
@[simp] theorem setEnable_pins (s : State) (b : Blk) (on : Bool) : (setEnable s b on).pins = s.pins := rfl
@[simp] theorem setEnable_frame (s : State) (b : Blk) (on : Bool) : (setEnable s b on).frame = s.frame := rfl
@[simp] theorem setEnable_img (s : State) (b : Blk) (on : Bool) : (setEnable s b on).img = s.img := rfl
@[simp] theorem setEnable_adm (s : State) (b : Blk) (on : Bool) : (setEnable s b on).adm = s.adm := rfl
@[simp] theorem setEnable_reqs (s : State) (b : Blk) (on : Bool) : (setEnable s b on).reqs = s.reqs := rfl
@[simp] theorem setEnable_hold (s : State) (b : Blk) (on : Bool) : (setEnable s b on).hold = s.hold := rfl
@[simp] theorem setEnable_tiles (s : State) (b : Blk) (on : Bool) : (setEnable s b on).tiles = s.tiles := rfl
@[simp] theorem setEnable_spires (s : State) (b : Blk) (on : Bool) : (setEnable s b on).spires = s.spires := rfl
@[simp] theorem setEnable_dome (s : State) (b : Blk) (on : Bool) : (setEnable s b on).dome = s.dome := rfl
@[simp] theorem setEnable_lowered (s : State) (b : Blk) (on : Bool) : (setEnable s b on).lowered = s.lowered := rfl
@[simp] theorem setEnable_search (s : State) (b : Blk) (on : Bool) : (setEnable s b on).search = s.search := rfl
@[simp] theorem setEnable_feat (s : State) (b : Blk) (on : Bool) : (setEnable s b on).feat = s.feat := rfl
@[simp] theorem setEnable_text (s : State) (b : Blk) (on : Bool) : (setEnable s b on).text = s.text := rfl
@[simp] theorem setEnable_serv (s : State) (b : Blk) (on : Bool) : (setEnable s b on).serv = s.serv := rfl
@[simp] theorem setEnable_tier (s : State) (b : Blk) (on : Bool) : (setEnable s b on).tier = s.tier := rfl
@[simp] theorem setEnable_flash (s : State) (b : Blk) (on : Bool) : (setEnable s b on).flash = s.flash := rfl
@[simp] theorem setEnable_port (s : State) (b : Blk) (on : Bool) : (setEnable s b on).port = s.port := rfl
@[simp] theorem setEnable_sec (s : State) (b : Blk) (on : Bool) : (setEnable s b on).sec = s.sec := rfl
@[simp] theorem setEnable_belfry (s : State) (b : Blk) (on : Bool) : (setEnable s b on).belfry = s.belfry := rfl
@[simp] theorem setEnable_lantern (s : State) (b : Blk) (on : Bool) : (setEnable s b on).lantern = s.lantern := rfl
@[simp] theorem setEnable_nv (s : State) (b : Blk) (on : Bool) : (setEnable s b on).nv = s.nv := rfl
@[simp] theorem setEnable_rom (s : State) (b : Blk) (on : Bool) : (setEnable s b on).rom = s.rom := rfl
@[simp] theorem setEnable_power (s : State) (b : Blk) (on : Bool) : (setEnable s b on).power = s.power := rfl
@[simp] theorem setEnable_out (s : State) (b : Blk) (on : Bool) : (setEnable s b on).out = s.out := rfl
@[simp] theorem setEnable_fresh (s : State) (b : Blk) (on : Bool) : (setEnable s b on).fresh = s.fresh := rfl
@[simp] theorem setEnable_pending (s : State) (b : Blk) (on : Bool) : (setEnable s b on).pending = s.pending := rfl

/-! ### setTile -/

@[simp] theorem setTile_dev (s : State) (t : Nat) (x : Tile) : (setTile s t x).dev = s.dev := rfl
@[simp] theorem setTile_reason (s : State) (t : Nat) (x : Tile) : (setTile s t x).reason = s.reason := rfl
@[simp] theorem setTile_pins (s : State) (t : Nat) (x : Tile) : (setTile s t x).pins = s.pins := rfl
@[simp] theorem setTile_regs (s : State) (t : Nat) (x : Tile) : (setTile s t x).regs = s.regs := rfl
@[simp] theorem setTile_frame (s : State) (t : Nat) (x : Tile) : (setTile s t x).frame = s.frame := rfl
@[simp] theorem setTile_img (s : State) (t : Nat) (x : Tile) : (setTile s t x).img = s.img := rfl
@[simp] theorem setTile_adm (s : State) (t : Nat) (x : Tile) : (setTile s t x).adm = s.adm := rfl
@[simp] theorem setTile_reqs (s : State) (t : Nat) (x : Tile) : (setTile s t x).reqs = s.reqs := rfl
@[simp] theorem setTile_hold (s : State) (t : Nat) (x : Tile) : (setTile s t x).hold = s.hold := rfl
@[simp] theorem setTile_spires (s : State) (t : Nat) (x : Tile) : (setTile s t x).spires = s.spires := rfl
@[simp] theorem setTile_dome (s : State) (t : Nat) (x : Tile) : (setTile s t x).dome = s.dome := rfl
@[simp] theorem setTile_lowered (s : State) (t : Nat) (x : Tile) : (setTile s t x).lowered = s.lowered := rfl
@[simp] theorem setTile_search (s : State) (t : Nat) (x : Tile) : (setTile s t x).search = s.search := rfl
@[simp] theorem setTile_feat (s : State) (t : Nat) (x : Tile) : (setTile s t x).feat = s.feat := rfl
@[simp] theorem setTile_text (s : State) (t : Nat) (x : Tile) : (setTile s t x).text = s.text := rfl
@[simp] theorem setTile_serv (s : State) (t : Nat) (x : Tile) : (setTile s t x).serv = s.serv := rfl
@[simp] theorem setTile_tier (s : State) (t : Nat) (x : Tile) : (setTile s t x).tier = s.tier := rfl
@[simp] theorem setTile_flash (s : State) (t : Nat) (x : Tile) : (setTile s t x).flash = s.flash := rfl
@[simp] theorem setTile_port (s : State) (t : Nat) (x : Tile) : (setTile s t x).port = s.port := rfl
@[simp] theorem setTile_sec (s : State) (t : Nat) (x : Tile) : (setTile s t x).sec = s.sec := rfl
@[simp] theorem setTile_belfry (s : State) (t : Nat) (x : Tile) : (setTile s t x).belfry = s.belfry := rfl
@[simp] theorem setTile_lantern (s : State) (t : Nat) (x : Tile) : (setTile s t x).lantern = s.lantern := rfl
@[simp] theorem setTile_nv (s : State) (t : Nat) (x : Tile) : (setTile s t x).nv = s.nv := rfl
@[simp] theorem setTile_rom (s : State) (t : Nat) (x : Tile) : (setTile s t x).rom = s.rom := rfl
@[simp] theorem setTile_power (s : State) (t : Nat) (x : Tile) : (setTile s t x).power = s.power := rfl
@[simp] theorem setTile_out (s : State) (t : Nat) (x : Tile) : (setTile s t x).out = s.out := rfl
@[simp] theorem setTile_fresh (s : State) (t : Nat) (x : Tile) : (setTile s t x).fresh = s.fresh := rfl
@[simp] theorem setTile_pending (s : State) (t : Nat) (x : Tile) : (setTile s t x).pending = s.pending := rfl

/-! ### setSpire -/

@[simp] theorem setSpire_dev (s : State) (p : Nat) (x : Spire) : (setSpire s p x).dev = s.dev := rfl
@[simp] theorem setSpire_reason (s : State) (p : Nat) (x : Spire) : (setSpire s p x).reason = s.reason := rfl
@[simp] theorem setSpire_pins (s : State) (p : Nat) (x : Spire) : (setSpire s p x).pins = s.pins := rfl
@[simp] theorem setSpire_regs (s : State) (p : Nat) (x : Spire) : (setSpire s p x).regs = s.regs := rfl
@[simp] theorem setSpire_frame (s : State) (p : Nat) (x : Spire) : (setSpire s p x).frame = s.frame := rfl
@[simp] theorem setSpire_img (s : State) (p : Nat) (x : Spire) : (setSpire s p x).img = s.img := rfl
@[simp] theorem setSpire_adm (s : State) (p : Nat) (x : Spire) : (setSpire s p x).adm = s.adm := rfl
@[simp] theorem setSpire_reqs (s : State) (p : Nat) (x : Spire) : (setSpire s p x).reqs = s.reqs := rfl
@[simp] theorem setSpire_hold (s : State) (p : Nat) (x : Spire) : (setSpire s p x).hold = s.hold := rfl
@[simp] theorem setSpire_tiles (s : State) (p : Nat) (x : Spire) : (setSpire s p x).tiles = s.tiles := rfl
@[simp] theorem setSpire_dome (s : State) (p : Nat) (x : Spire) : (setSpire s p x).dome = s.dome := rfl
@[simp] theorem setSpire_lowered (s : State) (p : Nat) (x : Spire) : (setSpire s p x).lowered = s.lowered := rfl
@[simp] theorem setSpire_search (s : State) (p : Nat) (x : Spire) : (setSpire s p x).search = s.search := rfl
@[simp] theorem setSpire_feat (s : State) (p : Nat) (x : Spire) : (setSpire s p x).feat = s.feat := rfl
@[simp] theorem setSpire_text (s : State) (p : Nat) (x : Spire) : (setSpire s p x).text = s.text := rfl
@[simp] theorem setSpire_serv (s : State) (p : Nat) (x : Spire) : (setSpire s p x).serv = s.serv := rfl
@[simp] theorem setSpire_tier (s : State) (p : Nat) (x : Spire) : (setSpire s p x).tier = s.tier := rfl
@[simp] theorem setSpire_flash (s : State) (p : Nat) (x : Spire) : (setSpire s p x).flash = s.flash := rfl
@[simp] theorem setSpire_port (s : State) (p : Nat) (x : Spire) : (setSpire s p x).port = s.port := rfl
@[simp] theorem setSpire_sec (s : State) (p : Nat) (x : Spire) : (setSpire s p x).sec = s.sec := rfl
@[simp] theorem setSpire_belfry (s : State) (p : Nat) (x : Spire) : (setSpire s p x).belfry = s.belfry := rfl
@[simp] theorem setSpire_lantern (s : State) (p : Nat) (x : Spire) : (setSpire s p x).lantern = s.lantern := rfl
@[simp] theorem setSpire_nv (s : State) (p : Nat) (x : Spire) : (setSpire s p x).nv = s.nv := rfl
@[simp] theorem setSpire_rom (s : State) (p : Nat) (x : Spire) : (setSpire s p x).rom = s.rom := rfl
@[simp] theorem setSpire_power (s : State) (p : Nat) (x : Spire) : (setSpire s p x).power = s.power := rfl
@[simp] theorem setSpire_out (s : State) (p : Nat) (x : Spire) : (setSpire s p x).out = s.out := rfl
@[simp] theorem setSpire_fresh (s : State) (p : Nat) (x : Spire) : (setSpire s p x).fresh = s.fresh := rfl
@[simp] theorem setSpire_pending (s : State) (p : Nat) (x : Spire) : (setSpire s p x).pending = s.pending := rfl

/-! ### setReq -/

@[simp] theorem setReq_dev (s : State) (e : Nat) (r : Request) : (setReq s e r).dev = s.dev := rfl
@[simp] theorem setReq_reason (s : State) (e : Nat) (r : Request) : (setReq s e r).reason = s.reason := rfl
@[simp] theorem setReq_pins (s : State) (e : Nat) (r : Request) : (setReq s e r).pins = s.pins := rfl
@[simp] theorem setReq_regs (s : State) (e : Nat) (r : Request) : (setReq s e r).regs = s.regs := rfl
@[simp] theorem setReq_frame (s : State) (e : Nat) (r : Request) : (setReq s e r).frame = s.frame := rfl
@[simp] theorem setReq_img (s : State) (e : Nat) (r : Request) : (setReq s e r).img = s.img := rfl
@[simp] theorem setReq_adm (s : State) (e : Nat) (r : Request) : (setReq s e r).adm = s.adm := rfl
@[simp] theorem setReq_hold (s : State) (e : Nat) (r : Request) : (setReq s e r).hold = s.hold := rfl
@[simp] theorem setReq_tiles (s : State) (e : Nat) (r : Request) : (setReq s e r).tiles = s.tiles := rfl
@[simp] theorem setReq_spires (s : State) (e : Nat) (r : Request) : (setReq s e r).spires = s.spires := rfl
@[simp] theorem setReq_dome (s : State) (e : Nat) (r : Request) : (setReq s e r).dome = s.dome := rfl
@[simp] theorem setReq_lowered (s : State) (e : Nat) (r : Request) : (setReq s e r).lowered = s.lowered := rfl
@[simp] theorem setReq_search (s : State) (e : Nat) (r : Request) : (setReq s e r).search = s.search := rfl
@[simp] theorem setReq_feat (s : State) (e : Nat) (r : Request) : (setReq s e r).feat = s.feat := rfl
@[simp] theorem setReq_text (s : State) (e : Nat) (r : Request) : (setReq s e r).text = s.text := rfl
@[simp] theorem setReq_serv (s : State) (e : Nat) (r : Request) : (setReq s e r).serv = s.serv := rfl
@[simp] theorem setReq_tier (s : State) (e : Nat) (r : Request) : (setReq s e r).tier = s.tier := rfl
@[simp] theorem setReq_flash (s : State) (e : Nat) (r : Request) : (setReq s e r).flash = s.flash := rfl
@[simp] theorem setReq_port (s : State) (e : Nat) (r : Request) : (setReq s e r).port = s.port := rfl
@[simp] theorem setReq_sec (s : State) (e : Nat) (r : Request) : (setReq s e r).sec = s.sec := rfl
@[simp] theorem setReq_belfry (s : State) (e : Nat) (r : Request) : (setReq s e r).belfry = s.belfry := rfl
@[simp] theorem setReq_lantern (s : State) (e : Nat) (r : Request) : (setReq s e r).lantern = s.lantern := rfl
@[simp] theorem setReq_nv (s : State) (e : Nat) (r : Request) : (setReq s e r).nv = s.nv := rfl
@[simp] theorem setReq_rom (s : State) (e : Nat) (r : Request) : (setReq s e r).rom = s.rom := rfl
@[simp] theorem setReq_power (s : State) (e : Nat) (r : Request) : (setReq s e r).power = s.power := rfl
@[simp] theorem setReq_out (s : State) (e : Nat) (r : Request) : (setReq s e r).out = s.out := rfl
@[simp] theorem setReq_fresh (s : State) (e : Nat) (r : Request) : (setReq s e r).fresh = s.fresh := rfl
@[simp] theorem setReq_pending (s : State) (e : Nat) (r : Request) : (setReq s e r).pending = s.pending := rfl

/-! ### setSess -/

@[simp] theorem setSess_dev (s : State) (n : Nat) (x : Session) : (setSess s n x).dev = s.dev := rfl
@[simp] theorem setSess_reason (s : State) (n : Nat) (x : Session) : (setSess s n x).reason = s.reason := rfl
@[simp] theorem setSess_pins (s : State) (n : Nat) (x : Session) : (setSess s n x).pins = s.pins := rfl
@[simp] theorem setSess_regs (s : State) (n : Nat) (x : Session) : (setSess s n x).regs = s.regs := rfl
@[simp] theorem setSess_frame (s : State) (n : Nat) (x : Session) : (setSess s n x).frame = s.frame := rfl
@[simp] theorem setSess_img (s : State) (n : Nat) (x : Session) : (setSess s n x).img = s.img := rfl
@[simp] theorem setSess_adm (s : State) (n : Nat) (x : Session) : (setSess s n x).adm = s.adm := rfl
@[simp] theorem setSess_reqs (s : State) (n : Nat) (x : Session) : (setSess s n x).reqs = s.reqs := rfl
@[simp] theorem setSess_hold (s : State) (n : Nat) (x : Session) : (setSess s n x).hold = s.hold := rfl
@[simp] theorem setSess_tiles (s : State) (n : Nat) (x : Session) : (setSess s n x).tiles = s.tiles := rfl
@[simp] theorem setSess_spires (s : State) (n : Nat) (x : Session) : (setSess s n x).spires = s.spires := rfl
@[simp] theorem setSess_dome (s : State) (n : Nat) (x : Session) : (setSess s n x).dome = s.dome := rfl
@[simp] theorem setSess_lowered (s : State) (n : Nat) (x : Session) : (setSess s n x).lowered = s.lowered := rfl
@[simp] theorem setSess_search (s : State) (n : Nat) (x : Session) : (setSess s n x).search = s.search := rfl
@[simp] theorem setSess_feat (s : State) (n : Nat) (x : Session) : (setSess s n x).feat = s.feat := rfl
@[simp] theorem setSess_text (s : State) (n : Nat) (x : Session) : (setSess s n x).text = s.text := rfl
@[simp] theorem setSess_serv (s : State) (n : Nat) (x : Session) : (setSess s n x).serv = s.serv := rfl
@[simp] theorem setSess_tier (s : State) (n : Nat) (x : Session) : (setSess s n x).tier = s.tier := rfl
@[simp] theorem setSess_flash (s : State) (n : Nat) (x : Session) : (setSess s n x).flash = s.flash := rfl
@[simp] theorem setSess_sec (s : State) (n : Nat) (x : Session) : (setSess s n x).sec = s.sec := rfl
@[simp] theorem setSess_belfry (s : State) (n : Nat) (x : Session) : (setSess s n x).belfry = s.belfry := rfl
@[simp] theorem setSess_lantern (s : State) (n : Nat) (x : Session) : (setSess s n x).lantern = s.lantern := rfl
@[simp] theorem setSess_nv (s : State) (n : Nat) (x : Session) : (setSess s n x).nv = s.nv := rfl
@[simp] theorem setSess_rom (s : State) (n : Nat) (x : Session) : (setSess s n x).rom = s.rom := rfl
@[simp] theorem setSess_power (s : State) (n : Nat) (x : Session) : (setSess s n x).power = s.power := rfl
@[simp] theorem setSess_out (s : State) (n : Nat) (x : Session) : (setSess s n x).out = s.out := rfl
@[simp] theorem setSess_fresh (s : State) (n : Nat) (x : Session) : (setSess s n x).fresh = s.fresh := rfl
@[simp] theorem setSess_pending (s : State) (n : Nat) (x : Session) : (setSess s n x).pending = s.pending := rfl

/-! ### setCtx -/

@[simp] theorem setCtx_dev (s : State) (c : Nat) (x : Ctx) : (setCtx s c x).dev = s.dev := rfl
@[simp] theorem setCtx_reason (s : State) (c : Nat) (x : Ctx) : (setCtx s c x).reason = s.reason := rfl
@[simp] theorem setCtx_pins (s : State) (c : Nat) (x : Ctx) : (setCtx s c x).pins = s.pins := rfl
@[simp] theorem setCtx_regs (s : State) (c : Nat) (x : Ctx) : (setCtx s c x).regs = s.regs := rfl
@[simp] theorem setCtx_frame (s : State) (c : Nat) (x : Ctx) : (setCtx s c x).frame = s.frame := rfl
@[simp] theorem setCtx_img (s : State) (c : Nat) (x : Ctx) : (setCtx s c x).img = s.img := rfl
@[simp] theorem setCtx_adm (s : State) (c : Nat) (x : Ctx) : (setCtx s c x).adm = s.adm := rfl
@[simp] theorem setCtx_reqs (s : State) (c : Nat) (x : Ctx) : (setCtx s c x).reqs = s.reqs := rfl
@[simp] theorem setCtx_hold (s : State) (c : Nat) (x : Ctx) : (setCtx s c x).hold = s.hold := rfl
@[simp] theorem setCtx_tiles (s : State) (c : Nat) (x : Ctx) : (setCtx s c x).tiles = s.tiles := rfl
@[simp] theorem setCtx_spires (s : State) (c : Nat) (x : Ctx) : (setCtx s c x).spires = s.spires := rfl
@[simp] theorem setCtx_dome (s : State) (c : Nat) (x : Ctx) : (setCtx s c x).dome = s.dome := rfl
@[simp] theorem setCtx_lowered (s : State) (c : Nat) (x : Ctx) : (setCtx s c x).lowered = s.lowered := rfl
@[simp] theorem setCtx_search (s : State) (c : Nat) (x : Ctx) : (setCtx s c x).search = s.search := rfl
@[simp] theorem setCtx_feat (s : State) (c : Nat) (x : Ctx) : (setCtx s c x).feat = s.feat := rfl
@[simp] theorem setCtx_text (s : State) (c : Nat) (x : Ctx) : (setCtx s c x).text = s.text := rfl
@[simp] theorem setCtx_serv (s : State) (c : Nat) (x : Ctx) : (setCtx s c x).serv = s.serv := rfl
@[simp] theorem setCtx_tier (s : State) (c : Nat) (x : Ctx) : (setCtx s c x).tier = s.tier := rfl
@[simp] theorem setCtx_flash (s : State) (c : Nat) (x : Ctx) : (setCtx s c x).flash = s.flash := rfl
@[simp] theorem setCtx_port (s : State) (c : Nat) (x : Ctx) : (setCtx s c x).port = s.port := rfl
@[simp] theorem setCtx_belfry (s : State) (c : Nat) (x : Ctx) : (setCtx s c x).belfry = s.belfry := rfl
@[simp] theorem setCtx_lantern (s : State) (c : Nat) (x : Ctx) : (setCtx s c x).lantern = s.lantern := rfl
@[simp] theorem setCtx_nv (s : State) (c : Nat) (x : Ctx) : (setCtx s c x).nv = s.nv := rfl
@[simp] theorem setCtx_rom (s : State) (c : Nat) (x : Ctx) : (setCtx s c x).rom = s.rom := rfl
@[simp] theorem setCtx_power (s : State) (c : Nat) (x : Ctx) : (setCtx s c x).power = s.power := rfl
@[simp] theorem setCtx_out (s : State) (c : Nat) (x : Ctx) : (setCtx s c x).out = s.out := rfl
@[simp] theorem setCtx_fresh (s : State) (c : Nat) (x : Ctx) : (setCtx s c x).fresh = s.fresh := rfl
@[simp] theorem setCtx_pending (s : State) (c : Nat) (x : Ctx) : (setCtx s c x).pending = s.pending := rfl

/-! ### emitOut -/

@[simp] theorem emitOut_dev (s : State) (o : Out) : (emitOut s o).dev = s.dev := rfl
@[simp] theorem emitOut_reason (s : State) (o : Out) : (emitOut s o).reason = s.reason := rfl
@[simp] theorem emitOut_pins (s : State) (o : Out) : (emitOut s o).pins = s.pins := rfl
@[simp] theorem emitOut_regs (s : State) (o : Out) : (emitOut s o).regs = s.regs := rfl
@[simp] theorem emitOut_frame (s : State) (o : Out) : (emitOut s o).frame = s.frame := rfl
@[simp] theorem emitOut_img (s : State) (o : Out) : (emitOut s o).img = s.img := rfl
@[simp] theorem emitOut_adm (s : State) (o : Out) : (emitOut s o).adm = s.adm := rfl
@[simp] theorem emitOut_reqs (s : State) (o : Out) : (emitOut s o).reqs = s.reqs := rfl
@[simp] theorem emitOut_hold (s : State) (o : Out) : (emitOut s o).hold = s.hold := rfl
@[simp] theorem emitOut_tiles (s : State) (o : Out) : (emitOut s o).tiles = s.tiles := rfl
@[simp] theorem emitOut_spires (s : State) (o : Out) : (emitOut s o).spires = s.spires := rfl
@[simp] theorem emitOut_dome (s : State) (o : Out) : (emitOut s o).dome = s.dome := rfl
@[simp] theorem emitOut_lowered (s : State) (o : Out) : (emitOut s o).lowered = s.lowered := rfl
@[simp] theorem emitOut_search (s : State) (o : Out) : (emitOut s o).search = s.search := rfl
@[simp] theorem emitOut_feat (s : State) (o : Out) : (emitOut s o).feat = s.feat := rfl
@[simp] theorem emitOut_text (s : State) (o : Out) : (emitOut s o).text = s.text := rfl
@[simp] theorem emitOut_serv (s : State) (o : Out) : (emitOut s o).serv = s.serv := rfl
@[simp] theorem emitOut_tier (s : State) (o : Out) : (emitOut s o).tier = s.tier := rfl
@[simp] theorem emitOut_flash (s : State) (o : Out) : (emitOut s o).flash = s.flash := rfl
@[simp] theorem emitOut_port (s : State) (o : Out) : (emitOut s o).port = s.port := rfl
@[simp] theorem emitOut_sec (s : State) (o : Out) : (emitOut s o).sec = s.sec := rfl
@[simp] theorem emitOut_belfry (s : State) (o : Out) : (emitOut s o).belfry = s.belfry := rfl
@[simp] theorem emitOut_lantern (s : State) (o : Out) : (emitOut s o).lantern = s.lantern := rfl
@[simp] theorem emitOut_nv (s : State) (o : Out) : (emitOut s o).nv = s.nv := rfl
@[simp] theorem emitOut_rom (s : State) (o : Out) : (emitOut s o).rom = s.rom := rfl
@[simp] theorem emitOut_power (s : State) (o : Out) : (emitOut s o).power = s.power := rfl
@[simp] theorem emitOut_fresh (s : State) (o : Out) : (emitOut s o).fresh = s.fresh := rfl
@[simp] theorem emitOut_pending (s : State) (o : Out) : (emitOut s o).pending = s.pending := rfl

@[simp] theorem setTile_tiles (s : State) (t : Nat) (x : Tile) : (setTile s t x).tiles = tsetD s.tiles t x Tile.reset := rfl
@[simp] theorem setSpire_spires (s : State) (p : Nat) (x : Spire) : (setSpire s p x).spires = tsetD s.spires p x Spire.reset := rfl
@[simp] theorem setReq_reqs (s : State) (e : Nat) (r : Request) : (setReq s e r).reqs = tset s.reqs e r := rfl
@[simp] theorem setSess_port (s : State) (n : Nat) (x : Session) :
    (setSess s n x).port = { s.port with sessions := tset s.port.sessions n x } := rfl
@[simp] theorem setCtx_sec (s : State) (c : Nat) (x : Ctx) :
    (setCtx s c x).sec = { s.sec with ctxs := tset s.sec.ctxs c x } := rfl
@[simp] theorem emitOut_out (s : State) (o : Out) : (emitOut s o).out = s.out ++ [o] := rfl

/-! ### Registers -/

/-- A register written reads the value written. -/
@[simp] theorem reg_setReg_same (s : State) (b : Blk) (off : Nat) (v : Word) : reg (setReg s b off v) b off = v :=
  tgetD_tsetD_same s.regs _ v _

/-- Every other address reads as before. -/
theorem reg_setReg_ne (s : State) (b c : Blk) (off o : Nat) (v : Word) (h : regAddr c o ≠ regAddr b off) :
    reg (setReg s b off v) c o = reg s c o := by
  unfold reg setReg
  simp only
  unfold tgetD tsetD
  split
  · rw [tget_tdel_ne s.regs _ _ h]
  · rw [tget_tset_ne s.regs _ _ v h]

/-- Writing a register keeps the register file sorted. -/
theorem setReg_sorted (s : State) (b : Blk) (off : Nat) (v : Word) (h : Table.sorted s.regs = true) :
    Table.sorted (setReg s b off v).regs = true := by
  show Table.sorted (tsetD s.regs _ v _) = true
  unfold tsetD
  split
  · exact tdel_sorted _ _ h
  · exact tset_sorted _ _ _ h

/-! ### Tiles, requests, sessions, contexts -/

@[simp] theorem tileAt_setTile_same (s : State) (t : Nat) (x : Tile) : tileAt (setTile s t x) t = x :=
  tgetD_tsetD_same s.tiles t x _

theorem tileAt_setTile_ne (s : State) (t u : Nat) (x : Tile) (h : u ≠ t) : tileAt (setTile s t x) u = tileAt s u := by
  exact tgetD_tsetD_ne s.tiles t u x _ h

@[simp] theorem reqAt_setReq_same (s : State) (e : Nat) (r : Request) : reqAt (setReq s e r) e = some r := by
  simp [reqAt]

theorem reqAt_setReq_ne (s : State) (e f : Nat) (r : Request) (h : f ≠ e) : reqAt (setReq s e r) f = reqAt s f := by
  simp [reqAt, tget_tset_ne _ _ _ _ h]

@[simp] theorem sessAt_setSess_same (s : State) (n : Nat) (x : Session) : sessAt (setSess s n x) n = some x := by
  simp [sessAt]

theorem sessAt_setSess_ne (s : State) (n m : Nat) (x : Session) (h : m ≠ n) : sessAt (setSess s n x) m = sessAt s m := by
  simp [sessAt, tget_tset_ne _ _ _ _ h]

@[simp] theorem ctxAt_setCtx_same (s : State) (c : Nat) (x : Ctx) : ctxAt (setCtx s c x) c = some x := by
  simp [ctxAt]

theorem ctxAt_setCtx_ne (s : State) (c d : Nat) (x : Ctx) (h : d ≠ c) : ctxAt (setCtx s c x) d = ctxAt s d := by
  simp [ctxAt, tget_tset_ne _ _ _ _ h]

end Sys2Proof.Machine
end

