-- ==== Sys2Proof/Laws/Regs.lean ====
section
/-! SUPPORT. What the register operations do, once for each: a flag set reads 1, a counter counts, and every other address
holds what it held. -/

namespace Sys2Proof.Machine

@[simp] theorem regsBut_refl (l : List Nat) (s : State) : RegsBut l s s := fun _ _ => rfl

theorem RegsBut.trans {l : List Nat} {s t u : State} (h : RegsBut l s t) (k : RegsBut l t u) : RegsBut l s u :=
  fun a ha => (k a ha).trans (h a ha)

theorem RegsBut.mono {l m : List Nat} {s t : State} (h : RegsBut l s t) (hl : ∀ a ∈ l, a ∈ m) : RegsBut m s t :=
  fun a ha => h a (fun hc => ha (hl a hc))

/-- A register written changes no other address. -/
theorem regsBut_setReg (s : State) (b : Blk) (off : Nat) (v : Word) : RegsBut [regAddr b off] s (setReg s b off v) := by
  intro a ha
  exact tget_tsetD_ne s.regs _ a v _ (by simpa using ha)

theorem regsBut_setFlag (s : State) (b : Blk) (off i : Nat) : RegsBut [regAddr b off] s (setFlag s b off i) :=
  regsBut_setReg s b off _

theorem regsBut_bump (s : State) (b : Blk) (off n : Nat) : RegsBut [regAddr b off] s (bump s b off n) :=
  regsBut_setReg s b off _

theorem regsBut_setFld (s : State) (b : Blk) (off lo n v : Nat) : RegsBut [regAddr b off] s (setFld s b off lo n v) :=
  regsBut_setReg s b off _

/-- Setting one bit of a word sets it. -/
theorem bit_putBits_one (w : Word) (i : Nat) (h : i < 64) : bit (putBits w i 1 1) i = true := by
  have hw : w.toNat < 2 ^ 64 := w.isLt
  unfold bit putBits
  simp only [BitVec.getLsbD_ofNat]
  have h1 : w.toNat % 2 ^ i < 2 ^ i := Nat.mod_lt _ (Nat.two_pow_pos i)
  have e : w.toNat % 2 ^ i + 1 % 2 ^ 1 * 2 ^ i + w.toNat / 2 ^ (i + 1) * 2 ^ (i + 1) =
      w.toNat % 2 ^ i + 2 ^ i * (1 + 2 * (w.toNat / 2 ^ (i + 1))) := by
    have hc : w.toNat / 2 ^ (i + 1) * 2 ^ (i + 1) = 2 ^ i * (2 * (w.toNat / 2 ^ (i + 1))) := by
      conv => lhs; rhs; rw [Nat.pow_succ]
      rw [Nat.mul_comm, Nat.mul_assoc]
    rw [hc, Nat.mul_add, Nat.mul_one]
    omega
  rw [e]
  simp only [h, decide_true, Bool.true_and, Nat.testBit, Nat.shiftRight_eq_div_pow]
  rw [Nat.add_mul_div_left _ _ (Nat.two_pow_pos i), Nat.div_eq_of_lt h1]
  simp only [Nat.one_and_eq_mod_two, Nat.zero_add, Nat.add_mul_mod_self_left]
  rfl

/-- A flag set reads 1. -/
theorem flagUp_setFlag (s : State) (b : Blk) (off i : Nat) (h : i < 64) : FlagUp (setFlag s b off i) b off i := by
  unfold FlagUp setFlag setFld
  rw [reg_setReg_same]
  exact bit_putBits_one (reg s b off) i h

/-- A counter counts. -/
theorem counted_bump (s : State) (b : Blk) (off n : Nat) : Counted s (bump s b off n) b off n := by
  unfold Counted bump
  rw [reg_setReg_same]
  simp only [BitVec.toNat_ofNat]
  exact Nat.mod_eq_of_lt (by omega)

end Sys2Proof.Machine
end

