-- ==== Sys2Proof/Laws/Send.lean ====
section
/-! SUPPORT. What sending does, said once for every operation that hands messages out: `Handed`. -/

namespace Sys2Proof.Machine

theorem Handed.refl (s : State) : Handed s s := ⟨⟨[], by simp⟩, regsBut_refl _ s, rfl⟩

theorem Handed.trans {s t u : State} (h : Handed s t) (k : Handed t u) : Handed s u := by
  obtain ⟨⟨l, hl⟩, hr, he⟩ := h
  obtain ⟨⟨m, hm⟩, kr, ke⟩ := k
  refine ⟨⟨l ++ m, by rw [hm, hl, List.append_assoc]⟩, hr.trans kr, ?_⟩
  rw [ke, he]

theorem Handed.foldl {α : Type} (f : State → α → State) (h : ∀ s x, Handed s (f s x)) (l : List α) (s : State) :
    Handed s (l.foldl f s) := by
  induction l generalizing s with
  | nil => exact .refl s
  | cons x l ih => exact (h s x).trans (ih (f s x))

theorem handed_emitOut (s : State) (o : Out) : Handed s (emitOut s o) := ⟨⟨[o], rfl⟩, regsBut_refl _ _, rfl⟩

theorem handed_bumpTx (s : State) (n : Nat) : Handed s (bump s .mac 0x50 n) :=
  ⟨⟨[], by simp⟩, regsBut_bump s .mac 0x50 n, rfl⟩

theorem handed_setSess (s : State) (n : Nat) (x : Session) : Handed s (setSess s n x) :=
  ⟨⟨[], by simp⟩, fun _ _ => rfl, rfl⟩

theorem handed_sendPacket (s : State) (n q : Nat) (x : Session) (y : QueueSt) : Handed s (sendPacket s n q x y) :=
  ((handed_setSess s n _).trans (handed_bumpTx _ 1)).trans (handed_emitOut _ _)

theorem handed_pump (n q fuel : Nat) (s : State) : Handed s (pump s n q fuel) := by
  induction fuel generalizing s with
  | zero => exact .refl s
  | succ k ih =>
    unfold pump
    split
    · exact .refl s
    · split
      · exact .refl s
      · split
        · exact (handed_sendPacket s n q _ _).trans (ih _)
        · exact .refl s

theorem handed_pumpAll (s : State) (n q : Nat) : Handed s (pumpAll s n q) := by
  unfold pumpAll
  repeat' split
  all_goals first | exact .refl s | exact handed_pump n q _ s

theorem handed_sendMsg (s : State) (n q type tag : Nat) (body : List Byte) : Handed s (sendMsg s n q type tag body) := by
  unfold sendMsg
  split
  · exact .refl s
  · split
    · exact .refl s
    · exact ((handed_setSess s n _).trans (handed_emitOut _ _)).trans (handed_pumpAll _ n q)

theorem handed_sendCtl (s : State) (n type tag : Nat) (body : List Byte) : Handed s (sendCtl s n type tag body) := by
  unfold sendCtl
  split
  · exact .refl s
  · exact handed_sendMsg s n _ type tag body

theorem handed_eventTo (s : State) (n code a b : Nat) : Handed s (eventTo s n code a b) := handed_sendCtl s n _ _ _

theorem handed_eventAll (s : State) (code a b : Nat) : Handed s (eventAll s code a b) :=
  Handed.foldl _ (fun s n => handed_eventTo s n code a b) _ s

theorem handed_eventPriv (s : State) (code a b : Nat) : Handed s (eventPriv s code a b) :=
  Handed.foldl _ (fun s n => handed_eventTo s n code a b) _ s

/-- A register at another address than MAC_TX_FRAMES is as before. -/
theorem Handed.reg {s t : State} (h : Handed s t) (b : Blk) (off : Nat) (hn : regAddr b off ≠ regAddr .mac 0x50) :
    reg t b off = reg s b off := by
  unfold Machine.reg tgetD
  rw [h.2.1 _ (by simpa using hn)]

theorem Handed.flagUp {s t : State} (h : Handed s t) {b : Blk} {off i : Nat} (hf : FlagUp s b off i)
    (hn : regAddr b off ≠ regAddr .mac 0x50) : FlagUp t b off i := by
  unfold FlagUp
  rw [h.reg b off hn]
  exact hf

theorem Handed.fields {s t : State} (h : Handed s t) :
    t = { s with regs := t.regs, out := t.out, port := { s.port with sessions := t.port.sessions } } := h.2.2

end Sys2Proof.Machine
end

