-- ==== Sys2Proof/WellFormed.lean ====
section
/-! DEFINITION. Well-formed commands: the operands name units, records and field values that the device or the wire form
has. A command's fields are those of its rule; a field whose whole type is allowed is not checked. -/

namespace Sys2Proof

/-- A tile of the device (R9). -/
def tileOk (t : Nat) : Bool := decide (t < 640)

/-- A received packet of a KIND, from an endpoint of the table (R326, R328). -/
def packetOk (kind : Nat) (p : PacketIn) : Bool :=
  decide (p.endpoint < 64) && decide (p.header.length = 32) && decide ((p.header.getD 1 0).toNat = kind) &&
  decide (p.wire.length ≤ 8960)

/-- A Keep of the device (R10). -/
def keepOk (k : Nat) : Bool := decide (k < 32)

/-- A unit of the device (R9, R10, R15). -/
def unitOk : UnitId → Bool
  | .tile t => tileOk t
  | .keepBase k | .lucarne k => keepOk k
  | .spire s | .text s | .flashPort s => decide (s < 8)
  | .dome => true

/-- A number that fits a field of `n` bits. -/
def fits (n v : Nat) : Bool := decide (v < 2 ^ n)

/-- Buffer numbers of an operator record: 0 to 63, or 0xFF for none (R108, R110). -/
def bufsOk (b : Bufs) : Bool := [b.dst, b.src0, b.src1, b.src2].all (fun x => decide (x < 64) || decide (x = 0xFF))

/-- Fields of a storage command entry (R311). -/
def storOk (c : StorCmd) : Bool :=
  fits 16 c.queue && fits 16 c.tag && fits 8 c.nsid && fits 64 c.offset && fits 32 c.length && fits 64 c.arg0 && fits 64 c.arg1

/-- Fields of a management request (R408). -/
def mgmtOk (m : MgmtReq) : Bool := fits 32 m.link && fits 64 m.seq

/-- Fields of a lease named on the wire (R275, R346). -/
def leaseOk (l : LeaseId) : Bool := decide (l.neighbour < 16) && fits 32 l.lease

/-- Fields of a search block (R163). -/
def searchOk (b : SearchBlock) : Bool :=
  fits 16 b.indexRef && decide (b.filters.length ≤ 4) && fits 16 b.kShort && fits 16 b.kCross

/-- Fields of a generation block with the 584 bytes of its stop set (R222, R236). -/
def genOk (b : GenBlock) : Bool := fits 16 b.variant && fits 32 b.promptMax && fits 32 b.maxNew && decide (b.stop.length = 584)

/-- Fields of a submission (R338). -/
def submitOk (b : SubmitBody) : Bool :=
  fits 8 b.ctx && fits 8 b.prio && fits 16 b.pipeline && fits 64 b.deadline && b.search.all searchOk && b.gen.all genOk

/-- A delta: 4 to 1,024 gradient elements (R192, R205). -/
def deltaOk (d : DeltaRec) : Bool := decide (d.table < 64) && decide (d.source < 16) && fits 64 d.seq && fits 40 d.row

/-- Units of a boundary's report (R383). -/
def boundaryInOk (b : BoundaryIn) : Bool :=
  b.silent.all unitOk && b.late.all keepOk && b.lanes.all keepOk && b.scrubbed.all (fun p => decide (p.1 < 16)) &&
  b.failTests.all tileOk && b.netFails.all tileOk && b.corrected.all (fun p => keepOk p.1)

/-- An item of the self-test that the device has (R397). -/
def testItemOk : TestItem → Bool
  | .sparePe t r c => tileOk t && decide (r < 132) && decide (c < 132)
  | .tileComparator t _ => tileOk t
  | .selectionNetwork t keyType _ k keys _ =>
    tileOk t && decide (keyType ≤ 2) && (decide (k = 8) || decide (k = 64)) && keys.all (fits 32)
  | .keepSpareRow k b _ => keepOk k && decide (b < 512)
  | .keepChecker k _ => keepOk k
  | .linkCrc u | .heartbeatMonitor u => unitOk u
  | .domeChecker _ | .auditUnit | .belfryHalf | .fltDriver | .rdyDriver => true

/-- A command whose operands are well formed. -/
def WellFormed : Instr → Bool
  | .frameBoundary b => boundaryInOk b
  | .commit _ c => c.tileFaults.all tileOk
  | .referenceAcquired _ | .lockAcquired | .refLost | .ppsEdge _ | .announce _ | .sync _ | .followUp _ | .delayResp _
  | .enable _ _ | .leaveSable | .discard _ | .unload _ | .registerWrite _ _ _ _ => true
  | .configParitySweep bad => bad.all (fun a => decide (a % 8 = 0))
  | .matmul t _ b _ | .quantise t _ b _ | .scaleLoad t _ _ b => tileOk t && bufsOk b
  | .vecAdd t p b | .vecSub t p b | .vecMul t p b | .vecFma t p b | .vecMax t p b | .vecMin t p b | .vecConvert t p b
  | .vecExp t p b | .vecRecip t p b | .vecRsqrt t p b | .vecTanh t p b | .vecGeluTanh t p b
  | .reduceSum t p b | .reduceMax t p b | .reduceMin t p b => tileOk t && bufsOk b && fits 8 p.fmt
  | .select t _ b _ | .merge t _ b _ => tileOk t && bufsOk b
  | .gather t p b | .update t p b | .unique t p b => tileOk t && bufsOk b && decide (p.table < 64)
  | .matmulPassComplete t errs _ => tileOk t && errs.all (fun e => decide (e.row < 130) && decide (e.col < 130))
  | .streamStart t i | .streamWait t i | .streamComplete t i | .streamFault t i _ _ | .poolReadComplete t i _ _ =>
    tileOk t && decide (i < 16)
  | .lineFill s _ tiles _ => decide (s < 8) && tiles.all tileOk
  | .send t bytes _ _ b => tileOk t && bufsOk b && fits 32 bytes
  | .routeRows t _ _ _ b | .exitIf t _ _ _ _ b | .emit t _ b => tileOk t && bufsOk b
  | .sendAfterCredit t | .endLoop t | .taskComplete t | .contextSwitchComplete t | .loop t _ => tileOk t
  | .delete _ tag _ _ | .filterWrite _ tag _ _ _ _ | .publish _ tag _ => fits 64 tag
  | .changeApplied ref | .edgeRepair ref => fits 16 ref
  | .deltaApply k => keepOk k
  | .replicationWindow => true
  | .tokenize j lane | .detokenize j lane => fits 16 j.entry && lane.all (fun u => decide (u < 8))
  | .swapComplete region _ => decide (region < 8)
  | .reqtabInspect _ _ | .tierMoveCmd _ _ => true
  | .recallNoticeEnd j => decide (j < 16)
  | .arbitrationWindow k reqs => keepOk k && reqs.all (fun a => decide (a.tile < 640))
  | .patrolScrub k q0 q1 q2 q3 => keepOk k && (q0 ++ q1 ++ q2 ++ q3).all (fun b => decide (b.1 < 8))
  | .rowRepair k bank _ => keepOk k && decide (bank < 512)
  | .read c | .trim c | .flush c | .identify c | .nsCreate c | .nsDelete c | .abort c | .getLog c | .setPower c => storOk c
  | .write c d => storOk c && decide (d.length = c.length)
  | .nsDeleteEnd n => decide (n < 64)
  | .mediaReadComplete q tag _ => fits 16 q && fits 16 tag
  | .granuleProgramComplete q tag _ _ => fits 16 q && fits 16 tag
  | .blockEraseComplete m p b _ => decide (m < 8) && decide (p < 256) && decide (b < 2484)
  | .foldStart m p cls => decide (m < 8) && decide (p < 256) && decide (cls < 3)
  | .foldCommit m p | .garbageCollection m p => decide (m < 8) && decide (p < 256)
  | .checkpoint m | .heatHalving m | .moduleWake m | .moduleLost m | .flashRestoreComplete m => decide (m < 8)
  | .idleTimer m level => decide (m < 8) && decide (1 ≤ level) && decide (level ≤ 3)
  | .macEnable _ | .linkUp | .linkDown | .receiveError _ | .beacon => true
  | .arpRequest target mac ip => fits 32 target && fits 48 mac && fits 32 ip
  | .neighborSolicitation target mac => fits 128 target && fits 48 mac
  | .data p => packetOk 0 p
  | .ack p => packetOk 1 p
  | .openSession e ce h w => packetOk 2 (plainPacket e ce h w)
  | .openReply e ce h w => packetOk 3 (plainPacket e ce h w)
  | .closePacket p => packetOk 4 p
  | .neighbourOpen e => decide (e < 64)
  | .linkHoldExpiry _ | .rateIncrease _ => true
  | .ackDelay _ q => fits 16 q
  | .rtoExpiry _ q seq => fits 16 q && fits 32 seq
  | .openContext _ tag c | .closeContext _ tag c => fits 64 tag && fits 8 c
  | .bindQueue _ tag c q => fits 64 tag && fits 8 c && fits 16 q
  | .submit _ q tag b => fits 16 q && fits 64 tag && submitOk b
  | .loadStructure _ tag o _ | .loadModel _ tag _ o _ | .loadIndex _ tag _ o _ | .loadVocabulary _ tag _ o _ =>
    fits 64 tag && fits 64 o
  | .regWindowRead _ tag a | .regWindowWrite _ tag a _ => fits 64 tag && fits 32 a
  | .delta _ tag ds => fits 64 tag && ds.all deltaOk
  | .deltaAck _ table seq => decide (table < 64) && fits 64 seq
  | .leaseRequest l g b | .leaseGrant l g b => leaseOk l && fits 64 g && fits 64 b
  | .leaseDeny l | .leaseRelease l | .leaseEnd l | .leaseFail l _ => leaseOk l
  | .leaseRecall l ms => leaseOk l && fits 64 ms
  | .leaseRead l _ c n => leaseOk l && decide (c < 16) && fits 32 n
  | .leaseData l _ c _ => leaseOk l && decide (c < 16)
  | .leaseWrite l a _ => leaseOk l && fits 64 a
  | .getVersion _ tag | .getCapabilities _ tag | .negotiateAlgorithms _ tag _ | .getDigests _ tag | .keyExchange _ tag
  | .finish _ tag _ => fits 64 tag
  | .getCertificate _ tag slot o n => fits 64 tag && fits 4 slot && fits 16 o && fits 16 n
  | .challenge _ tag slot ty => fits 64 tag && fits 8 slot && fits 8 ty
  | .getMeasurements _ tag i _ => fits 64 tag && fits 8 i
  | .orphanTimeout c | .contextScrubComplete c => decide (c < 16)
  | .wholeDeviceScrubComplete => true
  | .linkCrc u _ _ => unitOk u
  | .lockstep | .belfryHalfHeartbeat _ | .audit _ | .fltNMinimumEnd | .belfryAck _ | .incidentEnd => true
  | .selfTest item _ _ _ => testItemOk item
  | .wearSample day => fits 32 day
  | .hello _ nonce => decide (nonce.length ≤ 1408)
  | .auth a => fits 32 a.link && fits 8 a.slot && decide (a.pubkey.length = 64) && decide (a.ephemeral.length = 64) &&
      decide (a.sigR.length = 32) && decide (a.sigS.length = 32)
  | .enrol m slot roles key => mgmtOk m && fits 8 slot && fits 8 roles && decide (key.length = 64)
  | .remove m slot => mgmtOk m && fits 8 slot
  | .setPolicy m _ | .wear m | .scrub m | .warmMgmt m | .firmware m | .fwVerify m | .fwSwitch m | .fwConfirm m
  | .fwRevert m | .fwStatus m => mgmtOk m
  | .setNet m v4 v6 => mgmtOk m && fits 32 v4 && fits 128 v6
  | .regRead m a | .regWrite m a _ => mgmtOk m && fits 32 a
  | .stage m o d => mgmtOk m && fits 64 o && decide (d.length ≤ 1392)
  | .sensors m f c => mgmtOk m && fits 16 f && fits 16 c
  | .logRead m s c n f => mgmtOk m && fits 8 s && fits 8 c && fits 16 n && fits 64 f
  | .grant m c _ _ | .close m c => mgmtOk m && fits 8 c
  | .mgmtLeaseRequest m n g b => mgmtOk m && fits 8 n && fits 64 g && fits 64 b
  | .mgmtLeaseRelease m n l => mgmtOk m && fits 8 n && fits 32 l
  | .leaseReplyTimeout => true
  | .halt m t | .resume m t => mgmtOk m && fits 16 t
  | .fwBegin m n => mgmtOk m && fits 32 n
  | .fwWrite m o d => mgmtOk m && fits 32 o && decide (d.length ≤ 1400)
  | .linkTimeout l => fits 32 l
  | .sensorSample i _ w => fits 16 i && w.all (fits 16)
  | .powerOn | .warmPin _ | .startUp _ | .vrPgTimeout | .vrPgFall _ | .brownout | .thermal | .voutStep _
  | .throttleEvaluation | .wakeStepRelease | .pwrseqLimits _ | .powerDown | .managementLaneDown | .managementLaneUp => true
  | .vrPgGood i => i.badPes.all (fun p => tileOk p.1 && decide (p.2.1 < 132) && decide (p.2.2 < 132)) &&
      i.tileFails.all tileOk && i.unitFails.all unitOk
  | .thermalTrip l => l.all (fun i => decide (i < 48))
  | .peakPowerWindow l => decide (l ≠ [])
  | .delayReq seq _ => fits 16 seq

end Sys2Proof
end

