-- ==== Sys2Proof/Tests/Slice0.lean ====
section
/-! SUPPORT. Tests: the checks of well-formed commands with a term that each refuses, and for every clause of every
statement a state and operands that meet its hypotheses, with what the command makes of them there. Expected values come
from the rules named in the statements. -/

open Sys2Proof Sys2Proof.Machine

namespace Sys2Proof.Tests

set_option Elab.async false

/-- The command answers a next state, of which a condition holds. -/
def nx (r : Res) (f : State → Bool) : Bool :=
  match r with
  | .next t => f t
  | _ => false

/-- The register file with a field of a register replaced. -/
def withFld (s : State) (b : Blk) (off lo n v : Nat) : State := setFld s b off lo n v

/-- The frame timer runs. -/
def timed : State := setEnable State.reset .frame true

/-- A session of endpoint 0 with two message queues and storage queue 0, opened by the host. -/
def hostSession : Session := newSession 0 false 64 2 [0]

/-- The link is up; endpoint 0 is valid and PRIVILEGED and holds session 1. -/
def hosted (s : State) : State :=
  let s := setEnable (setReg s .tytos 0x1010 (BitVec.ofNat 64 (2 ^ 48 + 2 ^ 49))) .tytos true
  { s with port := { s.port with up := true, sessions := [(1, hostSession)] } }

/-- Ivory, with the frame timer running. -/
def ivory : State := { timed with dev := .ivory, pins := { State.reset.pins with rdy := true } }

/-- The output is among those of the state. -/
def sent (t : State) (o : Out) : Bool := t.out.contains o

/-! ### Queue, reset, frame timer, clock, registers -/

theorem wit_queue_front : { timed with pending := [.lockAcquired] }.pending = .lockAcquired :: [] := rfl

theorem wit_queue_empty : State.reset.pending = [] := rfl

theorem test_reset_pending : nx (step State.reset) (fun t => decide (t = State.reset)) = true := by decide +kernel

theorem wit_rollback : RollbackSafe 0 Rom.reset State.reset ∧
    nx (step { State.reset with pending := [.vrPgFall true] }) (fun _ => true) = true := by
  refine ⟨⟨by decide, rfl⟩, by decide +kernel⟩

theorem wit_rdy : RdyRight State.reset ∧ nx (step { State.reset with pending := [.vrPgFall true] }) (fun _ => true) = true := by
  refine ⟨by unfold RdyRight; decide, by decide +kernel⟩

/-- The timer acquires PTP: EPOCH 0, period 250 µs. -/
def acquiring : State :=
  { timed with frame := { timed.frame with present := true, ptp := { timed.frame.ptp with lastSync := some (0, 0) } } }

theorem test_referenceAcquired : (enabled acquiring .frame = true ∧ refsel acquiring < 2 ∧ acquiring.dev = .sable ∧
    acquiring.frame.acquired = false ∧ 0 < periodUs acquiring ∧ refsel acquiring = 0 ∧ acquiring.frame.ptp.lastSync ≠ none) ∧
    nx (exec (.referenceAcquired 250000) acquiring) (fun t => decide (t.frame.nextFrame = some 2)) = true := by
  decide +kernel

theorem test_referenceAcquired_pps :
    let s := withFld { timed with frame := { timed.frame with ppsSecond := some 3 } } .frame 0 1 2 1
    (enabled s .frame = true ∧ refsel s = 1 ∧ s.dev = .sable ∧ s.frame.acquired = false ∧ 0 < periodUs s ∧
      s.frame.ppsSecond = some 3) ∧
    nx (exec (.referenceAcquired 3000000000) s) (fun t => decide (t.frame.nextFrame = some 12001)) = true := by
  decide +kernel

theorem test_lockAcquired :
    let s := { timed with frame := { timed.frame with lock := .acquiring, good := 16 } }
    (enabled s .frame = true ∧ refsel s < 2 ∧ s.frame.lock ≠ .locked ∧ 16 ≤ s.frame.good) ∧
    nx (exec .lockAcquired s) (fun t => decide (t.frame.lock = .locked)) = true := by decide +kernel

theorem test_refLost :
    let s := { acquiring with frame := { acquiring.frame with lock := .locked } }
    (enabled s .frame = true ∧ refsel s < 2 ∧ s.frame.present = true) ∧
    nx (exec .refLost s) (fun t => decide (t.frame.lock = .holdover) && bit (reg t .frame 0x30) 2 &&
      bit (reg t .frame 0x30) 3) = true := by decide +kernel

theorem test_refLost_free :
    let s := { acquiring with frame := { acquiring.frame with lock := .acquiring } }
    (enabled s .frame = true ∧ refsel s < 2 ∧ s.frame.present = true ∧ s.frame.lock ≠ .locked) ∧
    nx (exec .refLost s) (fun t => decide (t.frame.lock = .acquiring) && bit (reg t .frame 0x30) 2 &&
      !bit (reg t .frame 0x30) 3) = true := by decide +kernel

/-- PPS_IN is the reference, the first edge has marked second 5. -/
def pps : State := withFld { timed with frame := { timed.frame with ppsSecond := some 5, lock := .locked } } .frame 0 1 2 1

theorem test_ppsEdge_steady : (enabled pps .frame = true ∧ refsel pps = 1 ∧ pps.frame.ppsSecond = some 5) ∧
    nx (exec (.ppsEdge 1000) pps) (fun t => decide (t.frame.ppsSecond = some 6 ∧ t.frame.lock = .locked)) = true ∧
    nx (exec (.ppsEdge (-1001)) pps) (fun t => decide (t.frame.ppsSecond = some 6 ∧ t.frame.lock = .holdover) &&
      bit (reg t .frame 0x30) 4) = true := by decide +kernel

theorem test_ppsEdge_first :
    let s := withFld timed .frame 0 1 2 1
    (enabled s .frame = true ∧ refsel s = 1 ∧ s.frame.ppsSecond = none) ∧
    nx (exec (.ppsEdge 0) s) (fun t => decide (t.frame.ppsSecond = some 0)) = true ∧
    nx (exec (.ppsEdge 0) timed) (fun t => decide (t = timed)) = true := by decide +kernel

/-- The PTP clock hears domain 0 by IPv4; master 9 is its parent. -/
def clocked : State :=
  let s := withFld (withFld (hosted State.reset) .mac 0x38 0 8 0) .frame 0 1 2 2
  { s with frame := { s.frame with ptp := { s.frame.ptp with parent := some 9, delayNs := 3 } } }

/-- An Announce of master 9. -/
def announce9 : AnnounceIn :=
  { domain := 0, ipv6 := false, port := 9, priority1 := 1, clockClass := 6, accuracy := 0, variance := 0, priority2 := 1,
    grandmaster := 9, steps := 254 }

/-- A PTP event message of master 9: sent at 1,000 ns, received at 1,050 ns, correction 2 ns. -/
def ptp9 : PtpIn :=
  { domain := 0, ipv6 := false, port := 9, seq := 4, twoStep := false, remoteNs := 1000, localNs := 1050, corrNs := 2 }

theorem test_announce : (HeardByClock clocked announce9.domain announce9.ipv6 ∧ announce9.steps < 255) ∧
    nx (exec (.announce announce9) clocked) (fun t => decide (t.frame.ptp.parent = some 9 ∧
      t.frame.ptp.masters = [announce9] ∧ reg t .mac 0x48 = 1)) = true := by
  unfold HeardByClock; decide +kernel

theorem test_sync_oneStep : (HeardByClock clocked 0 false ∧ clocked.frame.ptp.parent = some 9 ∧ refsel clocked ≠ 0) ∧
    nx (exec (.sync ptp9) clocked) (fun t => decide (t.frame.ptp.offsetNs = 45 ∧
      t.frame.ptp.lastSync = some (1000, 1048))) = true := by
  unfold HeardByClock; decide +kernel

theorem test_sync_twoStep : nx (exec (.sync { ptp9 with twoStep := true }) clocked)
    (fun t => decide (t.frame.ptp.pendingSync = some (4, 1050, 2) ∧ t.frame.ptp.lastSync = none)) = true := by decide +kernel

/-- A two-step Sync of number 4 waits. -/
def syncWaits : State :=
  { clocked with frame := { clocked.frame with ptp := { clocked.frame.ptp with pendingSync := some (4, 1050, 2) } } }

theorem test_followUp : (HeardByClock syncWaits 0 false ∧ syncWaits.frame.ptp.parent = some 9 ∧ refsel syncWaits ≠ 0 ∧
      syncWaits.frame.ptp.pendingSync = some (4, 1050, 2)) ∧
    nx (exec (.followUp ptp9) syncWaits) (fun t => decide (t.frame.ptp.offsetNs = 43 ∧
      t.frame.ptp.pendingSync = none)) = true := by
  unfold HeardByClock; decide +kernel

theorem test_delayReq : (clocked.port.up = true ∧ clocked.frame.ptp.parent ≠ none) ∧
    nx (exec (.delayReq 7 2000) clocked) (fun t => decide (t.out = [.delayReq 7] ∧
      t.frame.ptp.pendingReq = some (7, 2000))) = true := by decide +kernel

theorem test_delayResp :
    let s := { clocked with frame := { clocked.frame with
      ptp := { clocked.frame.ptp with pendingReq := some (4, 2000), lastSync := some (1000, 1100) } } }
    (HeardByClock s 0 false ∧ s.frame.ptp.parent = some 9 ∧ s.frame.ptp.pendingReq = some (4, 2000)) ∧
    nx (exec (.delayResp { ptp9 with remoteNs := 2062 }) s) (fun t => decide (t.frame.ptp.delayNs = 80 ∧
      t.frame.ptp.pendingReq = none)) = true := by
  unfold HeardByClock; decide +kernel

theorem test_enable : (State.reset.dev ≠ .vermilion ∧ inService State.reset = false ∧ enabled State.reset .frame = false) ∧
    nx (exec (.enable .mgmt 5) State.reset) (fun t => enabled t .frame && decide (t.frame.lock = .free ∧ now t = 0 ∧
      t.out = [.access 0 0])) = true ∧
    nx (exec (.enable .mgmt 7) State.reset) (fun t => !enabled t .frame && bit (reg t .frame 0x30) 1) = true := by
  decide +kernel

theorem test_enable_range :
    let s (p : Nat) := withFld State.reset .frame 0x08 0 12 p
    nx (exec (.enable .mgmt 1) (s 99)) (fun t => !enabled t .frame && bit (reg t .frame 0x30) 1) = true ∧
    nx (exec (.enable .mgmt 1) (s 100)) (fun t => enabled t .frame && decide (t.frame.lock = .acquiring)) = true ∧
    nx (exec (.enable .mgmt 1) (s 4000)) (fun t => enabled t .frame) = true ∧
    nx (exec (.enable .mgmt 1) (s 4001)) (fun t => !enabled t .frame && bit (reg t .frame 0x30) 1) = true := by
  decide +kernel

theorem wit_refusedWrite_addr : decodeAddr (regAddr .frame 0x28) = some (.frame, 0x28) ∧ (regDesc .frame 0x78).isNone = true ∧
    decodeAddr (regAddr .frame 0x78) = some (.frame, 0x78) ∧ decodeAddr (2 ^ 40) = none := by decide +kernel

theorem test_registerWrite_refused :
    nx (exec (.registerWrite .mgmt (regAddr .frame 0x08) 4 1) State.reset) (fun t => decide (t.out = [.access 1 0])) = true ∧
    nx (exec (.registerWrite .mgmt (regAddr .frame 0x0C) 8 1) State.reset) (fun t => decide (t.out = [.access 1 0])) = true ∧
    nx (exec (.registerWrite .mgmt (regAddr .frame 0x78) 8 1) State.reset) (fun t => decide (t.out = [.access 1 0])) = true ∧
    nx (exec (.registerWrite .mgmt (regAddr .frame 0x08) 8 300) { State.reset with dev := .vermilion })
      (fun t => decide (t.out = [.access 2 0] ∧ periodUs t = 250)) = true := by decide +kernel

theorem test_registerWrite_config :
    (decodeAddr (regAddr .frame 0x08) = some (.frame, 0x08) ∧ (regDesc .frame 0x08).any (·.cfg) = true) ∧
    nx (exec (.registerWrite .mgmt (regAddr .frame 0x08) 8 4095) State.reset)
      (fun t => decide (t.out = [.access 0 0] ∧ periodUs t = 4095)) = true ∧
    nx (exec (.registerWrite .mgmt (regAddr .frame 0x08) 8 300) timed)
      (fun t => decide (t.out = [.access 0 0] ∧ periodUs t = 250) && bit (reg t .frame 0x30) 0) = true := by
  decide +kernel

theorem test_registerWrite_tile_store :
    nx (exec (.registerWrite .mgmt (regAddr (.tile 639) 0x800) 8 5) (setEnable State.reset (.tile 639) true))
      (fun t => bit (reg t (.tile 639) 0x08) 0 && decide (t.lowered = [])) = true := by decide +kernel

theorem test_configParity : nx (exec (.configParitySweep []) timed) (fun t => decide (t = timed)) = true ∧
    (isCfgAddr (regAddr (.scale 3) 0x4000) = true ∧ decodeAddr (regAddr (.scale 3) 0x4000) = some (.scale 3, 0x4000)) ∧
    nx (exec (.configParitySweep [regAddr (.scale 3) 0x4000]) (setEnable timed (.scale 3) true))
      (fun t => !enabled t (.scale 3) && !(tileAt t 3).inService && t.pins.fltLow && decide (t.belfry.unacked = [0])) = true := by
  decide +kernel

/-! ### Loader -/

/-- A structure image of the six mandatory sections, all empty: IMAGE_ID 7, period 250 µs. -/
def smallImage : List Byte :=
  [90, 83, 83, 73, 1, 0, 128, 0, 32, 1, 0, 0, 0, 0, 0, 0, 7] ++
  zeros 11 ++
  [250, 0, 0, 0, 6] ++
  zeros 95 ++
  [1] ++
  zeros 8 ++
  [1, 0, 0, 0, 0, 0, 0, 2] ++
  zeros 8 ++
  [1, 0, 0, 0, 0, 0, 0, 3] ++
  zeros 8 ++
  [1, 0, 0, 0, 0, 0, 0, 5] ++
  zeros 8 ++
  [1, 0, 0, 0, 0, 0, 0, 9] ++
  zeros 8 ++
  [1, 0, 0, 0, 0, 0, 0, 10] ++
  zeros 8 ++
  [1] ++
  zeros 38 ++
  [76, 172, 181, 192, 156, 200, 94, 13, 89, 99, 170, 65, 144, 255, 132, 184, 199, 71, 169, 235, 69, 192, 210, 137, 181, 51, 136, 136, 229, 116, 217, 148]

/-- A structure image that names a model 5 and a vocabulary 7 in T1 and an index 6 in flash, of 16 bytes each. -/
def refImage : List Byte :=
  [90, 83, 83, 73, 1, 0, 128, 0, 176, 1, 0, 0, 0, 0, 0, 0, 7] ++
  zeros 11 ++
  [250, 0, 0, 0, 7] ++
  zeros 95 ++
  [1] ++
  zeros 8 ++
  [1, 0, 0, 0, 0, 0, 0, 2] ++
  zeros 8 ++
  [1, 0, 0, 0, 0, 0, 0, 3] ++
  zeros 8 ++
  [1, 0, 0, 0, 0, 0, 0, 5] ++
  zeros 8 ++
  [1, 0, 0, 0, 0, 0, 0, 9] ++
  zeros 8 ++
  [1, 0, 0, 0, 0, 0, 0, 10] ++
  zeros 8 ++
  [1, 0, 0, 0, 0, 0, 0, 11, 0, 0, 0, 3, 0, 0, 0, 0, 1, 0, 0, 144] ++
  zeros 19 ++
  [5, 0, 1, 1, 0, 0, 0, 0, 16, 0, 0, 0, 0, 0, 0, 0, 1, 1, 1, 1, 1, 1, 1, 1, 1, 1, 1, 1, 1, 1, 1, 1, 1, 1, 1, 1, 1, 1, 1, 1, 1, 1, 1, 1, 1, 1, 1, 1, 6, 0, 2, 0, 0, 0, 0, 0, 16, 0, 0, 0, 0, 0, 0, 0, 2, 2, 2, 2, 2, 2, 2, 2, 2, 2, 2, 2, 2, 2, 2, 2, 2, 2, 2, 2, 2, 2, 2, 2, 2, 2, 2, 2, 2, 2, 2, 2, 7, 0, 3, 1, 0, 0, 0, 0, 16, 0, 0, 0, 0, 0, 0, 0, 3, 3, 3, 3, 3, 3, 3, 3, 3, 3, 3, 3, 3, 3, 3, 3, 3, 3, 3, 3, 3, 3, 3, 3, 3, 3, 3, 3, 3, 3, 3, 3, 229, 113, 230, 35, 73, 104, 80, 242, 210, 127, 69, 255, 131, 76, 49, 40, 13, 253, 181, 130, 26, 113, 214, 161, 54, 10, 169, 253, 160, 171, 157, 167]

/-- Bytes staged in a ready loader. -/
def staged (b : List Byte) : State :=
  { State.reset with power := { State.reset.power with phase := 9 },
                     img := { State.reset.img with staged := memWrite [] 0 b, stagedLen := b.length, phase := .staging } }

/-- Nothing is found at steps 6 to 8. -/
def clean : CommitIn := { overflow := none, parityBad := none, tileFaults := [], deviceFault := false, during := [] }

theorem wit_commit : loaderReady (staged smallImage) = true ∧ clean.parityBad = none ∧ clean.tileFaults = [] ∧
      clean.deviceFault = false ∧ commitBad (staged smallImage) (stagedBytes (staged smallImage)) clean.overflow = none := by
  decide +kernel

theorem test_commit_refused : loaderReady (staged (smallImage.set 16 8)) = true ∧
    commitBad (staged (smallImage.set 16 8)) (stagedBytes (staged (smallImage.set 16 8))) none = some (2, 0) ∧
    nx (exec (.commit .mgmt clean) (staged (smallImage.set 16 8))) (fun t => decide (t.img.phase = .refused ∧
      t.img.code = 2 ∧ t.img.detail = 0) && bit (reg t .img 0x20) 4) = true ∧
    nx (exec (.commit .mgmt clean) (staged (smallImage.set 0 91))) (fun t => decide (t.img.code = 1 ∧ t.img.detail = 0)) = true := by
  decide +kernel

theorem test_loader_rejects : (loaderReady ivory = false ∧ ivory.dev ≠ .vermilion ∧ serving State.reset = false) ∧
    nx (exec (.commit .mgmt clean) ivory) (fun t => bit (reg t .img 0x20) 2) = true ∧
    nx (exec (.discard .mgmt) ivory) (fun t => bit (reg t .img 0x20) 2) = true ∧
    nx (exec (.unload .mgmt) State.reset) (fun t => bit (reg t .img 0x20) 2) = true := by decide +kernel

theorem test_discard : loaderReady (staged smallImage) = true ∧
    nx (exec (.discard .mgmt) (staged smallImage)) (fun t => decide (t.img.staged = [] ∧ t.img.phase = .empty)) = true := by
  decide +kernel

theorem test_unload : (serving ivory = true ∧ ivory.sec.ctxs = []) ∧
    nx (exec (.unload .mgmt) ivory) (fun t => decide (t.dev = .sable ∧ t.pins.rdy = false) && !enabled t .frame) = true := by
  decide +kernel

/-- A COMMIT waits for the frame timer, which is FREE. -/
def awaits : State :=
  { timed with img := { State.reset.img with awaiting := true }, frame := { State.reset.frame with lock := .free } }

theorem test_leaveSable : (awaits.img.awaiting = true ∧ awaits.dev = .sable ∧ enabled awaits .frame = true ∧
      awaits.frame.lock = .free) ∧
    nx (exec .leaveSable awaits) (fun t => decide (t.dev = .ivory ∧ t.pins.rdy = true)) = true ∧
    nx (exec .leaveSable { awaits with tiles := tset awaits.tiles 639 { tileAt awaits 639 with inService := false } })
      (fun t => decide (t.dev = (if (tileAt awaits 639).role = .off then .ivory else .amber))) = true := by decide +kernel

theorem test_loadStructure : ((sessAt (hosted (staged [1, 2])) 1 = some hostSession ∧
        epPriv (hosted (staged [1, 2])) 0 = true ∧ (tget hostSession.queues hostSession.firstMsgq).isSome = true) ∧
      loaderReady (hosted (staged [1, 2])) = true ∧ 134217727 + [(9 : Byte)].length ≤ 134217728) ∧
    nx (exec (.loadStructure 1 77 134217727 [9]) (hosted (staged [1, 2]))) (fun t => decide (t.img.stagedLen = 134217728 ∧
      memByte t.img.staged 134217727 = 9 ∧ memByte t.img.staged 1 = 2) && sent t (.msg 1 64 0x87 77 (zeros 16) 0)) = true ∧
    nx (exec (.loadStructure 1 77 134217728 [9]) (hosted (staged [1, 2])))
      (fun t => sent t (.msg 1 64 0x87 77 ([4] ++ zeros 15) 0)) = true := by decide +kernel

/-- The images that `refImage` names may be loaded; namespace 0 is the device's, on the module of port 0. -/
def loading : State :=
  let s := hosted (staged refImage)
  { s with flash := { s.flash with nss := [(0, { size := 4096, owner := 0xFF, readers := 0, serials := [], state := .active,
                                                  visits := [], sinceCursor := [] })] } }

theorem test_loads : ((sessAt loading 1 = some hostSession ∧ epPriv loading 0 = true ∧
        (tget hostSession.queues hostSession.firstMsgq).isSome = true) ∧ loading.img.image = none ∧
      loaderReady loading = true ∧ headerBad (stagedBytes loading) (stagedBytes loading).length = none ∧
      directoryBad (stagedBytes loading) = none) ∧
    ([(5, 1), (6, 2), (7, 3)].all (fun q => (stagedRef (parseImage (stagedBytes loading)) q.1 q.2).any (fun r =>
      let x := loadRecord loading (parseImage (stagedBytes loading)) r 4
      decide (r.ref = q.1 ∧ 4 + 2 ≤ r.bytes ∧ x.bytes = r.bytes ∧ x.upto + 2 < r.bytes) && !x.noSpace))) = true ∧
    nx (exec (.loadModel 1 3 5 4 [8, 9]) loading) (fun t => decide (t.tier.t1.map (·.2) = [8, 9]) &&
      sent t (.msg 1 64 0x87 3 (zeros 16) 0)) = true ∧
    nx (exec (.loadIndex 1 3 6 4 [8, 9]) loading) (fun t => decide (t.flash.data = [(4, 8), (5, 9)]) &&
      sent t (.msg 1 64 0x87 3 (zeros 16) 0)) = true ∧
    nx (exec (.loadVocabulary 1 3 7 0 [8, 9]) loading) (fun t => decide (t.tier.t1.map (·.2) = [8, 9] ∧
      (tget t.img.loaded 7).map (·.upto) = some 2) && sent t (.msg 1 64 0x87 3 (zeros 16) 0)) = true := by decide +kernel

/-! ### Tensor operators and selection -/

/-- Task of request 3, context 2, in its first record. -/
def task3 : Task :=
  { entry := 3, ctx := 2, pipeline := 4, rank := 0, program := 6, stage := 0, step := 0, frame := 1, elastic := false,
    pos := 0, loops := [], complete := false, tokens := [], frags := [], deltas := [], waiting := none, waitStream := none }

/-- Tile 639 runs a task with the bytes given in its buffers, in a state. -/
def runs (s : State) (k : Task) (bufs : List (Nat × List Byte)) : State :=
  let m := bufs.foldl (fun m q => sramWrite m (bufKey k.entry false q.1 0) q.2) []
  setTile s 639 { tileAt s 639 with task := some k, run := .running, sram := m }

/-- The bytes of a buffer of tile 639 afterwards. -/
def inBuf (t : State) (b off : Nat) (bs : List Byte) : Bool :=
  (List.range bs.length).all (fun i => decide (tget (tileAt t 639).sram (bufKey 3 false b (off + i)) = some (bs.getD i 0)))

/-- The task of tile 639 has gone on. -/
def wentOn (t : State) : Bool := decide ((tileAt t 639).task = some task3.next)

/-- DST 1, SRC0 2, SRC1 3, SRC2 4. -/
def bufs : Bufs := { dst := 1, src0 := 2, src1 := 3, src2 := 4 }

/-- Two FP32 elements a buffer: 1.0 and −2.0; 0.5 and 4.0; 1.5 and NaN. -/
def vecs : State :=
  runs timed task3 [(2, [0, 0, 128, 63, 0, 0, 0, 192]), (3, [0, 0, 0, 63, 0, 0, 128, 64]), (4, [0, 0, 192, 63, 1, 0, 192, 127])]

def vec32 : VecP := { fmt := 8, elems := 2, toFmt := 6, inner := 2 }

theorem wit_ready : Ready vecs 639 task3 := by unfold Ready; decide +kernel

theorem test_vec :
    nx (exec (.vecAdd 639 vec32 bufs) vecs) (fun t => wentOn t && inBuf t 1 0 [0, 0, 192, 63, 0, 0, 0, 64]) = true ∧
    nx (exec (.vecSub 639 vec32 bufs) vecs) (fun t => wentOn t && inBuf t 1 0 [0, 0, 0, 63, 0, 0, 192, 192]) = true ∧
    nx (exec (.vecMul 639 vec32 bufs) vecs) (fun t => wentOn t && inBuf t 1 0 [0, 0, 0, 63, 0, 0, 0, 193]) = true ∧
    nx (exec (.vecFma 639 vec32 bufs) vecs) (fun t => wentOn t && inBuf t 1 0 [0, 0, 0, 64, 0, 0, 192, 127]) = true ∧
    nx (exec (.vecMax 639 vec32 bufs) vecs) (fun t => wentOn t && inBuf t 1 0 [0, 0, 128, 63, 0, 0, 128, 64]) = true ∧
    nx (exec (.vecMin 639 vec32 bufs) vecs) (fun t => wentOn t && inBuf t 1 0 [0, 0, 0, 63, 0, 0, 0, 192]) = true := by
  decide +kernel

theorem test_vecFunctions : coreFloat vec32.fmt = true ∧
    nx (exec (.vecExp 639 { vec32 with elems := 1 } bufs) vecs) (fun t => wentOn t && inBuf t 1 0 [0x54, 0xF8, 0x2D, 0x40]) = true ∧
    nx (exec (.vecRecip 639 vec32 bufs) vecs) (fun t => wentOn t && inBuf t 1 0 [0, 0, 128, 63, 0, 0, 0, 191]) = true ∧
    nx (exec (.vecRsqrt 639 { vec32 with elems := 1 } bufs) vecs) (fun t => wentOn t && inBuf t 1 0 [0, 0, 128, 63]) = true ∧
    nx (exec (.vecTanh 639 { vec32 with elems := 1 } bufs) vecs) (fun t => wentOn t && inBuf t 1 0 [0xD6, 0xF7, 0x42, 0x3F]) = true ∧
    nx (exec (.vecGeluTanh 639 vec32 bufs) vecs) wentOn = true := by decide +kernel

theorem test_vecConvert : (vec32.fmt ≠ 9 ∧ fmtWidth vec32.fmt ≠ 0 ∧ vec32.toFmt ≠ 9 ∧ fmtWidth vec32.toFmt ≠ 0) ∧
    nx (exec (.vecConvert 639 vec32 bufs) vecs) (fun t => wentOn t && inBuf t 1 0 [128, 63, 0, 192]) = true := by decide +kernel

theorem test_int32 : coreCode 0xA (addNum (numOf 0xA (2 ^ 32 - 1)) (numOf 0xA 1)) = 0 ∧
    coreCode 0xA (mulNum (numOf 0xA (2 ^ 31)) (numOf 0xA (2 ^ 31))) = 0 := by decide +kernel

theorem test_reduce : (coreFmt vec32.fmt = true ∧ vec32.inner ≠ 0 ∧ vec32.elems % vec32.inner = 0) ∧
    nx (exec (.reduceSum 639 vec32 bufs) vecs) (fun t => wentOn t && inBuf t 1 0 [0, 0, 128, 191]) = true ∧
    nx (exec (.reduceMax 639 vec32 bufs) vecs) (fun t => wentOn t && inBuf t 1 0 [0, 0, 128, 63]) = true ∧
    nx (exec (.reduceMin 639 vec32 bufs) vecs) (fun t => wentOn t && inBuf t 1 0 [0, 0, 0, 192]) = true ∧
    nx (exec (.reduceSum 639 { vec32 with fmt := 0xA } bufs) (runs timed task3 [(2, [255, 255, 255, 255, 254, 255, 255, 255])]))
      (fun t => wentOn t && inBuf t 1 0 [253, 255, 255, 255, 255, 255, 255, 255]) = true := by decide +kernel

/-- One output of a product of depth 2 in INT8, zero points 1 and 0. -/
def mat : MatmulP :=
  { aFmt := 2, bFmt := 2, outFmt := 0xA, fp8Sat := false, sparse := false, skip := false, plusMinus := false, scaleMode := 0,
    aZp := 1, bZp := 0, outZp := 0, problems := 1, m := 1, n := 1, k := 2, outScale := 0x3F800000#32, scaleBase := 0, shapes := [] }

/-- The operands are (−128, 127) and (3, −5). -/
def mats : State := runs (setEnable timed (.array 639) true) task3 [(2, [128, 127]), (3, [3, 251])]

/-- The pass of these operands. -/
def pass1 (p : MatmulP) : Pass := { p := p, bufs := bufs, a := [128, 127], b := [3, 251], c := [] }

theorem test_matmul : (matmulOk mat = true ∧ shapesOk mat = true ∧ enabled mats (.array 639) = true ∧
      passWaits (tileAt mats 639) bufs false = false ∧ metaOk (problemOf mat [128, 127] [3, 251] [] 0) = true) ∧
    nx (exec (.matmul 639 mat bufs false) mats) (fun t => wentOn t &&
      decide ((tileAt t 639).passes = [pass1 mat])) = true := by
  decide +kernel

theorem test_matmul_skip :
    let p := { mat with skip := true }
    let s := runs (setEnable timed (.array 639) true) task3
      [(2, [128, 127]), (3, [3, 251]), (4, [1, 0, 0, 0, 0, 0, 0, 0, 1, 0, 0, 0])]
    (matmulOk p = true ∧ shapesOk p = true ∧ passWaits (tileAt s 639) bufs false = false ∧
      metaOk (problemOf p [128, 127] [3, 251] [1, 0, 0, 0, 0, 0, 0, 0, 1, 0, 0, 0] 0) = false) ∧
    nx (exec (.matmul 639 p bufs false) s) (fun t => bit (reg t (.array 639) 8) 6 &&
      decide ((tileAt t 639).task = none ∧ fld t (.tile 639) 0x18 0 4 = 3)) = true := by
  decide +kernel

/-- The pass is in flight. -/
def inFlight : State :=
  setTile mats 639 { tileAt mats 639 with passes := [pass1 mat] }

theorem test_matmul_waits : (enabled timed (.array 639) = false ∧ passWaits (tileAt inFlight 639) bufs false = true) ∧
    nx (exec (.matmul 639 mat bufs false) timed) (fun t => decide (t = timed)) = true ∧
    nx (exec (.matmul 639 mat bufs false) inFlight) (fun t => decide (t = inFlight)) = true := by decide +kernel

theorem test_matmulPassComplete : (tileAt inFlight 639).task = some task3 ∧ (tileAt inFlight 639).passes ≠ [] ∧
    nx (exec (.matmulPassComplete 639 [] false) inFlight)
      (fun t => decide ((tileAt t 639).passes = []) && inBuf t 1 0 [7, 252, 255, 255]) = true := by decide +kernel

theorem test_matmul_noPass : (tileAt mats 639).passes = [] ∧
    nx (exec (.matmulPassComplete 639 [] false) mats) (fun t => decide (t = mats)) = true := by decide +kernel

/-- The accumulator of row 0, column 0 is 1 too high. -/
def wrong1 : AccErr := { row := 0, col := 0, problem := 0, err := 1 }

theorem test_matmul_checksum : (wrong1.row < blockLines mat + 2 ∧ wrong1.col < blockLines mat + 2 ∧
      wrong1.problem < mat.problems ∧ checksumFails (pass1 mat) [wrong1] = true) ∧
    nx (exec (.matmulPassComplete 639 [wrong1] false) inFlight) (fun t => bit (reg t (.array 639) 8) 1 &&
      inBuf t 1 0 [8, 252, 255, 255] &&
      decide (reg t (.array 639) 0x20 = 1 ∧ (tileAt t 639).task = some task3 ∧ (t.belfry.last.map (·.mech)) = some 1 ∧
        fld t (.array 639) 0x28 0 20 = 2 ^ 18 + 2 ^ 19)) = true := by decide +kernel

/-- Two FP32 elements to INT8S, no rotation, zero point 3, scale inverse 2. -/
def quant : QuantP := { inFmt := 8, outFmt := 2, had := 0, fp8Sat := false, zp := 3, invScale := 0x40000000#32, elems := 2 }

theorem test_quantise : quantOk quant = true ∧
    nx (exec (.quantise 639 quant bufs false) vecs) (fun t => wentOn t && inBuf t 1 0 [5, 255]) = true ∧
    nx (exec (.quantise 639 quant bufs true) vecs) (fun t => wentOn t && inBuf t 1 0 [5, 255] &&
      bit (reg t (.array 639) 8) 2 && decide (reg t (.array 639) 0x20 = 1)) = true := by decide +kernel

theorem wit_product : isIntOperand mat.aFmt = true ∧ isIntOperand mat.bFmt = true ∧ mat.outFmt = 0xA ∧
    mat.problems = 1 ∧ 0 < mat.m ∧ 0 < mat.n ∧
    ((passOutputs mats 639 (pass1 mat) [])[0]?).map (·.code) = some 0xFFFFFC07 := by decide +kernel

theorem test_scaleLoad : 4094 + 2 ≤ 4096 ∧
    nx (exec (.scaleLoad 639 4094 2 bufs) vecs) (fun t => wentOn t &&
      decide (reg t (.scale 639) 0x7FF8 = 0xC00000003F800000#64)) = true := by decide +kernel

/-- TOP 1 of two FP32 keys, numbered from 10. -/
def top1 : SelectP := { mode := 0, keyType := 0, explicit := false, k := 1, e := 2, base := 10, threshold := 0 }

/-- The selection network of tile 639 is enabled (R158). -/
def netOn (s : State) : State := setEnable s (.selnet 639) true

theorem test_select : (selectOk top1 = true ∧ top1.explicit = false ∧ top1.base + top1.e < 2 ^ 64 ∧
      enabled (netOn vecs) (.selnet 639) = true) ∧
    nx (exec (.select 639 top1 bufs false) (netOn vecs)) (fun t => wentOn t && inBuf t 1 0 [1, 0, 0, 0, 1] && inBuf t 1 64 [10]) = true ∧
    nx (exec (.select 639 { top1 with mode := 1 } bufs false) (netOn vecs)) (fun t => inBuf t 1 64 [11]) = true ∧
    nx (exec (.select 639 { top1 with mode := 2, threshold := 0x3F800000 } bufs false) (netOn vecs))
      (fun t => inBuf t 1 0 [0]) = true ∧
    nx (exec (.select 639 { top1 with mode := 3, threshold := 0x3F800000 } bufs false) (netOn vecs))
      (fun t => inBuf t 1 64 [11]) = true := by decide +kernel

/-- TOP 1 with indices of SRC1. -/
def explicit1 : SelectP := { top1 with explicit := true, base := 0 }

theorem test_select_explicit :
    let s (bs : List Byte) := netOn (runs timed task3 [(2, [0, 0, 128, 63, 0, 0, 0, 192]), (3, bs)])
    (selectOk explicit1 = true ∧
      operand (s [7, 0, 0, 0, 0, 0, 0, 0, 9, 0, 0, 0, 0, 0, 0, 0]) 639 task3 3 64 2 0 = 7 ∧
      operand (s [7, 0, 0, 0, 0, 0, 0, 0, 9, 0, 0, 0, 0, 0, 0, 0]) 639 task3 3 64 2 1 = 9) ∧
    nx (exec (.select 639 explicit1 bufs false) (s [7, 0, 0, 0, 0, 0, 0, 0, 9, 0, 0, 0, 0, 0, 0, 0]))
      (fun t => wentOn t && inBuf t 1 64 [7]) = true ∧
    nx (exec (.select 639 explicit1 bufs false) (s [7, 0, 0, 0, 0, 0, 0, 0, 7, 0, 0, 0, 0, 0, 0, 0]))
      (fun t => decide ((tileAt t 639).task = none ∧ fld t (.tile 639) 0x18 0 4 = 1)) = true ∧
    nx (exec (.select 639 explicit1 bufs false) (s (List.replicate 8 255 ++ [7, 0, 0, 0, 0, 0, 0, 0])))
      (fun t => decide ((tileAt t 639).task = none ∧ fld t (.tile 639) 0x18 0 4 = 1)) = true := by decide +kernel

theorem wit_selectBest : repeats (([⟨10, 0, 5⟩, ⟨11, 0, 7⟩] : List SelEntry).map (·.index)) = false := by decide +kernel

/-- Records of one entry each: index 7 with key 5, index 2 with key 9, in keys of Hamming distances. -/
def twoRecs : List Byte :=
  selBytes (selectBest 2 false 1 [{ index := 7, source := 0, key := 5 }]) ++
  selBytes (selectBest 2 false 1 [{ index := 2, source := 0, key := 9 }])

def merge2 : MergeP := { lists := 2, dedup := false, disjoint := true, kOut := 1, stride := 80 }

theorem test_merge : (mergeOk merge2 = true ∧
      let recs := [selParse (twoRecs.take 80), selParse (twoRecs.drop 80)]
      mergeInputsOk merge2 recs = true ∧ (mergeRecs 1 true recs).2 = false) ∧
    nx (exec (.merge 639 merge2 bufs false) (netOn (runs timed task3 [(2, twoRecs)])))
      (fun t => wentOn t && inBuf t 1 64 [2, 0, 0, 0, 0, 0, 0, 0, 9, 0, 0, 0, 1]) = true := by decide +kernel

theorem test_merge_repeated :
    let two := selBytes (selectBest 2 false 1 [{ index := 7, source := 0, key := 5 }])
    let p := { merge2 with disjoint := false }
    (mergeOk p = true ∧ mergeInputsOk p [selParse two, selParse two] = true ∧
      (mergeRecs 1 false [selParse two, selParse two]).2 = true) ∧
    nx (exec (.merge 639 p bufs false) (netOn (runs timed task3 [(2, two ++ two)])))
      (fun t => decide ((tileAt t 639).task = none ∧ fld t (.tile 639) 0x18 0 4 = 1)) = true := by decide +kernel

/-! ### Feature tables, streams, tokens and tasks -/

def le (w : Nat) (l : List Nat) : List Byte := l.flatMap (toLE w)

/-- Context 2 is open. -/
def ctx2 : Ctx :=
  { state := .opened, owner := some 1, endpoint := 0, confidential := false, aged := false, closing := false, replies := [],
    left := 0 }

/-- Request 3 of context 2. -/
def req3 : Request :=
  { state := .running, ctx := 2, prio := 0, elastic := false, pipeline := 4, session := 1, queue := 65, tag := 21, stamp := 0,
    acceptFrame := 0, start := 1, promised := 9, deadline := 20, slots := [], plan := [], search := none, gen := none,
    input := [], servFrames := 0, steps := [], affected := false, status := 0, dueFrame := none, sentFrame := none,
    produced := none, resultBytes := 0, sketch := none, version := 0, shortlist := none, lane := 0, draftOff := false,
    draftLen := 0, rejectRun := 0, plainSteps := 0, length := 0, promptLen := 0, prefillPos := 0, generated := 0,
    pageHead := none, pages := [], sharedPages := 0, acceptEst := 0, prompt := [], tokens := [], hist := [], released := 0,
    detok := 0, stop := none, endReason := none, packed := [], entered := 0 }

/-- Table 5 is TRAINED and of context 2: 8 rows of two FP32 elements at address 2,048; the context's space is one extent
of 16 granules of Keep 7. -/
def tabled : State :=
  let s := setReg (setReg (setReg ivory .tier (ftabOff 5 0) 2048) .tier (ftabOff 5 8) 8) .tier (ftabOff 5 0x10) 8
  let s := setReg s .tier (ftabOff 5 0x18) (BitVec.ofNat 64 (8 + 2 * 2 ^ 4 + 2 * 2 ^ 8 + 8 * 2 ^ 24 + 2 * 2 ^ 40))
  let s := setReg (setReg s .tier (extentOff 2 0 1) 16) .tier (extentOff 2 0 2) 128
  { s with sec := { s.sec with ctxs := [(2, ctx2)] },
           tier := { s.tier with t1 := memWrite [] (t1Key 2 2056) (le 4 [0x3F800000, 0x40000000]) } }

/-- Bags {5, 1} and {5}. -/
def batch : List Byte := le 4 [3, 2, 0, 2, 3, 0] ++ le 8 [5, 1, 5]

def pool : GatherP :=
  { table := 5, mean := false, outFmt := 8, weighted := false, rowSrc := false, bags := 2, indexMax := 3, lr := 0, eps := 0,
    uniqueMax := 2 }

def elastic3 : Task := { task3 with elastic := true }

/-- The rows: (1.0, 2.0) for row 1; row 5 has (4.0, −8.0). -/
def gathers : State :=
  let s := runs tabled elastic3 [(2, batch)]
  { s with tier := { s.tier with t1 := memWrite s.tier.t1 (t1Key 2 2088) (le 4 [0x40800000, 0xC1000000]) } }

theorem test_gather : (gatherOk pool true false = true ∧ (ftabOf gathers 5).cls = 2 ∧ (ftabOf gathers 5).ctx = 2 ∧
      ctxOpen gathers 2 = true ∧
      (readBatch gathers 639 (tileAt gathers 639) elastic3 pool 2 3).any (fun q =>
        batchOk gathers (ftabOf gathers 5) pool q true &&
        (badRow gathers 639 elastic3 pool (ftabOf gathers 5) (uniqueRows q.rows)).isNone &&
        (uniqueRows q.rows).all (fun r => decide (serveAt gathers 2 false false (rowAddr gathers (ftabOf gathers 5) r) = .keep 7))) = true) ∧
    nx (exec (.gather 639 pool bufs) gathers) (fun t => inBuf t 1 0 (le 8 [3, 2, 0, 2]) &&
      inBuf t 1 64 (le 4 [0x40A00000, 0xC0C00000, 0x40800000, 0xC1000000])) = true := by decide +kernel

/-- Gradients (1, 2) and (4, 8) of the two bags. -/
def updates : State := runs tabled elastic3 [(2, batch), (3, le 4 [0x3F800000, 0x40000000, 0x40800000, 0x41000000])]

theorem test_update : (gatherOk { pool with outFmt := 0, lr := 7 } false true = true ∧
      epsOk (ftabOf updates 5).adagrad 0 = true ∧ ctxConf updates 2 = false ∧
      (readBatch updates 639 (tileAt updates 639) elastic3 { pool with outFmt := 0, lr := 7 } 2 4).any (fun q =>
        batchOk updates (ftabOf updates 5) pool q false) = true) ∧
    nx (exec (.update 639 { pool with outFmt := 0, lr := 7 } bufs) updates) (fun t => decide
      (((tileAt t 639).task.map (·.deltas)).map (fun l => l.map (fun d => (d.row, d.grad))) =
        some [(1, [0x3F800000, 0x40000000]), (5, [0x40A00000, 0x41200000])])) = true := by decide +kernel

theorem test_unique : (gatherOk { pool with outFmt := 0 } false false = true ∧
      (readBatch gathers 639 (tileAt gathers 639) elastic3 { pool with outFmt := 0 } 2 3).any (fun q =>
        batchOk gathers (ftabOf gathers 5) pool q false) = true) ∧
    nx (exec (.unique 639 { pool with outFmt := 0 } bufs) gathers)
      (fun t => inBuf t 1 0 (le 4 [2]) && inBuf t 1 8 (le 8 [1, 5])) = true := by decide +kernel

/-- A delta of rate 1.0 for row 1, gradient (0.5, 0.5). -/
def delta1 : DeltaRec :=
  { table := 5, source := 1, opt := 0, seq := 4, row := 1, lr := 0x3F800000, eps := 0, grad := [0x3F000000, 0x3F000000] }

theorem test_deltaApply :
    let s := { tabled with img := { tabled.img with image := some (parseImage smallImage) },
                           feat := { tabled.feat with area := [{ due := 0, delta := delta1 }, { due := 1, delta := delta1 }] } }
    nx (exec (.deltaApply 7) s) (fun t => decide (t.feat.area = [{ due := 1, delta := delta1 }] ∧
      memRead t.tier.t1 (t1Key 2 2056) 8 = le 4 [0x3F000000, 0x3FC00000] ∧ reg t (.keep 7) 0x8000 = 1)) = true ∧
    nx (exec (.deltaApply 6) s) (fun t => decide (t.feat = s.feat ∧ t.tier = s.tier)) = true := by decide +kernel

/-- Windows of 4 frames; row 1 of table 5 was read 3 times by Spire 2, HOT_HITS is 3, and there is room. -/
def window : State :=
  let s := setEnable (setReg tabled .tier 0x8000 (BitVec.ofNat 64 (4 * 2 ^ 4 + 3 * 2 ^ 16 + 64 * 2 ^ 32))) .tier true
  { s with feat := { s.feat with tracker := [{ keep := 7, table := 5, row := 1, counts := [0, 0, 3, 2, 0, 0, 0, 0] }] } }

theorem test_replicationWindow : (hotWindow window ≠ 0 ∧ enabled window .tier = true ∧ window.img.awaiting = false ∧
      now window % hotWindow window = 0 ∧ window.feat.chosenFor ≠ some 0) ∧
    nx (exec .replicationWindow window) (fun t => decide ((spireAt t 2).replicas = [(5, 1)] ∧ (spireAt t 3).replicas = [] ∧
      t.feat.tracker = [])) = true := by decide +kernel

/-- Endpoint 0 is a device; session 1 has its control queue and the next. -/
def deviceEnd (s : State) : State :=
  let s := hosted s
  setReg s .tytos 0x1010 (BitVec.ofNat 64 (2 ^ 48 + 2 ^ 50))

theorem test_delta : (sessAt (deviceEnd tabled) 1 = some hostSession ∧ epDevice (deviceEnd tabled) 0 = true ∧
      (tget hostSession.queues (hostSession.firstMsgq + 1)).isSome = true ∧ deltaBad (deviceEnd tabled) delta1 = false ∧
      deltaBad (deviceEnd tabled) { delta1 with row := 8 } = true) ∧
    nx (exec (.delta 1 9 [delta1]) (deviceEnd tabled)) (fun t => decide (t.feat.area = [{ due := 1, delta := delta1 }]) &&
      sent t (.msg 1 65 0x41 0 (le 8 [5, 4]) 0)) = true ∧
    nx (exec (.delta 1 9 [{ delta1 with row := 8 }]) (deviceEnd tabled)) (fun t => decide (t.feat.area = [] ∧
      reg t .tier 0x8020 = 1) && bit (reg t .tier 0x8010) 1) = true := by decide +kernel

theorem test_deltaAck :
    let s := { deviceEnd tabled with feat := { State.reset.feat with unacked := [(0, delta1), (0, { delta1 with seq := 5 })] } }
    nx (exec (.deltaAck 1 5 4) s) (fun t => decide (t.feat.unacked = [(0, { delta1 with seq := 5 })])) = true := by
  decide +kernel

/-- A stream descriptor of one dimension: 4 bytes of T1 address 2,056 to buffer 1. -/
def desc1 : StreamDesc :=
  { kind := 2, farTier := 1, write := false, idx64 := false, weight := false, indexBuf := 2, sramBuf := 1, grantMbps := 1,
    farBase := 2056, rowStride := 0, rowBytes := 0, indexMax := 0, indexLimit := 0, sramStride := 0, landFrames := 0,
    elemLog2 := 2, sramOffset := 0, dimNum := 1, dims := [(2, 4)] }

/-- An image with a program of three buffers, stream 0 of the task's stage, and a route to a stage of pipeline 4. -/
def progImage : Image :=
  { parseImage smallImage with
    programs := [{ num := 6, vregPersist := 0, bufs := [⟨0, 0, 64⟩, ⟨0, 0, 64⟩, ⟨0, 0, 64⟩, ⟨0, 0, 64⟩, ⟨1, 0, 64⟩],
                   ops := [⟨0x0D, 0, 0, 0, 0, 0, []⟩, ⟨0x04, 0, 0, 0, 0, 0, []⟩, ⟨0x0E, 0, 0, 0, 0, 0, []⟩] }],
    streams := [{ pipeline := 4, stage := 0, index := 0, desc := desc1 }],
    routes := [{ srcPipeline := 4, srcStage := 0, srcSlot := 0, dstPipeline := 4, dstStage := 0, dstSlot := 0, channel := 0,
                 credits := 1, creditBytes := 12, via := 0 }],
    pipelines := [{ num := 4, cls := 0, span := 1, variant := 0xFF, scanStage := 0xFF,
                    stages := [{ offset := 0, duration := 1, slots := 1, tilesPerSlot := 2, wcet := 1, program := 6,
                                 t2Bytes := 0, t0Kib := 0, t1Kib := 0 }] }] }

/-- The image of `progImage` is in service. -/
def served (s : State) : State := { s with img := { s.img with image := some progImage } }

def streams : State := runs (served (setEnable tabled (.tdma 639) true)) task3 [(2, le 4 [2, 0, 1, 0])]

theorem test_streamStart : (streamDesc streams task3 0 = some desc1 ∧ enabled streams (streamBlk desc1 639) = true ∧
      (tileAt streams 639).streams = []) ∧
    nx (exec (.streamStart 639 0) streams) (fun t => wentOn t && decide ((tileAt t 639).streams.map (·.elems) =
      [[(2056, 0, 8)]] ∧ (tileAt t 639).history = [(3, 0)])) = true := by decide +kernel

/-- Two rows of 4 bytes by a list of 32-bit indices in buffer 2, of which only 0 is in range. -/
def gatherDesc : StreamDesc := { desc1 with kind := 1, rowStride := 4, rowBytes := 4, indexMax := 2, indexLimit := 1, sramStride := 8 }

theorem test_streamList : (gatherDesc.kind = 1 ∧
      leNat (bufRead streams 639 (tileAt streams 639) task3 2 0 4) ≤ gatherDesc.indexMax) ∧
    (newRun streams 639 (tileAt streams 639) task3 0 gatherDesc).elems = [(2060, 0, 4), (2056, 8, 4)] ∧
    (newRun streams 639 (tileAt streams 639) task3 0 gatherDesc).outside = [0] := by decide +kernel

/-- Stream 0 of the task runs. -/
def run0 : StreamRun := newRun streams 639 (tileAt streams 639) { task3 with frame := 0 } 0 desc1
def withRun (s : State) (r : StreamRun) : State := setTile s 639 { tileAt s 639 with streams := [r] }

theorem test_streamWait :
    nx (exec (.streamWait 639 0) (withRun streams { run0 with done := true })) wentOn = true ∧
    nx (exec (.streamWait 639 0) (withRun streams run0))
      (fun t => decide ((tileAt t 639).task = some { task3 with waitStream := some 0 })) = true := by decide +kernel

theorem test_streamComplete : (runAt (withRun streams run0) 639 0 = some run0 ∧ run0.tooMany = false ∧
      firstFault (withRun streams run0) run0 (runSize (withRun streams run0) 639 run0) = none ∧
      missing (withRun streams run0) 639 run0 = []) ∧
    nx (exec (.streamComplete 639 0) (withRun streams run0)) (fun t => inBuf t 1 0 (le 4 [0x3F800000, 0x40000000]) &&
      decide (reg t (.tdma 639) 0x10 = 2048 ∧ reg t (.tdma 639) 0x18 = 1)) = true := by decide +kernel

/-- The stream as a read of the pool: namespace 3 of context 2, due a frame after its own. -/
def pool0 : StreamRun :=
  { run0 with desc := { desc1 with farTier := 2, landFrames := 1 }, elems := [(3 * 2 ^ 58, 0, 4)] }
def pooled : State :=
  let s := withRun streams pool0
  { s with flash := { s.flash with
      nss := [(3, { size := 4096, owner := 2, readers := 0, serials := [], state := .active, visits := [], sinceCursor := [] })],
      data := memWrite [] (3 * 2 ^ 58) [1, 2, 3, 4] } }

theorem test_poolReadComplete : (runAt pooled 639 0 = some pool0 ∧
      firstFault pooled pool0 (runSize pooled 639 pool0) = none ∧ now pooled < pool0.frame + pool0.desc.landFrames) ∧
    nx (exec (.poolReadComplete 639 0 false false) pooled) (fun t => inBuf t 1 0 [1, 2, 3, 4] &&
      decide (reg t (.tdma 639) 0x10 = 16384)) = true := by decide +kernel

theorem test_poolRead_failed : (runAt pooled 639 0 = some pool0 ∧ pool0.desc.farTier = 2 ∧
      decide (pool0.frame + pool0.desc.landFrames ≤ now pooled) = false) ∧
    nx (exec (.poolReadComplete 639 0 true false) pooled) (fun t => bit (reg t .flash 8) 5 &&
      decide (reg t .flash 0x50 = 1 ∧ reg t .tier 0x128 = 1)) = true := by decide +kernel

theorem test_poolRead_late :
    let s := withRun pooled { pool0 with desc := { pool0.desc with landFrames := 0 } }
    nx (exec (.poolReadComplete 639 0 false true) s) (fun t => decide (reg t .flash 0x48 = 1)) = true := by decide +kernel

/-- The stream with an element outside every extent. -/
def bad0 : StreamRun := { run0 with elems := [(2056, 0, 4), (16 * 2048, 4, 4)] }
def faulting : State :=
  let s := withRun (hosted streams) bad0
  let s := setTile s 639 { tileAt s 639 with task := some { task3 with frame := 0 } }
  { s with reqs := tset s.reqs 3 req3 }

theorem test_streamFault : (runAt faulting 639 0 = some bad0 ∧ faultAt faulting 639 bad0 2 (16 * 2048) = true ∧
      firstFault faulting bad0 (runSize faulting 639 bad0) = some (1, 2, false) ∧ reqAt faulting 3 = some req3) ∧
    nx (exec (.streamFault 639 0 2 (16 * 2048)) faulting) (fun t => decide ((tileAt t 639).task = none ∧
      (reqAt t 3).map (·.status) = some stFault ∧ reg t (.tdma 639) 0x20 = 16 * 2048) && bit (reg t (.tdma 639) 0x08) 1 &&
      bit (reg t (.tile 639) 0x08) 1) = true := by decide +kernel

/-- A weight read waits for a line. -/
def weight0 : StreamRun := { run0 with desc := { desc1 with weight := true } }
def missed0 : State := withRun (setEnable streams (.wcache 7) true) weight0

theorem test_lineFill : (tileSpire 639 = 7 ∧ (waitsLine missed0 (t1Key 2 2056 / 2048) 639).isSome = true ∧
      enabled missed0 (.wcache 7) = true) ∧
    nx (exec (.lineFill 7 (t1Key 2 2056 / 2048) [639] 1) missed0) (fun t => decide (reg t (.wcache 7) 0x20 = 1 ∧
      reg t (.wcache 7) 0x28 = 0 ∧ (spireAt t 7).lines = [t1Key 2 2056 / 2048]) && bit (reg t (.wcache 7) 0x08) 1 &&
      (missing t 639 ((tileAt t 639).streams.getD 0 weight0)).isEmpty) = true := by decide +kernel

theorem test_send : (routeAt streams 0 = progImage.routes[0]? ∧
      (progImage.routes[0]?).any (fun r => routeOk streams task3 r 1 && decide (4 ≤ r.creditBytes)) = true ∧
      creditsLeft streams 639 0 = 1) ∧
    nx (exec (.send 639 4 0 1 bufs) streams) (fun t => decide (creditsLeft t 639 0 = 0 ∧
      ((tileAt t 639).task.map (·.tokens)).map (fun l => l.map (fun j => (j.data, j.dstRank, j.visible))) =
        some [([2, 0, 0, 0], 1, 1)])) = true := by decide +kernel

/-- The route has no credit left. -/
def noCredit : State := setTile streams 639 { tileAt streams 639 with spent := [(0, 1)] }

theorem test_send_waits : creditsLeft noCredit 639 0 = 0 ∧
    nx (exec (.send 639 4 0 1 bufs) noCredit) (fun t => decide ((tileAt t 639).task =
      some { task3 with waiting := some { bytes := 4, route := 0, rank := 1, src := 2 } })) = true := by decide +kernel

theorem test_sendAfterCredit :
    let k := { task3 with waiting := some { bytes := 4, route := 0, rank := 1, src := 2 } }
    let s := runs streams k [(2, [7, 8, 9, 1])]
    creditsLeft s 639 0 = 1 ∧
    nx (exec (.sendAfterCredit 639) s) (fun t => decide (creditsLeft t 639 0 = 0 ∧
      (tileAt t 639).task.map (fun k => (k.waiting, k.pos, k.tokens.map (·.data))) = some (none, 1, [[7, 8, 9, 1]]))) = true := by
  decide +kernel

/-- Rows (5, 6) for rank 1 and (7, 8) for rank 0; SRC2 is the PERSIST buffer 4. -/
def rowsToSend : State := runs streams task3 [(2, [5, 6, 7, 8]), (3, le 4 [1, 0])]

theorem test_routeRows : (creditsLeft rowsToSend 639 0 = 1 ∧ bufKind rowsToSend task3 4 = 1) ∧
    nx (exec (.routeRows 639 0 2 2 bufs) rowsToSend) (fun t => decide (((tileAt t 639).task.map (·.tokens)).map
        (fun l => l.map (fun j => (j.dstRank, j.data))) = some [(1, le 8 [0] ++ [5, 6])]) &&
      (List.range 26).all (fun i => decide (tget (tileAt t 639).sram (bufKey 3 true 4 i) =
        some ((le 4 [1, 0] ++ le 8 [1] ++ le 4 [0, 0] ++ [7, 8]).getD i 0)))) = true := by decide +kernel

theorem test_loop : nx (exec (.loop 639 16777216) streams) (fun t => decide ((tileAt t 639).task =
      some { task3 with pos := 1, loops := [(1, 16777216)] })) = true ∧
    nx (exec (.endLoop 639) (runs streams { task3 with pos := 2, loops := [(1, 2)] } [])) (fun t => decide ((tileAt t 639).task =
      some { task3 with pos := 1, loops := [(1, 1)] })) = true ∧
    nx (exec (.endLoop 639) (runs streams { task3 with pos := 2, loops := [(1, 1)] } [])) (fun t => decide ((tileAt t 639).task =
      some { task3 with pos := 3, loops := [] })) = true := by decide +kernel

theorem test_exitIf :
    let s := runs streams { task3 with pos := 1, loops := [(1, 5)] } [(2, le 4 [0x3F800000])]
    nx (exec (.exitIf 639 0 8 0 0x3F000000 bufs) s) (fun t => decide ((tileAt t 639).task.map (fun k => (k.pos, k.loops)) =
      some (3, []))) = true ∧
    nx (exec (.exitIf 639 0 8 0 0x3F800000 bufs) s) (fun t => decide ((tileAt t 639).task.map (fun k => (k.pos, k.loops)) =
      some (2, [(1, 5)]))) = true ∧
    taskSettled (tileAt s 639) task3 = true ∧
    nx (exec (.exitIf 639 0 8 1 0x3F000000 bufs) s) (fun t => decide ((tileAt t 639).task.map (·.complete) = some true ∧
      (tileAt t 639).run = .idle ∧ reg t (.tile 639) 0x20 = 1)) = true := by decide +kernel

theorem test_exitIf_unsettled :
    let s := runs streams { task3 with pos := 1, loops := [(1, 5)] } [(2, le 4 [0x3F800000])]
    let s := setTile s 639 { tileAt s 639 with streams := [{ run0 with frame := 1 }] }
    taskSettled (tileAt s 639) { task3 with pos := 1, loops := [(1, 5)] } = false ∧
    nx (exec (.exitIf 639 0 8 1 0x3F000000 bufs) s) (fun t => decide ((tileAt t 639).task.map (fun k => (k.pos, k.loops, k.complete)) =
      some (3, [], false) ∧ (tileAt t 639).run = .running)) = true := by decide +kernel

theorem test_emit : nx (exec (.emit 639 3 bufs) streams) (fun t => decide ((tileAt t 639).task =
    some { task3.next with frags := [[2, 0, 0]] })) = true := by decide +kernel

theorem test_taskComplete : taskSettled (tileAt streams 639) task3 = true ∧
    nx (exec (.taskComplete 639) streams) (fun t => decide ((tileAt t 639).task = some { task3 with complete := true } ∧
      (tileAt t 639).run = .idle ∧ reg t (.tile 639) 0x20 = 1)) = true := by decide +kernel

/-- Tile 639 switches to context 2, of which it has a save. -/
def switching : State :=
  let s := setTile tabled 639 { tileAt tabled 639 with switch := some (2, 4), run := .switching, sram := [(1, 1)] }
  { s with tier := { s.tier with saves := [(2 * 640 + 639, { sram := [(7, 9)], vregs := [(3, 4)], scales := [(8, 5)] })] } }

theorem test_contextSwitchComplete :
    nx (exec (.contextSwitchComplete 639) switching) (fun t => decide ((tileAt t 639).sram = [(7, 9)] ∧
      (tileAt t 639).vregs = [(3, 4)] ∧ (tileAt t 639).occupant = some 2 ∧ reg t (.scale 639) 0x4008 = 5 ∧
      t.tier.saves = []) && bit (reg t (.tile 639) 0x08) 3) = true ∧
    nx (exec (.contextSwitchComplete 639) { switching with tier := { switching.tier with saves := [] } })
      (fun t => decide ((tileAt t 639).sram = [] ∧ (tileAt t 639).run = .idle)) = true := by decide +kernel

/-! ### Index changes and text -/

/-- A loaded image of a kind at an offset of device image space. -/
def loadedAt (kind base : Nat) : LoadedImage :=
  { kind := kind, bytes := 4096, resident := true, ns := 0, base := base, upto := 4096, valid := true, noSpace := false }

/-- Bytes of device image space. -/
def imageBytes (s : State) (off : Nat) (bs : List Byte) : State :=
  { s with tier := { s.tier with t1 := memWrite s.tier.t1 (2 ^ 68 + off) bs } }

/-- Scan index 9 of 16 slots in one shard of one slice, with filter 3 defined; every passage is live. -/
def indexed : State :=
  let s := served (hosted tabled)
  let refs : List ImageRef :=
    [{ ref := 9, kind := 2, resident := true, bytes := 0, digest := [] }, { ref := 8, kind := 2, resident := true, bytes := 0, digest := [] }]
  let s := { s with img := { s.img with
    image := s.img.image.map (fun i => { i with refs := refs }), loaded := [(8, loadedAt 2 65536), (9, loadedAt 2 0)] } }
  imageBytes (imageBytes s 0 (toLE 4 0x5849535A ++ [1, 0, 0, 7] ++ toLE 8 16 ++ toLE 4 16 ++ [1, 1, 8, 0])) 4096 [255, 255]

theorem wit_index : sessAt indexed 1 = some hostSession ∧ epPriv indexed 0 = true ∧ serving indexed = true ∧
    (indexAt indexed 9).map (fun h => (h.shape.slots, h.shape.filters, h.mapBytes)) = some (16, [3], 2) ∧
    secondMap indexed 9 0 = false ∧ (indexSt indexed 9).held = [] ∧ mustWait indexed 9 (indexSt indexed 9) = false := by
  decide +kernel

/-- The bit of passage `p` in the spare copy of index 9. -/
def spareBit (t : State) (f p : Nat) : Option Bool :=
  match indexAt t 9, (indexSt t 9).spare with
  | some h, some m => some (mapBit t h m f p)
  | _, _ => none

theorem test_delete : nx (exec (.delete 1 6 9 [0, 15]) indexed) (fun t => decide (spareBit t 0 15 = some false ∧
      spareBit t 0 14 = some true ∧ (indexSt t 9).changing = some 0) && sent t (.msg 1 64 0x87 6 (zeros 16) 0)) = true ∧
    nx (exec (.delete 1 6 9 [16]) indexed) (fun t => sent t (.msg 1 64 0x87 6 ([4] ++ zeros 15) 0)) = true := by decide +kernel

theorem test_filterWrite : nx (exec (.filterWrite 1 6 9 3 1 [2]) indexed) (fun t => decide (spareBit t 3 9 = some true ∧
      spareBit t 3 8 = some false ∧ spareBit t 0 9 = some true ∧ (indexSt t 9).changing = some 3)) = true ∧
    nx (exec (.filterWrite 1 6 9 3 1 [2, 2]) indexed) (fun t => sent t (.msg 1 64 0x87 6 ([4] ++ zeros 15) 0)) = true := by
  decide +kernel

/-- The index with its versions as given. -/
def withIndex (x : IndexSt) : State := setIndex indexed 9 x
def index0 : IndexSt := indexSt indexed 9

/-- A publication is ordered, so that changes must wait. -/
def waits : State := withIndex { index0 with publishAt := some 0 }

theorem test_delete_held : mustWait waits 9 (indexSt waits 9) = true ∧
    nx (exec (.delete 1 6 9 [0]) waits) (fun t => decide ((indexSt t 9).held.length = 1 ∧ t.out = waits.out)) = true := by
  decide +kernel

theorem test_publish :
    nx (exec (.publish 1 6 9) indexed) (fun t => sent t (.msg 1 64 0x87 6 (zeros 16) 0)) = true ∧
    nx (exec (.publish 1 6 9) (withIndex { index0 with changing := some 0, spare := some [] })) (fun t =>
      decide ((indexSt t 9).publishAt = some 0 ∧ (indexSt t 9).changing = none ∧ (indexSt t 9).version = 0) &&
      sent t (.msg 1 64 0x87 6 (zeros 8 ++ toLE 8 1) 0)) = true := by decide +kernel

/-- A held deletion of passage 1, and a held publication. -/
def heldDelete : HeldChange :=
  { session := 1, tag := 6, isPublish := false, filter := 0, offset := 0, data := [], passages := [1] }

theorem test_changeApplied :
    nx (exec (.changeApplied 9) (withIndex { index0 with held := [heldDelete] })) (fun t => decide (spareBit t 0 1 = some false ∧
      (indexSt t 9).held = [])) = true ∧
    nx (exec (.changeApplied 9) (withIndex { index0 with held := [{ heldDelete with isPublish := true, passages := [] }] }))
      (fun t => decide ((indexSt t 9).publishAt = some 0 ∧ (indexSt t 9).spare = none)) = true := by decide +kernel

/-- Graph index 8 of 3 slots, slot 1 tombstoned: node 0 points to 1 and else to itself, node 1 points to 2. -/
def graph : State :=
  let s := imageBytes indexed 65536 (toLE 4 0x5849535A ++ [1, 0, 1, 7] ++ toLE 8 3 ++ zeros 15 ++ [1] ++ zeros 18 ++ toLE 2 2048)
  let s := imageBytes (imageBytes s (65536 + 6144) (zeros 8 ++ toLE 5 1)) (65536 + 6144 + 384) (zeros 8 ++ toLE 5 2)
  setIndex (imageBytes s (65536 + 8192) [5]) 8 { index0 with repairDue := true }

theorem test_edgeRepair : (serving graph = true ∧ (indexSt graph 8).repairDue = true ∧
      (indexAt graph 8).map (fun h => (h.shape.mode, h.shape.slots, h.adjOff, h.liveOff)) = some (1, 3, 6144, 8192) ∧
      boundVersions graph 8 = [] ∧ (indexSt graph 8).spare = none ∧ (indexSt graph 8).held = [] ∧
      mustWait graph 8 (indexSt graph 8) = false) ∧
    nx (exec (.edgeRepair 8) graph) (fun t => decide ((indexSt t 8).repairDue = false ∧ (indexSt t 8).publishAt = some 0 ∧
      (indexAt t 8).map (fun h => (validFrom t h 0 1, ((neighbours t h 0 1).map (·.1)).take 2)) = some (1, [2, 0]))) = true := by
  decide +kernel

/-- Vocabulary slot 0 names image 7 of 257 tokens, the last of them "ab". -/
def vocabed : State :=
  let s := setReg (setEnable (served (hosted tabled)) .text true) .text 0x100 (BitVec.ofNat 64 (7 + 2 ^ 16))
  let s := { s with img := { s.img with loaded := [(7, loadedAt 3 0)] }, reqs := [(3, req3)] }
  imageBytes (imageBytes s 8 (toLE 4 257)) (128 + 8 * 256)
    (toLE 8 (97 + 98 * 2 ^ 18 + 2 ^ 36 + 2 * 2 ^ 38))

def job : TextJob :=
  { entry := 3, kind := 1, vocab := 0, first := true, last := true, replyRank := 0, job := 12, route := 0, reservedZero := true,
    bytes := [97, 98, 99] }

def queued (j : TextJob) : State := { vocabed with text := { queue := [j], jobs := [], outputs := [] } }

theorem test_tokenize : (enabled (queued job) .text = true ∧ reqAt (queued job) 3 = some req3 ∧ req3.produced = none ∧
      (vocabAt (queued job) 0).map (·.recs.length) = some 257) ∧
    nx (exec (.tokenize job none) (queued job)) (fun t => decide (t.text.queue = [] ∧
      t.text.outputs = [(3, 0, 0, toLE 4 12 ++ toLE 4 2 ++ toLE 4 0 ++ zeros 20 ++ le 4 [256, 99])] ∧
      reg t .text 0x308 = 3)) = true ∧
    nx (exec (.tokenize { job with last := false } none) (queued { job with last := false })) (fun t =>
      decide (t.text.outputs = [] ∧ t.text.jobs = [{ entry := 3, kind := 1, job := 12, bytes := [97, 98, 99] }])) = true := by decide +kernel

def detok : TextJob := { job with kind := 2, bytes := le 4 [256, 99] }

/-- A generation whose stop string is "bc". -/
def stopBc : GenBlock :=
  { variant := 0, vocab := 0, speculate := false, sample := false, promptMax := 8, maxNew := 8, temp := 0, topK := 0, seed := 0,
    reservedZero := true, stop := [1] ++ zeros 7 ++ [2] ++ zeros 7 ++ [98, 99] ++ zeros 566 }

def stopping : State := { queued detok with reqs := [(3, { req3 with gen := some stopBc })] }

theorem test_detokenize :
    nx (exec (.detokenize detok none) (queued detok)) (fun t => decide ((reqAt t 3).map (fun r => (r.hist, r.detok, r.stop, r.released)) =
      some ([97, 98, 99], 2, none, 3) ∧ t.text.queue = [])) = true ∧
    nx (exec (.detokenize detok none) stopping) (fun t => decide ((reqAt t 3).map (fun r =>
      (r.hist, r.released, r.endReason, r.generated, r.stop)) =
        some ([97, 98, 99], 1, some 0, 2, some (zeros 4 ++ toLE 4 1 ++ toLE 8 1)) ∧ reg t .text 0x320 = 1)) = true := by
  decide +kernel

theorem test_textParts :
    let first (j : TextJob) (n : Nat) (bs : List Byte) : State := { queued { j with first := false, bytes := bs } with
      text := { (queued { j with first := false, bytes := bs }).text with
        jobs := [{ entry := 3, kind := n, job := 12, bytes := j.bytes.take 4 }] } }
    let s1 := first { job with bytes := [97] } 1 [98, 99]
    let s2 := first detok 2 (le 4 [99])
    let j1 : TextJob := { job with first := false, bytes := [98, 99] }
    let j2 : TextJob := { detok with first := false, bytes := le 4 [99] }
    ((openJob s1 3 12).map (·.kind) = some j1.kind ∧ (openJob s2 3 12).map (·.kind) = some j2.kind ∧
      partBytes s1 j1 = [97, 98, 99] ∧ (unpackWords 4 2 (partBytes s2 j2)) = [256, 99]) ∧
    nx (exec (.tokenize j1 none) s1) (fun t => decide (t.text.jobs = [] ∧
      t.text.outputs.map (·.2.2.2.drop 32) = [le 4 [256, 99]])) = true ∧
    nx (exec (.detokenize j2 none) s2) (fun t => decide ((reqAt t 3).map (fun r => (r.hist, r.detok)) =
      some ([97, 98, 99], 2) ∧ t.text.jobs = [])) = true ∧
    nx (exec (.detokenize { detok with last := false } none) (queued { detok with last := false })) (fun t =>
      decide (t.text.jobs.map (·.bytes) = [le 4 [256, 99]] ∧ (reqAt t 3).map (·.hist) = some [])) = true := by
  decide +kernel

theorem test_textLane : nx (exec (.tokenize job (some 7)) (queued job)) (fun t => t.pins.fltLow &&
      bit (reg t .text 0x08) 3 && decide (t.belfry.last.map (fun e => (e.mech, e.cls, e.entry)) = some (2, 1, 3))) = true ∧
    nx (exec (.detokenize detok (some 0)) (queued detok)) (fun t => t.pins.fltLow) = true := by decide +kernel

/-! ### Leases, Keeps, commands through registers -/

/-- Neighbour 15 is endpoint 0, a device, which holds session 1; the lend region has one granule a Keep, 100 MB/s. -/
def leased : State :=
  let s := setReg (setReg (deviceEnd tabled) .tier 0x378 (BitVec.ofNat 64 (2 ^ 36))) .tier 0x20 (BitVec.ofNat 64 (1 + 100 * 2 ^ 32))
  { s with tier := { s.tier with
    lent := [{ neighbour := 15, wire := 6, pieces := [(0, 1), (3, 1)], mbps := 10 }], lendMem := memWrite [] 6144 [9, 8],
    leases := [(4, { neighbour := 15, wire := 4, granules := 2, mbps := 1, notice := none, ended := false })],
    homes := [(homeKey 2 4096, .lease 4 1)] } }

def lease6 : LeaseId := { neighbour := 15, lease := 6 }
def lease4 : LeaseId := { neighbour := 15, lease := 4 }

/-- A LEASE message is among the outputs. -/
def leaseSent (t : State) (op lease a b : Nat) (d : List Byte) : Bool :=
  sent t (.msg 1 64 0x42 0 (toLE 1 op ++ zeros 3 ++ toLE 4 lease ++ toLE 8 a ++ toLE 8 b ++ d) 0)

theorem wit_lease : leaseHeard leased lease6 = true ∧ neighbourSession leased 15 false = some 1 ∧
    sessAt leased 1 = some hostSession ∧ (tget hostSession.queues hostSession.firstMsgq).isSome = true := by decide +kernel

theorem test_leaseRequest :
    nx (exec (.leaseRequest { lease6 with lease := 7 } 30 90) leased) (fun t => leaseSent t 2 7 30 90 [] &&
      decide ((lentOf t { lease6 with lease := 7 }).map (·.pieces) = some [(1, 2), (4, 28)])) = true ∧
    nx (exec (.leaseRequest { lease6 with lease := 7 } 31 90) leased) (fun t => leaseSent t 3 7 0 0 [] &&
      decide (t.tier = leased.tier)) = true ∧
    nx (exec (.leaseRequest { lease6 with lease := 7 } 30 91) leased) (fun t => leaseSent t 3 7 0 0 []) = true := by
  decide +kernel

theorem test_leaseRead :
    nx (exec (.leaseRead lease6 2048 15 2) leased) (fun t => leaseSent t 8 6 2048 (15 + 32) [9, 8]) = true ∧
    nx (exec (.leaseRead lease6 4096 0 1) leased) (fun t => leaseSent t 10 6 4096 0 []) = true := by decide +kernel

theorem test_leaseWrite :
    nx (exec (.leaseWrite lease6 2049 [7]) leased) (fun t => decide (t.tier.lendMem = [(6144, 9), (6145, 7)])) = true ∧
    nx (exec (.leaseWrite lease4 0 [7]) leased) (fun t => leaseSent t 10 4 0 0 []) = true := by decide +kernel

theorem test_leaseRelease :
    nx (exec (.leaseRelease lease6) leased) (fun t => decide (t.tier.lent = [] ∧ t.tier.lendMem = [])) = true ∧
    nx (exec (.leaseRelease lease4) leased) (fun t => decide (t = leased)) = true := by decide +kernel

/-- Link 0 waits for the answer to an order of lease 7. -/
def asking : State :=
  { leased with
    tier := { leased.tier with asked := [(0, 33, 15, 7)] },
    lantern := { leased.lantern with
      links := [(0, { authed := true, slot := 1, key := [], challenge := [], ephemeral := [], seq := 32, cache := (0, 0, []) })] } }

theorem test_leaseAnswers :
    (askedFor asking { lease6 with lease := 7 } = some (0, 33) ∧ (tget asking.lantern.links 0).isSome = true) ∧
    nx (exec (.leaseGrant { lease6 with lease := 7 } 5 6) asking) (fun t => sent t (.mgmt 0 0x23 0 33 (toLE 1 0 ++ toLE 4 7)) &&
      decide ((tget t.tier.leases 7).map (·.granules) = some 5 ∧ t.tier.asked = [])) = true ∧
    nx (exec (.leaseDeny { lease6 with lease := 7 }) asking) (fun t => sent t (.mgmt 0 0x23 0 33 (toLE 1 1 ++ toLE 4 7))) = true ∧
    nx (exec .leaseReplyTimeout asking) (fun t => sent t (.mgmt 0 0x23 0 33 (toLE 1 2 ++ toLE 4 7)) &&
      decide (t.tier.asked = [])) = true := by decide +kernel

theorem test_leaseRecall : leaseOf leased lease4 = some (4, (tget leased.tier.leases 4).getD { neighbour := 0, wire := 0, granules := 0, mbps := 0, notice := none, ended := false }) ∧
    nx (exec (.leaseRecall lease4 10) leased) (fun t => decide ((tget t.tier.leases 4).map (·.notice) = some (some 40)) &&
      bit (reg t .tier 0x08) 3) = true ∧
    nx (exec (.leaseEnd lease4) leased) (fun t => decide ((tget t.tier.leases 4).map (·.ended) = some true)) = true := by
  decide +kernel

theorem test_recallNoticeEnd :
    let s := { leased with tier := { leased.tier with leases :=
      [(4, { neighbour := 15, wire := 4, granules := 2, mbps := 1, notice := some 0, ended := false })] } }
    nx (exec (.recallNoticeEnd 4) s) (fun t => decide (t.tier.leases = [] ∧ t.tier.homes = [(homeKey 2 4096, .lost)]) &&
      bit (reg t .tier 0x08) 4) = true := by decide +kernel

/-- A T3 stream of an Elastic task reads the granule that lease 4 homes; the extent is T3-eligible. -/
def t3Run : StreamRun :=
  { run0 with elastic := true, elems := [(4096, 0, 4)], desc := { desc1 with farTier := 3 } }
def t3 : State :=
  let s := setReg leased .tier (extentOff 2 0 1) (BitVec.ofNat 64 (16 + 2 ^ 32))
  let s := withRun (runs s { elastic3 with frame := 0 } []) t3Run
  { s with reqs := [(3, req3)] }

/-- The granule's bytes. -/
def granule : List Byte := 5 :: 6 :: 7 :: 8 :: zeros 2044

theorem test_leaseData :
    (leaseHeard t3 lease4 = true ∧ (2048 : Word).toNat % 2048 = 0 ∧ granule.length = 2048 ∧
      (leaseOf t3 lease4).map (·.1) = some 4 ∧
      (leaseHomes t3 4).find? (fun p => decide (p.2 = 1)) = some (homeKey 2 4096, 1) ∧ awaited t3 t3Run = [4096]) ∧
    nx (exec (.leaseData lease4 2048 2 granule) t3) (fun t => decide
      (((tileAt t 639).streams.map (·.got)) = [[(4096, granule)]])) = true ∧
    nx (exec (.leaseData lease4 2048 2 granule) { t3 with tier := { t3.tier with fetch := [(homeKey 2 4096, none)] } })
      (fun t => decide (t.tier.fetch = [(homeKey 2 4096, some granule)])) = true := by decide +kernel

theorem test_leaseData_complete :
    let r := { t3Run with got := [(4096, granule)] }
    nx (exec (.streamComplete 639 0) (withRun t3 r)) (fun t => inBuf t 1 0 [5, 6, 7, 8]) = true := by decide +kernel

theorem test_leaseFail :
    nx (exec (.leaseFail lease4 0) leased) (fun t => decide (t = leased)) = true ∧
    failedRun t3 lease4 2048 t3Run = true ∧
    nx (exec (.leaseFail lease4 2048) t3) (fun t => decide ((tileAt t 639).task = none ∧ reg t .tier 0x138 = 1) &&
      bit (reg t (.tile 639) 0x08) 1) = true := by decide +kernel

/-- Accesses of a stream of tile 560, of the Spire of Keeps 28 to 31: 100 bytes read, 50 written; and a read of tile 0. -/
def readAcc : Access :=
  { kind := .stream, write := false, bound := false, tile := 560, prio := 0, entry := 3, bytes := 100, grantMbps := 0 }

theorem test_arbitrationWindow :
    nx (exec (.arbitrationWindow 31 [readAcc, { readAcc with write := true, bytes := 50 }, { readAcc with tile := 0, bytes := 7 }]) tabled)
    (fun t => decide (reg t (.keep 31) 0x48 = 100 ∧ reg t (.keep 31) 0x50 = 50 ∧ reg t (.keep 31) 0x58 = 7)) = true := by
  decide +kernel

/-- The patrol of Keep 31 stands at its last granule. -/
def patrol : State := setFld (setEnable tabled (.keep 31) true) (.keep 31) 0x40 32 25 25165823

theorem test_patrolScrub :
    nx (exec (.patrolScrub 31 [] [] [] []) patrol) (fun t => decide (fld t (.keep 31) 0x40 32 25 = 0 ∧ fld t (.keep 31) 0x40 0 32 = 1)) = true ∧
    nx (exec (.patrolScrub 31 [] [] [] []) (setEnable tabled (.keep 31) true)) (fun t => decide (fld t (.keep 31) 0x40 32 25 = 1)) = true ∧
    (enabled patrol (.keep 31) = true ∧ patrol.tier.badBlocks = []) := by decide +kernel

theorem wit_patrolFinds : fld patrol (.keep 31) 0x40 32 25 = 25165823 ∧
    quarterFinds [(2, false)] [] [] [(7, true)] = [(2, false), (31, true)] ∧ quarterFinds [] [] [(0, true)] [] = [(16, true)] ∧
    patrolFinds patrol 31 25165823 [(31, true), (2, false)] = [(25165823 * 32 + 2, false), (25165823 * 32 + 31, true)] := by
  decide +kernel

/-- Row 0 of bank 511 of Keep 31 showed a corrected error on two patrol passes. -/
def badKeep (used : Nat) : State :=
  { tabled with tier := { tabled.tier with
    corrected := [(31, rowKey 511 0, 0, 0), (31, rowKey 511 0, 9, 1)], sparesUsed := [(31 * 512 + 511, used)] } }

theorem test_rowRepair : repairDue (badKeep 15) 31 511 0 = true ∧
    nx (exec (.rowRepair 31 511 0) (badKeep 15)) (fun t => decide (tgetD t.tier.sparesUsed (31 * 512 + 511) 0 = 16) &&
      bit (reg t (.keep 31) 0x08) 3) = true ∧
    nx (exec (.rowRepair 31 511 0) (badKeep 16)) (fun t => bit (reg t (.keep 31) 0x08) 4 && decide (t.nv = (badKeep 16).nv)) = true := by
  decide +kernel

theorem test_reqtabInspect : nx (exec (.reqtabInspect .mgmt 3) { tabled with reqs := [(3, req3)] }) (fun t =>
      decide (t.serv.view = headBytes req3 ∧ t.serv.view.length = 128)) = true ∧
    nx (exec (.reqtabInspect .mgmt 4) tabled) (fun t => decide (t.serv.view = [])) = true := by decide +kernel

/-- A move of granules 4,096 and 6,144 of context 2: the extent is T3-eligible, lease 4 has one granule free. -/
def moving : State := { t3 with tier := { t3.tier with moveAddr := 4096 } }

theorem test_tierMove : (moveOf moving (BitVec.ofNat 64 (2 + 2 * 2 ^ 4 + 4 * 2 ^ 36))).map (·.todo) = some [6144] ∧
    nx (exec (.tierMoveCmd .mgmt (BitVec.ofNat 64 (2 + 2 * 2 ^ 4 + 4 * 2 ^ 36))) moving)
      (fun t => decide (t.tier.move.map (fun m => (m.target, m.todo)) = some (4, [6144]))) = true ∧
    nx (exec (.tierMoveCmd .mgmt (BitVec.ofNat 64 (2 + 2 ^ 4 + 4 * 2 ^ 36))) moving)
      (fun t => decide (t.tier.move = none) && bit (reg t .tier 0x08) 1) = true ∧
    nx (exec (.tierMoveCmd .mgmt (BitVec.ofNat 64 (2 + 3 * 2 ^ 4 + 4 * 2 ^ 36))) moving)
      (fun t => decide (t.tier.move = none) && bit (reg t .tier 0x08) 2) = true := by decide +kernel

def swap0 : SwapPlan := { region := 7, ref := 5, start := 0, frames := 1, bytesPerFrame := 1, outcome := none }

/-- The variant's image is empty; its digest is the SHA-256 of no bytes. -/
def swapping (digest : List Byte) : State :=
  let s := { tabled with adm := { tabled.adm with swaps := [swap0] } }
  { s with img := { s.img with
      image := some { parseImage smallImage with refs := [{ ref := 5, kind := 4, resident := true, bytes := 0, digest := digest }] },
      loaded := [(5, { loadedAt 4 0 with bytes := 0 })] } }

theorem test_swapComplete :
    let s := swapping (sha256 [])
    (s.adm.swaps.find? (fun w => decide (w.region = 7) && w.outcome.isNone && decide (w.start ≤ now s)) = some swap0 ∧
      swap0.start + swap0.frames ≤ now s + 1) ∧
    nx (exec (.swapComplete 7 .inTime) s) (fun t => decide (t.adm.swaps.map (·.outcome) = [some true] ∧ t.regs = s.regs)) = true ∧
    nx (exec (.swapComplete 7 .inTime) (swapping [1])) (fun t => decide (t.adm.swaps.map (·.outcome) = [some false])) = true ∧
    nx (exec (.swapComplete 7 .late) s) (fun t => decide (t.adm.swaps.map (·.outcome) = [some false] ∧ reg t .flash 0x48 = 1)) = true ∧
    nx (exec (.swapComplete 7 .failed) s) (fun t => decide (reg t .flash 0x50 = 1)) = true := by decide +kernel

theorem test_regWindow : (sessAt (hosted timed) 1 = some hostSession ∧ epPriv (hosted timed) 0 = true ∧
      blkOwner .mac = .management ∧ blkOwner .tier = .image ∧ inService (hosted timed) = false) ∧
    nx (exec (.regWindowRead 1 5 (regAddr .frame 0x08)) (hosted timed)) (fun t =>
      sent t (.msg 1 64 0x88 5 (zeros 8 ++ toLE 8 (readReg timed .frame 8).toNat) 0)) = true ∧
    nx (exec (.regWindowWrite 1 5 (regAddr .mac 0x20) 7) (hosted timed)) (fun t =>
      sent t (.msg 1 64 0x88 5 ([2] ++ zeros 15) 0) && decide (reg t .mac 0x20 = reg timed .mac 0x20)) = true ∧
    nx (exec (.regWindowWrite 1 5 (regAddr .tier 0x20) 7) (hosted timed)) (fun t =>
      sent t (.msg 1 64 0x88 5 (zeros 16) 0) && decide (reg t .tier 0x20 = 7)) = true := by decide +kernel

theorem test_macEnable : nx (exec (.macEnable 3) State.reset) (fun t => enabled t .mac && t.port.training &&
    decide (t.power.wakes = laneDomains.map (fun d => { domain := d, port := 0 }) ∧ tget t.nv.saved (regAddr .mac 0) = some 3)) = true := by decide +kernel

theorem test_pwrseqLimits :
    let w (lo hi : Nat) : Word := BitVec.ofNat 64 (lo + hi * 2 ^ 16)
    let off := setEnable State.reset .pwrseq false
    nx (exec (.pwrseqLimits (w 1000 3600)) off) (fun t => decide (fld t .pwrseq 0x10 0 12 = 1000 ∧
      fld t .pwrseq 0x10 16 12 = 3600)) = true ∧
    nx (exec (.pwrseqLimits (w 999 3600)) off) (fun t => bit (reg t .pwrseq 0x08) 1) = true ∧
    nx (exec (.pwrseqLimits (w 3000 3000)) off) (fun t => decide (fld t .pwrseq 0x10 0 12 = 3000)) = true ∧
    nx (exec (.pwrseqLimits (w 3001 3600)) off) (fun t => bit (reg t .pwrseq 0x08) 1) = true ∧
    nx (exec (.pwrseqLimits (w 1001 1000)) off) (fun t => bit (reg t .pwrseq 0x08) 1) = true ∧
    nx (exec (.pwrseqLimits (w 1000 3601)) off) (fun t => bit (reg t .pwrseq 0x08) 1) = true := by decide +kernel

theorem test_belfryAck :
    let s := { timed with belfry := { timed.belfry with unacked := [4, 5] }, pins := { timed.pins with fltLow := true } }
    nx (exec (.belfryAck 5) s) (fun t => decide (t.belfry.unacked = []) && !t.pins.fltLow) = true ∧
    nx (exec (.belfryAck 4) s) (fun t => decide (t.belfry.unacked = [5]) && t.pins.fltLow) = true := by decide +kernel

/-! ### Flash -/

/-- A module in service on port 7. -/
def module7 : Module := { newModule 77 50 0 [] with restoring := false, firstUse := false }

/-- Storage queue 0 is the management path's; namespace 1 of 64 granules lies on the module of port 7. -/
def ns1 : Namespace :=
  { size := 1048576, owner := 2, readers := 0, serials := [77], state := .active, visits := [], sinceCursor := [] }

def flashOf (x : Module) (n : Namespace) (cmds : List Outstanding) : State :=
  let s := hosted tabled
  { s with flash := { s.flash with modules := [(7, x)], nss := [(1, n)], cmds := cmds, nextOrder := 9, queues := [(0, 0xFF)],
                                   data := memWrite [] (2 ^ 58 + 16384) [3, 4] } }

def flash0 : State := flashOf module7 ns1 []

def stor : StorCmd := { queue := 0, tag := 5, nsid := 1, offset := 16384, length := 2, arg0 := 1, arg1 := 0, reservedZero := true }

/-- The head of a completion record of queue 0, tag 5. -/
def storSent (t : State) (status nsid result info : Nat) (d : List Byte) : Bool :=
  sent t (.msg 1 0 0x89 0 (toLE 2 5 ++ toLE 1 status ++ toLE 1 0 ++ toLE 1 nsid ++ zeros 3 ++ toLE 8 result ++ toLE 8 info ++
    zeros 8 ++ d) 0)

theorem wit_stor : queueOwner flash0 0 = some 1 ∧ sessAt flash0 1 = some hostSession ∧
    (tget hostSession.queues 0).isSome = true ∧ outstandingOf flash0 0 < 4096 ∧ cmdAt flash0 0 5 = none ∧
    [1, 2, 3, 4, 5, 6, 7, 8, 9, 10].all (fun op => (queueRefusal flash0 0 op).isNone) = true ∧
    nsRefusal flash0 1 true = none ∧ nsPermits flash0 0 ns1 true = true ∧ portsReady flash0 (nsPorts flash0 ns1) = true := by
  decide +kernel

/-- Granule 1 is mapped. -/
def flash1 : State := flashOf { module7 with map := [(gkey 1 1, loc (place 1 1).2 8 0)] } ns1 []

theorem test_read : gMapped flash1 1 ns1 1 = true ∧
    nx (exec (.read stor) flash0) (fun t => storSent t 0 1 2 0 [3, 4] && decide (t.flash.cmds = [])) = true ∧
    nx (exec (.read stor) flash1) (fun t => decide (t.flash.cmds.map (fun c => (c.op, c.started)) = [(1, true)] ∧
      t.out = flash1.out)) = true ∧
    nx (exec (.read { stor with offset := 1048575 }) flash0) (fun t => storSent t 5 1 0 0 []) = true := by decide +kernel

theorem wit_write : (List.replicate 16384 (0 : Byte)).length = 16384 ∧ granulesOf 16384 16384 = [1] ∧
    bufferRoom flash0 1 ns1 1 = true ∧
    portsReady flash0 (asSet ([1].filterMap (fun g => (placeOf flash0 ns1 g).map (·.1)))) = true := by
  refine ⟨List.length_replicate, ?_⟩; decide +kernel

theorem test_trim : nx (exec (.trim stor) flash1) (fun t => storSent t 0 1 1 0 [] &&
    decide (t.flash.data = [] ∧ mapped t 7 1 1 = none)) = true := by decide +kernel

theorem test_flush : nx (exec (.flush stor) flash0) (fun t => storSent t 0 1 0 0 [] && decide (t.flash.cmds = [])) = true := by
  decide +kernel

def create : StorCmd := { stor with nsid := 0xFF, arg0 := 32768, arg1 := 3 + 4 * 256 + 128 * 2 ^ 24 }

theorem test_nsCreate : (createId flash0 0xFF = .inr 0 ∧ createSet flash0 128 = .inr [7] ∧ portsReady flash0 [7] = true ∧
      2 ≤ unreserved flash0 77) ∧
    nx (exec (.nsCreate create) flash0) (fun t => storSent t 0 0 0 0 [] &&
      decide ((nsAt t 0).map (fun n => (n.size, n.owner, n.readers, n.serials)) = some (32768, 3, 4, [77]))) = true := by
  decide +kernel

theorem test_nsDelete : nx (exec (.nsDelete stor) flash1) (fun t => decide ((nsAt t 1).map (·.state) = some .deleting ∧
    (nsAt t 1).map (·.visits) = some [((place 1 1).2, [8])] ∧ t.out = flash1.out ∧ t.flash.cmds.length = 1)) = true := by
  decide +kernel

theorem test_identify : nx (exec (.identify { stor with arg0 := 0 }) flash0) (fun t => storSent t 0 1 128 0 (tierRecord flash0)) = true ∧
    nx (exec (.identify stor) flash0) (fun t => storSent t 0 1 64 0 (nsRecord flash0 1)) = true := by decide +kernel

/-- A command of tag 1 waits, or has started. -/
def waitsCmd (op : Nat) (started : Bool) (left : List (Nat × Option (List Byte))) : Outstanding :=
  { cmd := stor, op := op, started := started, left := left, session := 1, seq := 2, order := 2, nsid := 1 }

theorem test_abort :
    nx (exec (.abort { stor with tag := 6, arg0 := 5 }) (flashOf module7 ns1 [waitsCmd 1 false []])) (fun t =>
      decide (t.flash.cmds = []) && storSent t 10 1 0 0 []) = true ∧
    nx (exec (.abort { stor with tag := 6, arg0 := 5 }) (flashOf module7 ns1 [waitsCmd 1 true []])) (fun t =>
      decide (t.flash.cmds.length = 1)) = true ∧
    nx (exec (.abort { stor with arg0 := 6 }) flash0) (fun t => storSent t 0 1 2 0 []) = true := by decide +kernel

theorem test_getLog : modUsable module7 = true ∧
    nx (exec (.getLog { stor with arg0 := 1 + 7 * 256 }) flash0) (fun t => storSent t 0 1 64 0 (mediaHealth module7)) = true := by
  decide +kernel

theorem test_setPower : nx (exec (.setPower { stor with arg0 := 128 + 256 }) (flashOf { module7 with pstate := 2 } ns1 []))
    (fun t => storSent t 0 1 0 0 [] && decide ((modAt t 7).map (fun x => (x.psLimit, x.waking)) = some (1, true) ∧
      t.power.wakes = flash0.power.wakes ++ [{ domain := 78, port := 7 }])) = true := by decide +kernel

theorem test_mediaReadComplete :
    let s := flashOf { module7 with map := [(gkey 1 1, loc (place 1 1).2 8 0)] } ns1 [waitsCmd 1 true []]
    nx (exec (.mediaReadComplete 0 5 none) s) (fun t => storSent t 0 1 2 0 [3, 4] && decide (t.flash.cmds = [])) = true ∧
    nx (exec (.mediaReadComplete 0 5 (some 1)) s) (fun t => storSent t 9 1 0 16384 [] && decide (reg t .flash 0x50 = 1)) = true := by
  decide +kernel

/-- The READ started; granule 1 is mapped; its CRC is that of other bytes. -/
def reading (seals : Table Seal) : State :=
  let s := flashOf { module7 with map := [(gkey 1 1, loc (place 1 1).2 8 0)] } ns1 [waitsCmd 1 true []]
  { s with flash := { s.flash with seals := seals } }

theorem wit_mediaRead : mediaGranules (reading []) stor = [1] ∧ readsAhead (reading []) (waitsCmd 1 true []) = [] ∧
    sealOk (reading []) 1 1 = true := by decide +kernel

theorem wit_sealBroken (crc : Nat) (h : crc ≠ pageCrc (granuleOf (reading [(gkey 1 1, { seq := 0, crc := crc })]) 1 1) 1 1 0) :
    sealOk (reading [(gkey 1 1, { seq := 0, crc := crc })]) 1 1 = false := by
  have e : tget (reading [(gkey 1 1, { seq := 0, crc := crc })]).flash.seals (gkey 1 1) = some { seq := 0, crc := crc } := by
    simp [reading, tget]
  rw [sealOk, e]
  exact decide_eq_false h

theorem wit_planeQueue :
    let s := flashOf module7 ns1 [waitsCmd 2 true [(1, some [7, 8])]]
    (planeQueue s 7 (place 1 1).2).head?.map (fun w => (w.1.cmd.queue, w.1.cmd.tag, w.2)) = some (0, 5, 1) ∧
    placeOf s ns1 1 = some (7, (place 1 1).2) := by decide +kernel

theorem test_granuleProgramComplete :
    let s := flashOf module7 ns1 [waitsCmd 2 true [(1, some [7, 8])]]
    (openBuffer (planeAt module7 (place 1 1).2) (writeClass module7 1 1)).map (·.1) = some 8 ∧
    nx (exec (.granuleProgramComplete 0 5 1 true) s) (fun t => storSent t 0 1 2 0 [] &&
      decide (t.flash.data = memWrite [] (2 ^ 58 + 16384) [7, 8] ∧ mapped t 7 1 1 = some (loc (place 1 1).2 8 0) ∧
        reg t .flash 0x28 = 1 ∧ reg t .flash 0x30 = 1)) = true := by decide +kernel

theorem test_nsDeleteEnd :
    nx (exec (.nsDeleteEnd 1) (flashOf module7 { ns1 with state := .deleting } [waitsCmd 7 true []])) (fun t =>
      decide (nsAt t 1 = none ∧ t.flash.data = [] ∧ t.flash.cmds = []) && storSent t 0 1 0 0 []) = true := by decide +kernel

/-- Block `b` of plane 255 in a state, with pages and erases. -/
def plane255 (l : List (Nat × FlashBlock)) : Plane :=
  { blocks := l, bad := [], fold := none, retired := 0, exhausted := false, collecting := false }
def blk (role : BlockRole) (st : BlockState) (erases : Nat) (pages : List (Option Nat)) : FlashBlock :=
  { role := role, oneBit := decide (role ≠ .qlc), erases := erases, state := st, cls := 0, pages := pages, age := 0 }
def moduleP (y : Plane) (map : Table Nat) : Module := { module7 with planes := [(255, y)], map := map }

theorem test_blockErase :
    let s (e : Nat) := flashOf (moduleP (plane255 [(2483, blk .qlc .erasing e [])]) []) ns1 []
    nx (exec (.blockEraseComplete 7 255 2483 true) (s 1498)) (fun t => decide (((modAt t 7).bind (fun x =>
      blockAt (planeAt x 255) 2483)).map (fun k => (k.erases, k.state)) = some (1499, .free))) = true ∧
    nx (exec (.blockEraseComplete 7 255 2483 true) (s 1499)) (fun t => decide (((modAt t 7).bind (fun x =>
      blockAt (planeAt x 255) 2483)).map (fun k => (k.erases, k.state)) = some (1500, .retired))) = true ∧
    nx (exec (.blockEraseComplete 7 255 2483 false) (s 0)) (fun t => decide (((modAt t 7).bind (fun x =>
      blockAt (planeAt x 255) 2483)).map (fun k => (k.erases, k.state)) = some (1, .retired))) = true := by decide +kernel

/-- Four closed HOT buffer blocks, of which block 8 holds granule 9 of namespace 1. -/
def foldPlane : Plane :=
  plane255 [(8, blk .buffer .closed 0 [some (gkey 1 9)]), (9, blk .buffer .closed 0 []), (10, blk .buffer .closed 0 []),
            (11, blk .buffer .closed 0 [])]
def foldModule : Module := moduleP foldPlane [(gkey 1 9, loc 255 8 0)]

theorem test_foldCommit :
    let y := { foldPlane with
      fold := some { cls := 0, target := 68, sources := [8, 9, 10, 11], granules := [(gkey 1 9, loc 255 8 0)] } }
    nx (exec (.foldCommit 7 255) (flashOf { foldModule with planes := [(255, y)] } ns1 [])) (fun t =>
      decide ((modAt t 7).map (·.map) = some [(gkey 1 9, loc 255 68 0)] ∧ reg t .flash 0x38 = 3072)) = true := by
  decide +kernel

/-- The blocks of a plane whose blocks below 2,482 are bad. -/
theorem lastBlocks (y : Plane) (hy : y.bad = List.range 2482) (p : FlashBlock → Bool) :
    blocksWhere y p = [2482, 2483].filterMap (fun b =>
      match blockAt y b with
      | some k => if p k then some (b, k) else none
      | none => none) := by
  have e : List.range 2484 = List.range 2482 ++ [2482, 2483] := List.range_add (n := 2482) (m := 2)
  have h : ∀ b ∈ List.range 2482, blockAt y b = none := by
    intro b hb
    rw [blockAt, if_pos]
    rw [hy]
    exact .inr (List.contains_iff_mem.2 hb)
  unfold blocksWhere
  rw [e, List.filterMap_append]
  clear hy e
  generalize List.range 2482 = l at h ⊢
  refine (congrArg (· ++ _) (List.filterMap_eq_nil_iff.2 ?_)).trans ?_
  · intro b hb
    rw [h b hb]
  · rfl

theorem lastBlock (y : Plane) (hy : y.bad = List.range 2482) (b : Nat) (hb : 2482 ≤ b) (hc : b < 2484) :
    blockAt y b = some (tgetD y.blocks b (factoryBlock y b)) := by
  rw [blockAt, if_neg]
  rw [hy, List.contains_iff_mem, List.mem_range]
  omega

/-- The last two blocks of plane 255 are good: a closed QLC block that holds granule 9 and one to be erased. -/
def gcPlane : Plane :=
  { plane255 [(2482, blk .qlc .closed 0 [some (gkey 1 9), none]), (2483, blk .qlc .erasing 0 [])] with
    collecting := true, bad := List.range 2482 }

theorem gcPlane_bad : gcPlane.bad = List.range 2482 := by simp only [gcPlane]

theorem gcPlane_blocks : blockAt gcPlane 2482 = some (blk .qlc .closed 0 [some (gkey 1 9), none]) ∧
    blockAt gcPlane 2483 = some (blk .qlc .erasing 0 []) :=
  ⟨lastBlock gcPlane gcPlane_bad 2482 (by decide) (by decide), lastBlock gcPlane gcPlane_bad 2483 (by decide) (by decide)⟩

theorem wit_garbageCollection :
    (freeOf gcPlane .qlc).length < gcHigh flash0 ∧ gcPlane.collecting = true ∧
    gcVictim flash0 (moduleP gcPlane []) 255 = some 2482 := by
  have h : planeAt (moduleP gcPlane []) 255 = gcPlane := rfl
  refine ⟨?_, rfl, ?_⟩
  · rw [freeOf, lastBlocks gcPlane gcPlane_bad, show gcHigh flash0 = 16 from by decide +kernel]
    simp [gcPlane_blocks, blk]
  · simp only [gcVictim, h, lastBlocks gcPlane gcPlane_bad, gcPlane_blocks, List.filterMap_cons, List.filterMap_nil]
    decide

/-- The last two blocks of plane 255 are good: a closed HOT buffer block that holds granule 9, and a free QLC block. -/
def foldPlane2 : Plane :=
  { plane255 [(2482, blk .buffer .closed 0 [some (gkey 1 9)]), (2483, blk .qlc .free 0 [])] with bad := List.range 2482 }

theorem foldPlane2_bad : foldPlane2.bad = List.range 2482 := by simp only [foldPlane2]

theorem foldPlane2_blocks : blockAt foldPlane2 2482 = some (blk .buffer .closed 0 [some (gkey 1 9)]) ∧
    blockAt foldPlane2 2483 = some (blk .qlc .free 0 []) :=
  ⟨lastBlock foldPlane2 foldPlane2_bad 2482 (by decide) (by decide), lastBlock foldPlane2 foldPlane2_bad 2483 (by decide) (by decide)⟩

theorem wit_foldStart : foldPlane2.fold = none ∧ foldDue foldPlane2 0 = true ∧
    leastWorn (freeOf foldPlane2 .qlc) = some (2483, blk .qlc .free 0 []) := by
  refine ⟨rfl, ?_, ?_⟩
  · simp only [foldDue, closedBuffer, freeOf, lastBlocks foldPlane2 foldPlane2_bad, foldPlane2_blocks, List.filterMap_cons,
      List.filterMap_nil]
    decide
  · simp only [freeOf, lastBlocks foldPlane2 foldPlane2_bad, foldPlane2_blocks, List.filterMap_cons, List.filterMap_nil]
    decide

theorem test_checkpoint : nx (exec (.checkpoint 7) (flashOf (journal module7 .map 1 2 3 4) ns1 [])) (fun t =>
    decide ((modAt t 7).map (fun x => (x.journal, x.checkpoints)) = some ([], 2))) = true := by decide +kernel

theorem test_heatHalving :
    let x := { module7 with heat := [(5, 1), (6, 255)], granuleWrites := 1048576 }
    nx (exec (.heatHalving 7) (flashOf x ns1 [])) (fun t => decide ((modAt t 7).map (fun x => (x.heat, x.halvings)) =
      some ([(6, 127)], 1))) = true ∧ 1048576 * (x.halvings + 1) ≤ x.granuleWrites := by decide +kernel

theorem test_idleTimer : (idleMs flash0 3 ≠ 0 ∧ t2Reserved flash0 = false ∧ modIdle flash0 7 module7 = true) ∧
    nx (exec (.idleTimer 7 3) flash0) (fun t => decide ((modAt t 7).map (·.pstate) = some 3)) = true := by decide +kernel

theorem test_moduleWake : nx (exec (.moduleWake 7) (flashOf { module7 with pstate := 3, waking := true } ns1 []))
    (fun t => decide ((modAt t 7).map (fun x => (x.pstate, x.waking)) = some (0, false))) = true := by decide +kernel

theorem test_moduleLost : nx (exec (.moduleLost 7) flash0) (fun t => decide ((modAt t 7).map (·.failed) = some true ∧
    t.flash.nss = flash0.flash.nss) && bit (reg t .flash 0x08) 1) = true := by decide +kernel

theorem test_flashRestoreComplete :
    nx (exec (.flashRestoreComplete 7) (flashOf { module7 with restoring := true, firstUse := true } ns1 [])) (fun t =>
      decide ((modAt t 7).map (·.restoring) = some false) && bit (reg t .flash 0x08) 2) = true := by decide +kernel

/-! ### The port, sessions, contexts -/

theorem test_linkUp : nx (exec .linkUp { timed with port := { timed.port with training := true } }) (fun t => t.port.up &&
    !t.port.training && bit (reg t .mac 0x08) 1) = true := by decide +kernel

theorem test_linkDown : nx (exec .linkDown (hosted timed)) (fun t => !t.port.up && t.port.training &&
    bit (reg t .mac 0x08) 2 && decide (t.port.sessions.length = 1)) = true := by decide +kernel

/-- The device's addresses: IPv4 7, IPv6 2^64 + 9. -/
def addressed : State := setReg (setReg (setReg (hosted timed) .mac 0x20 7) .mac 0x28 1) .mac 0x30 9

theorem test_arp : nx (exec (.arpRequest 7 5 6) addressed) (fun t => decide (t.out = [.arpReply 5 6] ∧ reg t .mac 0x48 = 1)) = true ∧
    nx (exec (.arpRequest 8 5 6) addressed) (fun t => decide (t.out = [] ∧ reg t .mac 0x58 = 1)) = true ∧
    nx (exec (.arpRequest 0 5 6) (hosted timed)) (fun t => decide (t.out = [])) = true := by decide +kernel

theorem test_neighborSolicitation :
    nx (exec (.neighborSolicitation (2 ^ 64 + 9) 5) addressed) (fun t => decide (t.out = [.neighborAdvert 5 (2 ^ 64 + 9)])) = true ∧
    nx (exec (.neighborSolicitation 9 5) addressed) (fun t => decide (t.out = []) && bit (reg t .mac 0x08) 4) = true := by
  decide +kernel

theorem test_receiveError : nx (exec (.receiveError .badFcs) addressed) (fun t => decide (reg t .mac 0x60 = 1 ∧ t.belfry.seq = 1)) = true ∧
    nx (exec (.receiveError .fecUncorrected) addressed) (fun t => decide (reg t .mac 0x70 = 1) && bit (reg t .mac 0x08) 3) = true ∧
    nx (exec (.receiveError (.fecCorrected 5)) addressed) (fun t => decide (reg t .mac 0x68 = 5 ∧ t.belfry.seq = 0)) = true ∧
    nx (exec (.receiveError .outside) addressed) (fun t => decide (reg t .mac 0x58 = 1)) = true ∧
    nx (exec (.receiveError .pause) addressed) (fun t => bit (reg t .mac 0x08) 4) = true := by decide +kernel

/-- Endpoint, fields and data of a packet sent. -/
def payload : Out → Nat × List Byte × List Byte
  | .packet e _ header data => (e, header.take 28, data)
  | _ => (0, [], [])

theorem test_beacon : nx (exec .beacon (hosted timed)) (fun t => decide
      (t.out.map payload = [(0, tytosFields 5 0 0 8 0 false, zeros 8)])) = true ∧
    nx (exec .beacon timed) (fun t => decide (t.out = [])) = true := by decide +kernel

/-- An unprotected packet with a header of the given fields, completed by its CRC. -/
def packetIn (e : Nat) (fields data : List Byte) : PacketIn :=
  { endpoint := e, ce := false, stamp := 8, header := withCrc fields data, wire := data, tagOk := true, plain := [] }

/-- The fields of a packet of session 1 on queue 64: VERSION 1, KIND, LENGTH, SEQ. -/
def fields64 (kind len seqHi seqLo : Byte) : List Byte :=
  [1, kind, 0, 0, 0, 0, 0, 1, 0, 64, 0, len, 0, 0, seqHi, seqLo] ++ zeros 12

/-- The first packet of queue 64: a message of 24 bytes in all, of which 20 here. -/
def data0 : List Byte := toLE 4 6 ++ toLE 4 24 ++ toLE 8 3 ++ zeros 4
def packet0 : PacketIn := packetIn 0 (fields64 0 20 0 0) data0

theorem wit_packet : (packet0.kind, packet0.session, packet0.queue, packet0.seq) = (0, 1, 64, 0) ∧
    packet0.protectedFlag = false ∧ packet0.formOk = true ∧ packet0.crcOk = true := by decide +kernel

def link1 : State := hosted timed

theorem test_data : (carries link1 = true ∧ sessAt link1 1 = some hostSession ∧ tget hostSession.queues 64 = some (newQueue 64) ∧
      sessionOf link1 packet0 = some 1) ∧
    nx (exec (.data packet0) link1) (fun t => decide (((sessAt t 1).bind (fun x => tget x.queues 64)).map
      (fun y => (y.rxNext, y.rxStream, y.rxSinceAck)) = some (1, data0, 1)) && decide (reg t .mac 0x48 = 1)) = true := by
  decide +kernel

/-- BIND_QUEUE whole: 16 bytes of header, 8 of body. -/
def bindMsg : List Byte := toLE 4 6 ++ toLE 4 24 ++ toLE 8 3 ++ [3, 255, 0, 0, 0, 0, 0, 0]

theorem test_data_message :
    (rejectReason link1 hostSession 64 bindMsg = none ∧ fieldLE bindMsg 4 4 = bindMsg.length) ∧
    nx (exec (.data (packetIn 0 (fields64 0 24 0 0) bindMsg)) link1) (fun t => decide (t.port.delivered =
      [{ session := 1, queue := 64, type := 6, tag := 3, stamp := 8 }] ∧
      ((sessAt t 1).bind (fun x => tget x.queues 64)).map (·.rxStream) = some [])) = true := by decide +kernel

theorem test_data_ahead :
    nx (exec (.data (packetIn 0 (fields64 0 20 3 255) data0)) link1) (fun t => decide (((sessAt t 1).bind (fun x => tget x.queues 64)).map
      (fun y => (y.rxHeld, y.rxNext)) = some ([(1023, data0)], 0) ∧ t.out.length = 1)) = true ∧
    nx (exec (.data (packetIn 0 (fields64 0 20 4 0) data0)) link1) (fun t => bit (reg t .tytos 0x08) 2 && decide (t.out = [])) = true ∧
    nx (exec (.data { packet0 with wire := 7 :: data0.drop 1 }) link1) (fun t => bit (reg t .tytos 0x08) 5 &&
      decide (reg t .tytos 0x48 = 1)) = true := by decide +kernel

/-- Queue 64 has sent packets 0 to 2, none acknowledged, and received 3 since its last ACK. -/
def pkt (r : Nat) : TxPacket := { data := [1, 2], retries := r, fast := false, protectedFlag := false }
def busy : State :=
  let y := { newQueue 64 with tx := [(0, pkt 15), (1, pkt 0), (2, pkt 0)], txNext := 3, txLimit := 4, rxNext := 7, rxSinceAck := 3 }
  setSess link1 1 { hostSession with queues := tset hostSession.queues 64 y }

/-- An ACK of NEXT 2, LIMIT 9, without SACK, with ECE. -/
def ack2 : PacketIn := packetIn 0 (fields64 1 24 0 0) (toLE 4 2 ++ toLE 4 9 ++ zeros 12 ++ [1, 0, 0, 0])

theorem test_ack : nx (exec (.ack ack2) busy) (fun t => decide ((sessAt t 1).map (fun x => (x.rateMbps, x.halved)) = some (800000, true) ∧
    ((sessAt t 1).bind (fun x => tget x.queues 64)).map (fun y => (y.txAcked, y.txLimit, y.tx)) = some (2, 9, [(2, pkt 0)]))) = true := by
  decide +kernel

theorem test_ackDelay : nx (exec (.ackDelay 1 64) busy) (fun t => decide (t.out.map payload =
    [(0, fields64 1 24 0 0, toLE 4 7 ++ toLE 4 1031 ++ zeros 8 ++ zeros 4 ++ zeros 4)])) = true := by decide +kernel

theorem test_rtoExpiry : (carries busy = true ∧ fld busy .tytos 0x18 16 4 ≤ 15) ∧
    nx (exec (.rtoExpiry 1 64 1) busy) (fun t => decide (t.out.map payload = [(0, fields64 0 2 0 1, [1, 2])] ∧ reg t .tytos 0x28 = 1)) = true ∧
    nx (exec (.rtoExpiry 1 64 0) busy) (fun t => decide (sessAt t 1 = none) && bit (reg t .tytos 0x08) 1) = true := by
  decide +kernel

theorem test_linkHoldExpiry :
    nx (exec (.linkHoldExpiry 1) { busy with port := { busy.port with up := false } }) (fun t => decide (sessAt t 1 = none) &&
      bit (reg t .tytos 0x08) 1) = true := by decide +kernel

theorem test_rateIncrease :
    let s := setSess busy 1 { hostSession with rateMbps := 1590000, ece := true, halved := true }
    nx (exec (.rateIncrease 1) s) (fun t => decide ((sessAt t 1).map (fun x => (x.rateMbps, x.ece, x.halved)) =
      some (1600000, false, false))) = true := by decide +kernel

/-- Endpoint 63 is a device, endpoint 62 a host; neighbour record 0 names endpoint 63. -/
def ends : State :=
  let s := setReg link1 .tytos (0x1010 + 32 * 62) (BitVec.ofNat 64 (2 ^ 48))
  let s := setReg (setReg s .tytos (0x1010 + 32 * 63) (BitVec.ofNat 64 (2 ^ 48 + 2 ^ 50))) .tier 0x300 (BitVec.ofNat 64 (63 + 2 ^ 36))
  { s with dev := .ivory, power := { s.power with phase := 0 } }

theorem wit_openSession : carries ends = true ∧ epValid ends 62 = true ∧ openedBy ends 62 = none ∧ epDevice ends 62 = false ∧
    ends.port.sessions.length < 64 ∧ freeMsgq ends 16 = some 66 ∧ (freeStorqs ends 63).map (·.head?) = some (some 1) := by
  decide +kernel

theorem wit_openPacket :
    let p := packetIn 62 ([1, 2, 0, 0, 0, 0, 0, 0, 0, 0, 0, 8] ++ zeros 16) [16, 63, 0, 0, 0, 0, 0, 0]
    p.kind = 2 ∧ p.ce = false ∧ p.crcOk = true ∧ p.formOk = true ∧ p.protectedFlag = false ∧ p.session = 0 ∧ p.queue = 0 ∧
    zeroRange p.data 2 6 = true ∧ fieldLE p.data 0 1 = 16 ∧ fieldLE p.data 1 1 = 63 := by decide +kernel

theorem test_openReply :
    let p := packetIn 63 ([1, 3, 0, 0, 0, 0, 0, 5, 0, 0, 0, 16] ++ zeros 16) ([0, 0, 70, 0] ++ zeros 12)
    nx (exec (.openReply 63 false p.header p.wire) { ends with port := { ends.port with opening := [63] } }) (fun t =>
      decide (t.port.opening = [] ∧ sessAt t (mineKey 63 5) = some (newSession 63 true 70 2 []))) = true := by decide +kernel

theorem test_neighbourOpen : (serving ends = true ∧ epDevice ends 63 = true ∧ neighbourOf ends 63 = some 0 ∧ mineTo ends 63 = none) ∧
    nx (exec (.neighbourOpen 63) ends) (fun t => decide (t.out.map payload = [(63, tytosFields 2 0 0 8 0 false, toLE 1 2 ++ zeros 7)] ∧ t.port.opening = [63])) = true := by
  decide +kernel

/-- Session 1 holds context 2, of a device in Ivory whose image serves contexts 2 and 15. -/
def contexts : State :=
  let q (c : Nat) : QuotaRec := { ctx := c, t0 := 0, t1 := 0, t2 := 0, t3 := 0 }
  let s := hosted tabled
  { s with img := { s.img with image := some { progImage with quotas := [q 2, q 15] } },
           nv := { s.nv with grants := [(2, (1, false)), (15, (1, false))] } }

theorem test_closePacket : nx (exec (.closePacket (packetIn 0 (fields64 4 0 0 0) [])) contexts) (fun t => decide (sessAt t 1 = none ∧
    (ctxAt t 2).map (·.owner) = some none) && bit (reg t .ctx 0x00) 2) = true := by decide +kernel

theorem test_openContext : (hasQuota contexts 15 = true ∧ serving contexts = true ∧ bit (grantOf contexts 15).1 0 = true ∧
      ctxAt contexts 15 = none) ∧
    nx (exec (.openContext 1 8 15) contexts) (fun t => decide ((ctxAt t 15).map (fun k => (k.state, k.owner)) = some (.opened, some 1)) &&
      bit (reg t .ctx 0x00) 1 && sent t (.msg 1 64 0x86 8 ([1, 15, 0, 0, 0] ++ zeros 11) 0)) = true ∧
    nx (exec (.openContext 1 8 2) { contexts with sec := { contexts.sec with ctxs := [(2, { ctx2 with owner := none, aged := true })] } })
      (fun t => decide ((ctxAt t 2) = some ctx2)) = true := by decide +kernel

theorem test_closeContext : nx (exec (.closeContext 1 8 2) contexts) (fun t => decide ((ctxAt t 2).map (fun k => (k.closing, k.replies)) =
    some (true, [(1, 8)]))) = true := by decide +kernel

theorem test_bindQueue : nx (exec (.bindQueue 1 8 0xFF 0) contexts) (fun t => decide (tget t.flash.queues 0 = some 0xFF) &&
      sent t (.msg 1 64 0x86 8 ([3, 255, 0, 0, 0] ++ zeros 11) 0)) = true ∧
    nx (exec (.bindQueue 1 8 2 0) contexts) (fun t => decide (tget t.flash.queues 0 = some 2)) = true := by decide +kernel

def submission : SubmitBody :=
  { ctx := 2, elastic := false, prio := 0, pipeline := 4, deadline := 50, search := none, gen := none, input := [] }

theorem test_submit : nx (exec (.submit 1 65 8 submission) contexts) (fun t => decide (t.adm.subs.map (fun x => (x.queue, x.tag)) = [(65, 8)])) = true ∧
    nx (exec (.submit 1 65 8 submission) link1) (fun t => sent t (.msg 1 65 0x82 8 ([7] ++ zeros 15) 0) && decide (t.adm.subs = [] ∧
      reg t .admission 0x18 = 1)) = true := by decide +kernel

/-! ### Attestation, scrubs, Belfry -/

/-- The identity is whole. -/
def identified : State := { link1 with sec := { link1.sec with boot := { link1.sec.boot with identityOk := true } } }

theorem wit_spdm : sessAt identified 1 = some hostSession ∧ (tget hostSession.queues hostSession.firstMsgq).isSome = true ∧
    hostSession.finishRsp = none ∧ identified.sec.boot.identityOk = true ∧ hostSession.spdm.exchanged = false := by decide +kernel

theorem test_getVersion : nx (exec (.getVersion 1 8) identified) (fun t => decide ((sessAt t 1).map (·.spdm.version) = some true) &&
    sent t (.msg 1 64 0x8A 8 ([0x10, 4, 0, 0, 0, 1, 0, 0x12]) 0)) = true := by decide +kernel

theorem test_finish :
    let x := { hostSession with spdm := { hostSession.spdm with exchanged := true } }
    nx (exec (.finish 1 8 true) (setSess identified 1 x)) (fun t => decide ((sessAt t 1).map (fun x => (x.rxProtected, x.keys, x.spdm.established)) =
      some (true, false, true) ∧ reg t .crypto 0x28 = 1) && sent t (.msg 1 64 0x8A 8 [0x12, 0x65, 0, 0] 0)) = true := by decide +kernel

def orphan (left : Nat) (st : CtxState) : State :=
  { link1 with sec := { link1.sec with ctxs := [(15, { ctx2 with owner := none, state := st, left := left })] },
               tier := { link1.tier with t1 := [(14 * 2 ^ 64, 5), (15 * 2 ^ 64, 6), (16 * 2 ^ 64 - 1, 7), (16 * 2 ^ 64, 8)] } }

theorem test_orphanTimeout : nx (exec (.orphanTimeout 15) (orphan 0 .opened)) (fun t => decide ((ctxAt t 15).map (·.aged) = some true)) = true := by
  decide +kernel

theorem test_contextScrubComplete : nx (exec (.contextScrubComplete 15) (orphan 0 .slate)) (fun t => decide (ctxAt t 15 = none ∧
    t.tier.t1 = [(14 * 2 ^ 64, 5), (16 * 2 ^ 64, 8)]) && bit (reg t .ctx 0x00) 3) = true := by decide +kernel

/-- A management link of operator 1. -/
def mlink : Link := { authed := true, slot := 1, key := [], challenge := [], ephemeral := [], seq := 32, cache := (0, 0, []) }

def slating : State :=
  { orphan 0 .slate with dev := .slate, sec := { (orphan 0 .slate).sec with scrub := some 5, scrubReply := some (0, 33) },
                         lantern := { link1.lantern with links := [(0, mlink)] } }

theorem wit_slating : slating.dev = .slate ∧ slating.sec.scrub = some 5 ∧ serving slating = false := by decide +kernel

theorem test_wholeDeviceScrub : (fun t : State => decide (t.dev = .sable ∧ t.sec.ctxs = [] ∧
    t.tier.t1 = [] ∧ t.sec.scrub = none) && bit (reg t .ctx 0x00) 4 && sent t (.mgmt 0 0x22 0 33 []))
    (finishScrub [] [] [] slating) = true := by decide +kernel

theorem test_linkCrc : unitExists (.tile 639) = true ∧
    nx (exec (.linkCrc (.tile 639) true false) link1) (fun t => decide (reg t .belfry 0x38 = 1 ∧ t.belfry.seq = 1)) = true ∧
    nx (exec (.linkCrc (.tile 639) true true) link1) (fun t => decide ((tileAt t 639).inService = false ∧ t.dev = .sable) && t.pins.fltLow) = true ∧
    nx (exec (.linkCrc (.tile 639) false true) link1) (fun t => decide (t.dev = .vermilion) && t.pins.fltLow && !t.pins.rdy) = true ∧
    nx (exec (.linkCrc (.keepBase 31) true true) link1) (fun t => decide (t.dev = .vermilion)) = true := by decide +kernel

theorem test_detections : nx (exec .lockstep ivory) (fun t => decide (t.dev = .vermilion) && !t.pins.rdy && t.belfry.gateClosed) = true ∧
    nx (exec (.belfryHalfHeartbeat true) ivory) (fun t => decide (t.dev = .vermilion)) = true ∧
    nx (exec (.belfryHalfHeartbeat false) ivory) (fun t => decide (t = ivory)) = true ∧
    nx (exec (.audit true) ivory) (fun t => decide (t.dev = .vermilion)) = true ∧
    nx (exec (.audit false) ivory) (fun t => decide (t.dev = .ivory ∧ t.adm.auditCopy = [])) = true := by decide +kernel

theorem test_fltNMinimumEnd :
    let s (n : Nat) (l : List Nat) := { timed with belfry := { timed.belfry with minimums := n, unacked := l }, pins := { timed.pins with fltLow := true } }
    nx (exec .fltNMinimumEnd (s 1 [])) (fun t => !t.pins.fltLow && decide (t.belfry.minimums = 0)) = true ∧
    nx (exec .fltNMinimumEnd (s 2 [])) (fun t => t.pins.fltLow) = true ∧
    nx (exec .fltNMinimumEnd (s 1 [3])) (fun t => t.pins.fltLow) = true := by decide +kernel

/-- The network of tile 639 tested on the FP32 keys 1.0 and −2.0. -/
def network (got : List Byte) : TestItem := .selectionNetwork 639 0 false 8 [0x3F800000, 0xC0000000] got
def networkGot : List Byte := networkRecord 0 false 8 [0x3F800000, 0xC0000000]

theorem test_selfTest_network : (itemExists (network networkGot) = true ∧ itemAgrees (network networkGot) = true ∧
      itemAgrees (network []) = false) ∧
    nx (exec (.selfTest (network networkGot) true 70000 true) timed) (fun t => decide (fld t .belfry 0x40 32 16 = 65535 ∧
      fld t .belfry 0x40 0 32 = 1 ∧ t.belfry.tested = [] ∧ reg t (.selnet 639) 0x10 = 1)) = true ∧
    nx (exec (.selfTest (network networkGot) true 3 false) timed) (fun t => decide (t.belfry.tested = [itemKey (network [])])) = true ∧
    nx (exec (.selfTest (network []) true 3 false) timed) (fun t => bit (reg t (.selnet 639) 0x08) 2 &&
      bit (reg t .belfry 0) 2 && decide (reg t .belfry 0x28 = 1)) = true := by decide +kernel

theorem test_selfTest :
    nx (exec (.selfTest .auditUnit false 3 false) timed) (fun t => decide (t.dev = .vermilion)) = true ∧
    nx (exec (.selfTest (.sparePe 639 1 2) false 3 false) timed) (fun t => decide ((tileAt t 639).badPes = [(1, 2)])) = true := by
  decide +kernel

theorem test_wearSample : nx (exec (.wearSample 3) { timed with lantern := { timed.lantern with running := true } }) (fun t =>
    decide (t.nv.wear.all (fun w => w.1 = 3) ∧ t.belfry.seq = 1)) = true := by decide +kernel

theorem test_incidentEnd :
    let i : Incident := { first := 1, last := 2, window := [], kept := [], dropped := [] }
    nx (exec .incidentEnd { timed with belfry := { timed.belfry with incident := some i } }) (fun t => decide (t.belfry.incident = none ∧
      t.nv.summaries = [{ num := 0, boot := 0, incident := i }] ∧ t.nv.summaryNext = 1)) = true := by decide +kernel

/-! ### The management lane -/

/-- A public key (P-256, a point of the curve). -/
def pubKey : List Byte := toBE 64 0x9fad84aeae08bbef7f010014d82cef6a09de2b0cf871b5ce0c4f1d13a59a593407cb45769f1070e2c2470fe5b1bfe63133c0b0cdc64ea4bf3791a8ec2a07fd4f

/-- A firmware bundle of SVN 5, Lantern 1.2 and Dome 1.3, with two images of 8 bytes, signed with the key of `pubKey`. -/
def bundle : List Byte := toBE 272 0x5a5346570100000110010000050000000200010003000100000100000800000008010000080000000000000000000000000000000000000000000000000000000ed9a37224d7e87e98be5c06cae00177a6f0832089bdc9f98e417b27458b2d21545dcd68a5dcd6b9ffdaf3365de67b9ad8bb8c7c6f3671b1cdb704b653fb26a49fad84aeae08bbef7f010014d82cef6a09de2b0cf871b5ce0c4f1d13a59a593407cb45769f1070e2c2470fe5b1bfe63133c0b0cdc64ea4bf3791a8ec2a07fd4f09e383c053933061d4ca245ec8ee7d8ecdae9f263b5c7e27c145209e3a4a7dfbdc2639de03cbe14a82ff87ea6837c22b4a58e8f8a18ff4ba945b9243f50b60ef4c414e5445524e21444f4d45444f4d45

/-- The contents of a valid regulator memory. -/
def regulatorBytes : List Byte := toBE 64 0x5a5356520140100e0000224f58022003000000000000000000000000000000000000000000000000000000000000000000000000000000000000000079030468

/-- Lantern serves one link of operator 1, who holds every role. -/
def lane : State :=
  { timed with lantern := { timed.lantern with running := true, laneUp := true, links := [(2 ^ 32 - 1, mlink)] },
               nv := { timed.nv with operators := [(1, { key := pubKey, roles := 31 })] } }

def req : MgmtReq := { link := 2 ^ 32 - 1, seq := 33, tagOk := true, reservedZero := true }

/-- The reply on the link of `req`. -/
def replied (t : State) (op status : Nat) (body : List Byte) : Bool := sent t (.mgmt (2 ^ 32 - 1) op status 33 body)

theorem wit_mgmtReady : ∀ p ∈ [(0x10, 24), (0x13, 16), (0x14, 16), (0x15, 16), (0x36, 20), (0x05, 1), (0x06, 1), (0x03, 1), (0x04, 1),
    (0x20, 8), (0x11, 8), (0x12, 8), (0x21, 8), (0x22, 8), (0x23, 8), (0x24, 8), (0x30, 4), (0x31, 4), (0x32, 4), (0x33, 4),
    (0x34, 4), (0x35, 4), (0x25, 8)], MgmtReady lane req p.1 p.2 mlink := by
  unfold MgmtReady; decide +kernel

theorem test_regRead :
    let s := setReg lane .belfry 0x20 9
    nx (exec (.regRead req (regAddr .belfry 0x20)) s) (fun t => replied t 0x10 0 (toLE 8 9)) = true ∧
    nx (exec (.regRead req (regAddr .belfry 0x20 + 4)) s) (fun t => replied t 0x10 1 []) = true ∧
    nx (exec (.regRead req 0xFFFFFFF8) s) (fun t => replied t 0x10 1 []) = true := by decide +kernel

theorem test_sensors :
    let s := { lane with lantern := { lane.lantern with sensors := [(9, { value := 1, frame := 0 }), (72, { value := -2, frame := 3 })] } }
    nx (exec (.sensors req 72 2) s) (fun t => replied t 0x13 0
      (toLE 2 72 ++ zeros 2 ++ toLE 4 0xFFFFFFFE ++ toLE 8 3 ++ toLE 2 73 ++ toLE 1 1 ++ zeros 13)) = true ∧
    nx (exec (.sensors req 65535 1) s) (fun t => replied t 0x13 0 (toLE 2 65535 ++ toLE 1 1 ++ zeros 13)) = true := by decide +kernel

theorem test_logRead :
    let e (n c : Nat) : LogEntry := { seq := n, frame := 0, cls := c, mech := 0, action := 0, ctx := 0, unit := 0, entry := 0, detail := 0 }
    let s := { lane with lantern := { lane.lantern with volatileLog := [e 5 1, e 6 2, e 7 1] } }
    nx (exec (.logRead req 0 2 1 0) s) (fun t => replied t 0x14 0 (toLE 8 5 ++ toLE 8 6 ++ toLE 4 s.nv.boots ++ toLE 2 1 ++ zeros 2 ++
      (toLE 8 5 ++ zeros 8 ++ toLE 1 1 ++ zeros 15))) = true ∧
    nx (exec (.logRead req 1 255 28 0) s) (fun t => replied t 0x14 0 (zeros 16 ++ toLE 4 s.nv.boots ++ zeros 4)) = true ∧
    nx (exec (.logRead req 2 255 15 0) s) (fun t => replied t 0x14 0 (zeros 16 ++ toLE 4 s.nv.boots ++ zeros 4)) = true := by
  decide +kernel

theorem test_wear :
    let s := { lane with nv := { lane.nv with wear := [(3, 5, -7)] } }
    nx (exec (.wear req) s) (fun t => replied t 0x15 0 ((List.range 4).flatMap (fun _ => zeros 12 ++ toLE 2 0xFFFF ++ zeros 2) ++
      (toLE 8 (2 ^ 64 - 7) ++ toLE 4 3 ++ toLE 2 0xFFFF ++ zeros 2))) = true := by decide +kernel

/-- Slot B, the inactive one, holds the bundle; the mask ROM holds the hash of its key. -/
def bundled : State :=
  { lane with rom := { rootKeyHash := toBE 32 0x991e176a624319cc145e6280ef08e2210624c50e2fbfe2130c420d315060aa42 },
              nv := { lane.nv with slotB := { bytes := ((List.range 272).zip bundle).filter (fun p => !decide (p.2 = 0)), length := 272, status := .verified } } }

theorem test_fwStatus : nx (exec (.fwStatus req) bundled) (fun t => replied t 0x36 0
    ([0, 0, 2, 0] ++ zeros 4 ++ zeros 4 ++ toLE 4 5 ++ toLE 4 0x10002 ++ toLE 4 0x10003)) = true := by decide +kernel

theorem test_settings : lane.dev ≠ .vermilion ∧
    nx (exec (.setPolicy req true) lane) (fun t => t.nv.requireSigned && replied t 0x05 0 []) = true ∧
    nx (exec (.setNet req (2 ^ 32 - 1) (2 ^ 128 - 1)) lane) (fun t => decide (t.nv.ipv4 = 2 ^ 32 - 1 ∧ t.nv.ipv6 = 2 ^ 128 - 1 ∧
      t.lantern.links = []) && replied t 0x06 0 []) = true ∧
    nx (exec (.grant req 15 true 3) lane) (fun t => decide (grantOf t 15 = (3, true)) && replied t 0x20 0 []) = true := by decide +kernel

theorem test_operators : (mlink.slot ≠ 0xFF ∧ pubKey.length = 64 ∧
      keepsAdmin (tset lane.nv.operators 7 { key := pubKey, roles := 31 }) = true ∧
      keepsAdmin (tdel (tset lane.nv.operators 7 { key := pubKey, roles := 31 }) 1) = true) ∧
    nx (exec (.enrol req 7 31 pubKey) lane) (fun t => decide (tget t.nv.operators 7 = some { key := pubKey, roles := 31 } ∧
      t.lantern.links.length = 1) && replied t 0x03 0 []) = true ∧
    nx (exec (.remove req 1) { lane with nv := { lane.nv with operators := tset lane.nv.operators 7 { key := pubKey, roles := 31 } } })
      (fun t => decide (tget t.nv.operators 1 = none ∧ t.lantern.links = []) && replied t 0x04 0 []) = true ∧
    nx (exec (.remove req 1) lane) (fun t => replied t 0x04 5 []) = true := by decide +kernel

theorem test_regWrite : nx (exec (.regWrite req (regAddr .mac 0x20) 7) lane) (fun t => decide (reg t .mac 0x20 = 7) &&
    replied t 0x11 0 []) = true := by decide +kernel

theorem test_stage :
    let s := { lane with power := { lane.power with phase := 9 } }
    (s.dev = .sable ∧ s.img.image = none ∧ loaderReady s = true) ∧
    nx (exec (.stage req 134217727 [9]) s) (fun t => decide (t.img.stagedLen = 134217728 ∧ memByte t.img.staged 134217727 = 9) &&
      replied t 0x12 0 []) = true ∧
    nx (exec (.stage req 134217728 [9]) s) (fun t => replied t 0x12 5 []) = true := by decide +kernel

theorem test_stage_dropped :
    let s := { lane with img := { lane.img with image := some (parseImage smallImage) } }
    nx (exec (.stage req 0 [9]) s) (fun t => bit (reg t .img 0x20) 1 && decide (t.img = s.img)) = true := by decide +kernel

/-- The lane of a device in Ivory with context 2 open. -/
def laneIvory : State :=
  { contexts with lantern := lane.lantern, nv := { contexts.nv with operators := lane.nv.operators } }

theorem test_close : (MgmtReady laneIvory req 0x21 roleMaintain mlink ∧ serving laneIvory = true ∧
      (ctxAt laneIvory 2).map (·.state) = some .opened) ∧
    nx (exec (.close req 2) laneIvory) (fun t => decide ((ctxAt t 2).map (·.closing) = some true) && replied t 0x21 0 []) = true := by
  unfold MgmtReady; decide +kernel

theorem test_scrub : (lane.dev = .sable ∧ 9 ≤ ({ lane with power := { lane.power with phase := 9 } } : State).power.phase) ∧
    nx (exec (.scrub req) { laneIvory with power := { laneIvory.power with phase := 0 } }) (fun t => decide (t.dev = .slate ∧
      t.pins.rdy = false ∧ t.sec.scrub = some 0 ∧ t.sec.scrubReply = some (2 ^ 32 - 1, 33) ∧ t.reqs = [] ∧ sessAt t 1 = none)) = true := by
  decide +kernel

/-- Neighbour 0 is the device at endpoint 63, whose session this device opened. -/
def laneEnds : State :=
  let s := { ends with lantern := lane.lantern, nv := { ends.nv with operators := lane.nv.operators } }
  { s with port := { s.port with sessions := tset s.port.sessions (mineKey 63 5) (newSession 63 true 70 2 []) },
           tier := { s.tier with leases := [(15, { neighbour := 0, wire := 9, granules := 4, mbps := 1, notice := none, ended := false })],
                                 homes := [(7, .lease 15 0), (8, .lease 15 1)] } }

theorem test_mgmtLease : (MgmtReady laneEnds req 0x23 roleMaintain mlink ∧ serving laneEnds = true ∧ freeLease laneEnds = some 0 ∧
      (neighbourSession laneEnds 0 true).isSome = true ∧ (leaseOf laneEnds { neighbour := 0, lease := 9 }).map (·.1) = some 15) ∧
    nx (exec (.mgmtLeaseRequest req 0 5 6) laneEnds) (fun t => decide (t.tier.asked = [(2 ^ 32 - 1, 33, 0, 0)] ∧ t.out.length = 1)) = true ∧
    nx (exec (.mgmtLeaseRelease req 0 9) laneEnds) (fun t => decide (t.tier.leases = [] ∧ t.tier.homes = [(7, .lost), (8, .lost)] ∧
      t.out.length = 3) && replied t 0x23 0 (toLE 1 0 ++ toLE 4 9)) = true := by
  unfold MgmtReady; decide +kernel

/-- Tile 639 is Elastic and runs a task of its own, or is pre-empted. -/
def laneElastic (r : RunState) : State :=
  let x := { tileAt laneIvory 639 with role := .elastic, run := r, task := some elastic3 }
  setTile laneIvory 639 x

theorem test_halt : (MgmtReady (laneElastic .running) req 0x24 roleMaintain mlink ∧ serving (laneElastic .running) = true ∧
      (tileAt (laneElastic .running) 639).role = .elastic ∧ elasticRunning (tileAt (laneElastic .running) 639) = true) ∧
    nx (exec (.halt req 639) (laneElastic .running)) (fun t => decide ((tileAt t 639).run = .preempted ∧ reg t (.spire 7) 0x30 = 1) &&
      bit (reg t (.tile 639) 0x08) 2 && replied t 0x24 0 []) = true ∧
    nx (exec (.resume req 639) (laneElastic .preempted)) (fun t => decide ((tileAt t 639).run = .running) && replied t 0x24 0 []) = true := by
  unfold MgmtReady; decide +kernel

/-! ### Firmware and RESET -/

theorem test_fwBegin : nx (exec (.fwBegin req 25165824) lane) (fun t => decide (t.nv.slotB = { bytes := [], length := 25165824, status := .writing } ∧
      t.lantern.lock = some (2 ^ 32 - 1)) && replied t 0x30 0 []) = true ∧
    nx (exec (.fwBegin req 255) lane) (fun t => replied t 0x30 5 []) = true := by decide +kernel

theorem test_fwWrite :
    let s := { lane with nv := { lane.nv with slotB := { bytes := [], length := 256, status := .writing } } }
    (targetSlot s).status = .writing ∧
    nx (exec (.fwWrite req 255 [9]) s) (fun t => decide (t.nv.slotB.bytes = [(255, 9)]) && replied t 0x31 0 []) = true ∧
    nx (exec (.fwWrite req 256 [9]) s) (fun t => replied t 0x31 5 []) = true := by decide +kernel

theorem test_fwVerify : bundleCheck bundled (targetSlot bundled) (some 272) = 0 ∧
    nx (exec (.fwVerify req) bundled) (fun t => decide (t.nv.slotB.status = .verified) && replied t 0x32 0 []) = true ∧
    nx (exec (.fwVerify req) { bundled with nv := { bundled.nv with counter := 6 } }) (fun t => decide (t.nv.slotB.status = .failed) &&
      replied t 0x32 7 (toLE 1 6)) = true := by decide +kernel

theorem test_fwConfirm :
    let b := { bundled.sec.boot with trial := true, served := true, svn := 5 }
    let s := { bundled with nv := { bundled.nv with trial := true, counter := 4 }, sec := { bundled.sec with boot := b } }
    nx (exec (.fwConfirm req) s) (fun t => decide (t.nv.counter = 5 ∧ t.nv.trial = false) && replied t 0x34 0 []) = true := by
  decide +kernel

theorem test_fwSwitch : ((targetSlot bundled).status = .verified ∧ bundled.sec.ctxs = [] ∧ bundled.img.phase = .empty ∧ bundled.dev = .sable) ∧
    nx (exec (.fwSwitch req) bundled) (fun t => decide (t.nv.activeB = true ∧ t.nv.trial = true ∧ t.power.cause = 3 ∧
      t.lantern.links = []) && replied t 0x33 0 []) = true ∧
    nx (exec (.fwRevert req) { bundled with nv := { bundled.nv with trial := true } }) (fun t => decide (t.nv.activeB = true ∧
      t.nv.trial = false ∧ t.power.cause = 3) && replied t 0x35 0 []) = true := by decide +kernel

theorem test_mgmtReset : nx (exec (.warmMgmt req) lane) (fun t => decide (t.power.cause = 2 ∧ t.power.phase = 1 ∧
      t.nv.operators = lane.nv.operators) && replied t 0x25 0 []) = true ∧
    nx (exec (.firmware req) { lane with power := { lane.power with wait := some 5 } }) (fun t => decide (t.power.cause = 5)) = true := by
  decide +kernel

/-! ### Links, the lane, sensors -/

theorem test_hello : laneServed { lane with lantern := { lane.lantern with links := [] } } = true ∧
    nx (exec (.hello true (zeros 32)) { lane with lantern := { lane.lantern with links := [] } }) (fun t =>
      decide (t.lantern.links.length = 1 ∧ t.out.length = 1)) = true ∧
    nx (exec (.hello true (zeros 32)) { lane with lantern := { lane.lantern with
      links := [(1, mlink), (2, mlink), (3, mlink), (4, mlink)] } }) (fun t => decide (t.out = [.mgmt 0 1 6 0 []])) = true := by
  decide +kernel

/-- A link after HELLO, and an AUTH of operator 1 for it, signed with the operator's key. -/
def greeted : State :=
  let l := { mlink with authed := false, seq := 0, slot := 0xFF, challenge := zeros 32, ephemeral := zeros 64 }
  { lane with lantern := { lane.lantern with links := [(3, l)] } }

def authIn : AuthIn :=
  { link := 3, slot := 1, reservedZero := true, ephemeral := pubKey, pubkey := zeros 64, sigR := toBE 32 0x992e23fc52d2e3f9a689b02f0b1c275ecd757d3dd9037d453a06d984f9ce2100, sigS := toBE 32 0x1213e8efb56f217ba7a4bc5401f3e05414c3deaa318076312c9e00dbf9423fb4 }

theorem test_auth : nx (exec (.auth authIn) greeted) (fun t => decide ((tget t.lantern.links 3).map (fun l => (l.authed, l.slot)) =
      some (true, 1)) && sent t (.mgmt 3 2 0 0 [])) = true ∧
    nx (exec (.auth { authIn with slot := 2 }) greeted) (fun t => decide (t.lantern.links = []) && sent t (.mgmt 3 2 8 0 [])) = true := by
  decide +kernel

theorem test_linkTimeout : nx (exec (.linkTimeout (2 ^ 32 - 1)) { lane with lantern := { lane.lantern with lock := some (2 ^ 32 - 1) } })
    (fun t => decide (t.lantern.links = [] ∧ t.lantern.lock = none)) = true := by decide +kernel

theorem test_lane : nx (exec .managementLaneDown lane) (fun t => decide (t.lantern = { lane.lantern with laneUp := false } ∧ t.pins = lane.pins)) = true ∧
    nx (exec .managementLaneUp { lane with lantern := { lane.lantern with laneUp := false } }) (fun t => decide (t.lantern = lane.lantern ∧ t.pins = lane.pins)) = true := by
  decide +kernel

theorem test_sensorSample : nx (exec (.sensorSample 51 100 (some 0x8000)) lane) (fun t => decide (t.lantern.powerSamples = [100] ∧
      (tget t.lantern.sensors 51).map (·.value) = some 100 ∧ t.power.statusWord = 0x8000) && bit (reg t .idbus 0) 3) = true ∧
    nx (exec (.sensorSample 53 7 none) { lane with lantern := { lane.lantern with powerSamples := [3, 4] } }) (fun t =>
      decide ((tget t.lantern.sensors 53).map (·.value) = some 3)) = true ∧
    nx (exec (.sensorSample 72 (-5) (some 0x8000)) lane) (fun t => decide ((tget t.lantern.sensors 72).map (·.value) = some (-5) ∧
      t.power.statusWord = 0)) = true := by decide +kernel

/-! ### Resets, start-up, power -/

theorem test_powerOn :
    nx (exec .powerOn { lane with power := { lane.power with rails := false } }) (fun t => decide (t.power.rails = true ∧
      t.power.cause = 0 ∧ t.pins.rstLow = true ∧ t.nv.operators = lane.nv.operators ∧ t.frame.count = 0)) = true ∧
    nx (exec .powerDown { lane with power := { lane.power with rails := true }, pins := { lane.pins with rstLow := true } })
      (fun t => decide (t.power.rails = false ∧ t.nv.operators = lane.nv.operators)) = true := by decide +kernel

/-- The rails are on and RST_N is released. -/
def railed : State :=
  { lane with power := { State.reset.power with rails := true }, pins := { State.reset.pins with rstLow := false },
              lantern := State.reset.lantern }

/-- The inactive slot B alone holds a bundle that passes. -/
def booting : State :=
  { railed with rom := bundled.rom, nv := { railed.nv with slotB := bundled.nv.slotB } }

theorem test_warmPin : nx (exec (.warmPin false) railed) (fun t => decide (t.power.cause = 1 ∧ t.pins.rstLow = true ∧ t.rom = railed.rom)) = true ∧
    nx (exec (.warmPin true) { railed with pins := { railed.pins with rstLow := true } }) (fun t => decide (t.pins = railed.pins ∧ t.power = railed.power)) = true := by
  decide +kernel

theorem test_brownout :
    nx (exec .brownout { railed with power := { railed.power with wait := some 4 } }) (fun t => decide (t.power.cause = 4)) = true ∧
    nx (exec .thermal { railed with power := { railed.power with wait := some 5 } }) (fun t => decide (t.power.cause = 5)) = true := by
  decide +kernel

def startIn : StartIn :=
  { identityOk := true, modules := [],
    regulator := { bytes := regulatorBytes, addrAck := [true, true, true, true], complete := [false, true, true, true] } }

theorem test_startUp : (railed.power.phase = 1 ∧ railed.lantern.recovery = false) ∧
    nx (exec (.startUp startIn) booting) (fun t => decide (t.nv.activeB = true ∧ t.sec.boot.fellBack = true ∧ t.sec.boot.svn = 5 ∧
      t.nv.boots = railed.nv.boots + 1 ∧ t.power.phase = 4 ∧ t.power.awaitPg = true ∧ reg t .idbus 0x10 = 1) &&
      t.pins.vrEn) = true ∧
    nx (exec (.startUp { startIn with regulator := { startIn.regulator with complete := [] } }) booting) (fun t =>
      decide (t.power.phase = 3 ∧ reg t .idbus 0x10 = 4) && bit (reg t .pwrseq 0x08) 3) = true ∧
    nx (exec (.startUp startIn) { railed with rom := bundled.rom }) (fun t => decide (t.lantern.recovery = true ∧
      t.lantern.running = false ∧ t.power = railed.power)) = true := by decide +kernel

/-- VR_PG is awaited. -/
def awaiting : State :=
  { railed with power := { railed.power with phase := 4, awaitPg := true }, pins := { railed.pins with vrEn := true } }

def coreIn : CoreIn :=
  { badPes := [(639, 131, 131)], tileFails := [0], unitFails := [], journalOk := [], bbtOk := [], badBlocks := [] }

theorem test_vrPgGood : (coreIn.badPes.all (fun p => decide (p.1 < 640 ∧ p.2.1 < 132 ∧ p.2.2 < 132)) = true ∧ unitExists (.keepBase 31) = true) ∧
    nx (exec (.vrPgGood coreIn) awaiting) (fun t => decide (t.power.phase = 9 ∧ t.reason = 2 ∧ reg t .pwrseq 0x30 = 32 ∧
      (tileAt t 0).inService = false ∧ (tileAt t 639).badPes = [] ∧ t.dev = .sable)) = true ∧
    nx (exec (.vrPgGood { coreIn with unitFails := [.keepBase 31] }) awaiting) (fun t => decide (t.dev = .vermilion)) = true := by
  decide +kernel

theorem test_vrPgTimeout : nx (exec .vrPgTimeout awaiting) (fun t => decide (t.power.awaitPg = false ∧ t.power.phase = 4) &&
    bit (reg t .pwrseq 0x08) 2) = true := by decide +kernel

/-- VDD_CORE is up at 600 mV or 800 mV. -/
def supplied (mv : Nat) : State :=
  { railed with power := { railed.power with voutMv := mv }, pins := { railed.pins with vrEn := true, vrPg := true } }

theorem test_voutStep : nx (exec (.voutStep true) (supplied 603)) (fun t => decide (t.power.voutMv = 600)) = true ∧
    nx (exec (.voutStep true) (supplied 600)) (fun t => decide (t.power.voutMv = 600)) = true ∧
    nx (exec (.voutStep false) (supplied 800)) (fun t => decide (t.power.voutMv = 800)) = true ∧
    nx (exec (.voutStep false) (supplied 600)) (fun t => decide (t.power.voutMv = 605)) = true := by decide +kernel

theorem test_wakeStepRelease :
    let s (n : Nat) := { railed with power := { railed.power with
      wakes := [{ domain := 0, port := 0 }, { domain := 40, port := 0 }], slew := 34, released := n } }
    (rampBudget (s 0) = 2125 ∧ stepAmps 0 = 180 ∧ enabled (s 0) .frame = true) ∧
    nx (exec .wakeStepRelease (s 1945)) (fun t => decide (t.power.wakes = [{ domain := 40, port := 0 }] ∧ t.power.released = 2125 ∧
      reg t .pwrseq 0x30 = 1)) = true ∧
    nx (exec .wakeStepRelease (s 1946)) (fun t => decide (t.power = (s 1946).power ∧ t.regs = (s 1946).regs)) = true := by
  decide +kernel

theorem test_vrPgFall : nx (exec (.vrPgFall true) (supplied 700)) (fun t => decide (t.power.wait = some 4 ∧ t.pins.vrEn = false ∧
      t.pins.fltLow = true ∧ t.nv.persist.length = 1) && bit (reg t .pwrseq 0x08) 2 && t.belfry.gateClosed) = true ∧
    nx (exec (.vrPgFall false) (supplied 700)) (fun t => decide (t.pins = (supplied 700).pins ∧ t.nv.persist = [])) = true ∧
    nx (exec (.vrPgFall true) railed) (fun t => decide (t.pins = railed.pins ∧ t.power = railed.power)) = true := by decide +kernel

theorem test_thermalTrip : ([8, 47].all tripSensor = true ∧ tripSensor 9 = false ∧ tripSensor 48 = false) ∧
    nx (exec (.thermalTrip [8, 47]) (supplied 700)) (fun t => decide (t.power.wait = some 5 ∧ t.pins.vrEn = false ∧
      t.nv.persist.map (·.entry.detail) = [5 + 256 * 8, 5 + 256 * 47])) = true ∧
    nx (exec (.thermalTrip [8]) railed) (fun t => decide (t.power = railed.power ∧ t.pins = railed.pins)) = true := by decide +kernel

theorem test_firstCauseStands :
    let s := { railed with power := { railed.power with wait := some 5 } }
    (s.pins.vrEn = false ∧ s.power.rails = true ∧ s.pins.rstLow = false) ∧
    nx (exec (.warmPin false) s) (fun t => decide (t.power.cause = 5 ∧ t.power.wait = none)) = true ∧
    nx (exec (.vrPgFall true) s) (fun t => decide (t.pins = s.pins ∧ t.power = s.power)) = true := by decide +kernel

/-- Sensors 16 and 53 in Ivory, at a throttle level. -/
def heated (tenths watts level : Nat) : State :=
  { laneIvory with adm := { laneIvory.adm with level := level },
                   power := { laneIvory.power with calm := 9, sinceChange := 9 },
                   lantern := { laneIvory.lantern with
                     sensors := [(16, { value := tenths, frame := 0 }), (53, { value := watts, frame := 0 })] } }

theorem test_throttle : nx (exec .throttleEvaluation (heated 900 0 0)) (fun t => decide (t.adm.level = 1) && bit (reg t .pwrseq 0x08) 5 &&
      sent t (.msg 1 64 0x85 0 (eventBody (heated 900 0 0) 3 1 0) 0)) = true ∧
    nx (exec .throttleEvaluation (heated 899 28500 0)) (fun t => decide (t.adm.level = 0)) = true ∧
    nx (exec .throttleEvaluation (heated 0 28501 3)) (fun t => decide (t.adm.level = 3 ∧ t.power.calm = 0)) = true ∧
    nx (exec .throttleEvaluation (heated 850 25499 1)) (fun t => decide (t.adm.level = 0)) = true ∧
    nx (exec .throttleEvaluation (heated 850 25500 1)) (fun t => decide (t.adm.level = 1)) = true := by decide +kernel

theorem test_peakPower : (nextVictim (laneElastic .running) = some 639 ∧ nextVictim ivory = none) ∧
    nx (exec (.peakPowerWindow [3493]) (laneElastic .running)) (fun t => decide ((tileAt t 639).run = .preempted ∧
      t.power.preempted = [639] ∧ reg t .pwrseq 0x28 = 1) && bit (reg t .pwrseq 0x08) 4) = true ∧
    nx (exec (.peakPowerWindow [3492]) (laneElastic .running)) (fun t => decide (t.tiles = (laneElastic .running).tiles ∧ t.power.preempted = [])) = true ∧
    nx (exec (.peakPowerWindow [3240]) (laneElastic .running)) (fun t => decide (t.tiles = (laneElastic .running).tiles ∧ t.power.preempted = [])) = true ∧
    nx (exec (.peakPowerWindow [3239]) { laneElastic .preempted with power := { laneIvory.power with preempted := [639] } }) (fun t =>
      decide ((tileAt t 639).run = .running ∧ t.power.preempted = [])) = true := by decide +kernel

/-! ### Boundaries, admission, release -/

def quiet : BoundaryIn :=
  { offsetNs := 3, silent := [], late := [], lanes := [], decode := [], copied := 0, corrected := [],
    dome := [], scrubbed := [], scrubPes := [], failTests := [], netFails := [] }

/-- Context 2 may run pipeline 9, one text stage of two frames. -/
def admits : State :=
  let g : StageRec := { offset := 0, duration := 2, slots := 2, tilesPerSlot := 0, wcet := 0, program := 0, t2Bytes := 0, t0Kib := 0,
                        t1Kib := 0 }
  let p : PipelineRec := { num := 9, cls := 0, span := 2, variant := 0xFF, scanStage := 0xFF, stages := [g] }
  { contexts with img := { contexts.img with image := (contexts.img.image).map (fun i => { i with pipelines := [p] }) } }

def elasticSub : Submission :=
  { session := 1, queue := 65, tag := 8, stamp := 0, body := { submission with elastic := true, pipeline := 9, deadline := 6 } }

theorem test_admission : (match staticCheck admits elasticSub with
      | .inr a => (search_ admits a (now admits) 4096 (now admits + 1 + swapDelay admits a.gen)).any (fun f =>
          decide (f.start = 1 ∧ f.start + planSpan a.plan + 2 ≤ elasticSub.body.deadline))
      | .inl _ => false) = true ∧ freeEntry admits = some 0 ∧ Table.sorted admits.reqs = true ∧
    (reqAt (decideNew admits elasticSub) 0).map (fun r => (r.state, r.start, r.promised)) = some (.pending, 1, 5) ∧
    staticCheck admits { elasticSub with session := 2 } = .inl 6 ∧
    staticCheck admits { elasticSub with body := submission } = .inl 4 ∧
    staticCheck State.reset elasticSub = .inl 7 := by decide +kernel

theorem test_refuses_slate : staticCheck { admits with sec := { admits.sec with ctxs := [(2, { ctx2 with state := .slate })] } } elasticSub = .inl 7 ∧
    serving (hosted timed) = false ∧
    nx (exec (.submit 1 65 8 submission) (hosted timed)) (fun t => sent t (.msg 1 65 0x82 8 ([7] ++ zeros 15) 0) &&
      decide (t.adm = (hosted timed).adm)) = true := by decide +kernel

/-- Request 3 has a fragment of frame 4 and of frame 5, the last. -/
def holding (n : Nat) : State :=
  let r := { req3 with state := .holding, produced := some 5 }
  { admits with reqs := [(3, r)], frame := { admits.frame with count := n },
                hold := [{ entry := 3, bytes := [1], frame := 4 }, { entry := 3, bytes := [2], frame := 5 }] }

theorem test_release : ((reqAt (holding 7) 3).any (fun r => decide (r.state ≠ .ending) && r.sentFrame.isNone)) = true ∧
    (releaseEntry (holding 7) 3).hold = [{ entry := 3, bytes := [2], frame := 5 }] ∧
    (releaseEntry (holding 8) 3).hold = [] ∧
    (reqAt (releaseEntry (holding 8) 3) 3).map (fun r => (r.sentFrame, r.status)) = some (some 8, 0) ∧
    (releaseAll { holding 8 with belfry := { (holding 8).belfry with gateClosed := true } }).hold = (holding 8).hold := by decide +kernel

theorem test_frameBoundary_idle :
    let r := { req3 with state := .ending, sentFrame := some 0 }
    let s := { timed with reqs := [(3, r), (4, req3)] }
    (enabled s .frame = true ∧ serving s = false ∧ boundaryOk s quiet = true ∧ quiet.silent = [] ∧ quiet.dome = []) ∧
    nx (exec (.frameBoundary quiet) s) (fun t => decide (now t = 1 ∧ reqAt t 3 = none ∧ reqAt t 4 = some req3)) = true ∧
    nx (exec (.frameBoundary quiet) { s with frame := { s.frame with nextFrame := some 9 } }) (fun t => decide (now t = 9 ∧
      t.frame.nextFrame = none)) = true ∧
    nx (exec (.frameBoundary quiet) State.reset) (fun t => decide (t = State.reset)) = true := by decide +kernel

theorem test_frameBoundary :
    let s := { admits with adm := { admits.adm with subs := [elasticSub] } }
    (enabled s .frame = true ∧ serving s = true ∧ boundaryOk s quiet = true) ∧
    nx (exec (.frameBoundary quiet) s) (fun t => decide (now t = 1 ∧ t.adm.subs = [] ∧
      (reqAt t 0).map (fun r => (r.state, r.start, r.promised)) = some (.pending, 2, 6))) = true := by decide +kernel

/-! ### The update lock and the access rules -/

theorem test_updateLock :
    let s := { lane with lantern := { lane.lantern with lock := some 7, links := [(7, mlink), (2 ^ 32 - 1, mlink)] } }
    nx (exec (.fwBegin req 256) s) (fun t => replied t 0x30 6 []) = true ∧
    nx (exec (.fwVerify req) s) (fun t => replied t 0x32 6 []) = true ∧
    nx (exec (.fwStatus req) s) (fun t => replied t 0x36 6 []) = true ∧
    nx (exec (.linkTimeout 7) s) (fun t => decide (t.lantern.lock = none)) = true := by decide +kernel

/-! ### Well-formed commands: each check refuses an ill-formed term and takes the extreme ones -/

theorem wf_units : tileOk 639 = true ∧ tileOk 640 = false ∧ keepOk 31 = true ∧ keepOk 32 = false ∧ unitOk (.spire 7) = true ∧
    unitOk (.spire 8) = false ∧ WellFormed (.linkCrc (.tile 640) true true) = false ∧ WellFormed (.linkCrc .dome true true) = true := by
  decide +kernel

theorem wf_fields : fits 8 255 = true ∧ fits 8 256 = false ∧ WellFormed (.openContext 1 (2 ^ 64) 0) = false ∧
    bufsOk bufs = true ∧ bufsOk { bufs with dst := 64 } = false ∧ bufsOk { bufs with dst := 0xFF } = true := by decide +kernel

theorem wf_storage :
    let c : StorCmd := { queue := 0, tag := 0, nsid := 255, offset := 0, length := 0, arg0 := 0, arg1 := 0,
                          reservedZero := true }
    storOk c = true ∧ storOk { c with nsid := 256 } = false := by decide +kernel

theorem wf_management : mgmtOk req = true ∧ mgmtOk { req with link := 2 ^ 32 } = false ∧ WellFormed (.fwVerify { req with seq := 2 ^ 64 }) = false ∧
    WellFormed (.wear req) = true ∧ WellFormed (.auth { authIn with pubkey := [] }) = false := by decide +kernel

theorem wf_lease : leaseOk { neighbour := 15, lease := 2 ^ 32 - 1 } = true ∧ leaseOk { neighbour := 16, lease := 0 } = false := by decide +kernel

theorem wf_submission : submitOk submission = true ∧ submitOk { submission with ctx := 256 } = false ∧
    WellFormed (.submit 1 65536 8 submission) = false := by decide +kernel

theorem wf_delta : deltaOk delta1 = true ∧ deltaOk { delta1 with table := 64 } = false := by decide +kernel

theorem wf_boundary : boundaryInOk quiet = true ∧ boundaryInOk { quiet with scrubbed := [(16, 1)] } = false ∧
    boundaryInOk { quiet with late := [32] } = false ∧ WellFormed (.frameBoundary { quiet with failTests := [640] }) = false := by decide +kernel

theorem wf_testItem : testItemOk (.sparePe 639 131 131) = true ∧ testItemOk (.sparePe 639 132 0) = false ∧
    testItemOk (.keepSpareRow 31 512 0) = false ∧ WellFormed (.selfTest (.selectionNetwork 640 0 false 8 [] []) true 0 false) = false := by decide +kernel

end Sys2Proof.Tests
end

section
namespace Sys2Proof.Machine

/-! ### Handing out with registers changed beside -/

theorem Handed.handedBut {s t : State} (l : List Nat) (h : Handed s t) : HandedBut l s t := by
  obtain ⟨ho, hr, he⟩ := h
  exact ⟨ho, hr.mono (by simp), he⟩

theorem HandedBut.refl (l : List Nat) (s : State) : HandedBut l s s := (Handed.refl s).handedBut l

theorem HandedBut.trans {l : List Nat} {s t u : State} (h : HandedBut l s t) (k : HandedBut l t u) :
    HandedBut l s u := by
  obtain ⟨⟨o, ho⟩, hr, he⟩ := h
  obtain ⟨⟨p, hp⟩, kr, ke⟩ := k
  refine ⟨⟨o ++ p, by rw [hp, ho, List.append_assoc]⟩, hr.trans kr, ?_⟩
  rw [ke, he]

/-- A register written in the list is all that `HandedBut` allows for. -/
theorem handedBut_setReg {l : List Nat} (s : State) {b : Blk} {off : Nat} (v : Word) (h : regAddr b off ∈ l) :
    HandedBut l s (setReg s b off v) :=
  ⟨⟨[], by simp⟩, (regsBut_setReg s b off v).mono (by simpa using Or.inr h), rfl⟩

theorem handedBut_setFlag {l : List Nat} (s : State) {b : Blk} {off : Nat} (i : Nat) (h : regAddr b off ∈ l) :
    HandedBut l s (setFlag s b off i) := handedBut_setReg s _ h

theorem handedBut_bump {l : List Nat} (s : State) {b : Blk} {off : Nat} (n : Nat) (h : regAddr b off ∈ l) :
    HandedBut l s (bump s b off n) := handedBut_setReg s _ h

theorem HandedBut.fields {l : List Nat} {s t : State} (h : HandedBut l s t) :
    t = { s with regs := t.regs, out := t.out, port := { s.port with sessions := t.port.sessions } } := h.2.2

/-! ### Flags and counters under later writes -/

/-- A bit of a word with a field replaced: the field's bits are the new ones, and every other bit is as it was. -/
theorem testBit_putBits (w : Word) (lo n v j : Nat) (hj : j < 64) : (putBits w lo n v).toNat.testBit j =
    if j < lo then w.toNat.testBit j else if j < lo + n then v.testBit (j - lo) else w.toNat.testBit j := by
  have e : w.toNat % 2 ^ lo + v % 2 ^ n * 2 ^ lo + w.toNat / 2 ^ (lo + n) * 2 ^ (lo + n) =
      2 ^ lo * (2 ^ n * (w.toNat / 2 ^ (lo + n)) + v % 2 ^ n) + w.toNat % 2 ^ lo := by
    rw [Nat.pow_add]; ring
  unfold putBits
  rw [BitVec.toNat_ofNat, Nat.testBit_mod_two_pow, e, Nat.testBit_two_pow_mul_add _ (Nat.mod_lt _ (Nat.two_pow_pos lo)),
    Nat.testBit_two_pow_mul_add _ (Nat.mod_lt _ (Nat.two_pow_pos n))]
  simp only [hj, decide_true, Bool.true_and]
  split
  · rename_i h
    simp [Nat.testBit_mod_two_pow, h]
  · split
    · rename_i h1 h2
      have : j < lo + n := by omega
      simp [Nat.testBit_mod_two_pow, h2, this]
    · rename_i h1 h2
      have hn : ¬ j < lo + n := by omega
      have hsum : j - lo - n + (lo + n) = j := by omega
      rw [if_neg hn, Nat.testBit_div_two_pow, hsum]

/-- A field reads what was put there. -/
theorem bits_putBits_same (w : Word) (lo n v : Nat) (h : lo + n ≤ 64) : bits (putBits w lo n v) lo n = v % 2 ^ n := by
  apply Nat.eq_of_testBit_eq
  intro j
  simp only [bits, Nat.testBit_mod_two_pow, Nat.testBit_shiftRight]
  by_cases hj : j < n
  · rw [testBit_putBits w lo n v _ (by omega), if_neg (by omega), if_pos (by omega), Nat.add_sub_cancel_left]
  · simp [hj]

/-- A field that lies apart from the one replaced reads as before. -/
theorem bits_putBits_apart (w : Word) (lo n v i k : Nat) (h : i + k ≤ lo ∨ lo + n ≤ i) (hi : i + k ≤ 64) :
    bits (putBits w lo n v) i k = bits w i k := by
  apply Nat.eq_of_testBit_eq
  intro j
  simp only [bits, Nat.testBit_mod_two_pow, Nat.testBit_shiftRight]
  by_cases hj : j < k
  · rw [testBit_putBits w lo n v _ (by omega)]
    rcases h with h | h
    · rw [if_pos (by omega)]
    · rw [if_neg (by omega), if_neg (by omega)]
  · simp [hj]

/-- A bit that lies apart from the field replaced is as before. -/
theorem bit_putBits_apart (w : Word) (lo n v i : Nat) (h : i < lo ∨ lo + n ≤ i) (hi : i < 64) :
    bit (putBits w lo n v) i = bit w i := by
  unfold bit BitVec.getLsbD
  rw [testBit_putBits w lo n v i hi]
  rcases h with h | h
  · rw [if_pos h]
  · rw [if_neg (by omega), if_neg (by omega)]

/-- A flag stays set when another of its register is set. -/
theorem FlagUp.setFlag {s : State} {b : Blk} {off i : Nat} (h : FlagUp s b off i) (j : Nat) (hi : i < 64) :
    FlagUp (setFlag s b off j) b off i := by
  by_cases hij : i = j
  · subst hij; exact flagUp_setFlag s b off i hi
  · unfold FlagUp Machine.setFlag setFld
    rw [reg_setReg_same, bit_putBits_apart _ j 1 1 i (by omega) hi]
    exact h

/-- A register outside those that may change reads as before. -/
theorem RegsBut.reg {l : List Nat} {s t : State} (h : RegsBut l s t) (b : Blk) (off : Nat) (hn : regAddr b off ∉ l) :
    reg t b off = reg s b off := by
  unfold Machine.reg tgetD
  rw [h _ hn]

theorem HandedBut.reg {l : List Nat} {s t : State} (h : HandedBut l s t) (b : Blk) (off : Nat)
    (hn : regAddr b off ∉ regAddr .mac 0x50 :: l) : Machine.reg t b off = Machine.reg s b off := h.2.1.reg b off hn

theorem HandedBut.mono {l m : List Nat} {s t : State} (h : HandedBut l s t) (hl : ∀ a ∈ l, a ∈ m) : HandedBut m s t := by
  obtain ⟨ho, hr, he⟩ := h
  exact ⟨ho, hr.mono (by simpa using fun a ha => Or.inr (hl a ha)), he⟩

/-! ### What handing out leaves unchanged -/

theorem Handed.dev {s t : State} (h : Handed s t) : t.dev = s.dev := by rw [h.fields]
theorem Handed.pins {s t : State} (h : Handed s t) : t.pins = s.pins := by rw [h.fields]
theorem Handed.frame {s t : State} (h : Handed s t) : t.frame = s.frame := by rw [h.fields]
theorem Handed.img {s t : State} (h : Handed s t) : t.img = s.img := by rw [h.fields]
theorem Handed.adm {s t : State} (h : Handed s t) : t.adm = s.adm := by rw [h.fields]
theorem Handed.reqs {s t : State} (h : Handed s t) : t.reqs = s.reqs := by rw [h.fields]
theorem Handed.hold {s t : State} (h : Handed s t) : t.hold = s.hold := by rw [h.fields]
theorem Handed.tiles {s t : State} (h : Handed s t) : t.tiles = s.tiles := by rw [h.fields]
theorem Handed.spires {s t : State} (h : Handed s t) : t.spires = s.spires := by rw [h.fields]
theorem Handed.serv {s t : State} (h : Handed s t) : t.serv = s.serv := by rw [h.fields]
theorem Handed.flash {s t : State} (h : Handed s t) : t.flash = s.flash := by rw [h.fields]
theorem Handed.sec {s t : State} (h : Handed s t) : t.sec = s.sec := by rw [h.fields]
theorem Handed.nv {s t : State} (h : Handed s t) : t.nv = s.nv := by rw [h.fields]
theorem Handed.power {s t : State} (h : Handed s t) : t.power = s.power := by rw [h.fields]

/-! ### Messages handed out -/

/-- Outputs only grow while messages are handed out. -/
theorem Handed.mem_out {s t : State} (h : Handed s t) {o : Out} (ho : o ∈ s.out) : o ∈ t.out := by
  obtain ⟨l, hl⟩ := h.1
  rw [hl]
  exact List.mem_append_left _ ho

theorem Handed.now {s t : State} (h : Handed s t) : Machine.now t = Machine.now s := congrArg FrameTimer.count h.frame

/-- A message handed over on a queue of an open session is an output of the device. -/
theorem msg_mem_sendMsg {s : State} {n q : Nat} {x : Session} (type tag : Nat) (body : List Byte)
    (hx : sessAt s n = some x) (hq : (tget x.queues q).isSome = true) :
    Out.msg n q type tag body (Machine.now s) ∈ (sendMsg s n q type tag body).out := by
  obtain ⟨y, hy⟩ := Option.isSome_iff_exists.mp hq
  unfold sendMsg
  simp only [hx, hy]
  exact (handed_pumpAll _ n q).mem_out (by simp)

/-- A message on the control queue of an open session is an output of the device. -/
theorem msg_mem_sendCtl {s : State} {n : Nat} {x : Session} (type tag : Nat) (body : List Byte) (h : SessionReady s n x) :
    Out.msg n x.firstMsgq type tag body (Machine.now s) ∈ (sendCtl s n type tag body).out := by
  unfold sendCtl
  simp only [h.1]
  exact msg_mem_sendMsg type tag body h.1 h.2

/-! ### Operations on registers alone -/

theorem RegsBut.of_regs {l : List Nat} {s t u : State} (h : RegsBut l s t) (hu : u.regs = t.regs) : RegsBut l s u := by
  intro a ha
  rw [hu]
  exact h a ha

theorem reg_of_regs {s t : State} (h : t.regs = s.regs) (b : Blk) (off : Nat) : reg t b off = reg s b off := by
  unfold reg
  rw [h]

theorem tileAt_of_tiles {s t : State} (h : t.tiles = s.tiles) (k : Nat) : tileAt t k = tileAt s k := by
  unfold tileAt
  rw [h]

theorem regAddr_inj (b : Blk) {o p : Nat} (h : o ≠ p) : regAddr b o ≠ regAddr b p := by
  unfold regAddr
  omega

theorem counted_of_reg {s t u : State} {b : Blk} {off n : Nat} (h : Counted t u b off n) (hr : reg t b off = reg s b off) :
    Counted s u b off n := by
  unfold Counted at h ⊢
  rwa [hr] at h

/-- Operations on registers alone. -/
def OnlyRegs (s u : State) : Prop := u = { s with regs := u.regs }

theorem OnlyRegs.trans {s u v : State} (h : OnlyRegs s u) (k : OnlyRegs u v) : OnlyRegs s v := by
  unfold OnlyRegs at *
  rw [h] at k
  exact k

theorem onlyRegs_setReg (s : State) (b : Blk) (off : Nat) (v : Word) : OnlyRegs s (setReg s b off v) := rfl

theorem onlyRegs_setFlag (s : State) (b : Blk) (off i : Nat) : OnlyRegs s (setFlag s b off i) := rfl

theorem onlyRegs_bump (s : State) (b : Blk) (off n : Nat) : OnlyRegs s (bump s b off n) := rfl

theorem OnlyRegs.tileAt {s u : State} (h : OnlyRegs s u) (i : Nat) : tileAt u i = tileAt s i :=
  tileAt_of_tiles (by rw [h]) i

theorem Counted.of_regs {s t u : State} {b : Blk} {off n : Nat} (h : Counted s t b off n) (hu : u.regs = t.regs) :
    Counted s u b off n := by
  unfold Counted at h ⊢
  rw [reg_of_regs hu, h]

end Sys2Proof.Machine
end

section
namespace Sys2Proof.Machine

/-! ### The time reference -/

/-- Only the frame timer has moved, with FRAME_STATUS and what the events of R344 hand out. -/
def TimerMoved (s t : State) : Prop :=
  RegsBut [regAddr .frame 0x30, regAddr .mac 0x50] s t ∧
  t = { s with frame := t.frame, regs := t.regs, out := t.out, port := { s.port with sessions := t.port.sessions } }

theorem TimerMoved.refl (s : State) : TimerMoved s s := ⟨regsBut_refl _ s, rfl⟩

theorem TimerMoved.trans {s t u : State} (h : TimerMoved s t) (k : TimerMoved t u) : TimerMoved s u := by
  obtain ⟨hr, he⟩ := h
  obtain ⟨kr, ke⟩ := k
  refine ⟨hr.trans kr, ?_⟩
  rw [ke, he]

theorem TimerMoved.of_frame (s : State) (f : FrameTimer) : TimerMoved s { s with frame := f } := ⟨fun _ _ => rfl, rfl⟩

theorem timerMoved_setFlag (s : State) (i : Nat) : TimerMoved s (setFlag s .frame 0x30 i) :=
  ⟨(regsBut_setFlag s .frame 0x30 i).mono (by simp), rfl⟩

theorem timerMoved_of_handed {s t : State} (h : Handed s t) : TimerMoved s t :=
  ⟨h.2.1.mono (by simp), by rw [h.fields]⟩

@[simp] theorem eventAll_frame (s : State) (c a b : Nat) : (eventAll s c a b).frame = s.frame :=
  (handed_eventAll s c a b).frame

theorem leaveLocked_moves (s : State) (l : Lock) : TimerMoved s (leaveLocked s l) :=
  ((TimerMoved.of_frame s _).trans (timerMoved_setFlag _ 3)).trans (timerMoved_of_handed (handed_eventAll _ _ _ _))

theorem frameStatus_not_txFrames : regAddr .frame 0x30 ≠ regAddr .mac 0x50 := by decide

theorem flagUp_leaveLocked (s : State) (l : Lock) : FlagUp (leaveLocked s l) .frame 0x30 3 :=
  (handed_eventAll _ _ _ _).flagUp (flagUp_setFlag _ _ _ 3 (by decide)) frameStatus_not_txFrames

/-- Leaving LOCKED keeps every flag of FRAME_STATUS that was set. -/
theorem FlagUp.leaveLocked {s : State} {i : Nat} (h : FlagUp s .frame 0x30 i) (l : Lock) (hi : i < 64) :
    FlagUp (leaveLocked s l) .frame 0x30 i :=
  (handed_eventAll _ _ _ _).flagUp (FlagUp.setFlag (s := { s with frame := { s.frame with lock := l } }) h 3 hi)
    frameStatus_not_txFrames

@[simp] theorem leaveLocked_frame (s : State) (l : Lock) : (leaveLocked s l).frame = { s.frame with lock := l } := by
  simp [leaveLocked]

/-- From LOCKED a timer without its reference goes to HOLDOVER (R25). -/
def holdIfLocked (s : State) : State := if s.frame.lock = .locked then leaveLocked s .holdover else s

/-- The lock state in which a timer goes on without its reference. -/
def Lock.held (l : Lock) : Lock := if l = .locked then .holdover else l

theorem holdIfLocked_moves (s : State) : TimerMoved s (holdIfLocked s) := by
  unfold holdIfLocked
  split
  · exact leaveLocked_moves s .holdover
  · exact .refl s

@[simp] theorem holdIfLocked_frame (s : State) : (holdIfLocked s).frame = { s.frame with lock := s.frame.lock.held } := by
  unfold holdIfLocked Lock.held
  split
  · simp
  · rfl

theorem flagUp_holdIfLocked {s : State} (h : s.frame.lock = .locked) : FlagUp (holdIfLocked s) .frame 0x30 3 := by
  unfold holdIfLocked
  rw [if_pos h]
  exact flagUp_leaveLocked s .holdover

theorem FlagUp.holdIfLocked {s : State} {i : Nat} (h : FlagUp s .frame 0x30 i) (hi : i < 64) :
    FlagUp (holdIfLocked s) .frame 0x30 i := by
  unfold Machine.holdIfLocked
  split
  · exact h.leaveLocked .holdover hi
  · exact h

/-- The first frame after a reference time begins after it, and no earlier frame does (R22). -/
theorem firstFrameAfter_spec (epoch period ref : Nat) (hp : 0 < period) :
    ref < epoch + firstFrameAfter epoch period ref * period ∧
    ∀ m, m < firstFrameAfter epoch period ref → epoch + m * period ≤ ref := by
  unfold firstFrameAfter
  split
  · exact ⟨by omega, fun m hm => absurd hm (Nat.not_lt_zero m)⟩
  · have hlt := Nat.lt_div_mul_add (a := ref - epoch) hp
    refine ⟨by rw [Nat.add_mul]; omega, fun m hm => ?_⟩
    have hle : m * period ≤ (ref - epoch) / period * period := Nat.mul_le_mul_right _ (by omega)
    have := Nat.div_mul_le_self (ref - epoch) period
    omega

theorem referenced_of {s : State} (he : enabled s .frame = true) (hr : refsel s < 2) : referenced s = true := by
  simp [referenced, he, hr]

theorem lockAcquired_completes (s : State) : Completes .lockAcquired s := by
  show ∃ t, execLockAcquired s = .next t
  unfold execLockAcquired
  split
  · exact ⟨_, rfl⟩
  · exact ⟨_, rfl⟩

theorem referenceAcquired_completes (ref : Nat) (s : State) : Completes (.referenceAcquired ref) s := by
  show ∃ t, execReferenceAcquired ref s = .next t
  unfold execReferenceAcquired
  split
  · exact ⟨_, rfl⟩
  · exact ⟨_, rfl⟩

theorem refLost_completes (s : State) : Completes .refLost s := by
  show ∃ t, execRefLost s = .next t
  unfold execRefLost
  split
  · exact ⟨_, rfl⟩
  · exact ⟨_, rfl⟩

theorem ppsEdge_completes (step : Int) (s : State) : Completes (.ppsEdge step) s := by
  show ∃ t, execPpsEdge step s = .next t
  unfold execPpsEdge
  split
  · split
    · exact ⟨_, rfl⟩
    · exact ⟨_, rfl⟩
  · exact ⟨_, rfl⟩

/-- The reference times that the claim admits are those at which the selected reference can arrive. -/
theorem referenceArrived_of {s : State} {ref : Nat} (hr : refsel s < 2)
    (h1 : refsel s = 1 → ∃ k, s.frame.ppsSecond = some k ∧ k * 1000000000 ≤ ref ∧ ref < (k + 1) * 1000000000)
    (h0 : refsel s = 0 → s.frame.ptp.lastSync ≠ none) : referenceArrived s ref = true := by
  unfold referenceArrived
  split
  · rename_i h
    obtain ⟨k, hk, hlo, hhi⟩ := h1 h
    simp [hk, secondNs, hlo, hhi]
  · exact Option.isSome_iff_ne_none.mpr (h0 (by omega))

theorem referenceAndLockAcquired : Claims.ReferenceAndLockAcquired := by
  refine ⟨lockAcquired_completes, ?_, ?_⟩
  · intro s ref he hr hd ha hp h1 h0
    have harr := referenceArrived_of hr h1 h0
    obtain ⟨hafter, hfirst⟩ := firstFrameAfter_spec (reg s .frame 0x10).toNat (periodUs s * 1000) ref (by omega)
    refine ⟨_, ?_, hafter, hfirst⟩
    show execReferenceAcquired ref s = _
    simp [execReferenceAcquired, referenced_of he hr, hd, ha, harr]
  · intro s he hr hl hg
    show execLockAcquired s = _
    simp [execLockAcquired, referenced_of he hr, hl, hg]

/-- REF_LOST with a reference in use: REF_LOST is flagged and told, and the timer goes on without it. -/
def loseReference (s : State) : State :=
  holdIfLocked (eventAll (setFlag { s with frame := { s.frame with present := false, good := 0 } } .frame 0x30 2) 0x04 0 0)

theorem refLost_does {s : State} (he : enabled s .frame = true) (hr : refsel s < 2) (hp : s.frame.present = true) :
    Does .refLost s (loseReference s) := by
  show execRefLost s = _
  simp [execRefLost, referenced_of he hr, hp, loseReference, holdIfLocked]

theorem loseReference_moves (s : State) : TimerMoved s (loseReference s) :=
  ((TimerMoved.of_frame s _).trans (timerMoved_setFlag _ 2)).trans
    ((timerMoved_of_handed (handed_eventAll _ _ _ _)).trans (holdIfLocked_moves _))

theorem loseReference_frame (s : State) :
    (loseReference s).frame = { s.frame with present := false, good := 0, lock := s.frame.lock.held } := by
  simp [loseReference]

theorem loseReference_flags (s : State) : FlagUp (loseReference s) .frame 0x30 2 ∧
    (s.frame.lock = .locked → FlagUp (loseReference s) .frame 0x30 3) := by
  have hev := (handed_eventAll _ 0x04 0 0).flagUp (flagUp_setFlag { s with frame := { s.frame with present := false, good := 0 } }
    .frame 0x30 2 (by decide)) frameStatus_not_txFrames
  exact ⟨hev.holdIfLocked (by decide), fun hl => flagUp_holdIfLocked (by simpa using hl)⟩

theorem referenceLost : Claims.ReferenceLost := by
  refine ⟨fun s ref step => ⟨refLost_completes s, referenceAcquired_completes ref s, ppsEdge_completes step s⟩, ?_⟩
  intro s he hr hp
  obtain ⟨hregs, hfields⟩ := loseReference_moves s
  obtain ⟨hlost, halign⟩ := loseReference_flags s
  have hframe := loseReference_frame s
  exact ⟨loseReference s, refLost_does he hr hp, by simp [hframe], hlost,
    fun hl => ⟨by simp [hframe, Lock.held, hl], halign hl⟩, fun hl => by simp [hframe, Lock.held, hl], by simp [hframe],
    hregs, hfields⟩

/-! ### The edges of PPS_IN -/

/-- A jump of the reference: TIME_STEP is flagged and told, the run of good frames ends, and a LOCKED timer leaves its
lock. -/
def jump (s : State) (step : Int) : State :=
  let t := eventAll (setFlag s .frame 0x30 4) 0x06 (twos 64 step) 0
  holdIfLocked { t with frame := { t.frame with good := 0 } }

theorem timeStep_small {s : State} {step : Int} (hlo : -1000 ≤ step) (hhi : step ≤ 1000) : timeStep s step = s := by
  unfold timeStep
  exact if_neg (by omega)

theorem timeStep_jump {s : State} {step : Int} (h : step < -1000 ∨ 1000 < step) : timeStep s step = jump s step := by
  unfold timeStep
  exact if_pos (by omega)

theorem jump_moves (s : State) (step : Int) : TimerMoved s (jump s step) :=
  ((timerMoved_setFlag s 4).trans (timerMoved_of_handed (handed_eventAll _ _ _ _))).trans
    ((TimerMoved.of_frame _ _).trans (holdIfLocked_moves _))

theorem jump_frame (s : State) (step : Int) : (jump s step).frame = { s.frame with good := 0, lock := s.frame.lock.held } := by
  simp [jump]

theorem jump_flags (s : State) (step : Int) : FlagUp (jump s step) .frame 0x30 4 ∧
    (s.frame.lock = .locked → FlagUp (jump s step) .frame 0x30 3) := by
  have hev := (handed_eventAll _ 0x06 (twos 64 step) 0).flagUp (flagUp_setFlag s .frame 0x30 4 (by decide))
    frameStatus_not_txFrames
  exact ⟨FlagUp.holdIfLocked (s := { eventAll _ _ _ _ with frame := _ }) hev (by decide),
    fun hl => flagUp_holdIfLocked (by simpa using hl)⟩

theorem ppsEdge_unused {s : State} (step : Int) (h : enabled s .frame = false ∨ refsel s ≠ 1) : Does (.ppsEdge step) s s := by
  show execPpsEdge step s = _
  unfold execPpsEdge
  rw [if_neg]
  rcases h with h | h <;> simp [h]

theorem ppsEdge_first {s : State} (step : Int) (he : enabled s .frame = true) (hr : refsel s = 1)
    (hk : s.frame.ppsSecond = none) :
    Does (.ppsEdge step) s { s with frame := { s.frame with ppsSecond := some (reg s .frame 0x18).toNat, present := true } } := by
  show execPpsEdge step s = _
  simp [execPpsEdge, he, hr, hk]

theorem ppsEdge_next {s : State} (step : Int) {k : Nat} (he : enabled s .frame = true) (hr : refsel s = 1)
    (hk : s.frame.ppsSecond = some k) :
    Does (.ppsEdge step) s (timeStep { s with frame := { s.frame with ppsSecond := some (k + 1), present := true } } step) := by
  show execPpsEdge step s = _
  simp [execPpsEdge, he, hr, hk]

theorem ppsEdge : Claims.PpsEdge := by
  refine ⟨fun s step h => ppsEdge_unused step h, fun s step he hr hk => ppsEdge_first step he hr hk, ?_, ?_⟩
  · intro s step k he hr hk hlo hhi
    have := ppsEdge_next step he hr hk
    rwa [timeStep_small hlo hhi] at this
  · intro s step k he hr hk hj
    have hdoes := ppsEdge_next step he hr hk
    rw [timeStep_jump hj] at hdoes
    obtain ⟨hregs, hfields⟩ := (TimerMoved.of_frame s _).trans (jump_moves _ step)
    obtain ⟨hstep, halign⟩ := jump_flags { s with frame := { s.frame with ppsSecond := some (k + 1), present := true } } step
    exact ⟨_, hdoes, by simp [jump_frame], hstep, fun hl => ⟨by simp [jump_frame, Lock.held, hl], halign hl⟩,
      fun hl => by simp [jump_frame, Lock.held, hl], by simp [jump_frame], by simp [jump_frame], hregs, hfields⟩

/-- Settles O7, by what each event of the reference moves of the frame timer. -/
theorem referenceEvents : Obligations.ReferenceEvents := ⟨referenceAndLockAcquired, referenceLost, ppsEdge⟩

end Sys2Proof.Machine
end

section
namespace Sys2Proof.Machine

/-! ### Register writes -/

/-- A write that a path carries always completes: it is refused, or it acts (R69, R342). -/
theorem writeOn_next (s : State) (path : RegPath) (addr size : Nat) (v : Word) : ∃ t, writeOn s path addr size v = .next t := by
  unfold writeOn
  split
  · exact ⟨_, rfl⟩
  · exact ⟨_, rfl⟩

/-- Over the management path a write's outcome is that of its access. -/
theorem writeOn_mgmt (s : State) (addr size : Nat) (v : Word) : writeOn s .mgmt addr size v =
    .next (emitOut (access s .mgmt true addr size v).1 (.access (access s .mgmt true addr size v).2.1 0)) := rfl

/-- An access with a status other than OK changes nothing. -/
theorem access_refused {s : State} {path : RegPath} {addr size : Nat} {v : Word} {st : Nat}
    (h : accessStatus s path true addr size = st) (hst : st ≠ 0) : access s path true addr size v = (s, st, 0) := by
  unfold access
  rw [h]
  split
  · rfl
  · split
    · rfl
    · simp [hst]

/-- The accesses that answer BUS_ERROR (R69). -/
theorem accessStatus_busError {s : State} {path : RegPath} {addr size : Nat}
    (h : size ≠ 8 ∨ addr % 8 ≠ 0 ∨ decodeAddr addr = none ∨
      ∃ b off, decodeAddr addr = some (b, off) ∧ regDesc b off = none) : accessStatus s path true addr size = 1 := by
  unfold accessStatus
  split
  · rfl
  · rename_i hok
    rcases h with h | h | h | ⟨b, off, ha, hd⟩
    · exact absurd (.inl h) hok
    · exact absurd (.inr h) hok
    · simp [h]
    · simp [ha, hd]

/-- In Vermilion every write but an acknowledgement is denied over the management path (R69, R394). -/
theorem accessStatus_vermilion {s : State} {addr off : Nat} {b : Blk} {d : RegDesc} (hv : s.dev = .vermilion) (ha : addr % 8 = 0)
    (hb : decodeAddr addr = some (b, off)) (hd : regDesc b off = some d) (hack : b ≠ .belfry ∨ off ≠ 0x10) :
    accessStatus s .mgmt true addr 8 = 2 := by
  have hno : ¬(b = .belfry ∧ off = 0x10) := fun ⟨h1, h2⟩ => hack.elim (· h1) (· h2)
  simp [accessStatus, ha, hb, hd, hv, hno]

theorem refusedRegisterWrite : Claims.RefusedRegisterWrite := by
  refine ⟨fun s path addr size v => ⟨writeOn_next s path _ _ v, writeOn_next s path addr size v, writeOn_next s path _ _ v,
    writeOn_next s path _ _ v⟩, ?_, ?_⟩
  · intro s addr size v h
    show writeOn s .mgmt addr size v = _
    rw [writeOn_mgmt, access_refused (accessStatus_busError h) (by decide)]
    rfl
  · intro s addr v b off d hv ha hb hd hack
    show writeOn s .mgmt addr 8 v = _
    rw [writeOn_mgmt, access_refused (accessStatus_vermilion hv ha hb hd hack) (by decide)]
    rfl

/-! ### ENABLE of the frame timer -/

theorem decodeAddr_frameCtrl : decodeAddr (regAddr .frame 0) = some (.frame, 0) := by decide

/-- The description of FRAME_CTRL (R27). -/
def frameCtrlDesc : RegDesc := ⟨0x0, 1, 8, 0x7, 0x0, 0x0, false, false⟩

theorem regDesc_frameCtrl : regDesc .frame 0 = some frameCtrlDesc := by decide

/-- Outside Vermilion and with no image in service FRAME_CTRL takes a management write (R69, R71). -/
theorem access_frameCtrl {s : State} (v : Word) (hv : s.dev ≠ .vermilion) (hi : inService s = false) :
    access s .mgmt true (regAddr .frame 0) 8 v = (writeFrameCtrl s v, 0, 0) := by
  have hst : accessStatus s .mgmt true (regAddr .frame 0) 8 = 0 := by
    simp [accessStatus, decodeAddr_frameCtrl, regDesc_frameCtrl, hv, hi, show regAddr .frame 0 % 8 = 0 by decide]
  unfold access
  rw [hst]
  simp [decodeAddr_frameCtrl, regDesc_frameCtrl, writeReg, saveMgmt, frameCtrlDesc]

/-- With the timer off, a write of FRAME_CTRL with ENABLE set selects the reference and enables the timer. -/
theorem writeFrameCtrl_off {s : State} {v : Word} (he : enabled s .frame = false) (hv : bit v 0 = true) :
    writeFrameCtrl s v = enableFrame (setFld s .frame 0 1 2 (bits v 1 2)) := by
  simp [writeFrameCtrl, he, hv]

theorem bits_lt (w : Word) (lo n : Nat) : bits w lo n < 2 ^ n := Nat.mod_lt _ (Nat.two_pow_pos n)

@[simp] theorem refsel_setRefsel (s : State) (v : Word) : refsel (setFld s .frame 0 1 2 (bits v 1 2)) = bits v 1 2 := by
  unfold refsel fld setFld
  rw [reg_setReg_same, bits_putBits_same _ _ _ _ (by decide)]
  exact Nat.mod_eq_of_lt (bits_lt v 1 2)

@[simp] theorem enabled_setRefsel (s : State) (n : Nat) : enabled (setFld s .frame 0 1 2 n) .frame = enabled s .frame := by
  unfold enabled setFld
  rw [reg_setReg_same, bit_putBits_apart _ _ _ _ _ (by decide) (by decide)]

@[simp] theorem periodUs_setFrameCtrl (s : State) (w : Word) : periodUs (setReg s .frame 0 w) = periodUs s := by
  unfold periodUs fld
  rw [reg_setReg_ne s .frame .frame 0 0x08 w (by decide)]

@[simp] theorem periodUs_setRefsel (s : State) (n : Nat) : periodUs (setFld s .frame 0 1 2 n) = periodUs s :=
  periodUs_setFrameCtrl s _

@[simp] theorem enabled_setEnable (s : State) (b : Blk) : enabled (setEnable s b true) b = true := by
  unfold enabled setEnable setFld
  rw [reg_setReg_same]
  exact bit_putBits_one _ 0 (by decide)

@[simp] theorem refsel_setEnable (s : State) (on : Bool) : refsel (setEnable s .frame on) = refsel s := by
  unfold refsel fld setEnable setFld
  rw [reg_setReg_same, bits_putBits_apart _ _ _ _ _ _ (by decide) (by decide)]

theorem reg_frameCtrl_setStatus (s : State) (i : Nat) : reg (setFlag s .frame 0x30 i) .frame 0 = reg s .frame 0 :=
  reg_setReg_ne s .frame .frame 0x30 0 _ (by decide)

@[simp] theorem refsel_setStatus (s : State) (i : Nat) : refsel (setFlag s .frame 0x30 i) = refsel s := by
  unfold refsel fld
  rw [reg_frameCtrl_setStatus]

@[simp] theorem enabled_setStatus (s : State) (i : Nat) : enabled (setFlag s .frame 0x30 i) .frame = enabled s .frame := by
  unfold enabled
  rw [reg_frameCtrl_setStatus]

/-- Enabling touches only the frame timer, FRAME_CTRL and FRAME_STATUS. -/
theorem enableFrame_touches (s : State) : RegsBut [regAddr .frame 0, regAddr .frame 0x30] s (enableFrame s) ∧
    enableFrame s = { s with frame := (enableFrame s).frame, regs := (enableFrame s).regs } := by
  unfold enableFrame
  split
  · exact ⟨(regsBut_setFld _ .frame 0 0 1 _).mono (by simp), rfl⟩
  · exact ⟨(regsBut_setFlag s .frame 0x30 1).mono (by simp), rfl⟩

theorem refsel_enableFrame (s : State) : refsel (enableFrame s) = refsel s := by
  unfold enableFrame startFrames
  split
  · exact refsel_setEnable _ true
  · exact refsel_setStatus s 1

theorem enableFrame_starts {s : State} (hlo : 100 ≤ periodUs s) (hhi : periodUs s ≤ 4000) (hr : refsel s ≠ 3) :
    enableFrame s = startFrames s := if_pos ⟨hlo, hhi, hr⟩

theorem enableFrame_range {s : State} (h : periodUs s < 100 ∨ 4000 < periodUs s ∨ refsel s = 3) :
    enableFrame s = setFlag s .frame 0x30 1 := if_neg (by omega)

theorem enableFrameTimer : Claims.EnableFrameTimer := by
  intro s v hv hi he hon
  let u := setFld s .frame 0 1 2 (bits v 1 2)
  obtain ⟨hregs, hfields⟩ := enableFrame_touches u
  have hu : RegsBut [regAddr .frame 0, regAddr .frame 0x30] s u := (regsBut_setFld s .frame 0 1 2 _).mono (by simp)
  refine ⟨emitOut (enableFrame u) (.access 0 0), ?_, ?_, ?_, ?_, ?_, hu.trans hregs, ?_⟩
  · show writeOn s .mgmt (regAddr .frame 0) 8 v = _
    rw [writeOn_mgmt, access_frameCtrl v hv hi, writeFrameCtrl_off he hon]
  · rw [hfields]; rfl
  · exact (refsel_enableFrame u).trans (refsel_setRefsel s v)
  · intro hlo hhi hr
    have hstart : enableFrame u = startFrames u := enableFrame_starts (by simpa [u]) (by simpa [u]) (by simpa [u])
    rw [hstart]
    exact ⟨enabled_setEnable _ .frame, rfl, rfl, by simp [startFrames, u]⟩
  · intro h
    have hrange : enableFrame u = setFlag u .frame 0x30 1 := enableFrame_range (by simpa [u])
    rw [hrange]
    exact ⟨(enabled_setStatus u 1).trans ((enabled_setRefsel s _).trans he), flagUp_setFlag u .frame 0x30 1 (by decide), rfl⟩
  · rw [hfields]; rfl

/-- Settles O9, by the cases of ENABLE and of a write's access rules. -/
theorem registerWrites : Obligations.RegisterWrites := ⟨enableFrameTimer, refusedRegisterWrite⟩

end Sys2Proof.Machine
end

section
namespace Sys2Proof.Machine

/-! ### Contexts and their messages -/

/-- The body of a SESSION_REPLY as the statements write it. -/
theorem msg_mem_sessionReply {s : State} {n : Nat} {x : Session} (tag op c q st : Nat) (h : SessionReady s n x) :
    Out.msg n x.firstMsgq 0x86 tag (toLE 1 op ++ toLE 1 c ++ toLE 2 q ++ toLE 1 st ++ zeros 11) (now s) ∈
      (sessionReply s n tag op c q st).out := msg_mem_sendCtl _ _ _ h

theorem handed_sessionReply (s : State) (n tag op c q st : Nat) : Handed s (sessionReply s n tag op c q st) :=
  handed_sendCtl s n _ _ _

theorem Handed.ctxAt {s t : State} (h : Handed s t) (c : Nat) : Machine.ctxAt t c = Machine.ctxAt s c := by
  unfold Machine.ctxAt
  rw [h.sec]

theorem openContext_completes (s : State) (n tag c : Nat) : Completes (.openContext n tag c) s := by
  show ∃ t, execOpenContext n tag c s = .next t
  unfold execOpenContext
  dsimp only
  repeat' split
  all_goals exact ⟨_, rfl⟩

theorem closeContext_completes (s : State) (n tag c : Nat) : Completes (.closeContext n tag c) s := by
  show ∃ t, execCloseContext n tag c s = .next t
  unfold execCloseContext
  dsimp only
  repeat' split
  all_goals exact ⟨_, rfl⟩

theorem bindQueue_completes (s : State) (n tag c q : Nat) : Completes (.bindQueue n tag c q) s := by
  show ∃ t, execBindQueue n tag c q s = .next t
  unfold execBindQueue
  dsimp only
  repeat' split
  all_goals exact ⟨_, rfl⟩

theorem submit_completes (s : State) (n q tag : Nat) (b : SubmitBody) : Completes (.submit n q tag b) s := by
  show ∃ t, execSubmit n q tag b s = .next t
  unfold execSubmit
  dsimp only
  repeat' split
  all_goals exact ⟨_, rfl⟩

/-- A session may open a context: the image has it, the device serves, and the grant table admits the session (R355). -/
structure MayOpen (s : State) (c : Nat) (x : Session) : Prop where
  number : c < 16
  quota : hasQuota s c = true
  serves : serving s = true
  granted : bit (grantOf s c).1 x.endpoint = true
  protectedOk : (grantOf s c).2 = true → x.keys = true

theorem openContext_closed {s : State} {n tag c : Nat} {x : Session} (hx : sessAt s n = some x) (h : MayOpen s c x)
    (hc : ctxAt s c = none) : Does (.openContext n tag c) s (sessionReply (openCtx s n c x) n tag 1 c 0 0) := by
  have hkeys : ¬((grantOf s c).2 = true ∧ x.keys = false) := fun ⟨h1, h2⟩ => by simp [h.protectedOk h1] at h2
  have hnum := h.number
  show execOpenContext n tag c s = _
  simp [execOpenContext, hx, hc, h.quota, h.serves, h.granted, hkeys, show ¬ 15 < c by omega]

theorem openContext_orphan {s : State} {n tag c : Nat} {x : Session} {k : Ctx} (hx : sessAt s n = some x) (h : MayOpen s c x)
    (hc : ctxAt s c = some k) (hst : k.state = .opened) (ho : k.owner = none) (hk : k.confidential = true → x.keys = true) :
    Does (.openContext n tag c) s
      (sessionReply (setCtx s c { k with owner := some n, endpoint := x.endpoint, aged := false }) n tag 1 c 0 0) := by
  have hkeys : ¬((grantOf s c).2 = true ∧ x.keys = false) := fun ⟨h1, h2⟩ => by simp [h.protectedOk h1] at h2
  have hconf : ¬(k.confidential = true ∧ x.keys = false) := fun ⟨h1, h2⟩ => by simp [hk h1] at h2
  have hnum := h.number
  show execOpenContext n tag c s = _
  simp [execOpenContext, hx, hc, h.quota, h.serves, h.granted, hkeys, hst, ho, hconf, show ¬ 15 < c by omega]

/-- Opening a closed context: it is OPEN and the session's, flagged, and its reply leaves. -/
theorem openContext_opens {s : State} {n tag c : Nat} {x : Session} (hx : SessionReady s n x) (h : MayOpen s c x)
    (hc : ctxAt s c = none) :
    ∃ t k, Does (.openContext n tag c) s t ∧ ctxAt t c = some k ∧ k.state = .opened ∧ k.owner = some n ∧
      k.endpoint = x.endpoint ∧ k.confidential = x.keys ∧ (∀ d, d ≠ c → ctxAt t d = ctxAt s d) ∧ FlagUp t .ctx 0x00 1 ∧
      Out.msg n x.firstMsgq 0x86 tag (toLE 1 1 ++ toLE 1 c ++ toLE 2 0 ++ toLE 1 0 ++ zeros 11) (now s) ∈ t.out ∧
      HandedBut [regAddr .ctx 0x00] { s with
        sec := { s.sec with ctxs := t.sec.ctxs }, serv := { s.serv with est := t.serv.est } } t := by
  have hh := handed_sessionReply (openCtx s n c x) n tag 1 c 0 0
  refine ⟨_, _, openContext_closed hx.1 h hc, (hh.ctxAt c).trans (ctxAt_setCtx_same s c _), rfl, rfl, rfl, rfl, fun d hd => ?_,
    hh.flagUp (flagUp_setFlag _ .ctx 0x00 1 (by decide)) (by decide), msg_mem_sessionReply tag 1 c 0 0 hx, ?_⟩
  · exact (hh.ctxAt d).trans (ctxAt_setCtx_ne s c d _ hd)
  · rw [hh.sec, hh.serv]
    exact (handedBut_setFlag _ (b := .ctx) (off := 0x00) 1 (by simp)).trans (hh.handedBut _)

/-- An orphan is adopted: owner and endpoint are the session's, everything else of it stays (R357). -/
theorem openContext_adopts {s : State} {n tag c : Nat} {x : Session} {k : Ctx} (hx : SessionReady s n x) (h : MayOpen s c x)
    (hc : ctxAt s c = some k) (hst : k.state = .opened) (ho : k.owner = none) (hk : k.confidential = true → x.keys = true) :
    ∃ t, Does (.openContext n tag c) s t ∧
      ctxAt t c = some { k with owner := some n, endpoint := x.endpoint, aged := false } ∧
      (∀ d, d ≠ c → ctxAt t d = ctxAt s d) ∧
      Out.msg n x.firstMsgq 0x86 tag (toLE 1 1 ++ toLE 1 c ++ toLE 2 0 ++ toLE 1 0 ++ zeros 11) (now s) ∈ t.out ∧
      Handed { s with sec := { s.sec with ctxs := t.sec.ctxs } } t := by
  have hh := handed_sessionReply (setCtx s c { k with owner := some n, endpoint := x.endpoint, aged := false }) n tag 1 c 0 0
  refine ⟨_, openContext_orphan hx.1 h hc hst ho hk, (hh.ctxAt c).trans (ctxAt_setCtx_same s c _), fun d hd => ?_,
    msg_mem_sessionReply tag 1 c 0 0 hx, ?_⟩
  · exact (hh.ctxAt d).trans (ctxAt_setCtx_ne s c d _ hd)
  · rw [hh.sec]
    exact hh

/-- A context's owner closes it: it is marked, and the reply is owed (R356). -/
theorem closeContext_marks {s : State} {n tag c : Nat} {x : Session} {k : Ctx} (hx : sessAt s n = some x) (hn : c < 16)
    (hc : ctxAt s c = some k) (ho : k.owner = some n) (hs : k.state ≠ .slate) :
    Does (.closeContext n tag c) s (setCtx s c { k with closing := true, replies := k.replies ++ [(n, tag)] }) := by
  show execCloseContext n tag c s = _
  simp [execCloseContext, hx, hc, ho, hs, show ¬ 15 < c by omega]

/-- A storage queue of the session is bound, to the management path or to a context that the session owns (R337). -/
theorem bindQueue_binds {s : State} {n tag c q : Nat} {x : Session} (hx : sessAt s n = some x)
    (hq : x.storqs.contains q = true)
    (h : (c = 0xFF ∧ epPriv s x.endpoint = true) ∨
      (c < 16 ∧ ∃ k, ctxAt s c = some k ∧ k.owner = some n ∧ k.state ≠ .slate)) :
    Does (.bindQueue n tag c q) s
      (sessionReply { s with flash := { s.flash with queues := tset s.flash.queues q c } } n tag 3 c q 0) := by
  have hmem : q ∈ x.storqs := by simpa using hq
  show execBindQueue n tag c q s = _
  rcases h with ⟨rfl, hp⟩ | ⟨hn, k, hc, ho, hs⟩
  · simp [execBindQueue, hx, hp, hmem]
  · simp [execBindQueue, hx, hmem, hc, ho, hs, show ¬ 15 < c by omega, show c ≠ 255 by omega]

/-- REFUSE leaves on the submission's queue and is counted. -/
theorem msg_mem_refuseMsg {s : State} {x : Submission} {y : Session} (reason earliest : Nat)
    (hy : sessAt s x.session = some y) (hq : (tget y.queues x.queue).isSome = true) :
    Out.msg x.session x.queue 0x82 x.tag (toLE 1 reason ++ zeros 7 ++ toLE 8 earliest) (now s) ∈
      (refuseMsg s x reason earliest).out := msg_mem_sendMsg 0x82 x.tag _ hy hq

theorem counted_refuseMsg (s : State) (x : Submission) (reason earliest : Nat) :
    Counted s (refuseMsg s x reason earliest) .admission 0x18 1 := by
  have hc := counted_bump (sendMsg s x.session x.queue 0x82 x.tag (toLE 1 reason ++ zeros 7 ++ toLE 8 earliest))
    .admission 0x18 1
  unfold Counted at hc ⊢
  rwa [(handed_sendMsg s _ _ _ _ _).reg .admission 0x18 (by decide)] at hc

theorem handedBut_refuseMsg (s : State) (x : Submission) (reason earliest : Nat) :
    HandedBut [regAddr .admission 0x18] s (refuseMsg s x reason earliest) :=
  ((handed_sendMsg s _ _ _ _ _).handedBut _).trans (handedBut_bump _ 1 (by simp))

theorem submit_serving {s : State} {n q tag : Nat} {b : SubmitBody} {x : Session} (hx : sessAt s n = some x)
    (hq : (tget x.queues q).isSome = true) (h64 : 64 ≤ q) (hs : serving s = true) :
    let d := takeDelivered s n q 0x02 tag
    Does (.submit n q tag b) s { s with
      port := { s.port with delivered := d.2 },
      adm := { s.adm with subs := s.adm.subs ++
        [{ session := n, queue := q, tag := tag, stamp := (d.1.map (·.stamp)).getD 0, body := b }] } } := by
  have hu : serving { s with port := { s.port with delivered := (takeDelivered s n q 0x02 tag).2 } } = true := hs
  show execSubmit n q tag b s = _
  simp [execSubmit, hx, Option.isSome_iff_ne_none.mp hq, isStorq, show ¬ q < 64 by omega, hu]

theorem submit_refused {s : State} {n q tag : Nat} {b : SubmitBody} {x : Session} (hx : sessAt s n = some x)
    (hq : (tget x.queues q).isSome = true) (h64 : 64 ≤ q) (hs : serving s = false) :
    let d := takeDelivered s n q 0x02 tag
    Does (.submit n q tag b) s (refuseMsg { s with port := { s.port with delivered := d.2 } }
      { session := n, queue := q, tag := tag, stamp := (d.1.map (·.stamp)).getD 0, body := b } 0x07 0) := by
  have hu : serving { s with port := { s.port with delivered := (takeDelivered s n q 0x02 tag).2 } } = false := hs
  show execSubmit n q tag b s = _
  simp [execSubmit, hx, Option.isSome_iff_ne_none.mp hq, isStorq, show ¬ q < 64 by omega, hu]

/-- Settles O42, by what each message leaves and what it hands out. -/
theorem contextMessages : Obligations.ContextMessages := by
  refine ⟨fun s n tag c q b => ⟨openContext_completes s n tag c, closeContext_completes s n tag c,
    bindQueue_completes s n tag c q, submit_completes s n q tag b⟩, ?_, ?_, ?_, ?_⟩
  · intro s n tag c x hx hn hquota hs hg hp
    have hmay : MayOpen s c x := ⟨hn, hquota, hs, hg, hp⟩
    exact ⟨openContext_opens hx hmay, fun k => openContext_adopts hx hmay⟩
  · intro s n tag c x k hx hn hc ho hs
    exact ⟨_, closeContext_marks hx hn hc ho hs, ctxAt_setCtx_same s c _, fun d => ctxAt_setCtx_ne s c d _, rfl⟩
  · intro s n tag c q x hx hq h
    have hh := handed_sessionReply { s with flash := { s.flash with queues := tset s.flash.queues q c } } n tag 3 c q 0
    refine ⟨_, bindQueue_binds hx.1 hq h, by rw [hh.flash]; simp, fun r hr => by rw [hh.flash]; exact tget_tset_ne _ _ _ _ hr,
      msg_mem_sessionReply (s := { s with flash := _ }) tag 3 c q 0 hx, ?_⟩
    rw [hh.flash]
    exact hh
  · intro s n q tag b x hx hq h64
    refine ⟨fun hs => submit_serving hx hq h64 hs, fun hs => ⟨_, submit_refused hx hq h64 hs, ?_, ?_, ?_⟩⟩
    · exact msg_mem_refuseMsg (s := { s with port := _ }) 0x07 0 hx hq
    · exact counted_refuseMsg { s with port := _ } _ 0x07 0
    · exact handedBut_refuseMsg { s with port := _ } _ 0x07 0

end Sys2Proof.Machine
end

section
namespace Sys2Proof.Machine

/-! ### Admission -/

/-- A module that wakes changes FLASH and the sequencer's queue, nothing else. -/
@[simp] theorem wake_reqs (s : State) (m : Nat) : (wake s m).reqs = s.reqs := by
  unfold wake
  repeat' split
  all_goals rfl

@[simp] theorem wake_port (s : State) (m : Nat) : (wake s m).port = s.port := by
  unfold wake
  repeat' split
  all_goals rfl

@[simp] theorem wake_frame (s : State) (m : Nat) : (wake s m).frame = s.frame := by
  unfold wake
  repeat' split
  all_goals rfl

/-- A part of the state that each step of a fold keeps is kept by the fold. -/
theorem foldl_keeps {α β : Type} (p : State → β) (f : State → α → State) (h : ∀ s x, p (f s x) = p s) (l : List α) (s : State) :
    p (l.foldl f s) = p s := by
  induction l generalizing s with
  | nil => rfl
  | cons x l ih => exact (ih (f s x)).trans (h s x)

theorem orderFit_keeps {β : Type} (p : State → β) (hw : ∀ s m, p (wake s m) = p s)
    (ha : ∀ (s : State) (x : Admission), p { s with adm := x } = p s) (s : State) (a : Ask) (f : Fit) : p (orderFit s a f) = p s := by
  unfold orderFit
  rw [ha]
  split
  · exact foldl_keeps p wake hw _ s
  · rfl

@[simp] theorem orderFit_reqs (s : State) (a : Ask) (f : Fit) : (orderFit s a f).reqs = s.reqs :=
  orderFit_keeps State.reqs wake_reqs (fun _ _ => rfl) s a f

@[simp] theorem orderFit_port (s : State) (a : Ask) (f : Fit) : (orderFit s a f).port = s.port :=
  orderFit_keeps State.port wake_port (fun _ _ => rfl) s a f

@[simp] theorem orderFit_frame (s : State) (a : Ask) (f : Fit) : (orderFit s a f).frame = s.frame :=
  orderFit_keeps State.frame wake_frame (fun _ _ => rfl) s a f

/-- A fit is a fit at the start frame asked for. -/
theorem fits_start {s : State} {a : Ask} {n s0 : Nat} {f : Fit} (h : fits s a n s0 = some f) : f.start = s0 := by
  unfold fits at h
  dsimp only at h
  split at h
  · split at h
    · exact (Option.some.inj h) ▸ rfl
    · cases h
  · cases h

/-- What the search for a start frame finds is the first that fits, within the horizon (R36). -/
theorem search_finds_first {s : State} {a : Ask} {n fuel s0 : Nat} {f : Fit} (h : search_ s a n fuel s0 = some f) :
    s0 ≤ f.start ∧ fits s a n f.start = some f ∧ f.start + planSpan a.plan + 2 ≤ n + 4096 ∧
    ∀ k, s0 ≤ k → k < f.start → fits s a n k = none := by
  induction fuel generalizing s0 with
  | zero => cases h
  | succ fuel ih =>
    unfold search_ at h
    split at h
    · cases h
    · rename_i hroom
      split at h
      next g hfit =>
        obtain rfl : g = f := Option.some.inj h
        have hstart := fits_start hfit
        exact ⟨hstart.ge, by rw [hstart]; exact hfit, by omega, fun k hk hlt => by omega⟩
      next hnone =>
        obtain ⟨hle, hfit, hhor, hfirst⟩ := ih h
        refine ⟨by omega, hfit, hhor, fun k hk hlt => ?_⟩
        rcases Nat.eq_or_lt_of_le hk with rfl | hk
        · exact hnone
        · exact hfirst k hk hlt

theorem le_firstGap {α : Type} (t : Table α) (k : Nat) : k ≤ firstGap t k := by
  induction t generalizing k with
  | nil => exact Nat.le_refl k
  | cons e r ih =>
    unfold firstGap
    split
    · exact Nat.le_of_succ_le (ih (k + 1))
    · exact Nat.le_refl k

/-- The first gap of a table in rising order is no key of it, and every number before is one. -/
theorem firstGap_spec {α : Type} (t : Table α) (k : Nat) (h : keysAbove k t = true) :
    tget t (firstGap t k) = none ∧ ∀ j, k ≤ j → j < firstGap t k → tget t j ≠ none := by
  induction t generalizing k with
  | nil => exact ⟨rfl, fun j h1 h2 => absurd h2 (Nat.not_lt.mpr h1)⟩
  | cons e r ih =>
    obtain ⟨i, v⟩ := e
    simp only [keysAbove, Bool.and_eq_true, decide_eq_true_eq] at h
    obtain ⟨hle, hr⟩ := h
    unfold firstGap
    split
    · rename_i hik
      subst hik
      obtain ⟨hgap, hbelow⟩ := ih (i + 1) hr
      have hne : firstGap r (i + 1) ≠ i := by
        have := le_firstGap r (i + 1)
        omega
      refine ⟨?_, fun j hj hlt => ?_⟩
      · simpa [tget, hne] using hgap
      · by_cases hji : j = i
        · simp [tget, hji]
        · simpa [tget, hji] using hbelow j (by omega) hlt
    · rename_i hik
      refine ⟨?_, fun j h1 h2 => by omega⟩
      exact tget_below _ k (k + 1) (by simp [keysAbove, hr]; omega) (by omega)

/-- The lowest FREE entry is free, and every lower entry is occupied (R241). -/
theorem freeEntry_spec {s : State} {e : Nat} (h : freeEntry s = some e) (hs : Table.sorted s.reqs = true) :
    reqAt s e = none ∧ ∀ k, k < e → reqAt s k ≠ none := by
  unfold freeEntry at h
  dsimp only at h
  split at h
  · obtain rfl := Option.some.inj h
    obtain ⟨hgap, hbelow⟩ := firstGap_spec s.reqs 0 hs
    exact ⟨hgap, fun k hk => hbelow k (Nat.zero_le k) hk⟩
  · cases h

theorem decideNew_refused {s : State} {x : Submission} {reason : Nat} (h : staticCheck s x = .inl reason) :
    decideNew s x = refuseMsg s x reason 0 := by
  simp [decideNew, h]

/-- A submission whose search finds a fit within its deadline takes the lowest FREE entry (R36, R37). -/
theorem decideNew_accepts {s : State} {x : Submission} {a : Ask} {f : Fit} {e : Nat} (hc : staticCheck s x = .inr a)
    (hf : search_ s a (now s) 4096 (now s + 1 + swapDelay s a.gen) = some f) (he : freeEntry s = some e)
    (hd : x.body.deadline = 0 ∨ f.start + planSpan a.plan + 2 ≤ x.body.deadline) :
    let r := newRequest s x f (f.start + planSpan a.plan + 2)
    ∃ l, decideNew s x = { acceptMsg (setReq (orderFit s a f) e r) e r with
      adm := { (acceptMsg (setReq (orderFit s a f) e r) e r).adm with auditCopy := l } } := by
  have hdl : ¬(x.body.deadline ≠ 0 ∧ x.body.deadline < f.start + planSpan a.plan + 2) := by omega
  simp only [decideNew, hc, hf, he, if_neg hdl]
  exact ⟨_, rfl⟩

theorem acceptMsg_reqs (s : State) (e : Nat) (r : Request) : (acceptMsg s e r).reqs = s.reqs := (handed_sendMsg s _ _ _ _ _).reqs

theorem msg_mem_acceptMsg {s : State} {e : Nat} {r : Request} {y : Session} (hy : sessAt s r.session = some y)
    (hq : (tget y.queues r.queue).isSome = true) :
    Out.msg r.session r.queue 0x81 r.tag (toLE 8 (handle e r) ++ toLE 8 r.promised ++
      toLE 1 (if r.elastic then 1 else 0) ++ zeros 7) (now s) ∈ (acceptMsg s e r).out := msg_mem_sendMsg 0x81 r.tag _ hy hq

/-- Settles O57: the search ends at the first frame that fits, and the pass orders nothing but what the fit needs. -/
theorem admissionDecides : Obligations.AdmissionDecides := by
  refine ⟨fun s x a f e y hc hf he hd hy hq => ?_, fun s x reason y hc hy hq => ?_⟩
  · obtain ⟨hle, hfit, hhor, hfirst⟩ := search_finds_first hf
    obtain ⟨l, hnew⟩ := decideNew_accepts hc hf he hd
    have hreqs : (decideNew s x).reqs = tset s.reqs e (newRequest s x f (f.start + planSpan a.plan + 2)) := by
      rw [hnew]
      simp [acceptMsg_reqs]
    refine ⟨hfit, hle, hfirst, hhor, freeEntry_spec he, ?_, rfl, fun k hk => ?_, ?_⟩
    · rw [reqAt, hreqs, tget_tset_same]
    · rw [reqAt, hreqs, tget_tset_ne _ _ _ _ hk, reqAt]
    · have hnow : now (setReq (orderFit s a f) e (newRequest s x f (f.start + planSpan a.plan + 2))) = now s := by
        simp [now]
      have hsess : sessAt (setReq (orderFit s a f) e (newRequest s x f (f.start + planSpan a.plan + 2))) x.session = some y := by
        simpa [sessAt] using hy
      rw [hnew, ← hnow]
      exact msg_mem_acceptMsg hsess hq
  · rw [decideNew_refused hc]
    exact ⟨(handed_sendMsg s _ _ _ _ _).reqs, counted_refuseMsg s x reason 0, msg_mem_refuseMsg reason 0 hy hq⟩

end Sys2Proof.Machine
end

section
namespace Sys2Proof.Machine

/-! ### Completion -/

/-- A request is occupied and its completion has not been handed over. -/
def Unsent (s : State) (e : Nat) : Prop := ∃ r, reqAt s e = some r ∧ r.sentFrame = none

theorem Handed.reqAt {s t : State} (h : Handed s t) (e : Nat) : reqAt t e = reqAt s e := by
  unfold Machine.reqAt
  rw [h.reqs]

/-- The state of a completion before its message leaves: the entry is written and the outcome counted. -/
def completed (s : State) (e status : Nat) (r : Request) : State :=
  let u := setReq s e { r with sentFrame := some (now s), status := status, state := if status = stDone then r.state else .ending }
  if status = stBreached then bump u .admission 0x30 1
  else if status = stAbandoned then bump u .admission 0x38 1
  else if status = stFault ∧ r.gen.isSome then setFlag u .reqtab 0x08 3 else u

theorem complete_eq {s : State} {e status : Nat} {r : Request} (hr : reqAt s e = some r) (hs : r.sentFrame = none) :
    ∃ body, complete s e status = sendMsg (completed s e status r) r.session r.queue 0x84 r.tag body := by
  unfold complete
  simp only [hr, hs]
  exact ⟨_, rfl⟩

@[simp] theorem completed_reqs (s : State) (e status : Nat) (r : Request) : (completed s e status r).reqs = tset s.reqs e
    { r with sentFrame := some (now s), status := status, state := if status = stDone then r.state else .ending } := by
  unfold completed
  dsimp only
  repeat' split
  all_goals rfl

/-- Completing a request touches its entry, the counters of R46 and GEN_FAULT, and hands COMPLETE out. -/
theorem completed_fields (s : State) (e status : Nat) (r : Request) :
    completed s e status r = { s with reqs := (completed s e status r).reqs, regs := (completed s e status r).regs } := by
  unfold completed
  dsimp only
  repeat' split
  all_goals rfl

/-- A request that had not completed completes now with the status given (R241, R340). -/
theorem reqAt_complete {s : State} {e : Nat} (status : Nat) {r : Request} (hr : reqAt s e = some r) (hs : r.sentFrame = none) :
    reqAt (complete s e status) e = some { r with
      sentFrame := some (now s), status := status, state := if status = stDone then r.state else .ending } := by
  obtain ⟨body, hc⟩ := complete_eq (status := status) hr hs
  rw [hc, (handed_sendMsg _ _ _ _ _ _).reqAt, reqAt, completed_reqs, tget_tset_same]

theorem reqAt_complete_ne (s : State) (e status k : Nat) (hk : k ≠ e) : reqAt (complete s e status) k = reqAt s k := by
  cases hr : reqAt s e with
  | none => simp [complete, hr]
  | some r =>
    cases hs : r.sentFrame with
    | some f => simp [complete, hr, hs]
    | none =>
      obtain ⟨body, hc⟩ := complete_eq (status := status) hr hs
      rw [hc, (handed_sendMsg _ _ _ _ _ _).reqAt, reqAt, completed_reqs, tget_tset_ne _ _ _ _ hk, reqAt]

/-- What a completion leaves unchanged: every part of the state but requests, registers, outputs and sessions. -/
theorem complete_fields (s : State) (e status : Nat) : complete s e status = { s with
    reqs := (complete s e status).reqs, regs := (complete s e status).regs, out := (complete s e status).out,
    port := { s.port with sessions := (complete s e status).port.sessions } } := by
  cases hr : reqAt s e with
  | none => simp [complete, hr]
  | some r =>
    cases hs : r.sentFrame with
    | some f => simp [complete, hr, hs]
    | none =>
      obtain ⟨body, hc⟩ := complete_eq (status := status) hr hs
      have hh := (handed_sendMsg (completed s e status r) r.session r.queue 0x84 r.tag body).fields
      rw [← hc, completed_fields] at hh
      rw [hh]

@[simp] theorem complete_hold (s : State) (e status : Nat) : (complete s e status).hold = s.hold := by
  rw [complete_fields]

@[simp] theorem complete_frame (s : State) (e status : Nat) : (complete s e status).frame = s.frame := by
  rw [complete_fields]

/-! ### Release -/

@[simp] theorem sendPiece_hold (s : State) (e : Nat) (last : Bool) (bs : List Byte) : (sendPiece s e last bs).hold = s.hold := by
  unfold sendPiece
  split
  · rfl
  · exact (handed_sendMsg _ _ _ _ _ _).hold

@[simp] theorem sendPiece_frame (s : State) (e : Nat) (last : Bool) (bs : List Byte) : (sendPiece s e last bs).frame = s.frame := by
  unfold sendPiece
  split
  · rfl
  · exact (handed_sendMsg _ _ _ _ _ _).frame

theorem reqAt_sendPiece_ne (s : State) (e k : Nat) (last : Bool) (bs : List Byte) (hk : k ≠ e) :
    reqAt (sendPiece s e last bs) k = reqAt s k := by
  unfold sendPiece
  split
  · rfl
  · exact ((handed_sendMsg _ _ _ _ _ _).reqAt k).trans (reqAt_setReq_ne s e k _ hk)

/-- Sending a piece of a result does not complete the request. -/
theorem Unsent.sendPiece {s : State} {e : Nat} (h : Unsent s e) (last : Bool) (bs : List Byte) :
    Unsent (sendPiece s e last bs) e := by
  obtain ⟨r, hr, hs⟩ := h
  unfold Machine.sendPiece
  simp only [hr]
  exact ⟨_, ((handed_sendMsg _ _ _ _ _ _).reqAt e).trans (reqAt_setReq_same s e _), hs⟩

@[simp] theorem sendFragment_hold (s : State) (e : Nat) (last : Bool) (bs : List Byte) : (sendFragment s e last bs).hold = s.hold := by
  unfold sendFragment
  exact foldl_keeps State.hold _ (fun u q => sendPiece_hold u e _ _) _ s

@[simp] theorem sendFragment_frame (s : State) (e : Nat) (last : Bool) (bs : List Byte) :
    (sendFragment s e last bs).frame = s.frame := by
  unfold sendFragment
  exact foldl_keeps State.frame _ (fun u q => sendPiece_frame u e _ _) _ s

theorem reqAt_sendFragment_ne (s : State) (e k : Nat) (last : Bool) (bs : List Byte) (hk : k ≠ e) :
    reqAt (sendFragment s e last bs) k = reqAt s k := by
  unfold sendFragment
  exact foldl_keeps (fun u => reqAt u k) _ (fun u q => reqAt_sendPiece_ne u e k _ _ hk) _ s

theorem Unsent.sendFragment {s : State} {e : Nat} (h : Unsent s e) (last : Bool) (bs : List Byte) :
    Unsent (sendFragment s e last bs) e := by
  unfold Machine.sendFragment
  exact List.foldlRecOn (motive := fun u => Unsent u e) _ _ h fun _ hu _ _ => hu.sendPiece _ _

/-- A fragment of entry `e` whose three frames are over (R40). -/
def dueNow (s : State) (e : Nat) (f : Fragment) : Bool := decide (f.entry = e) && decide (f.frame + 3 ≤ now s)

/-- The state after the due fragments of a request have left the result hold. -/
def releaseDue (s : State) (e : Nat) (ends : Bool) (due : List Fragment) : State :=
  ((List.range due.length).zip due).foldl
    (fun s q => sendFragment s e (ends && decide (q.1 + 1 = due.length)) q.2.bytes)
    { s with hold := s.hold.filter (fun f => !dueNow s e f) }

theorem releaseDue_hold (s : State) (e : Nat) (ends : Bool) (due : List Fragment) :
    (releaseDue s e ends due).hold = s.hold.filter (fun f => !dueNow s e f) := by
  unfold releaseDue
  exact foldl_keeps State.hold _ (fun u q => sendFragment_hold u e _ _) _ _

theorem releaseDue_now (s : State) (e : Nat) (ends : Bool) (due : List Fragment) : now (releaseDue s e ends due) = now s := by
  unfold releaseDue
  exact foldl_keeps now _ (fun u q => congrArg FrameTimer.count (sendFragment_frame u e _ _)) _ _

theorem reqAt_releaseDue_ne (s : State) (e k : Nat) (ends : Bool) (due : List Fragment) (hk : k ≠ e) :
    reqAt (releaseDue s e ends due) k = reqAt s k := by
  unfold releaseDue
  exact foldl_keeps (fun u => reqAt u k) _ (fun u q => reqAt_sendFragment_ne u e k _ _ hk) _ _

theorem unsent_releaseDue {s : State} {e : Nat} (h : Unsent s e) (ends : Bool) (due : List Fragment) :
    Unsent (releaseDue s e ends due) e := by
  unfold releaseDue
  exact List.foldlRecOn (motive := fun u => Unsent u e) _ _ h fun _ hu _ _ => hu.sendFragment _ _

/-- The release decision on a running request: its due fragments leave, and it completes with DONE once its last payload
is due and none of its fragments stays (R40, R41). -/
theorem releaseEntry_running {s : State} {e : Nat} {r : Request} (hr : reqAt s e = some r) (hst : r.state ≠ .ending)
    (hs : r.sentFrame = none) : ∃ ends due, releaseEntry s e =
      if r.produced.any (fun p => decide (p + 3 ≤ now s)) &&
          ((s.hold.filter (fun f => decide (f.entry = e))).filter (fun f => !decide (f.frame + 3 ≤ now s))).isEmpty
      then complete (releaseDue s e ends due) e stDone else releaseDue s e ends due := by
  unfold releaseEntry
  simp only [hr, hs, hst]
  exact ⟨_, _, rfl⟩

/-- Whatever a running request completes, its release leaves exactly what is not due in the result hold. -/
theorem releaseEntry_hold {s : State} {e : Nat} {r : Request} (hr : reqAt s e = some r) (hst : r.state ≠ .ending)
    (hs : r.sentFrame = none) : (releaseEntry s e).hold = s.hold.filter (fun f => !dueNow s e f) := by
  obtain ⟨ends, due, heq⟩ := releaseEntry_running hr hst hs
  rw [heq]
  split
  · rw [complete_hold, releaseDue_hold]
  · exact releaseDue_hold s e ends due

theorem reqAt_releaseEntry_ne {s : State} {e k : Nat} {r : Request} (hr : reqAt s e = some r) (hst : r.state ≠ .ending)
    (hs : r.sentFrame = none) (hk : k ≠ e) : reqAt (releaseEntry s e) k = reqAt s k := by
  obtain ⟨ends, due, heq⟩ := releaseEntry_running hr hst hs
  rw [heq]
  split
  · exact (reqAt_complete_ne _ e stDone k hk).trans (reqAt_releaseDue_ne s e k ends due hk)
  · exact reqAt_releaseDue_ne s e k ends due hk

/-- A running request whose last payload and every fragment are due completes with DONE in this frame (R41). -/
theorem releaseEntry_done {s : State} {e : Nat} {r : Request} (hr : reqAt s e = some r) (hst : r.state ≠ .ending)
    (hs : r.sentFrame = none) (hdue : ∀ f ∈ s.hold, f.entry = e → f.frame + 3 ≤ now s)
    (hp : ∃ p, r.produced = some p ∧ p + 3 ≤ now s) :
    ∃ q, reqAt (releaseEntry s e) e = some q ∧ q.sentFrame = some (now s) ∧ q.status = 0 := by
  obtain ⟨ends, due, heq⟩ := releaseEntry_running hr hst hs
  obtain ⟨p, hprod, hple⟩ := hp
  have hempty : (s.hold.filter (fun f => decide (f.entry = e))).filter (fun f => !decide (f.frame + 3 ≤ now s)) = [] :=
    List.filter_eq_nil_iff.mpr fun f hf => by
      obtain ⟨hmem, he⟩ := List.mem_filter.mp hf
      simpa using hdue f hmem (by simpa using he)
  obtain ⟨q, hq, hqs⟩ := unsent_releaseDue (e := e) ⟨r, hr, hs⟩ ends due
  rw [heq, hempty, hprod]
  simp only [Option.any_some, hple, decide_true, List.isEmpty_nil, Bool.and_self, if_true]
  exact ⟨_, reqAt_complete stDone hq hqs, congrArg some (releaseDue_now s e ends due), rfl⟩

theorem releaseAll_closed {s : State} (h : s.belfry.gateClosed = true) : releaseAll s = s := if_pos h

/-- Settles O56, by what the release of one entry holds back and completes. -/
theorem releaseDecision : Obligations.ReleaseDecision := by
  refine ⟨fun s h => releaseAll_closed h, fun s e r hr hst hs => ⟨?_, ?_, releaseEntry_done hr hst hs,
    fun k hk => reqAt_releaseEntry_ne hr hst hs hk⟩⟩
  · intro f hf
    rw [releaseEntry_hold hr hst hs] at hf
    obtain ⟨hmem, hkeep⟩ := List.mem_filter.mp hf
    exact ⟨hmem, fun he => by simpa [dueNow, he] using hkeep⟩
  · intro f hf hkeep
    rw [releaseEntry_hold hr hst hs]
    refine List.mem_filter.mpr ⟨hf, ?_⟩
    rcases hkeep with h | h
    · simp [dueNow, h]
    · simp [dueNow, h]

end Sys2Proof.Machine
end

section
namespace Sys2Proof.Machine

/-! ### Events reach every session -/

/-- Every session stays open with its control queue and its queues. -/
def KeepsQueues (s t : State) : Prop :=
  ∀ n x, sessAt s n = some x → ∃ y, sessAt t n = some y ∧ y.firstMsgq = x.firstMsgq ∧
    ∀ q, (tget x.queues q).isSome = true → (tget y.queues q).isSome = true

theorem KeepsQueues.refl (s : State) : KeepsQueues s s := fun _ x hx => ⟨x, hx, rfl, fun _ h => h⟩

theorem KeepsQueues.trans {s t u : State} (h : KeepsQueues s t) (k : KeepsQueues t u) : KeepsQueues s u := by
  intro n x hx
  obtain ⟨y, hy, hyf, hyq⟩ := h n x hx
  obtain ⟨z, hz, hzf, hzq⟩ := k n y hy
  exact ⟨z, hz, hzf.trans hyf, fun q hq => hzq q (hyq q hq)⟩

/-- Writing one queue of an open session keeps every session's queues. -/
theorem keepsQueues_setSess {s : State} {n : Nat} {x : Session} (hx : sessAt s n = some x) (q : Nat) (y : QueueSt) :
    KeepsQueues s (setSess s n { x with queues := tset x.queues q y }) := by
  intro m z hz
  by_cases hm : m = n
  · subst hm
    obtain rfl : x = z := Option.some.inj (hx.symm.trans hz)
    refine ⟨_, sessAt_setSess_same s m _, rfl, fun p hp => ?_⟩
    by_cases hpq : p = q
    · subst hpq; simp
    · rwa [tget_tset_ne _ _ _ _ hpq]
  · exact ⟨z, (sessAt_setSess_ne s n m _ hm).trans hz, rfl, fun _ h => h⟩

theorem keepsQueues_sendPacket {s : State} {n : Nat} {x : Session} (hx : sessAt s n = some x) (q : Nat) (y : QueueSt) :
    KeepsQueues s (sendPacket s n q x y) := keepsQueues_setSess hx q _

theorem keepsQueues_pump (n q fuel : Nat) (s : State) : KeepsQueues s (pump s n q fuel) := by
  induction fuel generalizing s with
  | zero => exact .refl s
  | succ k ih =>
    unfold pump
    split
    · exact .refl s
    · rename_i x hx
      split
      · exact .refl s
      · split
        · exact (keepsQueues_sendPacket hx q _).trans (ih _)
        · exact .refl s

theorem keepsQueues_pumpAll (s : State) (n q : Nat) : KeepsQueues s (pumpAll s n q) := by
  unfold pumpAll
  split
  · exact .refl s
  · split
    · exact .refl s
    · exact keepsQueues_pump n q _ s

theorem keepsQueues_sendMsg (s : State) (n q type tag : Nat) (body : List Byte) :
    KeepsQueues s (sendMsg s n q type tag body) := by
  unfold sendMsg
  split
  · exact .refl s
  · rename_i x hx
    split
    · exact .refl s
    · refine KeepsQueues.trans ?_ (keepsQueues_pumpAll _ n q)
      exact keepsQueues_setSess hx q _

theorem keepsQueues_eventTo (s : State) (n code a b : Nat) : KeepsQueues s (eventTo s n code a b) := by
  unfold eventTo sendCtl
  split
  · exact .refl s
  · exact keepsQueues_sendMsg s n _ _ _ _

theorem sessionReady_kept {s t : State} {n : Nat} {x : Session} (h : SessionReady s n x) (k : KeepsQueues s t) :
    ∃ y, SessionReady t n y ∧ y.firstMsgq = x.firstMsgq := by
  obtain ⟨y, hy, hyf, hyq⟩ := k n x h.1
  exact ⟨y, ⟨hy, by rw [hyf]; exact hyq _ h.2⟩, hyf⟩

/-- An event sent to sessions one after another reaches each of them that is open. -/
theorem msg_mem_events {l : List Nat} {s : State} {n : Nat} {x : Session} (code a b : Nat) (hn : n ∈ l) (h : SessionReady s n x) :
    Out.msg n x.firstMsgq 0x85 0 (eventBody s code a b) (now s) ∈ (l.foldl (fun s n => eventTo s n code a b) s).out := by
  induction l generalizing s x with
  | nil => cases hn
  | cons m l ih =>
    have hfold := Handed.foldl (fun s n => eventTo s n code a b) (fun s n => handed_eventTo s n code a b) l (eventTo s m code a b)
    by_cases hm : n = m
    · subst hm
      exact hfold.mem_out (msg_mem_sendCtl 0x85 0 _ h)
    · obtain ⟨y, hy, hyf⟩ := sessionReady_kept h (keepsQueues_eventTo s m code a b)
      have hnow : now (eventTo s m code a b) = now s := (handed_eventTo s m code a b).now
      have hmsg := ih ((List.mem_cons.mp hn).resolve_left hm) hy
      rwa [hyf, hnow, eventBody, hnow] at hmsg

theorem mem_of_tget {α : Type} {t : Table α} {k : Nat} {v : α} (h : tget t k = some v) : (k, v) ∈ t := by
  induction t with
  | nil => cases h
  | cons e r ih =>
    obtain ⟨j, w⟩ := e
    unfold tget at h
    split at h
    · rename_i hk
      obtain rfl := Option.some.inj h
      exact hk ▸ List.mem_cons_self ..
    · exact List.mem_cons_of_mem _ (ih h)

theorem mem_hostSessions {s : State} {n : Nat} {x : Session} (h : sessAt s n = some x) (hm : x.mine = false) :
    n ∈ hostSessions s :=
  List.mem_map.mpr ⟨(n, x), List.mem_filter.mpr ⟨mem_of_tget h, by simp [hm]⟩, rfl⟩

/-- An event to every session reaches each session that an endpoint opened (R344). -/
theorem msg_mem_eventAll {s : State} {n : Nat} {x : Session} (code a b : Nat) (h : SessionReady s n x) (hm : x.mine = false) :
    Out.msg n x.firstMsgq 0x85 0 (eventBody s code a b) (now s) ∈ (eventAll s code a b).out :=
  msg_mem_events code a b (mem_hostSessions h.1 hm) h

/-! ### Throttling -/

/-- The level changes: its flag rises and its event leaves (R44, R344, R441). -/
theorem setLevel_handed (s : State) (level : Nat) : HandedBut [regAddr .pwrseq 0x08]
    { s with adm := { s.adm with level := level }, power := { s.power with sinceChange := 0 } } (setLevel s level) :=
  (handedBut_setFlag _ (b := .pwrseq) (off := 0x08) 5 (by simp)).trans ((handed_eventAll _ _ _ _).handedBut _)

theorem setLevel_adm (s : State) (level : Nat) : (setLevel s level).adm = { s.adm with level := level } :=
  (handed_eventAll _ _ _ _).adm

theorem setLevel_power (s : State) (level : Nat) : (setLevel s level).power = { s.power with sinceChange := 0 } :=
  (handed_eventAll _ _ _ _).power

theorem flagUp_setLevel (s : State) (level : Nat) : FlagUp (setLevel s level) .pwrseq 0x08 5 :=
  (handed_eventAll _ _ _ _).flagUp (flagUp_setFlag _ .pwrseq 0x08 5 (by decide)) (by decide)

theorem msg_mem_setLevel {s : State} {n : Nat} {x : Session} (level : Nat) (h : SessionReady s n x) (hm : x.mine = false) :
    Out.msg n x.firstMsgq 0x85 0 (eventBody s 0x03 level 0) (now s) ∈ (setLevel s level).out :=
  msg_mem_eventAll (s := setFlag { s with adm := _, power := _ } .pwrseq 0x08 5) 0x03 level 0 h hm

/-- Power or temperature calls for more throttling (R430). -/
def Hot (s : State) : Prop := 19 * (sustainW s : Int) < 2 * sensorValue s 53 ∨ 900 ≤ hottest s

/-- The calm evaluations counted with this one (R430). -/
def calmCount (s : State) : Nat := if 2 * sensorValue s 53 < 17 * (sustainW s : Int) ∧ hottest s ≤ 850 then s.power.calm + 1 else 0

/-- An evaluation counted, before it changes the level. -/
def evaluated (s : State) : State :=
  { s with power := { s.power with calm := calmCount s, sinceChange := s.power.sinceChange + 1 } }

theorem throttle_idle {s : State} (h : serving s = false) : Does .throttleEvaluation s s := by
  show execThrottleEvaluation s = _
  simp [execThrottleEvaluation, h]

theorem throttle_up {s : State} (h : serving s = true) (hh : Hot s) (hl : s.adm.level < 3) :
    Does .throttleEvaluation s (setLevel (evaluated s) (s.adm.level + 1)) := by
  show execThrottleEvaluation s = _
  unfold execThrottleEvaluation
  rw [if_neg (by simp [h])]
  exact if_pos ⟨hh, hl⟩

theorem throttle_down {s : State} (h : serving s = true) (hh : ¬Hot s) (hl : 0 < s.adm.level) (hc : 10 ≤ calmCount s)
    (hs : 10 ≤ s.power.sinceChange + 1) : Does .throttleEvaluation s (setLevel (evaluated s) (s.adm.level - 1)) := by
  show execThrottleEvaluation s = _
  unfold execThrottleEvaluation
  rw [if_neg (by simp [h])]
  exact (if_neg (fun hu => hh hu.1)).trans (if_pos ⟨hc, hs, hl, hh⟩)

theorem throttle_stays {s : State} (h : serving s = true) (hu : ¬(Hot s ∧ s.adm.level < 3))
    (hd : ¬(¬Hot s ∧ 0 < s.adm.level ∧ 10 ≤ calmCount s ∧ 10 ≤ s.power.sinceChange + 1)) :
    Does .throttleEvaluation s (evaluated s) := by
  show execThrottleEvaluation s = _
  unfold execThrottleEvaluation
  rw [if_neg (by simp [h])]
  exact (if_neg hu).trans (if_neg (fun ⟨hc, hs, hl, hh⟩ => hd ⟨hh, hl, hc, hs⟩))

theorem throttle_completes (s : State) : Completes .throttleEvaluation s := by
  show ∃ t, execThrottleEvaluation s = .next t
  unfold execThrottleEvaluation
  dsimp only
  repeat' split
  all_goals exact ⟨_, rfl⟩

/-- What an evaluation that changes the level leaves behind. -/
theorem setLevel_evaluated (s : State) (level : Nat) :
    let t := setLevel (evaluated s) level
    t.power = { s.power with calm := calmCount s, sinceChange := t.power.sinceChange } ∧ t.adm.level = level ∧
    (FlagUp t .pwrseq 0x08 5 ∧ t.power.sinceChange = 0 ∧ ∀ n x, SessionReady s n x → x.mine = false →
      Out.msg n x.firstMsgq 0x85 0 (eventBody s 0x03 t.adm.level 0) (now s) ∈ t.out) ∧
    HandedBut [regAddr .pwrseq 0x08] { s with power := t.power, adm := { s.adm with level := t.adm.level } } t := by
  have hadm := setLevel_adm (evaluated s) level
  have hpower := setLevel_power (evaluated s) level
  have hh := setLevel_handed (evaluated s) level
  dsimp only
  rw [hadm, hpower]
  exact ⟨rfl, rfl, ⟨flagUp_setLevel _ level, rfl, fun n x hx hm => msg_mem_setLevel (s := evaluated s) level hx hm⟩, hh⟩

/-- The outcome of an evaluation in Ivory or Amber, in each of its three cases (R430, R440). -/
theorem throttle_serving {s : State} (h : serving s = true) :
    let up := Hot s ∧ s.adm.level < 3
    let down := ¬Hot s ∧ 0 < s.adm.level ∧ 10 ≤ calmCount s ∧ 10 ≤ s.power.sinceChange + 1
    ∃ t, Does .throttleEvaluation s t ∧
      t.power = { s.power with calm := calmCount s, sinceChange := t.power.sinceChange } ∧
      (up → t.adm.level = s.adm.level + 1) ∧ (down → t.adm.level = s.adm.level - 1) ∧
      (up ∨ down → FlagUp t .pwrseq 0x08 5 ∧ t.power.sinceChange = 0 ∧ ∀ n x, SessionReady s n x → x.mine = false →
        Out.msg n x.firstMsgq 0x85 0 (eventBody s 0x03 t.adm.level 0) (now s) ∈ t.out) ∧
      (¬up → ¬down → t.adm = s.adm ∧ t.regs = s.regs ∧ t.out = s.out ∧
        t.power.sinceChange = s.power.sinceChange + 1) ∧
      HandedBut [regAddr .pwrseq 0x08] { s with power := t.power, adm := { s.adm with level := t.adm.level } } t := by
  dsimp only
  by_cases hu : Hot s ∧ s.adm.level < 3
  · obtain ⟨hp, hl, hout, hh⟩ := setLevel_evaluated s (s.adm.level + 1)
    exact ⟨_, throttle_up h hu.1 hu.2, hp, fun _ => hl, fun hd => absurd hu.1 hd.1, fun _ => hout, fun hn => absurd hu hn, hh⟩
  · by_cases hd : ¬Hot s ∧ 0 < s.adm.level ∧ 10 ≤ calmCount s ∧ 10 ≤ s.power.sinceChange + 1
    · obtain ⟨hp, hl, hout, hh⟩ := setLevel_evaluated s (s.adm.level - 1)
      exact ⟨_, throttle_down h hd.1 hd.2.1 hd.2.2.1 hd.2.2.2, hp, fun hn => absurd hn hu, fun _ => hl, fun _ => hout,
        fun _ hn => absurd hd hn, hh⟩
    · exact ⟨_, throttle_stays h hu hd, rfl, fun hn => absurd hn hu, fun hn => absurd hn hd,
        fun hn => (hn.elim hu hd).elim, fun _ _ => ⟨rfl, rfl, rfl, rfl⟩, .refl _ _⟩

/-! ### The limit of peak power -/

theorem peakPowerWindow_completes (s : State) (l : List Nat) : Completes (.peakPowerWindow l) s := by
  show ∃ t, execPeakPowerWindow l s = .next t
  unfold execPeakPowerWindow
  repeat' split
  all_goals exact ⟨_, rfl⟩

/-- PEAK_W in force reads PWRSEQ's control and limits, which its flags are not. -/
theorem peakW_setFlag (s : State) (i : Nat) : peakW (setFlag s .pwrseq 0x08 i) = peakW s := by
  have hctrl : reg (setFlag s .pwrseq 0x08 i) .pwrseq 0 = reg s .pwrseq 0 := reg_setReg_ne _ _ _ _ _ _ (by decide)
  have hlim : reg (setFlag s .pwrseq 0x08 i) .pwrseq 0x10 = reg s .pwrseq 0x10 := reg_setReg_ne _ _ _ _ _ _ (by decide)
  unfold peakW enabled fld
  rw [hctrl, hlim]

theorem nextVictim_setFlag (s : State) (b : Blk) (off i : Nat) : nextVictim (setFlag s b off i) = nextVictim s := by
  unfold nextVictim runningElastic
  rw [setFlag_tiles]

theorem preempt_eq (s : State) (i : Nat) : preempt s i =
    bump (setFlag (setTile s i { tileAt s i with run := .preempted }) (.tile i) 0x08 2) (.spire (i / 80)) 0x30 1 := by
  unfold preempt
  rfl

/-- A pre-emption stops the tile, flags it and counts it on its Spire (R137). -/
theorem onlyRegs_preempt (s : State) (i : Nat) : OnlyRegs (setTile s i { tileAt s i with run := .preempted }) (preempt s i) := by
  rw [preempt_eq]
  exact (onlyRegs_setFlag _ (.tile i) 0x08 2).trans (onlyRegs_bump _ (.spire (i / 80)) 0x30 1)

theorem preempt_power (s : State) (i : Nat) : (preempt s i).power = s.power := by
  rw [onlyRegs_preempt s i]
  rfl

/-- The state after one pre-emption under the peak limit (R137, R431). -/
def preemptOne (s : State) (i : Nat) : State :=
  { bump (preempt s i) .pwrseq 0x28 1 with power := { s.power with preempted := i :: s.power.preempted } }

theorem preemptDown_one {s : State} {e i : Nat} (h : ¬100 * e < 90 * peakW s) (hv : nextVictim s = some i) :
    preemptDown s [e] = preemptOne s i := by
  have hp : (bump (preempt s i) .pwrseq 0x28 1).power = s.power := by rw [bump_power, preempt_power]
  unfold preemptOne
  simp only [preemptDown, if_neg h, hv, hp]

theorem peakPowerWindow_above {s : State} {e i : Nat} (h : 97 * peakW s < 100 * e) (hv : nextVictim s = some i) :
    Does (.peakPowerWindow [e]) s (preemptOne (setFlag s .pwrseq 0x08 4) i) := by
  have hhigh : ¬100 * e < 90 * peakW (setFlag s .pwrseq 0x08 4) := by rw [peakW_setFlag]; omega
  show execPeakPowerWindow [e] s = _
  simp only [execPeakPowerWindow, if_pos h, hv]
  rw [preemptDown_one hhigh ((nextVictim_setFlag s .pwrseq 0x08 4).trans hv)]

theorem peakPowerWindow_none {s : State} {e : Nat} (h : 97 * peakW s < 100 * e) (hv : nextVictim s = none) :
    Does (.peakPowerWindow [e]) s s := by
  show execPeakPowerWindow [e] s = _
  simp [execPeakPowerWindow, h, hv]

theorem peakPowerWindow_between {s : State} {e : Nat} (hlo : 90 * peakW s ≤ 100 * e) (hhi : 100 * e ≤ 97 * peakW s) :
    Does (.peakPowerWindow [e]) s s := by
  show execPeakPowerWindow [e] s = _
  simp [execPeakPowerWindow, resumeUp, hlo, show ¬ 97 * peakW s < 100 * e by omega]

theorem peakPowerWindow_below {s : State} {e i : Nat} {more : List Nat} (h : 100 * e < 90 * peakW s)
    (hp : s.power.preempted = i :: more) :
    let u : State := { s with power := { s.power with preempted := more } }
    Does (.peakPowerWindow [e]) s (if (tileAt s i).run = .preempted then resumeTask u i else u) := by
  have htile : tileAt { s with power := { s.power with preempted := more } } i = tileAt s i := rfl
  show execPeakPowerWindow [e] s = _
  simp [execPeakPowerWindow, resumeUp, hp, htile, show ¬ 97 * peakW s < 100 * e by omega,
    show ¬ 90 * peakW s ≤ 100 * e by omega]

/-- The Spire block of a tile lies apart from PWRSEQ and from the tile's own block. -/
theorem spire_ne_pwrseq (i off o : Nat) (ho : o < 0x10000) : regAddr (.spire i) off ≠ regAddr .pwrseq o := by
  simp only [regAddr, blkBase]; omega

theorem tile_ne_pwrseq (i off o : Nat) (ho : o < 0x10000) : regAddr (.tile i) off ≠ regAddr .pwrseq o := by
  simp only [regAddr, blkBase, tileBase]; omega

theorem tile_ne_spire (i off o : Nat) (ho : o < 0x10000) : regAddr (.tile i) off ≠ regAddr (.spire (i / 80)) o := by
  simp only [regAddr, blkBase, tileBase]; omega

theorem preempt_regs (s : State) (i : Nat) :
    (preempt s i).regs = (bump (setFlag s (.tile i) 0x08 2) (.spire (i / 80)) 0x30 1).regs := rfl

theorem preemptOne_regs (s : State) (i : Nat) : (preemptOne s i).regs = (bump (preempt s i) .pwrseq 0x28 1).regs := by
  unfold preemptOne
  dsimp only

/-- A pre-emption flags the tile and counts on its Spire (R137). -/
theorem regsBut_preempt (s : State) (i : Nat) :
    RegsBut [regAddr (.tile i) 0x08, regAddr (.spire (i / 80)) 0x30] s (preempt s i) :=
  (((regsBut_setFlag s (.tile i) 0x08 2).mono (by simp)).trans
    ((regsBut_bump _ (.spire (i / 80)) 0x30 1).mono (by simp))).of_regs (preempt_regs s i)

theorem regsBut_preemptOne (s : State) (i : Nat) : RegsBut [regAddr .pwrseq 0x28, regAddr (.tile i) 0x08,
    regAddr (.spire (i / 80)) 0x30] s (preemptOne s i) :=
  (((regsBut_preempt s i).mono (by simp)).trans ((regsBut_bump _ .pwrseq 0x28 1).mono (by simp))).of_regs (preemptOne_regs s i)

theorem preemptOne_tiles (s : State) (i : Nat) :
    (preemptOne s i).tiles = (setTile s i { tileAt s i with run := .preempted }).tiles := by
  unfold preemptOne
  rw [bump_tiles, onlyRegs_preempt s i]

theorem tileAt_preemptOne (s : State) (i : Nat) : tileAt (preemptOne s i) i = { tileAt s i with run := .preempted } :=
  (tileAt_of_tiles (preemptOne_tiles s i) i).trans (tileAt_setTile_same s i _)

theorem tileAt_preemptOne_ne (s : State) (i k : Nat) (hk : k ≠ i) : tileAt (preemptOne s i) k = tileAt s k :=
  (tileAt_of_tiles (preemptOne_tiles s i) k).trans (tileAt_setTile_ne s i k _ hk)

theorem preemptOne_fields (s : State) (i : Nat) : preemptOne s i = { s with
    regs := (preemptOne s i).regs, tiles := (preemptOne s i).tiles,
    power := { s.power with preempted := i :: s.power.preempted } } := by
  have h := (onlyRegs_preempt s i).trans (onlyRegs_bump (preempt s i) .pwrseq 0x28 1)
  unfold preemptOne
  generalize bump (preempt s i) .pwrseq 0x28 1 = v at h ⊢
  rw [h]
  rfl

/-- PREEMPTED of the tile rises (R137). -/
theorem flagUp_preemptOne (s : State) (i : Nat) : FlagUp (preemptOne s i) (.tile i) 0x08 2 := by
  have hone : reg (preemptOne s i) (.tile i) 0x08 = reg (preempt s i) (.tile i) 0x08 :=
    ((regsBut_bump _ .pwrseq 0x28 1).of_regs (preemptOne_regs s i)).reg _ _ (by simp [tile_ne_pwrseq i 8 0x28 (by decide)])
  have hpre : reg (preempt s i) (.tile i) 0x08 = reg (setFlag s (.tile i) 0x08 2) (.tile i) 0x08 :=
    ((regsBut_bump _ (.spire (i / 80)) 0x30 1).of_regs (preempt_regs s i)).reg _ _ (by simp [tile_ne_spire i 8 0x30 (by decide)])
  unfold FlagUp
  rw [hone, hpre]
  exact flagUp_setFlag s (.tile i) 0x08 2 (by decide)

theorem counted_preemptOne (s : State) (i : Nat) : Counted s (preemptOne s i) .pwrseq 0x28 1 := by
  have hpre : reg (preempt s i) .pwrseq 0x28 = reg s .pwrseq 0x28 := (regsBut_preempt s i).reg _ _ (by
    simp [(tile_ne_pwrseq i 8 0x28 (by decide)).symm, (spire_ne_pwrseq (i / 80) 0x30 0x28 (by decide)).symm])
  exact (counted_of_reg (counted_bump _ _ _ _) hpre).of_regs (preemptOne_regs s i)

/-- A register of PWRSEQ other than PWRSEQ_PREEMPTS is as it was before a pre-emption. -/
theorem reg_preemptOne_pwrseq (s : State) (i o : Nat) (ho : o < 0x10000) (hne : o ≠ 0x28) :
    reg (preemptOne s i) .pwrseq o = reg s .pwrseq o :=
  (regsBut_preemptOne s i).reg _ _ (by
    have hpre : regAddr .pwrseq o ≠ regAddr .pwrseq 0x28 := by simpa [regAddr] using hne
    simp [hpre, (tile_ne_pwrseq i 8 o ho).symm, (spire_ne_pwrseq (i / 80) 0x30 o ho).symm])

/-- Above the limit the next victim is pre-empted, flagged and counted (R137, R431). -/
theorem peakPowerWindow_preempts {s : State} {e i : Nat} (h : 97 * peakW s < 100 * e) (hv : nextVictim s = some i) :
    ∃ t, Does (.peakPowerWindow [e]) s t ∧ tileAt t i = { tileAt s i with run := .preempted } ∧
      (∀ k, k ≠ i → tileAt t k = tileAt s k) ∧ t.power = { s.power with preempted := i :: s.power.preempted } ∧
      FlagUp t .pwrseq 0x08 4 ∧ FlagUp t (.tile i) 0x08 2 ∧ Counted s t .pwrseq 0x28 1 ∧
      RegsBut [regAddr .pwrseq 0x08, regAddr .pwrseq 0x28, regAddr (.tile i) 0x08,
        regAddr (.spire (i / 80)) 0x30] s t ∧
      t = { s with regs := t.regs, tiles := t.tiles, power := t.power } := by
  let u := setFlag s .pwrseq 0x08 4
  have hu : RegsBut [regAddr .pwrseq 0x08] s u := regsBut_setFlag s .pwrseq 0x08 4
  have hpeak : FlagUp (preemptOne u i) .pwrseq 0x08 4 := by
    unfold FlagUp
    rw [reg_preemptOne_pwrseq u i 0x08 (by decide) (by decide)]
    exact flagUp_setFlag s .pwrseq 0x08 4 (by decide)
  have hcount : Counted s (preemptOne u i) .pwrseq 0x28 1 := by
    have hc := counted_preemptOne u i
    unfold Counted at hc ⊢
    rwa [hu.reg .pwrseq 0x28 (by decide)] at hc
  exact ⟨_, peakPowerWindow_above h hv, tileAt_preemptOne u i, tileAt_preemptOne_ne u i, rfl, hpeak, flagUp_preemptOne u i,
    hcount, (hu.mono (by simp)).trans ((regsBut_preemptOne u i).mono (by simp)), preemptOne_fields u i⟩

/-- Settles O54, by the branches of an evaluation and of a window. -/
theorem powerLimits : Obligations.PowerLimits := by
  refine ⟨fun s h => throttle_idle h, fun s l => ⟨throttle_completes s, peakPowerWindow_completes s l⟩,
    fun s h => throttle_serving h, fun s e => ⟨fun h hv => peakPowerWindow_none h hv, fun i h hv => peakPowerWindow_preempts h hv,
      fun i more h hp => ?_, fun hlo hhi => peakPowerWindow_between hlo hhi⟩⟩
  refine ⟨_, peakPowerWindow_below h hp, ?_⟩
  by_cases hrun : (tileAt s i).run = .preempted
  · rw [if_pos hrun]
    exact ⟨fun _ => tileAt_setTile_same _ i _, fun hn => absurd hrun hn, fun k hk => tileAt_setTile_ne _ i k _ hk, rfl⟩
  · rw [if_neg hrun]
    exact ⟨fun hn => absurd hn hrun, fun _ => rfl, fun _ _ => rfl, rfl⟩

end Sys2Proof.Machine
end

section
namespace Sys2Proof.Machine

/-! ### Moving the elements of a stream -/

/-- What the moves of a stream of tile `t` leave: every register below the Keeps, and of the tile all but its SRAM; beside
the tile they change memory, moves and the delta area. -/
structure Moved (t : Nat) (s u : State) : Prop where
  regs : ∀ a, a < 0x20000000 → tget u.regs a = tget s.regs a
  tile : tileAt u t = { tileAt s t with sram := (tileAt u t).sram }
  rest : u = { s with tiles := u.tiles, regs := u.regs, tier := u.tier, feat := u.feat }

theorem Moved.refl (t : Nat) (s : State) : Moved t s s := ⟨fun _ _ => rfl, rfl, rfl⟩

theorem Moved.trans {t : Nat} {s u v : State} (h : Moved t s u) (k : Moved t u v) : Moved t s v where
  regs a ha := (k.regs a ha).trans (h.regs a ha)
  tile := by
    have hk := k.tile
    rw [h.tile] at hk
    exact hk
  rest := by
    have hk := k.rest
    rw [h.rest] at hk
    exact hk

theorem Moved.foldl {α : Type} {t : Nat} {s u : State} (f : State → α → State) (h : ∀ s x, Moved t s (f s x)) (l : List α)
    (hu : Moved t s u) : Moved t s (l.foldl f u) :=
  List.foldlRecOn (motive := Moved t s) l f hu fun v hv x _ => hv.trans (h v x)

theorem moved_bumpKeep (t : Nat) (s : State) (k off n : Nat) : Moved t s (bump s (.keep k) off n) where
  regs a ha := regsBut_bump s (.keep k) off n a (by simp only [regAddr, blkBase, List.mem_singleton]; omega)
  tile := rfl
  rest := by
    have h := onlyRegs_bump s (.keep k) off n
    generalize bump s (.keep k) off n = u at h ⊢
    rw [h]

theorem moved_t1Write (t : Nat) (s : State) (c a : Nat) (bs : List Byte) : Moved t s (t1Write s c a bs) :=
  ⟨fun _ _ => rfl, rfl, rfl⟩

theorem moved_setSram (t : Nat) (s : State) (m : Table Byte) : Moved t s (setTile s t { tileAt s t with sram := m }) :=
  ⟨fun _ _ => rfl, by simp, rfl⟩

theorem moved_applyDelta (t : Nat) (s : State) (d : DeltaRec) : Moved t s (applyDelta s d) :=
  (moved_t1Write t s _ _ _).trans (moved_bumpKeep t _ _ _ _)

theorem moved_applyDue (t : Nat) (s : State) (p : DueDelta → Bool) : Moved t s (applyDue s p) := by
  unfold applyDue
  exact Moved.foldl (fun s (d : DueDelta) => applyDelta s d.delta) (fun s d => moved_applyDelta t s d.delta) _
    ⟨fun _ _ => rfl, rfl, rfl⟩

theorem moved_settleRow (t : Nat) (s : State) (table row : Nat) : Moved t s (settleRow s table row) := by
  unfold settleRow
  dsimp only
  split
  · exact (moved_bumpKeep t s _ _ _).trans (moved_applyDue t _ _)
  · exact .refl t s

theorem moved_settleBytes (t : Nat) (s : State) (c a n : Nat) : Moved t s (settleBytes s c a n) :=
  Moved.foldl _ (fun s (q : Nat × Nat) => moved_settleRow t s q.1 q.2) _ (.refl t s)

/-- One element moved changes the tile's SRAM or T1, and a read settles the deltas due (R126, R209). -/
theorem moved_moveElem (t : Nat) (s : State) (r : StreamRun) (e : Nat × Nat × Nat) : Moved t s (moveElem s t r e) := by
  unfold moveElem
  dsimp only
  have hsettle : Moved t s (if r.desc.farTier % 2 = 1 ∧ r.desc.write = false then settleBytes s r.ctx e.1 e.2.2 else s) := by
    split
    · exact moved_settleBytes t s _ _ _
    · exact .refl t s
  refine hsettle.trans ?_
  generalize (if r.desc.farTier % 2 = 1 ∧ r.desc.write = false then settleBytes s r.ctx e.1 e.2.2 else s) = u
  split
  · split
    · exact moved_setSram t u _
    · exact moved_setSram t u _
  · exact moved_setSram t u _
  · split
    · exact moved_t1Write t u _ _ _
    · exact moved_setSram t u _

theorem Moved.reg {t : Nat} {s u : State} (h : Moved t s u) (b : Blk) (off : Nat) (hb : regAddr b off < 0x20000000) :
    reg u b off = reg s b off := by
  unfold Machine.reg tgetD
  rw [h.regs _ hb]

/-! ### Dropping the work of a request -/

/-- What dropping a request's work leaves: of every tile the task and its run, and of the state all but the queues, the
tokens and the jobs. -/
structure Dropped (s u : State) : Prop where
  task : ∀ t, (tileAt u t).task = (tileAt s t).task
  run : ∀ t, (tileAt u t).run = (tileAt s t).run
  rest : u = { s with tiles := u.tiles, spires := u.spires, dome := u.dome, adm := u.adm, search := u.search, text := u.text }

theorem Dropped.refl (s : State) : Dropped s s := ⟨fun _ => rfl, fun _ => rfl, rfl⟩

theorem Dropped.trans {s u v : State} (h : Dropped s u) (k : Dropped u v) : Dropped s v where
  task t := (k.task t).trans (h.task t)
  run t := (k.run t).trans (h.run t)
  rest := by
    have hk := k.rest
    rw [h.rest] at hk
    exact hk

theorem dropped_setTile {s : State} {t : Nat} {x : Tile} (ht : x.task = (tileAt s t).task) (hr : x.run = (tileAt s t).run) :
    Dropped s (setTile s t x) where
  task i := by
    by_cases hi : i = t
    · rw [hi, tileAt_setTile_same, ht]
    · rw [tileAt_setTile_ne _ _ _ _ hi]
  run i := by
    by_cases hi : i = t
    · rw [hi, tileAt_setTile_same, hr]
    · rw [tileAt_setTile_ne _ _ _ _ hi]
  rest := rfl

theorem dropped_giveBack (s : State) (l : List Token) : Dropped s (giveBack s l) :=
  List.foldlRecOn (motive := Dropped s) _ _ (.refl s) fun _ hu _ _ => hu.trans (dropped_setTile rfl rfl)

/-- A function that fixes the default commutes with reading a table. -/
theorem tgetD_map {α : Type} (t : Table α) (f : α → α) (d : α) (hd : f d = d) (k : Nat) :
    tgetD (t.map fun p => (p.1, f p.2)) k d = f (tgetD t k d) := by
  unfold tgetD
  induction t with
  | nil => exact hd.symm
  | cons p t ih =>
    simp only [List.map_cons, tget]
    split
    · rfl
    · exact ih

/-- A tile without what waits for request `e` (R42, R388). -/
def dropTile (e : Nat) (x : Tile) : Tile :=
  { x with
    inbox := x.inbox.filter (fun k => !decide (k.entry = e)),
    streams := x.streams.filter (fun r => decide (r.entry ≠ e) || (match x.task with
      | some k => decide (k.entry = r.entry) && decide (k.frame = r.frame)
      | none => false)) }

theorem dropped_dropTiles {s u : State} {e : Nat} (ht : u.tiles = s.tiles.map fun p => (p.1, dropTile e p.2))
    (hr : u = { s with
      tiles := u.tiles, spires := u.spires, dome := u.dome, adm := u.adm, search := u.search, text := u.text }) :
    Dropped s u := by
  have htile : ∀ t, tileAt u t = dropTile e (tileAt s t) := fun t => by
    unfold tileAt
    rw [ht, tgetD_map _ _ _ rfl]
  exact ⟨fun t => by rw [htile]; rfl, fun t => by rw [htile]; rfl, hr⟩

theorem dropped_dropWork (s : State) (e : Nat) : Dropped s (dropWork s e) := by
  unfold dropWork
  exact (dropped_dropTiles (e := e) rfl rfl).trans (dropped_giveBack _ _)

/-! ### The end of a request with FAULT -/

/-- The entry of a request that ends with a status due in a frame. -/
def endingReq (q : Request) (status due : Nat) : Request := { q with state := .ending, status := status, dueFrame := some due }

/-- The state of a request's end before its completion: its work dropped and its held fragments withheld (R42). -/
def endedAt (s : State) (e : Nat) (q : Request) (status due : Nat) : State :=
  let u := dropWork (setReq s e (endingReq q status due)) e
  { u with hold := u.hold.filter (fun f => decide (f.entry ≠ e)) }

theorem endRequest_running {s : State} {e status due : Nat} {q : Request} (hq : reqAt s e = some q) (he : ended q = false) :
    endRequest s e status due = endedAt s e q status due := by
  unfold endRequest endedAt endingReq
  simp [hq, he]

theorem faultNow_running {s : State} {e : Nat} {q : Request} (hq : reqAt s e = some q) (he : ended q = false) :
    faultNow s e = complete (endedAt s e q stFault (now s)) e stFault := by
  unfold faultNow
  simp [hq, he, endRequest_running hq he]

theorem endedAt_dropped (s : State) (e : Nat) (q : Request) (status due : Nat) :
    Dropped { s with
      reqs := tset s.reqs e (endingReq q status due),
      hold := s.hold.filter (fun f => decide (f.entry ≠ e)) } (endedAt s e q status due) := by
  have h := dropped_dropWork (setReq s e (endingReq q status due)) e
  refine ⟨h.task, h.run, ?_⟩
  unfold endedAt
  dsimp only
  rw [h.rest]
  rfl

/-- What a request that completes with FAULT at once leaves: every other request, and of the tiles the tasks. -/
structure Faulted (e : Nat) (s u : State) : Prop where
  task : ∀ t, (tileAt u t).task = (tileAt s t).task
  run : ∀ t, (tileAt u t).run = (tileAt s t).run
  others : ∀ k, k ≠ e → reqAt u k = reqAt s k
  hold : u.hold = s.hold.filter (fun f => decide (f.entry ≠ e))
  regs : RegsBut [regAddr .reqtab 0x08, regAddr .mac 0x50] s u
  rest : u = { s with
    reqs := u.reqs, hold := u.hold, regs := u.regs, out := u.out, port := u.port, tiles := u.tiles, spires := u.spires,
    dome := u.dome, adm := u.adm, search := u.search, text := u.text }

/-- COMPLETE with FAULT touches GEN_FAULT and the count of frames sent (R241, R266). -/
theorem regsBut_completeFault (s : State) (e : Nat) :
    RegsBut [regAddr .reqtab 0x08, regAddr .mac 0x50] s (complete s e stFault) := by
  cases hr : reqAt s e with
  | none => simp [complete, hr]
  | some r =>
    cases hs : r.sentFrame with
    | some f => simp [complete, hr, hs]
    | none =>
      obtain ⟨body, hc⟩ := complete_eq (status := stFault) hr hs
      rw [hc]
      refine RegsBut.trans (t := completed s e stFault r) ?_ ((handed_sendMsg _ _ _ _ _ _).2.1.mono (by simp))
      unfold completed
      dsimp only
      rw [if_neg (show stFault ≠ stBreached by decide), if_neg (show stFault ≠ stAbandoned by decide)]
      split
      · exact (regsBut_setFlag _ .reqtab 0x08 3).mono (by simp)
      · exact fun _ _ => rfl

theorem faulted_faultNow {s : State} {e : Nat} {q : Request} (hq : reqAt s e = some q) (he : ended q = false) :
    Faulted e s (faultNow s e) := by
  rw [faultNow_running hq he]
  have hd := endedAt_dropped s e q stFault (now s)
  have hc := complete_fields (endedAt s e q stFault (now s)) e stFault
  have htiles : ∀ t, tileAt (complete (endedAt s e q stFault (now s)) e stFault) t = tileAt (endedAt s e q stFault (now s)) t :=
    tileAt_of_tiles (by rw [hc])
  have hreqs : (endedAt s e q stFault (now s)).reqs = tset s.reqs e (endingReq q stFault (now s)) := by rw [hd.rest]
  have hregs : (endedAt s e q stFault (now s)).regs = s.regs := by rw [hd.rest]
  refine ⟨fun t => ?_, fun t => ?_, fun k hk => ?_, ?_, ?_, ?_⟩
  · rw [htiles, hd.task]; rfl
  · rw [htiles, hd.run]; rfl
  · rw [reqAt_complete_ne _ _ _ _ hk, reqAt, hreqs, tget_tset_ne _ _ _ _ hk, reqAt]
  · rw [complete_hold, hd.rest]
  · have hcr := regsBut_completeFault (endedAt s e q stFault (now s)) e
    intro a ha
    rw [hcr a ha, hregs]
  · rw [hd.rest] at hc ⊢
    rw [hc]

theorem reqAt_faultNow {s : State} {e : Nat} {q : Request} (hq : reqAt s e = some q) (he : ended q = false) :
    ∃ r, reqAt (faultNow s e) e = some r ∧ r.status = stFault ∧ r.sentFrame = some (now s) ∧ r.state = .ending := by
  have hd := endedAt_dropped s e q stFault (now s)
  have hreq : reqAt (endedAt s e q stFault (now s)) e = some (endingReq q stFault (now s)) := by
    rw [reqAt, hd.rest]
    exact tget_tset_same _ _ _
  have hnow : now (endedAt s e q stFault (now s)) = now s := by rw [now, hd.rest]; rfl
  have hsent : q.sentFrame = none := by
    simp only [ended, Bool.or_eq_false_iff] at he
    simpa using he.2
  rw [faultNow_running hq he, reqAt_complete stFault hreq hsent]
  exact ⟨_, rfl, rfl, by rw [hnow], by simp [stFault, stDone]⟩

end Sys2Proof.Machine
end

section
namespace Sys2Proof.Machine

/-! ### A task that aborts -/

/-- The report of an abort in the tile's block: its word in TILE_ABORT, its flag and its count (R136). -/
def reportAbort (s : State) (t : Nat) (w : Word) : State :=
  bump (setFlag (setReg s (.tile t) 0x18 w) (.tile t) 0x08 1) (.tile t) 0x28 1

/-- The state after a task's abort and before its request is handled: the tile idle, the abort reported (R136). -/
def abortedAt (s : State) (t cause stream : Nat) (k : Task) : State :=
  let x := tileAt s t
  let u := giveBack (setTile s t { x with
    task := none, run := .idle, passes := [], sram := clearSram x.sram k.entry (taskOnly s k),
    streams := x.streams.filter (fun r => decide (r.frame ≠ k.frame)) }) k.tokens
  reportAbort u t
    (BitVec.ofNat 64 (cause % 16 + stream % 16 * 16 + k.entry % 2 ^ 16 * 2 ^ 16 + now u % 2 ^ 32 * 2 ^ 32))

theorem abortTask_fault {s : State} {t cause stream why : Nat} {k : Task} (hk : (tileAt s t).task = some k)
    (hc : cause = 1 ∨ cause = 2 ∨ cause = 3) :
    abortTask s t cause stream why = faultNow (abortedAt s t cause stream k) k.entry := by
  unfold abortTask
  simp only [hk, if_pos hc]
  rfl

theorem onlyRegs_reportAbort (s : State) (t : Nat) (w : Word) : OnlyRegs s (reportAbort s t w) :=
  ((onlyRegs_setReg s _ _ _).trans (onlyRegs_setFlag _ _ _ _)).trans (onlyRegs_bump _ _ _ _)

theorem regsBut_reportAbort (s : State) (t : Nat) (w : Word) :
    RegsBut [regAddr (.tile t) 0x08, regAddr (.tile t) 0x18, regAddr (.tile t) 0x28] s (reportAbort s t w) :=
  (((regsBut_setReg s _ _ _).mono (by simp)).trans ((regsBut_setFlag _ _ _ _).mono (by simp))).trans
    ((regsBut_bump _ _ _ _).mono (by simp))

theorem flagUp_reportAbort (s : State) (t : Nat) (w : Word) : FlagUp (reportAbort s t w) (.tile t) 0x08 1 := by
  unfold FlagUp reportAbort
  rw [(regsBut_bump _ _ _ _).reg _ _ (by simpa using regAddr_inj _ (by decide))]
  exact flagUp_setFlag _ _ _ _ (by decide)

theorem counted_reportAbort (s : State) (t : Nat) (w : Word) : Counted s (reportAbort s t w) (.tile t) 0x28 1 := by
  refine counted_of_reg (counted_bump _ _ _ _) ?_
  rw [(regsBut_setFlag _ _ _ _).reg _ _ (by simpa using regAddr_inj _ (by decide)),
    (regsBut_setReg _ _ _ _).reg _ _ (by simpa using regAddr_inj _ (by decide))]

theorem reg_reportAbort (s : State) (t : Nat) (w : Word) : reg (reportAbort s t w) (.tile t) 0x18 = w := by
  unfold reportAbort
  rw [(regsBut_bump _ _ _ _).reg _ _ (by simpa using regAddr_inj _ (by decide)),
    (regsBut_setFlag _ _ _ _).reg _ _ (by simpa using regAddr_inj _ (by decide)), reg_setReg_same]

/-- The cause lies in the low four bits of TILE_ABORT. -/
theorem bits_abortWord (cause stream entry n : Nat) :
    bits (BitVec.ofNat 64 (cause % 16 + stream % 16 * 16 + entry % 2 ^ 16 * 2 ^ 16 + n % 2 ^ 32 * 2 ^ 32)) 0 4 = cause % 16 := by
  unfold bits
  rw [BitVec.toNat_ofNat, Nat.shiftRight_zero]
  omega

/-- What an abort leaves before the request is handled: it idles the tile and reports in the tile's block. -/
structure Aborted (t cause : Nat) (s u : State) : Prop where
  task : (tileAt u t).task = none
  run : (tileAt u t).run = .idle
  flag : FlagUp u (.tile t) 0x08 1
  count : Counted s u (.tile t) 0x28 1
  cause : fld u (.tile t) 0x18 0 4 = cause % 16
  regs : RegsBut [regAddr (.tile t) 0x08, regAddr (.tile t) 0x18, regAddr (.tile t) 0x28] s u
  rest : u = { s with
    regs := u.regs, tiles := u.tiles, spires := u.spires, dome := u.dome, adm := u.adm, search := u.search, text := u.text }

theorem aborted_abortedAt (s : State) (t cause stream : Nat) (k : Task) : Aborted t cause s (abortedAt s t cause stream k) := by
  unfold abortedAt
  extract_lets x v
  have hv : Dropped _ v := dropped_giveBack _ k.tokens
  have hregs : v.regs = s.regs := by rw [hv.rest]; rfl
  clear_value v
  refine ⟨?_, ?_, flagUp_reportAbort _ _ _, ?_, ?_, ?_, ?_⟩
  · rw [(onlyRegs_reportAbort _ _ _).tileAt, hv.task, tileAt_setTile_same]
  · rw [(onlyRegs_reportAbort _ _ _).tileAt, hv.run, tileAt_setTile_same]
  · exact counted_of_reg (counted_reportAbort _ _ _) (reg_of_regs hregs _ _)
  · unfold fld
    rw [reg_reportAbort]
    exact bits_abortWord _ _ _ _
  · intro a ha
    rw [regsBut_reportAbort _ _ _ a ha, hregs]
  · have h := onlyRegs_reportAbort v t (BitVec.ofNat 64
      (cause % 16 + stream % 16 * 16 + k.entry % 2 ^ 16 * 2 ^ 16 + now v % 2 ^ 32 * 2 ^ 32))
    generalize reportAbort _ _ _ = u at h ⊢
    unfold OnlyRegs at h
    rw [h, hv.rest]
    rfl

end Sys2Proof.Machine
end

section
namespace Sys2Proof.Machine

/-! ### STREAM_FAULT -/

/-- The state with the elements before address `a` moved (R136). -/
def movedBefore (s : State) (t : Nat) (r : StreamRun) (a : Nat) : State :=
  (r.elems.takeWhile (fun e => !(decide (e.1 ≤ a) && decide (a < e.1 + e.2.2)))).foldl
    (fun s e => if r.tooMany then s else moveElem s t r e) s

/-- The fault reported in the block that runs the stream: FAULT and STREAM_FAULT_ADDR (R136). -/
def reportFault (s : State) (b : Blk) (addr : Word) : State := setReg (setFlag s b 0x08 1) b 0x20 addr

theorem moved_movedBefore (s : State) (t : Nat) (r : StreamRun) (a : Nat) : Moved t s (movedBefore s t r a) := by
  refine Moved.foldl _ (fun u e => ?_) _ (.refl t s)
  split
  · exact .refl t u
  · exact moved_moveElem t u r e

theorem streamFault_completes {s : State} {t : Nat} (idx cause : Nat) (addr : Word) (ht : t < 640) :
    Completes (.streamFault t idx cause addr) s := by
  show ∃ u, execStreamFault t idx cause addr s = .next u
  unfold execStreamFault
  rw [if_neg (by omega)]
  dsimp only
  repeat' split
  all_goals exact ⟨_, rfl⟩

/-- A fault of cause 1 or 2 that no lost granule explains: the elements before it move, the stream's block reports it, and
the task aborts. -/
theorem streamFault_aborts {s : State} {t idx cause : Nat} {addr : Word} {r : StreamRun} (ht : t < 640)
    (hr : runAt s t idx = some r) (hc : cause = 1 ∨ cause = 2) (hf : faultAt s t r cause addr.toNat = true)
    (hl : ∀ i c l, firstFault s r (runSize s t r) = some (i, c, l) → l = false) :
    ∃ why, Does (.streamFault t idx cause addr) s
      (streamAbort (reportFault (movedBefore s t r addr.toNat) (streamBlk r.desc t) addr) t r cause why) := by
  have h4 : cause ≠ 4 := by omega
  show ∃ why, execStreamFault t idx cause addr s = .next _
  unfold execStreamFault
  rw [if_neg (by omega)]
  simp only [hr, hf, Bool.true_eq_false, false_and, if_false, if_pos h4]
  cases hff : firstFault s r (runSize s t r) with
  | none => exact ⟨_, rfl⟩
  | some f =>
    obtain ⟨i, c, l⟩ := f
    obtain rfl := hl i c l hff
    exact ⟨_, rfl⟩

theorem streamAbort_running {s : State} {t cause why : Nat} {r : StreamRun} {k : Task} (hk : (tileAt s t).task = some k)
    (he : k.entry = r.entry) (hf : k.frame = r.frame) (hc : k.complete = false) :
    streamAbort s t r cause why = abortTask s t cause r.index why := by
  unfold streamAbort
  simp [hk, he, hf, hc]

/-- The block that runs a stream lies in the tile's window, apart from the tile's own block. -/
theorem streamBlk_regAddr (d : StreamDesc) (t off : Nat) :
    regAddr (streamBlk d t) off = tileBase t + (if d.kind = 1 then 0x2000 else 0x3000) + off := by
  unfold streamBlk
  split <;> rfl

theorem streamBlk_apart (d : StreamDesc) (t : Nat) {off o : Nat} (hoff : off < 0x1000) (ho : o < 0x1000) :
    regAddr (streamBlk d t) off ≠ regAddr (.tile t) o := by
  have htile : regAddr (.tile t) o = tileBase t + o := rfl
  rw [streamBlk_regAddr, htile]
  split <;> omega

theorem streamBlk_high (d : StreamDesc) (t off : Nat) {a : Nat} (ha : a < 0x10000000) : regAddr (streamBlk d t) off ≠ a := by
  rw [streamBlk_regAddr, tileBase]
  omega

theorem tile_high (t off : Nat) {a : Nat} (ha : a < 0x10000000) : regAddr (.tile t) off ≠ a := by
  have htile : regAddr (.tile t) off = tileBase t + off := rfl
  rw [htile, tileBase]
  omega

/-- The blocks of a tile of the device lie below the Keeps. -/
theorem tile_below_keeps {t off : Nat} (ht : t < 640) (ho : off < 0x1000) : regAddr (.tile t) off < 0x20000000 := by
  have htile : regAddr (.tile t) off = tileBase t + off := rfl
  rw [htile, tileBase]
  omega

theorem regsBut_reportFault (s : State) (b : Blk) (addr : Word) :
    RegsBut [regAddr b 0x08, regAddr b 0x20] s (reportFault s b addr) :=
  ((regsBut_setFlag s b 0x08 1).mono (by simp)).trans ((regsBut_setReg _ b 0x20 addr).mono (by simp))

theorem onlyRegs_reportFault (s : State) (b : Blk) (addr : Word) : OnlyRegs s (reportFault s b addr) :=
  (onlyRegs_setFlag s _ _ _).trans (onlyRegs_setReg _ _ _ _)

theorem flagUp_reportFault (s : State) (b : Blk) (addr : Word) : FlagUp (reportFault s b addr) b 0x08 1 := by
  unfold FlagUp reportFault
  rw [(regsBut_setReg _ b 0x20 addr).reg _ _ (by simpa using regAddr_inj _ (by decide))]
  exact flagUp_setFlag s b 0x08 1 (by decide)

theorem reg_reportFault (s : State) (b : Blk) (addr : Word) : reg (reportFault s b addr) b 0x20 = addr := reg_setReg_same _ _ _ _

theorem streamFaultAborts : Claims.StreamFaultAborts := by
  refine ⟨fun s t idx cause addr ht => streamFault_completes idx cause addr ht, ?_⟩
  intro s t idx cause addr r k q ht hr hc hf hl hk hke hkf hkc hq hst hsent
  obtain ⟨why, hdoes⟩ := streamFault_aborts ht hr hc hf hl
  have hm := moved_movedBefore s t r addr.toNat
  have ho := onlyRegs_reportFault (movedBefore s t r addr.toNat) (streamBlk r.desc t) addr
  have hrf := regsBut_reportFault (movedBefore s t r addr.toNat) (streamBlk r.desc t) addr
  have hflag := flagUp_reportFault (movedBefore s t r addr.toNat) (streamBlk r.desc t) addr
  have haddr := reg_reportFault (movedBefore s t r addr.toNat) (streamBlk r.desc t) addr
  generalize reportFault (movedBefore s t r addr.toNat) (streamBlk r.desc t) addr = v at *
  generalize movedBefore s t r addr.toNat = m at *
  have hvk : (tileAt v t).task = some k := by rw [ho.tileAt, hm.tile]; exact hk
  have ha := aborted_abortedAt v t cause r.index k
  rw [streamAbort_running hvk hke hkf hkc, abortTask_fault hvk (by omega)] at hdoes
  generalize abortedAt v t cause r.index k = a at *
  have hreqs : ∀ e, reqAt a e = reqAt s e := fun e => by rw [reqAt, ha.rest, ho, hm.rest]; rfl
  have hqa : reqAt a k.entry = some q := (hreqs _).trans hq
  have hrun : ended q = false := by simp [ended, hst, hsent]
  have hfin := faulted_faultNow hqa hrun
  have hnow : now a = now s := by rw [now, ha.rest, ho, hm.rest]; rfl
  obtain ⟨q', hq', hstat, hfr, hend⟩ := reqAt_faultNow hqa hrun
  generalize faultNow a k.entry = u at *
  have htile : ∀ o, reg u (.tile t) o = reg a (.tile t) o := fun o =>
    hfin.regs.reg _ _ (by simp [tile_high t o (a := regAddr .reqtab 0x08) (by decide),
      tile_high t o (a := regAddr .mac 0x50) (by decide)])
  have hblk : ∀ o, o < 0x1000 → reg u (streamBlk r.desc t) o = reg v (streamBlk r.desc t) o := fun o hlt => by
    rw [hfin.regs.reg _ _ (by simp [streamBlk_high r.desc t o (a := regAddr .reqtab 0x08) (by decide),
        streamBlk_high r.desc t o (a := regAddr .mac 0x50) (by decide)]),
      ha.regs.reg _ _ (by simp [streamBlk_apart r.desc t hlt])]
  refine ⟨u, hdoes, ?_, ?_, ?_, ?_, ?_, ?_, ?_, ⟨q', hq', hstat, hfr.trans (by rw [hnow]), hend⟩, ?_, ?_, ?_, ?_, ?_, ?_, ?_⟩
  · rw [hfin.task, ha.task]
  · rw [hfin.run, ha.run]
  · unfold FlagUp
    rw [hblk _ (by decide)]
    exact hflag
  · rw [hblk _ (by decide), haddr]
  · unfold FlagUp
    rw [htile]
    exact ha.flag
  · have hs : reg v (.tile t) 0x28 = reg s (.tile t) 0x28 := by
      rw [hrf.reg _ _ (by simp [(streamBlk_apart r.desc t (off := 0x08) (o := 0x28) (by decide) (by decide)).symm,
        (streamBlk_apart r.desc t (off := 0x20) (o := 0x28) (by decide) (by decide)).symm]),
        hm.reg _ _ (tile_below_keeps ht (by decide))]
    have hcount := counted_of_reg ha.count hs
    unfold Counted at hcount ⊢
    rw [htile, hcount]
  · unfold fld
    rw [htile]
    exact ha.cause.trans (by omega)
  · exact fun e he => (hfin.others e he).trans (hreqs e)
  · intro f hf
    rw [hfin.hold, ha.rest, ho, hm.rest] at hf
    simpa using hf
  all_goals rw [hfin.rest, ha.rest, ho, hm.rest]

end Sys2Proof.Machine
end

section
namespace Sys2Proof.Machine

/-! ### LINE_FILL -/

/-- The miss and the coalesced tiles counted, and the flag of a corrected error (R133). -/
def countFill (s : State) (p n ecc : Nat) : State :=
  let u := bump (bump s (.wcache p) 0x20 1) (.wcache p) 0x28 n
  if ecc = 1 then setFlag u (.wcache p) 0x08 1 else u

theorem onlyRegs_countFill (s : State) (p n ecc : Nat) : OnlyRegs s (countFill s p n ecc) := by
  have hb := (onlyRegs_bump s (.wcache p) 0x20 1).trans (onlyRegs_bump _ (.wcache p) 0x28 n)
  unfold countFill
  dsimp only
  split
  · exact hb.trans (onlyRegs_setFlag _ _ _ _)
  · exact hb

theorem regsBut_countFill (s : State) (p n ecc : Nat) :
    RegsBut [regAddr (.wcache p) 0x20, regAddr (.wcache p) 0x28, regAddr (.wcache p) 0x08] s (countFill s p n ecc) := by
  have hb : RegsBut [regAddr (.wcache p) 0x20, regAddr (.wcache p) 0x28, regAddr (.wcache p) 0x08] s
      (bump (bump s (.wcache p) 0x20 1) (.wcache p) 0x28 n) :=
    ((regsBut_bump s _ _ _).mono (by simp)).trans ((regsBut_bump _ _ _ _).mono (by simp))
  unfold countFill
  dsimp only
  split
  · exact hb.trans ((regsBut_setFlag _ _ _ _).mono (by simp))
  · exact hb

theorem flagUp_countFill (s : State) (p n : Nat) : FlagUp (countFill s p n 1) (.wcache p) 0x08 1 :=
  flagUp_setFlag _ (.wcache p) 0x08 1 (by decide)

/-- A register of the weight cache but its flags after the fill's counts. -/
theorem reg_countFill (s : State) (p n ecc : Nat) {o : Nat} (ho : o ≠ 0x08) : reg (countFill s p n ecc) (.wcache p) o =
    reg (bump (bump s (.wcache p) 0x20 1) (.wcache p) 0x28 n) (.wcache p) o := by
  unfold countFill
  dsimp only
  split
  · exact (regsBut_setFlag _ _ _ _).reg _ _ (by simpa using regAddr_inj _ ho)
  · rfl

theorem counted_countFill_miss (s : State) (p n ecc : Nat) : Counted s (countFill s p n ecc) (.wcache p) 0x20 1 := by
  unfold Counted
  rw [reg_countFill s p n ecc (by decide), (regsBut_bump _ _ _ _).reg _ _ (by simpa using regAddr_inj _ (by decide))]
  exact counted_bump s (.wcache p) 0x20 1

theorem counted_countFill_coalesced (s : State) (p n ecc : Nat) : Counted s (countFill s p n ecc) (.wcache p) 0x28 n := by
  have hc := counted_of_reg (counted_bump (bump s (.wcache p) 0x20 1) (.wcache p) 0x28 n)
    ((regsBut_bump s (.wcache p) 0x20 1).reg (.wcache p) 0x28 (by simpa using regAddr_inj _ (by decide)))
  unfold Counted at hc ⊢
  rw [reg_countFill s p n ecc (by decide), hc]

/-- The line joins what a waiting stream of a tile has (R133). -/
def fillRun (line : Nat) (s : State) (q : Nat × StreamRun) : State := setRun s q.1 { q.2 with filled := q.2.filled ++ [line] }

/-- The waiting streams of the tiles that a fill names. -/
def waitingRuns (s : State) (line : Nat) (tiles : List Nat) : List (Nat × StreamRun) :=
  tiles.filterMap (fun t => (waitsLine s line t).map (fun r => (t, r)))

theorem mem_waitingRuns {s : State} {line t : Nat} {tiles : List Nat} {r : StreamRun} :
    (t, r) ∈ waitingRuns s line tiles ↔ t ∈ tiles ∧ waitsLine s line t = some r := by
  simp only [waitingRuns, List.mem_filterMap, Option.map_eq_some_iff, Prod.mk.injEq]
  constructor
  · rintro ⟨i, hi, r', hr, rfl, rfl⟩
    exact ⟨hi, hr⟩
  · rintro ⟨hi, hr⟩
    exact ⟨t, hi, r, hr, rfl, rfl⟩

theorem fillRun_fields (line : Nat) (s : State) (q : Nat × StreamRun) : fillRun line s q = { s with tiles := (fillRun line s q).tiles } :=
  rfl

theorem tileAt_fillRun_ne (line : Nat) (s : State) (q : Nat × StreamRun) {t : Nat} (h : t ≠ q.1) :
    tileAt (fillRun line s q) t = tileAt s t := tileAt_setTile_ne _ _ _ _ h

/-- A stream is the run `r` of its tile, by its index, request and frame. -/
def SameRun (r q : StreamRun) : Prop := q.index = r.index ∧ q.entry = r.entry ∧ q.frame = r.frame

theorem streams_fillRun (line : Nat) (s : State) (t : Nat) (r : StreamRun) :
    (tileAt (fillRun line s (t, r)) t).streams = (tileAt s t).streams.map (fun q =>
      if q.index = r.index ∧ q.entry = r.entry ∧ q.frame = r.frame then { r with filled := r.filled ++ [line] } else q) := by
  unfold fillRun setRun
  rw [tileAt_setTile_same]

/-- A fill changes of a tile its streams only. -/
theorem tileAt_fillRun (line : Nat) (s : State) (q : Nat × StreamRun) (t : Nat) :
    tileAt (fillRun line s q) t = { tileAt s t with streams := (tileAt (fillRun line s q) t).streams } := by
  by_cases h : t = q.1
  · subst h
    unfold fillRun setRun
    rw [tileAt_setTile_same]
  · rw [tileAt_fillRun_ne line s q h]

theorem fillRuns_fields (line : Nat) (l : List (Nat × StreamRun)) (s : State) :
    l.foldl (fillRun line) s = { s with tiles := (l.foldl (fillRun line) s).tiles } :=
  List.foldlRecOn (motive := fun u => u = { s with tiles := u.tiles }) l (fillRun line) rfl fun u hu q _ => by
    rw [fillRun_fields, hu]

theorem tileAt_fillRuns_ne (line t : Nat) (l : List (Nat × StreamRun)) (s : State) (h : ∀ q ∈ l, t ≠ q.1) :
    tileAt (l.foldl (fillRun line) s) t = tileAt s t :=
  List.foldlRecOn (motive := fun u => tileAt u t = tileAt s t) l (fillRun line) rfl fun u hu q hq =>
    (tileAt_fillRun_ne line u q (h q hq)).trans hu

theorem tileAt_fillRuns (line t : Nat) (l : List (Nat × StreamRun)) (s : State) :
    tileAt (l.foldl (fillRun line) s) t = { tileAt s t with streams := (tileAt (l.foldl (fillRun line) s) t).streams } :=
  List.foldlRecOn (motive := fun u => tileAt u t = { tileAt s t with streams := (tileAt u t).streams }) l (fillRun line) rfl
    fun u hu q _ => by
      have hq := tileAt_fillRun line u q t
      rw [hu] at hq
      exact hq

/-- A stream that was served the line keeps it, and the run of a pair in the list is served it. -/
theorem fillRuns_serves {line t : Nat} {r : StreamRun} {l : List (Nat × StreamRun)} {s : State}
    (hl : ∀ q ∈ l, q.1 = t → q.2 = r) (hs : ∃ q ∈ (tileAt s t).streams, SameRun r q ∧ (line ∈ q.filled ∨ (t, r) ∈ l)) :
    ∃ q ∈ (tileAt (l.foldl (fillRun line) s) t).streams, SameRun r q ∧ line ∈ q.filled := by
  induction l generalizing s with
  | nil =>
    obtain ⟨q, hq, hsame, hf | hf⟩ := hs
    · exact ⟨q, hq, hsame, hf⟩
    · cases hf
  | cons p l ih =>
    obtain ⟨q, hq, hsame, hf⟩ := hs
    refine ih (fun q hq => hl q (List.mem_cons_of_mem _ hq)) ?_
    by_cases hp : p.1 = t
    · have hpr : p = (t, r) := Prod.ext hp (hl p List.mem_cons_self hp)
      rw [hpr, streams_fillRun]
      exact ⟨{ r with filled := r.filled ++ [line] }, List.mem_map.2 ⟨q, hq, if_pos hsame⟩, ⟨rfl, rfl, rfl⟩, .inl (by simp)⟩
    · rw [tileAt_fillRun_ne line s p (Ne.symm hp)]
      refine ⟨q, hq, hsame, hf.imp_right fun hm => ?_⟩
      rcases List.mem_cons.1 hm with rfl | hm
      · exact absurd rfl hp
      · exact hm

end Sys2Proof.Machine
end

section
namespace Sys2Proof.Machine

/-- The filled line becomes the most recently used of its Spire, where there is room (R133). -/
def keepLine (s : State) (p line : Nat) : State :=
  let x := spireAt s p
  setSpire s p { x with lines := (line :: x.lines).take (32768 - pinnedLines s p - replicaLines s x.replicas) }

/-- A fill that names waiting tiles of an enabled Spire. -/
structure FillNames (s : State) (p line : Nat) (tiles : List Nat) : Prop where
  spire : p < 8
  some : tiles ≠ []
  waiting : ∀ t ∈ tiles, t < 640 ∧ tileSpire t = p ∧ (waitsLine s line t).isSome = true
  on : enabled s (.wcache p) = true

theorem FillNames.inPlace {s : State} {p line ecc : Nat} {tiles : List Nat} (h : FillNames s p line tiles) (he : ecc ≤ 2) :
    ¬(8 ≤ p ∨ 2 < ecc ∨ tiles.any (fun t => decide (640 ≤ t ∨ tileSpire t ≠ p)) = true) := by
  have hp := h.spire
  rintro (hc | hc | hc)
  · omega
  · omega
  · obtain ⟨t, ht, hbad⟩ := List.any_eq_true.1 hc
    obtain ⟨hlt, hsp, -⟩ := h.waiting t ht
    simp only [decide_eq_true_eq] at hbad
    rcases hbad with hbad | hbad
    · omega
    · exact hbad hsp

theorem FillNames.serves {s : State} {p line : Nat} {tiles : List Nat} (h : FillNames s p line tiles) :
    ¬(enabled s (.wcache p) = false ∨ tiles = [] ∨ tiles.any (fun t => (waitsLine s line t).isNone) = true) := by
  rintro (hc | hc | hc)
  · rw [h.on] at hc
    cases hc
  · exact h.some hc
  · obtain ⟨t, ht, hnone⟩ := List.any_eq_true.1 hc
    have hsome := (h.waiting t ht).2.2
    cases hw : waitsLine s line t with
    | none => simp [hw] at hsome
    | some r => simp [hw] at hnone

theorem lineFill_uncorrectable {s : State} {p line : Nat} {tiles : List Nat} (h : FillNames s p line tiles) :
    Completes (.lineFill p line tiles 2) s := by
  show ∃ u, execLineFill p line tiles 2 s = .next u
  unfold execLineFill
  rw [if_neg (h.inPlace (by decide)), if_neg h.serves]
  exact ⟨_, rfl⟩

/-- A fill without an uncorrectable error counts, serves every waiting stream and keeps the line (R133). -/
theorem lineFill_serves {s : State} {p line ecc : Nat} {tiles : List Nat} (h : FillNames s p line tiles) (he : ecc < 2) :
    Does (.lineFill p line tiles ecc) s
      (keepLine ((waitingRuns s line tiles).foldl (fillRun line) (countFill s p (tiles.length - 1) ecc)) p line) := by
  show execLineFill p line tiles ecc s = _
  unfold execLineFill
  rw [if_neg (h.inPlace (by omega)), if_neg h.serves]
  dsimp only
  rw [if_neg (show ecc ≠ 2 by omega)]
  rfl

theorem spireAt_setSpire_same (s : State) (p : Nat) (x : Spire) : spireAt (setSpire s p x) p = x := tgetD_tsetD_same _ _ _ _

theorem wcache_ne_tier (p o : Nat) {off : Nat} (h : off < 0x10000) : regAddr .tier off ≠ regAddr (.wcache p) o := by
  simp only [regAddr, blkBase]; omega

/-- The registers of a Spire's weight cache that a fill writes. -/
def fillRegs (p : Nat) : List Nat := [regAddr (.wcache p) 0x20, regAddr (.wcache p) 0x28, regAddr (.wcache p) 0x08]

/-- The room of a Spire's weight cache depends on no count and no flag (R133, R201). -/
theorem pinnedLines_kept {s u : State} {p : Nat} (h : RegsBut (fillRegs p) s u) : pinnedLines u p = pinnedLines s p := by
  have hreg : ∀ j, reg u (.wcache p) (0x108 + 16 * j) = reg s (.wcache p) (0x108 + 16 * j) := fun j => h.reg _ _ (by
    simp only [fillRegs, regAddr, List.mem_cons, List.not_mem_nil, or_false]
    omega)
  unfold pinnedLines fld
  simp only [hreg]

theorem ftabOf_kept {s u : State} {p : Nat} (h : RegsBut (fillRegs p) s u) (t : Nat) : ftabOf u t = ftabOf s t := by
  have hword : ∀ w, w < 0x40 → ftabWord u t w = ftabWord s t w := fun w hw => by
    unfold ftabWord
    split
    · refine h.reg _ _ ?_
      simp [fillRegs, wcache_ne_tier p _ (show ftabOff t w < 0x10000 by unfold ftabOff; omega)]
    · rfl
  unfold ftabOf
  rw [hword 0 (by decide), hword 8 (by decide), hword 0x10 (by decide), hword 0x18 (by decide), hword 0x20 (by decide)]

theorem replicaLines_kept {s u : State} {p : Nat} (h : RegsBut (fillRegs p) s u) (l : List (Nat × Nat)) :
    replicaLines u l = replicaLines s l := by
  unfold replicaLines
  simp only [ftabOf_kept h]

theorem waitsLine_mem {s : State} {line t : Nat} {r : StreamRun} (h : waitsLine s line t = some r) :
    r ∈ (tileAt s t).streams := List.mem_of_find?_eq_some h

theorem lineFillServes : Claims.LineFillServes := by
  intro s p line tiles ecc hp htiles hwait hon
  have hnames : FillNames s p line tiles := ⟨hp, htiles, hwait, hon⟩
  refine ⟨lineFill_uncorrectable hnames, fun he => ⟨_, lineFill_serves hnames he, ?_⟩⟩
  have hcount := onlyRegs_countFill s p (tiles.length - 1) ecc
  have hbut := regsBut_countFill s p (tiles.length - 1) ecc
  have hmiss := counted_countFill_miss s p (tiles.length - 1) ecc
  have hcoal := counted_countFill_coalesced s p (tiles.length - 1) ecc
  have hflag : ecc = 1 → FlagUp (countFill s p (tiles.length - 1) ecc) (.wcache p) 0x08 1 := by
    rintro rfl
    exact flagUp_countFill s p _
  generalize countFill s p (tiles.length - 1) ecc = c at *
  have hfill := fillRuns_fields line (waitingRuns s line tiles) c
  have hfillAt := fun t => tileAt_fillRuns line t (waitingRuns s line tiles) c
  have hother : ∀ t, t ∉ tiles → tileAt ((waitingRuns s line tiles).foldl (fillRun line) c) t = tileAt s t := fun t ht =>
    (tileAt_fillRuns_ne line t _ c fun q hq => by
      rintro rfl
      exact ht (mem_waitingRuns.1 hq).1).trans (hcount.tileAt t)
  have hserved : ∀ t r, t ∈ tiles → waitsLine s line t = some r →
      ∃ q ∈ (tileAt ((waitingRuns s line tiles).foldl (fillRun line) c) t).streams, SameRun r q ∧ line ∈ q.filled := by
    intro t r ht hr
    refine fillRuns_serves (fun q hq hqt => ?_) ⟨r, ?_, ⟨rfl, rfl, rfl⟩, .inr (mem_waitingRuns.2 ⟨ht, hr⟩)⟩
    · have hq' := (mem_waitingRuns.1 hq).2
      rw [hqt, hr] at hq'
      exact (Option.some.inj hq').symm
    · rw [hcount.tileAt]
      exact waitsLine_mem hr
  generalize (waitingRuns s line tiles).foldl (fillRun line) c = v at *
  have hvbut : RegsBut (fillRegs p) s v := hbut.of_regs (by rw [hfill])
  have hspire : spireAt v p = spireAt s p := by
    unfold spireAt
    rw [hfill, hcount]
  have hregs : (keepLine v p line).regs = c.regs := by
    show v.regs = c.regs
    rw [hfill]
  have htile : ∀ t, tileAt (keepLine v p line) t = tileAt v t := fun t => rfl
  refine ⟨?_, ?_, ?_, ?_, ?_, ?_, ?_, ?_, ?_⟩
  · exact hmiss.of_regs hregs
  · exact hcoal.of_regs hregs
  · intro h1
    unfold FlagUp
    rw [reg_of_regs hregs]
    exact hflag h1
  · unfold keepLine
    rw [spireAt_setSpire_same, hspire, pinnedLines_kept hvbut, replicaLines_kept hvbut]
  · intro t r ht hr
    obtain ⟨q, hq, ⟨hi, hqe, -⟩, hl⟩ := hserved t r ht hr
    exact ⟨q, hq, hi, hqe, hl⟩
  · exact fun t ht => (htile t).trans (hother t ht)
  · intro t
    have h := hfillAt t
    rw [hcount.tileAt] at h
    exact h
  · exact hbut.of_regs hregs
  · unfold keepLine setSpire
    rw [hfill, hcount]

/-- Settles O25: a fault of a stream aborts its task and faults its request; a line filled serves every waiting stream. -/
theorem streamTrouble : Obligations.StreamTrouble := ⟨streamFaultAborts, lineFillServes⟩

end Sys2Proof.Machine
end

section
namespace Sys2Proof.Machine

/-! ### What keeps the frame timer

At a boundary only `openFrame` moves the counter, and only `measureOffset` the lock. Every other operation of the boundary
leaves the frame timer, one lemma for each in the order of the model. -/

@[simp] theorem frame_ite (c : Prop) [Decidable c] (s t : State) : (if c then s else t).frame = if c then s.frame else t.frame :=
  apply_ite State.frame c s t

@[simp] theorem frame_foldl {α : Type} (f : State → α → State) (h : ∀ s x, (f s x).frame = s.frame) (l : List α) (s : State) :
    (l.foldl f s).frame = s.frame := foldl_keeps State.frame f h l s

theorem frame_foldl_fst {α β : Type} (f : State × β → α → State × β) (h : ∀ p x, (f p x).1.frame = p.1.frame) (l : List α)
    (p : State × β) : (l.foldl f p).1.frame = p.1.frame :=
  List.foldlRecOn (motive := fun q => q.1.frame = p.1.frame) l f rfl fun q hq x _ => (h q x).trans hq

@[simp] theorem giveBack_frame (s : State) (l : List Token) : (giveBack s l).frame = s.frame := by rw [(dropped_giveBack s l).rest]
@[simp] theorem dropWork_frame (s : State) (e : Nat) : (dropWork s e).frame = s.frame := by rw [(dropped_dropWork s e).rest]
@[simp] theorem sendMsg_frame (s : State) (n q type tag : Nat) (body : List Byte) : (sendMsg s n q type tag body).frame = s.frame :=
  (handed_sendMsg _ _ _ _ _ _).frame
@[simp] theorem sendCtl_frame (s : State) (n type tag : Nat) (body : List Byte) : (sendCtl s n type tag body).frame = s.frame :=
  (handed_sendCtl _ _ _ _ _).frame
@[simp] theorem eventTo_frame (s : State) (n code a b : Nat) : (eventTo s n code a b).frame = s.frame := (handed_eventTo _ _ _ _ _).frame
@[simp] theorem eventPriv_frame (s : State) (code a b : Nat) : (eventPriv s code a b).frame = s.frame := (handed_eventPriv _ _ _ _).frame

/-! ### Keep errors and the log -/

@[simp] theorem keepError_frame (s : State) (k block : Nat) (ue patrol : Bool) :
    (keepError s k block ue patrol).frame = s.frame := by
  unfold keepError
  dsimp only
  split <;> rw [bump_frame, setFlag_frame, setReg_frame]

@[simp] theorem storeLog_frame (s : State) (e : LogEntry) : (storeLog s e).frame = s.frame := by simp [storeLog]

@[simp] theorem storeInIncident_frame (s : State) (e : LogEntry) (i : Incident) :
    (storeInIncident s e i).frame = s.frame := by simp [storeInIncident]

@[simp] theorem dropLog_frame (s : State) (cls : Nat) : (dropLog s cls).frame = s.frame := by
  unfold dropLog
  dsimp only
  split <;> simp

@[simp] theorem logEntry_frame (s : State) (cls mech action ctx unit entry detail : Nat) :
    (logEntry s cls mech action ctx unit entry detail).frame = s.frame := by
  unfold logEntry
  dsimp only
  repeat' split
  all_goals simp

/-! ### Detections and Vermilion -/

@[simp] theorem recordDetection_frame (s : State) (d : Detection) (action : Nat) :
    (recordDetection s d action).frame = s.frame := by simp [recordDetection]

@[simp] theorem endRequest_frame (s : State) (e status due : Nat) : (endRequest s e status due).frame = s.frame := by
  unfold endRequest
  split <;> simp

@[simp] theorem updReq_frame (s : State) (e : Nat) (f : Request → Request) : (updReq s e f).frame = s.frame := by
  unfold updReq
  split <;> simp

@[simp] theorem affect_frame (s : State) (es : List Nat) (status : Nat) :
    (affect s es status).frame = s.frame := by simp [affect]

@[simp] theorem faultReport_frame (s : State) (n arg0 arg1 : Nat) : (faultReport s n arg0 arg1).frame = s.frame := by
  unfold faultReport
  split <;> simp

@[simp] theorem logService_frame (s : State) (unit detail : Nat) :
    (logService s unit detail).frame = s.frame := by simp [logService]

@[simp] theorem tileOut_frame (s : State) (t : Nat) : (tileOut s t).frame = s.frame := by simp [tileOut]

@[simp] theorem clearEnables_frame (s : State) (bs : List Blk) : (clearEnables s bs).frame = s.frame :=
  foldl_keeps State.frame _ (fun s b => setEnable_frame s b false) _ s

@[simp] theorem faultAll_frame (s : State) : (faultAll s).frame = s.frame := by
  refine foldl_keeps State.frame _ (fun s e => ?_) _ s
  split <;> simp

@[simp] theorem setRdy_frame (s : State) : (setRdy s).frame = s.frame := by simp [setRdy]

@[simp] theorem enterDev_frame (s : State) (d : DevState) (reason : Nat) :
    (enterDev s d reason).frame = s.frame := by simp [enterDev]

@[simp] theorem refuseMsg_frame (s : State) (x : Submission) (reason earliest : Nat) :
    (refuseMsg s x reason earliest).frame = s.frame := by simp [refuseMsg]

@[simp] theorem sendBeacons_frame (s : State) : (sendBeacons s).frame = s.frame := by
  unfold sendBeacons
  split
  · exact foldl_keeps State.frame _ (fun s _ => emitOut_frame s _) _ s
  · rfl

@[simp] theorem enterVermilion_frame (s : State) : (enterVermilion s).frame = s.frame := by simp [enterVermilion]

@[simp] theorem detect_frame (s : State) (d : Detection) : (detect s d).frame = s.frame := by simp [detect]

@[simp] theorem domeError_frame (s : State) (d : DomeErr) : (domeError s d).frame = s.frame := by simp [domeError]

/-! ### Leases and moves -/

@[simp] theorem rehome_frame (s : State) (k : Nat) (h : Home) : (rehome s k h).frame = s.frame := by simp [rehome]

@[simp] theorem switchGranule_frame (p : State × List Transfer) (k : Nat) (h : Home) :
    (switchGranule p k h).1.frame = p.1.frame := by simp [switchGranule]

@[simp] theorem recallOne_frame (p : State × List Transfer) (k : Nat) : (recallOne p k).1.frame = p.1.frame := by
  unfold recallOne
  split <;> simp

@[simp] theorem sendLease_frame (s : State) (i : Nat) (mine : Bool) (op wire arg0 arg1 : Nat) (data : List Byte) :
    (sendLease s i mine op wire arg0 arg1 data).frame = s.frame := by
  unfold sendLease
  split <;> simp

@[simp] theorem askLease_frame (s : State) (j : Nat) : (askLease s j).frame = s.frame := by
  unfold askLease
  split
  · rfl
  · refine foldl_keeps State.frame _ (fun s q => ?_) _ s
    split
    · rfl
    · exact sendLease_frame _ _ _ _ _ _ _ _

@[simp] theorem askLeases_frame (s : State) : (askLeases s).frame = s.frame := by simp [askLeases]

@[simp] theorem sendTransfer_frame (s : State) (h : Home) (d : List Byte) : (sendTransfer s h d).frame = s.frame := by
  unfold sendTransfer
  repeat' split
  all_goals simp

@[simp] theorem sendTransfers_frame (s : State) (l : List Transfer) : (sendTransfers s l).frame = s.frame := by
  fun_induction sendTransfers s l <;> simp_all

@[simp] theorem moveOne_frame (m : Move) (p : State × List Transfer) (a : Nat) : (moveOne m p a).1.frame = p.1.frame := by
  unfold moveOne
  split <;> simp

@[simp] theorem tierBoundary_frame (s : State) (copied : Nat) : (tierBoundary s copied).frame = s.frame := by
  unfold tierBoundary
  dsimp only
  repeat' split
  all_goals simp [frame_foldl_fst _ recallOne_frame, frame_foldl_fst _ (moveOne_frame _)]

/-! ### Missed work -/

@[simp] theorem replan_frame (s : State) (e : Nat) : (replan s e).frame = s.frame := by
  unfold replan
  split <;> simp

@[simp] theorem breach_frame (s : State) (e : Nat) : (breach s e).frame = s.frame := by
  unfold breach
  split <;> simp

@[simp] theorem missed_frame (s : State) (e : Nat) : (missed s e).frame = s.frame := by
  unfold missed
  split <;> simp

@[simp] theorem stall_frame (s : State) (k c unit e : Nat) : (stall s k c unit e).frame = s.frame := by simp [stall]

/-! ### Tokens and searches -/

@[simp] theorem touch_frame (s : State) (t e : Nat) : (touch s t e).frame = s.frame := by simp [touch]

@[simp] theorem toInbox_frame (s : State) (t : Nat) (k : Token) : (toInbox s t k).frame = s.frame := by simp [toInbox]

@[simp] theorem toTile_frame (s : State) (k : Token) (r : RouteRec) (q : Request) :
    (deliver_.toTile s k r q).frame = s.frame := by
  unfold deliver_.toTile
  dsimp only
  repeat' split
  all_goals simp

@[simp] theorem deliver_frame (s : State) (k : Token) : (deliver_ s k).frame = s.frame := by
  unfold deliver_
  dsimp only
  repeat' split
  all_goals simp

@[simp] theorem sendShortlist_frame (s : State) (e : Nat) (r : Request) (j k : Nat) (rec_ : SelRec) :
    (sendShortlist s e r j k rec_).frame = s.frame := by
  unfold sendShortlist
  split <;> simp

@[simp] theorem finishSearch_frame (s : State) (e : Nat) (r : Request) (b : SearchBlock) (j frames : Nat) :
    (finishSearch s e r b j frames).frame = s.frame := by simp [finishSearch]

@[simp] theorem searchFrame_frame (s : State) (f e : Nat) : (searchFrame s f e).frame = s.frame := by
  unfold searchFrame
  repeat' split
  all_goals simp

@[simp] theorem searchFrames_frame (s : State) (f : Nat) : (searchFrames s f).frame = s.frame := by simp [searchFrames]

/-! ### Scans -/

@[simp] theorem scanQuery_frame (s : State) (x : IndexHdr) (k f e : Nat) : (scanQuery s x k f e).frame = s.frame := by
  unfold scanQuery
  repeat' split
  all_goals simp

@[simp] theorem detectKeep_frame (s : State) (k ctx entry detail : Nat) (affected : List Nat) :
    (detectKeep s k ctx entry detail affected).frame = s.frame := by simp [detectKeep]

@[simp] theorem scanKeep_frame (s : State) (x : IndexHdr) (f : Nat) (late lanes : List Nat) (k : Nat) :
    (scanKeep s x f late lanes k).frame = s.frame := by
  unfold scanKeep
  split
  · rfl
  · extract_lets es bytes u v w bad
    have hv : v.frame = s.frame := (foldl_keeps State.frame _ (fun s e => scanQuery_frame s x k f e) es u).trans (by simp [u])
    have hw : w.frame = s.frame := by
      unfold w
      split <;> simp [hv]
    split
    · next y z hbad =>
      have hz : z.frame = s.frame := (foldl_keeps State.frame _ (fun s e => by simp) es y).trans (by simp [y, hw])
      clear_value bad
      cases bad with
      | none => exact hz
      | some b => simp [hz]
    · exact hw

@[simp] theorem scanFrame_frame (s : State) (f : Nat) (late lanes : List Nat) :
    (scanFrame s f late lanes).frame = s.frame := by
  unfold scanFrame
  split <;> simp

/-! ### Text -/

@[simp] theorem textFault_frame (s : State) (e : Nat) : (textFault s e).frame = s.frame := by simp [textFault]

@[simp] theorem keepPart_frame (s : State) (j : TextJob) : (keepPart s j).frame = s.frame := by simp [keepPart]

@[simp] theorem runTokenize_frame (s : State) (j : TextJob) (v : Vocab) :
    (runTokenize s j v).frame = s.frame := by simp [runTokenize]

@[simp] theorem textFragment_frame (s : State) (e : Nat) (r : Request) (first generated : Nat) (bs : List Byte) :
    (textFragment s e r first generated bs).frame = s.frame := by simp [textFragment]

@[simp] theorem detokenize_frame (s : State) (j : TextJob) (v : Vocab) (r : Request) (toks : List Nat) :
    (detokenize s j v r toks).frame = s.frame := by simp [detokenize]

@[simp] theorem runDetokenize_frame (s : State) (j : TextJob) (v : Vocab) (r : Request) :
    (runDetokenize s j v r).frame = s.frame := by simp [runDetokenize]

@[simp] theorem runJob_frame (s : State) (j : TextJob) : (runJob s j).frame = s.frame := by
  unfold runJob
  split <;> simp

@[simp] theorem closeTexts_frame (s : State) (f : Nat) : (closeTexts s f).frame = s.frame := by simp [closeTexts]

@[simp] theorem closeFrame_frame (b : BoundaryIn) (s : State) : (closeFrame b s).frame = s.frame := by simp [closeFrame]

end Sys2Proof.Machine
end

section
namespace Sys2Proof.Machine

/-! ### Tasks that leave their tile -/

@[simp] theorem leaveTile_frame (s : State) (t : Nat) (k : Task) (lastStep : Bool) :
    (leaveTile s t k lastStep).frame = s.frame := by simp [leaveTile]

@[simp] theorem faultNow_frame (s : State) (e : Nat) : (faultNow s e).frame = s.frame := by
  unfold faultNow
  split <;> simp

@[simp] theorem queueTask_frame (s : State) (p : Nat) (q : QTask) : (queueTask s p q).frame = s.frame := by simp [queueTask]

@[simp] theorem requeue_frame (s : State) (t : Nat) (k : Task) : (requeue s t k).frame = s.frame := by
  unfold requeue
  split <;> simp

/-- A task's abort, by how its request is handled (R136). -/
theorem abortTask_running {s : State} {t cause stream why : Nat} {k : Task} (hk : (tileAt s t).task = some k) :
    abortTask s t cause stream why =
      (let u := abortedAt s t cause stream k
       if cause = 1 ∨ cause = 2 ∨ cause = 3 then faultNow u k.entry
       else if cause = 5 then requeue (missed (stall u why k.ctx t k.entry) k.entry) t k
       else if cause = 6 then requeue (replan u k.entry) t k
       else u) := by
  unfold abortTask
  simp only [hk]
  rfl

@[simp] theorem abortTask_frame (s : State) (t cause stream why : Nat) :
    (abortTask s t cause stream why).frame = s.frame := by
  cases hk : (tileAt s t).task with
  | none => simp [abortTask, hk]
  | some k =>
    have ha : (abortedAt s t cause stream k).frame = s.frame := by rw [(aborted_abortedAt s t cause stream k).rest]
    rw [abortTask_running hk]
    repeat' split
    all_goals simp [ha]

@[simp] theorem detectTile_frame (s : State) (mech t detail : Nat) :
    (detectTile s mech t detail).frame = s.frame := by simp [detectTile]

@[simp] theorem overrun_frame (s : State) (t : Nat) : (overrun s t).frame = s.frame := by
  unfold overrun
  dsimp only
  split
  · rfl
  · repeat' split
    all_goals simp

@[simp] theorem overruns_frame (s : State) : (overruns s).frame = s.frame := by simp [overruns]

/-! ### Contexts that enter Slate -/

@[simp] theorem slateReq_frame (s : State) (e : Nat) : (slateReq s e).frame = s.frame := by
  unfold slateReq
  split <;> simp

@[simp] theorem putScales_frame (s : State) (t : Nat) (l : Table Word) : (putScales s t l).frame = s.frame :=
  foldl_keeps State.frame _ (fun s _ => setReg_frame s _ _ _) l _

@[simp] theorem markPe_frame (s : State) (t : Nat) (pe : Nat × Nat) : (markPe s t pe).frame = s.frame := by
  unfold markPe
  dsimp only
  split
  · rfl
  · split
    · rw [logEntry_frame]
      split
      · rw [setFld_frame, setFld_frame, setFld_frame]
      · rw [setFld_frame]
    · split
      · rw [logEntry_frame, setFld_frame]
      · rw [setFld_frame]

@[simp] theorem switchIn_frame (pes : List (Nat × Nat × Nat)) (s : State) (t : Nat) :
    (switchIn pes s t).frame = s.frame := by simp [switchIn]

@[simp] theorem switchServing_frame (pes : List (Nat × Nat × Nat)) (s : State) (t : Nat) :
    (switchServing pes s t).frame = s.frame := by simp [switchServing]

@[simp] theorem scrubTile_frame (c : Nat) (pes : List (Nat × Nat × Nat)) (s : State) (t : Nat) :
    (scrubTile c pes s t).frame = s.frame := by
  unfold scrubTile
  extract_lets x u y back incoming v w
  have hu : u.frame = s.frame := by
    unfold u
    repeat' split
    all_goals simp
  have hw : w.frame = s.frame := by simp [w, v, hu]
  split
  · exact (switchServing_frame _ _ _).trans hw
  · exact hw

@[simp] theorem dropFeatures_frame (s : State) (c : Nat) : (dropFeatures s c).frame = s.frame := by simp [dropFeatures]

@[simp] theorem slateLease_frame (c : Nat) (s : State) (p : Nat × Lease) :
    (slateLease c s p).frame = s.frame := by simp [slateLease]

@[simp] theorem storReply_frame (s : State) (n q tag status nsid result info : Nat) (data : List Byte) :
    (storReply s n q tag status nsid result info data).frame = s.frame := by simp [storReply]

@[simp] theorem settleFlush_frame (s : State) (q : Nat) : (settleFlush s q).frame = s.frame := by simp [settleFlush]

@[simp] theorem storDone_frame (s : State) (c : Outstanding) (status nsid result info : Nat) (data : List Byte) :
    (storDone s c status nsid result info data).frame = s.frame := by simp [storDone]

@[simp] theorem slateQueues_frame (c : Nat) (s : State) : (slateQueues c s).frame = s.frame := by simp [slateQueues]

@[simp] theorem sessionReply_frame (s : State) (n tag op ctx queue status : Nat) :
    (sessionReply s n tag op ctx queue status).frame = s.frame := by simp [sessionReply]

@[simp] theorem enterSlate_frame (pes : List (Nat × Nat × Nat)) (s : State) (c : Nat) :
    (enterSlate pes s c).frame = s.frame := by
  unfold enterSlate
  split <;> simp

@[simp] theorem slates_frame (b : BoundaryIn) (s : State) : (slates b s).frame = s.frame := by simp [slates]

/-! ### Requests that end -/

@[simp] theorem setRefs_frame (s : State) (c p n : Nat) : (setRefs s c p n).frame = s.frame := by simp [setRefs]

@[simp] theorem dropRef_frame (c : Nat) (s : State) (p : Nat) : (dropRef c s p).frame = s.frame := by simp [dropRef]

@[simp] theorem releasePages_frame (s : State) (e : Nat) : (releasePages s e).frame = s.frame := by
  unfold releasePages
  split
  · rfl
  · next r hr =>
    dsimp only
    have hrefs := fun l => foldl_keeps State.frame _ (fun s p => dropRef_frame r.ctx s p) l s
    rw [updReq_frame]
    repeat' split
    all_goals exact hrefs _

@[simp] theorem freeReq_frame (s : State) (e : Nat) : (freeReq s e).frame = s.frame := by simp [freeReq]

@[simp] theorem freeReqs_frame (s : State) : (freeReqs s).frame = s.frame := by simp [freeReqs]

@[simp] theorem completeDue_frame (s : State) : (completeDue s).frame = s.frame := by simp [completeDue]

@[simp] theorem releaseEntry_frame (s : State) (e : Nat) : (releaseEntry s e).frame = s.frame := by
  unfold releaseEntry
  split <;> simp

@[simp] theorem releaseAll_frame (s : State) : (releaseAll s).frame = s.frame := by simp [releaseAll]

/-! ### Results and deltas -/

@[simp] theorem formResults_frame (s : State) : (formResults s).frame = s.frame := by simp [formResults]

@[simp] theorem freeCredit_frame (s : State) (t route : Nat) : (freeCredit s t route).frame = s.frame := by simp [freeCredit]

@[simp] theorem acceptDelta_frame (s : State) (d : DeltaRec) : (acceptDelta s d).frame = s.frame := by simp [acceptDelta]

@[simp] theorem loseDeltas_frame (s : State) (endpoint : Nat) :
    (loseDeltas s endpoint).frame = s.frame := by simp [loseDeltas]

@[simp] theorem sendDelta_frame (s : State) (d : DeltaRec) : (sendDelta s d).frame = s.frame := by
  unfold sendDelta
  dsimp only
  repeat' split
  all_goals simp

@[simp] theorem publishDeltas_frame (s : State) (l : List DeltaRec) :
    (publishDeltas s l).frame = s.frame := by simp [publishDeltas]

@[simp] theorem publishTask_frame (s : State) (t : Nat) (k : Task) : (publishTask s t k).frame = s.frame := by
  unfold publishTask
  split <;> simp

@[simp] theorem publishAll_frame (s : State) : (publishAll s).frame = s.frame := by
  refine foldl_keeps State.frame _ (fun s t => ?_) _ s
  repeat' split
  all_goals simp

@[simp] theorem returnCredits_frame (s : State) : (returnCredits s).frame = s.frame := by simp [returnCredits]

/-! ### Spare tiles -/

@[simp] theorem handOver_frame (s : State) (t : Nat) : (handOver s t).frame = s.frame := by
  unfold handOver
  dsimp only
  repeat' split
  all_goals simp

@[simp] theorem handOvers_frame (s : State) : (handOvers s).frame = s.frame := by simp [handOvers]

@[simp] theorem failTiles_frame (s : State) : (failTiles s).frame = s.frame := by simp [failTiles]

@[simp] theorem markProduced_frame (s : State) : (markProduced s).frame = s.frame := by simp [markProduced]

end Sys2Proof.Machine
end

section
namespace Sys2Proof.Machine

/-! ### Generation -/

@[simp] theorem outputOf_frame (s : State) (e k : Nat) (ins : List DecodeIn) : (outputOf s e k ins).1.frame = s.frame := by
  unfold outputOf
  split <;> simp

@[simp] theorem draftStep_frame (s : State) (r : Request) (b : GenBlock) (d m : Nat) :
    (draftStep s r b d m).1.frame = s.frame := by
  unfold draftStep
  dsimp only
  repeat' split
  all_goals simp

@[simp] theorem countStep_frame (s : State) (r : Request) (b : GenBlock) (m : Nat) :
    (countStep s r b m).1.frame = s.frame := by simp [countStep]

@[simp] theorem discardedStep_frame (s : State) (e : Nat) (r : Request) (b : GenBlock) (ins : List DecodeIn) :
    (discardedStep s e r b ins).frame = s.frame := by simp [discardedStep]

@[simp] theorem genFault_frame (s : State) (e : Nat) : (genFault s e).frame = s.frame := by simp [genFault]

@[simp] theorem t1Write_frame (s : State) (c a : Nat) (bs : List Byte) :
    (t1Write s c a bs).frame = s.frame := by simp [t1Write]

@[simp] theorem writeList_frame (s : State) (e : Nat) : (writeList s e).frame = s.frame := by
  unfold writeList
  repeat' split
  all_goals simp

@[simp] theorem rollBack_frame (s : State) (e : Nat) : (rollBack s e).frame = s.frame := by
  unfold rollBack
  split <;> simp

@[simp] theorem openText_frame (s : State) (e p j : Nat) (jobs : List TextJob) :
    (openText s e p j jobs).frame = s.frame := by simp [openText]

@[simp] theorem emitTokens_frame (s : State) (e : Nat) (r : Request) (b : GenBlock) (toks : List Nat) :
    (emitTokens s e r b toks).frame = s.frame := by
  unfold emitTokens
  split <;> simp

@[simp] theorem generate_frame (s : State) (e : Nat) (r : Request) (b : GenBlock) (toks : List Nat) :
    (generate s e r b toks).frame = s.frame := by simp [generate]

@[simp] theorem decodeStep_frame (s : State) (e : Nat) (r : Request) (b : GenBlock) (ins : List DecodeIn) :
    (decodeStep s e r b ins).frame = s.frame := by simp [decodeStep]

@[simp] theorem firstToken_frame (s : State) (e : Nat) (r : Request) (b : GenBlock) (ins : List DecodeIn) :
    (firstToken s e r b ins).frame = s.frame := by
  unfold firstToken
  dsimp only
  split <;> simp

@[simp] theorem laneFrame_frame (n : Nat) (ins : List DecodeIn) (s : State) (e : Nat) :
    (laneFrame n ins s e).frame = s.frame := by
  unfold laneFrame
  repeat' split
  all_goals simp

@[simp] theorem laneFrames_frame (s : State) (n : Nat) (ins : List DecodeIn) :
    (laneFrames s n ins).frame = s.frame := by simp [laneFrames]

/-! ### Silent units -/

@[simp] theorem detectDevice_frame (s : State) (mech unit detail : Nat) :
    (detectDevice s mech unit detail).frame = s.frame := by simp [detectDevice]

@[simp] theorem silentUnit_frame (s : State) (u : UnitId) : (silentUnit s u).frame = s.frame := by
  unfold silentUnit
  split <;> simp

/-! ### Versions, leases and swaps -/

@[simp] theorem setIndex_frame (s : State) (ref : Nat) (x : IndexSt) :
    (setIndex s ref x).frame = s.frame := by simp [setIndex]

@[simp] theorem switchVersion_frame (s : State) (ref : Nat) : (switchVersion s ref).frame = s.frame := by
  unfold switchVersion
  dsimp only
  repeat' split
  · exact (logEntry_frame _ _ _ _ _ _ _ _).trans ((foldl_keeps State.frame _ (fun s k => setFlag_frame s _ _ _) _ _).trans
      (setIndex_frame _ _ _))
  · exact (logEntry_frame _ _ _ _ _ _ _ _).trans (setIndex_frame _ _ _)
  · rfl
  · rfl

@[simp] theorem switchVersions_frame (s : State) : (switchVersions s).frame = s.frame := by simp [switchVersions]

@[simp] theorem loseLease_frame (s : State) (j : Nat) : (loseLease s j).frame = s.frame := by simp [loseLease]

@[simp] theorem loseLeases_frame (s : State) : (loseLeases s).frame = s.frame := by simp [loseLeases]

@[simp] theorem dropLines_frame (s : State) (region : Nat) : (dropLines s region).frame = s.frame := by simp [dropLines]

@[simp] theorem loadRegion_frame (s : State) (region ref : Nat) : (loadRegion s region ref).frame = s.frame := by
  unfold loadRegion
  split <;> simp

@[simp] theorem endSwap_frame (s : State) (w : SwapPlan) : (endSwap s w).frame = s.frame := by simp [endSwap]

@[simp] theorem endSwaps_frame (s : State) : (endSwaps s).frame = s.frame := by simp [endSwaps]

/-! ### Tiles that return -/

@[simp] theorem returnTile_frame (pes : List (Nat × Nat × Nat)) (fails netFails : List Nat) (s : State) (t : Nat) :
    (returnTile pes fails netFails s t).frame = s.frame := by simp [returnTile]

@[simp] theorem returnTiles_frame (pes : List (Nat × Nat × Nat)) (fails netFails : List Nat) (s : State) :
    (returnTiles pes fails netFails s).frame = s.frame := by simp [returnTiles]

/-! ### Text and searches of a frame -/

@[simp] theorem openStage_frame (s : State) (e : Nat) (r : Request) (j : Nat) :
    (openStage s e r j).frame = s.frame := by simp [openStage]

@[simp] theorem openTexts_frame (s : State) : (openTexts s).frame = s.frame := by
  refine foldl_keeps State.frame _ (fun s e => ?_) _ s
  repeat' split
  · rfl
  · rfl
  · refine foldl_keeps State.frame _ (fun s j => ?_) _ s
    repeat' split
    all_goals simp

@[simp] theorem sketchMissing_frame (s : State) (r : Request) (e : Nat) :
    (sketchMissing s r e).frame = s.frame := by simp [sketchMissing]

@[simp] theorem bindSearch_frame (s : State) (e : Nat) : (bindSearch s e).frame = s.frame := by
  unfold bindSearch
  repeat' split
  all_goals simp

@[simp] theorem bindSearches_frame (s : State) : (bindSearches s).frame = s.frame := by simp [bindSearches]

/-! ### Requests that begin -/

@[simp] theorem placeSeeds_frame (s : State) (e : Nat) (r : Request) : (placeSeeds s e r).frame = s.frame := by
  refine foldl_keeps State.frame _ (fun s rank => ?_) _ s
  dsimp only
  repeat' split
  all_goals simp

@[simp] theorem beginRequest_frame (s : State) (e : Nat) (r : Request) : (beginRequest s e r).frame = s.frame := by
  unfold beginRequest
  dsimp only
  repeat' split
  all_goals simp

@[simp] theorem transition_frame (s : State) (e : Nat) : (transition s e).frame = s.frame := by
  unfold transition
  split <;> simp

@[simp] theorem transitions_frame (s : State) : (transitions s).frame = s.frame := by simp [transitions]

/-! ### Pages -/

@[simp] theorem takeRef_frame (c : Nat) (s : State) (p : Nat) : (takeRef c s p).frame = s.frame := by simp [takeRef]

@[simp] theorem insertPage_frame (s : State) (e variant i : Nat) : (insertPage s e variant i).frame = s.frame := by
  unfold insertPage
  split <;> simp

@[simp] theorem insertPages_frame (s : State) (e : Nat) : (insertPages s e).frame = s.frame := by
  unfold insertPages
  repeat' split
  all_goals simp

@[simp] theorem inputMissing_frame (s : State) (t e : Nat) (q : Request) (why : Nat) :
    (inputMissing s t e q why).frame = s.frame := by simp [inputMissing]

@[simp] theorem promptMissing_frame (s : State) (e : Nat) (r : Request) (j : Nat) :
    (promptMissing s e r j).frame = s.frame := by simp [promptMissing]

@[simp] theorem lookUp_frame (s : State) (e : Nat) : (lookUp s e).frame = s.frame := by
  unfold lookUp
  repeat' split
  all_goals simp

@[simp] theorem decideDraft_frame (s : State) (e : Nat) : (decideDraft s e).frame = s.frame := by
  unfold decideDraft
  repeat' split
  all_goals simp

@[simp] theorem evict_frame (s : State) (n : PrefixNode) : (evict s n).frame = s.frame := by simp [evict]

@[simp] theorem allocPage_frame (s : State) (c : Nat) : (allocPage s c).1.frame = s.frame := by
  unfold allocPage
  dsimp only
  repeat' split
  all_goals simp

@[simp] theorem growPages_frame (e n fuel : Nat) (s : State) : (growPages e n fuel s).frame = s.frame := by
  induction fuel generalizing s with
  | zero => rfl
  | succ k ih =>
    unfold growPages
    repeat' split
    · rfl
    · rfl
    · next hp =>
      rw [ih, updReq_frame]
      exact (congrArg (fun q => q.1.frame) hp).symm.trans (allocPage_frame _ _)
    · next hp => exact (congrArg (fun q => q.1.frame) hp).symm.trans (allocPage_frame _ _)

@[simp] theorem growFor_frame (s : State) (f e : Nat) : (growFor s f e).frame = s.frame := by
  unfold growFor
  split
  · rfl
  · next r hr =>
    split
    · split
      · rfl
      · extract_lets u upto
        have hu : u.frame = s.frame := by
          have h := allocPage_frame s r.ctx
          unfold u
          split
          · rfl
          · split
            · next hp =>
              rw [hp] at h
              exact (updReq_frame _ _ _).trans h
            · next hp =>
              rw [hp] at h
              exact h
        split <;> simp [hu]
    · rfl

@[simp] theorem servingBoundary_frame (s : State) : (servingBoundary s).frame = s.frame := by
  unfold servingBoundary
  extract_lets f es ended u v step w y
  have hstep : ∀ i0 run, (∀ s e, (run s e).frame = s.frame) → ∀ s e, (step i0 run s e).frame = s.frame := fun i0 run h s e => by
    unfold step
    repeat' split
    all_goals simp [h]
  have hu : u.frame = s.frame := by
    refine foldl_keeps State.frame _ (fun s e => ?_) es s
    unfold ended
    repeat' split
    all_goals simp
  have hv : v.frame = u.frame := foldl_keeps State.frame _ insertPages_frame es u
  have hw : w.frame = v.frame := foldl_keeps State.frame _ (hstep true lookUp lookUp_frame) es v
  have hy : y.frame = w.frame := foldl_keeps State.frame _ (hstep false decideDraft decideDraft_frame) es w
  exact (foldl_keeps State.frame _ (fun s e => growFor_frame s f e) es y).trans (hy.trans (hw.trans (hv.trans hu)))

/-! ### Dispatch -/

@[simp] theorem dropDead_frame (s : State) : (dropDead s).frame = s.frame := by
  refine foldl_keeps State.frame _ (fun s t => ?_) _ s
  repeat' split
  all_goals simp

@[simp] theorem enqueueReady_frame (s : State) (e : Nat) : (enqueueReady s e).frame = s.frame := by
  unfold enqueueReady
  repeat' split
  · rfl
  · rfl
  · rfl
  · refine foldl_keeps State.frame _ (fun s j => ?_) _ s
    split
    · rfl
    · refine foldl_keeps State.frame _ (fun s rank => ?_) _ s
      split <;> simp

@[simp] theorem countLate_frame (s : State) (t : Nat) (r : StreamRun) :
    (countLate s t r).frame = s.frame := by simp [countLate]

@[simp] theorem startTask_frame (s : State) (t e : Nat) (q : Request) (j step rank program : Nat) (toks : List Token) :
    (startTask s t e q j step rank program toks).frame = s.frame := by
  unfold startTask
  split <;> simp

@[simp] theorem placeTask_frame (s : State) (p t : Nat) (k : QTask) (q : Request) (program : Nat) :
    (placeTask s p t k q program).frame = s.frame := by simp [placeTask]

@[simp] theorem dispatchOne_frame (s : State) (p : Nat) (k : QTask) : (dispatchOne s p k).frame = s.frame := by
  unfold dispatchOne
  dsimp only
  repeat' split
  all_goals simp

@[simp] theorem dispatchAll_frame (s : State) : (dispatchAll s).frame = s.frame := by
  unfold dispatchAll
  refine (foldl_keeps State.frame _ (fun s p => setSpire_frame s p _) _ _).trans ?_
  refine (foldl_keeps State.frame _ (fun s p => ?_) _ _).trans (foldl_keeps State.frame _ enqueueReady_frame _ s)
  exact (foldl_keeps State.frame _ (fun s k => dispatchOne_frame s p k) _ _).trans (setSpire_frame s p _)

@[simp] theorem breachLost_frame (s : State) : (breachLost s).frame = s.frame := by
  refine foldl_keeps State.frame _ (fun s e => ?_) _ s
  repeat' split
  all_goals simp

@[simp] theorem landingMissing_frame (s : State) (t e : Nat) (q : Request) (r : StreamRun) :
    (landingMissing s t e q r).frame = s.frame := by simp [landingMissing]

@[simp] theorem startServing_frame (s : State) : (startServing s).frame = s.frame := by
  refine foldl_keeps State.frame _ (fun s t => ?_) _ s
  dsimp only
  repeat' split
  all_goals simp

@[simp] theorem boundTile_frame (s0 s : State) (t : Nat) : (boundTile s0 s t).frame = s.frame := by
  unfold boundTile
  repeat' split
  all_goals simp

@[simp] theorem startBound_frame (s : State) : (startBound s).frame = s.frame := by simp [startBound]

@[simp] theorem beginSwitch_frame (s : State) (t c ready : Nat) : (beginSwitch s t c ready).frame = s.frame := by
  unfold beginSwitch
  dsimp only
  rw [bump_frame, setTile_frame, putScales_frame]
  split <;> rfl

@[simp] theorem beginSwitches_frame (s : State) : (beginSwitches s).frame = s.frame := by
  unfold beginSwitches
  refine (foldl_keeps State.frame _ (fun s o => ?_) _ _).trans (foldl_keeps State.frame _ (fun s t => ?_) _ _)
  · dsimp only
    split <;> simp
  · dsimp only
    repeat' split
    all_goals simp

@[simp] theorem startWork_frame (s : State) : (startWork s).frame = s.frame := by simp [startWork]

/-! ### Admission -/

@[simp] theorem acceptMsg_frame (s : State) (e : Nat) (r : Request) :
    (acceptMsg s e r).frame = s.frame := by simp [acceptMsg]

@[simp] theorem queueWake_frame (s : State) (d port : Nat) : (queueWake s d port).frame = s.frame := by simp [queueWake]

@[simp] theorem setMod_frame (s : State) (m : Nat) (x : Module) : (setMod s m x).frame = s.frame := by simp [setMod]

@[simp] theorem decideNew_frame (s : State) (x : Submission) : (decideNew s x).frame = s.frame := by
  unfold decideNew
  split
  · simp
  · dsimp only
    split
    · simp
    · split
      · simp
      · split <;> simp

@[simp] theorem decideReplan_frame (s : State) (e : Nat) : (decideReplan s e).frame = s.frame := by
  unfold decideReplan
  dsimp only
  repeat' split
  all_goals simp

@[simp] theorem decideItem_frame (s : State) (i : PassItem) : (decideItem s i).frame = s.frame := by
  unfold decideItem
  split <;> simp

@[simp] theorem admissionPass_frame (s : State) : (admissionPass s).frame = s.frame := by simp [admissionPass]

/-! ### Replicas -/

@[simp] theorem setReplicas_frame (s : State) (p : Nat) (l : List (Nat × Nat)) :
    (setReplicas s p l).frame = s.frame := by simp [setReplicas]

@[simp] theorem fillReplicas_frame (s : State) : (fillReplicas s).frame = s.frame := by simp [fillReplicas]

@[simp] theorem refill_frame (s : State) : (refill s).frame = s.frame := by simp [refill]

@[simp] theorem reportService_frame (s : State) : (reportService s).frame = s.frame := by simp [reportService]

end Sys2Proof.Machine
end

section
namespace Sys2Proof.Machine

/-! ### The frame counter at a boundary -/

@[simp] theorem memoryErrors_frame (b : BoundaryIn) (s : State) : (memoryErrors b s).frame = s.frame := by
  unfold memoryErrors
  exact (foldl_keeps State.frame _ domeError_frame _ _).trans (foldl_keeps State.frame
    (fun s (q : Nat × Nat) => keepError s q.1 q.2 false false) (fun s q => keepError_frame s q.1 q.2 false false) _ s)

/-- The frame that begins at the boundary: one more, or the one that the acquisition set (R22, R24). -/
def frameOpened (s : State) : Nat := s.frame.nextFrame.getD (s.frame.count + 1)

/-- The frame timer has entered frame `n`. -/
def Entered (n : Nat) (s : State) : Prop := now s = n ∧ s.frame.nextFrame = none

theorem Entered.of_frame {n : Nat} {s u : State} (h : Entered n s) (hf : u.frame = s.frame) : Entered n u := by
  obtain ⟨hn, hx⟩ := h
  exact ⟨(congrArg FrameTimer.count hf).trans hn, (congrArg FrameTimer.nextFrame hf).trans hx⟩

theorem entered_openFrame (s : State) : Entered (frameOpened s) (openFrame s) := ⟨rfl, rfl⟩

theorem frameOpened_of_frame {s u : State} (h : u.frame = s.frame) : frameOpened u = frameOpened s := by
  unfold frameOpened
  rw [h]

theorem Entered.leaveLocked {n : Nat} {s : State} (h : Entered n s) (l : Lock) : Entered n (leaveLocked s l) := by
  obtain ⟨hn, hx⟩ := h
  have hf := leaveLocked_frame s l
  exact ⟨(congrArg FrameTimer.count hf).trans hn, (congrArg FrameTimer.nextFrame hf).trans hx⟩

/-- Measuring the offset changes the lock, the steering and the offset, not the counter (R23, R24). -/
theorem Entered.measureOffset {n : Nat} {s : State} (h : Entered n s) (offset : Int) : Entered n (measureOffset s offset) := by
  have hin : ∀ x y z, Entered n { s with frame := { s.frame with offsetNs := x, good := y, steer := z } } := fun _ _ _ => h
  unfold Machine.measureOffset
  dsimp only
  split
  · split
    · exact (hin _ _ _).leaveLocked _
    · exact hin _ _ _
  · split
    · exact h
    · exact h

theorem inServiceOnly_frame {f : State → State} (h : ∀ s, (f s).frame = s.frame) (s : State) :
    (inServiceOnly f s).frame = s.frame := by
  unfold inServiceOnly
  split
  · exact h s
  · rfl

theorem entered_serviceBoundary (b : BoundaryIn) (s : State) : Entered (frameOpened s) (serviceBoundary b s) := by
  have hopen : Entered (frameOpened s) (openFrame (tierBoundary (closeFrame b s) b.copied)) := by
    have h := entered_openFrame (tierBoundary (closeFrame b s) b.copied)
    rwa [frameOpened_of_frame ((tierBoundary_frame _ _).trans (closeFrame_frame b s))] at h
  refine (hopen.measureOffset b.offsetNs).of_frame ?_
  unfold serviceBoundary
  simp [inServiceOnly_frame]

theorem entered_idleBoundary (b : BoundaryIn) (s : State) : Entered (frameOpened s) (idleBoundary b s) := by
  refine ((entered_openFrame s).measureOffset b.offsetNs).of_frame ?_
  unfold idleBoundary
  refine (foldl_keeps State.frame _ silentUnit_frame _ _).trans ?_
  split <;> simp

/-! ### A boundary outside service -/

/-- Operations that leave the device state, the image, the flash and the pins (R241). -/
structure KeepsDevice (s u : State) : Prop where
  dev : u.dev = s.dev
  img : u.img = s.img
  flash : u.flash = s.flash
  nv : u.nv = s.nv
  pins : u.pins = s.pins

theorem KeepsDevice.refl (s : State) : KeepsDevice s s := ⟨rfl, rfl, rfl, rfl, rfl⟩

theorem KeepsDevice.trans {s u v : State} (h : KeepsDevice s u) (k : KeepsDevice u v) : KeepsDevice s v :=
  ⟨k.dev.trans h.dev, k.img.trans h.img, k.flash.trans h.flash, k.nv.trans h.nv, k.pins.trans h.pins⟩

/-- Operations that leave the requests too. -/
structure Idled (s u : State) : Prop extends KeepsDevice s u where
  reqs : u.reqs = s.reqs

theorem Idled.refl (s : State) : Idled s s := ⟨.refl s, rfl⟩

theorem Idled.trans {s u v : State} (h : Idled s u) (k : Idled u v) : Idled s v :=
  ⟨h.toKeepsDevice.trans k.toKeepsDevice, k.reqs.trans h.reqs⟩

theorem Idled.foldl {α : Type} (f : State → α → State) (h : ∀ s x, Idled s (f s x)) (l : List α) {s u : State} (hu : Idled s u) :
    Idled s (l.foldl f u) := List.foldlRecOn (motive := Idled s) l f hu fun v hv x _ => hv.trans (h v x)

theorem OnlyRegs.idled {s u : State} (h : OnlyRegs s u) : Idled s u := by
  rw [h]
  exact ⟨⟨rfl, rfl, rfl, rfl, rfl⟩, rfl⟩

theorem Handed.idled {s u : State} (h : Handed s u) : Idled s u := ⟨⟨h.dev, h.img, h.flash, h.nv, h.pins⟩, h.reqs⟩

theorem idled_keepError (s : State) (k block : Nat) (ue patrol : Bool) : Idled s (keepError s k block ue patrol) := by
  have hw := fun (v : Word) off i c => ((onlyRegs_setReg s (.keep k) 0x30 v).trans (onlyRegs_setFlag _ (.keep k) 0x08 i)).trans
    (onlyRegs_bump _ (.keep k) off c)
  unfold keepError
  dsimp only
  split
  · exact (hw _ _ _ _).idled
  · exact (hw _ _ _ _).idled

theorem idled_memoryErrors {b : BoundaryIn} (s : State) (hd : b.dome = []) : Idled s (memoryErrors b s) := by
  unfold memoryErrors
  rw [hd]
  exact Idled.foldl (fun s (q : Nat × Nat) => keepError s q.1 q.2 false false)
    (fun s q => idled_keepError s q.1 q.2 false false) _ (.refl s)

theorem idled_openFrame (s : State) : Idled s (openFrame s) := ⟨⟨rfl, rfl, rfl, rfl, rfl⟩, rfl⟩

theorem idled_leaveLocked (s : State) (l : Lock) : Idled s (leaveLocked s l) := by
  have hframe : Idled s { s with frame := { s.frame with lock := l } } := ⟨⟨rfl, rfl, rfl, rfl, rfl⟩, rfl⟩
  exact (hframe.trans (onlyRegs_setFlag _ .frame 0x30 3).idled).trans (handed_eventAll _ _ _ _).idled

theorem idled_measureOffset (s : State) (offset : Int) : Idled s (measureOffset s offset) := by
  have hframe : ∀ f, Idled s { s with frame := f } := fun _ => ⟨⟨rfl, rfl, rfl, rfl, rfl⟩, rfl⟩
  unfold measureOffset
  dsimp only
  split
  · split
    · exact (hframe _).trans (idled_leaveLocked _ _)
    · exact hframe _
  · split
    · exact .refl s
    · exact hframe _

/-! ### The SERVICE entries of the log -/

/-- An entry of another class than SAFETY and SECURITY is kept in the volatile log alone (R401). -/
theorem idled_storeLog (s : State) {e : LogEntry} (he : ¬(e.cls = 1 ∨ e.cls = 2)) : Idled s (storeLog s e) := by
  unfold storeLog
  dsimp only
  rw [if_neg he]
  exact ⟨⟨rfl, rfl, rfl, rfl, rfl⟩, rfl⟩

theorem idled_belfry (s : State) (x : Belfry) : Idled s { s with belfry := x } := ⟨⟨rfl, rfl, rfl, rfl, rfl⟩, rfl⟩

theorem idled_storeInIncident (s : State) {e : LogEntry} (i : Incident) (he : ¬(e.cls = 1 ∨ e.cls = 2)) :
    Idled s (storeInIncident s e i) := by
  have hlog : ∀ x y, Idled s { s with belfry := x, lantern := y } := fun _ _ => ⟨⟨rfl, rfl, rfl, rfl, rfl⟩, rfl⟩
  unfold storeInIncident
  dsimp only
  split
  · exact (idled_belfry s _).trans (idled_storeLog _ he)
  · split
    · exact (idled_belfry s _).trans (idled_storeLog _ he)
    · exact (hlog _ _).trans (idled_storeLog _ he)

theorem idled_dropLog (s : State) (cls : Nat) : Idled s (dropLog s cls) := by
  have hb := (onlyRegs_bump s .belfry 0x30 1).idled
  unfold dropLog
  dsimp only
  split
  · exact (hb.trans (idled_belfry _ _)).trans (onlyRegs_setFlag _ _ _ _).idled
  · exact hb.trans (idled_belfry _ _)

theorem idled_logService (s : State) (unit detail : Nat) : Idled s (logService s unit detail) := by
  unfold logService logEntry
  dsimp only
  split
  · split
    · exact (idled_belfry s _).trans (idled_storeLog _ (by simp))
    · exact (idled_belfry s _).trans (idled_storeInIncident _ _ (by simp))
  · exact (idled_belfry s _).trans (idled_dropLog _ 3)

/-! ### Tiles that leave and hand over outside service -/

theorem idled_setTile (s : State) (t : Nat) (x : Tile) : Idled s (setTile s t x) := ⟨⟨rfl, rfl, rfl, rfl, rfl⟩, rfl⟩

theorem idled_tileOut (s : State) (t : Nat) : Idled s (tileOut s t) := by
  unfold tileOut
  dsimp only
  split
  · exact (((idled_setTile s t _).trans (idled_belfry _ _)).trans (onlyRegs_setFlag _ _ _ _).idled).trans
      (idled_logService _ _ _)
  · exact .refl s

theorem idled_handOver (s : State) (t : Nat) : Idled s (handOver s t) := by
  unfold handOver
  dsimp only
  split
  · exact .refl s
  · split
    · exact idled_setTile s t _
    · exact (((idled_setTile s t _).trans (idled_setTile _ _ _)).trans (onlyRegs_setReg _ _ _ _).idled).trans
        (idled_logService _ _ _)

theorem idled_handOvers (s : State) : Idled s (handOvers s) := by
  unfold handOvers
  exact Idled.foldl handOver idled_handOver _ (idled_belfry s _)

theorem idled_failTiles (s : State) : Idled s (failTiles s) := by
  unfold failTiles
  exact (Idled.foldl tileOut idled_tileOut _ (idled_belfry s _)).trans (idled_handOvers _)

/-! ### Entries that become FREE -/

/-- Operations on entry `e` that leave the device and every other entry. -/
structure KeepsOthers (e : Nat) (s u : State) : Prop extends KeepsDevice s u where
  others : ∀ k, k ≠ e → reqAt u k = reqAt s k

theorem KeepsOthers.trans {e : Nat} {s u v : State} (h : KeepsOthers e s u) (k : KeepsOthers e u v) : KeepsOthers e s v :=
  ⟨h.toKeepsDevice.trans k.toKeepsDevice, fun i hi => (k.others i hi).trans (h.others i hi)⟩

theorem Idled.keepsOthers {s u : State} (h : Idled s u) (e : Nat) : KeepsOthers e s u :=
  ⟨h.toKeepsDevice, fun k _ => by rw [reqAt, h.reqs, reqAt]⟩

theorem idled_serv (s : State) (x : Serving) : Idled s { s with serv := x } := ⟨⟨rfl, rfl, rfl, rfl, rfl⟩, rfl⟩

theorem idled_dropRef (c : Nat) (s : State) (p : Nat) : Idled s (dropRef c s p) := idled_serv s _

theorem keepsOthers_updReq (s : State) (e : Nat) (f : Request → Request) : KeepsOthers e s (updReq s e f) := by
  unfold updReq
  split
  · exact ⟨⟨rfl, rfl, rfl, rfl, rfl⟩, fun k hk => reqAt_setReq_ne s e k _ hk⟩
  · exact (Idled.refl s).keepsOthers e

theorem keepsOthers_releasePages (s : State) (e : Nat) : KeepsOthers e s (releasePages s e) := by
  unfold releasePages
  split
  · exact (Idled.refl s).keepsOthers e
  · next r hr =>
    have hrefs := fun l => Idled.foldl (dropRef r.ctx) (idled_dropRef r.ctx) l (.refl s)
    dsimp only
    refine KeepsOthers.trans (Idled.keepsOthers ?_ e) (keepsOthers_updReq _ e _)
    repeat' split
    · exact (hrefs _).trans (idled_serv _ _)
    · exact hrefs _
    · exact hrefs _

theorem Dropped.idled {s u : State} (h : Dropped s u) : Idled s u := by
  rw [h.rest]
  exact ⟨⟨rfl, rfl, rfl, rfl, rfl⟩, rfl⟩

theorem keepsOthers_freeReq (s : State) (e : Nat) : KeepsOthers e s (freeReq s e) := by
  refine ((keepsOthers_releasePages s e).trans ((dropped_dropWork _ e).idled.keepsOthers e)).trans ?_
  exact ⟨⟨rfl, rfl, rfl, rfl, rfl⟩, fun k hk => tget_tdel_ne _ e k hk⟩

theorem reqAt_freeReq (s : State) (e : Nat) : reqAt (freeReq s e) e = none := tget_tdel_same _ e

theorem keepsDevice_freeAll (l : List Nat) (s : State) : KeepsDevice s (l.foldl freeReq s) :=
  List.foldlRecOn (motive := KeepsDevice s) l freeReq (.refl s) fun u hu e _ => hu.trans (keepsOthers_freeReq u e).toKeepsDevice

/-- The entries of a list become FREE, and no other entry changes. -/
theorem reqAt_freeAll (l : List Nat) (s : State) (k : Nat) :
    reqAt (l.foldl freeReq s) k = if k ∈ l then none else reqAt s k := by
  induction l generalizing s with
  | nil => rfl
  | cons e l ih =>
    rw [List.foldl_cons, ih]
    by_cases hk : k = e
    · subst hk
      simp [reqAt_freeReq]
    · simp [hk, (keepsOthers_freeReq s e).others k hk]

/-- The entries whose completion was handed over before this frame (R241). -/
def handedOver (s : State) : List Nat := (s.reqs.filter (fun p => p.2.sentFrame.any (fun f => decide (f < now s)))).map (·.1)

theorem mem_handedOver {s : State} {e : Nat} :
    e ∈ handedOver s ↔ ∃ p ∈ s.reqs, p.1 = e ∧ ∃ f, p.2.sentFrame = some f ∧ f < now s := by
  simp only [handedOver, List.mem_map, List.mem_filter, Option.any_eq_true, decide_eq_true_eq]
  constructor
  · rintro ⟨p, ⟨hp, hf⟩, he⟩
    exact ⟨p, hp, he, hf⟩
  · rintro ⟨p, hp, he, hf⟩
    exact ⟨p, ⟨hp, hf⟩, he⟩

theorem reqAt_freeReqs (s : State) (k : Nat) : reqAt (freeReqs s) k = if k ∈ handedOver s then none else reqAt s k :=
  reqAt_freeAll _ s k

theorem keepsDevice_freeReqs (s : State) : KeepsDevice s (freeReqs s) := keepsDevice_freeAll _ s

/-! ### FRAME_BOUNDARY -/

/-- In Sable a tile of the image in service that has left service hands over its role (R54, R63). -/
theorem idled_sableHandOvers (s : State) :
    Idled s (if s.dev = .sable ∧ s.img.image.isSome then failTiles (handOvers s) else s) := by
  split
  · exact (idled_handOvers s).trans (idled_failTiles _)
  · exact .refl s

/-- The state of a boundary outside service as its entries are freed. -/
def idleOpened (b : BoundaryIn) (s : State) : State := measureOffset (openFrame (memoryErrors b s)) b.offsetNs

theorem idled_idleOpened {b : BoundaryIn} (s : State) (hd : b.dome = []) : Idled s (idleOpened b s) :=
  ((idled_memoryErrors s hd).trans (idled_openFrame _)).trans (idled_measureOffset _ _)

theorem now_idleOpened (b : BoundaryIn) (s : State) : now (idleOpened b s) = frameOpened s := by
  rw [← frameOpened_of_frame (memoryErrors_frame b s)]
  exact ((entered_openFrame _).measureOffset b.offsetNs).1

theorem idled_afterFree {b : BoundaryIn} (s : State) (hs : b.silent = []) :
    Idled (freeReqs (idleOpened b s)) (idleBoundary b (memoryErrors b s)) := by
  unfold idleBoundary
  rw [hs]
  exact idled_sableHandOvers _

theorem frameBoundary_runs {s : State} {b : BoundaryIn} (hon : enabled s .frame = true) (hok : boundaryOk s b = true) :
    Does (.frameBoundary b) s (let u := memoryErrors b s
      if serving u then serviceBoundary b u else idleBoundary b u) := by
  show execFrameBoundary b s = _
  simp [execFrameBoundary, hon, hok]

theorem frameBoundary_stopped {s : State} (b : BoundaryIn) (hoff : enabled s .frame = false) : Does (.frameBoundary b) s s := by
  show execFrameBoundary b s = _
  simp [execFrameBoundary, hoff]

theorem frameBoundary_completes {s : State} {b : BoundaryIn} (hok : boundaryOk s b = true) : Completes (.frameBoundary b) s := by
  cases hon : enabled s .frame with
  | false => exact ⟨s, frameBoundary_stopped b hon⟩
  | true => exact ⟨_, frameBoundary_runs hon hok⟩

theorem frameBoundary_enters {s : State} {b : BoundaryIn} (hon : enabled s .frame = true) (hok : boundaryOk s b = true) :
    ∃ t, Does (.frameBoundary b) s t ∧ Entered (frameOpened s) t := by
  refine ⟨_, frameBoundary_runs hon hok, ?_⟩
  rw [← frameOpened_of_frame (memoryErrors_frame b s)]
  dsimp only
  split
  · exact entered_serviceBoundary b _
  · exact entered_idleBoundary b _

theorem frameBoundary_idle {s : State} {b : BoundaryIn} (hon : enabled s .frame = true) (hserv : serving s = false)
    (hok : boundaryOk s b = true) (hd : b.dome = []) : Does (.frameBoundary b) s (idleBoundary b (memoryErrors b s)) := by
  have hserv' : serving (memoryErrors b s) = false := by
    unfold serving at hserv ⊢
    rw [(idled_memoryErrors s hd).dev]
    exact hserv
  have h := frameBoundary_runs hon hok
  dsimp only at h
  rwa [if_neg (by simp [hserv'])] at h

/-- Settles O55: every operation of a boundary but the frame timer's own leaves the counter, and outside service only the
entries handed over go. -/
theorem frameBoundary : Obligations.FrameBoundary := by
  refine ⟨fun s b => frameBoundary_completes, fun s b hon hok => frameBoundary_enters hon hok, ?_, fun s b => frameBoundary_stopped b⟩
  intro s b hon hserv hok hsil hdome n
  have hin := idled_idleOpened s hdome
  have hfree := keepsDevice_freeReqs (idleOpened b s)
  have hlast := idled_afterFree s hsil
  have hent := entered_idleBoundary b (memoryErrors b s)
  rw [frameOpened_of_frame (memoryErrors_frame b s)] at hent
  have hkeep := (hin.toKeepsDevice.trans hfree).trans hlast.toKeepsDevice
  have hreq : ∀ e, reqAt (idleBoundary b (memoryErrors b s)) e = if e ∈ handedOver (idleOpened b s) then none else reqAt s e :=
    fun e => by rw [reqAt, hlast.reqs, ← reqAt, reqAt_freeReqs, reqAt, hin.reqs, ← reqAt]
  refine ⟨_, frameBoundary_idle hon hserv hok hdome, hent.1, hent.2, hkeep.dev, hkeep.img, hkeep.flash, hkeep.nv, hkeep.pins,
    fun e r f hr hf hlt => ?_, fun e hall => ?_⟩
  · rw [hreq, if_pos]
    refine mem_handedOver.2 ⟨(e, r), ?_, rfl, f, hf, ?_⟩
    · rw [hin.reqs]
      exact mem_of_tget hr
    · rwa [now_idleOpened]
  · rw [hreq, if_neg]
    intro hmem
    obtain ⟨p, hp, hpe, f, hf, hlt⟩ := mem_handedOver.1 hmem
    rw [hin.reqs] at hp
    rw [now_idleOpened] at hlt
    exact absurd (hall p hp hpe f hf) (Nat.not_le.2 hlt)

end Sys2Proof.Machine
end

section
namespace Sys2Proof.Machine

/-! ### Configuration registers -/

/-- What the register tables give every configuration register of a block: it has writable bits, and the register at offset
0 is no configuration register and has ENABLE (R70). -/
def configRowsOk (b : Blk) : Bool :=
  (blkRegs b).all (fun d => !d.cfg || (decide (d.rw ≠ 0) && (regDesc b 0).any (fun c => !c.cfg && bit c.rw 0)))

theorem configRowsOk_all (b : Blk) : configRowsOk b = true := by
  cases b <;> rfl

theorem configRow {b : Blk} {off : Nat} {d : RegDesc} (hd : regDesc b off = some d) (hc : d.cfg = true) :
    d.rw ≠ 0 ∧ ∃ c, regDesc b 0 = some c ∧ c.cfg = false ∧ bit c.rw 0 = true := by
  have hrow := List.all_eq_true.mp (configRowsOk_all b) d (List.mem_of_find?_eq_some hd)
  simp only [hc, Bool.not_true, Bool.false_or, Bool.and_eq_true, decide_eq_true_eq, Option.any_eq_true] at hrow
  obtain ⟨hrw, c, hfind, hok⟩ := hrow
  exact ⟨hrw, c, hfind, by simpa using hok⟩

/-- An offset whose register is no configuration register of its block. -/
theorem not_config_of_any {b : Blk} {off : Nat} {d : RegDesc} (hd : regDesc b off = some d) (hc : d.cfg = true)
    (h : (regDesc b off).any (·.cfg) = false) : False := by
  simp [hd, hc] at h

theorem config_off_ne_zero {b : Blk} {off : Nat} {d : RegDesc} (hd : regDesc b off = some d) (hc : d.cfg = true) : off ≠ 0 := by
  obtain ⟨-, c, hzero, hno, -⟩ := configRow hd hc
  rintro rfl
  simp_all

/-- A write of TILE's code store has its own rule (R141). -/
theorem writeReg_tileConfig {t off : Nat} {d : RegDesc} (s : State) (v : Word) (hd : regDesc (.tile t) off = some d)
    (hc : d.cfg = true) : writeReg s (.tile t) off d v = writeTile s t off d v :=
  (if_neg (configRow hd hc).1).trans (if_neg (config_off_ne_zero hd hc))

/-- Every configuration register but TILE's code store and PWRSEQ_LIMITS is written under R70. -/
theorem writeReg_config {b : Blk} {off : Nat} {d : RegDesc} (s : State) (v : Word) (hd : regDesc b off = some d)
    (hc : d.cfg = true) (ht : ∀ t, b ≠ .tile t) (hp : b ≠ .pwrseq ∨ off ≠ 0x10) :
    writeReg s b off d v = writeConfig s b off d v := by
  have hoff := config_off_ne_zero hd hc
  unfold writeReg
  split
  case h_1 | h_2 | h_3 => exact absurd rfl hoff
  case h_4 | h_5 | h_6 | h_7 => exact (not_config_of_any hd hc rfl).elim
  case h_8 => exact hp.elim (absurd rfl) (absurd rfl)
  case h_9 =>
    rw [if_neg (configRow hd hc).1, if_neg hoff]
    split
    · exact absurd rfl (ht _)
    · exact if_pos hc

/-- While ENABLE is 1 a write of a configuration register only sets CFG_WHILE_ENABLED (R70). -/
theorem writeReg_config_enabled {s : State} {b : Blk} {off : Nat} {d : RegDesc} (v : Word) (hd : regDesc b off = some d)
    (hc : d.cfg = true) (he : enabled s b = true) : writeReg s b off d v = setFlag s b (statusOff b) 0 := by
  by_cases ht : ∃ t, b = .tile t
  · obtain ⟨t, rfl⟩ := ht
    have hpage : off ≠ 0x38 := by
      rintro rfl
      exact not_config_of_any hd hc rfl
    rw [writeReg_tileConfig s v hd hc]
    exact (if_neg hpage).trans (if_pos he)
  · by_cases hp : b = .pwrseq ∧ off = 0x10
    · obtain ⟨rfl, rfl⟩ := hp
      exact if_pos he
    · rw [writeReg_config s v hd hc (fun t h => ht ⟨t, h⟩) (not_and_or.mp hp)]
      exact if_pos he

/-- While ENABLE is 0 a configuration register takes its RW bits (R70). -/
theorem writeReg_config_disabled {s : State} {b : Blk} {off : Nat} {d : RegDesc} (v : Word) (hd : regDesc b off = some d)
    (hc : d.cfg = true) (he : enabled s b = false) (ht : ∀ t, b ≠ .tile t) (hp : b ≠ .pwrseq ∨ off ≠ 0x10) :
    writeReg s b off d v = setReg s b off ((reg s b off &&& ~~~ d.rw) ||| (v &&& d.rw)) := by
  rw [writeReg_config s v hd hc ht hp]
  exact if_neg (by simp [he])

/-- Over the management path a configuration register is open to writes outside Vermilion, and in a block of the image
while no image is in service (R69). -/
theorem accessStatus_config {s : State} {addr off : Nat} {b : Blk} {d : RegDesc} (hv : s.dev ≠ .vermilion) (ha : addr % 8 = 0)
    (hb : decodeAddr addr = some (b, off)) (hd : regDesc b off = some d) (ho : blkOwner b ≠ .image ∨ inService s = false) :
    accessStatus s .mgmt true addr 8 = 0 := by
  rcases ho with ho | ho <;> simp [accessStatus, ha, hb, hd, hv, ho]

/-- A management write of an open register acts, and is saved where the register takes it (R69, R436). -/
theorem access_write {s : State} {addr off : Nat} {b : Blk} {d : RegDesc} (v : Word) (hb : decodeAddr addr = some (b, off))
    (hd : regDesc b off = some d) (hok : accessStatus s .mgmt true addr 8 = 0) :
    access s .mgmt true addr 8 v =
      (if !(decide (b = .pwrseq) && decide (off = 0x10)) && !(d.cfg && enabled s b) then
        saveMgmt (writeReg s b off d v) b off v else writeReg s b off d v, 0, 0) := by
  unfold access
  simp [hb, hd, hok]

/-- Saving a write changes the saved values alone. -/
theorem saveMgmt_fields (s : State) (b : Blk) (off : Nat) (v : Word) :
    saveMgmt s b off v = { s with nv := { s.nv with saved := (saveMgmt s b off v).nv.saved } } := by
  unfold saveMgmt
  dsimp only
  repeat' split
  all_goals rfl

/-- Settles O10, by the rows of the register tables and by what R70 makes of a write in either state of ENABLE. -/
theorem configurationWrite : Obligations.ConfigurationWrite := by
  refine ⟨fun b off d hd hc => (configRow hd hc).2, fun s addr v b off d hv ha hb hd hc ho => ?_⟩
  have hacc := access_write v hb hd (accessStatus_config hv ha hb hd ho)
  refine ⟨fun he => ?_, fun he ht hp => ?_⟩
  · refine ⟨emitOut (setFlag s b (statusOff b) 0) (.access 0 0), ?_, flagUp_setFlag s b _ 0 (by decide),
      regsBut_setFlag s b _ 0, rfl⟩
    show writeOn s .mgmt addr 8 v = _
    simp [writeOn_mgmt, hacc, hc, he, writeReg_config_enabled v hd hc he]
  · have hp' : (decide (b = .pwrseq) && decide (off = 0x10)) = false := by simpa [imp_iff_not_or] using hp
    let u := setReg s b off ((reg s b off &&& ~~~ d.rw) ||| (v &&& d.rw))
    have hsave := saveMgmt_fields u b off v
    have hregs : (saveMgmt u b off v).regs = u.regs := by rw [hsave]
    refine ⟨emitOut (saveMgmt u b off v) (.access 0 0), ?_, (regsBut_setReg s b off _).of_regs hregs, ?_, ?_⟩
    · show writeOn s .mgmt addr 8 v = _
      simp [writeOn_mgmt, hacc, hp', he, writeReg_config_disabled v hd hc he ht hp, u]
    · exact (reg_of_regs hregs b off).trans (reg_setReg_same s b off _)
    · rw [hsave]; rfl

end Sys2Proof.Machine
end

section
namespace Sys2Proof.Machine

/-! ### Log entries -/

/-- Where an entry goes: the logs, the incident, DROPPED and BELFRY_STATUS may change, nothing else (R401, R402). -/
def Stored (s u : State) : Prop :=
  RegsBut [regAddr .belfry 0x30, regAddr .belfry 0x00] s u ∧
  u = { s with regs := u.regs, belfry := { s.belfry with incident := u.belfry.incident }, nv := u.nv,
               lantern := { s.lantern with volatileLog := u.lantern.volatileLog } }

theorem Stored.trans {s u v : State} (h : Stored s u) (k : Stored u v) : Stored s v := by
  obtain ⟨hr, he⟩ := h
  obtain ⟨kr, ke⟩ := k
  refine ⟨hr.trans kr, ?_⟩
  rw [he] at ke
  exact ke

theorem stored_incident (s : State) (i : Option Incident) : Stored s { s with belfry := { s.belfry with incident := i } } :=
  ⟨fun _ _ => rfl, rfl⟩

theorem stored_volatileLog (s : State) (l : List LogEntry) :
    Stored s { s with lantern := { s.lantern with volatileLog := l } } := ⟨fun _ _ => rfl, rfl⟩

theorem stored_storeLog (s : State) (e : LogEntry) : Stored s (storeLog s e) := by
  unfold storeLog
  dsimp only
  split
  all_goals exact ⟨fun _ _ => rfl, rfl⟩

theorem stored_storeInIncident (s : State) (e : LogEntry) (i : Incident) : Stored s (storeInIncident s e i) := by
  unfold storeInIncident
  dsimp only
  split
  · exact (stored_incident s _).trans (stored_storeLog _ e)
  · split
    · exact (stored_incident s _).trans (stored_storeLog _ e)
    · exact ((stored_volatileLog s _).trans (stored_incident _ _)).trans (stored_storeLog _ e)

theorem stored_dropLog (s : State) (cls : Nat) : Stored s (dropLog s cls) := by
  have hcount : Stored s (bump s .belfry 0x30 1) := ⟨(regsBut_bump s .belfry 0x30 1).mono (by simp), rfl⟩
  unfold dropLog
  dsimp only
  split
  · have hflag (u : State) : Stored u (setFlag u .belfry 0x00 6) := ⟨(regsBut_setFlag u .belfry 0x00 6).mono (by simp), rfl⟩
    exact (hcount.trans (stored_incident _ _)).trans (hflag _)
  · exact hcount.trans (stored_incident _ _)

/-- What an entry's way leaves once it has taken its SEQ. -/
theorem Stored.loggedBut {s t : State}
    (h : Stored { s with belfry := { s.belfry with seq := s.belfry.seq + 1, posted := s.belfry.posted + 1 } } t) :
    LoggedBut [] { s with nv := t.nv } t := by
  obtain ⟨hr, he⟩ := h
  have hb := congrArg State.belfry he
  exact ⟨hb, hr, he.trans (congrArg (fun b => ({ s with regs := t.regs, belfry := b, nv := t.nv, lantern := {
    s.lantern with volatileLog := t.lantern.volatileLog } } : State)) hb.symm)⟩

/-- An entry takes the next SEQ and goes to the logs; the secure flash may take it too (R401, R402, R415). -/
theorem loggedBut_logEntry (s : State) (cls mech action ctx unit entry detail : Nat) :
    let t := logEntry s cls mech action ctx unit entry detail
    LoggedBut [] { s with nv := t.nv } t := by
  dsimp only
  apply Stored.loggedBut
  unfold logEntry
  dsimp only
  split
  · split
    · exact stored_storeLog _ _
    · exact stored_storeInIncident _ _ _
  · exact stored_dropLog _ _

/-- Only entries of the classes SAFETY and LATENT go to the secure flash (R415). -/
theorem nv_logEntry (s : State) {cls : Nat} (mech action ctx unit entry detail : Nat) (h : ¬(cls = 1 ∨ cls = 2)) :
    (logEntry s cls mech action ctx unit entry detail).nv = s.nv := by
  unfold logEntry
  dsimp only
  split
  · split
    · exact (idled_storeLog _ h).1.nv
    · exact (idled_storeInIncident _ _ h).1.nv
  · exact (idled_dropLog _ cls).1.nv

/-- An entry of another class changes nothing but the logs. -/
theorem loggedBut_of_class (s : State) {cls : Nat} (mech action ctx unit entry detail : Nat) (h : ¬(cls = 1 ∨ cls = 2)) :
    LoggedBut [] s (logEntry s cls mech action ctx unit entry detail) := by
  have hlog := loggedBut_logEntry s cls mech action ctx unit entry detail
  dsimp only at hlog
  rwa [nv_logEntry s mech action ctx unit entry detail h] at hlog


/-! ### Loader commands -/

/-- A loader command over the management path outside Vermilion takes effect and is answered OK (R67, R69). -/
theorem imgCommand_mgmt {s : State} (f : State → State) (hv : s.dev ≠ .vermilion) :
    imgCommand s .mgmt f = .next (emitOut (f s) (.access 0 0)) := if_neg hv

theorem imgCommand_completes (s : State) (path : RegPath) (f : State → State) : ∃ t, imgCommand s path f = .next t := by
  unfold imgCommand
  dsimp only
  repeat' split
  all_goals exact ⟨_, rfl⟩

theorem dev_of_loaderReady {s : State} (h : loaderReady s = true) : s.dev = .sable := by
  simp only [loaderReady, Bool.and_eq_true, decide_eq_true_eq] at h
  exact h.1.1.1

theorem not_vermilion_of_loaderReady {s : State} (h : loaderReady s = true) : s.dev ≠ .vermilion := by
  rw [dev_of_loaderReady h]
  decide

/-- COMMIT of an image whose hardware units exist runs as a command to the loader. -/
theorem execCommit_runs {s : State} {c : CommitIn} (path : RegPath) (ht : ∀ t ∈ c.tileFaults, t < 640)
    (hp : ∀ a, c.parityBad = some a → isCfgAddr a = true) :
    execCommit path c s = imgCommand s path (fun s => commitOp s c) := by
  refine if_neg ?_
  simp only [List.any_eq_true, decide_eq_true_eq, Option.any_eq_true, Bool.not_eq_true', not_or, not_exists, not_and]
  exact ⟨fun t hmem => Nat.not_le.mpr (ht t hmem), fun a ha => by simp [hp a ha]⟩

theorem commitOp_ready {s : State} {c : CommitIn} (h : loaderReady s = true) (hd : c.during = []) :
    commitOp s c = match commitBad s (stagedBytes s) c.overflow with
      | some r => refuseCommit s r.1 r.2 0
      | none => applyImage s (parseImage (stagedBytes s)) c := by
  unfold commitOp
  rw [if_neg (by simp [h]), hd]
  rfl

/-- A refused COMMIT names the code, keeps the staged bytes, raises REFUSED and writes its LOAD entry (R64, R67). -/
theorem loggedBut_refuseCommit (s : State) (code detail logDetail : Nat) :
    LoggedBut [] (setFlag { s with img := { s.img with phase := .refused, code := code, detail := detail } } .img 0x20 4)
      (refuseCommit s code detail logDetail) := loggedBut_of_class _ _ _ _ _ _ _ (by decide)

/-- Settles O12: a refusal changes the loader's result alone, and a command out of place the flag CMD_REJECTED alone. -/
theorem loaderCommandsRefused : Obligations.LoaderCommandsRefused := by
  refine ⟨fun s c r hready hd hp ht hbad => ?_, fun s c hc hv => ⟨emitOut (cmdRejected s) (.access 0 0), ?_,
    flagUp_setFlag s .img 0x20 2 (by decide), regsBut_setFlag s .img 0x20 2, rfl⟩⟩
  · obtain ⟨-, hregs, hfields⟩ := loggedBut_refuseCommit s r.1 r.2 0
    let u := setFlag { s with img := { s.img with phase := .refused, code := r.1, detail := r.2 } } .img 0x20 4
    have hflag : FlagUp u .img 0x20 4 := flagUp_setFlag _ .img 0x20 4 (by decide)
    have hu : RegsBut [regAddr .img 0x20] s u := regsBut_setFlag _ .img 0x20 4
    refine ⟨emitOut (refuseCommit s r.1 r.2 0) (.access 0 0), ?_, ?_, ?_, ?_, ?_⟩
    · show execCommit .mgmt c s = _
      rw [execCommit_runs .mgmt (by simp [ht]) (by simp [hp]), imgCommand_mgmt _ (not_vermilion_of_loaderReady hready),
        commitOp_ready hready hd, hbad]
    · exact congrArg State.img hfields
    · unfold FlagUp
      rw [← hflag]
      exact congrArg (bit · 4) (hregs.reg .img 0x20 (by decide))
    · exact (hu.mono (by simp)).trans (hregs.mono (by simp))
    · exact congrArg (State.out · ++ [.access 0 0]) hfields
  · rcases hc with ⟨i, rfl, hp, ht, hno⟩ | ⟨rfl, hno⟩ | ⟨rfl, hno⟩
    · show execCommit .mgmt i s = _
      rw [execCommit_runs .mgmt (by simp [ht]) (by simp [hp]), imgCommand_mgmt _ hv]
      simp [commitOp, hno]
    · show imgCommand s .mgmt discardOp = _
      rw [imgCommand_mgmt _ hv]
      simp [discardOp, hno]
    · show imgCommand s .mgmt unloadOp = _
      rw [imgCommand_mgmt _ hv]
      rcases hno with hno | hno <;> simp [unloadOp, hno]

end Sys2Proof.Machine
end

section
namespace Sys2Proof.Machine

/-! ### Applying an image -/

/-- What putting an image in place may change: registers, the frame timer, the tiles and the units that a COMMIT starts
afresh (R63 steps 7 and 8). -/
def Placed (s u : State) : Prop :=
  u = { s with regs := u.regs, frame := u.frame, tiles := u.tiles, spires := u.spires, lowered := u.lowered,
               search := u.search, feat := u.feat, serv := u.serv, tier := u.tier, belfry := u.belfry }

theorem Placed.trans {s u v : State} (h : Placed s u) (k : Placed u v) : Placed s v := by
  unfold Placed at *
  rw [h] at k
  exact k

theorem Placed.foldl {α : Type} (f : State → α → State) (h : ∀ s x, Placed s (f s x)) (l : List α) (s : State) :
    Placed s (l.foldl f s) := by
  induction l generalizing s with
  | nil => rfl
  | cons x l ih => exact (h s x).trans (ih (f s x))

theorem OnlyRegs.placed {s u : State} (h : OnlyRegs s u) : Placed s u := by
  unfold Placed
  rw [h]

theorem placed_setReg (s : State) (b : Blk) (off : Nat) (v : Word) : Placed s (setReg s b off v) := rfl

theorem placed_setTile (s : State) (t : Nat) (x : Tile) : Placed s (setTile s t x) := rfl

theorem placed_belfry (s : State) (x : Belfry) : Placed s { s with belfry := x } := rfl

theorem placed_tier (s : State) (x : Tiers) : Placed s { s with tier := x } := rfl

theorem placed_clearImageRegs (s : State) : Placed s (clearImageRegs s) := rfl

theorem placed_freshService (s : State) : Placed s (freshService s) := rfl

theorem placed_loaderWrite (s : State) (a : Nat) (v : Word) : Placed s (loaderWrite s a v) := by
  unfold loaderWrite
  repeat' split
  all_goals rfl

theorem placed_writeRoles (s : State) (i : Image) : Placed s (writeRoles s i) := by
  refine Placed.foldl _ (fun s t => ?_) _ s
  split
  all_goals rfl

/-- The configuration of an image changes registers, the lowered code and the map's modules (R63 step 7). -/
theorem placed_applyConfig (s : State) (i : Image) : Placed s (applyConfig s i) := by
  have hperiod := (placed_clearImageRegs s).trans
    (placed_setReg _ .frame 0x08 (BitVec.ofNat 64 (i.period + i.period * 2250 * 2 ^ 32)))
  have hwrites := hperiod.trans (Placed.foldl _ (fun s (w : Nat × Nat) => placed_loaderWrite s w.1 (BitVec.ofNat 64 w.2)) i.writes _)
  have hsplits := hwrites.trans (Placed.foldl _ (fun s (k : SplitRec) => placed_setReg s (.keep k.keep) 0x18
    (BitVec.ofNat 64 (k.scan + k.read * 2 ^ 7 + k.write * 2 ^ 14 + k.remote * 2 ^ 21))) i.splits _)
  exact (hsplits.trans (placed_writeRoles _ i)).trans (placed_tier _ _)

theorem placed_enableFrame (s : State) : Placed s (enableFrame s) := by
  unfold Placed
  rw [(enableFrame_touches s).2]

theorem placed_enableBlocks (s : State) (i : Image) : Placed s (enableBlocks s i) := by
  refine Placed.foldl _ (fun s b => ?_) _ s
  split
  · exact placed_enableFrame s
  · exact placed_setReg s b 0 _

theorem placed_placeTables (s : State) (i : Image) : Placed s (placeTables s i) := by
  refine Placed.foldl _ (fun s t => ?_) _ s
  unfold placeTable
  dsimp only
  repeat' split
  all_goals rfl

theorem placed_assignTiles (s : State) (i : Image) : Placed s (assignTiles s i) :=
  (Placed.foldl _ (fun s t => placed_setTile s t _) _ s).trans (Placed.foldl _ (fun s _ => placed_belfry s _) _ _)

/-- The state of a COMMIT without faults after steps 7 and 8: the image configured, enabled and given its tiles (R63). -/
def placedImage (s : State) (i : Image) : State :=
  assignTiles (placeTables (freshService (enableBlocks (applyConfig s i) i)) i) i

theorem placed_placedImage (s : State) (i : Image) : Placed s (placedImage s i) :=
  ((((placed_applyConfig s i).trans (placed_enableBlocks _ i)).trans (placed_freshService _)).trans
    (placed_placeTables _ i)).trans (placed_assignTiles _ i)

/-- The image in service and measured (R63 step 9, R365). -/
def imageServed (s : State) (i : Image) : State :=
  extendHistory { s with img := { s.img with
    image := some i, phase := .inService, code := 0, detail := 0, awaiting := true } } i.digest (signerByte i) i.imageId

/-- Wake-up steps join the queue behind those that wait (R433). -/
theorem queueWakes (l : List Nat) (s : State) : l.foldl (fun s d => queueWake s d 0) s =
    { s with power := { s.power with wakes := s.power.wakes ++ l.map (fun d => { domain := d, port := 0 }) } } := by
  induction l generalizing s with
  | nil => simp
  | cons d l ih =>
    rw [List.foldl_cons, ih]
    simp [queueWake]

/-- The domains that an image needs follow from the tiles' roles. -/
theorem imageDomains_of_tiles {s u : State} (h : u.tiles = s.tiles) : imageDomains u = imageDomains s := by
  unfold imageDomains
  rw [h]

/-- The wake-up steps of an image's domains behind those that wait (R432, R433). -/
def wakesFor (s : State) : List WakeStep := s.power.wakes ++ (imageDomains s).map (fun d => { domain := d, port := 0 })

/-- An image that is in place comes into service: measured, its wake-up steps queued, COMMITTED set. -/
def serveImage (s : State) (i : Image) : State :=
  let u := imageServed s i
  setFlag { u with power := { u.power with wakes := wakesFor u } } .img 0x20 3

/-- `t` is `s` with image `i` in service, put in place as in `u`: beside what that changes, the loader's result, the history,
the wake-up queue and the logs. -/
def ServedAs (s u : State) (i : Image) (t : State) : Prop :=
  t = { s with
    regs := t.regs, frame := u.frame, tiles := u.tiles, spires := u.spires, lowered := u.lowered, search := u.search,
    feat := u.feat, serv := u.serv, tier := u.tier, belfry := t.belfry,
    lantern := { s.lantern with volatileLog := t.lantern.volatileLog },
    img := { s.img with image := some i, phase := .inService, code := 0, detail := 0, awaiting := true },
    sec := { s.sec with history := sha256 (s.sec.history ++ i.digest ++ toLE 1 (signerByte i) ++ toLE 8 i.imageId) },
    power := { s.power with wakes := s.power.wakes ++ (imageDomains u).map (fun d => { domain := d, port := 0 }) } }

/-- The log entry of a COMMIT changes the logs alone. -/
theorem loggedBut_logLoad (s : State) (detail : Nat) : LoggedBut [] s (logLoad s detail) :=
  loggedBut_of_class s 0 3 0xFF 0x0600 0xFFFF detail (by decide)

theorem servedAs_of_placed {s u : State} (h : Placed s u) (i : Image) : ServedAs s u i (logLoad (serveImage u i) 0) := by
  have hserve := congrArg (serveImage · i) h
  obtain ⟨-, -, hlog⟩ := loggedBut_logLoad (serveImage u i) 0
  generalize logLoad (serveImage u i) 0 = t at *
  exact hlog.trans (congrArg (fun v : State => { v with
    regs := t.regs, belfry := t.belfry, lantern := { v.lantern with volatileLog := t.lantern.volatileLog } }) hserve)

section
variable {s u t : State} {i : Image}

theorem ServedAs.dev (h : ServedAs s u i t) : t.dev = s.dev := by rw [show t = _ from h]
theorem ServedAs.pins (h : ServedAs s u i t) : t.pins = s.pins := by rw [show t = _ from h]
theorem ServedAs.img (h : ServedAs s u i t) :
    t.img = { s.img with image := some i, phase := .inService, code := 0, detail := 0, awaiting := true } := by
  rw [show t = _ from h]
theorem ServedAs.history (h : ServedAs s u i t) :
    t.sec.history = sha256 (s.sec.history ++ i.digest ++ toLE 1 (signerByte i) ++ toLE 8 i.imageId) := by
  rw [show t = _ from h]
theorem ServedAs.reqs (h : ServedAs s u i t) : t.reqs = s.reqs := by rw [show t = _ from h]
theorem ServedAs.tiles (h : ServedAs s u i t) : t.tiles = u.tiles := by rw [show t = _ from h]
theorem ServedAs.flash (h : ServedAs s u i t) : t.flash = s.flash := by rw [show t = _ from h]
theorem ServedAs.port (h : ServedAs s u i t) : t.port = s.port := by rw [show t = _ from h]
theorem ServedAs.links (h : ServedAs s u i t) : t.lantern.links = s.lantern.links := by rw [show t = _ from h]
theorem ServedAs.nv (h : ServedAs s u i t) : t.nv = s.nv := by rw [show t = _ from h]
theorem ServedAs.out (h : ServedAs s u i t) : t.out = s.out := by rw [show t = _ from h]

/-- The wake-up steps of the image's domains join the queue (R432, R433). -/
theorem ServedAs.power (h : ServedAs s u i t) : t.power = { s.power with
    wakes := s.power.wakes ++ (imageDomains t).map (fun d => { domain := d, port := 0 }) } := by
  rw [imageDomains_of_tiles h.tiles, show t = _ from h]

end

theorem flagUp_served (s : State) (i : Image) : FlagUp (logLoad (serveImage s i) 0) .img 0x20 3 := by
  obtain ⟨-, hregs, -⟩ := loggedBut_logLoad (serveImage s i) 0
  have hflag : FlagUp (serveImage s i) .img 0x20 3 := flagUp_setFlag _ .img 0x20 3 (by decide)
  unfold FlagUp at *
  rw [hregs.reg .img 0x20 (by decide), hflag]

theorem applyImage_clean {c : CommitIn} (s : State) (i : Image) (hp : c.parityBad = none) (ht : c.tileFaults = [])
    (hd : c.deviceFault = false) : applyImage s i c = logLoad (serveImage (placedImage s i) i) 0 := by
  unfold applyImage
  simp only [hp, ht, hd, Option.filter_none, List.foldl_nil, queueWakes, serveImage, wakesFor, imageServed, placedImage]

/-- A COMMIT of a ready loader that meets no refusal and no fault puts the staged image in service. -/
theorem commitOp_serves {s : State} {c : CommitIn} (hready : loaderReady s = true) (hd : c.during = [])
    (hp : c.parityBad = none) (ht : c.tileFaults = []) (hf : c.deviceFault = false)
    (hbad : commitBad s (stagedBytes s) c.overflow = none) :
    let i := parseImage (stagedBytes s)
    ServedAs s (placedImage s i) i (commitOp s c) ∧ FlagUp (commitOp s c) .img 0x20 3 := by
  have hrun : commitOp s c = applyImage s (parseImage (stagedBytes s)) c := by rw [commitOp_ready hready hd, hbad]
  dsimp only
  rw [hrun, applyImage_clean s _ hp ht hf]
  exact ⟨servedAs_of_placed (placed_placedImage s _) _, flagUp_served _ _⟩

/-- Settles O11: the steps of COMMIT move registers, tiles and the units of service, and the image, the history and the
wake-up queue as the statement says. -/
theorem commitPlacesImage : Obligations.CommitPlacesImage := by
  refine ⟨fun s c path ht hp => ?_, fun s c hready hd hp ht hf hbad => ?_⟩
  · show ∃ t, execCommit path c s = .next t
    rw [execCommit_runs path ht hp]
    exact imgCommand_completes s path _
  · obtain ⟨hserved, hflag⟩ := commitOp_serves hready hd hp ht hf hbad
    refine ⟨emitOut (commitOp s c) (.access 0 0), ?_, congrArg (·.image) hserved.img, congrArg (·.phase) hserved.img,
      congrArg (·.code) hserved.img, congrArg (·.awaiting) hserved.img, hserved.dev.trans (dev_of_loaderReady hready), hflag,
      hserved.history, congrArg (fun o : List Out => o ++ [.access 0 0]) hserved.out, hserved.reqs, hserved.port,
      hserved.flash, hserved.nv, hserved.pins, hserved.power⟩
    show execCommit .mgmt c s = _
    rw [execCommit_runs .mgmt (by simp [ht]) (by simp [hp]), imgCommand_mgmt _ (not_vermilion_of_loaderReady hready)]

end Sys2Proof.Machine
end

section
namespace Sys2Proof.Machine

/-! ### Reporting a detection -/

/-- What telling requests and sessions of a detection leaves: the device, the image, the contexts, the pins, what Belfry
recorded, and every register from the Spires' blocks on. -/
structure Reported (s u : State) : Prop where
  dev : u.dev = s.dev
  img : u.img = s.img
  sec : u.sec = s.sec
  pins : u.pins = s.pins
  last : u.belfry.last = s.belfry.last
  unacked : u.belfry.unacked = s.belfry.unacked
  regs : ∀ a, 0x10000000 ≤ a → tget u.regs a = tget s.regs a

theorem Reported.refl (s : State) : Reported s s := ⟨rfl, rfl, rfl, rfl, rfl, rfl, fun _ _ => rfl⟩

theorem Reported.trans {s u v : State} (h : Reported s u) (k : Reported u v) : Reported s v where
  dev := k.dev.trans h.dev
  img := k.img.trans h.img
  sec := k.sec.trans h.sec
  pins := k.pins.trans h.pins
  last := k.last.trans h.last
  unacked := k.unacked.trans h.unacked
  regs a ha := (k.regs a ha).trans (h.regs a ha)

theorem Reported.foldl {α : Type} (f : State → α → State) (h : ∀ s x, Reported s (f s x)) (l : List α) (s : State) :
    Reported s (l.foldl f s) := by
  induction l generalizing s with
  | nil => exact .refl s
  | cons x l ih => exact (h s x).trans (ih (f s x))

/-- Registers of the Dome's blocks lie below those of the Spires. -/
theorem RegsBut.spires {l : List Nat} {s u : State} (h : RegsBut l s u) (hl : ∀ a ∈ l, a < 0x10000000) :
    ∀ a, 0x10000000 ≤ a → tget u.regs a = tget s.regs a :=
  fun a ha => h a (fun hmem => absurd (hl a hmem) (by omega))

theorem Handed.reported {s u : State} (h : Handed s u) : Reported s u where
  dev := h.dev
  img := h.img
  sec := h.sec
  pins := h.pins
  last := by rw [h.fields]
  unacked := by rw [h.fields]
  regs := h.2.1.spires (by decide)

theorem Dropped.reported {s u : State} (h : Dropped s u) : Reported s u := by
  rw [h.rest]
  exact ⟨rfl, rfl, rfl, rfl, rfl, rfl, fun _ _ => rfl⟩

theorem LoggedBut.reported {s u : State} (h : LoggedBut [] { s with nv := u.nv } u) : Reported s u := by
  obtain ⟨hb, hr, he⟩ := h
  have hregs := hr.spires (by decide)
  exact ⟨by rw [he], by rw [he], by rw [he], by rw [he], by rw [hb], by rw [hb], hregs⟩

theorem reported_setReg (s : State) {b : Blk} {off : Nat} (v : Word) (h : regAddr b off < 0x10000000) :
    Reported s (setReg s b off v) :=
  ⟨rfl, rfl, rfl, rfl, rfl, rfl, (regsBut_setReg s b off v).spires (by simpa using h)⟩

theorem reported_belfry (s : State) {x : Belfry} (hl : x.last = s.belfry.last) (hu : x.unacked = s.belfry.unacked) :
    Reported s { s with belfry := x } := ⟨rfl, rfl, rfl, rfl, hl, hu, fun _ _ => rfl⟩

theorem reported_setTile (s : State) (t : Nat) (x : Tile) : Reported s (setTile s t x) :=
  ⟨rfl, rfl, rfl, rfl, rfl, rfl, fun _ _ => rfl⟩

theorem reported_setReq (s : State) (e : Nat) (r : Request) : Reported s (setReq s e r) :=
  ⟨rfl, rfl, rfl, rfl, rfl, rfl, fun _ _ => rfl⟩

theorem reported_updReq (s : State) (e : Nat) (f : Request → Request) : Reported s (updReq s e f) := by
  unfold updReq
  split
  · exact reported_setReq s e _
  · exact .refl s

theorem reported_endRequest (s : State) (e status due : Nat) : Reported s (endRequest s e status due) := by
  unfold endRequest
  split
  · exact .refl s
  · split
    · exact .refl s
    · exact ((reported_setReq s e _).trans (dropped_dropWork _ e).reported).trans ⟨rfl, rfl, rfl, rfl, rfl, rfl, fun _ _ => rfl⟩

theorem reported_affect (s : State) (es : List Nat) (status : Nat) : Reported s (affect s es status) :=
  Reported.foldl _ (fun s e => (reported_updReq s e _).trans (reported_endRequest _ e status _)) es s

theorem reported_faultReport (s : State) (n arg0 arg1 : Nat) : Reported s (faultReport s n arg0 arg1) := by
  unfold faultReport
  split
  · exact .refl s
  · dsimp only
    split
    · refine Reported.trans (reported_belfry s ?_ ?_) (handed_eventTo _ n 0x0D arg0 arg1).reported <;> rfl
    · exact reported_setReg s _ (by decide)

theorem reported_logService (s : State) (unit detail : Nat) : Reported s (logService s unit detail) :=
  LoggedBut.reported (loggedBut_logEntry s 3 0 3 0xFF unit 0xFFFF detail)

theorem LoggedBut.tiles {l : List Nat} {s t : State} {n : SecureFlash} (h : LoggedBut l { s with nv := n } t) :
    t.tiles = s.tiles := by rw [h.2.2]

theorem tiles_logService (s : State) (unit detail : Nat) : (logService s unit detail).tiles = s.tiles :=
  LoggedBut.tiles (loggedBut_logEntry s 3 0 3 0xFF unit 0xFFFF detail)

/-- A tile that leaves service is out of it, whether or not it was in (R392). -/
theorem tileOut_outOfService (s : State) (t : Nat) : Reported s (tileOut s t) ∧ (tileAt (tileOut s t) t).inService = false := by
  unfold tileOut
  dsimp only
  split
  · constructor
    · refine Reported.trans (Reported.trans (Reported.trans (reported_setTile s t _) (reported_belfry _ ?_ ?_))
        (reported_setReg _ _ (by decide))) (reported_logService _ t 0) <;> rfl
    · rw [tileAt_of_tiles (tiles_logService _ _ _)]
      exact congrArg Tile.inService (tileAt_setTile_same s t _)
  · rename_i hout
    exact ⟨.refl s, by simpa using hout⟩

/-! ### Recording a detection -/

theorem mem_insertBy {α : Type} (le : α → α → Bool) (x : α) (l : List α) : x ∈ insertBy le x l := by
  induction l with
  | nil => simp [insertBy]
  | cons y l ih =>
    unfold insertBy
    split
    · simp
    · simp [ih]

theorem mem_addNat (x : Nat) (l : List Nat) : x ∈ addNat x l := by
  unfold addNat
  split
  · rename_i h
    simpa using h
  · exact mem_insertBy _ x l

/-- A detection is recorded: it is Belfry's last, waits for acknowledgement, and leaves the device, the image, the contexts
and the registers from the Spires' blocks on (R389, R401, R404). -/
structure Recorded (s u : State) (d : Detection) : Prop where
  dev : u.dev = s.dev
  img : u.img = s.img
  sec : u.sec = s.sec
  last : ∃ e, u.belfry.last = some e ∧ e.mech = d.mech ∧ e.unit = d.unit ∧ e.detail = d.detail
  unacked : s.belfry.seq ∈ u.belfry.unacked
  regs : ∀ a, 0x10000000 ≤ a → tget u.regs a = tget s.regs a

theorem Recorded.reported {s u v : State} {d : Detection} (h : Recorded s u d) (k : Reported u v) : Recorded s v d where
  dev := k.dev.trans h.dev
  img := k.img.trans h.img
  sec := k.sec.trans h.sec
  last := by rw [k.last]; exact h.last
  unacked := by rw [k.unacked]; exact h.unacked
  regs a ha := (k.regs a ha).trans (h.regs a ha)

/-- A detection's counters and its flag lie in Belfry's block (R404). -/
theorem reported_countDetection (s : State) {mech : Nat} (h : mech < 256) :
    Reported s (setFlag (bump (bump s .belfry 0x20 1) .belfry (0x100 + 8 * mech) 1) .belfry 0x00 1) := by
  have hcount : regAddr .belfry (0x100 + 8 * mech) < 0x10000000 := by
    simp only [regAddr, blkBase]
    omega
  exact ((reported_setReg s _ (by decide)).trans (reported_setReg _ _ hcount)).trans (reported_setReg _ _ (by decide))

theorem recorded_recordDetection (s : State) {d : Detection} (action : Nat) (hd : d.mech < 256) :
    Recorded s (recordDetection s d action) d := by
  have hlog : Reported s _ := LoggedBut.reported (loggedBut_logEntry s 1 d.mech action d.ctx d.unit d.entry d.detail)
  refine Recorded.reported ?_ (reported_countDetection _ hd)
  exact ⟨hlog.dev, hlog.img, hlog.sec, ⟨_, rfl, rfl, rfl, rfl⟩, mem_addNat _ _, hlog.regs⟩

/-- A TILE detection as Belfry takes it (R390). -/
def tileDetection (s : State) (mech t detail : Nat) : Detection :=
  { mech := mech, action := 1, unit := t, key := none, ctx := 0xFF, entry := 0xFFFF, detail := detail,
    affected := affectedByTile s t }

/-- The state of a TILE detection before its requests and sessions hear of it: recorded, FLT_N low (R389). -/
def raised (s : State) (d : Detection) : State :=
  let u := recordDetection s d 1
  { u with pins := { u.pins with fltLow := true }, belfry := { u.belfry with minimums := u.belfry.minimums + 1 } }

theorem recorded_raised (s : State) {d : Detection} (hd : d.mech < 256) : Recorded s (raised s d) d := by
  have hrec := recorded_recordDetection s 1 hd
  unfold raised
  generalize recordDetection s d 1 = u at *
  exact ⟨hrec.dev, hrec.img, hrec.sec, hrec.last, hrec.unacked, hrec.regs⟩

/-- The state once the affected requests have ended and sessions have heard of a detection (R387, R388, R403). -/
def told (s : State) (d : Detection) (action seq : Nat) : State :=
  let owners := d.affected.filterMap (fun e => (reqAt s e).map (fun r => (e, r.session)))
  let s := affect s d.affected (if d.mech = 0x0B ∨ d.mech = 0x0E then stBreached else stFault)
  let s := owners.foldl (fun s o => faultReport s o.2 (faultArg0 d.mech action d.unit o.1) seq) s
  ((hostSessions s).filter (sessPriv s)).foldl (fun s n => faultReport s n (faultArg0 d.mech action d.unit 0xFFFF) seq) s

theorem reported_told (s : State) (d : Detection) (action seq : Nat) : Reported s (told s d action seq) :=
  ((reported_affect s _ _).trans (Reported.foldl _ (fun s _ => reported_faultReport s _ _ _) _ _)).trans
    (Reported.foldl _ (fun s n => reported_faultReport s n _ _) _ _)

/-- Outside Vermilion a TILE detection is recorded and reported, and its tile leaves service (R390, R392). -/
theorem detectTile_eq {s : State} (mech t detail : Nat) (hv : s.dev ≠ .vermilion) : detectTile s mech t detail =
    tileOut (told (raised s (tileDetection s mech t detail)) (tileDetection s mech t detail) 1 s.belfry.seq) t := by
  show detect s (tileDetection s mech t detail) = _
  unfold detect
  simp only [recurs, if_neg hv, tileDetection, told, raised, Bool.false_eq_true, if_false, if_true]

/-- A TILE detection outside Vermilion is recorded, FLT_N goes low, and the tile leaves service (R389, R390, R392). -/
theorem detectTile_takesOut {s : State} {mech : Nat} (t detail : Nat) (hv : s.dev ≠ .vermilion) (hm : mech < 256) :
    let u := detectTile s mech t detail
    Recorded s u (tileDetection s mech t detail) ∧ u.pins.fltLow = true ∧ (tileAt u t).inService = false := by
  let d := tileDetection s mech t detail
  have hreport := reported_told (raised s d) d 1 s.belfry.seq
  obtain ⟨hleave, hout⟩ := tileOut_outOfService (told (raised s d) d 1 s.belfry.seq) t
  dsimp only
  rw [detectTile_eq mech t detail hv]
  refine ⟨(recorded_raised s hm).reported (hreport.trans hleave), ?_, hout⟩
  rw [(hreport.trans hleave).pins]
  rfl

/-! ### The configuration parity sweep -/

theorem regAddr_tileLevel {b : Blk} {t : Nat} (h : tileLevel b = some t) (off : Nat) : 0x10000000 ≤ regAddr b off := by
  cases b <;> simp only [tileLevel, reduceCtorEq] at h <;> simp only [regAddr, blkBase, tileBase] <;> omega

/-- ENABLE cleared by the device reads 0. -/
theorem enabled_cleared (s : State) (b : Blk) : enabled (setEnable s b false) b = false := by
  unfold enabled setEnable setFld
  rw [reg_setReg_same]
  unfold bit BitVec.getLsbD
  rw [testBit_putBits _ 0 1 _ 0 (by decide)]
  rfl

theorem stopBlock_tileLevel {b : Blk} {t : Nat} (s : State) (h : tileLevel b = some t) :
    stopBlock s b = setEnable s b false := by
  cases b <;> simp only [tileLevel, reduceCtorEq] at h <;> rfl

/-- A mismatch in a tile's block stops the block and takes the tile out of service (R73, R390). -/
theorem parityFault_tileLevel {s : State} {b : Blk} {t : Nat} (a : Nat) (h : tileLevel b = some t) :
    parityFault s a b = detectTile (setEnable s b false) 0x08 t a := by
  unfold parityFault
  simp only [h, stopBlock_tileLevel s h]

/-- Settles O15: a sweep is a fold of its mismatches, and a mismatch in a tile's block is a TILE detection. -/
theorem configParity : Obligations.ConfigParity := by
  refine ⟨fun s bad hbad => ⟨_, if_pos (List.all_eq_true.mpr hbad)⟩, fun s => rfl, fun s a b off t ha hb ht hv => ?_⟩
  obtain ⟨hrec, hflt, hout⟩ := detectTile_takesOut (s := setEnable s b false) (mech := 0x08) t a hv (by decide)
  obtain ⟨hdev, himg, hsec, hlast, hunacked, hregs⟩ := hrec
  refine ⟨detectTile (setEnable s b false) 0x08 t a, ?_, ?_, hout, hflt, hlast, hunacked, himg, congrArg Security.ctxs hsec, hdev⟩
  · show execConfigParitySweep [a] s = _
    unfold execConfigParitySweep
    simp [ha, hb, parityFault_tileLevel a ht]
  · have hctrl : reg (detectTile (setEnable s b false) 0x08 t a) b 0 = reg (setEnable s b false) b 0 := by
      unfold reg tgetD
      rw [hregs _ (regAddr_tileLevel ht 0)]
    exact (congrArg (bit · 0) hctrl).trans (enabled_cleared s b)

end Sys2Proof.Machine
end

section
namespace Sys2Proof.Machine

/-! ### What keeps the management links

Accesses to registers end no link and open none (R410). -/

theorem Handed.links {s t : State} (h : Handed s t) : t.lantern.links = s.lantern.links := by rw [h.fields]

theorem HandedBut.links {l : List Nat} {s t : State} (h : HandedBut l s t) : t.lantern.links = s.lantern.links := by rw [h.fields]

theorem Placed.links {s u : State} (h : Placed s u) : u.lantern.links = s.lantern.links := by rw [show u = _ from h]

theorem LoggedBut.links {l : List Nat} {s t : State} {n : SecureFlash} (h : LoggedBut l { s with nv := n } t) :
    t.lantern.links = s.lantern.links := by
  obtain ⟨-, -, hfields⟩ := h
  rw [hfields]

@[simp] theorem logEntry_links (s : State) (cls mech action ctx unit entry detail : Nat) :
    (logEntry s cls mech action ctx unit entry detail).lantern.links = s.lantern.links :=
  LoggedBut.links (loggedBut_logEntry s cls mech action ctx unit entry detail)

@[simp] theorem logLoad_links (s : State) (detail : Nat) : (logLoad s detail).lantern.links = s.lantern.links :=
  logEntry_links s _ _ _ _ _ _ _

@[simp] theorem enterDev_links (s : State) (d : DevState) (reason : Nat) :
    (enterDev s d reason).lantern.links = s.lantern.links := by
  unfold enterDev
  split
  · rfl
  · dsimp only
    rw [(handed_eventAll _ _ _ _).links, logService, logEntry_links]
    split <;> rfl

@[simp] theorem removeImage_links (s : State) : (removeImage s).lantern.links = s.lantern.links := by
  have hrefuse := foldl_keeps (fun s => s.lantern.links) (fun s x => refuseMsg s x 0x07 0)
    (fun s x => (handedBut_refuseMsg s x 0x07 0).links) s.adm.subs { s with adm := { s.adm with subs := [] } }
  unfold removeImage
  dsimp only
  rw [logLoad_links, enterDev_links]
  exact hrefuse

@[simp] theorem commitOp_links (s : State) : (commitOp s cleanCommit).lantern.links = s.lantern.links := by
  unfold commitOp
  split
  · rfl
  · dsimp only [cleanCommit, List.foldl_nil]
    split
    · exact logLoad_links _ _
    · rw [applyImage_clean s _ rfl rfl rfl]
      exact (servedAs_of_placed (placed_placedImage s _) _).links

@[simp] theorem writeImgCmd_links (s : State) (v : Word) : (writeImgCmd s v).lantern.links = s.lantern.links := by
  unfold writeImgCmd discardOp unloadOp
  repeat' split
  · exact commitOp_links s
  · rfl
  · rfl
  · exact removeImage_links s
  · rfl
  · rfl

@[simp] theorem writeFrameCtrl_links (s : State) (v : Word) : (writeFrameCtrl s v).lantern.links = s.lantern.links := by
  unfold writeFrameCtrl
  dsimp only
  repeat' split
  · rfl
  · rfl
  · exact (placed_enableFrame _).links
  · rfl

@[simp] theorem stopPort_links (s : State) : (stopPort s).lantern.links = s.lantern.links := by
  unfold stopPort
  dsimp only
  split
  all_goals rfl

@[simp] theorem wakeLanes_links (s : State) : (wakeLanes s).lantern.links = s.lantern.links :=
  foldl_keeps (fun s => s.lantern.links) _ (fun _ _ => rfl) laneDomains s

@[simp] theorem writeMacCtrl_links (s : State) (v : Word) : (writeMacCtrl s v).lantern.links = s.lantern.links := by
  unfold writeMacCtrl
  dsimp only
  repeat' split
  all_goals simp

@[simp] theorem acknowledge_links (s : State) (v : Word) : (acknowledge s v).lantern.links = s.lantern.links := by
  unfold acknowledge releaseFlt
  split
  all_goals rfl

@[simp] theorem sendLease_links (s : State) (i : Nat) (mine : Bool) (op wire arg0 arg1 : Nat) (data : List Byte) :
    (sendLease s i mine op wire arg0 arg1 data).lantern.links = s.lantern.links := by
  unfold sendLease
  split
  · rfl
  · exact (handed_sendCtl _ _ _ _ _).links

@[simp] theorem askLeases_links (s : State) : (askLeases s).lantern.links = s.lantern.links := by
  refine foldl_keeps (fun s => s.lantern.links) _ (fun s j => ?_) _ s
  unfold askLease
  split
  · rfl
  · refine foldl_keeps (fun s => s.lantern.links) _ (fun s q => ?_) _ s
    split
    · rfl
    · exact sendLease_links s _ _ _ _ _ _ _

@[simp] theorem writeMoveCmd_links (s : State) (v : Word) : (writeMoveCmd s v).lantern.links = s.lantern.links := by
  unfold writeMoveCmd
  repeat' split
  · rfl
  · rfl
  · exact askLeases_links _

@[simp] theorem saveMgmt_links (s : State) (b : Blk) (off : Nat) (v : Word) :
    (saveMgmt s b off v).lantern.links = s.lantern.links := by rw [saveMgmt_fields]

@[simp] theorem writeLimits_links (s : State) (v : Word) : (writeLimits s v).lantern.links = s.lantern.links := by
  unfold writeLimits
  dsimp only
  repeat' split
  · rfl
  · rfl
  · exact saveMgmt_links _ _ _ _

@[simp] theorem pumpSessions_links (s : State) : (pumpSessions s).lantern.links = s.lantern.links :=
  foldl_keeps (fun s => s.lantern.links) _ (fun s (p : Nat × Nat) => (handed_pumpAll s p.1 p.2).links) _ s

@[simp] theorem writeControl_links (s : State) (b : Blk) (d : RegDesc) (v : Word) :
    (writeControl s b d v).lantern.links = s.lantern.links := by
  unfold writeControl
  dsimp only
  repeat' split
  all_goals rfl

@[simp] theorem writeConfig_links (s : State) (b : Blk) (off : Nat) (d : RegDesc) (v : Word) :
    (writeConfig s b off d v).lantern.links = s.lantern.links := by
  unfold writeConfig
  split
  all_goals rfl

@[simp] theorem writeTile_links (s : State) (t off : Nat) (d : RegDesc) (v : Word) :
    (writeTile s t off d v).lantern.links = s.lantern.links := by
  unfold writeTile
  repeat' split
  all_goals rfl

/-- A write of a register keeps every management link. -/
theorem writeReg_links (s : State) (b : Blk) (off : Nat) (d : RegDesc) (v : Word) :
    (writeReg s b off d v).lantern.links = s.lantern.links := by
  unfold writeReg
  split
  case h_1 => exact writeImgCmd_links s v
  case h_2 => exact writeFrameCtrl_links s v
  case h_3 => exact writeMacCtrl_links s v
  case h_4 => exact acknowledge_links s v
  case h_5 | h_6 => rfl
  case h_7 => exact writeMoveCmd_links s v
  case h_8 => exact writeLimits_links s v
  case h_9 =>
    dsimp only
    repeat' split
    all_goals simp

/-- An access over the management path keeps every management link. -/
theorem access_links (s : State) (path : RegPath) (addr size : Nat) (v : Word) :
    (access s path true addr size v).1.lantern.links = s.lantern.links := by
  unfold access
  simp only [if_true]
  repeat' split
  all_goals simp [writeReg_links]

end Sys2Proof.Machine
end

section
namespace Sys2Proof.Machine

/-! ### Management requests -/

/-- What a request can do: nothing, a kept reply sent again, a refusal, or its run (R410, R411). -/
theorem request_cases (m : MgmtReq) (op : Nat) (role : State → Link → Bool) (state fields : State → Bool)
    (run : State → State) (s : State) : ∃ t, request m op role state fields run s = .next t ∧
      (t = s ∨ (∃ o, t = emitOut s o) ∨ (∃ st, t = mgmtReply s m.link op st m.seq []) ∨ t = run s) := by
  have hstay : ∃ t, (.next s : Res) = .next t ∧
      (t = s ∨ (∃ o, t = emitOut s o) ∨ (∃ st, t = mgmtReply s m.link op st m.seq []) ∨ t = run s) :=
    ⟨s, rfl, .inl rfl⟩
  unfold request
  dsimp only
  split
  · exact hstay
  split
  · exact hstay
  split
  · exact hstay
  split
  · split
    · exact hstay
    · exact ⟨_, rfl, .inr (.inl ⟨_, rfl⟩)⟩
  split
  · exact hstay
  split
  · exact ⟨_, rfl, .inr (.inr (.inr rfl))⟩
  · exact ⟨_, rfl, .inr (.inr (.inl ⟨_, rfl⟩))⟩

/-- A request completes whatever it asks for (R410, R411). -/
theorem request_next (m : MgmtReq) (op : Nat) (role : State → Link → Bool) (state fields : State → Bool)
    (run : State → State) (s : State) : ∃ t, request m op role state fields run s = .next t :=
  (request_cases m op role state fields run s).imp fun _ h => h.1

theorem plainRequest_next (m : MgmtReq) (op mask : Nat) (states : List DevState) (more fields : State → Bool)
    (run : State → State) (s : State) : ∃ t, plainRequest m op mask states more fields run s = .next t :=
  request_next _ _ _ _ _ _ _

/-- A request that is ready, in a state that takes it and with good fields, runs (R408, R410, R411). -/
theorem request_runs {s : State} {m : MgmtReq} {op mask : Nat} {l : Link} {role : State → Link → Bool}
    {state fields : State → Bool} (run : State → State) (h : MgmtReady s m op mask l) (hrole : role s l = true)
    (hstate : state s = true) (hfields : fields s = true) : request m op role state fields run s = .next (run s) := by
  obtain ⟨hlane, htag, hzero, hlink, hauth, hidle, hseq, -, hrec, hlock⟩ := h
  have hok : refusal s m.link op true true true = 0 := by
    have hr : (s.lantern.recovery && !inRecoveryLoader op) = false := by
      cases hv : s.lantern.recovery
      · rfl
      · simp [hrec hv]
    have hl : (isFirmwareOp op && s.lantern.lock.any (fun k => decide (k ≠ m.link))) = false := by
      cases hv : isFirmwareOp op
      · rfl
      · rcases hlock hv with hn | hn <;> simp [hn]
    unfold refusal
    rw [hr, hl]
    rfl
  unfold request
  simp [hlane, htag, hlink, hauth, hidle, hseq, hrole, hstate, hzero, hfields, hok]

theorem plainRequest_runs {s : State} {m : MgmtReq} {op mask : Nat} {l : Link} {states : List DevState}
    {more fields : State → Bool} (run : State → State) (h : MgmtReady s m op mask l) (hdev : s.dev ∈ states)
    (hmore : more s = true) (hfields : fields s = true) :
    plainRequest m op mask states more fields run s = .next (run s) := by
  obtain ⟨-, -, -, -, -, -, -, hrole, -, -⟩ := id h
  exact request_runs run h hrole (by simp [hdev, hmore]) hfields

theorem mem_notVermilion {s : State} (h : s.dev ≠ .vermilion) : s.dev ∈ notVermilion := by
  cases hd : s.dev <;> simp_all [notVermilion]

theorem mem_allStates (s : State) : s.dev ∈ allStates := by
  cases s.dev <;> decide

/-- A reply to an open link leaves and is kept (R408, R410). -/
theorem mgmtReply_open {s : State} {m : MgmtReq} {l : Link} (op status : Nat) (body : List Byte)
    (hl : tget s.lantern.links m.link = some l) : mgmtReply s m.link op status m.seq body = emitOut { s with
      lantern := { s.lantern with links := tset s.lantern.links m.link { l with seq := m.seq, cache := (op, status, body) } } }
      (.mgmt m.link op status m.seq body) := by
  unfold mgmtReply
  rw [hl]

theorem mgmtAnswered_reply {s : State} {m : MgmtReq} {l : Link} (op status : Nat) (body : List Byte)
    (hl : tget s.lantern.links m.link = some l) :
    MgmtAnswered s (mgmtReply s m.link op status m.seq body) m l op status body := by
  rw [mgmtReply_open op status body hl]
  exact ⟨tget_tset_same _ _ _, fun i hi => tget_tset_ne _ _ _ _ hi, rfl⟩

theorem link_of_ready {s : State} {m : MgmtReq} {op mask : Nat} {l : Link} (h : MgmtReady s m op mask l) :
    tget s.lantern.links m.link = some l := by
  obtain ⟨-, -, -, hlink, -⟩ := h
  exact hlink

/-- SET_POLICY changes the policy in the secure flash and is answered OK (R412). -/
theorem setPolicy_does {s : State} {m : MgmtReq} {l : Link} (on : Bool) (h : MgmtReady s m 0x05 roleAdmin l)
    (hv : s.dev ≠ .vermilion) :
    Does (.setPolicy m on) s (okReply { s with nv := { s.nv with requireSigned := on } } m 0x05 []) := by
  show execSetPolicy m on s = _
  unfold execSetPolicy
  rw [plainRequest_runs _ h (mem_notVermilion hv) rfl rfl]

/-- GRANT changes the context's entry of the grant table and is answered OK (R355, R412). -/
theorem grant_does {s : State} {m : MgmtReq} {l : Link} {c : Nat} (conf : Bool) (mask : Word)
    (h : MgmtReady s m 0x20 roleMaintain l) (hv : s.dev ≠ .vermilion) (hc : c < 16) : Does (.grant m c conf mask) s
      (emitOut { s with
        nv := { s.nv with grants := tsetD s.nv.grants c (mask, conf) (0, false) },
        lantern := { s.lantern with
          links := tset s.lantern.links m.link { l with seq := m.seq, cache := (0x20, 0, []) } } }
        (.mgmt m.link 0x20 0 m.seq [])) := by
  show execGrant m c conf mask s = _
  unfold execGrant
  rw [plainRequest_runs _ h (mem_notVermilion hv) rfl (decide_eq_true hc)]
  exact congrArg Host.Outcome.next (mgmtReply_open
    (s := { s with nv := { s.nv with grants := tsetD s.nv.grants c (mask, conf) (0, false) } }) 0x20 0 [] (link_of_ready h))

/-- SET_NET: every link ends after the reply, and with them the update lock (R407, R412, R416). -/
theorem setNet_does {s : State} {m : MgmtReq} {l : Link} {ipv4 ipv6 : Nat} (h : MgmtReady s m 0x06 roleAdmin l)
    (hv : s.dev ≠ .vermilion) (h4 : ipv4 < 2 ^ 32) (h6 : ipv6 < 2 ^ 128) :
    Does (.setNet m ipv4 ipv6) s { s with
      nv := { s.nv with ipv4 := ipv4, ipv6 := ipv6 }, lantern := { s.lantern with links := [], lock := none },
      out := s.out ++ [.mgmt m.link 0x06 0 m.seq []] } := by
  show execSetNet m ipv4 ipv6 s = _
  unfold execSetNet
  rw [plainRequest_runs _ h (mem_notVermilion hv) rfl (by rw [decide_eq_true h4, decide_eq_true h6]; rfl)]
  refine congrArg (fun u => Host.Outcome.next (endLinks u fun _ _ => true))
    (mgmtReply_open (s := { s with nv := { s.nv with ipv4 := ipv4, ipv6 := ipv6 } }) 0x06 0 [] (link_of_ready h)) |>.trans ?_
  simp [endLinks, emitOut]

/-- REG_WRITE: the access acts, and its status is the reply's (R69, R412). -/
theorem regWrite_does {s : State} {m : MgmtReq} {l : Link} {addr : Nat} (v : Word) (h : MgmtReady s m 0x11 roleMaintain l)
    (ha : addr < 2 ^ 32) : Does (.regWrite m addr v) s
      (mgmtReply (access s .mgmt true addr 8 v).1 m.link 0x11 (access s .mgmt true addr 8 v).2.1 m.seq []) := by
  show execRegWrite m addr v s = _
  unfold execRegWrite
  rw [plainRequest_runs _ h (mem_allStates s) rfl (decide_eq_true ha)]

/-! ### STAGE -/

/-- Bytes of STAGE lie at their offset in the staging area, which is then being filled (R62). -/
theorem stageBytes_of_ne_nil (s : State) (offset : Nat) {bytes : List Byte} (h : bytes ≠ []) :
    stageBytes s offset bytes = { s with
    img := { s.img with
      staged := memWrite s.img.staged offset bytes, stagedLen := max s.img.stagedLen (offset + bytes.length),
      phase := .staging } } := by
  simp [stageBytes, h]

/-- With no image in service and the loader ready, a STAGE that fits is taken (R62). -/
theorem stageOp_takes {s : State} {offset : Nat} {bytes : List Byte} (himg : s.img.image = none) (hready : loaderReady s = true)
    (hroom : offset + bytes.length ≤ 134217728) : stageOp s offset bytes = (stageBytes s offset bytes, 0) := by
  unfold stageOp
  rw [if_neg (by simp [himg]), if_neg (by simp [hready]), if_neg (by unfold stagingMax; omega)]

/-- With no image in service STAGE runs as a request and is answered OK (R62, R412). -/
theorem stage_does {s : State} {m : MgmtReq} {l : Link} {offset : Nat} {bytes : List Byte}
    (h : MgmtReady s m 0x12 roleMaintain l) (hdev : s.dev = .sable) (himg : s.img.image = none) (hready : loaderReady s = true)
    (hlo : 1 ≤ bytes.length) (hhi : bytes.length ≤ 1024) (hroom : offset + bytes.length ≤ 134217728) :
    Does (.stage m offset bytes) s (emitOut { s with
      img := { s.img with
        staged := memWrite s.img.staged offset bytes, stagedLen := max s.img.stagedLen (offset + bytes.length),
        phase := .staging },
      lantern := { s.lantern with
        links := tset s.lantern.links m.link { l with seq := m.seq, cache := (0x12, 0, []) } } }
      (.mgmt m.link 0x12 0 m.seq [])) := by
  have hrun : Does (.stage m offset bytes) s (mgmtReply (stageBytes s offset bytes) m.link 0x12 0 m.seq []) := by
    show execStage m offset bytes s = _
    unfold execStage
    simp only [himg, Option.isSome_none, Bool.and_false, Bool.false_eq_true, if_false]
    rw [plainRequest_runs _ h (by simp [hdev]) rfl (by simp [hlo, hhi])]
    simp [stageOp_takes himg hready hroom]
  have hreply := mgmtReply_open (s := stageBytes s offset bytes) 0x12 0 [] (link_of_ready h)
  rw [stageBytes_of_ne_nil s offset (List.ne_nil_of_length_pos hlo)] at hrun hreply
  exact hrun.trans (congrArg Host.Outcome.next hreply)

/-- The request is the device's to decide now. -/
theorem decidedNow_of_ready {s : State} {m : MgmtReq} {op mask : Nat} {l : Link} (h : MgmtReady s m op mask l) :
    decidedNow s m op mask = true := by
  obtain ⟨hlane, htag, -, hlink, hauth, hidle, hseq, hrole, -, -⟩ := h
  simp [decidedNow, hlane, htag, hlink, hauth, hidle, hseq, hrole]

/-- A reply changes outputs and the management links alone. -/
theorem mgmtReply_keeps (s : State) (link op status seq : Nat) (body : List Byte) : mgmtReply s link op status seq body =
    { s with lantern := (mgmtReply s link op status seq body).lantern, out := (mgmtReply s link op status seq body).out } := by
  unfold mgmtReply
  split
  all_goals rfl

/-- Beside an image in service a STAGE that the device decides raises LOAD_DROPPED, and leaves the image and the device as
they are whatever it is answered (R65). -/
theorem stage_dropped {s : State} {m : MgmtReq} {l : Link} (offset : Nat) (bytes : List Byte)
    (h : MgmtReady s m 0x12 roleMaintain l) (himg : s.img.image.isSome = true) :
    ∃ t, Does (.stage m offset bytes) s t ∧ FlagUp t .img 0x20 1 ∧ t.img = s.img ∧ t.dev = s.dev := by
  have hflag : FlagUp (setFlag s .img 0x20 1) .img 0x20 1 := flagUp_setFlag s .img 0x20 1 (by decide)
  have hkeeps : ∀ u st, FlagUp u .img 0x20 1 → u.img = s.img → u.dev = s.dev →
      let t := mgmtReply u m.link 0x12 st m.seq []
      FlagUp t .img 0x20 1 ∧ t.img = s.img ∧ t.dev = s.dev := by
    intro u st hf hi hd
    dsimp only
    rw [mgmtReply_keeps]
    exact ⟨hf, hi, hd⟩
  have hrun : execStage m offset bytes s = plainRequest m 0x12 roleMaintain [.sable] (fun _ => true)
      (fun _ => decide (1 ≤ bytes.length) && decide (bytes.length ≤ 1024))
      (fun s => mgmtReply (stageOp s offset bytes).1 m.link 0x12
        (if (stageOp s offset bytes).2 = 0 then 0 else if (stageOp s offset bytes).2 = 4 then 5 else 4) m.seq [])
      (setFlag s .img 0x20 1) := by
    unfold execStage
    rw [decidedNow_of_ready h, himg]
    rfl
  obtain ⟨t, ht, hcases⟩ := request_cases m 0x12 _ _ _ _ (setFlag s .img 0x20 1)
  refine ⟨t, hrun.trans ht, ?_⟩
  rcases hcases with rfl | ⟨o, rfl⟩ | ⟨st, rfl⟩ | rfl
  · exact ⟨hflag, rfl, rfl⟩
  · exact ⟨hflag, rfl, rfl⟩
  · exact hkeeps _ st hflag rfl rfl
  · have hop : stageOp (setFlag s .img 0x20 1) offset bytes = (setFlag (setFlag s .img 0x20 1) .img 0x20 1, 1) := if_pos himg
    rw [hop]
    exact hkeeps _ _ (hflag.setFlag 1 (by decide)) rfl rfl

/-! ### The operator table -/

/-- An entry of another key stays in a table in which a key is written. -/
theorem mem_tset_of_ne {α : Type} {t : Table α} {e : Nat × α} (k : Nat) (v : α) (he : e ∈ t) (hk : e.1 ≠ k) :
    e ∈ tset t k v := by
  induction t with
  | nil => exact absurd he (by simp)
  | cons f t ih =>
    unfold tset
    split
    · exact List.mem_cons_of_mem _ he
    · split
      · rename_i heq
        refine List.mem_cons_of_mem _ ((List.mem_cons.mp he).resolve_left ?_)
        rintro rfl
        exact hk heq.symm
      · rcases List.mem_cons.mp he with rfl | he
        · exact List.mem_cons_self ..
        · exact List.mem_cons_of_mem _ (ih he)

/-- A changed operator slot: the table is the new one, the slot's links end and the others stay (R410, R412, R423). -/
theorem changeSlot_does {s : State} {m : MgmtReq} {l : Link} (op slot : Nat) (ops : Table Operator)
    (hl : tget s.lantern.links m.link = some l) :
    let t := changeSlot s m op slot ops
    t.nv.operators = ops ∧ (∀ e ∈ t.lantern.links, ¬ (e.2.authed = true ∧ e.2.slot = slot)) ∧
    (∀ e ∈ s.lantern.links, e.1 ≠ m.link → ¬ (e.2.authed = true ∧ e.2.slot = slot) → e ∈ t.lantern.links) ∧
    t = { s with nv := { s.nv with operators := t.nv.operators },
                 lantern := { s.lantern with links := t.lantern.links, lock := t.lantern.lock },
                 out := s.out ++ [.mgmt m.link op 0 m.seq []] } := by
  unfold changeSlot okReply
  rw [mgmtReply_open (s := { s with nv := { s.nv with operators := ops } }) op 0 [] hl]
  refine ⟨rfl, fun e he => ?_, fun e he hne hslot => ?_, rfl⟩
  · simpa [imp_iff_not_or] using (List.mem_filter.mp he).2
  · exact List.mem_filter.mpr ⟨mem_tset_of_ne _ _ he hne, by simpa [imp_iff_not_or] using hslot⟩

/-- ENROL of an enrolled ADMIN writes the slot of the operator table (R376, R412). -/
theorem enrol_does {s : State} {m : MgmtReq} {l : Link} {slot roles : Nat} {key : List Byte} (h : MgmtReady s m 0x03 roleAdmin l)
    (hv : s.dev ≠ .vermilion) (hslot : slot < 8) (hroles : roles < 32) (hkey : key.length = 64) (hl : l.slot ≠ 0xFF)
    (hadmin : keepsAdmin (tset s.nv.operators slot { key := key, roles := roles }) = true) :
    Does (.enrol m slot roles key) s (changeSlot s m 0x03 slot (tset s.nv.operators slot { key := key, roles := roles })) := by
  have hrole : holdsRole s l roleAdmin = true := by
    obtain ⟨-, -, -, -, -, -, -, hrole, -, -⟩ := h
    simpa [roleHeld, inRecoveryLoader] using hrole
  show execEnrol m slot roles key s = _
  unfold execEnrol
  rw [request_runs _ h (by simp [hl, hrole]) (by simp [mem_notVermilion hv]) (by simp [hslot, hroles, hkey, hadmin])]

/-- REMOVE clears the slot while another keeps ADMIN (R376, R412). -/
theorem remove_does {s : State} {m : MgmtReq} {l : Link} {slot : Nat} (h : MgmtReady s m 0x04 roleAdmin l)
    (hv : s.dev ≠ .vermilion) (hslot : slot < 8) (hadmin : keepsAdmin (tdel s.nv.operators slot) = true) :
    Does (.remove m slot) s (changeSlot s m 0x04 slot (tdel s.nv.operators slot)) := by
  show execRemove m slot s = _
  unfold execRemove
  rw [plainRequest_runs _ h (mem_notVermilion hv) rfl (by simp [hslot, hadmin])]

/-- Settles O48: each setting runs as its request, and every request completes. -/
theorem managementSettings : Obligations.ManagementSettings := by
  refine ⟨fun s m on a b key v => ?_, fun s m l on h hv => ?_, fun s m l ipv4 ipv6 h hv h4 h6 => setNet_does h hv h4 h6,
    fun s m l slot roles op key c w hc h hv hslot => ?_, fun s m l c conf mask h hv hc => ?_, fun s m l addr v h ha => ?_,
    fun s m l offset bytes h hdev himg hready hlo hhi hroom => ?_,
    fun s m l offset bytes h himg => stage_dropped offset bytes h himg⟩
  · have hpolicy : ∃ t, execSetPolicy m on s = .next t := plainRequest_next ..
    have hnet : ∃ t, execSetNet m a b s = .next t := plainRequest_next ..
    have henrol : ∃ t, execEnrol m a b key s = .next t := by
      unfold execEnrol
      exact request_next ..
    have hremove : ∃ t, execRemove m a s = .next t := plainRequest_next ..
    have hgrant : ∃ t, execGrant m a on v s = .next t := plainRequest_next ..
    have hwrite : ∃ t, execRegWrite m a v s = .next t := plainRequest_next ..
    have hstage : ∃ t, execStage m a key s = .next t := plainRequest_next ..
    exact ⟨hpolicy, hnet, henrol, hremove, hgrant, hwrite, hstage⟩
  · exact ⟨_, setPolicy_does on h hv, mgmtAnswered_reply 0x05 0 [] (link_of_ready h)⟩
  · rcases hc with ⟨rfl, rfl, rfl, hroles, hkey, hl, hadmin⟩ | ⟨rfl, rfl, rfl, hadmin⟩
    · obtain ⟨hops, hrest⟩ :=
        changeSlot_does 0x03 slot (tset s.nv.operators slot { key := key, roles := roles }) (link_of_ready h)
      refine ⟨_, enrol_does h hv hslot hroles hkey hl hadmin, ?_, fun i hi => ?_, hrest⟩
      · rw [hops, tget_tset_same]
      · rw [hops, tget_tset_ne _ _ _ _ hi]
    · obtain ⟨hops, hrest⟩ := changeSlot_does 0x04 slot (tdel s.nv.operators slot) (link_of_ready h)
      refine ⟨_, remove_does h hv hslot hadmin, ?_, fun i hi => ?_, hrest⟩
      · rw [hops, tget_tdel_same]
      · rw [hops, tget_tdel_ne _ _ _ hi]
  · exact ⟨_, grant_does conf mask h hv hc, tgetD_tsetD_same .., fun i hi => tgetD_tsetD_ne _ _ _ _ _ hi,
      tget_tset_same _ _ _, fun i hi => tget_tset_ne _ _ _ _ hi, rfl⟩
  · have hl : tget (access s .mgmt true addr 8 v).1.lantern.links m.link = some l :=
      (congrArg (tget · m.link) (access_links s .mgmt addr 8 v)).trans (link_of_ready h)
    exact ⟨_, regWrite_does v h ha, mgmtAnswered_reply 0x11 _ [] hl⟩
  · exact ⟨_, stage_does h hdev himg hready hlo hhi hroom,
      ⟨fun i hi => memByte_memWrite_inside _ _ _ _ hi, fun x hx => memByte_memWrite_outside _ _ _ _ hx⟩, rfl,
      tget_tset_same _ _ _, fun i hi => tget_tset_ne _ _ _ _ hi, rfl⟩

end Sys2Proof.Machine
end

section
namespace Sys2Proof.Machine

/-! ### Writing a task's buffer and going on -/

theorem tget_sramWrite_outside (m : Table Byte) (a x : Nat) (bs : List Byte) (h : x < a ∨ a + bs.length ≤ x) :
    tget (sramWrite m a bs) x = tget m x := by
  induction bs generalizing m a with
  | nil => rfl
  | cons b bs ih =>
    rw [List.length_cons] at h
    rw [sramWrite, ih _ _ (by omega), tget_tset_ne _ _ _ _ (by omega)]

theorem tget_sramWrite_inside (m : Table Byte) (a i : Nat) (bs : List Byte) (hi : i < bs.length) :
    tget (sramWrite m a bs) (a + i) = some bs[i] := by
  induction bs generalizing m a i with
  | nil => simp at hi
  | cons b bs ih =>
    cases i with
    | zero => rw [sramWrite, tget_sramWrite_outside _ _ _ _ (by omega), Nat.add_zero, tget_tset_same, List.getElem_cons_zero]
    | succ i => rw [sramWrite, show a + (i + 1) = a + 1 + i by omega, ih _ _ i (by simpa using hi), List.getElem_cons_succ]

/-- A buffer written holds the bytes given, and no other byte of the tile's SRAM changes (R109). -/
theorem wroteBuffer_bufWrite (s : State) (t : Nat) (k : Task) (b off : Nat) (bs : List Byte) :
    WroteBuffer s (bufWrite s t k b off bs) t k b off bs := by
  unfold WroteBuffer bufWrite
  simp only [tileAt_setTile_same]
  exact ⟨fun i hi => tget_sramWrite_inside _ _ i bs hi, fun a ha => tget_sramWrite_outside _ _ a bs ha⟩

/-- A write to a buffer holds in every state that has the same SRAM in that tile. -/
theorem WroteBuffer.of_sram {s u v : State} {t : Nat} {k : Task} {b off : Nat} {bs : List Byte}
    (h : WroteBuffer s u t k b off bs) (hv : (tileAt v t).sram = (tileAt u t).sram) : WroteBuffer s v t k b off bs := by
  unfold WroteBuffer at h ⊢
  rwa [hv]

theorem tileAt_bufWrite (s : State) (t : Nat) (k : Task) (b off : Nat) (bs : List Byte) :
    tileAt (bufWrite s t k b off bs) t = { tileAt s t with sram := (tileAt (bufWrite s t k b off bs) t).sram } := by
  unfold bufWrite
  rw [tileAt_setTile_same]

theorem tileAt_bufWrite_ne (s : State) {t i : Nat} (k : Task) (b off : Nat) (bs : List Byte) (h : i ≠ t) :
    tileAt (bufWrite s t k b off bs) i = tileAt s i := tileAt_setTile_ne _ _ _ _ h

/-- The kind of a buffer is the program's, whatever the tiles and the registers hold. -/
theorem bufKind_of_img {s u : State} (h : u.img = s.img) (k : Task) (b : Nat) : bufKind u k b = bufKind s k b := by
  unfold bufKind programOf
  rw [h]

theorem WroteBuffer.of_start {s s' u : State} {t : Nat} {k : Task} {b off : Nat} {bs : List Byte}
    (h : WroteBuffer s' u t k b off bs) (himg : s'.img = s.img) (hs : (tileAt s' t).sram = (tileAt s t).sram) :
    WroteBuffer s u t k b off bs := by
  unfold WroteBuffer at h ⊢
  rwa [bufKind_of_img himg, hs] at h

theorem tileAt_advance {s : State} {t : Nat} {k : Task} (hk : (tileAt s t).task = some k) :
    tileAt (advance s t) t = { tileAt s t with task := some k.next } := by
  unfold advance setTask
  rw [tileAt_setTile_same, hk]
  rfl

theorem tileAt_advance_ne (s : State) {t i : Nat} (h : i ≠ t) : tileAt (advance s t) i = tileAt s i :=
  tileAt_setTile_ne _ _ _ _ h

theorem sram_advance (s : State) (t : Nat) : (tileAt (advance s t) t).sram = (tileAt s t).sram := by
  unfold advance setTask
  rw [tileAt_setTile_same]

/-- An operator that only writes a buffer: its task goes on with the bytes in the buffer, and the tiles alone change. -/
theorem advance_bufWrite {s : State} {t : Nat} {k : Task} (hk : (tileAt s t).task = some k) (b : Nat) (bs : List Byte) :
    let u := advance (bufWrite s t k b 0 bs) t
    NextRecord s u t k ∧ u = { s with tiles := u.tiles } ∧ WroteBuffer s u t k b 0 bs := by
  have htask : (tileAt (bufWrite s t k b 0 bs) t).task = some k := by rw [tileAt_bufWrite, hk]
  refine ⟨⟨?_, fun i hi => ?_⟩, rfl, (wroteBuffer_bufWrite s t k b 0 bs).of_sram (sram_advance _ t)⟩
  · rw [sram_advance, tileAt_advance htask, tileAt_bufWrite]
  · rw [tileAt_advance_ne _ hi, tileAt_bufWrite_ne _ _ _ _ _ hi]

/-! ### The running task of a tile -/

theorem Ready.task {s : State} {t : Nat} {k : Task} (h : Ready s t k) : (tileAt s t).task = some k := h.2.1

/-- A ready task takes its operator's meaning (R107). -/
theorem onTask_ready {s : State} {t : Nat} {k : Task} (h : Ready s t k) (f : Tile → Task → Res) :
    onTask s t f = f (tileAt s t) k := by
  obtain ⟨ht, hk, hrun, hcomplete, hwait, hstream⟩ := h
  unfold onTask
  rw [if_neg (by omega)]
  simp only [hk]
  rw [if_neg (by simp [hrun, hcomplete, hwait, hstream])]

/-- On a tile of the device an operator is passed over or takes its meaning on the tile's task (R107). -/
theorem onTask_cases {s : State} {t : Nat} (ht : t < 640) (f : Tile → Task → Res) :
    onTask s t f = .next s ∨ ∃ k, (tileAt s t).task = some k ∧ onTask s t f = f (tileAt s t) k := by
  unfold onTask
  rw [if_neg (by omega)]
  cases hk : (tileAt s t).task with
  | none => exact .inl rfl
  | some k =>
    dsimp only
    split
    · exact .inl rfl
    · exact .inr ⟨k, rfl, rfl⟩

theorem onTask_completes {s : State} {t : Nat} (ht : t < 640) {f : Tile → Task → Res} (hf : ∀ x k, ∃ u, f x k = .next u) :
    ∃ u, onTask s t f = .next u := by
  rcases onTask_cases (s := s) ht f with h | ⟨k, -, h⟩
  · exact ⟨s, h⟩
  · rw [h]
    exact hf _ k

end Sys2Proof.Machine
end

section
namespace Sys2Proof.Machine

/-! ### VEC -/

theorem vecOp_completes (s : State) {t : Nat} (b : Bufs) {fmts : Nat → Bool} {p : VecP} (outFmt : Nat) (f : Nat → Nat → Nat → Nat)
    (ht : t < 640) (hf : fmts p.fmt = true) : ∃ u, vecOp t b fmts p outFmt s f = .next u := by
  unfold vecOp
  rw [if_neg (by simp [hf])]
  exact onTask_completes ht fun _ _ => ⟨_, rfl⟩

/-- An element-wise operator writes `f` of the sources' elements, element by element (R111). -/
theorem vecOp_writes {s : State} {t : Nat} {k : Task} (hk : Ready s t k) (b : Bufs) {fmts : Nat → Bool} {p : VecP}
    (hf : fmts p.fmt = true) (outFmt : Nat) (f : Nat → Nat → Nat → Nat) :
    ∃ u, vecOp t b fmts p outFmt s f = .next u ∧ NextRecord s u t k ∧ u = { s with tiles := u.tiles } ∧
      WroteBuffer s u t k b.dst 0 (packElems (fmtWidth outFmt) ((List.range p.elems).map fun i =>
        f (operand s t k b.src0 (fmtWidth p.fmt) p.elems i) (operand s t k b.src1 (fmtWidth p.fmt) p.elems i)
          (operand s t k b.src2 (fmtWidth p.fmt) p.elems i))) := by
  unfold vecOp
  rw [if_neg (by simp [hf]), onTask_ready hk]
  exact ⟨_, rfl, advance_bufWrite hk.task b.dst _⟩

theorem exec_vecArith {c : Instr} {t : Nat} {p : VecP} {b : Bufs} {g : FNum → FNum → FNum → FNum} (h : vecArith c t p b g)
    (s : State) : exec c s = vecOp t b coreFmt p p.fmt s fun x y z =>
      coreCode p.fmt (g (numOf p.fmt x) (numOf p.fmt y) (numOf p.fmt z)) := by
  rcases h with ⟨rfl, rfl⟩ | ⟨rfl, rfl⟩ | ⟨rfl, rfl⟩ | ⟨rfl, rfl⟩ | ⟨rfl, rfl⟩ | ⟨rfl, rfl⟩
  all_goals rfl

theorem vecArithmetic : Claims.VecArithmetic := by
  have completes : ∀ {s : State} {t : Nat} {p : VecP} {b : Bufs} {c : Instr} {g : FNum → FNum → FNum → FNum}, t < 640 →
      coreFmt p.fmt = true → vecArith c t p b g → Completes c s := fun {s} _ _ b _ _ ht hf hc => by
    unfold Completes
    rw [exec_vecArith hc]
    exact vecOp_completes s b _ _ ht hf
  refine ⟨fun s t p b ht hf => ⟨?_, ?_, ?_, ?_, ?_, ?_⟩, fun s t p b k c g hk hc hf => ?_⟩
  · exact completes ht hf (.inl ⟨rfl, rfl⟩)
  · exact completes ht hf (.inr (.inl ⟨rfl, rfl⟩))
  · exact completes ht hf (.inr (.inr (.inl ⟨rfl, rfl⟩)))
  · exact completes ht hf (.inr (.inr (.inr (.inl ⟨rfl, rfl⟩))))
  · exact completes ht hf (.inr (.inr (.inr (.inr (.inl ⟨rfl, rfl⟩)))))
  · exact completes ht hf (.inr (.inr (.inr (.inr (.inr ⟨rfl, rfl⟩)))))
  · unfold Does
    rw [exec_vecArith hc]
    exact vecOp_writes hk b hf _ _

/-- The function on codes of a VEC command of one operand in a floating format: EXP, RECIP, RSQRT, TANH, GELU_TANH (R111). -/
def vecFloat (c : Instr) (t : Nat) (p : VecP) (b : Bufs) (g : Nat → Nat) : Prop :=
  (c = .vecExp t p b ∧ g = fun x => coreCode p.fmt (expNum (numOf p.fmt x))) ∨
  (c = .vecRecip t p b ∧ g = fun x => coreCode p.fmt (recipNum (numOf p.fmt x))) ∨
  (c = .vecRsqrt t p b ∧ g = fun x => coreCode p.fmt (rsqrtNum (numOf p.fmt x))) ∨
  (c = .vecTanh t p b ∧ g = fun x => coreCode p.fmt (tanhNum (numOf p.fmt x))) ∨
  (c = .vecGeluTanh t p b ∧
    g = fun x => coreCode p.fmt (numOf p.fmt ((Config.geluTanh p.fmt (BitVec.ofNat 64 x)).toNat % 2 ^ fmtWidth p.fmt)))

theorem exec_vecFloat {c : Instr} {t : Nat} {p : VecP} {b : Bufs} {g : Nat → Nat} (h : vecFloat c t p b g) (s : State) :
    exec c s = vecOp t b coreFloat p p.fmt s fun x _ _ => g x := by
  rcases h with ⟨rfl, rfl⟩ | ⟨rfl, rfl⟩ | ⟨rfl, rfl⟩ | ⟨rfl, rfl⟩ | ⟨rfl, rfl⟩
  all_goals rfl

/-- CONVERT takes the numeric formats of R76 but BIN, from and to (R79). -/
theorem exec_vecConvert {p : VecP} (h : p.toFmt ≠ 9) (hw : fmtWidth p.toFmt ≠ 0) (t : Nat) (b : Bufs) (s : State) :
    exec (.vecConvert t p b) s = vecOp t b (fun f => f != 9 && fmtWidth f != 0) p p.toFmt s fun x _ _ =>
      (convert p.toFmt false 0 (numOf p.fmt x)).code := if_neg (by simp [h, hw])

theorem vecFunctions : Claims.VecFunctions := by
  have completes : ∀ {s : State} {t : Nat} {p : VecP} {b : Bufs} {c : Instr} {g : Nat → Nat}, t < 640 →
      coreFloat p.fmt = true → vecFloat c t p b g → Completes c s := fun {s} _ _ b _ _ ht hf hc => by
    unfold Completes
    rw [exec_vecFloat hc]
    exact vecOp_completes s b _ _ ht hf
  refine ⟨fun s t p b ht => ⟨fun hf => ⟨?_, ?_, ?_, ?_, ?_⟩, fun h9 hw h9' hw' => ?_⟩, fun s t p b k c toFmt g hk hc => ?_⟩
  · exact completes ht hf (.inl ⟨rfl, rfl⟩)
  · exact completes ht hf (.inr (.inl ⟨rfl, rfl⟩))
  · exact completes ht hf (.inr (.inr (.inl ⟨rfl, rfl⟩)))
  · exact completes ht hf (.inr (.inr (.inr (.inl ⟨rfl, rfl⟩))))
  · exact completes ht hf (.inr (.inr (.inr (.inr ⟨rfl, rfl⟩))))
  · unfold Completes
    rw [exec_vecConvert h9' hw']
    exact vecOp_completes s b _ _ ht (by simp [h9, hw])
  · unfold Does
    rcases hc with ⟨hf, rfl, hc⟩ | ⟨h9, hw, h9', hw', rfl, rfl, rfl⟩
    · rw [exec_vecFloat hc]
      exact vecOp_writes hk b hf _ _
    · rw [exec_vecConvert h9' hw']
      exact vecOp_writes hk b (by simp [h9, hw]) _ _

/-! ### REDUCE -/

theorem reduceOp_completes (s : State) {t : Nat} {p : VecP} (b : Bufs) (width : Nat) (row : List FNum → Nat) (ht : t < 640)
    (hf : coreFmt p.fmt = true) (hi : p.inner ≠ 0) (hd : p.elems % p.inner = 0) :
    ∃ u, reduceOp t p b s width row = .next u := by
  unfold reduceOp
  rw [if_neg (by simp [hf, hi, hd])]
  exact onTask_completes ht fun _ _ => ⟨_, rfl⟩

/-- A reduction writes `row` of each row of INNER elements of SRC0 (R111). -/
theorem reduceOp_writes {s : State} {t : Nat} {k : Task} (hk : Ready s t k) (b : Bufs) {p : VecP} (hf : coreFmt p.fmt = true)
    (hi : p.inner ≠ 0) (hd : p.elems % p.inner = 0) (width : Nat) (row : List FNum → Nat) :
    ∃ u, reduceOp t p b s width row = .next u ∧ NextRecord s u t k ∧ u = { s with tiles := u.tiles } ∧
      WroteBuffer s u t k b.dst 0 (packElems width ((List.range (p.elems / p.inner)).map fun r =>
        row ((((elems (fmtWidth p.fmt) p.elems (bufRead s t (tileAt s t) k b.src0 0 (elemBytes (fmtWidth p.fmt) p.elems))).map
          (numOf p.fmt)).drop (r * p.inner)).take p.inner))) := by
  unfold reduceOp
  rw [if_neg (by simp [hf, hi, hd]), onTask_ready hk]
  exact ⟨_, rfl, advance_bufWrite hk.task b.dst _⟩

/-- The INT64 code of the exact sum of a row (R111). -/
def intSum (l : List FNum) : Nat :=
  match l.foldl addNum .zero with
  | .fin neg m e => (rneInt neg m e % (2 ^ 64 : Nat)).toNat
  | _ => 0

theorem exec_reduceSum_int {p : VecP} (h : floatFmt p.fmt = none) (t : Nat) (b : Bufs) (s : State) :
    exec (.reduceSum t p b) s = reduceOp t p b s 64 intSum := by
  show execReduceSum t p b s = _
  unfold execReduceSum
  rw [h]
  rfl

theorem exec_reduceSum_float {p : VecP} {g : FloatFmt} (h : floatFmt p.fmt = some g) (t : Nat) (b : Bufs) (s : State) :
    exec (.reduceSum t p b) s = reduceOp t p b s g.width fun l =>
      toFloat g false (l.foldl (fun acc v => floatNum g (toFloat g false (addNum acc v))) .zero) := by
  show execReduceSum t p b s = _
  unfold execReduceSum
  rw [h]

theorem exec_reduceMax (t : Nat) (p : VecP) (b : Bufs) (s : State) : exec (.reduceMax t p b) s =
    reduceOp t p b s (fmtWidth p.fmt) fun l => coreCode p.fmt (foldRow maxNum l) := rfl

theorem exec_reduceMin (t : Nat) (p : VecP) (b : Bufs) (s : State) : exec (.reduceMin t p b) s =
    reduceOp t p b s (fmtWidth p.fmt) fun l => coreCode p.fmt (foldRow minNum l) := rfl

theorem reductions : Claims.Reductions := by
  refine ⟨fun s t p b ht hf hi hd => ?_, fun s t p b k c w row hk hf hi hd hc => ?_⟩
  · have completes := fun width row => reduceOp_completes s b width row ht hf hi hd
    unfold Completes
    refine ⟨?_, exec_reduceMax t p b s ▸ completes _ _, exec_reduceMin t p b s ▸ completes _ _⟩
    cases hg : floatFmt p.fmt with
    | none => rw [exec_reduceSum_int hg]; exact completes _ _
    | some g => rw [exec_reduceSum_float hg]; exact completes _ _
  · have writes := fun width row => reduceOp_writes hk b hf hi hd width row
    unfold Does
    rcases hc with ⟨rfl, rfl, rfl⟩ | ⟨rfl, rfl, rfl⟩ | ⟨rfl, hint, rfl, rfl⟩ | ⟨rfl, g, hg, rfl, rfl⟩
    · rw [exec_reduceMax]; exact writes _ _
    · rw [exec_reduceMin]; exact writes _ _
    · have hg : floatFmt p.fmt = none := by rw [hint]; rfl
      rw [exec_reduceSum_int hg]
      exact writes _ _
    · rw [exec_reduceSum_float hg]; exact writes _ _

/-- Settles O16: each operator is a map over its operands' elements, or over the rows of SRC0, written to the destination. -/
theorem vectorOperators : Obligations.VectorOperators := ⟨vecArithmetic, vecFunctions, reductions⟩

end Sys2Proof.Machine
end

section
namespace Sys2Proof.Machine

/-! ### What keeps the work of the tiles -/

/-- A tile's work: its task, the run of its task, its passes in flight and its SRAM. -/
def Tile.work (x : Tile) : Option Task × RunState × List Pass × Table Byte := (x.task, x.run, x.passes, x.sram)

/-- The work of every tile. -/
def tileWork (s : State) (t : Nat) : Option Task × RunState × List Pass × Table Byte := (tileAt s t).work

theorem tileWork_of_tiles {s u : State} (h : u.tiles = s.tiles) : tileWork u = tileWork s :=
  funext fun t => congrArg Tile.work (tileAt_of_tiles h t)

theorem tileWork_setTile {s : State} {t : Nat} {x : Tile} (h : x.work = (tileAt s t).work) : tileWork (setTile s t x) = tileWork s := by
  funext i
  unfold tileWork
  by_cases hi : i = t
  · rw [hi, tileAt_setTile_same, h]
  · rw [tileAt_setTile_ne _ _ _ _ hi]

theorem task_of_tileWork {s u : State} (h : tileWork u = tileWork s) (t : Nat) : (tileAt u t).task = (tileAt s t).task :=
  congrArg Prod.fst (congrFun h t)

theorem run_of_tileWork {s u : State} (h : tileWork u = tileWork s) (t : Nat) : (tileAt u t).run = (tileAt s t).run :=
  congrArg (·.2.1) (congrFun h t)

theorem passes_of_tileWork {s u : State} (h : tileWork u = tileWork s) (t : Nat) : (tileAt u t).passes = (tileAt s t).passes :=
  congrArg (·.2.2.1) (congrFun h t)

theorem sram_of_tileWork {s u : State} (h : tileWork u = tileWork s) (t : Nat) : (tileAt u t).sram = (tileAt s t).sram :=
  congrArg (·.2.2.2) (congrFun h t)

theorem Handed.tileWork {s u : State} (h : Handed s u) : tileWork u = tileWork s := tileWork_of_tiles h.tiles

@[simp] theorem giveBack_tileWork (s : State) (l : List Token) : tileWork (giveBack s l) = tileWork s := by
  unfold giveBack
  refine foldl_keeps tileWork _ (fun s k => ?_) _ s
  exact tileWork_setTile rfl

theorem tileWork_dropTiles {s u : State} {e : Nat} (h : u.tiles = s.tiles.map fun p => (p.1, dropTile e p.2)) :
    tileWork u = tileWork s := by
  funext t
  unfold tileWork tileAt
  rw [h, tgetD_map _ _ _ rfl]
  rfl

@[simp] theorem dropWork_tileWork (s : State) (e : Nat) : tileWork (dropWork s e) = tileWork s := by
  unfold dropWork
  exact (giveBack_tileWork _ _).trans (tileWork_dropTiles (e := e) rfl)

@[simp] theorem endRequest_tileWork (s : State) (e status due : Nat) : tileWork (endRequest s e status due) = tileWork s := by
  unfold endRequest
  split
  · rfl
  · split
    · rfl
    · exact (tileWork_of_tiles rfl).trans ((dropWork_tileWork _ e).trans (tileWork_of_tiles rfl))

@[simp] theorem updReq_tileWork (s : State) (e : Nat) (f : Request → Request) : tileWork (updReq s e f) = tileWork s := by
  unfold updReq
  split
  · exact tileWork_of_tiles rfl
  · rfl

@[simp] theorem affect_tileWork (s : State) (es : List Nat) (status : Nat) : tileWork (affect s es status) = tileWork s :=
  foldl_keeps tileWork _ (fun s e => (endRequest_tileWork _ e status _).trans (updReq_tileWork s e _)) es s

@[simp] theorem complete_tileWork (s : State) (e status : Nat) : tileWork (complete s e status) = tileWork s :=
  tileWork_of_tiles (by rw [complete_fields])

@[simp] theorem faultNow_tileWork (s : State) (e : Nat) : tileWork (faultNow s e) = tileWork s := by
  unfold faultNow
  split
  · rfl
  · split
    · rfl
    · exact (complete_tileWork _ _ _).trans (endRequest_tileWork _ _ _ _)

@[simp] theorem faultReport_tileWork (s : State) (n arg0 arg1 : Nat) : tileWork (faultReport s n arg0 arg1) = tileWork s := by
  unfold faultReport
  split
  · rfl
  · dsimp only
    split
    · exact (handed_eventTo _ n 0x0D arg0 arg1).tileWork.trans (tileWork_of_tiles rfl)
    · exact tileWork_of_tiles rfl

@[simp] theorem tileOut_tileWork (s : State) (t : Nat) : tileWork (tileOut s t) = tileWork s := by
  unfold tileOut
  dsimp only
  split
  · rw [tileWork_of_tiles (tiles_logService _ _ _)]
    exact (tileWork_of_tiles rfl).trans (tileWork_setTile (s := s) (t := t) rfl)
  · rfl

@[simp] theorem recordDetection_tileWork (s : State) (d : Detection) (action : Nat) :
    tileWork (recordDetection s d action) = tileWork s := by
  have hlog : (logEntry s 1 d.mech action d.ctx d.unit d.entry d.detail).tiles = s.tiles :=
    LoggedBut.tiles (loggedBut_logEntry s 1 d.mech action d.ctx d.unit d.entry d.detail)
  exact tileWork_of_tiles (by simp [recordDetection, hlog])

@[simp] theorem told_tileWork (s : State) (d : Detection) (action seq : Nat) : tileWork (told s d action seq) = tileWork s := by
  unfold told
  rw [foldl_keeps tileWork _ (fun s n => faultReport_tileWork s n _ _),
    foldl_keeps tileWork _ (fun s (o : Nat × Nat) => faultReport_tileWork s o.2 _ _), affect_tileWork]

@[simp] theorem raised_tileWork (s : State) (d : Detection) : tileWork (raised s d) = tileWork s := by
  have h := recordDetection_tileWork s d 1
  unfold raised
  generalize recordDetection s d 1 = u at h ⊢
  exact (tileWork_of_tiles rfl).trans h

theorem detectTile_vermilion {s : State} (mech t detail : Nat) (hv : s.dev = .vermilion) :
    detectTile s mech t detail = recordDetection s (tileDetection s mech t detail) 1 := by
  show detect s (tileDetection s mech t detail) = _
  unfold detect
  simp only [recurs, if_pos hv, tileDetection, Bool.false_eq_true, if_false]

/-- The task of a tile that a TILE detection takes out goes on, with its passes and its data (R98, R392). -/
@[simp] theorem detectTile_tileWork (s : State) (mech t detail : Nat) : tileWork (detectTile s mech t detail) = tileWork s := by
  by_cases hv : s.dev = .vermilion
  · rw [detectTile_vermilion mech t detail hv, recordDetection_tileWork]
  · rw [detectTile_eq mech t detail hv, tileOut_tileWork, told_tileWork, raised_tileWork]

/-- A TILE detection is recorded in every state of the device (R389, R396). -/
theorem recorded_detectTile (s : State) {mech : Nat} (t detail : Nat) (hm : mech < 256) :
    Recorded s (detectTile s mech t detail) (tileDetection s mech t detail) := by
  by_cases hv : s.dev = .vermilion
  · rw [detectTile_vermilion mech t detail hv]
    exact recorded_recordDetection s 1 hm
  · exact (detectTile_takesOut t detail hv hm).1

theorem Recorded.reg {s u : State} {d : Detection} (h : Recorded s u d) {b : Blk} {t : Nat} (hb : tileLevel b = some t) (off : Nat) :
    reg u b off = reg s b off := by
  unfold Machine.reg tgetD
  rw [h.regs _ (regAddr_tileLevel hb off)]

end Sys2Proof.Machine
end

section
namespace Sys2Proof.Machine

/-! ### Aborts that complete the request -/

theorem faultNow_regs (s : State) (e : Nat) : RegsBut [regAddr .reqtab 0x08, regAddr .mac 0x50] s (faultNow s e) := by
  cases hq : reqAt s e with
  | none => simp [faultNow, hq]
  | some q =>
    cases he : ended q with
    | true => simp [faultNow, hq, he]
    | false => exact (faulted_faultNow hq he).regs

/-- The request's entry lies in bits 16 to 31 of TILE_ABORT. -/
theorem bits_abortWord_entry (cause stream entry n : Nat) :
    bits (BitVec.ofNat 64 (cause % 16 + stream % 16 * 16 + entry % 2 ^ 16 * 2 ^ 16 + n % 2 ^ 32 * 2 ^ 32)) 16 16 =
      entry % 2 ^ 16 := by
  unfold bits
  rw [BitVec.toNat_ofNat, Nat.shiftRight_eq_div_pow]
  omega

theorem passes_abortedAt (s : State) (t cause stream : Nat) (k : Task) : (tileAt (abortedAt s t cause stream k) t).passes = [] := by
  unfold abortedAt
  extract_lets x u
  rw [(onlyRegs_reportAbort _ _ _).tileAt, passes_of_tileWork (giveBack_tileWork _ _), tileAt_setTile_same]

theorem entry_abortedAt (s : State) (t cause stream : Nat) (k : Task) :
    fld (abortedAt s t cause stream k) (.tile t) 0x18 16 16 = k.entry % 2 ^ 16 := by
  unfold abortedAt fld
  rw [reg_reportAbort]
  exact bits_abortWord_entry _ _ _ _

/-- An abort of cause 0x1 to 0x3 leaves the tile idle, with no pass in flight, and its report in the tile's block, whatever
becomes of the request (R136). -/
theorem taskAborted_abortTask {s : State} {t cause : Nat} {k : Task} (hk : (tileAt s t).task = some k)
    (hc : cause = 1 ∨ cause = 2 ∨ cause = 3) (stream why : Nat) :
    let u := abortTask s t cause stream why
    TaskAborted s u t k cause ∧ (tileAt u t).passes = [] ∧
      RegsBut [regAddr (.tile t) 0x08, regAddr (.tile t) 0x18, regAddr (.tile t) 0x28, regAddr .reqtab 0x08, regAddr .mac 0x50]
        s u := by
  dsimp only
  rw [abortTask_fault hk hc]
  have ha := aborted_abortedAt s t cause stream k
  have hpasses := passes_abortedAt s t cause stream k
  have hentry := entry_abortedAt s t cause stream k
  generalize abortedAt s t cause stream k = a at *
  have hwork := faultNow_tileWork a k.entry
  have hregs := faultNow_regs a k.entry
  generalize faultNow a k.entry = u at *
  have htile : ∀ o, reg u (.tile t) o = reg a (.tile t) o := fun o =>
    hregs.reg _ _ (by simp [tile_high t o (a := regAddr .reqtab 0x08) (by decide),
      tile_high t o (a := regAddr .mac 0x50) (by decide)])
  have hcause : cause % 16 = cause := by omega
  refine ⟨⟨?_, ?_, ?_, ?_, ?_, ?_⟩, ?_, (ha.regs.mono (by simp)).trans (hregs.mono (by simp))⟩
  · rw [task_of_tileWork hwork, ha.task]
  · rw [run_of_tileWork hwork, ha.run]
  · unfold FlagUp
    rw [htile]
    exact ha.flag
  · unfold Counted
    rw [htile]
    exact ha.count
  · unfold fld
    rw [htile]
    exact ha.cause.trans hcause
  · unfold fld
    rw [htile]
    exact hentry
  · rw [passes_of_tileWork hwork, hpasses]

end Sys2Proof.Machine
end

section
namespace Sys2Proof.Machine

/-! ### Sets of numbers -/

theorem insertBy_last {α : Type} {le : α → α → Bool} {x : α} {l : List α} (h : ∀ y ∈ l, le x y = false) :
    insertBy le x l = l ++ [x] := by
  induction l with
  | nil => rfl
  | cons y l ih =>
    rw [insertBy, if_neg (by simp [h y List.mem_cons_self]), ih fun z hz => h z (List.mem_cons_of_mem _ hz), List.cons_append]

/-- Numbers counted upward are a set already. -/
theorem asSet_range (n : Nat) : asSet (List.range n) = List.range n := by
  induction n with
  | zero => rfl
  | succ n ih =>
    have hadd : addNat n (List.range n) = List.range n ++ [n] := by
      unfold addNat
      rw [if_neg (by simp), insertBy_last (by simp)]
    unfold asSet at ih ⊢
    rw [List.range_succ, List.foldl_append, ih, List.foldl_cons, List.foldl_nil, hadd]

/-! ### The checksum lines of the array

The operand of a checksum line is the weighted sum of the operands of the data lines, and the term of a PE is linear in each
operand, so that the accumulators of a checksum line are the weighted sums of those of the data lines (R96). -/

theorem foldl_add_eq_sum {α : Type} (f : α → Int) (l : List α) (c : Int) : l.foldl (fun a x => a + f x) c = c + (l.map f).sum := by
  induction l generalizing c with
  | nil => simp
  | cons x l ih => rw [List.foldl_cons, ih, List.map_cons, List.sum_cons, add_assoc]

theorem lineOperand_eq_sums (l : List (Nat × Int)) (v : Nat → Int) :
    lineOperand l v = ((l.map (·.2)).sum, (l.map fun x => x.2 * v x.1).sum) := by
  have h : ∀ acc : Int × Int, l.foldl (fun acc x => (acc.1 + x.2, acc.2 + x.2 * v x.1)) acc =
      (acc.1 + (l.map (·.2)).sum, acc.2 + (l.map fun x => x.2 * v x.1).sum) := by
    induction l with
    | nil => simp
    | cons x l ih => intro acc; simp [ih, add_assoc]
  unfold lineOperand
  rw [h]
  simp

theorem term_comm (p : MatmulP) (a b : Int × Int) : term p a b = term p b a := by
  unfold term
  dsimp only
  split
  · split <;> ring
  · ring

theorem term_zero (p : MatmulP) (a : Int × Int) : term p a (0, 0) = 0 := by simp [term]

theorem term_add_smul (p : MatmulP) (a b c : Int × Int) (w : Int) :
    term p a (w * b.1 + c.1, w * b.2 + c.2) = w * term p a b + term p a c := by
  unfold term
  dsimp only
  split
  · split <;> ring
  · ring

/-- The lines in use, each with its weight, as a checksum line takes them. -/
def weigh (used : Nat) (w : Nat → Int) : List (Nat × Int) := (List.range used).map fun j => (j, w j)

/-- A term with the operand of a checksum line is the weighted sum of the terms with the data lines' operands. -/
theorem term_weigh (p : MatmulP) (a : Int × Int) (used : Nat) (w v : Nat → Int) :
    term p a (lineOperand (weigh used w) v) = ((List.range used).map fun j => w j * term p a (1, v j)).sum := by
  rw [lineOperand_eq_sums, weigh]
  simp only [List.map_map, Function.comp_def]
  generalize List.range used = l
  induction l with
  | nil => exact term_zero p a
  | cons j l ih =>
    simp only [List.map_cons, List.sum_cons]
    rw [← ih, ← term_add_smul p a (1, v j), mul_one]

/-- The accumulator of a PE whose row and column take the operands given at each depth. -/
def accOf (p : MatmulP) (ks : List Nat) (a b : Nat → Int × Int) : Int := (ks.map fun k => term p (a k) (b k)).sum

theorem accOf_comm (p : MatmulP) (ks : List Nat) (a b : Nat → Int × Int) : accOf p ks a b = accOf p ks b a := by
  unfold accOf
  simp only [term_comm]

theorem accOf_weigh (p : MatmulP) (ks : List Nat) (a : Nat → Int × Int) (used : Nat) (w : Nat → Int) (v : Nat → Nat → Int) :
    ((List.range used).map fun j => w j * accOf p ks a fun k => (1, v k j)).sum =
      accOf p ks a fun k => lineOperand (weigh used w) (v k) := by
  induction ks with
  | nil => simp [accOf]
  | cons k ks ih =>
    simp only [accOf, List.map_cons, List.sum_cons, mul_add, List.sum_map_add] at ih ⊢
    rw [ih, term_weigh]

/-- The weights that the two checksum lines give the lines in use. -/
def lineWeight (second : Bool) (j : Nat) : Int := if second then (j : Int) + 1 else 1

/-- The number of a checksum line: the sum line or the weighted one. -/
def checkLine (p : MatmulP) (second : Bool) : Nat := if second then blockLines p + 1 else blockLines p

theorem lineWeights_check (p : MatmulP) (used : Nat) (second : Bool) :
    lineWeights (blockLines p) used (checkLine p second) = weigh used (lineWeight second) := by
  cases second <;> simp [lineWeights, checkLine, weigh, lineWeight]

theorem lineWeights_data {lines used r : Nat} (h : r < used) (hu : used ≤ lines) : lineWeights lines used r = [(r, 1)] := by
  unfold lineWeights
  rw [if_pos (by omega), if_pos h]

theorem lineOperand_single (r : Nat) (v : Nat → Int) : lineOperand [(r, 1)] v = (1, v r) := by simp [lineOperand]

/-- Exact accumulator of a PE by the operands of its row and column (R96). -/
theorem peAcc_eq (p : MatmulP) (q : Problem) (u : Int × Int) (r c : Nat) : peAcc p q u r c = accOf p (depths q)
    (fun k => lineOperand (lineWeights (blockLines p) q.m r) (aVal p q u k))
    (fun k => lineOperand (lineWeights (blockLines p) q.n c) (bVal p q u k)) := by
  unfold peAcc accOf
  dsimp only
  rw [foldl_add_eq_sum, zero_add]

/-- The checksum columns hold the weighted sums of the columns in use, in every row of PEs (R96, R97). -/
theorem peAcc_checkColumn (p : MatmulP) (q : Problem) (u : Int × Int) (r : Nat) (second : Bool) (hn : q.n ≤ blockLines p) :
    ((List.range q.n).map fun c => lineWeight second c * peAcc p q u r c).sum = peAcc p q u r (checkLine p second) := by
  rw [peAcc_eq, lineWeights_check, ← accOf_weigh]
  refine congrArg List.sum (List.map_congr_left fun c hc => ?_)
  rw [peAcc_eq, lineWeights_data (List.mem_range.mp hc) hn]
  simp only [lineOperand_single]

/-- The checksum rows hold the weighted sums of the rows in use, in every column of PEs (R96, R97). -/
theorem peAcc_checkRow (p : MatmulP) (q : Problem) (u : Int × Int) (c : Nat) (second : Bool) (hm : q.m ≤ blockLines p) :
    ((List.range q.m).map fun r => lineWeight second r * peAcc p q u r c).sum = peAcc p q u (checkLine p second) c := by
  rw [peAcc_eq, lineWeights_check, accOf_comm, ← accOf_weigh]
  refine congrArg List.sum (List.map_congr_left fun r hr => ?_)
  rw [peAcc_eq, lineWeights_data (List.mem_range.mp hr) hm, accOf_comm]
  simp only [lineOperand_single]

/-- Without an error every comparison of R97 holds. -/
theorem problemFails_nil (x : Pass) (i : Nat) (hm : (problemOf x.p x.a x.b x.c i).m ≤ blockLines x.p)
    (hn : (problemOf x.p x.a x.b x.c i).n ≤ blockLines x.p) : problemFails x [] i = false := by
  have hcol := peAcc_checkColumn x.p (problemOf x.p x.a x.b x.c i) (units x.p (problemOf x.p x.a x.b x.c i))
  have hrow := peAcc_checkRow x.p (problemOf x.p x.a x.b x.c i) (units x.p (problemOf x.p x.a x.b x.c i))
  have hcol1 := fun r => hcol r false hn
  have hcol2 := fun r => hcol r true hn
  have hrow1 := fun c => hrow c false hm
  have hrow2 := fun c => hrow c true hm
  simp only [lineWeight, checkLine, if_true, Bool.false_eq_true, if_false] at hcol1 hcol2 hrow1 hrow2
  unfold problemFails
  simp only [List.filter_nil, List.map_nil, List.append_nil, asSet_range, errAt, List.foldl_nil, add_zero,
    foldl_add_eq_sum, zero_add, hcol1, hcol2, hrow1, hrow2]
  simp

/-- The lines of a problem of a well-formed pass lie within its block of PEs (R87, R95). -/
theorem shapeOf_le {p : MatmulP} (h : shapesOk p = true) (i : Nat) : (shapeOf p i).1 ≤ p.m ∧ (shapeOf p i).2.1 ≤ p.n := by
  unfold shapeOf
  split
  · exact ⟨le_rfl, le_rfl⟩
  · rename_i hp
    simp only [shapesOk, Bool.or_eq_true, Bool.and_eq_true, decide_eq_true_eq, List.all_eq_true, hp, false_or] at h
    by_cases hi : i < p.shapes.length
    · obtain ⟨⟨⟨⟨⟨-, hm⟩, -⟩, hn⟩, -⟩, -⟩ := h.2 _ (List.getElem_mem hi)
      simp only [List.getD_eq_getElem _ _ hi]
      exact ⟨hm, hn⟩
    · simp [List.getD, List.getElem?_eq_none (Nat.le_of_not_lt hi)]

theorem matmulOk_lines {p : MatmulP} (h : matmulOk p = true) : p.m ≤ blockLines p ∧ p.n ≤ blockLines p := by
  have htop : (if decide (1 < p.problems) = true then 32 else 128) = blockLines p := by simp [blockLines]
  unfold matmulOk at h
  simp only [Bool.and_eq_true, decide_eq_true_eq] at h htop
  rw [htop] at h
  tauto

/-- A pass without an error has no array checksum fault (R97). -/
theorem checksumFails_nil {x : Pass} (hp : matmulOk x.p = true) (hs : shapesOk x.p = true) : checksumFails x [] = false := by
  obtain ⟨hm, hn⟩ := matmulOk_lines hp
  refine List.any_eq_false.mpr fun i _ => ?_
  obtain ⟨him, hin⟩ := shapeOf_le hs i
  simp [problemFails_nil x i (him.trans hm) (hin.trans hn)]

end Sys2Proof.Machine
end

section
namespace Sys2Proof.Machine

/-! ### Converted outputs counted and written -/

/-- The outputs of a conversion counted in the array's registers and written to a buffer (R92). -/
def countWrite (s : State) (t : Nat) (k : Task) (dst w : Nat) (out : List Conv) : State :=
  bufWrite (countConv s t out) t k dst 0 (packElems w (out.map (·.code)))

/-- The flags and counters of converted outputs in the array's block (R92, R104). -/
def convRegs (t : Nat) : List Nat := [regAddr (.array t) 0x08, regAddr (.array t) 0x30, regAddr (.array t) 0x38]

/-- A flag and a counter of the converted outputs touch their registers only. -/
theorem countFlag_regs (s : State) (t i : Nat) {off : Nat} (n : Nat) (h : off = 0x30 ∨ off = 0x38) :
    let u := bump (setFlag s (.array t) 0x08 i) (.array t) off n
    OnlyRegs s u ∧ RegsBut (convRegs t) s u := by
  refine ⟨(onlyRegs_setFlag s _ _ _).trans (onlyRegs_bump _ _ _ _), ?_⟩
  refine ((regsBut_setFlag s _ _ _).mono (by simp [convRegs])).trans ((regsBut_bump _ _ _ _).mono ?_)
  rcases h with rfl | rfl <;> simp [convRegs]

theorem countConv_regs (s : State) (t : Nat) (out : List Conv) :
    OnlyRegs s (countConv s t out) ∧ RegsBut (convRegs t) s (countConv s t out) := by
  have step : ∀ (s : State) (i n : Nat) {off : Nat}, (off = 0x30 ∨ off = 0x38) →
      let u := if n = 0 then s else bump (setFlag s (.array t) 0x08 i) (.array t) off n
      OnlyRegs s u ∧ RegsBut (convRegs t) s u := fun s i n off h => by
    dsimp only
    split
    · exact ⟨rfl, regsBut_refl _ s⟩
    · exact countFlag_regs s t i n h
  obtain ⟨hsat, hsatRegs⟩ := step s 3 (out.filter (·.saturated)).length (.inl rfl)
  obtain ⟨hspec, hspecRegs⟩ := step _ 4 (out.filter (·.special)).length (.inr rfl)
  exact ⟨hsat.trans hspec, hsatRegs.trans hspecRegs⟩

/-- What counting and writing converted outputs leaves: the destination holds the bytes, and beside the tile's SRAM only the
registers that count the outputs change. -/
structure Drained (t : Nat) (k : Task) (dst : Nat) (bs : List Byte) (s u : State) : Prop where
  tile : tileAt u t = { tileAt s t with sram := (tileAt u t).sram }
  others : ∀ i, i ≠ t → tileAt u i = tileAt s i
  wrote : WroteBuffer s u t k dst 0 bs
  regs : RegsBut (convRegs t) s u
  rest : u = { s with tiles := u.tiles, regs := u.regs }

theorem drained_countWrite (s : State) (t : Nat) (k : Task) (dst w : Nat) (out : List Conv) :
    Drained t k dst (packElems w (out.map (·.code))) s (countWrite s t k dst w out) := by
  obtain ⟨honly, hregs⟩ := countConv_regs s t out
  have himg : (countConv s t out).img = s.img := by rw [show countConv s t out = _ from honly]
  have htile : ∀ i, tileAt (countConv s t out) i = tileAt s i := honly.tileAt
  unfold countWrite
  generalize countConv s t out = v at *
  refine ⟨?_, fun i hi => ?_, (wroteBuffer_bufWrite v t k dst 0 _).of_start himg (by rw [htile]), hregs, ?_⟩
  · rw [← htile t]
    exact tileAt_bufWrite v t k dst 0 _
  · rw [tileAt_bufWrite_ne v _ _ _ _ hi, htile]
  · rw [show v = _ from honly]
    rfl

theorem Drained.reg {t : Nat} {k : Task} {dst : Nat} {bs : List Byte} {s u : State} (h : Drained t k dst bs s u) {off : Nat}
    (ho : off ≠ 0x08 ∧ off ≠ 0x30 ∧ off ≠ 0x38) : reg u (.array t) off = reg s (.array t) off :=
  h.regs.reg _ _ (by simp [convRegs, regAddr, ho])

/-! ### Faults of the array -/

/-- A fault of the array flagged and counted (R98, R104). -/
def countFault (s : State) (t flag : Nat) : State := bump (setFlag s (.array t) 0x08 flag) (.array t) 0x20 1

theorem flagUp_countFault (s : State) (t : Nat) {flag : Nat} (h : flag < 64) : FlagUp (countFault s t flag) (.array t) 0x08 flag := by
  unfold FlagUp countFault
  rw [(regsBut_bump _ _ _ _).reg _ _ (by simpa using regAddr_inj _ (by decide))]
  exact flagUp_setFlag _ _ _ _ h

theorem counted_countFault (s : State) (t flag : Nat) : Counted s (countFault s t flag) (.array t) 0x20 1 :=
  counted_of_reg (counted_bump _ _ _ _) ((regsBut_setFlag _ _ _ _).reg _ _ (by simpa using regAddr_inj _ (by decide)))

/-- A fault of the array that has been flagged and counted from state `u`, and at most located since, is a TILE detection
that keeps the tile's work (R92, R98). -/
theorem detectTile_countFault {s u m : State} {t flag mech : Nat} (hu : reg u (.array t) 0x20 = reg s (.array t) 0x20)
    (hm : RegsBut [regAddr (.array t) 0x28] (countFault u t flag) m) (hw : tileWork m = tileWork u) (hflag : flag < 64)
    (hmech : mech < 256) :
    let v := detectTile m mech t 0
    tileWork v = tileWork u ∧ FlagUp v (.array t) 0x08 flag ∧ Counted s v (.array t) 0x20 1 ∧
      ∃ e, v.belfry.last = some e ∧ e.mech = mech ∧ e.unit = t := by
  have hrec := recorded_detectTile m t 0 hmech
  have hreg : ∀ off, off ≠ 0x28 → reg (detectTile m mech t 0) (.array t) off = reg (countFault u t flag) (.array t) off :=
    fun off ho => by rw [hrec.reg (t := t) rfl, hm.reg _ _ (by simpa using regAddr_inj _ ho)]
  refine ⟨(detectTile_tileWork m mech t 0).trans hw, ?_, ?_, ?_⟩
  · unfold FlagUp
    rw [hreg _ (by decide)]
    exact flagUp_countFault u t hflag
  · unfold Counted
    rw [hreg _ (by decide), ← hu]
    exact counted_countFault u t flag
  · obtain ⟨e, he, hmech, hunit, -⟩ := hrec.last
    exact ⟨e, he, hmech, hunit⟩

/-- A checksum fault is flagged and counted, and ARRAY_CHK_LOC and the tile's known bad PEs may change besides (R98, R100). -/
theorem checksumFault_cases (s : State) (t : Nat) (p : MatmulP) (errs : List AccErr) :
    RegsBut [regAddr (.array t) 0x28] (countFault s t 1) (checksumFault s t p errs) ∧
      tileWork (checksumFault s t p errs) = tileWork s := by
  have hwork : tileWork (countFault s t 1) = tileWork s := tileWork_of_tiles rfl
  unfold checksumFault
  dsimp only
  rw [show bump (setFlag s (.array t) 0x08 1) (.array t) 0x20 1 = countFault s t 1 from rfl]
  generalize countFault s t 1 = c at hwork ⊢
  have located : ∀ w, tileWork (setReg c (.array t) 0x28 w) = tileWork s := fun w => (tileWork_of_tiles rfl).trans hwork
  split
  · split
    · refine ⟨RegsBut.of_regs (regsBut_setReg c _ _ _) (setTile_regs _ _ _), ?_⟩
      refine (tileWork_setTile ?_).trans (located _)
      rfl
    · exact ⟨regsBut_setReg c _ _ _, located _⟩
  · exact ⟨regsBut_setReg c _ _ _, located _⟩

/-! ### MATMUL -/

/-- The pass that a MATMUL begins, its operands captured from the buffers (R87, R93, R94). -/
def capturedPass (s : State) (t : Nat) (k : Task) (p : MatmulP) (b : Bufs) : Pass :=
  let read (src n : Nat) : List Byte := bufRead s t (tileAt s t) k src 0 n
  { p := p, bufs := b, a := read b.src0 (passBytes p).1, b := read b.src1 (passBytes p).2,
    c := if p.skip then read b.src2 (8 + 4 * leNat (read b.src2 4))
         else if 2 ≤ p.scaleMode then read b.src2 (elemBase p p.problems scaleSize) else [] }

/-- The metadata of every problem of a pass are valid (R83, R93, R94). -/
def metadataFit (q : Pass) : Bool := (List.range q.p.problems).all fun i => metaOk (problemOf q.p q.a q.b q.c i)

theorem execMatmul_completes (s : State) {t : Nat} {p : MatmulP} (b : Bufs) (indep : Bool) (ht : t < 640) (hp : matmulOk p = true)
    (hs : shapesOk p = true) : ∃ u, execMatmul t p b indep s = .next u := by
  unfold execMatmul
  rw [if_neg (by simp [hp, hs])]
  refine onTask_completes ht fun x k => ?_
  dsimp only
  repeat' split
  all_goals exact ⟨_, rfl⟩

/-- A MATMUL whose array is not enabled, or that waits for a pass in flight, changes nothing (R98, R102). -/
theorem execMatmul_waits {s : State} {t : Nat} {p : MatmulP} {b : Bufs} {indep : Bool} (ht : t < 640) (hp : matmulOk p = true)
    (hs : shapesOk p = true) (h : enabled s (.array t) = false ∨ passWaits (tileAt s t) b indep = true) :
    execMatmul t p b indep s = .next s := by
  unfold execMatmul
  rw [if_neg (by simp [hp, hs])]
  rcases onTask_cases (s := s) ht _ with hstay | ⟨k, -, hrun⟩
  · exact hstay
  · rw [hrun]
    dsimp only
    split
    · rfl
    · rename_i hen
      rw [if_pos (h.resolve_left hen)]

/-- A MATMUL that need not wait captures its operands, and begins its pass where their metadata fit (R87, R98, R102). -/
theorem execMatmul_ready {s : State} {t : Nat} {k : Task} {p : MatmulP} {b : Bufs} {indep : Bool} (hk : Ready s t k)
    (hp : matmulOk p = true) (hs : shapesOk p = true) (he : enabled s (.array t) = true)
    (hw : passWaits (tileAt s t) b indep = false) :
    execMatmul t p b indep s =
      if metadataFit (capturedPass s t k p b) = false then .next (abortTask (setFlag s (.array t) 0x08 6) t 3 0 0)
      else .next (advance (setTile s t { tileAt s t with passes := (tileAt s t).passes ++ [capturedPass s t k p b] }) t) := by
  unfold execMatmul
  rw [if_neg (by simp [hp, hs]), onTask_ready hk]
  dsimp only
  rw [if_neg (by simp [he]), if_neg (by simp [hw])]
  rfl

/-- Beginning a pass appends it to those in flight, and the task goes on. -/
theorem advance_pass {s : State} {t : Nat} {k : Task} (hk : (tileAt s t).task = some k) (q : Pass) :
    let u := advance (setTile s t { tileAt s t with passes := (tileAt s t).passes ++ [q] }) t
    u = { s with tiles := u.tiles } ∧ (∀ i, i ≠ t → tileAt u i = tileAt s i) ∧
      tileAt u t = { tileAt s t with task := some k.next, passes := (tileAt s t).passes ++ [q] } := by
  refine ⟨rfl, fun i hi => ?_, ?_⟩
  · rw [tileAt_advance_ne _ hi, tileAt_setTile_ne _ _ _ _ hi]
  · rw [tileAt_advance (k := k) (by rw [tileAt_setTile_same, hk]), tileAt_setTile_same]

/-- The registers of an array lie apart from its tile's own block. -/
theorem array_apart (t o : Nat) {off : Nat} (ho : o < 0x1000) : regAddr (.array t) off ≠ regAddr (.tile t) o := by
  simp only [regAddr, blkBase]
  omega

/-- The registers of an array lie above the device's blocks (R68). -/
theorem array_high (t off : Nat) {a : Nat} (ha : a < 0x10000000) : regAddr (.array t) off ≠ a := by
  simp only [regAddr, blkBase, tileBase]
  omega

/-- Metadata that do not fit set META_FAULT and abort the task with cause 0x3; no pass is left in the array (R98). -/
theorem metaFault_aborts {s : State} {t : Nat} {k : Task} (hk : (tileAt s t).task = some k) :
    let u := abortTask (setFlag s (.array t) 0x08 6) t 3 0 0
    (tileAt u t).passes = [] ∧ FlagUp u (.array t) 0x08 6 ∧ TaskAborted s u t k 3 := by
  obtain ⟨⟨htask, hrun, hflag, hcount, hcause, hentry⟩, hpasses, hregs⟩ := taskAborted_abortTask
    (s := setFlag s (.array t) 0x08 6) (cause := 3) hk (by decide) 0 0
  refine ⟨hpasses, ?_, htask, hrun, hflag, counted_of_reg hcount ?_, hcause, hentry⟩
  · unfold FlagUp
    rw [hregs.reg _ _ (by simp [array_apart t, array_high t 0x08 (a := regAddr .reqtab 0x08) (by decide),
      array_high t 0x08 (a := regAddr .mac 0x50) (by decide)])]
    exact flagUp_setFlag s _ _ _ (by decide)
  · exact (regsBut_setFlag s _ _ _).reg _ _ (by simpa using (array_apart t 0x28 (by decide)).symm)

theorem matmulBegins : Claims.MatmulBegins := by
  refine ⟨fun s t p b indep ht hp hs => ⟨execMatmul_completes s b indep ht hp hs, execMatmul_waits ht hp hs⟩,
    fun s t p b indep k hk hp hs he hw => ?_⟩
  have hexec := execMatmul_ready hk hp hs he hw
  intro read q fit
  refine ⟨fun hfit => ⟨_, hexec.trans (if_neg ?_), advance_pass hk.task q⟩,
    fun hfit => ⟨_, hexec.trans (if_pos hfit), metaFault_aborts hk.task⟩⟩
  rw [show metadataFit (capturedPass s t k p b) = true from hfit]
  decide

/-! ### The end of a pass -/

/-- The errors of a pass name accumulators of its PEs, checksum lines included (R96). -/
def errsFit (q : Pass) (errs : List AccErr) : Prop :=
  ∀ e ∈ errs, e.row < blockLines q.p + 2 ∧ e.col < blockLines q.p + 2 ∧ e.problem < q.p.problems

/-- The state once the oldest pass has left the array and its outputs are counted and written (R92, R98). -/
def drainedPass (s : State) (t : Nat) (k : Task) (q : Pass) (rest : List Pass) (errs : List AccErr) : State :=
  countWrite (setTile s t { tileAt s t with passes := rest }) t k q.bufs.dst (fmtWidth q.p.outFmt) (passOutputs s t q errs)

theorem execMatmulPassComplete_eq {s : State} {t : Nat} {k : Task} {q : Pass} {rest : List Pass} {errs : List AccErr}
    (ht : t < 640) (hk : (tileAt s t).task = some k) (hq : (tileAt s t).passes = q :: rest) (he : errsFit q errs) (laneBad : Bool) :
    execMatmulPassComplete t errs laneBad s =
      let u := drainedPass s t k q rest errs
      let u := if laneBad then laneFault u t else u
      if checksumFails q errs then .next (detectTile (checksumFault u t q.p errs) 0x01 t 0) else .next u := by
  have hfit : errs.any (fun e => decide (blockLines q.p + 2 ≤ e.row ∨ blockLines q.p + 2 ≤ e.col ∨ q.p.problems ≤ e.problem)) =
      false := List.any_eq_false.mpr fun e hmem => by
    obtain ⟨hrow, hcol, hproblem⟩ := he e hmem
    simp only [decide_eq_true_eq]
    omega
  unfold execMatmulPassComplete
  rw [if_neg (by omega)]
  dsimp only
  split
  · rename_i q' rest' k' hq' hk'
    obtain ⟨rfl, rfl⟩ := List.cons.inj (hq.symm.trans hq')
    obtain rfl := Option.some.inj (hk.symm.trans hk')
    rw [if_neg (ne_true_of_eq_false hfit)]
    rfl
  · rename_i hnone
    exact absurd hk (hnone q rest k hq)

theorem drained_drainedPass (s : State) (t : Nat) (k : Task) (q : Pass) (rest : List Pass) (errs : List AccErr) :
    Drained t k q.bufs.dst (packElems (fmtWidth q.p.outFmt) ((passOutputs s t q errs).map (·.code)))
      (setTile s t { tileAt s t with passes := rest }) (drainedPass s t k q rest errs) := drained_countWrite _ t k _ _ _

/-- The outputs of the pass lie in its destination, seen from before its end. -/
theorem wrote_drainedPass (s : State) (t : Nat) (k : Task) (q : Pass) (rest : List Pass) (errs : List AccErr) :
    WroteBuffer s (drainedPass s t k q rest errs) t k q.bufs.dst 0
      (packElems (fmtWidth q.p.outFmt) ((passOutputs s t q errs).map (·.code))) :=
  (drained_drainedPass s t k q rest errs).wrote.of_start rfl (by rw [tileAt_setTile_same])

theorem tileAt_drainedPass (s : State) (t : Nat) (k : Task) (q : Pass) (rest : List Pass) (errs : List AccErr) :
    tileAt (drainedPass s t k q rest errs) t =
      { tileAt s t with passes := rest, sram := (tileAt (drainedPass s t k q rest errs) t).sram } := by
  have h := (drained_drainedPass s t k q rest errs).tile
  rwa [tileAt_setTile_same] at h

theorem matmulPassCompletes : Claims.MatmulPassCompletes := by
  refine ⟨fun s t errs laneBad ht hq => ?_, fun s t k q rest ht hk hq =>
    ⟨fun errs laneBad he => ?_, fun errs he hfails => ?_, fun hp hs => ?_⟩⟩
  · show execMatmulPassComplete t errs laneBad s = _
    unfold execMatmulPassComplete
    rw [if_neg (by omega)]
    simp only [hq]
  · show ∃ u, execMatmulPassComplete t errs laneBad s = .next u
    rw [execMatmulPassComplete_eq ht hk hq he]
    dsimp only
    cases checksumFails q errs
    · exact ⟨_, rfl⟩
    · exact ⟨_, rfl⟩
  · have hdoes : execMatmulPassComplete t errs false s =
        .next (detectTile (checksumFault (drainedPass s t k q rest errs) t q.p errs) 0x01 t 0) := by
      rw [execMatmulPassComplete_eq ht hk hq he]
      exact if_pos hfails
    have hdrained := drained_drainedPass s t k q rest errs
    have hwrote := wrote_drainedPass s t k q rest errs
    have htile := tileAt_drainedPass s t k q rest errs
    have hcount : reg (drainedPass s t k q rest errs) (.array t) 0x20 = reg s (.array t) 0x20 := hdrained.reg (by decide)
    generalize drainedPass s t k q rest errs = u at *
    obtain ⟨hchk, hchkWork⟩ := checksumFault_cases u t q.p errs
    obtain ⟨hwork, hflag, hcounted, hlast⟩ := detectTile_countFault (mech := 0x01) hcount hchk hchkWork (by decide) (by decide)
    refine ⟨_, hdoes, hflag, hcounted, hlast, ?_, ?_, hwrote.of_sram (sram_of_tileWork hwork t)⟩
    · rw [task_of_tileWork hwork, htile, hk]
    · rw [passes_of_tileWork hwork, htile]
  · have hdrained := drained_drainedPass s t k q rest []
    refine ⟨drainedPass s t k q rest [], ?_, tileAt_drainedPass s t k q rest [], fun i hi => ?_, wrote_drainedPass s t k q rest [],
      hdrained.regs, hdrained.rest⟩
    · show execMatmulPassComplete t [] false s = _
      rw [execMatmulPassComplete_eq ht hk hq (by simp [errsFit])]
      exact if_neg (by simp [checksumFails_nil hp hs])
    · rw [hdrained.others i hi, tileAt_setTile_ne _ _ _ _ hi]

/-! ### QUANTISE -/

/-- The state once a QUANTISE has counted and written its outputs and its task goes on (R85). -/
def quantised (s : State) (t : Nat) (k : Task) (p : QuantP) (b : Bufs) : State :=
  advance (countWrite s t k b.dst (fmtWidth p.outFmt)
    (quantOutputs p (bufRead s t (tileAt s t) k b.src0 0 (elemBytes (fmtWidth p.inFmt) p.elems)))) t

theorem execQuantise_completes (s : State) {t : Nat} {p : QuantP} (b : Bufs) (laneBad : Bool) (ht : t < 640)
    (hp : quantOk p = true) : ∃ u, execQuantise t p b laneBad s = .next u := by
  unfold execQuantise
  rw [if_neg (by simp [hp])]
  exact onTask_completes ht fun _ _ => ⟨_, rfl⟩

theorem execQuantise_ready {s : State} {t : Nat} {k : Task} {p : QuantP} (hk : Ready s t k) (hp : quantOk p = true) (b : Bufs)
    (laneBad : Bool) : execQuantise t p b laneBad s =
      .next (if laneBad then laneFault (quantised s t k p b) t else quantised s t k p b) := by
  unfold execQuantise
  rw [if_neg (by simp [hp]), onTask_ready hk]
  rfl

theorem quantiseWrites : Claims.QuantiseWrites := by
  refine ⟨fun s t p b bad ht hp => execQuantise_completes s b bad ht hp, fun s t p b k hk hp => ?_⟩
  have hdoes := execQuantise_ready hk hp b
  have hdrained := drained_countWrite s t k b.dst (fmtWidth p.outFmt)
    (quantOutputs p (bufRead s t (tileAt s t) k b.src0 0 (elemBytes (fmtWidth p.inFmt) p.elems)))
  unfold quantised at hdoes
  generalize countWrite _ _ _ _ _ _ = w at *
  have hwk : (tileAt w t).task = some k := by rw [hdrained.tile, hk.task]
  have htile : tileAt (advance w t) t = { tileAt w t with task := some k.next } := tileAt_advance hwk
  have hregs : (advance w t).regs = w.regs := rfl
  have hcount : reg (advance w t) (.array t) 0x20 = reg s (.array t) 0x20 :=
    (reg_of_regs hregs _ _).trans (hdrained.reg (by decide))
  obtain ⟨hwork, hflag, hcounted, hlast⟩ := detectTile_countFault (flag := 2) (mech := 0x02) hcount
    (regsBut_refl _ (countFault (advance w t) t 2)) (tileWork_of_tiles rfl) (by decide) (by decide)
  refine ⟨advance w t, hdoes false, ⟨?_, fun i hi => ?_⟩, hdrained.wrote.of_sram (sram_advance w t), hdrained.regs, ?_,
    laneFault (advance w t) t, hdoes true, sram_of_tileWork hwork t, ?_, hflag, hcounted, hlast⟩
  · rw [sram_advance, htile, hdrained.tile]
  · rw [tileAt_advance_ne _ hi, hdrained.others i hi]
  · show { w with tiles := (advance w t).tiles } = _
    rw [hdrained.rest]
    rfl
  · refine (task_of_tileWork hwork t).trans ?_
    rw [htile]

end Sys2Proof.Machine
end

section
namespace Sys2Proof.Machine

/-! ### The scale registers -/

/-- Offset of the scale register that holds entry `j` (R84). -/
def scaleOff (j : Nat) : Nat := 0x4000 + 8 * (j / 2)

/-- Word of scale entry `j` of a tile: two entries to a register (R84). -/
def scaleWord (s : State) (t j : Nat) : Nat := fld s (.scale t) (scaleOff j) (32 * (j % 2)) 32

/-- Scale entry `j` of a tile written. -/
def setScaleWord (s : State) (t j v : Nat) : State := setFld s (.scale t) (scaleOff j) (32 * (j % 2)) 32 v

theorem scaleWord_set_same (s : State) (t j v : Nat) : scaleWord (setScaleWord s t j v) t j = v % 2 ^ 32 := by
  unfold scaleWord setScaleWord fld setFld
  rw [reg_setReg_same]
  exact bits_putBits_same _ _ _ _ (by omega)

theorem scaleWord_set_ne (s : State) (t v : Nat) {i j : Nat} (h : i ≠ j) :
    scaleWord (setScaleWord s t j v) t i = scaleWord s t i := by
  unfold scaleWord setScaleWord fld
  by_cases hoff : scaleOff i = scaleOff j
  · have hpair : i / 2 = j / 2 := by unfold scaleOff at hoff; omega
    unfold setFld
    rw [hoff, reg_setReg_same]
    exact bits_putBits_apart _ _ _ _ _ _ (by omega) (by omega)
  · rw [(regsBut_setFld s (.scale t) (scaleOff j) _ _ v).reg _ _ (by simpa using regAddr_inj _ hoff)]

/-- Scale entries written one after another, each a pair of entry and word. -/
def setScaleWords (s : State) (t : Nat) (l : List (Nat × Nat)) : State := l.foldl (fun s q => setScaleWord s t q.1 q.2) s

theorem setScaleWords_cons (s : State) (t : Nat) (q : Nat × Nat) (l : List (Nat × Nat)) :
    setScaleWords s t (q :: l) = setScaleWords (setScaleWord s t q.1 q.2) t l := by
  unfold setScaleWords
  rw [List.foldl_cons]

theorem scaleWord_setScaleWords_ne {t i : Nat} {l : List (Nat × Nat)} (s : State) (h : i ∉ l.map (·.1)) :
    scaleWord (setScaleWords s t l) t i = scaleWord s t i := by
  unfold setScaleWords
  refine List.foldlRecOn (motive := fun u => scaleWord u t i = scaleWord s t i) l _ rfl fun u hu q hq => ?_
  rw [scaleWord_set_ne, hu]
  exact fun hi => h (hi ▸ List.mem_map_of_mem hq)

/-- Every entry of a list without repeats holds its word. -/
theorem scaleWord_setScaleWords_mem {t i v : Nat} {l : List (Nat × Nat)} (s : State) (hl : (l.map (·.1)).Nodup) (hv : (i, v) ∈ l) :
    scaleWord (setScaleWords s t l) t i = v % 2 ^ 32 := by
  induction l generalizing s with
  | nil => cases hv
  | cons q l ih =>
    obtain ⟨hq, hl⟩ := List.nodup_cons.mp hl
    rw [setScaleWords_cons]
    rcases List.mem_cons.mp hv with rfl | hv
    · rw [scaleWord_setScaleWords_ne _ hq, scaleWord_set_same]
    · exact ih _ hl hv

theorem onlyRegs_setScaleWords (s : State) (t : Nat) (l : List (Nat × Nat)) : OnlyRegs s (setScaleWords s t l) :=
  List.foldlRecOn (motive := OnlyRegs s) l _ rfl fun _ hu _ _ => hu.trans (onlyRegs_setReg _ _ _ _)

/-- Scale entries lie in the 16 KiB of the scale registers (R68, R84). -/
theorem regs_setScaleWords {s : State} {t : Nat} {l : List (Nat × Nat)} (h : ∀ q ∈ l, q.1 < 4096) {a : Nat}
    (ha : a < regAddr (.scale t) 0x4000 ∨ regAddr (.scale t) 0x8000 ≤ a) :
    tget (setScaleWords s t l).regs a = tget s.regs a := by
  refine List.foldlRecOn (motive := fun (u : State) => tget u.regs a = tget s.regs a) l _ rfl fun u hu q hq => ?_
  have hlt := h q hq
  refine (regsBut_setFld u (.scale t) (scaleOff q.1) _ _ q.2 a ?_).trans hu
  simp only [regAddr, scaleOff, List.mem_singleton] at ha ⊢
  omega

/-! ### SCALE_LOAD -/

theorem leNat_lt (bs : List Byte) : leNat bs < 256 ^ bs.length := by
  induction bs with
  | nil => simp [leNat]
  | cons b bs ih =>
    have hb : b.toNat < 256 := b.isLt
    rw [leNat, List.length_cons, pow_succ]
    omega

theorem length_unpackWords (k n : Nat) (bs : List Byte) : (unpackWords k n bs).length = n := by
  induction n generalizing bs with
  | zero => rfl
  | succ n ih => rw [unpackWords, List.length_cons, ih]

theorem unpackWords_lt {k n v : Nat} {bs : List Byte} (h : v ∈ unpackWords k n bs) : v < 256 ^ k := by
  induction n generalizing bs with
  | zero => cases h
  | succ n ih =>
    rw [unpackWords] at h
    rcases List.mem_cons.mp h with rfl | h
    · exact (leNat_lt _).trans_le (Nat.pow_le_pow_right (by decide) (List.length_take_le _ _))
    · exact ih h

/-- An operand of 32-bit elements is the list of its words. -/
theorem operand_words (s : State) (t : Nat) (k : Task) (src n i : Nat) :
    operand s t k src 32 n i = (unpackWords 4 n (bufRead s t (tileAt s t) k src 0 (4 * n))).getD i 0 := by
  have hbytes : elemBytes 32 n = 4 * n := by unfold elemBytes ceilDiv; omega
  unfold operand elems
  rw [hbytes, if_neg (by decide)]

/-- The entries that a SCALE_LOAD writes, with their words (R84, R111). -/
def scaleLoads (s : State) (t base n : Nat) (b : Bufs) (k : Task) : List (Nat × Nat) :=
  ((List.range n).zip (unpackWords 4 n (bufRead s t (tileAt s t) k b.src0 0 (4 * n)))).map fun q => (base + q.1, q.2)

theorem fst_scaleLoads (s : State) (t base n : Nat) (b : Bufs) (k : Task) :
    (scaleLoads s t base n b k).map (·.1) = (List.range n).map (base + ·) := by
  unfold scaleLoads
  rw [List.map_map, show ((·.1) ∘ fun q : Nat × Nat => (base + q.1, q.2)) = (base + ·) ∘ Prod.fst from rfl, ← List.map_map,
    List.map_fst_zip (by simp [length_unpackWords])]

theorem mem_scaleLoads {s : State} {t base n : Nat} {b : Bufs} {k : Task} {i : Nat} (hi : i < n) :
    (base + i, operand s t k b.src0 32 n i) ∈ scaleLoads s t base n b k := by
  have hlen : i < (unpackWords 4 n (bufRead s t (tileAt s t) k b.src0 0 (4 * n))).length := by rwa [length_unpackWords]
  rw [operand_words, List.getD_eq_getElem _ _ hlen]
  refine List.mem_map.mpr ⟨(i, _), List.mem_iff_getElem.mpr ⟨i, by simp [length_unpackWords, hi], ?_⟩, rfl⟩
  simp

theorem operand_words_lt {s : State} {t : Nat} {k : Task} {src n i : Nat} (hi : i < n) : operand s t k src 32 n i < 2 ^ 32 := by
  rw [operand_words, List.getD_eq_getElem _ _ (by rwa [length_unpackWords])]
  exact unpackWords_lt (List.getElem_mem _)

theorem execScaleLoad_completes (s : State) {t base n : Nat} (b : Bufs) (ht : t < 640) (h : base + n ≤ 4096) :
    ∃ u, execScaleLoad t base n b s = .next u := by
  unfold execScaleLoad
  rw [if_neg (by omega)]
  exact onTask_completes ht fun _ _ => ⟨_, rfl⟩

theorem execScaleLoad_ready {s : State} {t base n : Nat} {k : Task} (hk : Ready s t k) (b : Bufs) (h : base + n ≤ 4096) :
    execScaleLoad t base n b s = .next (advance (setScaleWords s t (scaleLoads s t base n b k)) t) := by
  unfold execScaleLoad
  rw [if_neg (by omega), onTask_ready hk]
  unfold setScaleWords scaleLoads
  rw [List.foldl_map]
  rfl

theorem scaleLoadWrites : Claims.ScaleLoadWrites := by
  refine ⟨fun s t base n b ht h => execScaleLoad_completes s b ht h, fun s t base n b k hk h => ?_⟩
  have hdoes := execScaleLoad_ready hk b h
  have honly := onlyRegs_setScaleWords s t (scaleLoads s t base n b k)
  have hfst := fst_scaleLoads s t base n b k
  have hload : ∀ i, i < n → scaleWord (setScaleWords s t (scaleLoads s t base n b k)) t (base + i) =
      operand s t k b.src0 32 n i := fun i hi => by
    rw [scaleWord_setScaleWords_mem s ?_ (mem_scaleLoads hi), Nat.mod_eq_of_lt (operand_words_lt hi)]
    rw [hfst]
    exact List.nodup_range.map fun _ _ => Nat.add_left_cancel
  have hkeep : ∀ j, (j < base ∨ base + n ≤ j) → scaleWord (setScaleWords s t (scaleLoads s t base n b k)) t j = scaleWord s t j :=
    fun j hj => scaleWord_setScaleWords_ne s (by
      rw [hfst, List.mem_map]
      rintro ⟨i, hi, rfl⟩
      have := List.mem_range.mp hi
      omega)
  have hbelow : ∀ q ∈ scaleLoads s t base n b k, q.1 < 4096 := fun q hq => by
    have hmem : q.1 ∈ (List.range n).map (base + ·) := hfst ▸ List.mem_map_of_mem hq
    obtain ⟨i, hi, he⟩ := List.mem_map.mp hmem
    have := List.mem_range.mp hi
    omega
  have hregs := fun a => regs_setScaleWords (s := s) (t := t) (a := a) hbelow
  have htile : ∀ i, tileAt (setScaleWords s t (scaleLoads s t base n b k)) i = tileAt s i := honly.tileAt
  generalize setScaleWords s t (scaleLoads s t base n b k) = v at *
  have hnext : tileAt (advance v t) t = { tileAt s t with task := some k.next } := by
    rw [tileAt_advance (k := k) (by rw [htile, hk.task]), htile]
  refine ⟨advance v t, hdoes, ⟨?_, fun i hi => ?_⟩, ?_, ?_, hload, fun j _ hj => hkeep j hj, hregs⟩
  · rw [hnext]
  · rw [tileAt_advance_ne v hi, htile]
  · rw [hnext]
  · show { v with tiles := (advance v t).tiles } = _
    rw [show v = _ from honly]
    rfl

/-- Settles O18: a pass captures its operands and drains to its outputs, the checksum lines being linear in the data lines, so
that without an error none differs; a fault of the array is a TILE detection that keeps the tile's work; QUANTISE and
SCALE_LOAD write what they read. -/
theorem matrixOperators : Obligations.MatrixOperators := ⟨matmulBegins, matmulPassCompletes, quantiseWrites, scaleLoadWrites⟩

end Sys2Proof.Machine
end

section
namespace Sys2Proof.Machine

/-! ### Changing a tile's task -/

theorem tileAt_setTask {s : State} {t : Nat} {k : Task} (hk : (tileAt s t).task = some k) (f : Task → Task) :
    tileAt (setTask s t f) t = { tileAt s t with task := some (f k) } := by
  unfold setTask
  rw [tileAt_setTile_same, hk]
  rfl

theorem onlyTask_setTask {s : State} {t : Nat} {k : Task} (hk : (tileAt s t).task = some k) (f : Task → Task) :
    OnlyTask s (setTask s t f) t (f k) :=
  ⟨tileAt_setTask hk f, fun _ hi => tileAt_setTile_ne _ _ _ _ hi, rfl⟩

theorem onlyTask_advance {s : State} {t : Nat} {k : Task} (hk : (tileAt s t).task = some k) : OnlyTask s (advance s t) t k.next :=
  onlyTask_setTask hk _

theorem task_of_onlyTask {s u : State} {t : Nat} {k : Task} (h : OnlyTask s u t k) : (tileAt u t).task = some k := by rw [h.1]

theorem onlyTask_trans {s u v : State} {t : Nat} {k l : Task} (h : OnlyTask s u t k) (g : OnlyTask u v t l) :
    OnlyTask s v t l := by
  obtain ⟨htile, hother, hrest⟩ := h
  obtain ⟨gtile, gother, grest⟩ := g
  refine ⟨?_, fun i hi => (gother i hi).trans (hother i hi), ?_⟩
  · rw [gtile, htile]
  · rw [grest, hrest]

/-- A task done is complete, its tile idle without passes, and the completion counted (R135). -/
theorem taskEnds_taskDone {s : State} {t : Nat} {k : Task} (hk : (tileAt s t).task = some k) : TaskEnds s (taskDone s t) t k := by
  obtain ⟨htile, hother, -⟩ := onlyTask_setTask hk fun k => { k with complete := true }
  unfold taskDone
  extract_lets u x
  have hb := onlyRegs_bump (setTile u t { x with run := .idle, passes := [] }) (.tile t) 0x20 1
  refine ⟨?_, fun i hi => ?_, counted_of_reg (counted_bump _ _ _ _) rfl, regsBut_bump (setTile u t _) _ _ _, rfl⟩
  · rw [hb.tileAt, tileAt_setTile_same, show x = _ from htile]
  · rw [hb.tileAt, tileAt_setTile_ne _ _ _ _ hi]
    exact hother i hi

/-! ### LOOP, END_LOOP, EXIT_IF and EMIT -/

section
variable {s : State} {t : Nat} {k : Task}

theorem loop_completes (s : State) {trip : Nat} (ht : t < 640) (h1 : 1 ≤ trip) (h2 : trip ≤ 16777216) :
    Completes (.loop t trip) s := by
  show ∃ u, execLoop t trip s = .next u
  unfold execLoop
  rw [if_neg (by omega)]
  refine onTask_completes ht fun x k => ?_
  split <;> exact ⟨_, rfl⟩

theorem endLoop_completes (s : State) (ht : t < 640) : Completes (.endLoop t) s := by
  show ∃ u, execEndLoop t s = .next u
  refine onTask_completes ht fun x k => ?_
  split
  · exact ⟨_, rfl⟩
  · split <;> exact ⟨_, rfl⟩

theorem emit_completes (s : State) (bytes : Nat) (b : Bufs) (ht : t < 640) : Completes (.emit t bytes b) s := by
  show ∃ u, execEmit t bytes b s = .next u
  exact onTask_completes ht fun x k => ⟨_, rfl⟩

theorem exitIf_completes (s : State) {test fmt scope : Nat} (w : Word) (b : Bufs) (ht : t < 640) (h1 : test < 4)
    (h2 : scope < 2) (h3 : fmtWidth fmt ≠ 0) : Completes (.exitIf t test fmt scope w b) s := by
  show ∃ u, execExitIf t test fmt scope w b s = .next u
  unfold execExitIf
  rw [if_neg (by omega)]
  refine onTask_completes ht fun x k => ?_
  dsimp only
  repeat' split
  all_goals exact ⟨_, rfl⟩

theorem loop_enters {trip : Nat} (hk : Ready s t k) (h1 : 1 ≤ trip) (h2 : trip ≤ 16777216) (hl : k.loops.length < 4) :
    ∃ u, Does (.loop t trip) s u ∧ OnlyTask s u t { k with pos := k.pos + 1, loops := (k.pos + 1, trip) :: k.loops } := by
  refine ⟨_, ?_, onlyTask_setTask hk.task fun k => { k with pos := k.pos + 1, loops := (k.pos + 1, trip) :: k.loops }⟩
  show execLoop t trip s = _
  unfold execLoop
  rw [if_neg (by omega), onTask_ready hk]
  exact if_neg (by omega)

/-- END_LOOP repeats the body of the innermost LOOP while passes are left, and then goes on (R111). -/
theorem endLoop_repeats {body left : Nat} {rest : List (Nat × Nat)} (hk : Ready s t k) (hl : k.loops = (body, left) :: rest) :
    ∃ u, Does (.endLoop t) s u ∧ (1 < left → OnlyTask s u t { k with pos := body, loops := (body, left - 1) :: rest }) ∧
      (left ≤ 1 → OnlyTask s u t { k with pos := k.pos + 1, loops := rest }) := by
  unfold Does
  show ∃ u, execEndLoop t s = _ ∧ _
  unfold execEndLoop
  rw [onTask_ready hk]
  simp only [hl]
  by_cases h : 1 < left
  · rw [if_pos h]
    exact ⟨_, rfl, fun _ => onlyTask_setTask hk.task fun k => { k with pos := body, loops := (body, left - 1) :: rest },
      fun hn => absurd h (by omega)⟩
  · rw [if_neg h]
    exact ⟨_, rfl, fun hn => absurd hn h, fun _ => onlyTask_setTask hk.task fun k => { k with pos := k.pos + 1, loops := rest }⟩

theorem emit_keeps (hk : Ready s t k) (bytes : Nat) (b : Bufs) : ∃ u, Does (.emit t bytes b) s u ∧
    OnlyTask s u t { k.next with frags := k.frags ++ [bufRead s t (tileAt s t) k b.src0 0 bytes] } := by
  have hset := onlyTask_setTask hk.task fun j => { j with frags := j.frags ++ [bufRead s t (tileAt s t) k b.src0 0 bytes] }
  refine ⟨_, ?_, onlyTask_trans hset (onlyTask_advance (task_of_onlyTask hset))⟩
  show execEmit t bytes b s = _
  exact onTask_ready hk _

/-- The scalar test of EXIT_IF on the first element of SRC0 (R113). -/
def exitHolds (s : State) (t : Nat) (k : Task) (b : Bufs) (test fmt : Nat) (threshold : Word) : Bool :=
  exitTest test (numOf fmt (operand s t k b.src0 (fmtWidth fmt) 1 0)) (numOf fmt (threshold.toNat % 2 ^ fmtWidth fmt))

/-- The position at which a program has no record left (R110). -/
def programEnd (s : State) (k : Task) : Nat := ((programOf s k).map (·.ops.length)).getD (k.pos + 1)

/-- The position after the END_LOOP of the innermost LOOP (R113). -/
def loopExit (s : State) (k : Task) : Nat :=
  ((programOf s k).map fun p => afterLoop (p.ops.drop (k.pos + 1)) 0 (k.pos + 1)).getD (k.pos + 1)

/-- EXIT_IF on a ready task: whether its test holds decides, and then its scope (R113). -/
theorem exitIf_ready (hk : Ready s t k) {test fmt scope : Nat} (w : Word) (b : Bufs) (h1 : test < 4) (h2 : scope < 2)
    (h3 : fmtWidth fmt ≠ 0) : exec (.exitIf t test fmt scope w b) s =
      if exitHolds s t k b test fmt w = false then .next (advance s t)
      else if scope = 1 then
        if taskSettled (tileAt s t) k then .next (taskDone s t)
        else .next (setTask s t fun j => { j with pos := programEnd s j, loops := [] })
      else match k.loops with
        | [] => .next s
        | _ :: rest => .next (setTask s t fun j => { j with pos := loopExit s k, loops := rest }) := by
  have hpos : loopExit s k = match programOf s k with
      | some p => afterLoop (p.ops.drop (k.pos + 1)) 0 (k.pos + 1)
      | none => k.pos + 1 := by
    unfold loopExit
    cases programOf s k <;> rfl
  rw [hpos]
  show execExitIf t test fmt scope w b s = _
  unfold execExitIf
  rw [if_neg (by omega), onTask_ready hk]
  rfl

end

theorem controlRecords : Claims.ControlRecords := by
  refine ⟨fun s t n bytes b w test fmt scope ht h1 h2 => ⟨loop_completes s ht h1 h2, endLoop_completes s ht,
      emit_completes s bytes b ht, fun ht4 hs hf => exitIf_completes s w b ht ht4 hs hf⟩,
    fun s t trip k hk h1 h2 hl => loop_enters hk h1 h2 hl, fun s t k body left rest hk hl => endLoop_repeats hk hl,
    fun s t test fmt scope w b k hk h1 h2 h3 => ?_, fun s t bytes b k hk => emit_keeps hk bytes b⟩
  have hexec := exitIf_ready hk w b h1 h2 h3
  refine ⟨fun hno => ?_, fun hyes h0 l rest hl => ?_, fun hyes h1 => ?_⟩
  · exact ⟨_, hexec.trans (if_pos hno), onlyTask_advance hk.task⟩
  · refine ⟨_, ?_, onlyTask_setTask hk.task fun j => { j with pos := loopExit s k, loops := rest }⟩
    rw [Does, hexec, if_neg (by simp [exitHolds, hyes]), if_neg (by omega), hl]
  · rw [if_neg (by simp [exitHolds, hyes]), if_pos h1] at hexec
    by_cases hset : taskSettled (tileAt s t) k = true
    · exact ⟨_, hexec.trans (if_pos hset), fun _ => taskEnds_taskDone hk.task, fun hn => absurd hset (by simp [hn])⟩
    · exact ⟨_, hexec.trans (if_neg hset), fun hy => absurd hy hset,
        fun _ => onlyTask_setTask hk.task fun j => { j with pos := programEnd s j, loops := [] }⟩

/-! ### The scale registers of a context switch -/

/-- Entries kept by their key: a key kept reads as before, any other reads as unlisted. -/
theorem tget_filter_key {α : Type} (m : Table α) (p : Nat → Bool) (k : Nat) :
    tget (m.filter fun e => p e.1) k = if p k then tget m k else none := by
  induction m with
  | nil => simp
  | cons e m ih =>
    obtain ⟨j, v⟩ := e
    by_cases hj : k = j
    · subst hj
      cases hp : p k <;> simp [tget, hp, ih]
    · cases hp : p j <;> simp [tget, hp, hj, ih]

theorem key_ge_of_keysAbove {α : Type} {m : Table α} {lo : Nat} (h : keysAbove lo m = true) {e : Nat × α} (he : e ∈ m) : lo ≤ e.1 := by
  induction m generalizing lo with
  | nil => cases he
  | cons f m ih =>
    simp only [keysAbove, Bool.and_eq_true, decide_eq_true_eq] at h
    rcases List.mem_cons.mp he with rfl | he
    · exact h.1
    · have := ih h.2 he
      omega

/-- Every scale register is 0 after reset (R84). -/
theorem regReset_scale (t off : Nat) : regReset (.scale t) off = 0 := by
  unfold regReset
  cases h : regDesc (.scale t) off with
  | none => rfl
  | some d =>
    have hd : d ∈ scaleRegs := List.mem_of_find?_eq_some h
    have hall : ∀ d ∈ scaleRegs, d.reset = 0 := by decide
    exact hall d hd

/-- The saved words put back one after another. -/
def restoreScales (s : State) (t : Nat) (l : Table Word) : State := l.foldl (fun s e => setReg s (.scale t) (0x4000 + e.1) e.2) s

/-- The scale entries of a tile cleared (R138). -/
def clearScales (s : State) (t : Nat) : State :=
  { s with regs := s.regs.filter fun e =>
      decide (e.1 < regAddr (.scale t) 0x4000) || decide (regAddr (.scale t) 0x4000 + 16384 ≤ e.1) }

theorem putScales_eq (s : State) (t : Nat) (l : Table Word) : putScales s t l = restoreScales (clearScales s t) t l := rfl

theorem onlyRegs_restoreScales (s : State) (t : Nat) (l : Table Word) : OnlyRegs s (restoreScales s t l) :=
  List.foldlRecOn (motive := OnlyRegs s) l _ rfl fun _ hu _ _ => hu.trans (onlyRegs_setReg _ _ _ _)

theorem onlyRegs_putScales (s : State) (t : Nat) (l : Table Word) : OnlyRegs s (putScales s t l) :=
  OnlyRegs.trans (show OnlyRegs s (clearScales s t) from rfl) (onlyRegs_restoreScales _ t l)

theorem reg_clearScales (s : State) (t : Nat) {o : Nat} (ho : o < 16384) : reg (clearScales s t) (.scale t) (0x4000 + o) = 0 := by
  have hk : regAddr (.scale t) (0x4000 + o) = regAddr (.scale t) 0x4000 + o := by simp only [regAddr]; omega
  unfold reg clearScales tgetD
  rw [regReset_scale, tget_filter_key s.regs
    (fun a => decide (a < regAddr (.scale t) 0x4000) || decide (regAddr (.scale t) 0x4000 + 16384 ≤ a)), if_neg]
  · rfl
  · rw [hk]
    simp
    omega

theorem tget_clearScales (s : State) (t : Nat) {a : Nat} (ha : a < regAddr (.scale t) 0x4000 ∨ regAddr (.scale t) 0x8000 ≤ a) :
    tget (clearScales s t).regs a = tget s.regs a := by
  have hk : regAddr (.scale t) 0x8000 = regAddr (.scale t) 0x4000 + 16384 := by unfold regAddr; omega
  refine (tget_filter_key s.regs
    (fun a => decide (a < regAddr (.scale t) 0x4000) || decide (regAddr (.scale t) 0x4000 + 16384 ≤ a)) a).trans (if_pos ?_)
  rw [← hk, Bool.or_eq_true, decide_eq_true_eq, decide_eq_true_eq]
  exact ha

theorem reg_restoreScales_below {t lo o : Nat} {l : Table Word} (s : State) (h : keysAbove lo l = true) (ho : o < lo) :
    reg (restoreScales s t l) (.scale t) (0x4000 + o) = reg s (.scale t) (0x4000 + o) := by
  refine List.foldlRecOn (motive := fun u => reg u (.scale t) (0x4000 + o) = reg s (.scale t) (0x4000 + o)) l _ rfl
    fun u hu e he => ?_
  have := key_ge_of_keysAbove h he
  rw [reg_setReg_ne _ _ _ _ _ _ (regAddr_inj _ (by omega)), hu]

/-- Each saved word is back in its register. -/
theorem reg_restoreScales_mem {t lo : Nat} {l : Table Word} {e : Nat × Word} (s : State) (h : keysAbove lo l = true) (he : e ∈ l) :
    reg (restoreScales s t l) (.scale t) (0x4000 + e.1) = e.2 := by
  induction l generalizing s lo with
  | nil => cases he
  | cons f l ih =>
    simp only [keysAbove, Bool.and_eq_true, decide_eq_true_eq] at h
    show reg (restoreScales (setReg s (.scale t) (0x4000 + f.1) f.2) t l) _ _ = _
    rcases List.mem_cons.mp he with rfl | he
    · rw [reg_restoreScales_below _ h.2 (by omega), reg_setReg_same]
    · exact ih _ h.2 he

/-! ### TASK_COMPLETE and CONTEXT_SWITCH_COMPLETE -/

theorem taskComplete_completes (s : State) {t : Nat} (ht : t < 640) : Completes (.taskComplete t) s := by
  show ∃ u, execTaskComplete t s = .next u
  refine onTask_completes ht fun x k => ?_
  split <;> exact ⟨_, rfl⟩

theorem contextSwitchComplete_completes (s : State) {t : Nat} (ht : t < 640) : Completes (.contextSwitchComplete t) s := by
  show ∃ u, execContextSwitchComplete t s = .next u
  unfold execContextSwitchComplete
  rw [if_neg (by omega)]
  dsimp only
  repeat' split
  all_goals exact ⟨_, rfl⟩

theorem taskComplete_ends {s : State} {t : Nat} {k : Task} (hk : Ready s t k) (hset : taskSettled (tileAt s t) k = true)
    (hl : k.loops = []) : ∃ u, Does (.taskComplete t) s u ∧ TaskEnds s u t k :=
  ⟨_, show execTaskComplete t s = _ from (onTask_ready hk _).trans (if_pos ⟨hset, hl⟩), taskEnds_taskDone hk.task⟩

/-- The saved state of context `c` on tile `t`, empty where none is saved (R138). -/
def savedState (s : State) (c t : Nat) : TileSave := (tget s.tier.saves (c * 640 + t)).getD { sram := [], vregs := [], scales := [] }

/-- The scale registers of the incoming context restored, and its save used up (R138 step 3). -/
def restoredRegs (s : State) (c t : Nat) : State :=
  putScales { s with tier := { s.tier with saves := tdel s.tier.saves (c * 640 + t) } } t (savedState s c t).scales

/-- The incoming context on the tile (R138 step 3). -/
def switchedIn (s : State) (c t : Nat) : State :=
  setFlag (setTile (restoredRegs s c t) t { tileAt s t with
    run := .idle, occupant := some c, sram := (savedState s c t).sram, vregs := (savedState s c t).vregs }) (.tile t) 0x08 3

theorem contextSwitchComplete_does {s : State} {t c f : Nat} (ht : t < 640) (hs : (tileAt s t).switch = some (c, f))
    (hr : (tileAt s t).run = .switching) : Does (.contextSwitchComplete t) s (switchedIn s c t) := by
  show execContextSwitchComplete t s = _
  unfold execContextSwitchComplete
  rw [if_neg (by omega)]
  simp only [hs, hr, ne_eq, not_true_eq_false, if_false]
  rw [← hs]
  rfl


theorem tileAt_switchedIn_ne (s : State) (c : Nat) {t i : Nat} (h : i ≠ t) : tileAt (switchedIn s c t) i = tileAt s i := by
  have hregs := onlyRegs_putScales { s with tier := { s.tier with saves := tdel s.tier.saves (c * 640 + t) } } t (savedState s c t).scales
  exact (tileAt_setTile_ne (restoredRegs s c t) t i _ h).trans (hregs.tileAt i)

theorem switchedIn_fields (s : State) (c t : Nat) : switchedIn s c t = { s with
    tiles := (switchedIn s c t).tiles, regs := (switchedIn s c t).regs,
    tier := { s.tier with saves := tdel s.tier.saves (c * 640 + t) } } := by
  have hregs : restoredRegs s c t = _ := onlyRegs_putScales { s with
    tier := { s.tier with saves := tdel s.tier.saves (c * 640 + t) } } t (savedState s c t).scales
  unfold switchedIn
  rw [hregs]
  rfl

/-- A tile's scale registers lie in its window above the tile's own block (R68). -/
theorem tile_lt_scale (t o : Nat) {off : Nat} (h : off < 0x8000) : regAddr (.tile t) off < regAddr (.scale t) o := by
  simp only [regAddr, blkBase]
  omega

theorem regsBut_switchedIn (s : State) (c t : Nat) : RegsBut [regAddr (.tile t) 0x08] (restoredRegs s c t) (switchedIn s c t) :=
  regsBut_setFlag _ _ _ _

theorem reg_switchedIn_scale (s : State) (c t o : Nat) :
    reg (switchedIn s c t) (.scale t) o = reg (restoredRegs s c t) (.scale t) o :=
  (regsBut_switchedIn s c t).reg _ _ (by simpa using (tile_lt_scale t o (by decide)).ne')

theorem taskAndSwitchComplete : Claims.TaskAndSwitchComplete := by
  refine ⟨fun s t ht => ⟨taskComplete_completes s ht, contextSwitchComplete_completes s ht⟩,
    fun s t k hk hset hl => taskComplete_ends hk hset hl, fun s t c f ht hs hr => ?_⟩
  refine ⟨_, contextSwitchComplete_does ht hs hr, flagUp_setFlag _ _ _ _ (by decide), ⟨?_, fun hnone => ⟨fun i hi => ?_, fun a ha hne => ?_⟩,
    fun v hv hsorted e he hlt => ?_⟩, fun i hi => tileAt_switchedIn_ne s c hi, ?_, ?_⟩
  · refine (tileAt_setTile_same (restoredRegs s c t) t _).trans ?_
    unfold savedState
    cases tget s.tier.saves (c * 640 + t) <;> rfl
  · rw [reg_switchedIn_scale, restoredRegs, savedState, hnone]
    exact reg_clearScales _ t (by omega)
  · rw [regsBut_switchedIn s c t a (by simpa using hne), restoredRegs, savedState, hnone]
    exact tget_clearScales _ t ha
  · rw [reg_switchedIn_scale, restoredRegs, savedState, hv]
    exact reg_restoreScales_mem _ hsorted he
  · rw [switchedIn_fields]
    exact tget_tdel_same _ _
  · rw [switchedIn_fields]

/-- Settles O27: a control record rewrites its task alone; a task done idles its tile; a context switch puts the save back. -/
theorem tasksRun : Obligations.TasksRun := ⟨controlRecords, taskAndSwitchComplete⟩

end Sys2Proof.Machine
end

section
namespace Sys2Proof.Machine

/-! ### Tokens and credits -/

/-- Credits depend on the image's routes and on what the tile has spent (R116). -/
theorem creditsLeft_of_spent {s u : State} {t : Nat} (himg : u.img = s.img) (h : (tileAt u t).spent = (tileAt s t).spent)
    (route : Nat) : creditsLeft u t route = creditsLeft s t route := by
  unfold creditsLeft routeAt
  rw [himg, h]

theorem creditsLeft_of_onlyTask {s u : State} {t : Nat} {k : Task} (h : OnlyTask s u t k) (route : Nat) :
    creditsLeft u t route = creditsLeft s t route := by
  obtain ⟨htile, -, hrest⟩ := h
  exact creditsLeft_of_spent (s := s) (by rw [hrest]) (by rw [htile]) route

/-- The token that a send of a task posts (R116, R117). -/
def postedToken (s : State) (t : Nat) (k : Task) (route rank : Nat) (data : List Byte) : Token :=
  let used := busyBuffers s t route
  let r := reqAt s k.entry
  { entry := k.entry, ctx := k.ctx, route := route,
    buffer := (leastBelow (fun i => !(used.contains i)) 64).getD 0, bytes := data.length,
    start := (r.map (·.start)).getD 0, visible := now s + 1, seed := false, last := false, elastic := k.elastic,
    slotMap := (r.map (·.slots)).getD [], srcTile := t, srcRank := k.rank, dstRank := rank, data := data }

theorem posted_postedToken (s : State) (t : Nat) (k : Task) (route rank : Nat) (data : List Byte) :
    Posted s t k route rank data (postedToken s t k route rank data) := ⟨rfl, rfl, rfl, rfl, rfl, rfl, rfl, rfl, rfl, rfl, rfl⟩

/-- Tokens `js` wait with the outputs of the task of tile `t`, each for one credit of its route, and nothing else changes. -/
structure Sent (t route : Nat) (js : List Token) (s u : State) : Prop where
  tile : ∀ k, (tileAt s t).task = some k →
    tileAt u t = { tileAt s t with task := some { k with tokens := k.tokens ++ js }, spent := (tileAt u t).spent }
  others : ∀ i, i ≠ t → tileAt u i = tileAt s i
  credits : creditsLeft u t route = creditsLeft s t route - js.length
  otherCredits : ∀ i, i ≠ route → creditsLeft u t i = creditsLeft s t i
  rest : u = { s with tiles := u.tiles }

theorem Sent.refl (t route : Nat) (s : State) : Sent t route [] s s where
  tile k hk := by rw [List.append_nil, ← hk]
  others _ _ := rfl
  credits := rfl
  otherCredits _ _ := rfl
  rest := rfl

theorem Sent.task {t route : Nat} {js : List Token} {s u : State} {k : Task} (h : Sent t route js s u)
    (hk : (tileAt s t).task = some k) : (tileAt u t).task = some { k with tokens := k.tokens ++ js } := by rw [h.tile k hk]

theorem Sent.now {t route : Nat} {js : List Token} {s u : State} (h : Sent t route js s u) : now u = now s := by
  rw [Machine.now, h.rest]
  rfl

theorem Sent.trans {t route : Nat} {js ls : List Token} {s u v : State} (h : Sent t route js s u) (g : Sent t route ls u v) :
    Sent t route (js ++ ls) s v where
  tile k hk := by
    rw [g.tile _ (h.task hk), h.tile k hk, List.append_assoc]
  others i hi := (g.others i hi).trans (h.others i hi)
  credits := by rw [g.credits, h.credits, List.length_append, Nat.sub_sub]
  otherCredits i hi := (g.otherCredits i hi).trans (h.otherCredits i hi)
  rest := by
    have hg := g.rest
    rw [h.rest] at hg
    exact hg

/-- What a change of the task alone leaves after tokens were posted. -/
theorem Sent.onlyTask {t route : Nat} {js : List Token} {s u v : State} {l : Task} (h : Sent t route js s u)
    (g : OnlyTask u v t l) : (∀ k, (tileAt s t).task = some k →
      tileAt v t = { tileAt s t with task := some l, spent := (tileAt v t).spent }) ∧ v = { s with tiles := v.tiles } := by
  obtain ⟨gtile, -, grest⟩ := g
  refine ⟨fun k hk => ?_, ?_⟩
  · rw [gtile, h.tile k hk]
  · have hrest := h.rest
    rw [hrest] at grest
    exact grest

theorem sent_postToken (s : State) (t : Nat) (k : Task) (route rank : Nat) (data : List Byte) :
    Sent t route [postedToken s t k route rank data] s (postToken s t k route rank data) := by
  let u := setTask s t fun j => { j with tokens := j.tokens ++ [postedToken s t k route rank data] }
  have hu : (tileAt u t).spent = (tileAt s t).spent := by
    show (tileAt (setTile s t _) t).spent = _
    rw [tileAt_setTile_same]
  have heq : postToken s t k route rank data =
      setTile u t { tileAt u t with spent := tset (tileAt u t).spent route (tgetD (tileAt u t).spent route 0 + 1) } := rfl
  have hspent : (tileAt (postToken s t k route rank data) t).spent =
      tset (tileAt s t).spent route (tgetD (tileAt s t).spent route 0 + 1) := by rw [heq, tileAt_setTile_same, hu]
  refine ⟨fun j hj => ?_, fun i hi => ?_, ?_, fun i hi => ?_, rfl⟩
  · rw [heq, tileAt_setTile_same, tileAt_setTask hj]
  · exact (tileAt_setTile_ne u t i _ hi).trans (tileAt_setTile_ne s t i _ hi)
  · unfold creditsLeft
    rw [hspent, show routeAt (postToken s t k route rank data) route = routeAt s route from rfl, tgetD, tget_tset_same]
    cases routeAt s route with
    | none => rfl
    | some r => exact (Nat.sub_sub ..).symm
  · unfold creditsLeft
    rw [hspent, show routeAt (postToken s t k route rank data) i = routeAt s i from rfl, tgetD, tget_tset_ne _ _ _ _ hi]
    rfl

/-! ### SEND and SEND_AFTER_CREDIT -/

theorem sendAfterCredit_completes (s : State) {t : Nat} (ht : t < 640) : Completes (.sendAfterCredit t) s := by
  show ∃ u, execSendAfterCredit t s = .next u
  unfold execSendAfterCredit
  rw [if_neg (by omega)]
  dsimp only
  repeat' split
  all_goals exact ⟨_, rfl⟩

theorem send_ready {s : State} {t bytes route rank : Nat} {k : Task} {r : RouteRec} (b : Bufs) (hr : routeAt s route = some r)
    (hk : Ready s t k) (hok : routeOk s k r rank = true) (hb : bytes ≤ r.creditBytes) :
    exec (.send t bytes route rank b) s =
      if creditsLeft s t route = 0 then .next (setTask s t fun k => { k with
        waiting := some { bytes := bytes, route := route, rank := rank, src := b.src0 } })
      else .next (advance (postToken s t k route rank (bufRead s t (tileAt s t) k b.src0 0 bytes)) t) := by
  show execSend t bytes route rank b s = _
  unfold execSend
  simp only [hr]
  rw [onTask_ready hk, if_neg (by simp [hok, hb])]
  rfl

theorem sendAfterCredit_goesOn {s : State} {t : Nat} {k : Task} {w : WaitingSend} (ht : t < 640)
    (hk : (tileAt s t).task = some k) (hw : k.waiting = some w) (hrun : (tileAt s t).run = .running)
    (hc : creditsLeft s t w.route ≠ 0) :
    Does (.sendAfterCredit t) s (advance (setTask (postToken s t k w.route w.rank (bufRead s t (tileAt s t) k w.src 0 w.bytes)) t
      fun k => { k with waiting := none }) t) := by
  show execSendAfterCredit t s = _
  unfold execSendAfterCredit
  rw [if_neg (by omega)]
  simp only [hk, hw]
  rw [if_neg (by simp [hrun, hc])]
  rfl

theorem sendTakesCredit : Claims.SendTakesCredit := by
  refine ⟨fun s t ht => sendAfterCredit_completes s ht, fun s t bytes route rank b k r hr hk hok hb => ?_,
    fun s t k w ht hk hw hrun hc => ?_⟩
  · unfold Does
    rw [send_ready b hr hk hok hb]
    by_cases hc : creditsLeft s t route = 0
    · rw [if_pos hc]
      obtain ⟨htile, hother, hrest⟩ := onlyTask_setTask hk.task fun k => { k with
        waiting := some { bytes := bytes, route := route, rank := rank, src := b.src0 } }
      exact ⟨_, rfl, hrest, hother, fun hn => absurd hc hn, fun _ => htile⟩
    · rw [if_neg hc]
      have hsent := sent_postToken s t k route rank (bufRead s t (tileAt s t) k b.src0 0 bytes)
      generalize postToken s t k route rank _ = v at *
      have hnext := onlyTask_advance (hsent.task hk.task)
      refine ⟨_, rfl, (hsent.onlyTask hnext).2, fun i hi => (hnext.2.1 i hi).trans (hsent.others i hi),
        fun _ => ⟨_, posted_postedToken s t k route rank _, (hsent.onlyTask hnext).1 k hk.task, ?_, fun i hi => ?_⟩,
        fun hz => absurd hz hc⟩
      · exact (creditsLeft_of_onlyTask hnext route).trans hsent.credits
      · exact (creditsLeft_of_onlyTask hnext i).trans (hsent.otherCredits i hi)
  · have hdoes := sendAfterCredit_goesOn ht hk hw hrun hc
    have hsent := sent_postToken s t k w.route w.rank (bufRead s t (tileAt s t) k w.src 0 w.bytes)
    generalize postToken s t k w.route w.rank _ = v at *
    have hgone := onlyTask_setTask (hsent.task hk) fun k => { k with waiting := none }
    have hnext := onlyTask_trans hgone (onlyTask_advance (task_of_onlyTask hgone))
    refine ⟨_, _, hdoes, (hsent.onlyTask hnext).2, fun i hi => (hnext.2.1 i hi).trans (hsent.others i hi),
      posted_postedToken s t k w.route w.rank _, (hsent.onlyTask hnext).1 k hk, ?_, fun i hi => ?_⟩
    · exact (creditsLeft_of_onlyTask hnext _).trans hsent.credits
    · exact (creditsLeft_of_onlyTask hnext i).trans (hsent.otherCredits i hi)

/-! ### ROUTE_ROWS -/

/-- Row `i` of a list is posted as token `i`: its row number in front of its bytes, to the rank given (R114). -/
def RowsPosted (s : State) (t : Nat) (k : Task) (route : Nat) (list : List (Nat × Nat × List Byte)) (js : List Token) : Prop :=
  ∀ (i : Nat) (j : Token) (q : Nat × Nat × List Byte), js[i]? = some j → list[i]? = some q →
    Posted s t k route q.2.1 (toLE 8 q.1 ++ q.2.2) j

/-- The rows leave in order while the route has credits, and the others are left over (R114). -/
theorem routeEach_sends (t : Nat) (k : Task) (route : Nat) (list : List (Nat × Nat × List Byte)) (s : State) :
    ∃ js, Sent t route js s (routeEach s t k route list).1 ∧ js.length = min (creditsLeft s t route) list.length ∧
      RowsPosted s t k route list js ∧ (routeEach s t k route list).2 = list.drop (creditsLeft s t route) := by
  induction list generalizing s with
  | nil => exact ⟨[], .refl t route s, by simp, fun i j q hj => by simp at hj, by simp [routeEach]⟩
  | cons q list ih =>
    obtain ⟨row, rank, data⟩ := q
    unfold routeEach
    by_cases hc : creditsLeft s t route = 0
    · obtain ⟨js, hsent, hlen, -, hleft⟩ := ih s
      have hnil : js = [] := List.eq_nil_of_length_eq_zero (by rw [hlen, hc, Nat.zero_min])
      subst hnil
      rw [if_pos hc]
      rw [hc] at hleft ⊢
      exact ⟨[], hsent, by simp, fun i j q hj => by simp at hj, congrArg _ hleft⟩
    · rw [if_neg hc]
      have hpost := sent_postToken s t k route rank (toLE 8 row ++ data)
      obtain ⟨js, hsent, hlen, hrows, hleft⟩ := ih (postToken s t k route rank (toLE 8 row ++ data))
      have hcredits : creditsLeft s t route = creditsLeft (postToken s t k route rank (toLE 8 row ++ data)) t route + 1 := by
        have := hpost.credits
        rw [List.length_singleton] at this
        omega
      refine ⟨_ :: js, hpost.trans hsent, ?_, fun i j q hj hq => ?_, ?_⟩
      · rw [List.length_cons, List.length_cons, hlen, hcredits]
        omega
      · cases i with
        | zero =>
          obtain rfl := Option.some.inj hj
          obtain rfl := Option.some.inj hq
          exact posted_postedToken s t k route rank _
        | succ i =>
          have h := hrows i j q hj hq
          unfold Posted at h ⊢
          rwa [hpost.now] at h
      · rw [hleft, hcredits, List.drop_succ_cons]

/-- The rows that a ROUTE_ROWS sends: those of SRC0 in a stage's first step, and those kept in SRC2 later (R114). -/
def routeList (s : State) (t route rowBytes rows : Nat) (b : Bufs) (k : Task) (r : RouteRec) : List (Nat × Nat × List Byte) :=
  let x := tileAt s t
  if k.step = 0 then (List.range rows).map (fun i =>
    (i, rowRank s route r ((unpackWords 4 rows (bufRead s t x k b.src1 0 (4 * rows))).getD i 0),
      bufRead s t x k b.src0 (i * rowBytes) rowBytes))
  else (List.range (leNat (bufRead s t x k b.src2 0 4))).map (fun i =>
    let e := bufRead s t x k b.src2 (8 + i * (16 + rowBytes)) (16 + rowBytes)
    (fieldLE e 0 8, rowRank s route r (fieldLE e 8 4), e.drop 16))

/-- The rows left over written to a PERSIST SRC2 (R114, log entry 20). -/
def keepRows (s : State) (t : Nat) (k : Task) (src2 : Nat) (q : State × List (Nat × Nat × List Byte)) : State :=
  if bufKind s k src2 = 1 then
    bufWrite q.1 t k src2 0 (toLE 4 q.2.length ++ zeros 4 ++ q.2.flatMap (fun r => keptRow r.1 r.2.1 r.2.2))
  else q.1

theorem keepRows_tile (s : State) (t : Nat) (k : Task) (src2 : Nat) (q : State × List (Nat × Nat × List Byte)) :
    tileAt (keepRows s t k src2 q) t = { tileAt q.1 t with sram := (tileAt (keepRows s t k src2 q) t).sram } ∧
      (∀ i, i ≠ t → tileAt (keepRows s t k src2 q) i = tileAt q.1 i) ∧
      keepRows s t k src2 q = { q.1 with tiles := (keepRows s t k src2 q).tiles } := by
  unfold keepRows
  split
  · exact ⟨tileAt_bufWrite .., fun i hi => tileAt_bufWrite_ne _ _ _ _ _ hi, rfl⟩
  · exact ⟨rfl, fun _ _ => rfl, rfl⟩

theorem wroteBuffer_keepRows (s : State) (t : Nat) (k : Task) (src2 : Nat) (q : State × List (Nat × Nat × List Byte))
    (h : bufKind s k src2 = 1) : WroteBuffer q.1 (keepRows s t k src2 q) t k src2 0
      (toLE 4 q.2.length ++ zeros 4 ++ q.2.flatMap (fun r => toLE 8 r.1 ++ toLE 4 r.2.1 ++ zeros 4 ++ r.2.2)) := by
  unfold keepRows
  rw [if_pos h]
  exact wroteBuffer_bufWrite ..

theorem routeRows_does {s : State} {t route rowBytes rows : Nat} {b : Bufs} {k : Task} {r : RouteRec}
    (hr : routeAt s route = some r) (hk : Ready s t k) (hok : routeOk s k r 0 = true) (hb : 8 + rowBytes ≤ r.creditBytes)
    (hroom : (routeList s t route rowBytes rows b k r).length ≤ creditsLeft s t route ∨ bufKind s k b.src2 = 1) :
    Does (.routeRows t route rowBytes rows b) s
      (advance (keepRows s t k b.src2 (routeEach s t k route (routeList s t route rowBytes rows b k r))) t) := by
  show execRouteRows t route rowBytes rows b s = _
  unfold execRouteRows
  simp only [hr]
  rw [onTask_ready hk, if_neg (by simp [hok, hb]), if_neg ?_]
  · rfl
  · rintro ⟨hlt, hkind⟩
    rcases hroom with hroom | hroom
    · exact absurd hlt (Nat.not_lt.mpr hroom)
    · exact hkind hroom

theorem routeRowsSendsInOrder : Claims.RouteRowsSendsInOrder := by
  intro s t route rowBytes rows b k r hr hk hok hb x list n hroom
  have hlist : list = routeList s t route rowBytes rows b k r := rfl
  obtain ⟨js, hsent, hlen, hrows, hleft⟩ := routeEach_sends t k route list s
  have hdoes := routeRows_does hr hk hok hb hroom
  rw [← hlist] at hdoes
  generalize routeEach s t k route list = q at *
  obtain ⟨hktile, hkother, hkrest⟩ := keepRows_tile s t k b.src2 q
  have hwrote := wroteBuffer_keepRows s t k b.src2 q
  have hsram : bufKind s k b.src2 ≠ 1 → keepRows s t k b.src2 q = q.1 := fun h => if_neg h
  generalize keepRows s t k b.src2 q = v at *
  have hnext : OnlyTask v (advance v t) t { k.next with tokens := k.tokens ++ js } :=
    onlyTask_advance (by rw [hktile]; exact hsent.task hk.task)
  have hadvance := creditsLeft_of_onlyTask hnext route
  obtain ⟨htile, hother, hrest⟩ := hnext
  generalize advance v t = u at *
  refine ⟨u, js, hdoes, ?_, fun i hi => ?_, hlen, hrows, ?_, ?_, fun hkind => ?_, fun hkind => ?_⟩
  · have hv := hsent.rest
    rw [hv] at hkrest
    rw [hkrest] at hrest
    exact hrest
  · rw [hother i hi, hkother i hi, hsent.others i hi]
  · rw [htile, hktile, hsent.tile k hk.task]
  · rw [hadvance, creditsLeft_of_spent (s := q.1) (by rw [hkrest]) (by rw [hktile]), hsent.credits]
  · rw [htile, hsram hkind, hsent.tile k hk.task]
  · have hcount : list.length - n = q.2.length := by rw [hleft, List.length_drop]
    rw [hcount, ← hleft]
    exact ((hwrote hkind).of_start (s := s) (by rw [hsent.rest]) (by rw [hsent.tile k hk.task])).of_sram (by rw [htile])

/-- Settles O26: a send takes one credit and posts one token; ROUTE_ROWS sends row after row, by induction on the rows. -/
theorem sendsTokens : Obligations.SendsTokens := ⟨sendTakesCredit, routeRowsSendsInOrder⟩

end Sys2Proof.Machine
end

section
namespace Sys2Proof.Machine

/-! ### The elements of an index list -/

theorem getElem?_unpackWords (k : Nat) {n i : Nat} (bs : List Byte) (h : i < n) :
    (unpackWords k n bs)[i]? = some (leNat ((bs.drop (i * k)).take k)) := by
  induction n generalizing bs i with
  | zero => omega
  | succ n ih =>
    rw [unpackWords]
    cases i with
    | zero => rw [List.getElem?_cons_zero, Nat.zero_mul, List.drop_zero]
    | succ i => rw [List.getElem?_cons_succ, ih _ (by omega), List.drop_drop, Nat.succ_mul, Nat.add_comm k]

/-- A part of what is read from a buffer is read from there. -/
theorem take_drop_bufRead (s : State) (t : Nat) (x : Tile) (k : Task) (b off : Nat) {n a m : Nat} (h : a + m ≤ n) :
    ((bufRead s t x k b off n).drop a).take m = bufRead s t x k b (off + a) m := by
  unfold bufRead
  refine List.ext_getElem ?_ fun i h1 h2 => ?_
  · simp only [List.length_take, List.length_drop, List.length_map, List.length_range]
    omega
  · simp only [List.getElem_take, List.getElem_drop, List.getElem_map, List.getElem_range, Nat.add_assoc]

/-- Bytes of one index of a list (R127). -/
def indexWidth (d : StreamDesc) : Nat := if d.idx64 then 8 else 4

/-- Number `i` of the index list that a descriptor names (R127). -/
def indexWord (s : State) (t : Nat) (x : Tile) (k : Task) (d : StreamDesc) (i : Nat) : Nat :=
  leNat (bufRead s t x k d.indexBuf (8 + i * indexWidth d) (indexWidth d))

/-- The indexes of a list of `n` numbers. -/
def indexList (s : State) (t : Nat) (x : Tile) (k : Task) (d : StreamDesc) (n : Nat) : List Nat :=
  unpackWords (indexWidth d) n (bufRead s t x k d.indexBuf 8 (indexWidth d * n))

theorem getElem?_indexList (s : State) (t : Nat) (x : Tile) (k : Task) (d : StreamDesc) {n i : Nat} (h : i < n) :
    (indexList s t x k d n)[i]? = some (indexWord s t x k d i) := by
  have hroom : i * indexWidth d + indexWidth d ≤ indexWidth d * n := by
    rw [Nat.mul_comm (indexWidth d), ← Nat.succ_mul]
    exact Nat.mul_le_mul_right _ h
  unfold indexList indexWord
  rw [getElem?_unpackWords _ _ h, take_drop_bufRead _ _ _ _ _ _ hroom]

section
variable {s : State} {t idx : Nat} {x : Tile} {k : Task} {d : StreamDesc}

/-- A list of at most INDEX_MAX numbers gives one element for each (R127). -/
theorem newRun_index (hkind : d.kind = 1) (hmax : leNat (bufRead s t x k d.indexBuf 0 4) ≤ d.indexMax) :
    (newRun s t x k idx d).tooMany = false ∧ (newRun s t x k idx d).elems =
      (List.range (leNat (bufRead s t x k d.indexBuf 0 4))).map fun i =>
        ((d.farBase + (indexList s t x k d (leNat (bufRead s t x k d.indexBuf 0 4))).getD i 0 * d.rowStride) % 2 ^ 64,
          i * d.sramStride, d.rowBytes) := by
  have hfew : (decide (d.kind = 1) && decide (d.indexMax < leNat (bufRead s t x k d.indexBuf 0 4))) = false := by
    simp [Nat.not_lt.mpr hmax]
  have hlen := length_unpackWords (indexWidth d) (leNat (bufRead s t x k d.indexBuf 0 4))
    (bufRead s t x k d.indexBuf 8 (indexWidth d * leNat (bufRead s t x k d.indexBuf 0 4)))
  unfold newRun
  simp only [if_pos hkind]
  rw [if_pos ⟨hkind, hfew⟩]
  exact ⟨hfew, by unfold indexList indexWidth at *; rw [hlen]⟩

theorem newRun_elements (hkind : d.kind = 1) (hmax : leNat (bufRead s t x k d.indexBuf 0 4) ≤ d.indexMax) :
    (newRun s t x k idx d).tooMany = false ∧
    (newRun s t x k idx d).elems.length = leNat (bufRead s t x k d.indexBuf 0 4) ∧
    ∀ i, i < leNat (bufRead s t x k d.indexBuf 0 4) → (newRun s t x k idx d).elems[i]? =
      some ((d.farBase + indexWord s t x k d i * d.rowStride) % 2 ^ 64, i * d.sramStride, d.rowBytes) := by
  obtain ⟨hfew, helems⟩ := newRun_index (idx := idx) hkind hmax
  refine ⟨hfew, by rw [helems, List.length_map, List.length_range], fun i hi => ?_⟩
  rw [helems, List.getElem?_map, List.getElem?_range hi, Option.map_some, List.getD_eq_getElem?_getD,
    getElem?_indexList _ _ _ _ _ hi, Option.getD_some]

end

/-! ### Asking neighbours for granules -/

theorem handed_sendLease (s : State) (i : Nat) (mine : Bool) (op wire arg0 arg1 : Nat) (data : List Byte) :
    Handed s (sendLease s i mine op wire arg0 arg1 data) := by
  unfold sendLease
  split
  · exact .refl s
  · exact handed_sendCtl ..

theorem handed_askGranule (s : State) (c a : Nat) (v : Served) : Handed s (askGranule s c a v) := by
  cases v with
  | lease j off =>
    unfold askGranule
    dsimp only
    split
    · exact handed_sendLease ..
    · exact .refl s
  | peer id =>
    unfold askGranule
    dsimp only
    split
    · exact handed_sendLease ..
    · exact .refl s
  | keep j => exact .refl s
  | fault lost => exact .refl s

/-- Handing out reads no tile: with the tiles replaced on both sides, the same was handed out. -/
theorem Handed.retile {s u : State} (h : Handed s u) (m : Table Tile) : Handed { s with tiles := m } { u with tiles := m } := by
  obtain ⟨hout, hregs, hrest⟩ := h
  refine ⟨hout, hregs, ?_⟩
  rw [hrest]

/-! ### STREAM_START -/

theorem mem_history_touch (s : State) (t e : Nat) : (e, now s) ∈ (tileAt (touch s t e) t).history := by
  unfold touch
  rw [tileAt_setTile_same]
  dsimp only
  split
  · rename_i h
    simpa using h
  · exact List.mem_append_right _ (List.mem_singleton_self _)

theorem tileAt_touch (s : State) (t e : Nat) :
    tileAt (touch s t e) t = { tileAt s t with history := (tileAt (touch s t e) t).history } := by
  unfold touch
  rw [tileAt_setTile_same]

theorem tileAt_touch_ne (s : State) {t i : Nat} (e : Nat) (h : i ≠ t) : tileAt (touch s t e) i = tileAt s i :=
  tileAt_setTile_ne _ _ _ _ h

/-- The tile with a new run of descriptor `idx`; a complete run of the same descriptor is forgotten (R128). -/
def startRun (s : State) (t idx : Nat) (r : StreamRun) : State :=
  setTile s t { tileAt s t with
    streams := (tileAt s t).streams.filter (fun q => !(decide (q.index = idx) && q.done)) ++ [r] }

/-- A stream that reads a neighbour's Keep asks for its granules (R346). -/
def askAll (s : State) (c : Nat) (r : StreamRun) : State :=
  if r.desc.farTier = 3 then
    (r.elems.flatMap fun e => granulesFrom e.1 e.2.2).foldl (fun s a => askGranule s c a (servedBy s r a)) s
  else s

theorem handed_askAll (s : State) (c : Nat) (r : StreamRun) : Handed s (askAll s c r) := by
  unfold askAll
  split
  · exact Handed.foldl _ (fun u a => handed_askGranule u c a (servedBy u r a)) _ s
  · exact .refl s

theorem streamStart_completes {s : State} {t idx : Nat} (ht : t < 640)
    (hd : ∀ k, (tileAt s t).task = some k → streamDesc s k idx ≠ none) : Completes (.streamStart t idx) s := by
  show ∃ u, execStreamStart t idx s = .next u
  unfold execStreamStart
  rcases onTask_cases (s := s) ht _ with h | ⟨k, hk, h⟩
  · exact ⟨s, h⟩
  · rw [h]
    cases hdesc : streamDesc s k idx with
    | none => exact absurd hdesc (hd k hk)
    | some d =>
      dsimp only
      repeat' split
      all_goals exact ⟨_, rfl⟩

theorem streamStart_does {s : State} {t idx : Nat} {k : Task} {d : StreamDesc} (hk : Ready s t k)
    (hd : streamDesc s k idx = some d) (hon : enabled s (streamBlk d t) = true) (hw : d.write = true → d.farTier < 2)
    (hdone : ∀ r ∈ (tileAt s t).streams, r.index = idx → r.done = true) :
    let r := newRun s t (tileAt s t) k idx d
    Does (.streamStart t idx) s (advance (touch (askAll (startRun s t idx r) k.ctx r) t k.entry) t) := by
  have hfree : ¬((d.write && decide (2 ≤ d.farTier)) = true ∨
      (tileAt s t).streams.any (fun r => decide (r.index = idx) && !r.done) = true) := by
    rintro (h | h)
    · rw [Bool.and_eq_true, decide_eq_true_eq] at h
      have := hw h.1
      omega
    · obtain ⟨r, hr, hbusy⟩ := List.any_eq_true.mp h
      rw [Bool.and_eq_true, decide_eq_true_eq, Bool.not_eq_true'] at hbusy
      rw [hdone r hr hbusy.1] at hbusy
      exact absurd hbusy.2 (by decide)
  show execStreamStart t idx s = _
  unfold execStreamStart
  rw [onTask_ready hk]
  simp only [hd]
  rw [if_neg (by simp [hon]), if_neg hfree]
  rfl

/-! ### STREAM_WAIT -/

theorem streamWait_completes (s : State) {t : Nat} (idx : Nat) (ht : t < 640) : Completes (.streamWait t idx) s := by
  show ∃ u, execStreamWait t idx s = .next u
  refine onTask_completes ht fun x k => ?_
  repeat' split
  all_goals exact ⟨_, rfl⟩

theorem streamWait_ready {s : State} {t idx : Nat} {k : Task} {r : StreamRun} (hk : Ready s t k)
    (hr : (tileAt s t).streams.find? (fun r => decide (r.index = idx) && decide (r.entry = k.entry)) = some r) :
    exec (.streamWait t idx) s = if r.done then .next (advance s t)
      else .next (setTask s t fun k => { k with waitStream := some idx }) := by
  show execStreamWait t idx s = _
  unfold execStreamWait
  rw [onTask_ready hk]
  simp only [hr]

/-- Settles O23: a start adds the run and, in T3, asks for its granules; a wait looks at the run; the elements of a list are
those of its words. -/
theorem streamsStart : Obligations.StreamsStart := by
  refine ⟨fun s t idx ht => ⟨streamWait_completes s idx ht, fun hd => streamStart_completes ht hd⟩,
    fun s t idx k d hk hd hon hw hdone => ?_, fun s t idx x k d hkind hmax => newRun_elements hkind hmax,
    fun s t idx k r hk hr => ?_⟩
  · have hdoes := streamStart_does hk hd hon hw hdone
    dsimp only at hdoes
    have hasked := handed_askAll (startRun s t idx (newRun s t (tileAt s t) k idx d)) k.ctx (newRun s t (tileAt s t) k idx d)
    have hquiet : d.farTier ≠ 3 → askAll (startRun s t idx (newRun s t (tileAt s t) k idx d)) k.ctx
        (newRun s t (tileAt s t) k idx d) = startRun s t idx (newRun s t (tileAt s t) k idx d) := fun h => if_neg h
    have hstart : tileAt (startRun s t idx (newRun s t (tileAt s t) k idx d)) t = _ := tileAt_setTile_same ..
    generalize askAll _ k.ctx _ = v at *
    have hv := tileAt_of_tiles hasked.tiles
    have htouch := tileAt_touch v t k.entry
    have hnext := onlyTask_advance (s := touch v t k.entry) (t := t) (k := k) (by rw [htouch, hv, hstart]; exact hk.task)
    obtain ⟨htile, hother, hrest⟩ := hnext
    have hhist := mem_history_touch v t k.entry
    refine ⟨_, hdoes, fun i hi => ?_, ?_, ?_, ?_, fun h => ?_⟩
    · rw [hother i hi, tileAt_touch_ne v _ hi, hv]
      exact tileAt_setTile_ne _ _ _ _ hi
    · rw [htile, htouch, hv, hstart]
    · rw [htile]
      rwa [hasked.now] at hhist
    · exact hasked.retile (advance (touch v t k.entry) t).tiles
    · rw [hquiet h]
      rfl
  · unfold Does
    rw [streamWait_ready hk hr]
    cases hdone : r.done with
    | true =>
      obtain ⟨htile, hother, hrest⟩ := onlyTask_advance hk.task
      exact ⟨_, rfl, hrest, hother, fun _ => htile, fun h => absurd h (by decide)⟩
    | false =>
      obtain ⟨htile, hother, hrest⟩ := onlyTask_setTask hk.task fun k => { k with waitStream := some idx }
      exact ⟨_, rfl, hrest, hother, fun h => absurd h (by decide), fun _ => htile⟩

end Sys2Proof.Machine
end

section
namespace Sys2Proof.Machine

/-! ### What the moves of a stream write -/

/-- Bytes put into a tile's SRAM. -/
def putSram (s : State) (t key : Nat) (bs : List Byte) : State :=
  setTile s t { tileAt s t with sram := sramWrite (tileAt s t).sram key bs }

theorem wroteSram_putSram (s : State) (t key : Nat) (bs : List Byte) :
    WroteSram (tileAt s t).sram (tileAt (putSram s t key bs) t).sram key bs := by
  unfold putSram
  rw [tileAt_setTile_same]
  exact ⟨fun i hi => tget_sramWrite_inside _ _ i bs hi, fun a ha => tget_sramWrite_outside _ _ a bs ha⟩

theorem wroteMem_t1Write (s : State) (c a : Nat) (bs : List Byte) : WroteMem s.tier.t1 (t1Write s c a bs).tier.t1 (t1Key c a) bs :=
  ⟨fun i hi => memByte_memWrite_inside _ _ i bs hi, fun x hx => memByte_memWrite_outside _ _ x bs hx⟩

/-- The state in which a stream's read of an element finds its rows: due deltas applied (R209). -/
def settledFor (s : State) (r : StreamRun) (e : Nat × Nat × Nat) : State :=
  if r.desc.farTier % 2 = 1 ∧ r.desc.write = false then settleBytes s r.ctx e.1 e.2.2 else s

/-- Where an offset of a stream's buffer lies in SRAM, in the half that it writes (R109). -/
def runKey (r : StreamRun) (off : Nat) : Nat := bufKey r.entry r.wrHalf r.desc.sramBuf off

/-- The bytes that a read brings for an element (R126). -/
def farData (s : State) (r : StreamRun) (e : Nat × Nat × Nat) : List Byte :=
  if r.desc.farTier = 2 then t2Read s e.1 e.2.2 else farRead s r e.1 e.2.2

section
variable (s : State) (t : Nat) (r : StreamRun) (e : Nat × Nat × Nat)

theorem moveElem_t0 (h : r.desc.farTier = 0) : moveElem s t r e = putSram s t
    (runKey r (if r.desc.write then e.1 else e.2.1))
    (sramRead (tileAt s t) t r (if r.desc.write then e.2.1 else e.1) e.2.2) := by
  unfold moveElem
  simp only [h, Nat.zero_mod, Nat.zero_ne_one, false_and, if_false]
  cases r.desc.write <;> rfl

theorem moveElem_read (h0 : r.desc.farTier ≠ 0) (hw : r.desc.write = false) : moveElem s t r e =
    putSram (settledFor s r e) t (runKey r e.2.1) (farData (settledFor s r e) r e) := by
  unfold moveElem
  dsimp only
  generalize hu : (if r.desc.farTier % 2 = 1 ∧ r.desc.write = false then settleBytes s r.ctx e.1 e.2.2 else s) = u
  rw [show settledFor s r e = u from hu]
  unfold farData
  split
  · exact absurd ‹_› h0
  · rw [if_pos ‹_›]
    rfl
  · rename_i hne
    rw [if_neg hne, hw]
    rfl

theorem moveElem_write (h0 : r.desc.farTier ≠ 0) (h2 : r.desc.farTier ≠ 2) (hw : r.desc.write = true) :
    moveElem s t r e = t1Write s r.ctx e.1 (sramRead (tileAt s t) t r e.2.1 e.2.2) := by
  unfold moveElem
  simp only [hw, Bool.true_eq_false, and_false, if_false, if_true]

end

theorem applyDue_tiles (s : State) (p : DueDelta → Bool) : (applyDue s p).tiles = s.tiles := by
  unfold applyDue
  exact foldl_keeps State.tiles (fun s (d : DueDelta) => applyDelta s d.delta) (fun _ _ => rfl) _ _

theorem settleBytes_tiles (s : State) (c a n : Nat) : (settleBytes s c a n).tiles = s.tiles := by
  refine foldl_keeps State.tiles _ (fun u q => ?_) _ s
  unfold settleRow
  dsimp only
  split
  · exact applyDue_tiles _ _
  · rfl

theorem settledFor_tiles (s : State) (r : StreamRun) (e : Nat × Nat × Nat) : (settledFor s r e).tiles = s.tiles := by
  unfold settledFor
  split
  · exact settleBytes_tiles ..
  · rfl

theorem moved_settledFor (t : Nat) (s : State) (r : StreamRun) (e : Nat × Nat × Nat) : Moved t s (settledFor s r e) := by
  unfold settledFor
  split
  · exact moved_settleBytes t s _ _ _
  · exact .refl t s

/-- A stream in whose way no due delta lies: it does not read feature rows, or no delta is due (R209). -/
def NoneDue (s : State) (r : StreamRun) : Prop :=
  r.desc.farTier % 2 = 1 → r.desc.write = false → ∀ d ∈ s.feat.area, now s < d.due

theorem settledFor_noneDue {s : State} {r : StreamRun} (h : NoneDue s r) (e : Nat × Nat × Nat) : settledFor s r e = s := by
  unfold settledFor
  split
  · rename_i hread
    have hnone : ∀ d ∈ s.feat.area, ¬d.due ≤ now s := fun d hd => Nat.not_le.mpr (h hread.1 hread.2 d hd)
    unfold settleBytes
    rw [List.filter_eq_nil_iff.mpr fun d hd => by simp [hnone d hd]]
    rfl
  · rfl

theorem tileAt_moveElem_ne (s : State) {t i : Nat} (r : StreamRun) (e : Nat × Nat × Nat) (h : i ≠ t) :
    tileAt (moveElem s t r e) i = tileAt s i := by
  by_cases h0 : r.desc.farTier = 0
  · rw [moveElem_t0 s t r e h0]
    exact tileAt_setTile_ne _ _ _ _ h
  · cases hw : r.desc.write with
    | false =>
      rw [moveElem_read s t r e h0 hw]
      exact (tileAt_setTile_ne _ _ _ _ h).trans (tileAt_of_tiles (settledFor_tiles s r e) i)
    | true =>
      unfold moveElem
      simp only [hw, Bool.true_eq_false, and_false, if_false, if_true]
      split
      · exact tileAt_setTile_ne _ _ _ _ h
      · exact tileAt_setTile_ne _ _ _ _ h
      · rfl

/-! ### The moves of all elements -/

/-- Every element of a stream moved. -/
def movedAll (s : State) (t : Nat) (r : StreamRun) : State := r.elems.foldl (fun s e => moveElem s t r e) s

theorem movedAll_one {s : State} {t : Nat} {r : StreamRun} {e : Nat × Nat × Nat} (h : r.elems = [e]) :
    movedAll s t r = moveElem s t r e := by
  unfold movedAll
  rw [h]
  rfl

theorem moved_movedAll (s : State) (t : Nat) (r : StreamRun) : Moved t s (movedAll s t r) :=
  Moved.foldl _ (fun u e => moved_moveElem t u r e) _ (.refl t s)

theorem tileAt_movedAll_ne (s : State) {t i : Nat} (r : StreamRun) (h : i ≠ t) : tileAt (movedAll s t r) i = tileAt s i :=
  foldl_keeps (tileAt · i) _ (fun u e => tileAt_moveElem_ne u r e h) _ s

/-- Where no due delta lies in the way, no register and no delta changes, and T1 only by a write to it. -/
theorem movedAll_noneDue {s : State} (t : Nat) {r : StreamRun} (h : NoneDue s r) (h2 : r.desc.farTier = 2 → r.desc.write = false) :
    (movedAll s t r).feat = s.feat ∧ (movedAll s t r).regs = s.regs ∧
      (r.desc.write = false ∨ r.desc.farTier = 0 → (movedAll s t r).tier = s.tier) := by
  refine (List.foldlRecOn (motive := fun u => now u = now s ∧ u.feat = s.feat ∧ u.regs = s.regs ∧
    (r.desc.write = false ∨ r.desc.farTier = 0 → u.tier = s.tier)) r.elems _ ⟨rfl, rfl, rfl, fun _ => rfl⟩ ?_).2
  rintro u ⟨hnow, hfeat, hregs, htier⟩ e -
  have hu : NoneDue u r := by
    unfold NoneDue
    rwa [hfeat, hnow]
  by_cases h0 : r.desc.farTier = 0
  · rw [moveElem_t0 u t r e h0]
    exact ⟨hnow, hfeat, hregs, htier⟩
  · cases hw : r.desc.write with
    | false =>
      rw [moveElem_read u t r e h0 hw, settledFor_noneDue hu]
      rw [hw] at htier
      exact ⟨hnow, hfeat, hregs, htier⟩
    | true =>
      rw [moveElem_write u t r e h0 (fun h => by simp [h2 h] at hw) hw]
      exact ⟨hnow, hfeat, hregs, fun h => h.elim (absurd · (by decide)) (absurd · h0)⟩

theorem length_farData (s : State) (r : StreamRun) (e : Nat × Nat × Nat) : (farData s r e).length = e.2.2 := by
  have hmem : ∀ (m : Table Byte) (a n : Nat), (memRead m a n).length = n := fun m a n => by
    induction n generalizing a with
    | zero => rfl
    | succ n ih => rw [memRead, List.length_cons, ih]
  unfold farData
  split
  · exact hmem ..
  · unfold farRead
    split
    · exact hmem ..
    · rw [List.length_map, List.length_range]

theorem length_sramRead (x : Tile) (t : Nat) (r : StreamRun) (off n : Nat) : (sramRead x t r off n).length = n := by
  unfold sramRead
  rw [List.length_map, List.length_range]

/-- A read changes SRAM at its elements only. -/
theorem sram_movedAll_read (s : State) (t : Nat) {r : StreamRun} (h0 : r.desc.farTier ≠ 0) (hw : r.desc.write = false) {a : Nat}
    (ha : ∀ e ∈ r.elems, a < runKey r e.2.1 ∨ runKey r e.2.1 + e.2.2 ≤ a) :
    tget (tileAt (movedAll s t r) t).sram a = tget (tileAt s t).sram a := by
  refine List.foldlRecOn (motive := fun u => tget (tileAt u t).sram a = tget (tileAt s t).sram a) r.elems _ rfl fun u hu e he => ?_
  rw [moveElem_read u t r e h0 hw, (wroteSram_putSram _ t _ _).2 a (by rw [length_farData]; exact ha e he),
    tileAt_of_tiles (settledFor_tiles u r e), hu]

/-- A write to T1 changes no SRAM, and T1 at its elements only. -/
theorem movedAll_write (s : State) (t : Nat) {r : StreamRun} (h0 : r.desc.farTier ≠ 0) (h2 : r.desc.farTier ≠ 2)
    (hw : r.desc.write = true) : (tileAt (movedAll s t r) t).sram = (tileAt s t).sram ∧
      ∀ a, (∀ e ∈ r.elems, a < t1Key r.ctx e.1 ∨ t1Key r.ctx e.1 + e.2.2 ≤ a) →
        memByte (movedAll s t r).tier.t1 a = memByte s.tier.t1 a := by
  constructor
  · exact foldl_keeps (fun u => (tileAt u t).sram) _ (fun u e => by rw [moveElem_write u t r e h0 h2 hw]; rfl) _ s
  · intro a ha
    refine List.foldlRecOn (motive := fun (u : State) => memByte u.tier.t1 a = memByte s.tier.t1 a) r.elems _ rfl fun u hu e he => ?_
    rw [moveElem_write u t r e h0 h2 hw, (wroteMem_t1Write u r.ctx e.1 _).2 a (by rw [length_sramRead]; exact ha e he), hu]

/-! ### Landing -/

/-- A tile with its SRAM as before and every stream of the run `r` complete; other tiles and all else untouched. -/
structure RunsDone (t : Nat) (r : StreamRun) (s u : State) : Prop where
  sram : (tileAt u t).sram = (tileAt s t).sram
  done : ∀ q ∈ (tileAt u t).streams, SameRun r q → q.done = true
  others : ∀ i, i ≠ t → tileAt u i = tileAt s i
  rest : u = { s with tiles := u.tiles }

theorem runsDone_setRun (s : State) (t : Nat) (r : StreamRun) : RunsDone t r s (setRun s t { r with done := true }) := by
  have htile : tileAt (setRun s t { r with done := true }) t = _ := tileAt_setTile_same ..
  refine ⟨by rw [htile], fun q hq hsame => ?_, fun i hi => tileAt_setTile_ne _ _ _ _ hi, rfl⟩
  rw [htile] at hq
  obtain ⟨p, -, rfl⟩ := List.mem_map.mp hq
  by_cases hp : p.index = r.index ∧ p.entry = r.entry ∧ p.frame = r.frame
  · rw [if_pos hp]
  · rw [if_neg hp] at hsame
    exact absurd hsame hp

/-- A change of the tile that keeps its SRAM and its streams keeps the runs complete. -/
theorem RunsDone.setTile {t : Nat} {r : StreamRun} {s u : State} (h : RunsDone t r s u) {x : Tile}
    (hm : x.sram = (tileAt u t).sram) (hs : x.streams = (tileAt u t).streams) : RunsDone t r s (setTile u t x) := by
  refine ⟨by rw [tileAt_setTile_same, hm, h.sram], fun q hq => ?_, fun i hi => ?_, ?_⟩
  · rw [tileAt_setTile_same, hs] at hq
    exact h.done q hq
  · rw [tileAt_setTile_ne _ _ _ _ hi, h.others i hi]
  · conv_lhs => rw [h.rest]
    rfl

theorem runsDone_woken (s : State) (t : Nat) (r : StreamRun) :
    RunsDone t r s (wakeTask (touch (setRun s t { r with done := true }) t r.entry) t r) := by
  have htouch : RunsDone t r s (touch (setRun s t { r with done := true }) t r.entry) :=
    (runsDone_setRun s t r).setTile rfl rfl
  unfold wakeTask
  split
  · split
    · exact htouch.setTile rfl rfl
    · exact htouch
  · exact htouch

/-- Counting hits changes the lines of the tile's Spire and one count of its weight cache (R133, R140). -/
theorem countHits_fields (s : State) (t : Nat) (r : StreamRun) :
    RegsBut [regAddr (.wcache (tileSpire t)) 0x18] s (countHits s t r) ∧
      countHits s t r = { s with spires := (countHits s t r).spires, regs := (countHits s t r).regs } := by
  unfold countHits
  dsimp only
  split
  · exact ⟨regsBut_bump (setSpire s (tileSpire t) _) _ _ _, rfl⟩
  · exact ⟨regsBut_refl _ s, rfl⟩

/-- A Spire's weight cache lies below the blocks of its tiles (R68). -/
theorem streamBlk_ne_wcache (d : StreamDesc) (t : Nat) {off o : Nat} (ho : o < 0x1000) :
    regAddr (streamBlk d t) off ≠ regAddr (.wcache (tileSpire t)) o := by
  rw [streamBlk_regAddr]
  simp only [regAddr, blkBase, tileBase, tileSpire]
  split <;> omega

theorem streamBlk_below_keeps (d : StreamDesc) {t off : Nat} (ht : t < 640) (ho : off < 0x1000) :
    regAddr (streamBlk d t) off < 0x20000000 := by
  rw [streamBlk_regAddr, tileBase]
  split <;> omega

/-- The registers that a landing counts in (R133, R142). -/
def landRegs (t : Nat) (r : StreamRun) : List Nat :=
  [regAddr (streamBlk r.desc t) 0x10, regAddr (streamBlk r.desc t) 0x18, regAddr (.wcache (tileSpire t)) 0x18]

/-- Bytes and elements of a landing counted, and its hits (R129, R133, R142). -/
def countLanding (s : State) (t : Nat) (r : StreamRun) : State :=
  bump (bump (countHits s t r) (streamBlk r.desc t) 0x10 (chargedBytes r)) (streamBlk r.desc t) 0x18 r.elems.length

theorem land_eq (s : State) (t : Nat) (r : StreamRun) : land s t r =
    wakeTask (touch (setRun (countLanding (movedAll s t r) t r) t { r with done := true }) t r.entry) t r := rfl

theorem countLanding_fields (s : State) (t : Nat) (r : StreamRun) : RegsBut (landRegs t r) s (countLanding s t r) ∧
    countLanding s t r = { s with spires := (countLanding s t r).spires, regs := (countLanding s t r).regs } := by
  obtain ⟨hregs, hrest⟩ := countHits_fields s t r
  have hcount := (onlyRegs_bump (countHits s t r) (streamBlk r.desc t) 0x10 (chargedBytes r)).trans
    (onlyRegs_bump _ (streamBlk r.desc t) 0x18 r.elems.length)
  refine ⟨((hregs.mono (by simp [landRegs])).trans ((regsBut_bump _ _ _ _).mono (by simp [landRegs]))).trans
    ((regsBut_bump _ _ _ _).mono (by simp [landRegs])), ?_⟩
  have h : countLanding s t r = { countHits s t r with regs := (countLanding s t r).regs } := hcount
  generalize countLanding s t r = u at *
  rw [hrest] at h
  rw [h]

theorem counted_countLanding_bytes (s : State) (t : Nat) (r : StreamRun) :
    Counted s (countLanding s t r) (streamBlk r.desc t) 0x10 (chargedBytes r) := by
  have hhits := (countHits_fields s t r).1.reg (streamBlk r.desc t) 0x10
    (by simpa using streamBlk_ne_wcache r.desc t (by decide))
  have hcount := counted_of_reg (counted_bump (countHits s t r) (streamBlk r.desc t) 0x10 (chargedBytes r)) hhits
  unfold Counted at hcount ⊢
  rw [← hcount]
  exact congrArg BitVec.toNat ((regsBut_bump _ _ _ _).reg _ _ (by simpa using regAddr_inj _ (by decide)))

theorem counted_countLanding_elems (s : State) (t : Nat) (r : StreamRun) :
    Counted s (countLanding s t r) (streamBlk r.desc t) 0x18 r.elems.length := by
  refine counted_of_reg (counted_bump _ _ _ _) ?_
  rw [(regsBut_bump _ _ _ _).reg _ _ (by simpa using regAddr_inj _ (by decide)), (countHits_fields s t r).1.reg _ _
    (by simpa using streamBlk_ne_wcache r.desc t (by decide))]

/-- What a landing adds to the moves of its elements: it counts, completes the run and wakes the task, with SRAM, T1 and
the deltas as the moves left them. -/
structure Landed (t : Nat) (r : StreamRun) (v u : State) : Prop where
  sram : (tileAt u t).sram = (tileAt v t).sram
  done : ∀ q ∈ (tileAt u t).streams, SameRun r q → q.done = true
  others : ∀ i, i ≠ t → tileAt u i = tileAt v i
  bytes : Counted v u (streamBlk r.desc t) 0x10 (chargedBytes r)
  count : Counted v u (streamBlk r.desc t) 0x18 r.elems.length
  regs : RegsBut (landRegs t r) v u
  rest : u = { v with tiles := u.tiles, spires := u.spires, regs := u.regs }

theorem landed_land (s : State) (t : Nat) (r : StreamRun) : Landed t r (movedAll s t r) (land s t r) := by
  rw [land_eq]
  generalize movedAll s t r = v
  have hdone := runsDone_woken (countLanding v t r) t r
  obtain ⟨hregs, hrest⟩ := countLanding_fields v t r
  have hbytes := counted_countLanding_bytes v t r
  have hcount := counted_countLanding_elems v t r
  generalize countLanding v t r = w at *
  have hw : ∀ i, tileAt w i = tileAt v i := tileAt_of_tiles (by rw [hrest])
  generalize wakeTask _ t r = u at *
  have hu : u.regs = w.regs := by rw [hdone.rest]
  refine ⟨by rw [hdone.sram, hw], hdone.done, fun i hi => by rw [hdone.others i hi, hw], hbytes.of_regs hu, hcount.of_regs hu,
    hregs.of_regs hu, ?_⟩
  have h := hdone.rest
  rw [hrest] at h
  rw [h]


/-! ### STREAM_COMPLETE and POOL_READ_COMPLETE -/

theorem landRun_next (s : State) (t : Nat) (r : StreamRun) : ∃ u, landRun s t r = .next u := by
  unfold landRun
  repeat' split
  all_goals exact ⟨_, rfl⟩

/-- A run with nothing left in its way lands (R128). -/
theorem landRun_lands {s : State} {t : Nat} {r : StreamRun} (hfew : r.tooMany = false)
    (hfault : firstFault s r (runSize s t r) = none) (hmiss : missing s t r = []) (hwait : awaited s r = []) :
    landRun s t r = .next (land s t r) := by
  unfold landRun
  rw [if_neg (by simp [hfew, hfault]), if_neg (by simp [hmiss]), if_neg (by simp [hwait])]

theorem streamComplete_completes (s : State) {t : Nat} (idx : Nat) (ht : t < 640) : Completes (.streamComplete t idx) s := by
  show ∃ u, execStreamComplete t idx s = .next u
  unfold execStreamComplete
  rw [if_neg (by omega)]
  split
  · exact ⟨_, rfl⟩
  · exact landRun_next s t _

theorem poolReadComplete_completes (s : State) {t : Nat} (idx : Nat) (failed late : Bool) (ht : t < 640) :
    Completes (.poolReadComplete t idx failed late) s := by
  show ∃ u, execPoolReadComplete t idx failed late s = .next u
  unfold execPoolReadComplete
  rw [if_neg (by omega)]
  split
  · exact ⟨_, rfl⟩
  · rename_i r hr
    obtain ⟨u, hu⟩ := landRun_next s t r
    rw [hu]
    repeat' split
    all_goals exact ⟨_, rfl⟩

/-- STREAM_COMPLETE lands the run of its descriptor, and so does POOL_READ_COMPLETE of a T2 run in time (R128, R295). -/
theorem complete_lands {s : State} {t idx : Nat} {r : StreamRun} {c : Instr} (ht : t < 640) (hr : runAt s t idx = some r)
    (hc : c = .streamComplete t idx ∨ (c = .poolReadComplete t idx false false ∧ r.desc.farTier = 2 ∧
      now s < r.frame + r.desc.landFrames)) : exec c s = landRun s t r := by
  rcases hc with rfl | ⟨rfl, h2, hnow⟩
  · show execStreamComplete t idx s = _
    unfold execStreamComplete
    rw [if_neg (by omega)]
    simp only [hr]
  · show execPoolReadComplete t idx false false s = _
    have hlate : decide (r.frame + r.desc.landFrames ≤ now s) = false := decide_eq_false (Nat.not_le.mpr hnow)
    unfold execPoolReadComplete
    rw [if_neg (by omega)]
    simp only [hr]
    rw [if_neg (by simp [h2, hlate])]
    rfl

/-! ### A pool read that fails -/

/-- The registers that telling of a breach may change: Belfry's counts and flags, and the count of frames sent. -/
def breachRegs : List Nat :=
  [regAddr .belfry 0x00, regAddr .belfry 0x20, regAddr .belfry 0x30, regAddr .belfry 0x170, regAddr .mac 0x50]

theorem regs_endRequest (s : State) (e status due : Nat) : (endRequest s e status due).regs = s.regs := by
  unfold endRequest
  split
  · rfl
  · split
    · rfl
    · dsimp only
      rw [(dropped_dropWork _ e).rest]
      rfl

theorem regs_affect (s : State) (es : List Nat) (status : Nat) : (affect s es status).regs = s.regs := by
  refine foldl_keeps State.regs _ (fun u e => (regs_endRequest _ e status _).trans ?_) es s
  unfold updReq
  split <;> rfl

theorem regsBut_faultReport (s : State) (n arg0 arg1 : Nat) : RegsBut breachRegs s (faultReport s n arg0 arg1) := by
  unfold faultReport
  split
  · exact regsBut_refl _ s
  · dsimp only
    split
    · exact (handed_eventTo _ n 0x0D arg0 arg1).2.1.mono (by simp [breachRegs])
    · exact (regsBut_bump s .belfry 0x30 1).mono (by simp [breachRegs])

theorem RegsBut.foldl {α : Type} {l : List Nat} (f : State → α → State) (h : ∀ s x, RegsBut l s (f s x)) (xs : List α) (s : State) :
    RegsBut l s (xs.foldl f s) :=
  List.foldlRecOn (motive := RegsBut l s) xs f (regsBut_refl l s) fun u hu x _ => hu.trans (h u x)

theorem regsBut_recordDetection (s : State) (d : Detection) (action : Nat) (hd : d.mech = 0x0E) :
    RegsBut breachRegs s (recordDetection s d action) := by
  have hlog : RegsBut breachRegs s _ :=
    (loggedBut_logEntry s 1 d.mech action d.ctx d.unit d.entry d.detail).2.1.mono (by simp [breachRegs])
  unfold recordDetection
  rw [hd]
  refine RegsBut.trans (t := logEntry s 1 0x0E action d.ctx d.unit d.entry d.detail) (hd ▸ hlog) ?_
  exact (((regsBut_bump _ .belfry 0x20 1).mono (by simp [breachRegs])).trans
    ((regsBut_bump _ .belfry 0x170 1).mono (by simp [breachRegs]))).trans
    ((regsBut_setFlag _ .belfry 0x00 1).mono (by simp [breachRegs]))

theorem regsBut_told (s : State) (d : Detection) (action seq : Nat) : RegsBut breachRegs s (told s d action seq) := by
  have haffect : RegsBut breachRegs s (affect s d.affected (if d.mech = 0x0B ∨ d.mech = 0x0E then stBreached else stFault)) :=
    (regsBut_refl _ s).of_regs (regs_affect ..)
  exact (haffect.trans (RegsBut.foldl _ (fun u _ => regsBut_faultReport u _ _ _) _ _)).trans
    (RegsBut.foldl _ (fun u n => regsBut_faultReport u n _ _) _ _)

/-- A detection of a breach counts in Belfry and tells the sessions, no more of the registers (R42, R387, R403). -/
theorem regsBut_detect {s : State} {d : Detection} (hm : d.mech = 0x0E) (ha : d.action = 0) (hk : d.key = none) :
    RegsBut breachRegs s (detect s d) := by
  have hrec := regsBut_recordDetection s d 0 hm
  unfold detect
  simp only [recurs, hk, ha, Bool.false_eq_true, if_false]
  split
  · exact hrec
  · rw [if_neg (by decide), if_neg (by decide)]
    exact (hrec.of_regs rfl).trans (regsBut_told _ d 0 s.belfry.seq)

theorem regsBut_missed (s : State) (e : Nat) : RegsBut breachRegs s (missed s e) := by
  unfold missed
  split
  · exact regsBut_refl _ s
  · split
    · unfold replan
      repeat' split
      all_goals exact (regsBut_refl _ s).of_regs rfl
    · unfold breach
      split
      · exact regsBut_refl _ s
      · split
        · exact regsBut_refl _ s
        · exact regsBut_detect rfl rfl rfl

/-- The registers that a stall of cause `k` in context `c` counts in, and those of its log entry (R278, R401). -/
def stallRegs (k c : Nat) : List Nat :=
  [regAddr .tier (0x100 + 8 * k), regAddr .tier (0x200 + 8 * c), regAddr .belfry 0x30, regAddr .belfry 0x00]

theorem regsBut_stall_counts (s : State) (k c unit e : Nat) :
    RegsBut [regAddr .tier (0x200 + 8 * c), regAddr .belfry 0x30, regAddr .belfry 0x00]
      (bump s .tier (0x100 + 8 * k) 1) (stall s k c unit e) :=
  ((regsBut_bump _ .tier (0x200 + 8 * c) 1).mono (by simp)).trans
    ((loggedBut_of_class _ 0 3 c unit e k (cls := 4) (by decide)).2.1.mono (by simp))

theorem regsBut_stall (s : State) (k c unit e : Nat) : RegsBut (stallRegs k c) s (stall s k c unit e) :=
  ((regsBut_bump s .tier (0x100 + 8 * k) 1).mono (by simp [stallRegs])).trans
    ((regsBut_stall_counts s k c unit e).mono (by simp [stallRegs]))

/-- A stall counts under its cause (R278). -/
theorem counted_stall (s : State) {k : Nat} (c unit e : Nat) (hk : k < 32) : Counted s (stall s k c unit e) .tier (0x100 + 8 * k) 1 := by
  have hreg := (regsBut_stall_counts s k c unit e).reg .tier (0x100 + 8 * k) (by
    simp only [regAddr, blkBase, List.mem_cons, List.not_mem_nil, or_false]
    omega)
  unfold Counted
  rw [hreg]
  exact counted_bump s .tier _ 1

/-- The failure of a pool read as the flash tier counts it (R295). -/
def countFailure (s : State) : State := setFlag (bump s .flash 0x50 1) .flash 0x08 5

/-- A pool read that failed: counted, its run over, the stall of cause T2_FAIL, and its request told (R278, R295). -/
def failedRead (s : State) (t : Nat) (r : StreamRun) : State :=
  missed (stall (setRun (countFailure s) t { r with done := true }) 5 r.ctx t r.entry) r.entry

theorem poolRead_fails {s : State} {t idx : Nat} {r : StreamRun} {late : Bool} (ht : t < 640) (hr : runAt s t idx = some r)
    (h2 : r.desc.farTier = 2) (hlate : late = decide (r.frame + r.desc.landFrames ≤ now s)) :
    Does (.poolReadComplete t idx true late) s (failedRead s t r) := by
  show execPoolReadComplete t idx true late s = _
  unfold execPoolReadComplete
  rw [if_neg (by omega)]
  simp only [hr]
  rw [if_neg (by simp [h2, hlate])]
  rfl

theorem counted_failedRead (s : State) (t : Nat) (r : StreamRun) : Counted s (failedRead s t r) .flash 0x50 1 ∧
    FlagUp (failedRead s t r) .flash 0x08 5 ∧ Counted s (failedRead s t r) .tier 0x128 1 := by
  have hstall := regsBut_stall (setRun (countFailure s) t { r with done := true }) 5 r.ctx t r.entry
  have hcount := counted_stall (setRun (countFailure s) t { r with done := true }) (k := 5) r.ctx t r.entry (by decide)
  have hmissed := regsBut_missed (stall (setRun (countFailure s) t { r with done := true }) 5 r.ctx t r.entry) r.entry
  have hflash : ∀ o, o < 0x100 → reg (failedRead s t r) .flash o = reg (countFailure s) .flash o := fun o ho => by
    have hb : regAddr .flash o ∉ breachRegs := by
      simp only [breachRegs, regAddr, blkBase, List.mem_cons, List.not_mem_nil, or_false]
      omega
    have hs : regAddr .flash o ∉ stallRegs 5 r.ctx := by
      simp only [stallRegs, regAddr, blkBase, List.mem_cons, List.not_mem_nil, or_false]
      omega
    exact (hmissed.reg .flash o hb).trans (hstall.reg .flash o hs)
  refine ⟨?_, ?_, ?_⟩
  · unfold Counted
    rw [hflash _ (by decide), countFailure, (regsBut_setFlag _ _ _ _).reg _ _ (by simpa using regAddr_inj _ (by decide))]
    exact counted_bump s .flash 0x50 1
  · unfold FlagUp
    rw [hflash _ (by decide)]
    exact flagUp_setFlag _ _ _ _ (by decide)
  · have hstart : reg (countFailure s) .tier 0x128 = reg s .tier 0x128 := by
      rw [countFailure, (regsBut_setFlag _ _ _ _).reg _ _ (by decide), (regsBut_bump _ _ _ _).reg _ _ (by decide)]
    have hend := hmissed.reg .tier 0x128 (by decide)
    have hs := counted_of_reg hcount hstart
    unfold Counted at hs ⊢
    rw [← hs]
    exact congrArg BitVec.toNat hend

/-! ### The streams land -/

/-- The frame of a landing, whatever its elements: counts, completion, the other tiles, and, with no due delta in its way,
T1 and the deltas (R128, R129, R142). -/
theorem land_frame {s : State} {t : Nat} {r : StreamRun} (ht : t < 640) (h2 : r.desc.farTier = 2 → r.desc.write = false) :
    Counted s (land s t r) (streamBlk r.desc t) 0x10 (chargedBytes r) ∧
    Counted s (land s t r) (streamBlk r.desc t) 0x18 r.elems.length ∧
    (∀ i, i ≠ t → tileAt (land s t r) i = tileAt s i) ∧
    land s t r = { s with tiles := (land s t r).tiles, tier := (land s t r).tier, spires := (land s t r).spires,
                          regs := (land s t r).regs, feat := (land s t r).feat } ∧
    (NoneDue s r → (land s t r).feat = s.feat ∧ (r.desc.write = false ∨ r.desc.farTier = 0 → (land s t r).tier = s.tier) ∧
      RegsBut (landRegs t r) s (land s t r)) := by
  have hland := landed_land s t r
  have hmoved := moved_movedAll s t r
  have hquiet : NoneDue s r → _ := fun h => movedAll_noneDue t h h2
  have hother : ∀ i, i ≠ t → tileAt (movedAll s t r) i = tileAt s i := fun i hi => tileAt_movedAll_ne s r hi
  generalize movedAll s t r = v at *
  generalize land s t r = u at *
  have hblk : ∀ o, o < 0x1000 → reg v (streamBlk r.desc t) o = reg s (streamBlk r.desc t) o := fun o ho =>
    hmoved.reg _ _ (streamBlk_below_keeps r.desc ht ho)
  refine ⟨counted_of_reg hland.bytes (hblk _ (by decide)), counted_of_reg hland.count (hblk _ (by decide)),
    fun i hi => (hland.others i hi).trans (hother i hi), ?_, fun h => ?_⟩
  · have h := hland.rest
    rw [hmoved.rest] at h
    rw [h]
  · obtain ⟨hfeat, hregs, htier⟩ := hquiet h
    refine ⟨by rw [hland.rest, hfeat], fun hw => by rw [hland.rest, htier hw], fun a ha => ?_⟩
    rw [hland.regs a ha, hregs]

/-- The data that a single element brings, in SRAM or in T1 (R126). -/
theorem land_one {s : State} {t : Nat} {r : StreamRun} {e : Nat × Nat × Nat} (he : r.elems = [e]) :
    (r.desc.farTier = 0 → WroteSram (tileAt s t).sram (tileAt (land s t r) t).sram
      (runKey r (if r.desc.write then e.1 else e.2.1))
      (sramRead (tileAt s t) t r (if r.desc.write then e.2.1 else e.1) e.2.2)) ∧
    (r.desc.farTier ≠ 0 → r.desc.write = false → WroteSram (tileAt s t).sram (tileAt (land s t r) t).sram (runKey r e.2.1)
      (if r.desc.farTier = 2 then t2Read s e.1 e.2.2 else farRead (land s t r) r e.1 e.2.2)) ∧
    (r.desc.farTier ≠ 0 → r.desc.farTier ≠ 2 → r.desc.write = true → WroteMem s.tier.t1 (land s t r).tier.t1 (t1Key r.ctx e.1)
      (sramRead (tileAt s t) t r e.2.1 e.2.2)) := by
  have hland := landed_land s t r
  rw [movedAll_one he] at hland
  have htier : (land s t r).tier = (moveElem s t r e).tier := by rw [hland.rest]
  refine ⟨fun h0 => ?_, fun h0 hw => ?_, fun h0 h2 hw => ?_⟩
  · rw [hland.sram, moveElem_t0 s t r e h0]
    exact wroteSram_putSram ..
  · have hread := wroteSram_putSram (settledFor s r e) t (runKey r e.2.1) (farData (settledFor s r e) r e)
    rw [tileAt_of_tiles (settledFor_tiles s r e)] at hread
    have hfar : farRead (land s t r) r e.1 e.2.2 = farRead (settledFor s r e) r e.1 e.2.2 := by
      rw [moveElem_read s t r e h0 hw] at htier
      unfold farRead t1Read
      rw [htier]
      rfl
    have hflash : t2Read (settledFor s r e) e.1 e.2.2 = t2Read s e.1 e.2.2 := by
      unfold t2Read
      rw [(moved_settledFor t s r e).rest]
    rw [hland.sram, moveElem_read s t r e h0 hw, hfar, ← hflash]
    exact hread
  · rw [htier, moveElem_write s t r e h0 h2 hw]
    exact wroteMem_t1Write ..

/-- Settles O24: a landing is its moves, each a write to SRAM or T1, and then counts; by induction on the elements the moves
stay within them. -/
theorem streamsLand : Obligations.StreamsLand := by
  refine ⟨fun s t idx failed late ht => ⟨streamComplete_completes s idx ht, poolReadComplete_completes s idx failed late ht⟩,
    fun s t idx r c ht hr hfew hfault hmiss hwait hc h2 => ?_, fun s t idx r late ht hr h2 hlate => ?_⟩
  · have hdoes : Does c s (land s t r) := (complete_lands ht hr hc).trans (landRun_lands hfew hfault hmiss hwait)
    have hland := landed_land s t r
    obtain ⟨hbytes, hcount, hother, hrest, hquiet⟩ := land_frame ht h2
    refine ⟨_, hdoes, hbytes, hcount, fun q hq hi he hf => hland.done q hq ⟨hi, he, hf⟩, hother, hrest, hquiet,
      fun h0 e he => (land_one he).1 h0, fun h0 hw => ⟨fun a ha => ?_, fun e he => (land_one he).2.1 h0 hw⟩, fun h0 hw => ?_⟩
    · rw [hland.sram]
      exact sram_movedAll_read s t h0 hw ha
    · have hn2 : r.desc.farTier ≠ 2 := fun h => by simp [h2 h] at hw
      obtain ⟨hsram, ht1⟩ := movedAll_write s t h0 hn2 hw
      refine ⟨hland.sram.trans hsram, fun a ha => ?_, fun e he => (land_one he).2.2 h0 hn2 hw⟩
      rw [hland.rest]
      exact ht1 a ha
  · exact ⟨⟨_, poolRead_fails ht hr h2 hlate, counted_failedRead s t r⟩,
      fun _ _ _ => poolReadComplete_completes s idx false late ht⟩

end Sys2Proof.Machine
end

section
namespace Sys2Proof.Machine

/-! ### Sessions that end -/

/-- No session opens. -/
def OpensNone (s u : State) : Prop := ∀ n, sessAt s n = none → sessAt u n = none

theorem OpensNone.refl (s : State) : OpensNone s s := fun _ h => h

theorem OpensNone.trans {s u v : State} (h : OpensNone s u) (k : OpensNone u v) : OpensNone s v := fun n hn => k n (h n hn)

theorem OpensNone.foldl {α : Type} (f : State → α → State) (h : ∀ s x, OpensNone s (f s x)) (l : List α) (s : State) :
    OpensNone s (l.foldl f s) :=
  List.foldlRecOn (motive := OpensNone s) l f (.refl s) fun u hu x _ => hu.trans (h u x)

theorem opensNone_setSess {s : State} {n : Nat} {x : Session} (hx : sessAt s n = some x) (y : Session) :
    OpensNone s (setSess s n y) := fun m hm => by
  have hne : m ≠ n := by
    rintro rfl
    simp [hx] at hm
  rwa [sessAt_setSess_ne s n m y hne]

theorem opensNone_pump (n q fuel : Nat) (s : State) : OpensNone s (pump s n q fuel) := by
  induction fuel generalizing s with
  | zero => exact .refl s
  | succ k ih =>
    unfold pump
    split
    · exact .refl s
    · rename_i x hx
      split
      · exact .refl s
      · split
        · exact OpensNone.trans (u := sendPacket s n q x _) (opensNone_setSess hx _) (ih _)
        · exact .refl s

theorem opensNone_pumpAll (n q : Nat) (s : State) : OpensNone s (pumpAll s n q) := by
  unfold pumpAll
  split
  · exact .refl s
  · split
    · exact .refl s
    · exact opensNone_pump n q _ s

theorem opensNone_sendMsg (s : State) (n q type tag : Nat) (body : List Byte) : OpensNone s (sendMsg s n q type tag body) := by
  unfold sendMsg
  split
  · exact .refl s
  · rename_i x hx
    split
    · exact .refl s
    · refine OpensNone.trans ?_ (opensNone_pumpAll n q _)
      exact opensNone_setSess hx _

theorem opensNone_eventTo (s : State) (n code a b : Nat) : OpensNone s (eventTo s n code a b) := by
  unfold eventTo sendCtl
  split
  · exact .refl s
  · exact opensNone_sendMsg s n _ _ _ _

/-- What the end of sessions leaves: the device, the image, the tiers, the secure flash, the timer, the management links and
the media's data; and no session opens (R327, R357). -/
structure SessionsEnd (s u : State) : Prop where
  dev : u.dev = s.dev
  img : u.img = s.img
  tier : u.tier = s.tier
  nv : u.nv = s.nv
  frame : u.frame = s.frame
  links : u.lantern.links = s.lantern.links
  data : u.flash.data = s.flash.data
  sessions : OpensNone s u

theorem SessionsEnd.refl (s : State) : SessionsEnd s s := ⟨rfl, rfl, rfl, rfl, rfl, rfl, rfl, .refl s⟩

theorem SessionsEnd.trans {s u v : State} (h : SessionsEnd s u) (k : SessionsEnd u v) : SessionsEnd s v :=
  ⟨k.dev.trans h.dev, k.img.trans h.img, k.tier.trans h.tier, k.nv.trans h.nv, k.frame.trans h.frame, k.links.trans h.links,
    k.data.trans h.data, h.sessions.trans k.sessions⟩

theorem sessionsEnd_orphan (s : State) (n : Nat) : SessionsEnd s (orphan s n) := by
  unfold orphan
  dsimp only
  split
  · exact ⟨rfl, rfl, rfl, rfl, rfl, rfl, rfl, fun _ h => h⟩
  · exact ⟨rfl, rfl, rfl, rfl, rfl, rfl, rfl, fun _ h => h⟩

theorem sessionsEnd_eventPriv (s : State) (code a b : Nat) : SessionsEnd s (eventPriv s code a b) := by
  have h := handed_eventPriv s code a b
  exact ⟨h.dev, h.img, by rw [h.fields], h.nv, h.frame, h.links, by rw [h.flash],
    OpensNone.foldl _ (fun u n => opensNone_eventTo u n _ _ _) _ s⟩

theorem sessionsEnd_loseDeltas (s : State) (endpoint : Nat) : SessionsEnd s (loseDeltas s endpoint) := by
  unfold loseDeltas
  dsimp only
  split
  · exact .refl s
  · refine SessionsEnd.trans ?_ (sessionsEnd_eventPriv _ _ _ _)
    exact ⟨rfl, rfl, rfl, rfl, rfl, rfl, rfl, fun _ h => h⟩

/-- The state without session `n`, its queues and what waits for it (R327). -/
def withoutSession (s : State) (n : Nat) (x : Session) : State :=
  { s with
    port := { s.port with sessions := tdel s.port.sessions n,
                          delivered := s.port.delivered.filter (fun d => decide (d.session ≠ n)) },
    flash := { s.flash with queues := s.flash.queues.filter (fun q => !(x.storqs.contains q.1)),
                            cmds := s.flash.cmds.filter (fun c => decide (c.session ≠ n) || c.started) } }

theorem sessionsEnd_withoutSession (s : State) (n : Nat) (x : Session) : SessionsEnd s (withoutSession s n x) := by
  refine ⟨rfl, rfl, rfl, rfl, rfl, rfl, rfl, fun m hm => ?_⟩
  by_cases hmn : m = n
  · rw [hmn]
    exact tget_tdel_same _ _
  · exact (tget_tdel_ne _ _ _ hmn).trans hm

/-- A session that ends without failure loses its queues, its contexts and, where it is this device's own, its deltas
(R327, R345, R357). -/
theorem endSession_eq {s : State} {n : Nat} {x : Session} (hx : sessAt s n = some x) : endSession s n false =
    if x.mine then loseDeltas (orphan (withoutSession s n x) n) x.endpoint else orphan (withoutSession s n x) n := by
  unfold endSession
  simp only [hx, Bool.false_eq_true, if_false]
  split
  · split <;> rfl
  · rfl

/-- A session ended without failure is gone, and no other opens (R327). -/
theorem endSession_ends (s : State) (n : Nat) : SessionsEnd s (endSession s n false) ∧ sessAt (endSession s n false) n = none := by
  cases hx : sessAt s n with
  | none =>
    have hstay : endSession s n false = s := by simp [endSession, hx]
    rw [hstay]
    exact ⟨.refl s, hx⟩
  | some x =>
    have hgone : sessAt (withoutSession s n x) n = none := tget_tdel_same _ _
    have hrest : SessionsEnd (withoutSession s n x) (endSession s n false) := by
      rw [endSession_eq hx]
      split
      · exact (sessionsEnd_orphan _ n).trans (sessionsEnd_loseDeltas _ _)
      · exact sessionsEnd_orphan _ n
    exact ⟨(sessionsEnd_withoutSession s n x).trans hrest, hrest.sessions n hgone⟩

theorem endSessions_ends (l : List Nat) (s : State) (h : ∀ n, sessAt s n = none ∨ n ∈ l) :
    let u := l.foldl (fun s n => endSession s n false) s
    SessionsEnd s u ∧ ∀ n, sessAt u n = none := by
  induction l generalizing s with
  | nil => exact ⟨.refl s, fun n => (h n).resolve_right List.not_mem_nil⟩
  | cons m l ih =>
    obtain ⟨hone, hgone⟩ := endSession_ends s m
    obtain ⟨hrest, hall⟩ := ih (endSession s m false) fun n => by
      rcases h n with hn | hn
      · exact .inl (hone.sessions n hn)
      · rcases List.mem_cons.mp hn with rfl | hn
        · exact .inl hgone
        · exact .inr hn
    exact ⟨hone.trans hrest, hall⟩

theorem endAllSessions_ends (s : State) : SessionsEnd s (endAllSessions s) ∧ ∀ n, sessAt (endAllSessions s) n = none := by
  refine endSessions_ends _ s fun n => ?_
  cases hn : sessAt s n with
  | none => exact .inl rfl
  | some x => exact .inr (List.mem_map.mpr ⟨(n, x), mem_of_tget hn, rfl⟩)

/-! ### The whole-device scrub -/

/-- A tile as a scrub leaves it: empty and idle (R361). -/
def wipedTile (x : Tile) : Tile :=
  { x with sram := [], vregs := [], inbox := [], spent := [], returns := [], passes := [], streams := [], task := none,
           run := .idle, occupant := none, switch := none, heldCtx := [] }

/-- No request, job or context runs on, and the scrub has begun (R361 steps 2 and 3). -/
def clearedFor (s : State) (reply : Nat × Nat) : State :=
  { s with
    adm := { Admission.reset with level := s.adm.level }, reqs := [], hold := [], dome := [],
    text := { queue := [], jobs := [], outputs := [] }, search := { s.search with cands := [], walks := [] },
    feat := { s.feat with area := [], tracker := [], reads := [] },
    sec := { s.sec with scrub := some 0, scrubReply := some reply },
    tiles := s.tiles.map (fun p => (p.1, wipedTile p.2)),
    belfry := { s.belfry with
      returning := (s.tiles.filter (fun p => !p.2.inService && decide (p.2.heldCtx ≠ []))).map (·.1) } }

theorem startScrub_eq (s : State) (reply : Nat × Nat) :
    startScrub s reply = sendBeacons (enterDev (clearedFor (endAllSessions s) reply) .slate 3) := rfl

theorem tileAt_clearedFor (s : State) (reply : Nat × Nat) (i : Nat) : tileAt (clearedFor s reply) i = wipedTile (tileAt s i) :=
  tgetD_map s.tiles wipedTile Tile.reset rfl i

theorem emitOut_only_out {s u : State} (h : u = { s with out := u.out }) (o : Out) :
    emitOut u o = { s with out := (emitOut u o).out } := by
  rw [h]
  rfl

theorem sendBeacons_fields (s : State) : sendBeacons s = { s with out := (sendBeacons s).out } := by
  unfold sendBeacons
  split
  · exact List.foldlRecOn (motive := fun (u : State) => u = { s with out := u.out }) _ _ rfl fun u hu _ _ =>
      emitOut_only_out hu _
  · rfl

/-- What entering Slate changes: the state, RDY, the log and the event to the sessions (R344, R348, R401). -/
theorem enterSlate_fields {s : State} (h : s.dev ≠ .slate) :
    let u := enterDev s .slate 3
    OpensNone s u ∧ u = { s with
      dev := .slate, reason := 3, pins := { s.pins with rdy := false }, regs := u.regs, out := u.out,
      port := { s.port with sessions := u.port.sessions }, belfry := u.belfry,
      lantern := { s.lantern with volatileLog := u.lantern.volatileLog } } := by
  dsimp only
  let v : State := { s with dev := .slate, reason := 3, pins := { s.pins with rdy := false } }
  have heq : enterDev s .slate 3 = eventAll (logService v 0x0600 3) 0x01 3 (devCode s.dev) := by
    unfold enterDev
    rw [if_neg h]
    rfl
  rw [heq]
  obtain ⟨-, -, hlog⟩ := loggedBut_of_class v 0 3 0xFF 0x0600 0xFFFF 3 (cls := 3) (by decide)
  have hsent := (handed_eventAll (logService v 0x0600 3) 0x01 3 (devCode s.dev)).fields
  have hnone : OpensNone (logService v 0x0600 3) (eventAll (logService v 0x0600 3) 0x01 3 (devCode s.dev)) :=
    OpensNone.foldl _ (fun u n => opensNone_eventTo u n _ _ _) _ _
  change logService v 0x0600 3 = _ at hlog
  generalize eventAll (logService v 0x0600 3) 0x01 3 (devCode s.dev) = u at *
  generalize logService v 0x0600 3 = w at *
  have hw : OpensNone s w := fun n hn => by
    rw [hlog]
    exact hn
  refine ⟨hw.trans hnone, ?_⟩
  rw [hlog] at hsent
  rw [hsent]

theorem scrub_does {s : State} {m : MgmtReq} {l : Link} (h : MgmtReady s m 0x22 roleMaintain l)
    (hdev : s.dev = .sable ∨ s.dev = .ivory ∨ s.dev = .amber) (hphase : s.power.phase = 0 ∨ 9 ≤ s.power.phase) :
    Does (.scrub m) s (startScrub s (m.link, m.seq)) := by
  have hmem : s.dev ∈ beforeSlate := by rcases hdev with hd | hd | hd <;> rw [hd] <;> decide
  have htests : testsDone s = true := by simpa [testsDone] using hphase
  show execScrub m s = _
  unfold execScrub
  exact plainRequest_runs _ h hmem htests rfl

theorem startScrub_leaves {s : State} (hdev : s.dev ≠ .slate) (reply : Nat × Nat) :
    let t := startScrub s reply
    t.dev = .slate ∧ t.pins.rdy = false ∧ t.sec.scrub = some 0 ∧ t.sec.scrubReply = some reply ∧ t.reqs = [] ∧ t.hold = [] ∧
      (∀ n, sessAt t n = none) ∧ (∀ i, (tileAt t i).sram = [] ∧ (tileAt t i).task = none) ∧ t.img = s.img ∧
      t.flash.data = s.flash.data ∧ t.tier = s.tier ∧ t.nv = s.nv ∧ t.frame = s.frame ∧
      t.lantern.links = s.lantern.links := by
  dsimp only
  obtain ⟨hend, hgone⟩ := endAllSessions_ends s
  rw [startScrub_eq]
  generalize endAllSessions s = v at *
  have htiles := tileAt_clearedFor v reply
  obtain ⟨hnone, hslate⟩ := enterSlate_fields (s := clearedFor v reply) (show v.dev ≠ .slate from hend.dev ▸ hdev)
  generalize enterDev (clearedFor v reply) .slate 3 = w at *
  have hout := sendBeacons_fields w
  generalize sendBeacons w = t at *
  rw [hslate] at hout
  have htile : ∀ i, tileAt t i = wipedTile (tileAt v i) := fun i =>
    (tileAt_of_tiles (s := clearedFor v reply) (by rw [hout]) i).trans (htiles i)
  have hsess : ∀ n, sessAt t n = sessAt w n := fun n => by rw [hout]; rfl
  refine ⟨by rw [hout], by rw [hout], by rw [hout]; rfl, by rw [hout]; rfl, by rw [hout]; rfl, by rw [hout]; rfl,
    fun n => (hsess n).trans (hnone n (hgone n)), fun i => by rw [htile]; exact ⟨rfl, rfl⟩, ?_, ?_, ?_, ?_, ?_, ?_⟩
  all_goals rw [hout]
  · exact hend.img
  · exact hend.data
  · exact hend.tier
  · exact hend.nv
  · exact hend.frame
  · exact hend.links

/-! ### CLOSE -/

theorem mem_inUseStates {s : State} (h : serving s = true) : s.dev ∈ inUseStates := by
  unfold serving at h
  cases hd : s.dev <;> simp_all [inUseStates]

theorem close_does {s : State} {m : MgmtReq} {l : Link} {c : Nat} {k : Ctx} (h : MgmtReady s m 0x21 roleMaintain l)
    (hv : serving s = true) (hc : c < 16) (hk : ctxAt s c = some k) (hopen : k.state = .opened) :
    Does (.close m c) s (mgmtReply (setCtx s c { k with closing := true }) m.link 0x21 0 m.seq []) := by
  show execClose m c s = _
  unfold execClose
  rw [plainRequest_runs _ h (mem_inUseStates hv) rfl (by simp [hc, ctxOpen, hk, hopen])]
  simp only [hk]
  rfl

theorem close_marks {s : State} {m : MgmtReq} {l : Link} {c : Nat} {k : Ctx} (h : MgmtReady s m 0x21 roleMaintain l)
    (hv : serving s = true) (hc : c < 16) (hk : ctxAt s c = some k) (hopen : k.state = .opened) :
    ∃ t, Does (.close m c) s t ∧ ctxAt t c = some { k with closing := true } ∧ (∀ d, d ≠ c → ctxAt t d = ctxAt s d) ∧
      MgmtAnswered { s with sec := { s.sec with ctxs := t.sec.ctxs } } t m l 0x21 0 [] := by
  have hl : tget (setCtx s c { k with closing := true }).lantern.links m.link = some l := link_of_ready h
  refine ⟨_, close_does h hv hc hk hopen, ?_⟩
  rw [mgmtReply_open 0x21 0 [] hl]
  exact ⟨ctxAt_setCtx_same s c _, fun d hd => ctxAt_setCtx_ne s c d _ hd, tget_tset_same _ _ _,
    fun i hi => tget_tset_ne _ _ _ _ hi, rfl⟩

/-! ### LEASE -/

/-- A LEASE message to a neighbour is an output of the device (R346). -/
theorem leaseSent_sendLease {s : State} {i n : Nat} {mine : Bool} {x : Session} (hn : neighbourSession s i mine = some n)
    (hx : SessionReady s n x) (op wire arg0 arg1 : Nat) (data : List Byte) :
    LeaseSent (sendLease s i mine op wire arg0 arg1 data) n x (now s) op wire arg0 arg1 data := by
  unfold LeaseSent sendLease
  simp only [hn]
  exact msg_mem_sendCtl 0x42 0 _ hx

theorem leaseRequest_asks {s : State} {m : MgmtReq} {l : Link} {i granules mbps j n : Nat} {x : Session}
    (h : MgmtReady s m 0x23 roleMaintain l) (hv : serving s = true) (hi : i < 16) (hg : granules < 2 ^ 64) (hm : mbps < 2 ^ 64)
    (hj : freeLease s = some j) (hn : neighbourSession s i true = some n) (hx : SessionReady s n x) :
    ∃ t, Does (.mgmtLeaseRequest m i granules mbps) s t ∧ LeaseSent t n x (now s) 1 j granules mbps [] ∧
      Handed { s with tier := { s.tier with asked := s.tier.asked ++ [(m.link, m.seq, i, j)] } } t := by
  let u : State := { s with tier := { s.tier with asked := s.tier.asked ++ [(m.link, m.seq, i, j)] } }
  refine ⟨sendLease u i true 1 j granules mbps [], ?_, leaseSent_sendLease (s := u) hn hx 1 j granules mbps [],
    handed_sendLease u i true 1 j granules mbps []⟩
  show execMgmtLeaseRequest m i granules mbps s = _
  unfold execMgmtLeaseRequest
  rw [plainRequest_runs _ h (mem_inUseStates hv) (by simp [hj]) (by rw [decide_eq_true hi, decide_eq_true hg, decide_eq_true hm]; rfl)]
  simp only [hj, Option.getD_some]
  rfl

/-- What a home becomes once lease `j` is gone (R276). -/
def lostHome (j : Nat) : Home → Home
  | .lease i off => if i = j then .lost else .lease i off
  | other => other

theorem tget_map {α β : Type} (m : Table α) (f : α → β) (k : Nat) : tget (m.map fun p => (p.1, f p.2)) k = (tget m k).map f := by
  induction m with
  | nil => rfl
  | cons e m ih =>
    obtain ⟨j, v⟩ := e
    simp only [List.map_cons, tget]
    split
    · rfl
    · exact ih

/-- The tiers without lease `j`: its homes lost, its fetches dropped (R276 step 3). -/
def withoutLease (s : State) (j : Nat) : State :=
  { s with tier := { s.tier with
    leases := tdel s.tier.leases j, homes := s.tier.homes.map (fun p => (p.1, lostHome j p.2)),
    fetch := s.tier.fetch.filter (fun p => !((leaseHomes s j).map (·.1)).contains p.1) } }

theorem loseLease_eq (s : State) (j : Nat) : loseLease s j = if (leaseHomes s j).length = 0 then withoutLease s j
    else eventPriv (setFlag (withoutLease s j) .tier 0x08 4) 0x0B j (leaseHomes s j).length := by
  have hlost : (fun h : Home => match h with
    | .lease i off => if i = j then .lost else .lease i off
    | other => other) = lostHome j := by
    funext h
    cases h <;> rfl
  unfold loseLease withoutLease
  rw [← hlost] <;> rfl

theorem handedBut_loseLease (s : State) (j : Nat) : HandedBut [regAddr .tier 0x08] (withoutLease s j) (loseLease s j) := by
  rw [loseLease_eq]
  split
  · exact .refl _ _
  · exact (handedBut_setFlag _ 4 (by simp)).trans ((handed_eventPriv _ _ _ _).handedBut _)

/-- The lease released: its neighbour told, and what it homes lost (R275, R276). -/
def releasedLease (s : State) (i wire j : Nat) : State := loseLease (sendLease s i true 4 wire 0 0 []) j

theorem leaseRelease_does {s : State} {m : MgmtReq} {l : Link} {i wire j : Nat} {y : Lease}
    (h : MgmtReady s m 0x23 roleMaintain l) (hv : serving s = true) (hi : i < 16)
    (hy : leaseOf s { neighbour := i, lease := wire } = some (j, y)) : Does (.mgmtLeaseRelease m i wire) s
      (mgmtReply (releasedLease s i wire j) m.link 0x23 0 m.seq (toLE 1 0 ++ toLE 4 wire)) := by
  show execMgmtLeaseRelease m i wire s = _
  unfold execMgmtLeaseRelease
  rw [plainRequest_runs _ h (mem_inUseStates hv) rfl (by simp [hi, hy])]
  simp only [hy]
  rfl

theorem leaseRelease_loses {s : State} {m : MgmtReq} {l : Link} {i wire j : Nat} {y : Lease}
    (h : MgmtReady s m 0x23 roleMaintain l) (hv : serving s = true) (hi : i < 16)
    (hy : leaseOf s { neighbour := i, lease := wire } = some (j, y)) :
    ∃ t, Does (.mgmtLeaseRelease m i wire) s t ∧ Out.mgmt m.link 0x23 0 m.seq (toLE 1 0 ++ toLE 4 wire) ∈ t.out ∧
      (∀ n x, neighbourSession s i true = some n → SessionReady s n x → LeaseSent t n x (now s) 4 wire 0 0 []) ∧
      tget t.tier.leases j = none ∧ (∀ k, k ≠ j → tget t.tier.leases k = tget s.tier.leases k) ∧
      (∀ a off, tget s.tier.homes a = some (.lease j off) → tget t.tier.homes a = some .lost) ∧
      (∀ a, (∀ off, tget s.tier.homes a ≠ some (.lease j off)) → tget t.tier.homes a = tget s.tier.homes a) ∧
      (∀ p ∈ t.tier.fetch, p ∈ s.tier.fetch) ∧
      t.tier = { s.tier with leases := t.tier.leases, homes := t.tier.homes, fetch := t.tier.fetch } ∧ t.reqs = s.reqs ∧
      t.tiles = s.tiles := by
  have hdoes := leaseRelease_does h hv hi hy
  have hsend := handed_sendLease s i true 4 wire 0 0 []
  have htold := fun n x hn hx => leaseSent_sendLease (s := s) (i := i) (n := n) (mine := true) (x := x) hn hx 4 wire 0 0 []
  have hlost := handedBut_loseLease (sendLease s i true 4 wire 0 0 []) j
  unfold releasedLease at hdoes
  generalize sendLease s i true 4 wire 0 0 [] = v at *
  have htier : (withoutLease v j).tier = (withoutLease s j).tier := by
    unfold withoutLease leaseHomes
    rw [hsend.fields]
  have hw : (loseLease v j).tier = (withoutLease s j).tier := by rw [hlost.fields, htier]
  have hl : tget (loseLease v j).lantern.links m.link = some l := by
    rw [hlost.links, show (withoutLease v j).lantern = v.lantern from rfl, hsend.links]
    exact link_of_ready h
  have htiles : (loseLease v j).tiles = s.tiles := by rw [hlost.fields]; exact hsend.tiles
  have hreqs : (loseLease v j).reqs = s.reqs := by rw [hlost.fields]; exact hsend.reqs
  obtain ⟨o, hout⟩ := hlost.1
  generalize loseLease v j = w at *
  rw [mgmtReply_open 0x23 0 _ hl] at hdoes
  have hhomes : ∀ a, tget w.tier.homes a = (tget s.tier.homes a).map (lostHome j) := fun a => by
    rw [hw]
    exact tget_map ..
  refine ⟨_, hdoes, List.mem_append_right _ (List.mem_singleton_self _), fun n x hn hx => ?_, ?_, fun k hk => ?_, fun a off ha => ?_,
    fun a ha => ?_, fun p hp => ?_, ?_, hreqs, htiles⟩
  · refine List.mem_append_left _ ?_
    rw [hout]
    exact List.mem_append_left _ (htold n x hn hx)
  · rw [emitOut_tier, hw]
    exact tget_tdel_same _ _
  · rw [emitOut_tier, hw]
    exact tget_tdel_ne _ _ _ hk
  · refine (hhomes a).trans ?_
    rw [ha, Option.map_some, lostHome, if_pos rfl]
  · refine (hhomes a).trans ?_
    cases hv : tget s.tier.homes a with
    | none => rfl
    | some home =>
      cases home with
      | lease i off =>
        have hne : i ≠ j := by
          rintro rfl
          exact ha off hv
        rw [Option.map_some, lostHome, if_neg hne]
      | keep => rfl
      | lost => rfl
  · rw [emitOut_tier, hw] at hp
    exact List.mem_of_mem_filter hp
  · rw [emitOut_tier, hw]
    rfl

/-! ### HALT and RESUME -/

/-- The tile halted: its Elastic task, if it runs one, is pre-empted, and the power sequencer holds it no more (R137). -/
def haltedTile (s : State) (i : Nat) : State :=
  let u := if elasticRunning (tileAt s i) then preempt s i else s
  { u with power := { u.power with preempted := u.power.preempted.filter (· ≠ i) } }

theorem halt_does {s : State} {m : MgmtReq} {l : Link} {i : Nat} (h : MgmtReady s m 0x24 roleMaintain l) (hv : serving s = true)
    (hi : i < 640) (hr : (tileAt s i).role = .elastic) :
    Does (.halt m i) s (mgmtReply (haltedTile s i) m.link 0x24 0 m.seq []) := by
  show execHalt m i s = _
  unfold execHalt
  rw [plainRequest_runs _ h (mem_inUseStates hv) rfl (by simp [isElastic, hi, hr])]
  rfl

theorem resume_does {s : State} {m : MgmtReq} {l : Link} {i : Nat} (h : MgmtReady s m 0x24 roleMaintain l) (hv : serving s = true)
    (hi : i < 640) (hr : (tileAt s i).role = .elastic) : Does (.resume m i) s
      (mgmtReply (if (tileAt s i).run = .preempted ∧ !(s.power.preempted.contains i) then resumeTask s i else s)
        m.link 0x24 0 m.seq []) := by
  show execResume m i s = _
  unfold execResume
  rw [plainRequest_runs _ h (mem_inUseStates hv) rfl (by simp [isElastic, hi, hr])]
  rfl

theorem tileAt_preempt (s : State) (i : Nat) : tileAt (preempt s i) i = { tileAt s i with run := .preempted } :=
  ((onlyRegs_preempt s i).tileAt i).trans (tileAt_setTile_same s i _)

theorem tileAt_preempt_ne (s : State) {i k : Nat} (h : k ≠ i) : tileAt (preempt s i) k = tileAt s k :=
  ((onlyRegs_preempt s i).tileAt k).trans (tileAt_setTile_ne s i k _ h)

theorem preempt_fields (s : State) (i : Nat) : preempt s i = { s with tiles := (preempt s i).tiles, regs := (preempt s i).regs } := by
  have h := onlyRegs_preempt s i
  generalize preempt s i = u at *
  rw [h]
  rfl

/-- PREEMPTED of the tile rises, and its Spire counts the pre-emption (R137). -/
theorem flagged_preempt (s : State) (i : Nat) :
    FlagUp (preempt s i) (.tile i) 0x08 2 ∧ Counted s (preempt s i) (.spire (i / 80)) 0x30 1 := by
  constructor
  · unfold FlagUp
    rw [reg_of_regs (preempt_regs s i), (regsBut_bump _ (.spire (i / 80)) 0x30 1).reg _ _
      (by simp [tile_ne_spire i 8 0x30 (by decide)])]
    exact flagUp_setFlag s (.tile i) 0x08 2 (by decide)
  · refine (counted_of_reg (counted_bump (setFlag s (.tile i) 0x08 2) _ _ _) ?_).of_regs (preempt_regs s i)
    exact (regsBut_setFlag s (.tile i) 0x08 2).reg _ _ (by simp [(tile_ne_spire i 8 0x30 (by decide)).symm])

theorem halt_preempts {s : State} {m : MgmtReq} {l : Link} {i : Nat} (h : MgmtReady s m 0x24 roleMaintain l) (hv : serving s = true)
    (hi : i < 640) (hr : (tileAt s i).role = .elastic) : ∃ t, Does (.halt m i) s t ∧
      (elasticRunning (tileAt s i) = true → tileAt t i = { tileAt s i with run := .preempted } ∧
        FlagUp t (.tile i) 0x08 2 ∧ Counted s t (.spire (i / 80)) 0x30 1) ∧
      (elasticRunning (tileAt s i) = false → t.tiles = s.tiles ∧ t.regs = s.regs) ∧
      (∀ k, k ≠ i → tileAt t k = tileAt s k) ∧ i ∉ t.power.preempted ∧
      RegsBut [regAddr (.tile i) 0x08, regAddr (.spire (i / 80)) 0x30] s t ∧
      MgmtAnswered { s with
        tiles := t.tiles, regs := t.regs, power := { s.power with preempted := t.power.preempted } } t m l 0x24 0 [] := by
  have hdoes := halt_does h hv hi hr
  have hflags := flagged_preempt s i
  have hregs := regsBut_preempt s i
  have htile := tileAt_preempt s i
  have hother := fun k (hk : k ≠ i) => tileAt_preempt_ne s hk
  have hrest := preempt_fields s i
  unfold haltedTile at hdoes
  generalize preempt s i = u at *
  cases hrun : elasticRunning (tileAt s i) with
  | true =>
    rw [hrun, if_pos rfl] at hdoes
    have hl : tget u.lantern.links m.link = some l := by rw [hrest]; exact link_of_ready h
    rw [mgmtReply_open (s := { u with power := { u.power with preempted := u.power.preempted.filter (· ≠ i) } }) 0x24 0 [] hl]
      at hdoes
    refine ⟨_, hdoes, fun _ => ⟨htile, hflags⟩, fun hn => absurd hn (by decide), hother, by simp, hregs,
      tget_tset_same _ _ _, fun k hk => (tget_tset_ne _ _ _ _ hk).trans (by rw [hrest]), ?_⟩
    rw [hrest]
    rfl
  | false =>
    rw [hrun, if_neg (by decide)] at hdoes
    rw [mgmtReply_open (s := { s with power := { s.power with preempted := s.power.preempted.filter (· ≠ i) } }) 0x24 0 []
      (link_of_ready h)] at hdoes
    exact ⟨_, hdoes, fun hn => absurd hn (by decide), fun _ => ⟨rfl, rfl⟩, fun _ _ => rfl, by simp, fun _ _ => rfl,
      tget_tset_same _ _ _, fun k hk => tget_tset_ne _ _ _ _ hk, rfl⟩

theorem resume_runs {s : State} {m : MgmtReq} {l : Link} {i : Nat} (h : MgmtReady s m 0x24 roleMaintain l) (hv : serving s = true)
    (hi : i < 640) (hr : (tileAt s i).role = .elastic) : ∃ t, Does (.resume m i) s t ∧
      (let held := (tileAt s i).run ≠ .preempted ∨ i ∈ s.power.preempted
       (held → t.tiles = s.tiles) ∧ (¬ held → tileAt t i = { tileAt s i with run := .running })) ∧
      (∀ k, k ≠ i → tileAt t k = tileAt s k) ∧ MgmtAnswered { s with tiles := t.tiles } t m l 0x24 0 [] := by
  have hdoes := resume_does h hv hi hr
  by_cases hheld : (tileAt s i).run ≠ .preempted ∨ i ∈ s.power.preempted
  · rw [if_neg (by simpa [imp_iff_not_or] using hheld), mgmtReply_open 0x24 0 [] (link_of_ready h)] at hdoes
    exact ⟨_, hdoes, ⟨fun _ => rfl, fun hn => absurd hheld hn⟩, fun _ _ => rfl, tget_tset_same _ _ _,
      fun k hk => tget_tset_ne _ _ _ _ hk, rfl⟩
  · rw [if_pos (by simpa [not_or] using hheld), mgmtReply_open (s := resumeTask s i) 0x24 0 [] (link_of_ready h)] at hdoes
    exact ⟨_, hdoes, ⟨fun hy => absurd hy hheld, fun _ => tileAt_setTile_same s i _⟩, fun k hk => tileAt_setTile_ne s i k _ hk,
      tget_tset_same _ _ _, fun k hk => tget_tset_ne _ _ _ _ hk, rfl⟩

/-- Settles O49: each action is its request's run and the reply; a scrub ends the sessions one by one and enters Slate. -/
theorem managementActions : Obligations.ManagementActions := by
  refine ⟨fun s m a b c => ?_, fun s m l c k h hv hc hk hopen => close_marks h hv hc hk hopen, fun s m l h hdev hphase => ?_,
    fun s m l i granules mbps j n x h hv hi hg hm hj hn hx => leaseRequest_asks h hv hi hg hm hj hn hx,
    fun s m l i wire j y h hv hi hy => leaseRelease_loses h hv hi hy,
    fun s m l i h hv hi hr => ⟨halt_preempts h hv hi hr, resume_runs h hv hi hr⟩⟩
  · have hclose : ∃ t, execClose m a s = .next t := plainRequest_next ..
    have hscrub : ∃ t, execScrub m s = .next t := plainRequest_next ..
    have hask : ∃ t, execMgmtLeaseRequest m a b c s = .next t := plainRequest_next ..
    have hrelease : ∃ t, execMgmtLeaseRelease m a b s = .next t := plainRequest_next ..
    have hhalt : ∃ t, execHalt m a s = .next t := plainRequest_next ..
    have hresume : ∃ t, execResume m a s = .next t := plainRequest_next ..
    exact ⟨hclose, hscrub, hask, hrelease, hhalt, hresume⟩
  · have hne : s.dev ≠ .slate := by rcases hdev with hd | hd | hd <;> rw [hd] <;> decide
    exact ⟨_, scrub_does h hdev hphase, startScrub_leaves hne (m.link, m.seq)⟩

end Sys2Proof.Machine
end

section
/-! ### Integer arithmetic

An integer is the number that it is: sums and products of such numbers stay exact, and the code of the result is the result
modulo 2^32 (R106). The array's accumulator of an output is the sum over the whole depth (R89). -/

namespace Sys2Proof.Machine

theorem mantAt_natAbs (v q : Int) : mantAt (decide (v < 0)) v.natAbs q q = v := by
  simp only [mantAt, sub_self, Int.toNat_zero, Nat.shiftLeft_zero, decide_eq_true_eq]
  split <;> omega

theorem addNum_ofInt (a b : Int) : addNum (ofInt a 0) (ofInt b 0) = ofInt (a + b) 0 := by
  show ofInt (mantAt _ _ 0 0 + mantAt _ _ 0 0) 0 = _
  rw [mantAt_natAbs, mantAt_natAbs]

theorem rneInt_zero (neg : Bool) (m : Nat) : rneInt neg m 0 = if neg then -(m : Int) else m := by
  simp [rneInt, rneNat]

/-- INT32 keeps the low 32 bits of an integer (R106). -/
theorem coreCode_fin (neg : Bool) (m : Nat) :
    coreCode 0xA (.fin neg m 0) = ((if neg then -(m : Int) else m) % (2 ^ 32 : Nat)).toNat := by
  rw [← rneInt_zero]
  rfl

theorem coreCode_ofInt (v : Int) : coreCode 0xA (ofInt v 0) = (v % (2 ^ 32 : Nat)).toNat := by
  rw [ofInt, coreCode_fin]
  congr 2
  simp only [decide_eq_true_eq]
  split <;> omega

theorem coreCode_neg_add (a b : Int) :
    coreCode 0xA (addNum (ofInt a 0) (negNum (ofInt b 0))) = ((a - b) % (2 ^ 32 : Nat)).toNat := by
  have hb : mantAt (!decide (b < 0)) b.natAbs 0 0 = -b := by
    simp only [mantAt, sub_self, Int.toNat_zero, Nat.shiftLeft_zero, Bool.not_eq_true', decide_eq_false_iff_not]
    split <;> omega
  show coreCode 0xA (ofInt (mantAt _ _ 0 0 + mantAt _ _ 0 0) 0) = _
  rw [mantAt_natAbs, hb, coreCode_ofInt, sub_eq_add_neg]

/-- The sign and magnitude of a product are those of its factors. -/
theorem signed_mul (a b : Int) :
    (if (decide (a < 0) != decide (b < 0)) then -((a.natAbs * b.natAbs : Nat) : Int) else (a.natAbs * b.natAbs : Nat)) = a * b := by
  rw [Nat.cast_mul]
  rcases lt_or_ge a 0 with ha | ha <;> rcases lt_or_ge b 0 with hb | hb <;>
    simp [ha, hb, abs_of_neg, abs_of_nonneg, not_lt.2]

theorem coreCode_mul (a b : Int) : coreCode 0xA (mulNum (ofInt a 0) (ofInt b 0)) = (a * b % (2 ^ 32 : Nat)).toNat := by
  show coreCode 0xA (.fin _ _ 0) = _
  rw [coreCode_fin, signed_mul]

/-- A code of INT32 and its value are the same modulo 2^32 (R76). -/
theorem intVal_int32_modEq (x : Nat) : intVal 0xA x ≡ x [ZMOD (2 ^ 32 : Nat)] := by
  show (if (_ ∧ _) then _ else _) ≡ _ [ZMOD _]
  split <;> simp [Int.ModEq]

theorem toNat_emod_of_modEq {v : Int} {x : Nat} (h : v ≡ x [ZMOD (2 ^ 32 : Nat)]) : (v % (2 ^ 32 : Nat)).toNat = x % 2 ^ 32 := by
  rw [h, ← Int.natCast_mod, Int.toNat_natCast]

theorem int32Wraps : Claims.Int32Wraps := by
  intro x y _ hy
  have hx := intVal_int32_modEq x
  have hv := intVal_int32_modEq y
  refine ⟨?_, ?_, ?_⟩
  · show coreCode 0xA (addNum (ofInt _ 0) (ofInt _ 0)) = _
    rw [addNum_ofInt, coreCode_ofInt]
    exact toNat_emod_of_modEq (by simpa using hx.add hv)
  · show coreCode 0xA (addNum (ofInt _ 0) (negNum (ofInt _ 0))) = _
    rw [coreCode_neg_add]
    refine toNat_emod_of_modEq ((hx.sub hv).trans ?_)
    rw [Nat.cast_add, Nat.cast_sub hy.le, Int.modEq_iff_dvd]
    exact ⟨1, by ring⟩
  · show coreCode 0xA (mulNum (ofInt _ 0) (ofInt _ 0)) = _
    rw [coreCode_mul]
    exact toNat_emod_of_modEq (by simpa using hx.mul hv)

/-! ### The integer product of the array -/

/-- Entry (i, j) of a table of `rows` rows of `cols` entries laid out row by row. -/
theorem getElem?_rows {α : Type} (f : Nat → Nat → α) {rows cols i j : Nat} (hi : i < rows) (hj : j < cols) :
    ((List.range rows).flatMap fun r => (List.range cols).map (f r))[i * cols + j]? = some (f i j) := by
  have hlen (n : Nat) : ((List.range n).flatMap fun r => (List.range cols).map (f r)).length = n * cols := by simp
  induction rows with
  | zero => omega
  | succ n ih =>
    rw [List.range_succ, List.flatMap_append]
    rcases Nat.lt_succ_iff_lt_or_eq.1 hi with h | rfl
    · have hpos : i * cols + j < n * cols := by nlinarith
      rw [List.getElem?_append_left (by rwa [hlen]), ih h]
    · rw [List.getElem?_append_right (by rw [hlen]; omega), hlen]
      simp [hj]

theorem depths_of_dense {q : Problem} (h : q.blocks = none) : depths q = List.range q.k := by
  unfold depths
  rw [h]
  simp

/-- With integer operands a term is the product of the operands less their zero points (R80). -/
theorem term_of_integers {p : MatmulP} (q : Problem) (u : Int × Int) (hA : isIntOperand p.aFmt = true)
    (hB : isIntOperand p.bFmt = true) (hsparse : p.sparse = false) (hmode : p.scaleMode = 0) (k m n : Nat) :
    term p (1, aVal p q u k m) (1, bVal p q u k n) =
      (intVal p.aFmt (q.a.getD (m * q.k + k) 0) - p.aZp) * (intVal p.bFmt (q.b.getD (k * q.n + n) 0) - p.bZp) := by
  have hne : p.aFmt ≠ 9 := by
    intro h
    rw [h] at hA
    exact absurd hA (by decide)
  simp [term, hne, aVal, bVal, mulOperand, hA, hB, aCode, bCode, hsparse, hmode]

/-- One problem has the shape that the parameters give, and streams its whole depth unless it skips (R87, R94). -/
theorem problemOf_shape {p : MatmulP} (ab bb cb : List Byte) (hone : p.problems = 1) (hskip : p.skip = false) :
    let q := problemOf p ab bb cb 0
    q.m = p.m ∧ q.n = p.n ∧ q.k = p.k ∧ q.blocks = none := by
  simp [problemOf, shapeOf, hone, hskip]

theorem passOutputs_single {x : Pass} (s : State) (t : Nat) (hone : x.p.problems = 1) {m n : Nat} :
    let q := problemOf x.p x.a x.b x.c 0
    let u := units x.p q
    m < q.m → n < q.n → (passOutputs s t x [])[m * q.n + n]? =
      some (drain s t x.p 0 n (accumulate x.p q u m n) (accUnit x.p u) (specialOf x.p q m n)) := by
  intro q u hm hn
  unfold passOutputs
  rw [hone]
  simp only [List.range_one, List.flatMap_singleton, List.filter_nil, List.foldl_nil, add_zero]
  exact getElem?_rows _ hm hn

theorem drain_int32 (s : State) (t : Nat) {p : MatmulP} (h : p.outFmt = 0xA) (i n : Nat) (acc unit : Int) (special : Option FNum) :
    (drain s t p i n acc unit special).code = ((max (-2147483648) (min 2147483647 acc)) % (2 ^ 32 : Nat)).toNat := by
  unfold drain
  rw [if_pos h]

theorem integerProductIsExact : Claims.IntegerProductIsExact := by
  intro s t x m n hA hB hout hone hsparse hskip hmode hm hn q sum
  obtain ⟨hqm, hqn, hqk, hdense⟩ := problemOf_shape x.a x.b x.c hone hskip
  have hacc : accumulate x.p q (units x.p q) m n = sum := by
    unfold accumulate
    rw [depths_of_dense hdense]
    simp only [term_of_integers q _ hA hB hsparse hmode, q, sum, hqk, hqn]
  have hget := passOutputs_single (x := x) s t hone (hqm ▸ hm) (hqn ▸ hn)
  rw [hqn] at hget
  rw [hget, Option.map_some, drain_int32 s t hout, ← hacc]

/-- Settles O17: the codes of INT32 compute modulo 2^32, and the accumulator of an integer product is the sum over the
depth. -/
theorem integerArithmetic : Obligations.IntegerArithmetic := ⟨int32Wraps, integerProductIsExact⟩

end Sys2Proof.Machine
end

section
/-! ### The order of selection

Keys compare as the numbers that they are, in the extended reals. With its index as second component an entry has a rank in
a linear order, and R144 is that order; a selection sorts by it. -/

namespace Sys2Proof.Machine

/-- The number that a value is; NaN, which precedes nothing and follows nothing, stands at 0. -/
noncomputable def realOf : FNum → EReal
  | .nan => 0
  | .inf neg => if neg then ⊥ else ⊤
  | .fin neg m e => (((if neg then -m else m : ℤ) * 2 ^ e : ℝ) : EReal)

/-- A mantissa taken at a lower exponent is the same number. -/
theorem mantAt_mul_zpow (neg : Bool) (m : Nat) {e q : Int} (h : q ≤ e) :
    (mantAt neg m e q : ℝ) * 2 ^ q = (if neg then -m else m : ℤ) * 2 ^ e := by
  have hscale : ((2 : ℝ) ^ (e - q).toNat) * 2 ^ q = 2 ^ e := by
    rw [← zpow_natCast, Int.toNat_of_nonneg (by omega), ← zpow_add₀ two_ne_zero, sub_add_cancel]
  have hmant : mantAt neg m e q = (if neg then -m else m : ℤ) * 2 ^ (e - q).toNat := by
    cases neg <;> simp [mantAt, Nat.shiftLeft_eq]
  rw [hmant, Int.cast_mul, Int.cast_pow, Int.cast_ofNat, mul_assoc, hscale]

theorem ltNum_iff {x y : FNum} (hx : x ≠ .nan) (hy : y ≠ .nan) : ltNum x y = true ↔ realOf x < realOf y := by
  cases x with
  | nan => exact absurd rfl hx
  | inf a =>
    cases y with
    | nan => exact absurd rfl hy
    | inf b => cases a <;> cases b <;> simp [ltNum, realOf]
    | fin b n g => cases a <;> simp [ltNum, realOf]
  | fin a m e =>
    cases y with
    | nan => exact absurd rfl hy
    | inf b => cases b <;> simp [ltNum, realOf]
    | fin b n g =>
      have hpos : (0 : ℝ) < 2 ^ min e g := by positivity
      rw [realOf, realOf, EReal.coe_lt_coe_iff, ← mantAt_mul_zpow a m (min_le_left e g), ← mantAt_mul_zpow b n (min_le_right e g),
        mul_lt_mul_iff_left₀ hpos, Int.cast_lt]
      exact decide_eq_true_iff

theorem eqNum_iff {x y : FNum} (hx : x ≠ .nan) (hy : y ≠ .nan) : eqNum x y = true ↔ realOf x = realOf y := by
  have heq : eqNum x y = (!(ltNum x y) && !(ltNum y x)) := by
    unfold eqNum
    split
    · exact absurd rfl hx
    · exact absurd rfl hy
    · rfl
  rw [heq, Bool.and_eq_true, Bool.not_eq_true', Bool.not_eq_true', ← Bool.not_eq_true, ← Bool.not_eq_true, ltNum_iff hx hy,
    ltNum_iff hy hx, not_lt, not_lt, le_antisymm_iff, and_comm]

/-- The place of an entry in the order of R144: its key, the highest first but for BOTTOM, then its index. -/
noncomputable def selectRank (t : Nat) (bottom : Bool) (a : SelEntry) : EReal ×ₗ ℕ :=
  toLex (if bottom then realOf (keyNum t a.key) else -realOf (keyNum t a.key), a.index)

theorem precedes_iff {t : Nat} {bottom : Bool} {a b : SelEntry} (ha : keyNum t a.key ≠ .nan) (hb : keyNum t b.key ≠ .nan) :
    precedes t bottom a b = true ↔ selectRank t bottom a < selectRank t bottom b := by
  unfold precedes selectRank
  rw [Prod.Lex.toLex_lt_toLex, Bool.or_eq_true, Bool.and_eq_true, eqNum_iff ha hb, decide_eq_true_iff]
  cases bottom with
  | false => simp [ltNum_iff hb ha]
  | true => simp [ltNum_iff ha hb]

theorem sortBy_eq_insertionSort {α : Type} (le : α → α → Bool) (l : List α) : sortBy le l = l.insertionSort (le · ·) := by
  have hinsert (x : α) (l : List α) : insertBy le x l = l.orderedInsert (le · ·) x := by
    induction l with
    | nil => rfl
    | cons y l ih => rw [insertBy, List.orderedInsert_cons, ih]
  induction l with
  | nil => rfl
  | cons x l ih => rw [sortBy, hinsert, ih, List.insertionSort_cons]

theorem sortEntries_perm (t : Nat) (bottom : Bool) (l : List SelEntry) : (sortEntries t bottom l).Perm l := by
  unfold sortEntries
  rw [sortBy_eq_insertionSort]
  exact List.perm_insertionSort _ l

/-- Sorted entries without a NaN key stand in the order of R144: none precedes one before it. -/
theorem sortEntries_pairwise {t : Nat} {bottom : Bool} {l : List SelEntry} (h : ∀ e ∈ l, keyNum t e.key ≠ .nan) :
    (sortEntries t bottom l).Pairwise fun a b => precedes t bottom b a = false := by
  have hle : ∀ a ∈ l, ∀ b ∈ l, (!precedes t bottom b a) = true ↔ selectRank t bottom a ≤ selectRank t bottom b := by
    intro a ha b hb
    rw [Bool.not_eq_true', ← Bool.not_eq_true, precedes_iff (h b hb) (h a ha), not_lt]
  have hsorted : ((sortEntries t bottom l).map (selectRank t bottom)).Pairwise (· ≤ ·) := by
    unfold sortEntries
    rw [sortBy_eq_insertionSort, List.map_insertionSort _ (· ≤ ·) _ _ hle]
    exact List.pairwise_insertionSort _ _
  have hmem {e : SelEntry} (he : e ∈ sortEntries t bottom l) : e ∈ l := (sortEntries_perm t bottom l).mem_iff.1 he
  refine (List.pairwise_map.1 hsorted).imp_of_mem fun ha hb hab => ?_
  simpa using (hle _ (hmem ha) _ (hmem hb)).2 hab

/-- Of a list taken from the front, an element left out stands behind every element taken. -/
theorem rel_of_mem_take_of_not_mem_take {α : Type} {r : α → α → Prop} {l : List α} (h : l.Pairwise r) {k : Nat} {a b : α}
    (ha : a ∈ l.take k) (hb : b ∈ l) (hout : b ∉ l.take k) : r a b := by
  rw [← List.take_append_drop k l] at h hb
  obtain ⟨-, -, hcross⟩ := List.pairwise_append.1 h
  exact hcross a ha b ((List.mem_append.1 hb).resolve_left hout)

/-- The entries that a selection considers: those whose key is no NaN (R144). -/
def validEntries (t : Nat) (all : List SelEntry) : List SelEntry := all.filter fun e => decide (keyNum t e.key ≠ .nan)

theorem mem_validEntries {t : Nat} {all : List SelEntry} {e : SelEntry} :
    e ∈ validEntries t all ↔ e ∈ all ∧ keyNum t e.key ≠ .nan := by
  rw [validEntries, List.mem_filter, decide_eq_true_iff]

/-- The record of TOP and BOTTOM holds the front of the valid entries in their order, and counts them and the others (R147). -/
theorem selectBest_counts (t : Nat) (bottom : Bool) (k : Nat) (all : List SelEntry) :
    (selectBest t bottom k all).entries = (sortEntries t bottom (validEntries t all)).take k ∧
    (selectBest t bottom k all).valid = (validEntries t all).length ∧
    (selectBest t bottom k all).nan = all.length - (validEntries t all).length := ⟨rfl, rfl, rfl⟩

/-- Settles O19: the record takes the front of the valid entries, sorted in the order of R144. -/
theorem selectTakesTheBest : Obligations.SelectTakesTheBest := by
  intro ty bottom k all _ r
  obtain ⟨hentries, hvalid, hnan⟩ := selectBest_counts ty bottom k all
  have hperm := sortEntries_perm ty bottom (validEntries ty all)
  have hsorted := sortEntries_pairwise (bottom := bottom) fun e he => (mem_validEntries (t := ty) (all := all).1 he).2
  have hmem {e : SelEntry} : e ∈ sortEntries ty bottom (validEntries ty all) ↔ e ∈ all ∧ keyNum ty e.key ≠ .nan :=
    hperm.mem_iff.trans mem_validEntries
  simp only [r, hentries, hvalid, hnan]
  refine ⟨?_, Nat.add_sub_cancel' (List.length_filter_le _ _), fun e he => ?_, fun e he f hf hkey hout => ?_⟩
  · rw [List.length_take, hperm.length_eq]
  · exact (hmem.1 (List.mem_of_mem_take he)).1
  · exact rel_of_mem_take_of_not_mem_take hsorted he (hmem.2 ⟨hf, hkey⟩) hout

end Sys2Proof.Machine
end

section
/-! ### SELECT and MERGE -/

namespace Sys2Proof.Machine

theorem repeats_iff (l : List Nat) : repeats l = true ↔ ¬ l.Nodup := by
  induction l with
  | nil => simp [repeats]
  | cons x l ih =>
    rw [repeats, Bool.or_eq_true, ih, List.contains_iff_mem, List.nodup_cons]
    tauto

/-- Words of whole bytes read from a buffer are the elements of the operand that it holds. -/
theorem unpackWords_bufRead (s : State) (t : Nat) (k : Task) (src n : Nat) {w : Nat} (h8 : w % 8 = 0) (hw : w ≠ 0) :
    unpackWords (w / 8) n (bufRead s t (tileAt s t) k src 0 (w / 8 * n)) = (List.range n).map (operand s t k src w n) := by
  have hbytes : elemBytes w n = w / 8 * n := by
    rw [elemBytes, ceilDiv]
    conv_lhs => rw [← Nat.mul_div_cancel' (Nat.dvd_of_mod_eq_zero h8), Nat.mul_assoc]
    omega
  refine List.ext_getElem (by simp [length_unpackWords]) fun i hi _ => ?_
  rw [List.getElem_map, List.getElem_range, operand, elems, if_neg (by omega), hbytes, List.getD_eq_getElem _ _ hi]

/-! ### SELECT -/

/-- The indices of the keys of SELECT: those that SRC1 gives, or the implicit ones (R145). -/
def selectIndices (s : State) (t : Nat) (p : SelectP) (b : Bufs) (k : Task) : List Nat :=
  (List.range p.e).map fun i => if p.explicit then operand s t k b.src1 64 p.e i else (p.base + i) % 2 ^ 64

/-- The entries that SELECT considers. -/
def selectEntries (s : State) (t : Nat) (p : SelectP) (b : Bufs) (k : Task) : List SelEntry :=
  (List.range p.e).map fun i =>
    { index := (selectIndices s t p b k).getD i 0, source := 0, key := operand s t k b.src0 (keyWidth p.keyType) p.e i }

/-- The record that SELECT makes of entries in each mode (R147, R149). -/
def selectRecord (p : SelectP) (all : List SelEntry) : SelRec :=
  if p.mode < 2 then selectBest p.keyType (decide (p.mode = 1)) p.k all
  else selectThreshold p.keyType (decide (p.mode = 3)) p.k p.threshold all

/-- What SELECT and MERGE leave: the record written, the task gone on, and a fault where the result check is armed and finds
one (R151, R158). -/
def recordWritten (s : State) (t : Nat) (k : Task) (dst : Nat) (r : SelRec) (bad : Bool) : State :=
  let u := advance (bufWrite s t k dst 0 (selBytes r)) t
  if bad && enabled u (.selnet t) then selectFault u t else u

/-- A record that the check finds no fault in: the task goes on, and the tiles alone change. -/
theorem recordWritten_sound {s : State} {t : Nat} {k : Task} (hk : (tileAt s t).task = some k) (dst : Nat) (r : SelRec) :
    let u := recordWritten s t k dst r false
    NextRecord s u t k ∧ u = { s with tiles := u.tiles } ∧ WroteBuffer s u t k dst 0 (selBytes r) :=
  advance_bufWrite hk dst _

theorem next_of_ite {c : Prop} [Decidable c] {x y : Res} (hx : ∃ u, x = .next u) (hy : ∃ u, y = .next u) :
    ∃ u, (if c then x else y) = .next u := by
  split
  · exact hx
  · exact hy

/-- At most 2^24 implicit indices do not come round to one another. -/
theorem implicit_nodup {base n : Nat} (h : n ≤ 16777216) : ((List.range n).map fun i => (base + i) % 2 ^ 64).Nodup := by
  refine List.Nodup.map_on (fun i hi j hj hij => ?_) List.nodup_range
  rw [List.mem_range] at hi hj
  omega

theorem selectIndices_eq (s : State) (t : Nat) (p : SelectP) (b : Bufs) (k : Task) :
    selectIndices s t p b k = if p.explicit then unpackWords 8 p.e (bufRead s t (tileAt s t) k b.src1 0 (8 * p.e))
      else (List.range p.e).map fun i => (p.base + i) % 2 ^ 64 := by
  unfold selectIndices
  cases p.explicit with
  | false => rfl
  | true => exact (unpackWords_bufRead s t k b.src1 p.e (w := 64) rfl (by decide)).symm

theorem selectEntries_eq (s : State) (t : Nat) (p : SelectP) (b : Bufs) (k : Task) :
    selectEntries s t p b k = ((selectIndices s t p b k).zip (unpackWords (keyWidth p.keyType / 8) p.e
      (bufRead s t (tileAt s t) k b.src0 0 (keyWidth p.keyType / 8 * p.e)))).map
        fun q => { index := q.1, key := q.2, source := 0 } := by
  have hwidth : keyWidth p.keyType = 32 ∨ keyWidth p.keyType = 16 := by
    unfold keyWidth
    split <;> simp
  rw [unpackWords_bufRead s t k b.src0 p.e (by omega) (by omega)]
  have hlen : (selectIndices s t p b k).length = p.e := by simp [selectIndices]
  refine List.ext_getElem (by simp [selectEntries, hlen]) fun i hi _ => ?_
  have hi' : i < (selectIndices s t p b k).length := by simpa [selectEntries, hlen] using hi
  simp [selectEntries, hi']

theorem selectOk_count {p : SelectP} (h : selectOk p = true) : p.e ≤ 16777216 := by
  simp only [selectOk, Bool.and_eq_true, decide_eq_true_iff] at h
  tauto

/-- SELECT refuses the sentinel's index and an index given twice; implicit indices are distinct (R146). -/
theorem selectIndices_refused {s : State} {t : Nat} {p : SelectP} {b : Bufs} {k : Task} (h : selectOk p = true) :
    ((selectIndices s t p b k).contains sentinel ∨ (p.explicit ∧ repeats (selectIndices s t p b k))) ↔
      (2 ^ 64 - 1 ∈ selectIndices s t p b k ∨ ¬ (selectIndices s t p b k).Nodup) := by
  have himplicit : p.explicit = false → (selectIndices s t p b k).Nodup := fun hx => by
    rw [selectIndices_eq, hx]
    exact implicit_nodup (selectOk_count h)
  rw [repeats_iff, List.contains_iff_mem, show sentinel = 2 ^ 64 - 1 from rfl]
  cases hx : p.explicit with
  | false => simp [himplicit hx]
  | true => simp

theorem execSelect_ready {s : State} {t : Nat} {p : SelectP} {k : Task} (b : Bufs) (hk : Ready s t k) (h : selectOk p = true)
    (bad : Bool) :
    execSelect t p b bad s =
      if 2 ^ 64 - 1 ∈ selectIndices s t p b k ∨ ¬ (selectIndices s t p b k).Nodup then .next (abortTask s t 1 0 0)
      else .next (recordWritten s t k b.dst (selectRecord p (selectEntries s t p b k)) bad) := by
  unfold execSelect
  rw [if_neg (by simp [h]), onTask_ready hk]
  dsimp only
  rw [← selectIndices_eq, ← selectEntries_eq, if_congr (selectIndices_refused h) rfl rfl]
  rfl

theorem execSelect_completes (s : State) {t : Nat} {p : SelectP} (b : Bufs) (bad : Bool) (ht : t < 640)
    (h : selectOk p = true) : Completes (.select t p b bad) s := by
  show ∃ u, execSelect t p b bad s = .next u
  unfold execSelect
  rw [if_neg (by simp [h])]
  exact onTask_completes ht fun x k => next_of_ite ⟨_, rfl⟩ ⟨_, rfl⟩

theorem selectWrites : Claims.SelectWrites := by
  refine ⟨fun s t p b bad ht h => execSelect_completes s b bad ht h, fun s t p b k hk h =>
    ⟨fun bad => execSelect_completes s b bad hk.1 h, ?_⟩⟩
  have hexec : exec (.select t p b false) s = _ := execSelect_ready b hk h false
  intro idx all
  refine ⟨fun hsentinel hnodup => ⟨_, hexec.trans (if_neg ?_), recordWritten_sound hk.task b.dst _⟩,
    fun hbad => ⟨_, hexec.trans (if_pos hbad), (taskAborted_abortTask hk.task (.inl rfl) 0 0).1⟩⟩
  exact not_or.2 ⟨hsentinel, not_not.2 hnodup⟩

/-! ### MERGE -/

/-- The records that MERGE reads from SRC0 (R152). -/
def mergeInputs (s : State) (t : Nat) (p : MergeP) (b : Bufs) (k : Task) : List SelRec :=
  (List.range p.lists).map fun i => selParse (bufRead s t (tileAt s t) k b.src0 (i * p.stride) p.stride)

/-- The merged record, and whether an index occurs in two lists (R153). -/
def mergeOutcome (s : State) (t : Nat) (p : MergeP) (b : Bufs) (k : Task) : SelRec × Bool :=
  mergeRecs p.kOut (p.dedup || p.disjoint) (mergeInputs s t p b k)

/-- MERGE refuses records that do not agree, and an index in two lists with neither DEDUP nor DISJOINT (R152, R153). -/
def mergeRefused (s : State) (t : Nat) (p : MergeP) (b : Bufs) (k : Task) : Prop :=
  mergeInputsOk p (mergeInputs s t p b k) = false ∨
    ((mergeOutcome s t p b k).2 = true ∧ p.dedup = false ∧ p.disjoint = false)

theorem execMerge_refuses {s : State} {t : Nat} {p : MergeP} {b : Bufs} {k : Task} (hk : Ready s t k) (h : mergeOk p = true)
    (hr : mergeRefused s t p b k) (bad : Bool) : execMerge t p b bad s = .next (abortTask s t 1 0 0) := by
  unfold execMerge
  rw [if_neg (by simp [h]), onTask_ready hk]
  exact (ite_or ..).symm.trans (if_pos hr)

theorem execMerge_writes {s : State} {t : Nat} {p : MergeP} {b : Bufs} {k : Task} (hk : Ready s t k) (h : mergeOk p = true)
    (hr : ¬ mergeRefused s t p b k) (bad : Bool) : execMerge t p b bad s =
      .next (recordWritten s t k b.dst (mergeOutcome s t p b k).1 (bad || (p.disjoint && (mergeOutcome s t p b k).2))) := by
  unfold execMerge
  rw [if_neg (by simp [h]), onTask_ready hk]
  exact (ite_or ..).symm.trans (if_neg hr)

theorem execMerge_completes (s : State) {t : Nat} {p : MergeP} (b : Bufs) (bad : Bool) (ht : t < 640)
    (h : mergeOk p = true) : Completes (.merge t p b bad) s := by
  show ∃ u, execMerge t p b bad s = .next u
  unfold execMerge
  rw [if_neg (by simp [h])]
  exact onTask_completes ht fun x k => next_of_ite ⟨_, rfl⟩ (next_of_ite ⟨_, rfl⟩ ⟨_, rfl⟩)

/-- DEDUP and DISJOINT are not both set (R153). -/
theorem mergeOk_exclusive {p : MergeP} (h : mergeOk p = true) (hd : p.dedup = true) : p.disjoint = false := by
  by_contra hne
  simp [mergeOk, hd, hne] at h

/-- Records that agree, with no index in two lists or DEDUP set, are merged, and no fault comes of it (R153). -/
theorem merge_accepts {s : State} {t : Nat} {p : MergeP} {b : Bufs} {k : Task} (h : mergeOk p = true)
    (hagree : mergeInputsOk p (mergeInputs s t p b k) = true) (hdup : (mergeOutcome s t p b k).2 = false ∨ p.dedup = true) :
    ¬ mergeRefused s t p b k ∧ (p.disjoint && (mergeOutcome s t p b k).2) = false := by
  unfold mergeRefused
  rcases hdup with hdup | hdup
  · simp [hagree, hdup]
  · simp [hagree, hdup, mergeOk_exclusive h hdup]

theorem mergeWrites : Claims.MergeWrites := by
  refine ⟨fun s t p b bad ht h => execMerge_completes s b bad ht h, fun s t p b k hk h =>
    ⟨fun bad => execMerge_completes s b bad hk.1 h, fun hagree hdup => ?_, fun hbad =>
      ⟨_, execMerge_refuses hk h hbad false, (taskAborted_abortTask hk.task (.inl rfl) 0 0).1⟩⟩⟩
  obtain ⟨hgo, hquiet⟩ := merge_accepts h hagree hdup
  have hexec := execMerge_writes hk h hgo false
  rw [hquiet] at hexec
  exact ⟨_, hexec, recordWritten_sound hk.task b.dst _⟩

/-- Settles O20: SELECT and MERGE read their entries, abort on an index they refuse, and else write the record. -/
theorem selectionWrites : Obligations.SelectionWrites := ⟨selectWrites, mergeWrites⟩

end Sys2Proof.Machine
end

section
/-! ### Changes of an index: DELETE, FILTER_WRITE, PUBLISH, CHANGE_APPLIED -/

namespace Sys2Proof.Machine

/-! ### The versions of an index -/

@[simp] theorem indexSt_setIndex_same (s : State) (ref : Nat) (x : IndexSt) : indexSt (setIndex s ref x) ref = x := by
  simp [indexSt, setIndex, tgetD]

theorem indexSt_setIndex_ne {r ref : Nat} (s : State) (x : IndexSt) (h : r ≠ ref) :
    indexSt (setIndex s ref x) r = indexSt s r := by
  simp only [indexSt, setIndex, tgetD, tget_tset_ne _ _ _ _ h]

theorem indexSt_of_search {s t : State} (h : t.search = s.search) (r : Nat) : indexSt t r = indexSt s r := by
  unfold indexSt
  rw [h]

theorem Handed.search {s t : State} (h : Handed s t) : t.search = s.search := by rw [h.fields]

theorem indexSt_of_handed {s u : State} {ref : Nat} {x : IndexSt} (h : Handed (setIndex s ref x) u) : indexSt u ref = x :=
  (indexSt_of_search h.search ref).trans (indexSt_setIndex_same s ref x)

theorem indexOnly_of_handed {s u : State} {ref : Nat} {x : IndexSt} (h : Handed (setIndex s ref x) u)
    (hver : x.version = (indexSt s ref).version) (hcur : x.cur = (indexSt s ref).cur)
    (hprev : x.prev = (indexSt s ref).prev) : IndexOnly s u ref := by
  have hx := indexSt_of_handed h
  have hsearch : { s with search := u.search } = setIndex s ref x := by
    rw [h.search]
    rfl
  exact ⟨hx ▸ hver, hx ▸ hcur, hx ▸ hprev,
    fun r hr => (indexSt_of_search h.search r).trans (indexSt_setIndex_ne s x hr), hsearch ▸ h⟩

theorem handed_loadReply (s : State) (n tag status version : Nat) : Handed s (loadReply s n tag status version) :=
  handed_sendCtl s n _ _ _

/-! ### Bytes and bits of a bitmap -/

@[simp] theorem mapByte_putMap_same (s : State) (h : IndexHdr) (m : Table Byte) (f b : Nat) (v : Byte) :
    mapByte s h (putMap s h m f b v) f b = v := by
  unfold mapByte putMap
  by_cases hv : imageMapByte s h f b = v <;> simp [hv]

theorem mapByte_putMap_ne {f b g c : Nat} (s : State) (h : IndexHdr) (m : Table Byte) (v : Byte)
    (hne : g * 2 ^ 40 + c ≠ f * 2 ^ 40 + b) : mapByte s h (putMap s h m f b v) g c = mapByte s h m g c := by
  unfold mapByte putMap
  by_cases hv : imageMapByte s h f b = v
  · rw [if_pos hv, tget_tdel_ne _ _ _ hne]
  · rw [if_neg hv, tget_tset_ne _ _ _ _ hne]

/-- A version with the live bit of a passage cleared (R170). -/
def clearLive (s : State) (h : IndexHdr) (m : Table Byte) (p : Nat) : Table Byte :=
  putMap s h m 0 (p / 8) (mapByte s h m 0 (p / 8) &&& ~~~(BitVec.ofNat 8 (2 ^ (p % 8))))

/-- A version with bytes of one bitmap written from a byte on (R170). -/
def writeMap (s : State) (h : IndexHdr) (f offset : Nat) (m : Table Byte) (bytes : List Byte) : Table Byte :=
  ((List.range bytes.length).zip bytes).foldl (fun m q => putMap s h m f (offset + q.1) q.2) m

theorem getLsbD_clearBit (v : Byte) {i j : Nat} (hi : i < 8) :
    (v &&& ~~~(BitVec.ofNat 8 (2 ^ j))).getLsbD i = (v.getLsbD i && !decide (i = j)) := by
  rw [BitVec.getLsbD_and, BitVec.getLsbD_not, BitVec.getLsbD_ofNat, Nat.testBit_two_pow]
  simp [hi, eq_comm]

theorem mapBit_clearLive (s : State) (h : IndexHdr) (m : Table Byte) (q p : Nat) :
    mapBit s h (clearLive s h m q) 0 p = (mapBit s h m 0 p && !decide (p = q)) := by
  unfold mapBit clearLive
  by_cases hb : p / 8 = q / 8
  · rw [hb, mapByte_putMap_same, getLsbD_clearBit _ (Nat.mod_lt p (by decide))]
    congr 3
    exact propext (by omega)
  · rw [mapByte_putMap_ne s h m _ (by omega), decide_eq_false (by rintro rfl; exact hb rfl)]
    simp

theorem mapBit_clearLive_other (s : State) (h : IndexHdr) (m : Table Byte) {q f : Nat} (p : Nat) (hq : q < 2 ^ 40)
    (hf : 1 ≤ f) : mapBit s h (clearLive s h m q) f p = mapBit s h m f p := by
  unfold mapBit clearLive
  rw [mapByte_putMap_ne s h m _ (by omega)]

theorem mapBit_clearAll (s : State) (h : IndexHdr) (l : List Nat) (m : Table Byte) (p : Nat) :
    mapBit s h (l.foldl (clearLive s h) m) 0 p = (mapBit s h m 0 p && !(l.contains p)) := by
  induction l generalizing m with
  | nil => simp
  | cons q l ih =>
    rw [List.foldl_cons, ih, mapBit_clearLive, List.contains_cons, Bool.not_or, Bool.and_assoc]
    rfl

theorem mapBit_clearAll_other (s : State) (h : IndexHdr) {l : List Nat} (m : Table Byte) {f : Nat} (p : Nat)
    (hl : ∀ q ∈ l, q < 2 ^ 40) (hf : 1 ≤ f) : mapBit s h (l.foldl (clearLive s h) m) f p = mapBit s h m f p :=
  List.foldlRecOn (motive := fun m' => mapBit s h m' f p = mapBit s h m f p) l _ rfl fun m' hm q hq =>
    (mapBit_clearLive_other s h m' p (hl q hq) hf).trans hm

theorem writeMap_append (s : State) (h : IndexHdr) (f offset : Nat) (m : Table Byte) (bytes : List Byte) (v : Byte) :
    writeMap s h f offset m (bytes ++ [v]) = putMap s h (writeMap s h f offset m bytes) f (offset + bytes.length) v := by
  unfold writeMap
  rw [List.length_append, List.length_singleton, List.range_succ, List.zip_append (by simp), List.foldl_append]
  rfl

theorem mapByte_writeMap (s : State) (h : IndexHdr) (f offset : Nat) (m : Table Byte) (bytes : List Byte) {g b : Nat}
    (hlen : offset + bytes.length ≤ 2 ^ 40) (hb : b < 2 ^ 40) :
    mapByte s h (writeMap s h f offset m bytes) g b =
      if g = f ∧ offset ≤ b ∧ b < offset + bytes.length then bytes.getD (b - offset) 0 else mapByte s h m g b := by
  induction bytes using List.reverseRecOn with
  | nil =>
    rw [if_neg (by simp only [List.length_nil]; omega)]
    rfl
  | append_singleton bytes v ih =>
    rw [List.length_append, List.length_singleton] at hlen ⊢
    rw [writeMap_append]
    by_cases hnew : g = f ∧ b = offset + bytes.length
    · obtain ⟨rfl, rfl⟩ := hnew
      rw [mapByte_putMap_same, if_pos (by omega)]
      simp
    · rw [mapByte_putMap_ne _ _ _ _ (by omega), ih (by omega)]
      by_cases hin : g = f ∧ offset ≤ b ∧ b < offset + bytes.length
      · rw [if_pos hin, if_pos (by omega), List.getD_append _ _ _ _ (by omega)]
      · rw [if_neg hin, if_neg (by omega)]

theorem mapBytes_le {h : IndexHdr} (hs : h.shape.slots ≤ 2 ^ 40) : h.mapBytes ≤ 2 ^ 40 := by
  unfold IndexHdr.mapBytes ceilDiv
  omega

/-! ### A change or a publication that arrives -/

/-- The copy `m` with a change in it (R172). -/
def changed (s : State) (h : IndexHdr) (m : Table Byte) (c : HeldChange) : Table Byte :=
  if c.passages ≠ [] then c.passages.foldl (clearLive s h) m else writeMap s h c.filter c.offset m c.data

theorem applyChange_change {c : HeldChange} (hc : c.isPublish = false) (s : State) (ref : Nat) (h : IndexHdr) (x : IndexSt) :
    applyChange s ref h x c =
      loadReply (setIndex s ref { x with spare := some (changed s h (x.spare.getD x.cur) c) }) c.session c.tag 0 0 := by
  unfold applyChange
  rw [if_neg (by simp [hc])]
  rfl

theorem applyChange_publish {c : HeldChange} (hc : c.isPublish = true) (s : State) (ref : Nat) (h : IndexHdr) (x : IndexSt) :
    applyChange s ref h x c =
      loadReply (setIndex s ref { x with publishAt := some (now s) }) c.session c.tag 0 (x.version + 1) := if_pos hc

theorem handed_applyChange_change {c : HeldChange} (hc : c.isPublish = false) (s : State) (ref : Nat) (h : IndexHdr)
    (x : IndexSt) : Handed (setIndex s ref { x with spare := some (changed s h (x.spare.getD x.cur) c) })
      (applyChange s ref h x c) :=
  applyChange_change hc s ref h x ▸ handed_loadReply _ _ _ _ _

theorem handed_applyChange_publish {c : HeldChange} (hc : c.isPublish = true) (s : State) (ref : Nat) (h : IndexHdr)
    (x : IndexSt) : Handed (setIndex s ref { x with publishAt := some (now s) }) (applyChange s ref h x c) :=
  applyChange_publish hc s ref h x ▸ handed_loadReply _ _ _ _ _

/-- A change that is received: its bitmap is the one changed since the last PUBLISH, which ends with the next one. -/
def received (x : IndexSt) (c : HeldChange) : IndexSt := { x with changing := if c.isPublish then none else some c.filter }

section
variable {s : State} {ref : Nat} (h : IndexHdr) {c : HeldChange}

theorem takeChange_applies (hheld : (indexSt s ref).held = [])
    (hgo : c.isPublish = true ∨ mustWait s ref (indexSt s ref) = false) :
    takeChange s ref h c = applyChange s ref h (received (indexSt s ref) c) c := by
  refine if_neg (not_or.2 ⟨fun hne => hne hheld, fun hwait => ?_⟩)
  rcases hgo with hpub | hgo
  · simp [hpub] at hwait
  · exact Bool.false_ne_true (hgo.symm.trans hwait.2)

theorem takeChange_holds (hc : c.isPublish = false)
    (hwait : (indexSt s ref).held ≠ [] ∨ mustWait s ref (indexSt s ref) = true) :
    takeChange s ref h c =
      setIndex s ref { received (indexSt s ref) c with held := (indexSt s ref).held ++ [c] } :=
  if_pos (hwait.imp_right fun hw => ⟨hc, hw⟩)

end

theorem sessionReady_of_indexSession {s : State} {n ref : Nat} {x : Session} {h : IndexHdr} (hs : IndexSession s n ref x h) :
    SessionReady s n x := by
  obtain ⟨⟨hx, -, hqueue⟩, -⟩ := hs
  exact ⟨hx, hqueue⟩

theorem slots_le_of_indexSession {s : State} {n ref : Nat} {x : Session} {h : IndexHdr} (hs : IndexSession s n ref x h) :
    h.shape.slots ≤ 2 ^ 40 := by
  obtain ⟨-, -, -, hslots⟩ := hs
  exact hslots

theorem loadReply_mem {s : State} {n ref : Nat} {x : Session} {h : IndexHdr} (hs : IndexSession s n ref x h) (ix : IndexSt)
    (tag status version : Nat) :
    Out.msg n x.firstMsgq 0x87 tag (toLE 1 status ++ zeros 7 ++ toLE 8 version) (now s) ∈
      (loadReply (setIndex s ref ix) n tag status version).out :=
  msg_mem_sendCtl (s := setIndex s ref ix) 0x87 tag _ (sessionReady_of_indexSession hs)

/-- A change that need not wait is in the spare copy, and is answered OK. -/
theorem takeChange_changes {s : State} {n ref : Nat} {x : Session} {h : IndexHdr} {c : HeldChange}
    (hs : IndexSession s n ref x h) (hn : c.session = n) (hc : c.isPublish = false) (hheld : (indexSt s ref).held = [])
    (hgo : mustWait s ref (indexSt s ref) = false) :
    let u := takeChange s ref h c
    IndexOnly s u ref ∧ (indexSt u ref).changing = some c.filter ∧
      (indexSt u ref).spare = some (changed s h ((indexSt s ref).spare.getD (indexSt s ref).cur) c) ∧
      Out.msg n x.firstMsgq 0x87 c.tag (toLE 1 0 ++ zeros 7 ++ toLE 8 0) (now s) ∈ u.out := by
  subst hn
  intro u
  have hu : u = applyChange s ref h (received (indexSt s ref) c) c := takeChange_applies h hheld (.inr hgo)
  have hsent := handed_applyChange_change hc s ref h (received (indexSt s ref) c)
  have hix := indexSt_of_handed hsent
  rw [hu]
  refine ⟨indexOnly_of_handed hsent rfl rfl rfl, ?_, (congrArg IndexSt.spare hix :), ?_⟩
  · exact (congrArg IndexSt.changing hix).trans (by simp [received, hc])
  · rw [applyChange_change hc]
    exact loadReply_mem hs _ _ _ _

/-! ### The commands of a session -/

theorem indexLoad_session {s : State} {n ref : Nat} {x : Session} {h : IndexHdr} (hs : IndexSession s n ref x h) (tag : Nat)
    (run : IndexHdr → Res) : indexLoad s n tag ref run = run h := by
  obtain ⟨⟨hx, hpriv, -⟩, hserv, hat, -⟩ := hs
  simp [indexLoad, hx, hpriv, hserv, hat]

theorem indexLoad_completes (s : State) (n tag ref : Nat) {run : IndexHdr → Res} (hrun : ∀ h, ∃ u, run h = .next u) :
    ∃ u, indexLoad s n tag ref run = .next u := by
  unfold indexLoad
  split
  · exact ⟨_, rfl⟩
  · refine next_of_ite ⟨_, rfl⟩ (next_of_ite ⟨_, rfl⟩ ?_)
    split
    · exact ⟨_, rfl⟩
    · exact hrun _

theorem delete_completes (s : State) (n tag ref : Nat) (passages : List Nat) : Completes (.delete n tag ref passages) s :=
  indexLoad_completes s n tag ref fun _ => next_of_ite ⟨_, rfl⟩ (next_of_ite ⟨_, rfl⟩ ⟨_, rfl⟩)

theorem filterWrite_completes (s : State) (n tag ref f offset : Nat) (bytes : List Byte) :
    Completes (.filterWrite n tag ref f offset bytes) s :=
  indexLoad_completes s n tag ref fun _ => next_of_ite ⟨_, rfl⟩ (next_of_ite ⟨_, rfl⟩ ⟨_, rfl⟩)

theorem publish_completes (s : State) (n tag ref : Nat) : Completes (.publish n tag ref) s :=
  indexLoad_completes s n tag ref fun _ => next_of_ite ⟨_, rfl⟩ ⟨_, rfl⟩

/-- The change that a DELETE makes. -/
def deletion (n tag : Nat) (passages : List Nat) : HeldChange :=
  { session := n, tag := tag, isPublish := false, filter := 0, offset := 0, data := [], passages := passages }

/-- The change that a FILTER_WRITE makes. -/
def filterChange (n tag f offset : Nat) (bytes : List Byte) : HeldChange :=
  { session := n, tag := tag, isPublish := false, filter := f, offset := offset, data := bytes, passages := [] }

/-- A PUBLISH as it is held. -/
def publication (n tag : Nat) : HeldChange :=
  { session := n, tag := tag, isPublish := true, filter := 0, offset := 0, data := [], passages := [] }

section
variable {s : State} {n ref : Nat} {x : Session} {h : IndexHdr} (hs : IndexSession s n ref x h) (tag : Nat)
include hs

theorem delete_takes {passages : List Nat} (hp : ∀ p ∈ passages, p < h.shape.slots) (hmap : secondMap s ref 0 = false) :
    Does (.delete n tag ref passages) s (takeChange s ref h (deletion n tag passages)) := by
  refine (indexLoad_session hs tag _).trans ((if_neg ?_).trans (if_neg (by simp [hmap])))
  simpa using hp

theorem filterWrite_takes {f offset : Nat} {bytes : List Byte} (hf : f = 0 ∨ h.shape.filters.contains f = true)
    (hlen : offset + bytes.length ≤ h.mapBytes) (hmap : secondMap s ref f = false) :
    Does (.filterWrite n tag ref f offset bytes) s (takeChange s ref h (filterChange n tag f offset bytes)) := by
  refine (indexLoad_session hs tag _).trans ((if_neg ?_).trans (if_neg (by simp [hmap])))
  rintro (⟨hf0, hundef⟩ | hlong)
  · exact hf.elim hf0 fun hdef => Bool.false_ne_true (hundef.symm.trans hdef)
  · omega

theorem publish_takes (hch : (indexSt s ref).changing ≠ none) :
    Does (.publish n tag ref) s (takeChange s ref h (publication n tag)) :=
  (indexLoad_session hs tag _).trans (if_neg (by simpa using hch))

theorem publish_unchanged (hch : (indexSt s ref).changing = none) :
    Does (.publish n tag ref) s (loadReply s n tag 0 (indexSt s ref).version) :=
  (indexLoad_session hs tag _).trans (if_pos (by simp [hch]))

/-- DELETE clears the live bits of its passages in the spare copy, and leaves every other bit (R170). -/
theorem delete_clears {passages : List Nat} (hp : ∀ p ∈ passages, p < h.shape.slots) (m : Table Byte) :
    (∀ p, mapBit s h (changed s h m (deletion n tag passages)) 0 p = (mapBit s h m 0 p && !(passages.contains p))) ∧
    ∀ f p, 1 ≤ f → mapBit s h (changed s h m (deletion n tag passages)) f p = mapBit s h m f p := by
  have hcopy : changed s h m (deletion n tag passages) = passages.foldl (clearLive s h) m := by
    cases passages <;> rfl
  rw [hcopy]
  exact ⟨mapBit_clearAll s h passages m,
    fun f p hf => mapBit_clearAll_other s h m p (fun q hq => (hp q hq).trans_le (slots_le_of_indexSession hs)) hf⟩

/-- A publication while nothing is held is ordered as the next version, and the reply names it (R172). -/
theorem publish_orders (hheld : (indexSt s ref).held = []) :
    let u := takeChange s ref h (publication n tag)
    IndexOnly s u ref ∧ (indexSt u ref).spare = (indexSt s ref).spare ∧ (indexSt u ref).publishAt = some (now s) ∧
      (indexSt u ref).changing = none ∧
      Out.msg n x.firstMsgq 0x87 tag (toLE 1 0 ++ zeros 7 ++ toLE 8 ((indexSt s ref).version + 1)) (now s) ∈ u.out := by
  intro u
  have hu : u = applyChange s ref h (received (indexSt s ref) (publication n tag)) (publication n tag) :=
    takeChange_applies h hheld (.inl rfl)
  have hsent := handed_applyChange_publish (c := publication n tag) rfl s ref h (received (indexSt s ref) (publication n tag))
  have hix := indexSt_of_handed hsent
  rw [hu]
  refine ⟨indexOnly_of_handed hsent rfl rfl rfl, (congrArg IndexSt.spare hix :), (congrArg IndexSt.publishAt hix :),
    (congrArg IndexSt.changing hix :), ?_⟩
  rw [applyChange_publish rfl]
  exact loadReply_mem hs _ tag 0 _

end

theorem indexChanges : Claims.IndexChanges := by
  refine ⟨fun s n tag ref f offset passages bytes => ⟨delete_completes s n tag ref passages,
    filterWrite_completes s n tag ref f offset bytes, publish_completes s n tag ref⟩, ?delete, ?filter, ?held, ?publish⟩
  case delete =>
    intro s n tag ref passages x h hs hp hmap hheld hgo
    obtain ⟨honly, -, hspare, hout⟩ := takeChange_changes (c := deletion n tag passages) hs rfl rfl hheld hgo
    obtain ⟨hlive, hother⟩ := delete_clears hs tag hp ((indexSt s ref).spare.getD (indexSt s ref).cur)
    exact ⟨_, _, delete_takes hs tag hp hmap, honly, hspare, hlive, hother, hout⟩
  case filter =>
    intro s n tag ref f offset bytes x h hs hf hlen hmap hheld hgo
    obtain ⟨honly, hch, hspare, hout⟩ := takeChange_changes (c := filterChange n tag f offset bytes) hs rfl rfl hheld hgo
    exact ⟨_, _, filterWrite_takes hs tag hf hlen hmap, honly, hspare, hch,
      fun g b hb => mapByte_writeMap s h f offset _ bytes (hlen.trans (mapBytes_le (slots_le_of_indexSession hs))) hb, hout⟩
  case held =>
    intro s n tag ref passages x h hs hp hmap hwait
    have hheld := takeChange_holds h (c := deletion n tag passages) rfl hwait
    refine ⟨_, delete_takes hs tag hp hmap, ?_⟩
    rw [hheld]
    exact ⟨indexOnly_of_handed (.refl _) rfl rfl rfl, by simp [received], by simp, rfl⟩
  case publish =>
    intro s n tag ref x h hs hready
    by_cases hch : (indexSt s ref).changing = none
    · have hsent := handed_loadReply s n tag 0 (indexSt s ref).version
      have hix := indexSt_of_search hsent.search
      refine ⟨_, publish_unchanged hs tag hch, ⟨by rw [hix], by rw [hix], by rw [hix], fun r _ => hix r, ?_⟩, by rw [hix],
        fun _ => ⟨hix ref, msg_mem_sendCtl 0x87 tag _ (sessionReady_of_indexSession hs)⟩, fun hne => absurd hch hne⟩
      rw [hsent.search]
      exact hsent
    · obtain ⟨honly, hspare, hat, hnone, hout⟩ := publish_orders hs tag (hready.resolve_left hch)
      exact ⟨_, publish_takes hs tag hch, honly, hspare, fun hnone' => absurd hnone' hch, fun _ => ⟨hat, hnone, hout⟩⟩

/-! ### CHANGE_APPLIED -/

theorem changeApplied_completes (s : State) (ref : Nat) : Completes (.changeApplied ref) s := by
  show ∃ u, execChangeApplied ref s = .next u
  unfold execChangeApplied
  split
  · exact next_of_ite ⟨_, rfl⟩ ⟨_, rfl⟩
  · exact ⟨_, rfl⟩

theorem changeApplied_applies {s : State} {ref : Nat} {h : IndexHdr} {c : HeldChange} {rest : List HeldChange}
    (hat : indexAt s ref = some h) (hheld : (indexSt s ref).held = c :: rest)
    (hgo : c.isPublish = true ∨ mustWait s ref (indexSt s ref) = false) :
    Does (.changeApplied ref) s (applyChange s ref h { indexSt s ref with held := rest } c) := by
  show execChangeApplied ref s = _
  unfold execChangeApplied
  rw [hat, hheld]
  refine if_neg fun ⟨hc, hwait⟩ => ?_
  rcases hgo with hpub | hgo
  · exact Bool.false_ne_true (hc.symm.trans hpub)
  · exact Bool.false_ne_true (hgo.symm.trans hwait)

end Sys2Proof.Machine
end

section
/-! ### The repair of edges: EDGE_REPAIR -/

namespace Sys2Proof.Machine

/-! ### What edge repair writes -/

/-- Bytes of images, with the seals of their pages, are all that was written. -/
def ImageWritten (s u : State) : Prop :=
  u = { s with tier := { s.tier with t1 := u.tier.t1 },
               flash := { s.flash with data := u.flash.data, seals := u.flash.seals } }

theorem ImageWritten.trans {s u v : State} (h : ImageWritten s u) (k : ImageWritten u v) : ImageWritten s v := by
  unfold ImageWritten at *
  rw [k, h]

theorem ImageWritten.search {s u : State} (h : ImageWritten s u) : u.search = s.search := by rw [h]

theorem ImageWritten.now {s u : State} (h : ImageWritten s u) : Machine.now u = Machine.now s := by rw [h]; rfl

theorem flashPut_writes (s : State) (a : Nat) (bs : List Byte) :
    ImageWritten s (flashPut s a bs) ∧ (flashPut s a bs).tier = s.tier := by
  refine List.foldlRecOn (motive := fun u => ImageWritten s u ∧ u.tier = s.tier) _ _ ⟨rfl, rfl⟩ fun u hu i _ => ?_
  split
  · exact ⟨hu.1.trans rfl, hu.2⟩
  · exact hu

theorem imageWritten_indexWrite (s : State) (x : IndexHdr) (off : Nat) (bs : List Byte) :
    ImageWritten s (indexWrite s x off bs) := by
  unfold indexWrite
  split
  · rfl
  · exact (flashPut_writes s _ bs).1

theorem imageWritten_writeEdges (s : State) (x : IndexHdr) (v y : Nat) (l : List (Nat × List Byte)) :
    ImageWritten s (writeEdges s x v y l) :=
  (imageWritten_indexWrite s x _ _).trans (flashPut_writes _ _ _).1

/-! ### The adjacency slots in device image space -/

theorem memRead_congr {m m' : Table Byte} {a n : Nat} (h : ∀ i, a ≤ i → i < a + n → memByte m i = memByte m' i) :
    memRead m a n = memRead m' a n := by
  induction n generalizing a with
  | zero => rfl
  | succ n ih =>
    rw [memRead, memRead, h a (by omega) (by omega), ih fun i hi hn => h i (by omega) (by omega)]

theorem memRead_memWrite_append (m : Table Byte) (a : Nat) (bs cs : List Byte) :
    memRead (memWrite m a (bs ++ cs)) a bs.length = bs := by
  induction bs generalizing m a with
  | nil => rfl
  | cons b bs ih =>
    have hfirst := memByte_memWrite_inside m a 0 (b :: bs ++ cs) (by simp)
    rw [List.length_cons, memRead]
    exact congrArg₂ List.cons hfirst (ih _ _)

@[simp] theorem length_toLE (n v : Nat) : (toLE n v).length = n := by
  induction n generalizing v with
  | zero => rfl
  | succ n ih => rw [toLE, List.length_cons, ih]

theorem leNat_toLE (n v : Nat) : leNat (toLE n v) = v % 256 ^ n := by
  induction n generalizing v with
  | zero => rw [pow_zero, Nat.mod_one]; rfl
  | succ n ih => rw [toLE, leNat, ih, pow_succ', Nat.mod_mul]; rfl

theorem length_neighbours (s : State) (x : IndexHdr) (node v : Nat) : (neighbours s x node v).length = 32 := by
  simp [neighbours]

theorem length_repairEdges (s : State) (x : IndexHdr) (maps : Table Byte) (v y : Nat) :
    (repairEdges s x maps v y).length = 32 := by
  unfold repairEdges
  dsimp only
  split
  · exact length_neighbours s x y v
  · refine List.foldlRecOn (motive := fun (l : List (Nat × List Byte)) => l.length = 32) _ _ (length_neighbours s x y v)
      fun l hl i _ => ?_
    split
    · exact hl
    · split
      · rw [List.length_set, hl]
      · exact hl

section
variable {x : IndexHdr} (hres : x.img.resident = true)
include hres

theorem validFrom_resident (s : State) (node j : Nat) :
    validFrom s x node j = leNat (memRead s.tier.t1 (2 ^ 68 + x.img.base + adjAt x node j) 8) := by
  unfold validFrom indexRead loadedBytes
  rw [if_pos hres]

theorem writeEdges_t1 (s : State) (v y : Nat) (l : List (Nat × List Byte)) :
    (writeEdges s x v y l).tier.t1 = memWrite s.tier.t1 (2 ^ 68 + x.img.base + adjAt x y (1 - adjSlot s x y v))
      (toLE 8 (v + 1) ++ l.flatMap (fun e => toLE 5 e.1)) := by
  unfold writeEdges
  dsimp only
  rw [(flashPut_writes _ _ _).2, indexWrite, if_pos hres]

/-- The slot that the current version does not read becomes valid from the next version (R178). -/
theorem validFrom_writeEdges_same (s : State) (v y : Nat) (l : List (Nat × List Byte)) :
    validFrom (writeEdges s x v y l) x y (1 - adjSlot s x y v) = (v + 1) % 2 ^ 64 := by
  have hread := memRead_memWrite_append s.tier.t1 (2 ^ 68 + x.img.base + adjAt x y (1 - adjSlot s x y v))
    (toLE 8 (v + 1)) (l.flatMap (fun e => toLE 5 e.1))
  rw [length_toLE] at hread
  rw [validFrom_resident hres, writeEdges_t1 hres, hread, leNat_toLE]
  rfl

/-- The adjacency of another node stays. -/
theorem validFrom_writeEdges_ne (s : State) (v : Nat) {y z j : Nat} {l : List (Nat × List Byte)} (hl : l.length = 32)
    (hne : z ≠ y) (hj : j ≤ 1) : validFrom (writeEdges s x v y l) x z j = validFrom s x z j := by
  rw [validFrom_resident hres, validFrom_resident hres, writeEdges_t1 hres]
  have hbytes : (toLE 8 (v + 1) ++ l.flatMap (fun e => toLE 5 e.1)).length = 168 := by
    simp [List.length_flatMap, hl]
  refine congrArg leNat (memRead_congr fun i hlo hhi => memByte_memWrite_outside _ _ i _ ?_)
  rw [hbytes]
  unfold adjAt at hlo hhi ⊢
  omega

theorem validFrom_writeAll (v : Nat) {z j : Nat} (hj : j ≤ 1) {l : List (Nat × List (Nat × List Byte))}
    (hl : ∀ p ∈ l, p.1 ≠ z ∧ p.2.length = 32) (s : State) :
    validFrom (l.foldl (fun s p => writeEdges s x v p.1 p.2) s) x z j = validFrom s x z j :=
  List.foldlRecOn (motive := fun u => validFrom u x z j = validFrom s x z j) l _ rfl fun u hu p hp =>
    (validFrom_writeEdges_ne hres u v (hl p hp).2 (hl p hp).1.symm hj).trans hu

/-- Each node of a repair has its other slot valid from the next version once all of them are written. -/
theorem validFrom_repaired (s : State) (v : Nat) {y : Nat} {nodes : List Nat} (hy : y ∈ nodes) (hnodes : nodes.Nodup)
    {plan : Nat → List (Nat × List Byte)} (hplan : ∀ z, (plan z).length = 32) :
    validFrom ((nodes.map fun z => (z, plan z)).foldl (fun s p => writeEdges s x v p.1 p.2) s) x y (1 - adjSlot s x y v) =
      (v + 1) % 2 ^ 64 := by
  obtain ⟨before, after, rfl⟩ := List.append_of_mem hy
  have hsplit : y ∉ before ∧ y ∉ after := by
    have := (List.nodup_middle.1 hnodes).notMem
    simpa using this
  have hkeep : ∀ l : List Nat, y ∉ l → ∀ p ∈ l.map fun z => (z, plan z), p.1 ≠ y ∧ p.2.length = 32 := by
    intro l hyl p hp
    obtain ⟨z, hz, rfl⟩ := List.mem_map.1 hp
    exact ⟨fun hzy => hyl (hzy ▸ hz), hplan z⟩
  rw [List.map_append, List.map_cons, List.foldl_append, List.foldl_cons,
    validFrom_writeAll hres v (by omega) (hkeep after hsplit.2)]
  have hslot : adjSlot ((before.map fun z => (z, plan z)).foldl (fun s p => writeEdges s x v p.1 p.2) s) x y v =
      adjSlot s x y v := by
    unfold adjSlot
    rw [validFrom_writeAll hres v (by decide) (hkeep before hsplit.1),
      validFrom_writeAll hres v (by decide) (hkeep before hsplit.1)]
  rw [← hslot]
  exact validFrom_writeEdges_same hres _ v y (plan y)

end

/-! ### EDGE_REPAIR -/

/-- A live node whose edges repair changes (R178). -/
def repairs (s : State) (h : IndexHdr) (ix : IndexSt) (y : Nat) : Bool :=
  decide (y < h.shape.slots) && mapBit s h ix.cur 0 y &&
    decide ((repairEdges s h ix.cur ix.version y).map (·.1) ≠ (neighbours s h y ix.version).map (·.1))

/-- The nodes that a repair visits and changes, in ascending number. -/
def repairNodes (s : State) (h : IndexHdr) (ix : IndexSt) : List Nat :=
  (List.range h.shape.slots).filter (fun y => mapBit s h ix.cur 0 y &&
    decide ((repairEdges s h ix.cur ix.version y).map (·.1) ≠ (neighbours s h y ix.version).map (·.1)))

theorem mem_repairNodes {s : State} {h : IndexHdr} {ix : IndexSt} {y : Nat} :
    y ∈ repairNodes s h ix ↔ repairs s h ix y = true := by
  simp [repairNodes, repairs, and_assoc]

theorem repairNodes_eq_nil {s : State} {h : IndexHdr} {ix : IndexSt} :
    repairNodes s h ix = [] ↔ ∀ y, repairs s h ix y = false := by
  simp only [List.eq_nil_iff_forall_not_mem, mem_repairNodes, Bool.not_eq_true]

/-- The state with the repaired edges of every such node written. -/
def edgesRepaired (s : State) (h : IndexHdr) (ix : IndexSt) : State :=
  ((repairNodes s h ix).map fun y => (y, repairEdges s h ix.cur ix.version y)).foldl
    (fun s p => writeEdges s h ix.version p.1 p.2) s

theorem imageWritten_edgesRepaired (s : State) (h : IndexHdr) (ix : IndexSt) : ImageWritten s (edgesRepaired s h ix) :=
  List.foldlRecOn (motive := ImageWritten s) _ _ rfl fun u hu p _ =>
    hu.trans (imageWritten_writeEdges u h ix.version p.1 p.2)

/-- The versions of an index whose repair is done: where it changed an edge, the next one is ordered (R178). -/
def repairedIndex (s : State) (h : IndexHdr) (ix : IndexSt) : IndexSt :=
  if repairNodes s h ix = [] then { ix with repairDue := false }
  else { ix with repairDue := false, spare := some ix.cur, publishAt := some (now s) }

theorem edgeRepair_completes (s : State) (ref : Nat) : Completes (.edgeRepair ref) s := by
  show ∃ u, execEdgeRepair ref s = .next u
  unfold execEdgeRepair
  split
  · exact ⟨_, rfl⟩
  · exact next_of_ite ⟨_, rfl⟩ (next_of_ite ⟨_, rfl⟩ ⟨_, rfl⟩)

/-- A repair that may run, with no slot that a bound walk still reads (R178). -/
theorem edgeRepair_repairs {s : State} {ref : Nat} {h : IndexHdr} (hat : indexAt s ref = some h) (hserv : serving s = true)
    (hdue : (indexSt s ref).repairDue = true) (hspare : (indexSt s ref).spare = none) (hheld : (indexSt s ref).held = [])
    (hgo : mustWait s ref (indexSt s ref) = false)
    (hfree : ∀ y v, repairs s h (indexSt s ref) y = true → v ∈ boundVersions s ref →
      validFrom s h y (adjSlot s h y (indexSt s ref).version) ≤ v) :
    Does (.edgeRepair ref) s
      (setIndex (edgesRepaired s h (indexSt s ref)) ref (repairedIndex s h (indexSt s ref))) := by
  have hidle : ((repairNodes s h (indexSt s ref)).any fun y => (boundVersions s ref).any fun v =>
      decide (v < validFrom s h y (adjSlot s h y (indexSt s ref).version))) = false := by
    simp only [List.any_eq_false, decide_eq_true_eq, Bool.not_eq_true, Nat.not_lt]
    exact fun y hy v hv => hfree y v (mem_repairNodes.1 hy) hv
  show execEdgeRepair ref s = _
  unfold execEdgeRepair
  rw [hat]
  dsimp only
  rw [if_neg (by simp [hserv, hdue, hspare, hheld, hgo])]
  refine (if_neg (ne_true_of_eq_false hidle)).trans ?_
  have hnow := (imageWritten_edgesRepaired s h (indexSt s ref)).now
  unfold repairedIndex
  rw [← hnow]
  rfl

theorem edgesRepaired_nil {s : State} {h : IndexHdr} {ix : IndexSt} (hnil : repairNodes s h ix = []) :
    edgesRepaired s h ix = s := by
  unfold edgesRepaired
  rw [hnil]
  rfl

theorem repairedIndex_repairDue (s : State) (h : IndexHdr) (ix : IndexSt) : (repairedIndex s h ix).repairDue = false := by
  unfold repairedIndex
  split <;> rfl

theorem heldChangesAndRepair : Claims.HeldChangesAndRepair := by
  refine ⟨fun s ref => ⟨changeApplied_completes s ref, edgeRepair_completes s ref⟩, ?held, ?repair⟩
  case held =>
    intro s ref h c rest hat hheld hgo
    refine ⟨_, changeApplied_applies hat hheld hgo, ?_⟩
    cases hc : c.isPublish with
    | true =>
      have hsent := handed_applyChange_publish hc s ref h { indexSt s ref with held := rest }
      have hix := indexSt_of_handed hsent
      exact ⟨indexOnly_of_handed hsent rfl rfl rfl, (congrArg IndexSt.held hix :),
        fun _ => ⟨(congrArg IndexSt.publishAt hix :), (congrArg IndexSt.spare hix :)⟩, nofun⟩
    | false =>
      have hsent := handed_applyChange_change hc s ref h { indexSt s ref with held := rest }
      have hix := indexSt_of_handed hsent
      exact ⟨indexOnly_of_handed hsent rfl rfl rfl, (congrArg IndexSt.held hix :), nofun,
        fun _ => ⟨(congrArg IndexSt.publishAt hix :), by rw [hix]; rfl⟩⟩
  case repair =>
    intro s ref h hat hserv hdue hspare hheld hgo ix due hfree
    have hwritten := imageWritten_edgesRepaired s h ix
    refine ⟨_, edgeRepair_repairs hat hserv hdue hspare hheld hgo hfree, ?_, fun r hr => ?_, fun hnone => ?_,
      fun ⟨y, hy⟩ => ?_, fun hres y hy => ?_, ?_⟩
    · rw [indexSt_setIndex_same]
      exact repairedIndex_repairDue s h ix
    · exact (indexSt_setIndex_ne _ _ hr).trans (indexSt_of_search hwritten.search r)
    · have hnil := repairNodes_eq_nil.2 hnone
      rw [indexSt_setIndex_same, edgesRepaired_nil hnil]
      exact ⟨if_pos hnil, rfl, rfl⟩
    · have hsome : repairedIndex s h ix = _ := if_neg (List.ne_nil_of_mem (mem_repairNodes.2 hy))
      rw [indexSt_setIndex_same, hsome]
      exact ⟨rfl, rfl, rfl⟩
    · exact validFrom_repaired hres s ix.version (mem_repairNodes.2 hy) (List.nodup_range.filter _)
        (length_repairEdges s h ix.cur ix.version)
    · show setIndex (edgesRepaired s h ix) ref _ = _
      rw [hwritten]
      rfl

/-- Settles O28: the changes of an index, applied or held, and the repair of its edges. -/
theorem indexMaintenance : Obligations.IndexMaintenance := ⟨indexChanges, heldChangesAndRepair⟩

end Sys2Proof.Machine
end

section
namespace Sys2Proof.Machine

/-! ### The Keep that serves an address is one of the device's 32 -/

theorem extent_keep_lt (x : Extent) (j : Nat) : x.keep j < 32 := by
  unfold Extent.keep
  rw [List.getD_eq_getElem?_getD]
  cases hk : (maskKeeps x.mask)[j % (maskKeeps x.mask).length]? with
  | none => decide
  | some k => exact List.mem_range.1 (List.mem_of_mem_filter (List.mem_of_getElem? hk))

theorem sumBy_le {α : Type} {f : α → Nat} {n : Nat} {l : List α} (h : ∀ x ∈ l, f x ≤ n) : sumBy f l ≤ l.length * n := by
  induction l with
  | nil => simp [sumBy]
  | cons x l ih =>
    have hx := h x (by simp)
    have hl := ih fun y hy => h y (by simp [hy])
    simp only [sumBy, List.length_cons, Nat.succ_mul]
    omega

/-- The shards of the scan index are of one size, that of the first (R161). -/
theorem shardGranules_le_first (s : State) (i : Image) (k : Nat) : shardGranules s i k ≤ shardGranules s i 0 := by
  unfold shardGranules
  split
  · dsimp only
    split
    · rename_i h
      rw [if_pos ⟨h.1, by omega⟩]
    · exact Nat.zero_le _
  · exact Nat.zero_le _

theorem shardAt_lt {s : State} {i : Image} {off : Nat} {p : Nat × Nat} (h : shardAt s i off = some p) : p.1 < 32 := by
  have hall : allShards s i ≤ 32 * shardGranules s i 0 := by
    have h := sumBy_le (l := List.range 32) fun k _ => shardGranules_le_first s i k
    rwa [List.length_range] at h
  unfold shardAt at h
  dsimp only at h
  split at h
  · rename_i hin
    cases h
    exact Nat.div_lt_of_lt_mul (by rw [Nat.mul_comm]; omega)
  · cases h

theorem imagePhys_lt (s : State) (i : Image) (off : Nat) : (imagePhys s i off).1 < 32 := by
  unfold imagePhys
  split
  · rename_i p h
    exact (shardAt_lt h :)
  · exact Nat.mod_lt _ (by decide)

theorem keepHome_lt {s : State} {c a : Nat} {p : Nat × Nat} (h : keepHome s c a = some p) : p.1 < 32 := by
  unfold keepHome at h
  repeat' split at h
  all_goals cases h
  exact extent_keep_lt _ _

theorem keepRead_lt (s : State) (c a : Nat) : keepRead s c a < 32 := by
  unfold keepRead physOf
  split
  · exact Nat.zero_lt_succ _
  · split
    · exact imagePhys_lt _ _ _
    · cases h : keepHome s c a with
      | some p => exact keepHome_lt h
      | none => exact Nat.zero_lt_succ _

theorem rowKeep_lt (s : State) (x : FTab) (row : Nat) : rowKeep s x row < 32 := keepRead_lt s x.ctx _

/-! ### The place of an address does not depend on the feature tables' records -/

theorem interleaveAt_feat (s : State) (f : Features) (i : Image) (off : Nat) :
    interleaveAt { s with feat := f } i off = interleaveAt s i off := by
  have himages : imageGranules { s with feat := f } i = imageGranules s i := rfl
  have hshards : allShards { s with feat := f } i = allShards s i := rfl
  have hregion : regionAt { s with feat := f } off = regionAt s off := rfl
  have hstart (r : Nat) : regionStart { s with feat := f } i r = regionStart s i r := rfl
  unfold interleaveAt
  rw [himages, hshards, hregion]
  simp only [hstart]

theorem imagePhys_feat (s : State) (f : Features) (i : Image) (off : Nat) :
    imagePhys { s with feat := f } i off = imagePhys s i off := by
  have hshard : shardAt { s with feat := f } i off = shardAt s i off := rfl
  unfold imagePhys
  rw [hshard, interleaveAt_feat]
  rfl

theorem physOf_feat (s : State) (f : Features) (c a : Nat) : physOf { s with feat := f } c a = physOf s c a := by
  have hhome : keepHome { s with feat := f } c a = keepHome s c a := rfl
  unfold physOf
  simp only [imagePhys_feat, hhome]

/-- A register of every Keep. -/
def keepAddrs (off : Nat) : List Nat := (List.range 32).map fun j => regAddr (.keep j) off

theorem regsBut_bumpKeep (s : State) {k : Nat} (off n : Nat) (hk : k < 32) : RegsBut (keepAddrs off) s (bump s (.keep k) off n) :=
  (regsBut_bump s (.keep k) off n).mono fun _ ha =>
    List.mem_map.2 ⟨k, List.mem_range.2 hk, (List.mem_singleton.1 ha).symm⟩

/-! ### DELTA_APPLY -/

/-- What deltas applied at their homes leave: they change the memory of the tiers, and count in the Keeps (R208). -/
structure Applied (s u : State) : Prop where
  regs : RegsBut (keepAddrs 0x8000) s u
  rest : u = { s with tier := u.tier, regs := u.regs }

theorem Applied.refl (s : State) : Applied s s := ⟨regsBut_refl _ s, rfl⟩

theorem Applied.trans {s u v : State} (h : Applied s u) (k : Applied u v) : Applied s v where
  regs := h.regs.trans k.regs
  rest := by
    have hk := k.rest
    rw [h.rest] at hk
    exact hk

theorem applied_applyDelta (s : State) (d : DeltaRec) : Applied s (applyDelta s d) where
  regs := regsBut_bumpKeep (t1Write s _ _ _) 0x8000 1 (rowKeep_lt _ _ _)
  rest := rfl

/-- The deltas that a test picks of those due. -/
def duePicked (s : State) (p : DueDelta → Bool) : List DueDelta :=
  s.feat.area.filter fun d => decide (d.due ≤ now s) && p d

/-- The delta area without the deltas that a test picks of those due. -/
def withoutDue (s : State) (p : DueDelta → Bool) : State :=
  { s with feat := { s.feat with area := s.feat.area.filter fun d => !(decide (d.due ≤ now s) && p d) } }

theorem rowKeep_withoutDue (s : State) (p : DueDelta → Bool) (x : FTab) (row : Nat) :
    rowKeep (withoutDue s p) x row = rowKeep s x row := congrArg Prod.fst (physOf_feat s _ x.ctx _)

theorem applyDue_eq (s : State) (p : DueDelta → Bool) : applyDue s p =
    (sortBy deltaBefore (duePicked s p)).foldl (fun s d => applyDelta s d.delta) (withoutDue s p) := rfl

theorem applied_applyDue (s : State) (p : DueDelta → Bool) : Applied (withoutDue s p) (applyDue s p) :=
  List.foldlRecOn (motive := Applied (withoutDue s p)) _ _ (.refl _) fun _ hu d _ => hu.trans (applied_applyDelta _ d.delta)

theorem applyDue_feat (s : State) (p : DueDelta → Bool) : (applyDue s p).feat = (withoutDue s p).feat := by
  rw [(applied_applyDue s p).rest]

/-- One delta alone leaves its row's bytes updated and is counted by the row's Keep (R208). -/
theorem applyDelta_writes (s : State) (d : DeltaRec) :
    let x := ftabOf s d.table
    let a := rowAddr s x d.row
    Counted s (applyDelta s d) (.keep (rowKeep s x d.row)) 0x8000 1 ∧
      WroteMem s.tier.t1 (applyDelta s d).tier.t1 (t1Key x.ctx a) (applyTo x d (t1Read s x.ctx a x.rowBytes)) :=
  ⟨counted_of_reg (counted_bump _ _ _ _) rfl, wroteMem_t1Write s _ _ _⟩

/-- The row of a delta is homed in a Keep. -/
def homedIn (s : State) (keep : Nat) (d : DueDelta) : Bool := decide (rowKeep s (ftabOf s d.delta.table) d.delta.row = keep)

/-- A single due delta of a Keep is counted there and leaves its row's bytes updated (R208). -/
theorem applyDue_one {s : State} {keep : Nat} {d : DueDelta} (hone : duePicked s (homedIn s keep) = [d]) :
    let x := ftabOf s d.delta.table
    let a := rowAddr s x d.delta.row
    Counted s (applyDue s (homedIn s keep)) (.keep keep) 0x8000 1 ∧
      WroteMem s.tier.t1 (applyDue s (homedIn s keep)).tier.t1 (t1Key x.ctx a) (applyTo x d.delta (t1Read s x.ctx a x.rowBytes)) := by
  have hd : d ∈ duePicked s (homedIn s keep) := hone ▸ List.mem_singleton_self d
  have hhome : rowKeep s (ftabOf s d.delta.table) d.delta.row = keep :=
    of_decide_eq_true (Bool.and_eq_true_iff.1 (List.mem_filter.1 hd).2).2
  have hall := applyDue_eq s (homedIn s keep)
  rw [hone] at hall
  obtain ⟨hcount, hwrote⟩ := applyDelta_writes (withoutDue s (homedIn s keep)) d.delta
  rw [rowKeep_withoutDue, show ftabOf (withoutDue s (homedIn s keep)) _ = ftabOf s _ from rfl, hhome] at hcount
  rw [hall]
  exact ⟨hcount, hwrote⟩

theorem deltaApply_does (s : State) {keep : Nat} (hkeep : keep < 32) : Does (.deltaApply keep) s (applyDue s (homedIn s keep)) :=
  if_neg (by omega)

theorem deltaApplyApplies : Claims.DeltaApplyApplies := by
  intro s keep hkeep due
  have happlied := applied_applyDue s (homedIn s keep)
  have hfeat := applyDue_feat s (homedIn s keep)
  refine ⟨_, deltaApply_does s hkeep, hfeat, happlied.regs, ?rest, fun hnone => ?none, fun d hone => applyDue_one hone⟩
  case rest =>
    have hrest := happlied.rest
    generalize applyDue s (homedIn s keep) = u at hfeat hrest ⊢
    rw [hfeat]
    exact hrest
  case none =>
    have hall := applyDue_eq s (homedIn s keep)
    rw [show duePicked s (homedIn s keep) = [] from hnone] at hall
    rw [hall]
    exact ⟨rfl, rfl⟩

/-! ### REPLICATION_WINDOW: the rows chosen -/

theorem mem_sortBy {α : Type} {le : α → α → Bool} {l : List α} {x : α} : x ∈ sortBy le l ↔ x ∈ l := by
  rw [sortBy_eq_insertionSort]
  exact (List.perm_insertionSort _ l).mem_iff

/-- A row that the tiles of a Spire read at least HOT_HITS times (R201). -/
def ReachedHits (s : State) (p : Nat) (r : Nat × Nat) : Prop :=
  ∃ x ∈ s.feat.tracker, x.table = r.1 ∧ x.row = r.2 ∧ fld s .tier 0x8000 16 16 ≤ x.counts.getD p 0

/-- The rows chosen for a Spire reached HOT_HITS and fit in REPLICA_KIB (R201). -/
theorem chooseRows_spec (s : State) (p : Nat) : (∀ r ∈ chooseRows s p, ReachedHits s p r) ∧
    2048 * replicaLines s (chooseRows s p) ≤ fld s .tier 0x8000 32 14 * 1024 := by
  refine List.foldlRecOn (motive := fun (acc : List (Nat × Nat)) => (∀ r ∈ acc, ReachedHits s p r) ∧
    2048 * replicaLines s acc ≤ fld s .tier 0x8000 32 14 * 1024) _ _ ⟨by simp, Nat.zero_le _⟩ fun acc hacc x hx => ?_
  obtain ⟨hrows, hroom⟩ := hacc
  split
  · rename_i hfits
    refine ⟨fun r hr => ?_, hfits⟩
    rcases List.mem_append.1 hr with hr | hr
    · exact hrows r hr
    · obtain ⟨hx, hhits⟩ := List.mem_filter.1 (mem_sortBy.1 hx)
      rw [List.mem_singleton.1 hr]
      exact ⟨x, hx, rfl, rfl, of_decide_eq_true hhits⟩
  · exact ⟨hrows, hroom⟩

/-- The chosen rows of a Spire, in their order. -/
def chosenRows (s : State) (p : Nat) : List (Nat × Nat) := (s.feat.chosen.filter fun c => decide (c.1 = p)).map (·.2)

/-- The chosen rows of all Spires in one list keep each Spire's own. -/
theorem filter_flatMap_tagged {α : Type} (f : Nat → List α) {p : Nat} {l : List Nat} (hp : p ∈ l) (hl : l.Nodup) :
    ((l.flatMap fun q => (f q).map fun r => (q, r)).filter fun c => decide (c.1 = p)).map (·.2) = f p := by
  have htag (q : Nat) : (((f q).map fun r => (q, r)).filter fun c => decide (c.1 = p)).map (·.2) = if q = p then f p else [] := by
    by_cases hq : q = p
    · subst hq
      simp [List.filter_map, Function.comp_def]
    · simp [List.filter_map, Function.comp_def, hq]
  rw [List.filter_flatMap, List.map_flatMap]
  simp only [htag]
  induction l with
  | nil => simp at hp
  | cons q l ih =>
    obtain ⟨hq, hl⟩ := List.nodup_cons.1 hl
    rw [List.flatMap_cons]
    by_cases hqp : q = p
    · subst hqp
      have hrest : (l.flatMap fun k => if k = q then f q else []) = [] :=
        List.flatMap_eq_nil_iff.2 fun k hk => if_neg (ne_of_mem_of_not_mem hk hq)
      rw [hrest, if_pos rfl, List.append_nil]
    · rw [if_neg hqp, List.nil_append]
      exact ih ((List.mem_cons.1 hp).resolve_left (Ne.symm hqp)) hl

/-! ### REPLICATION_WINDOW: the replicas filled -/

/-- The copies of a Spire's rows counted by their Keeps (R201). -/
def countCopies (first : Bool) (s : State) (l : List (Nat × Nat)) : State :=
  l.foldl (fun s r => if first ∨ (ftabOf s r.1).cls = 2 then bump s (.keep (rowKeep s (ftabOf s r.1) r.2)) 0x8010 1 else s) s

/-- One Spire receives its replicas. -/
def fillSpire (first : Bool) (s : State) (p : Nat) : State :=
  countCopies first (setReplicas s p (chosenRows s p)) (chosenRows s p)

theorem fillReplicas_eq (s : State) :
    fillReplicas s = (List.range 8).foldl (fillSpire (decide (now s % hotWindow s = 0))) s := rfl

theorem countCopies_onlyRegs (first : Bool) (s : State) (l : List (Nat × Nat)) :
    RegsBut (keepAddrs 0x8010) s (countCopies first s l) ∧ OnlyRegs s (countCopies first s l) := by
  refine List.foldlRecOn (motive := fun u => RegsBut (keepAddrs 0x8010) s u ∧ OnlyRegs s u) l _ ⟨regsBut_refl _ s, rfl⟩
    fun u hu r _ => ?_
  split
  · exact ⟨hu.1.trans (regsBut_bumpKeep u _ _ (rowKeep_lt _ _ _)), hu.2.trans (onlyRegs_bump u _ _ _)⟩
  · exact hu

/-- A Spire with its replicas for the window: its queue as before, and of its lines the first ones. -/
def Replicated (rows : List (Nat × Nat)) (x y : Spire) : Prop :=
  y.replicas = rows ∧ y.queue = x.queue ∧ y.lines <+: x.lines

theorem spireAt_of_spires {s u : State} (h : u.spires = s.spires) (p : Nat) : spireAt u p = spireAt s p := by
  unfold spireAt
  rw [h]

theorem spireAt_setSpire_ne (s : State) {p q : Nat} (x : Spire) (h : q ≠ p) : spireAt (setSpire s p x) q = spireAt s q :=
  tgetD_tsetD_ne _ _ _ _ _ h

/-- What Spires that receive their replicas leave: those named hold them, the others are as before, and of the registers
the Keeps' counts of replica reads change. -/
structure SpiresFilled (ps : List Nat) (s u : State) : Prop where
  filled : ∀ p ∈ ps, Replicated (chosenRows s p) (spireAt s p) (spireAt u p)
  others : ∀ p, p ∉ ps → spireAt u p = spireAt s p
  regs : RegsBut (keepAddrs 0x8010) s u
  rest : u = { s with spires := u.spires, regs := u.regs }

theorem spiresFilled_fillSpire (first : Bool) (s : State) (p : Nat) : SpiresFilled [p] s (fillSpire first s p) := by
  obtain ⟨hregs, honly⟩ := countCopies_onlyRegs first (setReplicas s p (chosenRows s p)) (chosenRows s p)
  have hspires (q : Nat) : spireAt (fillSpire first s p) q = spireAt (setReplicas s p (chosenRows s p)) q :=
    spireAt_of_spires (by rw [show fillSpire first s p = _ from honly]) q
  refine ⟨fun q hq => ?_, fun q hq => ?_, hregs, ?_⟩
  · rw [List.mem_singleton.1 hq, hspires, setReplicas, spireAt_setSpire_same]
    exact ⟨rfl, rfl, List.take_prefix _ _⟩
  · rw [hspires, setReplicas, spireAt_setSpire_ne _ _ (by simpa using hq)]
  · rw [show fillSpire first s p = _ from honly]
    rfl

theorem spiresFilled_foldl (first : Bool) {ps : List Nat} (hps : ps.Nodup) (s : State) :
    SpiresFilled ps s (ps.foldl (fillSpire first) s) := by
  induction ps generalizing s with
  | nil => exact ⟨by simp, fun _ _ => rfl, regsBut_refl _ s, rfl⟩
  | cons p ps ih =>
    obtain ⟨hp, hps⟩ := List.nodup_cons.1 hps
    have hone := spiresFilled_fillSpire first s p
    have hrest := ih hps (fillSpire first s p)
    have hchosen (q : Nat) : chosenRows (fillSpire first s p) q = chosenRows s q := by
      unfold chosenRows
      rw [hone.rest]
    rw [List.foldl_cons]
    refine ⟨fun q hq => ?_, fun q hq => ?_, hone.regs.trans hrest.regs, ?_⟩
    · rcases List.mem_cons.1 hq with rfl | hq
      · rw [hrest.others q hp]
        exact hone.filled q (by simp)
      · have hne : q ∉ [p] := fun h => hp (List.mem_singleton.1 h ▸ hq)
        rw [← hchosen q, ← hone.others q hne]
        exact hrest.filled q hq
    · obtain ⟨hne, hnot⟩ := not_or.1 (mt List.mem_cons.2 hq)
      rw [hrest.others q hnot, hone.others q (mt List.mem_singleton.1 hne)]
    · have h := hrest.rest
      generalize ps.foldl (fillSpire first) (fillSpire first s p) = u at h ⊢
      rw [hone.rest] at h
      exact h

/-- The state in which a window opens: the rows of every Spire chosen, the tracker empty (R200, R201). -/
def windowOpened (s : State) : State :=
  { s with feat := { s.feat with
      chosen := (List.range 8).flatMap fun p => (chooseRows s p).map fun r => (p, r)
      chosenFor := some (now s / hotWindow s)
      tracker := [] } }

theorem replicationWindow_completes (s : State) : Completes .replicationWindow s := by
  show ∃ u, execReplicationWindow s = .next u
  unfold execReplicationWindow
  dsimp only
  split <;> exact ⟨_, rfl⟩

theorem replicationWindow_opens {s : State} (hwindow : hotWindow s ≠ 0) (hon : enabled s .tier = true)
    (hserves : s.img.awaiting = false) (hstart : now s % hotWindow s = 0) (hnew : s.feat.chosenFor ≠ some (now s / hotWindow s)) :
    Does .replicationWindow s (fillReplicas (windowOpened s)) :=
  if_neg (by simp [hwindow, hon, hserves, hstart, hnew])

theorem chosenRows_windowOpened (s : State) {p : Nat} (hp : p < 8) : chosenRows (windowOpened s) p = chooseRows s p :=
  filter_flatMap_tagged (chooseRows s) (List.mem_range.2 hp) List.nodup_range

theorem replicationWindowChooses : Claims.ReplicationWindowChooses := by
  refine ⟨replicationWindow_completes, fun s hwindow hon hserves hstart hnew =>
    ⟨_, replicationWindow_opens hwindow hon hserves hstart hnew, ?_⟩⟩
  have hfill := spiresFilled_foldl (decide (now (windowOpened s) % hotWindow (windowOpened s) = 0))
    (List.nodup_range (n := 8)) (windowOpened s)
  rw [← fillReplicas_eq] at hfill
  generalize fillReplicas (windowOpened s) = u at hfill ⊢
  obtain ⟨hfilled, -, hregs, hrest⟩ := hfill
  have hfeat : u.feat = (windowOpened s).feat := by rw [hrest]
  refine ⟨by rw [hfeat]; rfl, fun p hp => ?_, hregs, by rw [hfeat]; exact hrest⟩
  obtain ⟨hreplicas, hqueue, hlines⟩ := hfilled p (List.mem_range.2 hp)
  rw [hreplicas, chosenRows_windowOpened s hp]
  exact ⟨(chooseRows_spec s p).1, (chooseRows_spec s p).2, hqueue, hlines⟩

/-! ### DELTA and DELTA_ACK -/

/-- The acknowledgement of a table and source: the last SEQ taken (R345). -/
def ackBody (s : State) (k : Nat) : List Byte := toLE 2 (k / 16) ++ zeros 6 ++ toLE 8 (tgetD s.feat.taken k 0)

theorem delta_completes (s : State) (n tag : Nat) (ds : List DeltaRec) : Completes (.delta n tag ds) s := by
  show ∃ u, execDelta n tag ds s = .next u
  unfold execDelta
  dsimp only
  repeat' split
  all_goals exact ⟨_, rfl⟩

theorem deltaAck_completes (s : State) (n table seq : Nat) : Completes (.deltaAck n table seq) s := by
  show ∃ u, execDeltaAck n table seq s = .next u
  unfold execDeltaAck
  repeat' split
  all_goals exact ⟨_, rfl⟩

/-- One delta of a device session is taken or rejected, and acknowledged on the second message queue (R207, R345). -/
theorem delta_one {s : State} {n : Nat} {x : Session} (tag : Nat) (d : DeltaRec) (hx : sessAt s n = some x)
    (hdev : epDevice s x.endpoint = true) : Does (.delta n tag [d]) s
      (sendMsg (acceptDelta s d) n (x.firstMsgq + 1) 0x41 0 (ackBody (acceptDelta s d) (seqKey d))) := by
  show execDelta n tag [d] s = _
  unfold execDelta
  simp only [hx, hdev, Bool.true_eq_false, if_false]
  rfl

/-- The record of a delta that has reached its home (R207). -/
def deltaTaken (s : State) (d : DeltaRec) : State :=
  { s with feat := { s.feat with taken := tset s.feat.taken (seqKey d) d.seq } }

theorem acceptDelta_good {s : State} {d : DeltaRec} (h : deltaBad s d = false) : acceptDelta s d =
    { s with feat := { s.feat with
        taken := tset s.feat.taken (seqKey d) d.seq
        area := s.feat.area ++ [{ due := now s + 1, delta := d }]
        lastSeq := tset s.feat.lastSeq (seqKey d) d.seq } } := if_neg (ne_true_of_eq_false h)

theorem acceptDelta_bad {s : State} {d : DeltaRec} (h : deltaBad s d = true) : acceptDelta s d =
    setFlag (bump (deltaTaken s d) .tier 0x8020 1) .tier 0x8010 1 := if_pos h

theorem acceptDelta_keeps (s : State) (d : DeltaRec) :
    acceptDelta s d = { s with feat := (acceptDelta s d).feat, regs := (acceptDelta s d).regs } ∧
      (acceptDelta s d).feat.taken = tset s.feat.taken (seqKey d) d.seq := by
  cases h : deltaBad s d with
  | false => rw [acceptDelta_good h]; exact ⟨rfl, rfl⟩
  | true => rw [acceptDelta_bad h]; exact ⟨rfl, rfl⟩

/-- A delta rejected is counted and its flag set, and nothing else of the registers changes (R207). -/
theorem acceptDelta_rejects {s : State} {d : DeltaRec} (h : deltaBad s d = true) :
    Counted s (acceptDelta s d) .tier 0x8020 1 ∧ FlagUp (acceptDelta s d) .tier 0x8010 1 ∧
      RegsBut [regAddr .tier 0x8020, regAddr .tier 0x8010] s (acceptDelta s d) := by
  rw [acceptDelta_bad h]
  refine ⟨?_, flagUp_setFlag _ _ _ _ (by decide), ?_⟩
  · have hcount : Counted s (bump (deltaTaken s d) .tier 0x8020 1) .tier 0x8020 1 :=
      counted_bump (deltaTaken s d) .tier 0x8020 1
    unfold Counted at hcount ⊢
    rw [← hcount, (regsBut_setFlag _ _ _ _).reg _ _ (by simpa using regAddr_inj _ (by decide))]
  · exact ((regsBut_bump (deltaTaken s d) .tier 0x8020 1).mono (by simp)).trans ((regsBut_setFlag _ _ _ _).mono (by simp))

theorem Handed.feat {s t : State} (h : Handed s t) : t.feat = s.feat := by rw [h.fields]

/-- Outputs handed out after the feature tables' records and registers of the list changed. -/
theorem handedBut_after {s v u : State} {l : List Nat} (h : Handed v u) (hv : v = { s with feat := v.feat, regs := v.regs })
    (hregs : RegsBut l s v) : HandedBut l { s with feat := u.feat } u := by
  have hfeat := h.feat
  obtain ⟨⟨o, ho⟩, hr, he⟩ := h
  rw [hfeat]
  refine ⟨⟨o, by rw [ho, hv]⟩, RegsBut.trans (t := v) (hregs.mono fun _ => List.mem_cons_of_mem _) (hr.mono (by simp)), ?_⟩
  rw [hv] at he
  exact he

theorem delta_arrives {s : State} {n : Nat} {x : Session} (tag : Nat) (d : DeltaRec) (hx : sessAt s n = some x)
    (hdev : epDevice s x.endpoint = true) (hq : (tget x.queues (x.firstMsgq + 1)).isSome = true) :
    ∃ u, Does (.delta n tag [d]) s u ∧ Handed (acceptDelta s d) u ∧
      Out.msg n (x.firstMsgq + 1) 0x41 0 (toLE 2 (seqKey d / 16) ++ zeros 6 ++ toLE 8 d.seq) (now s) ∈ u.out := by
  obtain ⟨hkeeps, htaken⟩ := acceptDelta_keeps s d
  have hbody : ackBody (acceptDelta s d) (seqKey d) = toLE 2 (seqKey d / 16) ++ zeros 6 ++ toLE 8 d.seq := by
    unfold ackBody tgetD
    rw [htaken, tget_tset_same, Option.getD_some]
  have hsess : sessAt (acceptDelta s d) n = some x := by rw [hkeeps]; exact hx
  have hnow : now (acceptDelta s d) = now s := by rw [hkeeps]; rfl
  refine ⟨_, delta_one tag d hx hdev, handed_sendMsg _ _ _ _ _ _, ?_⟩
  rw [hbody, ← hnow]
  exact msg_mem_sendMsg 0x41 0 _ hsess hq

theorem deltaAck_releases {s : State} {n : Nat} {x : Session} (table seq : Nat) (hx : sessAt s n = some x)
    (hdev : epDevice s x.endpoint = true) : Does (.deltaAck n table seq) s
      { s with feat := { s.feat with unacked := s.feat.unacked.filter fun d =>
        !(decide (d.1 = x.endpoint) && decide (d.2.table = table) && decide (d.2.seq ≤ seq)) } } := by
  show execDeltaAck n table seq s = _
  unfold execDeltaAck
  simp only [hx, hdev, Bool.true_eq_false, if_false]

theorem deltasArrive : Claims.DeltasArrive := by
  refine ⟨fun s n tag table seq ds => ⟨delta_completes s n tag ds, deltaAck_completes s n table seq⟩, ?delta, ?ack⟩
  case delta =>
    intro s n tag d x hx hdev hq
    obtain ⟨u, hdoes, hsent, hmsg⟩ := delta_arrives tag d hx hdev hq
    have hkeeps := (acceptDelta_keeps s d).1
    have hfeat := hsent.feat
    refine ⟨u, hdoes, fun hgood => ?good, fun hbad => ?bad, hmsg⟩
    case good =>
      have htaken := acceptDelta_good hgood
      have hregs : RegsBut [] s (acceptDelta s d) := by rw [htaken]; exact fun _ _ => rfl
      refine ⟨?_, ?_, handedBut_after hsent hkeeps hregs⟩
      · rw [hfeat, htaken]
      · rw [hfeat, htaken]
        exact tget_tset_same _ _ _
    case bad =>
      obtain ⟨hcount, hflag, hregs⟩ := acceptDelta_rejects hbad
      have hrejected := acceptDelta_bad hbad
      have hcounter := hsent.reg .tier 0x8020 (by decide)
      refine ⟨?_, ?_, ?_, hsent.flagUp hflag (by decide), handedBut_after hsent hkeeps hregs⟩
      · rw [hfeat, hrejected]; rfl
      · rw [hfeat, hrejected]; rfl
      · unfold Counted at hcount ⊢
        rw [hcounter, hcount]
  case ack =>
    intro s n table seq x hx hdev
    refine ⟨_, deltaAck_releases table seq hx hdev, rfl, fun d => ?_⟩
    simp only [List.mem_filter, Bool.not_eq_true', Bool.and_eq_false_imp, Bool.and_eq_true, decide_eq_true_eq,
      decide_eq_false_iff_not, not_and, and_imp]

/-- Settles O22: deltas applied at their homes, the replicas of a window, and the deltas of other devices. -/
theorem featureDeltas : Obligations.FeatureDeltas := ⟨deltaApplyApplies, replicationWindowChooses, deltasArrive⟩

end Sys2Proof.Machine
end

section
namespace Sys2Proof.Machine

/-! ### The unique list of a batch -/

/-- A number put before an ascending list that begins with no smaller one, unless it is that first number. -/
def putFirst (x : Nat) (acc : List Nat) : List Nat := if acc.head? = some x then acc else x :: acc

theorem uniqueRows_eq (l : List Nat) : uniqueRows l = (sortBy (fun a b => decide (a ≤ b)) l).foldr putFirst [] := rfl

theorem mem_putFirst {x y : Nat} {acc : List Nat} : y ∈ putFirst x acc ↔ y = x ∨ y ∈ acc := by
  unfold putFirst
  split
  · rename_i h
    exact ⟨.inr, fun hy => hy.elim (fun e => e ▸ List.mem_of_head? h) id⟩
  · exact List.mem_cons

theorem pairwise_putFirst {x : Nat} {acc : List Nat} (hacc : acc.Pairwise (· < ·)) (hx : ∀ y ∈ acc, x ≤ y) :
    (putFirst x acc).Pairwise (· < ·) := by
  unfold putFirst
  split
  · exact hacc
  · rename_i hhead
    cases acc with
    | nil => exact List.pairwise_singleton _ _
    | cons y acc =>
      have hxy : x < y := Nat.lt_of_le_of_ne (hx y (by simp)) fun e => hhead (by rw [e]; rfl)
      refine List.pairwise_cons.2 ⟨fun z hz => ?_, hacc⟩
      rcases List.mem_cons.1 hz with rfl | hz
      · exact hxy
      · exact hxy.trans ((List.pairwise_cons.1 hacc).1 z hz)

theorem mem_foldr_putFirst {l : List Nat} {x : Nat} : x ∈ l.foldr putFirst [] ↔ x ∈ l := by
  induction l with
  | nil => rfl
  | cons y l ih => rw [List.foldr_cons, mem_putFirst, ih, List.mem_cons]

theorem pairwise_foldr_putFirst {l : List Nat} (h : l.Pairwise (· ≤ ·)) : (l.foldr putFirst []).Pairwise (· < ·) := by
  induction l with
  | nil => exact List.Pairwise.nil
  | cons y l ih =>
    obtain ⟨hy, hl⟩ := List.pairwise_cons.1 h
    exact pairwise_putFirst (ih hl) fun z hz => hy z (mem_foldr_putFirst.1 hz)

theorem mem_uniqueRows {l : List Nat} {x : Nat} : x ∈ uniqueRows l ↔ x ∈ l := by
  rw [uniqueRows_eq, mem_foldr_putFirst, mem_sortBy]

theorem pairwise_uniqueRows (l : List Nat) : (uniqueRows l).Pairwise (· < ·) := by
  rw [uniqueRows_eq, sortBy_eq_insertionSort]
  refine pairwise_foldr_putFirst ?_
  simpa only [decide_eq_true_eq] using List.pairwise_insertionSort (fun a b : Nat => decide (a ≤ b) = true) l

/-! ### A GATHER_POOL operator over its batch -/

theorem onBatch_completes {s : State} {t : Nat} {p : GatherP} {gather update : Bool} (b : Bufs) (ht : t < 640)
    (hok : gatherOk p gather update = true) {f : Tile → Task → FTab → Batch → Res}
    (hf : ∀ x k q, ∃ u, f x k (ftabOf s p.table) q = .next u) : ∃ u, onBatch t p b gather update s f = .next u := by
  unfold onBatch
  rw [if_neg (by simp [hok])]
  refine onTask_completes ht fun x k => next_of_ite ⟨_, rfl⟩ (next_of_ite ⟨_, rfl⟩ ?_)
  split
  · exact ⟨_, rfl⟩
  · exact next_of_ite ⟨_, rfl⟩ (hf x k _)

theorem onBatch_ready {s : State} {t : Nat} {p : GatherP} {b : Bufs} {k : Task} {q : Batch} {gather update : Bool}
    (h : BatchReady s t p b k q gather update) (f : Tile → Task → FTab → Batch → Res) :
    onBatch t p b gather update s f = f (tileAt s t) k (ftabOf s p.table) q := by
  obtain ⟨hready, hok, hused, hctx, hopen, hread, hbatch⟩ := h
  unfold onBatch
  rw [if_neg (by simp [hok]), onTask_ready hready]
  simp only [hused, hctx, hopen, hread, hbatch, ne_eq, not_true_eq_false, or_self, if_false, Bool.true_eq_false]

/-! ### UNIQUE -/

/-- A task whose operator only changed its tile's SRAM goes on with the next record. -/
theorem nextRecord_advance {s v : State} {t : Nat} {k : Task} (hk : (tileAt s t).task = some k)
    (htile : tileAt v t = { tileAt s t with sram := (tileAt v t).sram }) (hother : ∀ i, i ≠ t → tileAt v i = tileAt s i) :
    NextRecord s (advance v t) t k := by
  refine ⟨?_, fun i hi => (tileAt_advance_ne v hi).trans (hother i hi)⟩
  rw [sram_advance, tileAt_advance (by rw [htile, hk])]
  conv_lhs => rw [htile]

theorem unique_completes (s : State) {t : Nat} {p : GatherP} (b : Bufs) (ht : t < 640) (hok : gatherOk p false false = true) :
    Completes (.unique t p b) s := by
  show ∃ u, execUnique t p b s = .next u
  unfold execUnique
  exact onBatch_completes b ht hok fun x k q => ⟨_, rfl⟩

theorem unique_does {s : State} {t : Nat} {p : GatherP} {b : Bufs} {k : Task} {q : Batch}
    (h : BatchReady s t p b k q false false) : Does (.unique t p b) s
      (advance (bufWrite (bufWrite s t k b.dst 0 (toLE 4 (uniqueRows q.rows).length)) t k b.dst 8
        ((uniqueRows q.rows).flatMap (toLE 8))) t) := by
  show execUnique t p b s = _
  unfold execUnique
  rw [onBatch_ready h]

theorem length_flatMap_toLE (n : Nat) (l : List Nat) : (l.flatMap (toLE n)).length = n * l.length := by
  induction l with
  | nil => rfl
  | cons x l ih => rw [List.flatMap_cons, List.length_append, ih, length_toLE, List.length_cons, Nat.mul_succ, Nat.add_comm]

/-- A count of 4 bytes and, from byte 8 on, numbers of 8 bytes written to a buffer, with the half of a PERSIST buffer and
its key as in `WroteBuffer`. -/
theorem wrote_count_and_list {s v u : State} {t : Nat} {k : Task} {dst : Nat} {rows : List Nat} (himg : v.img = s.img)
    (hcount : WroteBuffer s v t k dst 0 (toLE 4 rows.length)) (hlist : WroteBuffer v u t k dst 8 (rows.flatMap (toLE 8))) :
    let key := bufKey k.entry (decide (bufKind s k dst = 1) && decide (k.step % 2 = 0)) dst 0
    (∀ i, (h : i < (toLE 4 rows.length).length) → tget (tileAt u t).sram (key + i) = some (toLE 4 rows.length)[i]) ∧
    (∀ i, (h : i < (rows.flatMap (toLE 8)).length) → tget (tileAt u t).sram (key + 8 + i) = some (rows.flatMap (toLE 8))[i]) ∧
    (∀ a, a < key ∨ (key + 4 ≤ a ∧ a < key + 8) ∨ key + 8 + 8 * rows.length ≤ a →
      tget (tileAt u t).sram a = tget (tileAt s t).sram a) := by
  unfold WroteBuffer at hcount hlist
  rw [bufKind_of_img himg] at hlist
  obtain ⟨hcountIn, hcountOut⟩ := hcount
  obtain ⟨hlistIn, hlistOut⟩ := hlist
  generalize (decide (bufKind s k dst = 1) && decide (k.step % 2 = 0)) = half at *
  have hkey : bufKey k.entry half dst 8 = bufKey k.entry half dst 0 + 8 := by
    unfold bufKey
    omega
  rw [hkey] at hlistIn hlistOut
  rw [length_flatMap_toLE] at hlistOut
  rw [length_toLE] at hcountOut
  refine ⟨fun i hi => ?_, hlistIn, fun a ha => ?_⟩
  · have hi' : i < 4 := by rwa [length_toLE] at hi
    rw [hlistOut _ (by omega), hcountIn i hi]
  · rw [hlistOut a (by omega), hcountOut a (by omega)]

theorem uniqueListsRows : Claims.UniqueListsRows := by
  refine ⟨fun s t p b ht hok => unique_completes s b ht hok, fun s t p b k q h => ?_⟩
  have hcount := wroteBuffer_bufWrite s t k b.dst 0 (toLE 4 (uniqueRows q.rows).length)
  have hlist := (wroteBuffer_bufWrite (bufWrite s t k b.dst 0 (toLE 4 (uniqueRows q.rows).length)) t k b.dst 8
    ((uniqueRows q.rows).flatMap (toLE 8))).of_sram (sram_advance _ t)
  refine ⟨_, uniqueRows q.rows, unique_does h, pairwise_uniqueRows q.rows, fun r => mem_uniqueRows,
    nextRecord_advance h.1.task ?_ fun i hi => ?_, rfl, wrote_count_and_list (by rfl) hcount hlist⟩
  · rw [tileAt_bufWrite, tileAt_bufWrite s]
  · rw [tileAt_bufWrite_ne _ _ _ _ _ hi, tileAt_bufWrite_ne _ _ _ _ _ hi]

/-! ### UPDATE -/

/-- The exact sum of the weights of a bag. -/
def bagWeight (q : Batch) (i : Nat) : FNum := sumNums ((q.bag i).map (·.2))

/-- The weights with which a bag holds a row. -/
def weightsOf (q : Batch) (i r : Nat) : List FNum := ((q.bag i).filter fun v => decide (v.1 = r)).map (·.2)

/-- The bags that hold a row and count, each with its weight and the row's combined weight (R204). -/
def heldBags (p : GatherP) (q : Batch) (r : Nat) : List (Nat × FNum × FNum) :=
  (((List.range p.bags).map fun i => (i, q.bag i, bagWeight q i)).filter fun a => !(p.mean && isZero a.2.2)).filterMap fun a =>
    let l : List FNum := (a.2.1.filter fun v => decide (v.1 = r)).map (·.2)
    if l.isEmpty then none else some (a.1, a.2.2, sumNums l)

/-- The gradient of a bag for one element, divided by the bag's weight with MEAN (R204). -/
def scaledGradient (s : State) (t : Nat) (k : Task) (p : GatherP) (b : Bufs) (i : Nat) (w : FNum) (e : Nat) : FNum :=
  if p.mean then rne32 (divNum (bagGradient s t k p b (ftabOf s p.table).dim i e) w)
  else bagGradient s t k p b (ftabOf s p.table).dim i e

/-- The delta of one row (R204, R205). -/
def rowDelta (s : State) (t : Nat) (k : Task) (p : GatherP) (b : Bufs) (q : Batch) (r : Nat) : DeltaRec :=
  { table := p.table, source := deviceId s, opt := if (ftabOf s p.table).adagrad then 1 else 0, seq := 0, row := r, lr := p.lr,
    eps := p.eps,
    grad := (List.range (ftabOf s p.table).dim).map fun e =>
      code32 (sumNums ((heldBags p q r).map fun a => mulNum a.2.2 (scaledGradient s t k p b a.1 a.2.1 e))) }

theorem execUpdate_ready {s : State} {t : Nat} {p : GatherP} {b : Bufs} {k : Task} {q : Batch}
    (h : BatchReady s t p b k q false true) (hcls : (ftabOf s p.table).cls = 2) (hel : k.elastic = true)
    (heps : epsOk (ftabOf s p.table).adagrad p.eps = true)
    (hhome : ctxConf s k.ctx = true → ∀ r ∈ uniqueRows q.rows, (ftabOf s p.table).home r = deviceId s) :
    execUpdate t p b s = .next (advance (setTask s t fun l =>
      { l with deltas := l.deltas ++ (uniqueRows q.rows).map (rowDelta s t k p b q) }) t) := by
  have haway : ¬(ctxConf s k.ctx = true ∧
      ((uniqueRows q.rows).any fun r => decide ((ftabOf s p.table).home r ≠ deviceId s)) = true) := fun ⟨hconf, hany⟩ => by
    obtain ⟨r, hr, hne⟩ := List.any_eq_true.1 hany
    exact of_decide_eq_true hne (hhome hconf r hr)
  unfold execUpdate
  rw [onBatch_ready h, if_neg (by simp [hcls, hel]), if_neg (by simp [heps])]
  dsimp only
  rw [if_neg haway]
  delta rowDelta heldBags bagWeight scaledGradient bagGradient
  rfl

theorem update_completes (s : State) {t : Nat} {p : GatherP} (b : Bufs) (ht : t < 640) (hok : gatherOk p false true = true)
    (heps : epsOk (ftabOf s p.table).adagrad p.eps = true) : Completes (.update t p b) s := by
  show ∃ u, execUpdate t p b s = .next u
  unfold execUpdate
  refine onBatch_completes b ht hok fun x k q => next_of_ite ⟨_, rfl⟩ ?_
  rw [if_neg (by simp [heps])]
  exact next_of_ite ⟨_, rfl⟩ ⟨_, rfl⟩

theorem lookup_map_key {α : Type} (f : Nat → α) (l : List Nat) (r : Nat) :
    (l.map fun x => (x, f x)).lookup r = if r ∈ l then some (f r) else none := by
  induction l with
  | nil => rfl
  | cons x l ih =>
    rw [List.map_cons, List.lookup_cons, ih]
    by_cases h : r = x
    · simp [h]
    · rw [beq_eq_false_iff_ne.2 h]
      simp [h]

/-- A bag's combined weight of a row, where the bag holds it (R195). -/
theorem lookup_combined (q : Batch) (i r : Nat) :
    (combined (q.bag i)).lookup r = if (weightsOf q i r).isEmpty then none else some (sumNums (weightsOf q i r)) := by
  have hheld : r ∈ uniqueRows ((q.bag i).map (·.1)) ↔ ¬(weightsOf q i r).isEmpty = true := by
    rw [mem_uniqueRows, weightsOf]
    simp
  unfold combined
  rw [lookup_map_key, if_congr hheld rfl rfl, ite_not]
  rfl

/-- The terms of a row's gradient, bag by bag (R204). -/
theorem heldBags_terms (p : GatherP) (q : Batch) (r : Nat) (g : Nat → FNum → FNum) :
    ((heldBags p q r).map fun a => mulNum a.2.2 (g a.1 a.2.1)) = (List.range p.bags).filterMap fun i =>
      if p.mean = true ∧ isZero (bagWeight q i) = true then none
      else ((combined (q.bag i)).lookup r).map fun c => mulNum c (g i (bagWeight q i)) := by
  unfold heldBags
  rw [List.map_filterMap, List.filterMap_filter, List.filterMap_map]
  refine List.filterMap_congr fun i _ => ?_
  rw [lookup_combined]
  dsimp only [Function.comp]
  by_cases hz : p.mean = true ∧ isZero (bagWeight q i) = true
  · simp [hz]
  · rw [if_neg hz, if_pos (by simpa [-not_and, not_and_or] using hz)]
    change (if (weightsOf q i r).isEmpty then none else some (i, bagWeight q i, sumNums (weightsOf q i r))).map _ = _
    cases (weightsOf q i r).isEmpty <;> rfl

theorem updateMakesDeltas : Claims.UpdateMakesDeltas := by
  refine ⟨fun s t p b ht hok heps => update_completes s b ht hok heps, fun s t p b k q h hcls hel heps hhome => ?_⟩
  have hk := h.1.task
  have hdeltas := onlyTask_setTask hk fun l =>
    { l with deltas := l.deltas ++ (uniqueRows q.rows).map (rowDelta s t k p b q) }
  obtain ⟨htile, hother, hrest⟩ := onlyTask_trans hdeltas (onlyTask_advance (task_of_onlyTask hdeltas))
  refine ⟨_, (uniqueRows q.rows).map (rowDelta s t k p b q), execUpdate_ready h hcls hel heps hhome, hrest, hother, htile,
    ?rows, fun d hd => ?delta⟩
  case rows =>
    rw [List.map_map]
    exact List.map_id _
  case delta =>
    obtain ⟨r, -, rfl⟩ := List.mem_map.1 hd
    refine ⟨rfl, rfl, rfl, rfl, rfl, by simp [rowDelta], fun e he => ?_⟩
    have hterms := heldBags_terms p q r fun i w => scaledGradient s t k p b i w e
    simp only [rowDelta, List.getElem?_map, List.getElem?_range he, Option.map_some]
    rw [hterms]
    rfl

/-! ### The rows that GATHER reads -/

theorem moved_track (t : Nat) (s : State) (table row keep spire : Nat) : Moved t s (track s table row keep spire) := by
  unfold track
  dsimp only
  repeat' split
  all_goals exact ⟨fun _ _ => rfl, rfl, rfl⟩

theorem track_area (s : State) (table row keep spire : Nat) : (track s table row keep spire).feat.area = s.feat.area := by
  unfold track
  dsimp only
  repeat' split
  all_goals rfl

/-- A row settled: its due deltas have left the delta area (R209). -/
theorem settleRow_area (s : State) (table row : Nat) : (settleRow s table row).feat.area = s.feat.area.filter fun d =>
    !(decide (d.due ≤ now s) && (decide (d.delta.table = table) && decide (d.delta.row = row))) := by
  unfold settleRow
  dsimp only
  split
  · rw [applyDue_feat]
    rfl
  · rename_i hnone
    refine (List.filter_eq_self.2 fun d hd => ?_).symm
    simp only [List.any_eq_true, not_exists, not_and] at hnone
    rw [Bool.not_eq_true', ← Bool.not_eq_true]
    exact hnone d hd

/-- A row read: its deltas applied, the read tracked and counted, or kept among the frame's (R196, R200, R202). -/
theorem fetchRow_cases (s : State) (t table row : Nat) :
    let v := track (settleRow s table row) table row (rowKeep s (ftabOf s table) row) (tileSpire t)
    fetchRow s t table row = v ∨ fetchRow s t table row = bump v (.keep (rowKeep s (ftabOf s table) row)) 0x8008 1 ∨
      fetchRow s t table row = { v with feat := { v.feat with reads := v.feat.reads ++ [(table, row, t)] } } := by
  unfold fetchRow
  dsimp only
  split
  · exact .inl rfl
  · split
    · exact .inr (.inl rfl)
    · exact .inr (.inr rfl)

theorem moved_fetchRow (i : Nat) (s : State) (t table row : Nat) : Moved i s (fetchRow s t table row) := by
  have hv := (moved_settleRow i s table row).trans
    (moved_track i _ table row (rowKeep s (ftabOf s table) row) (tileSpire t))
  rcases fetchRow_cases s t table row with h | h | h
  · rw [h]
    exact hv
  · rw [h]
    exact hv.trans (moved_bumpKeep i _ _ _ _)
  · rw [h]
    exact hv.trans ⟨fun _ _ => rfl, rfl, rfl⟩

theorem fetchRow_area (s : State) (t table row : Nat) : (fetchRow s t table row).feat.area = (settleRow s table row).feat.area := by
  have hv := track_area (settleRow s table row) table row (rowKeep s (ftabOf s table) row) (tileSpire t)
  rcases fetchRow_cases s t table row with h | h | h
  all_goals
    rw [h]
    exact hv

theorem settleRow_tiles (s : State) (table row : Nat) : (settleRow s table row).tiles = s.tiles := by
  unfold settleRow
  dsimp only
  split
  · exact applyDue_tiles _ _
  · rfl

theorem track_tiles (s : State) (table row keep spire : Nat) : (track s table row keep spire).tiles = s.tiles := by
  unfold track
  dsimp only
  repeat' split
  all_goals rfl

theorem fetchRow_tiles (s : State) (t table row : Nat) : (fetchRow s t table row).tiles = s.tiles := by
  have hv := (track_tiles (settleRow s table row) table row (rowKeep s (ftabOf s table) row) (tileSpire t)).trans
    (settleRow_tiles s table row)
  rcases fetchRow_cases s t table row with h | h | h
  all_goals
    rw [h]
    exact hv

/-- The rows of a table read one after the other (R197). -/
def fetchRows (s : State) (t table : Nat) (rows : List Nat) : State := rows.foldl (fun s r => fetchRow s t table r) s

theorem moved_fetchRows (i : Nat) (s : State) (t table : Nat) (rows : List Nat) : Moved i s (fetchRows s t table rows) :=
  Moved.foldl _ (fun s r => moved_fetchRow i s t table r) rows (.refl i s)

theorem fetchRows_tiles (s : State) (t table : Nat) (rows : List Nat) : (fetchRows s t table rows).tiles = s.tiles :=
  foldl_keeps State.tiles _ (fun s r => fetchRow_tiles s t table r) rows s

theorem fetchRows_fields (s : State) (t table : Nat) (rows : List Nat) : fetchRows s t table rows = { s with
    regs := (fetchRows s t table rows).regs, tier := (fetchRows s t table rows).tier, feat := (fetchRows s t table rows).feat } := by
  have htiles := fetchRows_tiles s t table rows
  have hrest := (moved_fetchRows t s t table rows).rest
  generalize fetchRows s t table rows = u at htiles hrest ⊢
  rwa [htiles] at hrest

/-- No delta that is due is left for a row that has been read (R209). -/
theorem fetchRows_settled {s : State} {t table : Nat} {rows : List Nat} {d : DueDelta}
    (hd : d ∈ (fetchRows s t table rows).feat.area) :
    d ∈ s.feat.area ∧ (d.delta.table = table → d.delta.row ∈ rows → now s < d.due) := by
  induction rows generalizing s with
  | nil => exact ⟨hd, fun _ h => absurd h (List.not_mem_nil)⟩
  | cons r rows ih =>
    obtain ⟨hmem, hrest⟩ := ih (s := fetchRow s t table r) hd
    rw [fetchRow_area, settleRow_area, List.mem_filter] at hmem
    obtain ⟨hmem, hnot⟩ := hmem
    have hnow : now (fetchRow s t table r) = now s := by rw [now, (moved_fetchRow t s t table r).rest]; rfl
    rw [hnow] at hrest
    refine ⟨hmem, fun htable hrow => ?_⟩
    rcases List.mem_cons.1 hrow with hr | hr
    · simpa [htable, hr] using hnot
    · exact hrest htable hr

/-! ### GATHER -/

/-- The rows as the operator's reads leave them: those in a buffer need no read (R197). -/
def gatherReads (s : State) (t : Nat) (p : GatherP) (rows : List Nat) : State :=
  if p.rowSrc then s else fetchRows s t p.table rows

/-- Bytes of the row at position `i` of the unique list: from SRC2, or from T1 as it stands in state `u`. -/
def gatherRow (s u : State) (t : Nat) (k : Task) (p : GatherP) (b : Bufs) (i r : Nat) : List Byte :=
  let y := ftabOf s p.table
  if p.rowSrc then bufRead s t (tileAt s t) k b.src2 (i * y.stride) (y.dim * y.elemSize)
  else t1Read u k.ctx (rowAddr s y r) (y.dim * y.elemSize)

/-- Value of an element of a row of the unique list. -/
def gatherValue (s u : State) (t : Nat) (k : Task) (p : GatherP) (b : Bufs) (rows : List Nat) (r e : Nat) : FNum :=
  match (List.range rows.length).find? (fun i => decide (rows.getD i 0 = r)) with
  | some i => ((ftabOf s p.table).values (gatherRow s u t k p b i r)).getD e .zero
  | none => .zero

/-- The output of GATHER: the head, and the pooled bags (R197, R198). -/
def gatherOutput (s u : State) (t : Nat) (k : Task) (p : GatherP) (b : Bufs) (q : Batch) : List Byte :=
  let rows := uniqueRows q.rows
  let empty := ((List.range p.bags).filter (fun i => decide (q.offs.getD i 0 = q.offs.getD (i + 1) 0))).length
  let mult := (rows.map (fun r => q.rows.count r)).foldl max 0
  toLE 8 q.rows.length ++ toLE 8 rows.length ++ toLE 8 empty ++ toLE 8 mult ++ zeros 32 ++
    packElems (fmtWidth p.outFmt) ((List.range p.bags).flatMap (fun i => (List.range (ftabOf s p.table).dim).map (fun e =>
      poolElem p (combined (q.bag i)) (bagWeight q i) (fun r => gatherValue s u t k p b rows r e))))

theorem tget_map_find {α : Type} (g : Nat → Nat) (f : Nat → α) (l : List Nat) (r : Nat) :
    tget (l.map fun i => (g i, f i)) r = (l.find? fun i => decide (g i = r)).map f := by
  induction l with
  | nil => rfl
  | cons i l ih =>
    rw [List.map_cons, tget, List.find?_cons, ih]
    by_cases h : g i = r
    · simp [h]
    · simp [h, Ne.symm h]

theorem rowAddr_moved {i : Nat} {s u : State} (h : Moved i s u) (x : FTab) (row : Nat) : rowAddr u x row = rowAddr s x row := by
  unfold rowAddr deviceId fld
  rw [h.reg .tier 0x8000 (by decide)]

theorem gatherReads_addr (s : State) (t : Nat) (p : GatherP) (rows : List Nat) (x : FTab) (row : Nat) :
    rowAddr (gatherReads s t p rows) x row = rowAddr s x row := by
  unfold gatherReads
  split
  · rfl
  · exact rowAddr_moved (moved_fetchRows t s t p.table rows) x row

/-- The operator reads its rows after its fetches: SRC2 is as before, and rows lie where they lay. -/
theorem gatherRow_reads (s : State) (t : Nat) (k : Task) (p : GatherP) (b : Bufs) (rows : List Nat) (i r : Nat) :
    (if p.rowSrc then bufRead (gatherReads s t p rows) t (tileAt s t) k b.src2 (i * (ftabOf s p.table).stride)
        ((ftabOf s p.table).dim * (ftabOf s p.table).elemSize)
      else t1Read (gatherReads s t p rows) k.ctx (rowAddr (gatherReads s t p rows) (ftabOf s p.table) r)
        ((ftabOf s p.table).dim * (ftabOf s p.table).elemSize)) = gatherRow s (gatherReads s t p rows) t k p b i r := by
  unfold gatherRow
  rw [gatherReads_addr]
  cases hsrc : p.rowSrc with
  | true => rw [show gatherReads s t p rows = s from if_pos hsrc]
  | false => rfl

/-- The rows tabled by number hold each row's values. -/
theorem tabled_gatherValue (s u : State) (t : Nat) (k : Task) (p : GatherP) (b : Bufs) (rows : List Nat) (r e : Nat) :
    (tgetD ((List.range rows.length).map fun i =>
      (rows.getD i 0, (ftabOf s p.table).values (gatherRow s u t k p b i (rows.getD i 0)))) r []).getD e .zero =
      gatherValue s u t k p b rows r e := by
  unfold tgetD gatherValue
  rw [tget_map_find]
  cases hi : (List.range rows.length).find? fun i => decide (rows.getD i 0 = r) with
  | none => rfl
  | some i =>
    have hr : rows.getD i 0 = r := of_decide_eq_true (List.find?_some hi :)
    rw [Option.map_some, Option.getD_some, hr]

theorem execGather_ready {s : State} {t : Nat} {p : GatherP} {b : Bufs} {k : Task} {q : Batch}
    (h : BatchReady s t p b k q true false) (hel : (ftabOf s p.table).cls = 2 → k.elastic = true)
    (hserved : p.rowSrc = true ∨
      ∀ r ∈ uniqueRows q.rows, ∃ j, serveAt s k.ctx (!k.elastic) false (rowAddr s (ftabOf s p.table) r) = .keep j)
    (hgood : badRow s t k p (ftabOf s p.table) (uniqueRows q.rows) = none) :
    execGather t p b s = .next (advance (bufWrite (gatherReads s t p (uniqueRows q.rows)) t k b.dst 0
      (gatherOutput s (gatherReads s t p (uniqueRows q.rows)) t k p b q)) t) := by
  have hcls : ¬((ftabOf s p.table).cls = 2 ∧ k.elastic = false) := fun ⟨hc, he⟩ => by simp [hel hc] at he
  have hmult (r : Nat) : (q.rows.filter fun v => decide (v = r)).length = q.rows.count r := List.count_eq_length_filter.symm
  unfold execGather
  rw [onBatch_ready h]
  dsimp only
  rw [if_neg hcls]
  refine (if_neg fun ⟨hsrc, hany⟩ => ?away).trans ?_
  case away =>
    obtain ⟨r, hr, hne⟩ := List.any_eq_true.1 hany
    obtain ⟨j, hj⟩ := hserved.resolve_left (by simp [hsrc]) r hr
    rw [hj] at hne
    exact Bool.false_ne_true hne
  have hreads : (if p.rowSrc = true then s else (uniqueRows q.rows).foldl (fun s r => fetchRow s t p.table r) s) =
    gatherReads s t p (uniqueRows q.rows) := rfl
  simp only [hgood, hreads, gatherRow_reads, tabled_gatherValue, hmult]
  rfl

theorem gather_completes (s : State) {t : Nat} {p : GatherP} (b : Bufs) (ht : t < 640) (hok : gatherOk p true false = true) :
    Completes (.gather t p b) s := by
  show ∃ u, execGather t p b s = .next u
  unfold execGather
  refine onBatch_completes b ht hok fun x k q => next_of_ite ⟨_, rfl⟩ (next_of_ite ⟨_, rfl⟩ ?_)
  split
  · exact ⟨_, rfl⟩
  · exact ⟨_, rfl⟩

/-- What the reads of GATHER leave: the tiles, with the rows in a buffer everything, and otherwise no delta of a row that is
due (R209). -/
theorem gatherReads_keeps (s : State) (t : Nat) (p : GatherP) (rows : List Nat) :
    gatherReads s t p rows = { s with
      regs := (gatherReads s t p rows).regs, tier := (gatherReads s t p rows).tier, feat := (gatherReads s t p rows).feat } ∧
    (p.rowSrc = true → gatherReads s t p rows = s) ∧
    (p.rowSrc = false →
      ∀ d ∈ (gatherReads s t p rows).feat.area, d.delta.table = p.table → d.delta.row ∈ rows → now s < d.due) := by
  unfold gatherReads
  cases p.rowSrc with
  | true => exact ⟨rfl, fun _ => rfl, nofun⟩
  | false => exact ⟨fetchRows_fields s t p.table rows, nofun, fun _ d hd => (fetchRows_settled hd).2⟩

theorem fields_of_tiles {s v u : State} (hv : v = { s with regs := v.regs, tier := v.tier, feat := v.feat })
    (hu : u = { v with tiles := u.tiles }) : u = { s with tiles := u.tiles, regs := u.regs, tier := u.tier, feat := u.feat } := by
  rw [hv] at hu
  rw [hu]

theorem gatherPools : Claims.GatherPools := by
  refine ⟨fun s t p b ht hok => gather_completes s b ht hok, fun s t p b k q h hel hserved hgood => ?_⟩
  have hdoes := execGather_ready h hel hserved hgood
  obtain ⟨hkeeps, hsrc, hdue⟩ := gatherReads_keeps s t p (uniqueRows q.rows)
  have hk := h.1.task
  generalize gatherReads s t p (uniqueRows q.rows) = v at hdoes hkeeps hsrc hdue
  have htile (i : Nat) : tileAt v i = tileAt s i := tileAt_of_tiles (by rw [hkeeps]) i
  obtain ⟨⟨hnext, hother⟩, hrest, hwrote⟩ :=
    advance_bufWrite (s := v) (t := t) (k := k) (by rw [htile, hk]) b.dst (gatherOutput s v t k p b q)
  refine ⟨_, hdoes, ⟨?_, fun i hi => ?_⟩, ?_, fun hbuf => ?_, fun hmem => ⟨?_, ?_⟩⟩
  · rw [hnext, htile]
  · rw [hother i hi, htile]
  · exact hwrote.of_start (by rw [hkeeps]) (by rw [htile])
  · rw [hrest, hsrc hbuf]
  · exact fields_of_tiles hkeeps hrest
  · exact hdue hmem

/-- Settles O21: GATHER, UPDATE and UNIQUE on a batch of a feature table. -/
theorem featureOperators : Obligations.FeatureOperators := ⟨gatherPools, updateMakesDeltas, uniqueListsRows⟩

end Sys2Proof.Machine
end

section
namespace Sys2Proof.Machine

/-! ### A failed READ whose task names a context that the device does not have

The clause of O30 on FAIL does not bound the context number of the aborted task. The stall is counted in TIER at
0x200 + 8 × context (R278), and for one number far beyond the 16 contexts this address is the status register of the tile
itself: the count that follows the abort carries its flag away. -/

/-- The context number whose stall counter would lie on the status register of tile 0. -/
def strayCtx : Nat := (regAddr (.tile 0) 0x08 - regAddr .tier 0x200) / 8

/-- The lease whose READ fails. -/
def failedLease : LeaseId := { neighbour := 0, lease := 0 }

/-- A T3 stream that reads the first granule of the space of context 0. -/
def strayRun : StreamRun :=
  { index := 0, entry := 0, frame := 0, done := false, late := false, ctx := 0, elastic := true, elems := [(0, 0, 1)],
    tooMany := false, outside := [], rdHalf := false, wrHalf := false, filled := [], got := [],
    desc := { kind := 2, farTier := 3, write := false, idx64 := false, weight := false, indexBuf := 0, sramBuf := 0,
              grantMbps := 0, farBase := 0, rowStride := 0, rowBytes := 0, indexMax := 0, indexLimit := 0, sramStride := 0,
              landFrames := 0, elemLog2 := 0, sramOffset := 0, dimNum := 0, dims := [] } }

/-- The task of the stream, of the stray context. -/
def strayTask : Task :=
  { entry := 0, ctx := strayCtx, pipeline := 0, rank := 0, program := 0, stage := 0, step := 0, frame := 0, elastic := true,
    pos := 0, loops := [], complete := false, tokens := [], frags := [], deltas := [], waiting := none, waitStream := none }

/-- Neighbour 0 is endpoint 0, a device; the one extent of context 0 is T3-eligible; bit 0 of the status register of tile 0
is set. -/
def strayRegs : State :=
  setReg (setReg (setReg (setReg State.reset .tier 0x300 (BitVec.ofNat 64 (2 ^ 36))) .tytos 0x1010 (BitVec.ofNat 64 (2 ^ 50)))
    .tier (extentOff 0 0 1) (BitVec.ofNat 64 (1 + 2 ^ 32))) (.tile 0) 0x08 1

/-- The neighbour holds session 1, its lease 0 homes the granule that the stream of tile 0 reads. -/
def strayState : State :=
  { strayRegs with
    port := { strayRegs.port with sessions := [(1, newSession 0 false 64 1 [])] }
    tier := { strayRegs.tier with
      leases := [(0, { neighbour := 0, wire := 0, granules := 1, mbps := 0, notice := none, ended := false })]
      homes := [(homeKey 0 0, .lease 0 0)] }
    tiles := [(0, { Tile.reset with task := some strayTask, run := .running, streams := [strayRun] })] }

/-- The abort flag of tile 0 is up after a command that completes. -/
def abortFlagAfter : Res → Bool
  | .next u => bit (reg u (.tile 0) 0x08) 1
  | _ => false

/-- The stream of tile 0 is the only one that waits for the granule. -/
theorem strayState_hit : (strayState.tiles.flatMap fun p =>
    (p.2.streams.filter (failedRun strayState failedLease (0 : Word).toNat)).map fun r => (p.1, r)) = [(0, strayRun)] := by
  decide +kernel

/-- The stall counter of the stray context carries the abort flag out of the status register: from 3 it counts to 4. -/
theorem leaseFail_clears_abortFlag : abortFlagAfter (exec (.leaseFail failedLease 0) strayState) = false := by decide +kernel

/-- Refutes O30: in the clause on FAIL the aborted task may name any context number, and in `strayState`, where it names
`strayCtx`, the count of its stall takes the place of the flag that the clause asks for. -/
theorem not_leases : ¬ Obligations.Leases := by
  rintro ⟨-, -, -, -, -, -, -, -, hfail⟩
  have hheard : leaseHeard strayState failedLease = true := by decide +kernel
  obtain ⟨-, hwaits⟩ := hfail strayState failedLease 0 hheard
  obtain ⟨u, hdoes, -, hflag, -⟩ := hwaits 0 strayRun strayTask strayState_hit (by decide) rfl rfl rfl rfl
  have hclear := leaseFail_clears_abortFlag
  rw [show exec (.leaseFail failedLease 0) strayState = .next u from hdoes] at hclear
  exact Bool.false_ne_true (hclear.symm.trans hflag)

end Sys2Proof.Machine
end

section
namespace Sys2Proof.Machine

/-! ### A text command takes its part -/

/-- The state once the engine has taken a job part from its queue (R229). -/
def jobTaken (s : State) (j : TextJob) : State := { s with text := { s.text with queue := s.text.queue.erase j } }

/-- A part of the command's kind completes on each of the engine's eight units (R229, R230). -/
theorem textCommand_completes (s : State) {kind : Nat} {j : TextJob} {lane : Option Nat} (hlane : ∀ l, lane = some l → l < 8)
    (hkind : j.kind = kind) : ∃ u, textCommand kind j lane s = .next u := by
  have hunit : ¬ ((lane.getD 0) ≥ 8 ∨ j.kind ≠ kind) := by
    rintro (hl | hk)
    · cases lane with
      | none => simp at hl
      | some l => exact absurd (hlane l rfl) (by simpa using hl)
    · exact hk hkind
  unfold textCommand
  rw [if_neg hunit]
  split
  · exact ⟨_, rfl⟩
  · cases lane <;> exact ⟨_, rfl⟩

/-- The oldest part of its entry runs in an enabled engine (R229). -/
theorem textCommand_runs {s : State} {kind : Nat} {j : TextJob} (hkind : j.kind = kind) (hon : enabled s .text = true)
    (hfront : s.text.queue.find? (fun q => decide (q.entry = j.entry)) = some j) :
    textCommand kind j none s = .next (runJob (jobTaken s j) j) := by
  unfold textCommand
  simp [hkind, hon, hfront, jobTaken]

/-- The detection of a unit whose lanes disagree (R231). -/
def laneMismatch (j : TextJob) (l : Nat) : Detection :=
  { mech := 0x02, action := 0, unit := 0x0600, key := some (0x100000 + l), ctx := 0xFF, entry := j.entry, detail := 0,
    affected := [j.entry] }

/-- Where the lanes of the unit disagree, the part's run is followed by the detection (R231). -/
theorem textCommand_disagrees {s : State} {kind l : Nat} {j : TextJob} (hkind : j.kind = kind) (hl : l < 8)
    (hon : enabled s .text = true) (hfront : s.text.queue.find? (fun q => decide (q.entry = j.entry)) = some j) :
    textCommand kind j (some l) s =
      .next (detect (setFlag (runJob (jobTaken s j) j) .text 0x08 3) (laneMismatch j l)) := by
  unfold textCommand
  simp [hkind, hl, hon, hfront, jobTaken, laneMismatch]

theorem runJob_tokenize {s : State} {j : TextJob} {r : Request} {v : Vocab} (h : TextReady s 1 j r v) :
    runJob (jobTaken s j) j = runTokenize (jobTaken s j) j v := by
  obtain ⟨-, -, hkind, hzero, hreq, hruns, hvocab, hfirst, hsame⟩ := h
  have hreq' : reqAt (jobTaken s j) j.entry = some r := hreq
  have hvocab' : vocabAt (jobTaken s j) j.vocab = some v := hvocab
  have hopen : openJob (jobTaken s j) j.entry j.job = openJob s j.entry j.job := rfl
  unfold runJob
  simp only [hreq', hvocab', hopen]
  cases hjob : openJob s j.entry j.job with
  | none => simp [hruns, hzero, hfirst, hkind, hjob]
  | some o => simp [hruns, hzero, hfirst, hkind, hjob, hsame o hjob]

theorem runJob_detokenize {s : State} {j : TextJob} {r : Request} {v : Vocab} (h : TextReady s 2 j r v)
    (hwhole : j.bytes.length % 4 = 0) (hbelow : ∀ t ∈ unpackWords 4 (j.bytes.length / 4) j.bytes, t < v.recs.length) :
    runJob (jobTaken s j) j = runDetokenize (jobTaken s j) j v r := by
  obtain ⟨-, -, hkind, hzero, hreq, hruns, hvocab, hfirst, hsame⟩ := h
  have hreq' : reqAt (jobTaken s j) j.entry = some r := hreq
  have hvocab' : vocabAt (jobTaken s j) j.vocab = some v := hvocab
  have hopen : openJob (jobTaken s j) j.entry j.job = openJob s j.entry j.job := rfl
  have hgood : (unpackWords 4 (j.bytes.length / 4) j.bytes).any (fun t => decide (v.recs.length ≤ t)) = false := by
    simpa using hbelow
  unfold runJob
  simp only [hreq', hvocab', hopen]
  cases hjob : openJob s j.entry j.job with
  | none => simp [hruns, hzero, hfirst, hkind, hjob, hwhole, hgood]
  | some o => simp [hruns, hzero, hfirst, hkind, hjob, hwhole, hgood, hsame o hjob]

/-- A count stands while its register reads the same. -/
theorem Counted.stands {s u v : State} {b : Blk} {off n : Nat} (h : Counted s u b off n) (hv : reg v b off = reg u b off) :
    Counted s v b off n := by
  unfold Counted at h ⊢
  rw [hv, h]

/-! ### TOKENIZE -/

/-- A part before the last leaves its bytes with the job and counts them (R228). -/
theorem runTokenize_part {s : State} {j : TextJob} (v : Vocab) (h : j.last = false) :
    runTokenize s j v = keepPart (bump s .text 0x308 j.bytes.length) j := by
  unfold runTokenize
  exact if_pos h

/-- The output of a tokenization (R229). -/
def tokenOutput (j : TextJob) (toks : List Nat × Nat) : Nat × Nat × Nat × List Byte :=
  (j.entry, j.route, j.replyRank, toLE 4 j.job ++ toLE 4 toks.1.length ++ toLE 4 toks.2 ++ zeros 20 ++ toks.1.flatMap (toLE 4))

/-- The entry of a search whose packing keeps the tokens of a passage (R184). -/
def packedReq (j : TextJob) (toks : List Nat) (r : Request) : Request :=
  if packing r j then { r with packed := tset r.packed j.job toks } else r

/-- The state once a tokenization has left its output. -/
def outputLeft (s : State) (j : TextJob) (toks : List Nat × Nat) : State :=
  updReq { s with text := { s.text with jobs := jobsBut s j, outputs := s.text.outputs ++ [tokenOutput j toks] } } j.entry
    (packedReq j toks.1)

/-- The counters of a tokenization done (R232). -/
def countOutput (s : State) (toks : List Nat × Nat) : State :=
  let s := bump (bump s .text 0x300 1) .text 0x310 toks.1.length
  if toks.2 = 0 then s else bump (setFlag s .text 0x08 2) .text 0x318 toks.2

/-- The last part leaves the output for all the job's bytes (R220, R229). -/
theorem runTokenize_last {s : State} {j : TextJob} (v : Vocab) (h : j.last = true) :
    let toks := tokenizeBytes v (jobBytes s j)
    runTokenize s j v = countOutput (outputLeft (bump s .text 0x308 j.bytes.length) j toks) toks := by
  unfold runTokenize
  simp only [h, Bool.true_eq_false, if_false]
  rfl

/-- The registers that a tokenization done writes. -/
def outputRegs : List Nat := [regAddr .text 0x300, regAddr .text 0x310, regAddr .text 0x318, regAddr .text 0x08]

/-- After the count of jobs only the count of tokens, and the flag and count of fallbacks, are written. -/
theorem regsBut_countTokens (s : State) (toks : List Nat × Nat) :
    RegsBut [regAddr .text 0x310, regAddr .text 0x318, regAddr .text 0x08] (bump s .text 0x300 1) (countOutput s toks) := by
  have htoks := (regsBut_bump (bump s .text 0x300 1) .text 0x310 toks.1.length).mono
    (m := [regAddr .text 0x310, regAddr .text 0x318, regAddr .text 0x08]) (by simp)
  unfold countOutput
  dsimp only
  split
  · exact htoks
  · exact htoks.trans (((regsBut_setFlag _ .text 0x08 2).mono (by simp)).trans
      ((regsBut_bump _ .text 0x318 toks.2).mono (by simp)))

theorem regsBut_countOutput (s : State) (toks : List Nat × Nat) : RegsBut outputRegs s (countOutput s toks) :=
  ((regsBut_bump s .text 0x300 1).mono (by simp [outputRegs])).trans ((regsBut_countTokens s toks).mono (by simp [outputRegs]))

theorem counted_countOutput (s : State) (toks : List Nat × Nat) : Counted s (countOutput s toks) .text 0x300 1 :=
  (counted_bump s .text 0x300 1).stands ((regsBut_countTokens s toks).reg .text 0x300 (by decide))

theorem onlyRegs_countOutput (s : State) (toks : List Nat × Nat) : OnlyRegs s (countOutput s toks) := by
  unfold countOutput
  dsimp only
  split <;> rfl

theorem outputLeft_eq {s : State} {j : TextJob} {r : Request} (toks : List Nat × Nat) (hr : reqAt s j.entry = some r) :
    outputLeft s j toks = setReq { s with text := { s.text with
      jobs := jobsBut s j, outputs := s.text.outputs ++ [tokenOutput j toks] } } j.entry (packedReq j toks.1 r) := by
  have hr' : ∀ x, reqAt { s with text := x } j.entry = some r := fun _ => hr
  unfold outputLeft updReq
  rw [hr']

/-- TOKENIZE of a part that is not the last (R228). -/
theorem tokenize_part {s : State} {j : TextJob} {r : Request} {v : Vocab} (h : TextReady s 1 j r v) (hlast : j.last = false) :
    Does (.tokenize j none) s (keepPart (bump (jobTaken s j) .text 0x308 j.bytes.length) j) := by
  have hrun := runJob_tokenize h
  rw [runTokenize_part v hlast] at hrun
  obtain ⟨hon, hfront, hkind, -⟩ := h
  exact (textCommand_runs hkind hon hfront).trans (congrArg Host.Outcome.next hrun)

/-- The state after the last part of a tokenization whose request is `r`. -/
def tokenized (s : State) (j : TextJob) (r : Request) (toks : List Nat × Nat) : State :=
  let u := bump (jobTaken s j) .text 0x308 j.bytes.length
  countOutput (setReq { u with text := { u.text with
    jobs := jobsBut s j, outputs := s.text.outputs ++ [tokenOutput j toks] } } j.entry (packedReq j toks.1 r)) toks

/-- TOKENIZE of a job's last part (R220, R229). -/
theorem tokenize_last {s : State} {j : TextJob} {r : Request} {v : Vocab} (h : TextReady s 1 j r v) (hlast : j.last = true) :
    Does (.tokenize j none) s (tokenized s j r (tokenizeBytes v (partBytes s j))) := by
  have hrun := runJob_tokenize h
  obtain ⟨hon, hfront, hkind, -, hreq, -⟩ := h
  rw [runTokenize_last v hlast, outputLeft_eq _ (s := bump (jobTaken s j) _ _ _) hreq] at hrun
  exact (textCommand_runs hkind hon hfront).trans (congrArg Host.Outcome.next hrun)

/-- The registers that a TOKENIZE command may change. -/
def tokenizeRegs : List Nat :=
  [regAddr .text 0x300, regAddr .text 0x308, regAddr .text 0x310, regAddr .text 0x318, regAddr .text 0x08]

theorem regsBut_bytesIn (s : State) (n : Nat) : RegsBut tokenizeRegs s (bump s .text 0x308 n) :=
  (regsBut_bump s .text 0x308 n).mono (by simp [tokenizeRegs])

theorem tokenized_fields (s : State) (j : TextJob) (r : Request) (toks : List Nat × Nat) :
    let u := tokenized s j r toks
    u = { s with text := u.text, regs := u.regs, reqs := u.reqs } ∧ u.reqs = tset s.reqs j.entry (packedReq j toks.1 r) ∧
      u.text = { queue := s.text.queue.erase j, jobs := jobsBut s j, outputs := s.text.outputs ++ [tokenOutput j toks] } := by
  dsimp only
  unfold tokenized
  dsimp only
  rw [onlyRegs_countOutput]
  exact ⟨rfl, rfl, rfl⟩

theorem tokenized_regs (s : State) (j : TextJob) (r : Request) (toks : List Nat × Nat) :
    let u := tokenized s j r toks
    RegsBut tokenizeRegs s u ∧ Counted s u .text 0x308 j.bytes.length ∧ Counted s u .text 0x300 1 := by
  dsimp only
  unfold tokenized
  dsimp only
  set u := bump (jobTaken s j) .text 0x308 j.bytes.length
  set w := setReq { u with text := _ } j.entry _
  have hwu : w.regs = u.regs := rfl
  have hbytes : Counted s u .text 0x308 j.bytes.length := counted_bump (jobTaken s j) .text 0x308 _
  have hout := regsBut_countOutput w toks
  refine ⟨((regsBut_bytesIn (jobTaken s j) _).of_regs hwu).trans (hout.mono (by simp [outputRegs, tokenizeRegs])), ?_, ?_⟩
  · exact hbytes.stands ((hout.reg .text 0x308 (by decide)).trans (reg_of_regs hwu _ _))
  · have hjobs : reg w .text 0x300 = reg s .text 0x300 := (reg_of_regs hwu _ _).trans
      ((regsBut_bump (jobTaken s j) .text 0x308 j.bytes.length).reg .text 0x300 (by decide))
    exact counted_of_reg (counted_countOutput w toks) hjobs

/-- A tokenization's parts join the job, and its last leaves one output (R220, R228, R229; R184 for a passage of the final
list). -/
theorem tokenizeRuns {s : State} {j : TextJob} {r : Request} {v : Vocab} (h : TextReady s 1 j r v) :
    ∃ u, Does (.tokenize j none) s u ∧ u.text.queue = s.text.queue.erase j ∧ RegsBut tokenizeRegs s u ∧
      u = { s with text := u.text, regs := u.regs, reqs := u.reqs } ∧ Counted s u .text 0x308 j.bytes.length ∧
      (∀ e, e ≠ j.entry → reqAt u e = reqAt s e) ∧
      (let toks := tokenizeBytes v (partBytes s j)
       (j.last = false → u.text.outputs = s.text.outputs ∧ u.reqs = s.reqs ∧
         u.text.jobs = otherJobs s j ++ [{ entry := j.entry, kind := 1, job := j.job, bytes := partBytes s j }]) ∧
       (j.last = true → u.text.jobs = otherJobs s j ∧ Counted s u .text 0x300 1 ∧
         reqAt u j.entry = some (packedReq j toks.1 r) ∧ u.text.outputs = s.text.outputs ++ [tokenOutput j toks])) := by
  cases hlast : j.last with
  | false =>
    have hdoes := tokenize_part h hlast
    obtain ⟨-, -, hkind, -⟩ := h
    refine ⟨_, hdoes, rfl, (regsBut_bytesIn (jobTaken s j) _).of_regs rfl, rfl,
      (counted_bump (jobTaken s j) .text 0x308 _).of_regs rfl, fun _ _ => rfl, fun _ => ⟨rfl, rfl, ?_⟩, nofun⟩
    rw [← hkind]
    rfl
  | true =>
    obtain ⟨hfields, hreqs, htext⟩ := tokenized_fields s j r (tokenizeBytes v (partBytes s j))
    obtain ⟨hregs, hbytes, hjobs⟩ := tokenized_regs s j r (tokenizeBytes v (partBytes s j))
    have hother : ∀ e, e ≠ j.entry → reqAt (tokenized s j r (tokenizeBytes v (partBytes s j))) e = reqAt s e := fun e he => by
      rw [reqAt, hreqs, tget_tset_ne _ _ _ _ he, reqAt]
    refine ⟨_, tokenize_last h hlast, by rw [htext], hregs, hfields, hbytes, hother, nofun,
      fun _ => ⟨by rw [htext]; rfl, hjobs, ?_, by rw [htext]⟩⟩
    rw [reqAt, hreqs, tget_tset_same]

/-! ### Matching stop strings -/

theorem appendBytes_none {set : List (List Byte)} {i : Nat} {hist bs : List Byte} (h : (appendBytes set i hist bs).2 = none) :
    (appendBytes set i hist bs).1 = hist ++ bs := by
  induction bs generalizing hist with
  | nil => simp [appendBytes]
  | cons b bs ih =>
    unfold appendBytes at h ⊢
    cases hstop : stopAt set (hist ++ [b]) with
    | some x => simp [hstop] at h
    | none =>
      simp only [hstop] at h ⊢
      rw [ih h, List.append_assoc, List.singleton_append]

/-- With no stop every token's bytes join the history (R223). -/
theorem appendTokens_none {set : List (List Byte)} {f : Nat → List Byte} {i : Nat} {hist : List Byte} {toks : List Nat}
    (h : (appendTokens set f i hist toks).2 = none) : (appendTokens set f i hist toks).1 = hist ++ toks.flatMap f := by
  induction toks generalizing i hist with
  | nil => simp [appendTokens]
  | cons t ts ih =>
    unfold appendTokens at h ⊢
    cases hbytes : appendBytes set i hist (f t) with
    | mk joined stop =>
      cases stop with
      | some x => simp [hbytes] at h
      | none =>
        have hjoined := appendBytes_none (congrArg Prod.snd hbytes)
        simp only [hbytes] at h hjoined ⊢
        rw [ih h, hjoined, List.flatMap_cons, List.append_assoc]

/-! ### DETOKENIZE -/

/-- The stop strings that a request's tokens are matched with (R222). -/
def stopsOf (r : Request) : List (List Byte) := (r.gen.map (fun g => stopSet g.stop)).getD []

/-- The counters of a detokenization done (R232). -/
def countDetok (s : State) (stopped : Bool) : State :=
  let s := bump s .text 0x300 1
  if stopped then bump s .text 0x320 1 else s

theorem countDetok_regs (s : State) (stopped : Bool) :
    RegsBut [regAddr .text 0x300, regAddr .text 0x320] s (countDetok s stopped) ∧
      Counted s (countDetok s stopped) .text 0x300 1 ∧ (stopped = true → Counted s (countDetok s stopped) .text 0x320 1) := by
  have hjobs := (regsBut_bump s .text 0x300 1).mono (m := [regAddr .text 0x300, regAddr .text 0x320]) (by simp)
  have hcount := counted_bump s .text 0x300 1
  cases stopped with
  | false => exact ⟨hjobs, hcount, nofun⟩
  | true =>
    have hstops := regsBut_bump (bump s .text 0x300 1) .text 0x320 1
    refine ⟨hjobs.trans (hstops.mono (by simp)), ?_, fun _ => ?_⟩
    · exact hcount.stands (hstops.reg .text 0x300 (by decide))
    · exact counted_of_reg (counted_bump _ .text 0x320 1) ((regsBut_bump s .text 0x300 1).reg .text 0x320 (by decide))

theorem textFragment_hold (s : State) (e : Nat) (r : Request) (first generated : Nat) (bs : List Byte) :
    ∃ hold, textFragment s e r first generated bs = { s with hold := hold } := by
  unfold textFragment
  split
  · exact ⟨s.hold, rfl⟩
  · exact ⟨_, rfl⟩

/-- The entry of a generation that a stop has ended in frame `f` (R223, R225, R257). -/
def cutAt (r : Request) (x : StopHit) (f : Nat) : Request :=
  if r.gen.isSome then
    { r with generated := x.token + 1, tokens := r.tokens.take (x.token + 1), length := r.promptLen + x.token, produced := some f }
  else r

/-- The entry after `n` tokens in frame `f` whose matching gave `res`, while its generation goes on (R223 to R226). -/
def matched (r : Request) (f n : Nat) (res : List Byte × Option StopHit) : Request :=
  match res.2 with
  | none => { r with
      hist := res.1, detok := r.detok + n, stop := none, released := max r.released (releasable (stopsOf r) res.1) }
  | some x => { cutAt r x f with
      hist := res.1, detok := r.detok + n, stop := some (stopReport x), released := max r.released x.start, endReason := some 0 }

/-- The tokens of a job change the request's entry, the counters and what the request holds for release. -/
theorem detokenize_matched (s : State) (j : TextJob) (v : Vocab) {r : Request} (toks : List Nat) (hend : r.endReason = none) :
    let res := appendTokens (stopsOf r) v.bytes r.detok r.hist toks
    ∃ hold, detokenize s j v r toks =
      setReq { countDetok s res.2.isSome with hold := hold } j.entry (matched r (now s) toks.length res) := by
  choose hold hfrag using textFragment_hold
  unfold detokenize matched cutAt
  cases hgen : r.gen with
  | none =>
    simp only [stopsOf, hgen, Option.map_none, Option.getD_none, hend, hfrag]
    obtain ⟨hist, _ | x⟩ := appendTokens [] v.bytes r.detok r.hist toks
    · exact ⟨_, by simp [countDetok, hgen, hend]; rfl⟩
    · exact ⟨_, by simp [countDetok, hgen]; rfl⟩
  | some g =>
    simp only [stopsOf, hgen, Option.map_some, Option.getD_some, hend, hfrag]
    obtain ⟨hist, _ | x⟩ := appendTokens (stopSet g.stop) v.bytes r.detok r.hist toks
    · exact ⟨_, by simp [countDetok, hgen, hend]; rfl⟩
    · exact ⟨_, rfl⟩

/-- DETOKENIZE of a part that is not the last (R228). -/
theorem detokenize_part {s : State} {j : TextJob} {r : Request} {v : Vocab} (h : TextReady s 2 j r v)
    (hwhole : j.bytes.length % 4 = 0) (hbelow : ∀ t ∈ unpackWords 4 (j.bytes.length / 4) j.bytes, t < v.recs.length)
    (hlast : j.last = false) : Does (.detokenize j none) s (keepPart (jobTaken s j) j) := by
  have hrun := runJob_detokenize h hwhole hbelow
  rw [runDetokenize, if_pos hlast] at hrun
  obtain ⟨hon, hfront, hkind, -⟩ := h
  exact (textCommand_runs hkind hon hfront).trans (congrArg Host.Outcome.next hrun)

/-- DETOKENIZE of a job's last part: what the job's tokens do to the entry, with the engine's part and job gone (R223, R228). -/
theorem detokenize_last {s : State} {j : TextJob} {r : Request} {v : Vocab} (h : TextReady s 2 j r v) (hend : r.endReason = none)
    (hwhole : j.bytes.length % 4 = 0) (hbelow : ∀ t ∈ unpackWords 4 (j.bytes.length / 4) j.bytes, t < v.recs.length)
    (hlast : j.last = true) :
    let toks := unpackWords 4 ((partBytes s j).length / 4) (partBytes s j)
    let res := appendTokens (stopsOf r) v.bytes r.detok r.hist toks
    let w := { s with text := { s.text with queue := s.text.queue.erase j, jobs := otherJobs s j } }
    ∃ hold, Does (.detokenize j none) s
      (setReq { countDetok w res.2.isSome with hold := hold } j.entry (matched r (now s) toks.length res)) := by
  dsimp only
  have hrun := runJob_detokenize h hwhole hbelow
  rw [runDetokenize, if_neg (by simp [hlast])] at hrun
  obtain ⟨hon, hfront, hkind, -⟩ := h
  obtain ⟨hold, hdetok⟩ := detokenize_matched
    { s with text := { s.text with queue := s.text.queue.erase j, jobs := otherJobs s j } } j v
    (unpackWords 4 ((partBytes s j).length / 4) (partBytes s j)) hend
  exact ⟨hold, (textCommand_runs hkind hon hfront).trans (congrArg Host.Outcome.next (hrun.trans hdetok))⟩

/-- With no stop every token's bytes join the history, and nothing else of the request changes but what may be released
(R223, R224). -/
theorem matched_unstopped {r : Request} (f : Nat) {v : Vocab} {toks : List Nat} (hend : r.endReason = none)
    (h : (appendTokens (stopsOf r) v.bytes r.detok r.hist toks).2 = none) :
    let q := matched r f toks.length (appendTokens (stopsOf r) v.bytes r.detok r.hist toks)
    q = { r with
      hist := r.hist ++ toks.flatMap v.bytes, detok := r.detok + toks.length, stop := none,
      released := max r.released (releasable (stopsOf r) (r.hist ++ toks.flatMap v.bytes)) } ∧ q.endReason = none := by
  unfold matched
  rw [h, appendTokens_none h]
  exact ⟨rfl, hend⟩

/-- A stop ends the generation at its token and is reported (R223, R225, R226). -/
theorem matched_stopped (r : Request) (f n : Nat) {res : List Byte × Option StopHit} {x : StopHit} (h : res.2 = some x) :
    let q := matched r f n res
    q.endReason = some 0 ∧ q.stop = some (stopReport x) ∧ q.released = max r.released x.start ∧
      (r.gen ≠ none → q.generated = x.token + 1 ∧ q.tokens = r.tokens.take (x.token + 1) ∧
        q.length = r.promptLen + x.token ∧ q.produced = some f) := by
  unfold matched
  rw [h]
  refine ⟨rfl, rfl, rfl, fun hgen => ?_⟩
  simp [cutAt, Option.isSome_iff_ne_none.mpr hgen]

/-- The last part of a detokenization takes the job's tokens into the request's history, counts the job and a stop, and
touches no other request (R223, R228, R232). -/
theorem detokenizeRuns {s : State} {j : TextJob} {r : Request} {v : Vocab} (h : TextReady s 2 j r v) (hend : r.endReason = none)
    (hwhole : j.bytes.length % 4 = 0) (hbelow : ∀ t ∈ unpackWords 4 (j.bytes.length / 4) j.bytes, t < v.recs.length)
    (hlast : j.last = true) :
    let toks := unpackWords 4 ((partBytes s j).length / 4) (partBytes s j)
    let res := appendTokens (stopsOf r) v.bytes r.detok r.hist toks
    let q := matched r (now s) toks.length res
    ∃ u, Does (.detokenize j none) s u ∧
      u.text = { s.text with queue := s.text.queue.erase j, jobs := otherJobs s j } ∧
      reqAt u j.entry = some q ∧ (∀ e, e ≠ j.entry → reqAt u e = reqAt s e) ∧ Counted s u .text 0x300 1 ∧
      RegsBut [regAddr .text 0x300, regAddr .text 0x320] s u ∧
      u = { s with text := u.text, regs := u.regs, reqs := u.reqs, hold := u.hold } ∧
      (res.2.isSome = true → Counted s u .text 0x320 1) := by
  obtain ⟨hold, hdoes⟩ := detokenize_last h hend hwhole hbelow hlast
  intro toks res q
  let w : State := { s with text := { s.text with queue := s.text.queue.erase j, jobs := otherJobs s j } }
  have hfields : OnlyRegs w (countDetok w res.2.isSome) := by
    unfold countDetok
    cases res.2.isSome <;> rfl
  obtain ⟨hregs, hjobs, hstops⟩ := countDetok_regs w res.2.isSome
  change Does _ s (setReq { countDetok w res.2.isSome with hold := hold } j.entry q) at hdoes
  generalize countDetok w res.2.isSome = c at *
  have hother : ∀ e, e ≠ j.entry → reqAt (setReq { c with hold := hold } j.entry q) e = reqAt s e := fun e he =>
    (reqAt_setReq_ne _ _ _ _ he).trans (by rw [hfields]; rfl)
  exact ⟨_, hdoes, by rw [setReq_text, hfields], reqAt_setReq_same _ _ _, hother, hjobs.of_regs rfl, hregs.of_regs rfl,
    by rw [hfields]; rfl, fun hx => (hstops hx).of_regs rfl⟩

end Sys2Proof.Machine
end

section
namespace Sys2Proof.Machine

/-! ### A unit whose lanes disagree -/

/-- What tells of a lane mismatch: Belfry's last detection, FLT_N and the text engine's status register (R231, R389). -/
def laneSigns (s : State) : Option LogEntry × Bool × Word := (s.belfry.last, s.pins.fltLow, reg s .text 0x08)

theorem Handed.laneSigns {s u : State} (h : Handed s u) : Machine.laneSigns u = Machine.laneSigns s := by
  unfold Machine.laneSigns
  rw [h.reported.last, h.pins, h.reg .text 0x08 (by decide)]

theorem laneSigns_setReg (s : State) {b : Blk} {off : Nat} (v : Word) (h : regAddr .text 0x08 ≠ regAddr b off) :
    laneSigns (setReg s b off v) = laneSigns s := by
  unfold laneSigns
  rw [reg_setReg_ne s b .text off 0x08 v h]
  rfl

theorem laneSigns_tiles (s : State) (x : Table Tile) : laneSigns { s with tiles := x } = laneSigns s := rfl

theorem laneSigns_dropWork (s : State) (e : Nat) : laneSigns (dropWork s e) = laneSigns s := by
  rw [(dropped_dropWork s e).rest]
  rfl

theorem laneSigns_completed (s : State) (e status : Nat) (r : Request) : laneSigns (completed s e status r) = laneSigns s := by
  unfold completed
  dsimp only
  split
  · exact laneSigns_setReg (setReq s e _) _ (by decide)
  · split
    · exact laneSigns_setReg (setReq s e _) _ (by decide)
    · split
      · exact laneSigns_setReg (setReq s e _) _ (by decide)
      · rfl

theorem laneSigns_complete (s : State) (e status : Nat) : laneSigns (complete s e status) = laneSigns s := by
  cases hr : reqAt s e with
  | none => simp [complete, hr]
  | some r =>
    cases hs : r.sentFrame with
    | some f => simp [complete, hr, hs]
    | none =>
      obtain ⟨body, hc⟩ := complete_eq (status := status) hr hs
      rw [hc, (handed_sendMsg _ _ _ _ _ _).laneSigns, laneSigns_completed]

theorem laneSigns_told (s : State) (d : Detection) (action seq : Nat) : laneSigns (told s d action seq) = laneSigns s := by
  have hreport := reported_told s d action seq
  unfold laneSigns
  rw [hreport.last, hreport.pins, (regsBut_told s d action seq).reg .text 0x08 (by decide)]

/-- No block's control register is the text engine's status register. -/
theorem textStatus_ne_control (b : Blk) : regAddr .text 0x08 ≠ regAddr b 0 := by
  cases b <;> simp only [regAddr, blkBase, tileBase] <;> omega

theorem laneSigns_clearEnables (s : State) (bs : List Blk) : laneSigns (clearEnables s bs) = laneSigns s :=
  foldl_keeps laneSigns _ (fun s b => laneSigns_setReg s _ (textStatus_ne_control b)) _ s

theorem laneSigns_faultAll (s : State) : laneSigns (faultAll s) = laneSigns s := by
  refine foldl_keeps laneSigns _ (fun s e => ?_) _ s
  split
  · rw [laneSigns_complete, laneSigns_dropWork]
  · rfl

theorem laneSigns_logEntry (s : State) (cls mech action ctx unit entry detail : Nat) :
    laneSigns (logEntry s cls mech action ctx unit entry detail) = laneSigns s := by
  have hlog := loggedBut_logEntry s cls mech action ctx unit entry detail
  have hreport : Reported s _ := LoggedBut.reported hlog
  unfold laneSigns
  rw [hreport.last, hreport.pins, RegsBut.reg (s := s) hlog.2.1 .text 0x08 (by decide)]

theorem laneSigns_enterDev (s : State) (d : DevState) (reason : Nat) : laneSigns (enterDev s d reason) = laneSigns s := by
  unfold enterDev
  split
  · rfl
  · dsimp only
    rw [(handed_eventAll _ _ _ _).laneSigns, logService, laneSigns_logEntry]
    split <;> rfl

theorem laneSigns_refuseMsg (s : State) (x : Submission) (reason earliest : Nat) :
    laneSigns (refuseMsg s x reason earliest) = laneSigns s := by
  unfold refuseMsg bump
  rw [laneSigns_setReg _ _ (by decide), (handed_sendMsg _ _ _ _ _ _).laneSigns]

theorem laneSigns_sendBeacons (s : State) : laneSigns (sendBeacons s) = laneSigns s := by
  rw [sendBeacons_fields]
  rfl

/-- Vermilion changes nothing of what tells of a detection once FLT_N is low (R394). -/
theorem laneSigns_enterVermilion {s : State} (h : s.pins.fltLow = true) : laneSigns (enterVermilion s) = laneSigns s := by
  unfold enterVermilion
  split
  · rfl
  · dsimp only
    rw [laneSigns_sendBeacons, foldl_keeps laneSigns _ (fun s x => laneSigns_refuseMsg s x 0x07 0), laneSigns_enterDev,
      setFlag, setFld, laneSigns_setReg _ _ (by decide), laneSigns_faultAll, laneSigns_tiles, laneSigns_clearEnables]
    unfold laneSigns
    rw [h]
    rfl

/-- The state of a detection before its requests and sessions hear of it: recorded, FLT_N low (R389, R391). -/
def alarmed (s : State) (d : Detection) (action : Nat) : State :=
  let u := recordDetection s d action
  let recent := match d.key with
    | some k => (d.mech, k, now u) :: u.belfry.recent
    | none => u.belfry.recent
  { u with pins := { u.pins with fltLow := true },
           belfry := { u.belfry with minimums := u.belfry.minimums + 1, recent := recent } }

/-- Outside Vermilion a detection that takes no tile out is recorded and reported; one that recurs takes the device to
Vermilion (R387 to R391). -/
theorem detect_outsideVermilion {s : State} {d : Detection} (hv : s.dev ≠ .vermilion) (ha : d.action = 0) :
    ∃ action, let u := told (alarmed s d action) d action s.belfry.seq
      detect s d = u ∨ detect s d = enterVermilion u := by
  by_cases hrec : recurs s d = true
  · refine ⟨2, .inr ?_⟩
    unfold detect
    simp only [if_pos hrec, if_neg hv]
    rfl
  · refine ⟨0, .inl ?_⟩
    unfold detect
    simp only [if_neg hrec, if_neg hv, ha]
    rfl

/-- What a detection shows once it is recorded (R389, R401). -/
theorem laneSigns_recordDetection (s : State) {d : Detection} (action : Nat) (hd : d.mech < 256) :
    ∃ e, laneSigns (recordDetection s d action) = (some e, s.pins.fltLow, reg s .text 0x08) ∧
      e.mech = d.mech ∧ e.cls = 1 ∧ e.entry = d.entry := by
  have hlog := laneSigns_logEntry s 1 d.mech action d.ctx d.unit d.entry d.detail
  have hcount : regAddr .text 0x08 ≠ regAddr .belfry (0x100 + 8 * d.mech) := by
    simp only [regAddr, blkBase]
    omega
  unfold recordDetection setFlag setFld
  rw [laneSigns_setReg _ _ (by decide), bump, laneSigns_setReg _ _ hcount, bump, laneSigns_setReg _ _ (by decide)]
  simp only [laneSigns, Prod.mk.injEq] at hlog ⊢
  obtain ⟨-, hpins, hreg⟩ := hlog
  exact ⟨_, ⟨rfl, hpins, hreg⟩, rfl, rfl, rfl⟩

/-- Outside Vermilion a detection of no tile is Belfry's last, FLT_N is low, and the text engine's flags stand (R389). -/
theorem laneSigns_detect {s : State} {d : Detection} (hv : s.dev ≠ .vermilion) (ha : d.action = 0) (hd : d.mech < 256) :
    ∃ e, laneSigns (detect s d) = (some e, true, reg s .text 0x08) ∧ e.mech = d.mech ∧ e.cls = 1 ∧ e.entry = d.entry := by
  obtain ⟨action, hdetect⟩ := detect_outsideVermilion hv ha
  obtain ⟨e, hrec, he⟩ := laneSigns_recordDetection s action hd
  have halarm : laneSigns (alarmed s d action) = (some e, true, reg s .text 0x08) := by
    unfold alarmed
    generalize recordDetection s d action = u at hrec
    simp only [laneSigns, Prod.mk.injEq] at hrec
    obtain ⟨hlast, -, hreg⟩ := hrec
    exact Prod.ext hlast (Prod.ext rfl hreg)
  have htold := (laneSigns_told (alarmed s d action) d action s.belfry.seq).trans halarm
  refine ⟨e, ?_, he⟩
  rcases hdetect with h | h
  · rw [h, htold]
  · rw [h, laneSigns_enterVermilion (congrArg (·.2.1) htold), htold]

theorem textFault_dev (s : State) (e : Nat) : (textFault s e).dev = s.dev := by
  unfold textFault
  dsimp only
  rw [complete_fields]
  exact (reported_endRequest _ e _ _).dev

theorem runTokenize_dev (s : State) (j : TextJob) (v : Vocab) : (runTokenize s j v).dev = s.dev := by
  cases hlast : j.last with
  | false => rw [runTokenize_part v hlast]; rfl
  | true =>
    rw [runTokenize_last v hlast, onlyRegs_countOutput]
    exact (reported_updReq _ j.entry _).dev

theorem runDetokenize_dev (s : State) (j : TextJob) (v : Vocab) (r : Request) : (runDetokenize s j v r).dev = s.dev := by
  unfold runDetokenize detokenize
  dsimp only
  choose hold hfrag using textFragment_hold
  split
  · rfl
  · rw [setReq_dev, hfrag]
    simp [apply_ite State.dev]

/-- No job part changes the state of the device. -/
theorem runJob_dev (s : State) (j : TextJob) : (runJob s j).dev = s.dev := by
  unfold runJob
  split
  · rfl
  · exact textFault_dev s _
  · dsimp only
    split
    · rfl
    · split
      · exact textFault_dev s _
      · split
        · exact runTokenize_dev s j _
        · exact runDetokenize_dev s j _ _

/-- The lanes of a unit that disagree on a part are a dangerous detection that names the request (R231). -/
theorem textCommand_laneMismatch {s : State} {kind l : Nat} {j : TextJob} (hkind : j.kind = kind) (hl : l < 8)
    (hon : enabled s .text = true) (hfront : s.text.queue.find? (fun q => decide (q.entry = j.entry)) = some j)
    (hv : s.dev ≠ .vermilion) :
    ∃ u e, textCommand kind j (some l) s = .next u ∧ FlagUp u .text 0x08 3 ∧ u.pins.fltLow = true ∧
      u.belfry.last = some e ∧ e.mech = 0x02 ∧ e.cls = 1 ∧ e.entry = j.entry := by
  have hdev : (setFlag (runJob (jobTaken s j) j) .text 0x08 3).dev ≠ .vermilion := by
    rw [setFlag_dev, runJob_dev]
    exact hv
  obtain ⟨e, hsigns, he⟩ := laneSigns_detect (d := laneMismatch j l) hdev rfl (by decide : 0x02 < 256)
  simp only [laneSigns, Prod.mk.injEq] at hsigns
  obtain ⟨hlast, hflt, hreg⟩ := hsigns
  have hflag : FlagUp (detect (setFlag (runJob (jobTaken s j) j) .text 0x08 3) (laneMismatch j l)) .text 0x08 3 := by
    rw [FlagUp, hreg]
    exact flagUp_setFlag _ .text 0x08 3 (by decide)
  exact ⟨_, e, textCommand_disagrees hkind hl hon hfront, hflag, hflt, hlast, he⟩

/-- Settles O29: a part runs when it is the oldest of its entry; a tokenization's output and a detokenization's entry follow
from what its last part does, and a lane mismatch from what a detection leaves of its signs. -/
theorem textJobsRun : Obligations.TextJobsRun := by
  refine ⟨fun s j lane hlane => ⟨fun hk => textCommand_completes s hlane hk, fun hk => textCommand_completes s hlane hk⟩,
    fun s j r v h => tokenizeRuns h, fun s j r v h hend hwhole hbelow => ⟨fun hlast => ?_, fun hlast => ?_⟩, ?_⟩
  · have hpart := detokenize_part h hwhole hbelow hlast
    obtain ⟨-, -, hkind, -⟩ := h
    rw [keepPart, hkind] at hpart
    exact hpart
  · obtain ⟨u, hdoes, htext, hreq, hother, hjobs, hregs, hfields, hstops⟩ := detokenizeRuns h hend hwhole hbelow hlast
    exact ⟨u, _, hdoes, htext, hreq, hother, hjobs, hregs, hfields, fun hgoes => matched_unstopped (now s) hend hgoes,
      fun x hx =>
        have ⟨hreason, hstop, hreleased, hgen⟩ := matched_stopped r (now s) _ hx
        ⟨hreason, hstop, hreleased, hstops (by rw [stopsOf, hx]; rfl), hgen⟩⟩
  · rintro s j l c (⟨rfl, hkind⟩ | ⟨rfl, hkind⟩) hl hon hfront hv <;>
      exact textCommand_laneMismatch hkind hl hon hfront hv

end Sys2Proof.Machine
end

section
namespace Sys2Proof.Machine

/-! ### Command registers over the management path -/

/-- A command register, neither control nor configuration, is not saved for start-up (R436). -/
theorem saveMgmt_command {b : Blk} {off : Nat} {d : RegDesc} (s : State) (v : Word) (hd : regDesc b off = some d)
    (hc : d.cfg = false) (hoff : off ≠ 0) : saveMgmt s b off v = s := by
  cases b <;> simp [saveMgmt, hd, hc, hoff]

/-- Outside Vermilion a management write of a command register acts, with an image in service or without (R69). -/
theorem writeOn_command {s : State} {b : Blk} {off : Nat} {d : RegDesc} (v : Word) (hv : s.dev ≠ .vermilion)
    (ha : regAddr b off % 8 = 0) (hb : decodeAddr (regAddr b off) = some (b, off)) (hd : regDesc b off = some d)
    (hc : d.cfg = false) (hoff : off ≠ 0) :
    writeOn s .mgmt (regAddr b off) 8 v = .next (emitOut (writeReg s b off d v) (.access 0 0)) := by
  have hok : accessStatus s .mgmt true (regAddr b off) 8 = 0 := by simp [accessStatus, ha, hb, hd, hv, hc, hoff]
  rw [writeOn_mgmt, access_write v hb hd hok, saveMgmt_command _ v hd hc hoff, ite_self]

/-! ### REQTAB_INSPECT -/

/-- The view takes an entry's head; that of a FREE entry shows zeros (R266, log entry 26). -/
theorem inspect_view (s : State) (v : Word) :
    inspect s v = { s with serv := { s.serv with view := ((reqAt s (bits v 0 16)).map headBytes).getD [] } } := by
  unfold inspect
  cases reqAt s (bits v 0 16) <;> rfl

theorem reqtabInspect_does (s : State) (v : Word) (hv : s.dev ≠ .vermilion) :
    Does (.reqtabInspect .mgmt v) s (emitOut (inspect s v) (.access 0 0)) :=
  writeOn_command (b := .reqtab) (off := 0x18) v hv (by decide) (by decide) rfl rfl (by decide)

/-! ### Asking the lenders for granules -/

/-- Granules were asked for: messages were handed out, and the tier engine noted what it waits for (R273, R346). -/
def Asked (s t : State) : Prop :=
  (∃ l, t.out = s.out ++ l) ∧ RegsBut [regAddr .mac 0x50] s t ∧
  t = { s with regs := t.regs, tier := { s.tier with fetch := t.tier.fetch }, out := t.out,
               port := { s.port with sessions := t.port.sessions } }

theorem Asked.refl (s : State) : Asked s s := ⟨⟨[], by simp⟩, regsBut_refl _ s, rfl⟩

theorem Asked.trans {s t u : State} (h : Asked s t) (k : Asked t u) : Asked s u := by
  obtain ⟨⟨l, hl⟩, hr, he⟩ := h
  obtain ⟨⟨m, hm⟩, kr, ke⟩ := k
  refine ⟨⟨l ++ m, by rw [hm, hl, List.append_assoc]⟩, hr.trans kr, ?_⟩
  rw [ke, he]

theorem Asked.foldl {α : Type} (f : State → α → State) (h : ∀ s x, Asked s (f s x)) (l : List α) (s : State) :
    Asked s (l.foldl f s) := by
  induction l generalizing s with
  | nil => exact .refl s
  | cons x l ih => exact (h s x).trans (ih (f s x))

/-- What a message asked for is noted. -/
theorem Handed.asked {s t : State} (h : Handed s t) (fetch : Table (Option (List Byte))) :
    Asked s { t with tier := { t.tier with fetch := fetch } } := by
  obtain ⟨hout, hregs, hrest⟩ := h
  refine ⟨hout, hregs, ?_⟩
  rw [hrest]

theorem asked_askLease (s : State) (j : Nat) : Asked s (askLease s j) := by
  unfold askLease
  cases tget s.tier.leases j with
  | none => exact .refl s
  | some l =>
    refine Asked.foldl _ (fun u q => ?_) _ s
    cases q with
    | nil => exact .refl u
    | cons x q => exact (handed_sendLease u l.neighbour true 7 l.wire _ _ []).asked _

theorem asked_askLeases (s : State) : Asked s (askLeases s) := Asked.foldl _ asked_askLease _ s

theorem Asked.reg {s t : State} (h : Asked s t) (b : Blk) (off : Nat) (hn : regAddr b off ≠ regAddr .mac 0x50) :
    Machine.reg t b off = Machine.reg s b off := h.2.1.reg b off (by simpa using hn)

theorem Asked.move {s t : State} (h : Asked s t) : t.tier.move = s.tier.move := by rw [h.2.2]

/-! ### TIER_MOVE_CMD -/

/-- What an ordered move is made of: the fields of the command, and the granules not yet at the target (R273, R286). -/
theorem moveOf_some {s : State} {v : Word} {m : Move} (h : moveOf s v = some m) :
    m.ctx = bits v 0 4 ∧ m.target = bits v 36 5 ∧
    m.todo = ((List.range (bits v 4 32)).map (fun i => s.tier.moveAddr + 2048 * i)).filter
      (fun g => !atTarget s m.target m.ctx g) := by
  unfold moveOf at h
  dsimp only at h
  split at h
  · cases h
  · split at h
    · cases h
    · split at h
      · cases h
      · cases h
        exact ⟨rfl, rfl, rfl⟩

theorem writeMoveCmd_rejected {s : State} {v : Word} (h : moveOf s v = none) :
    writeMoveCmd s v = setFlag s .tier 0x08 2 := by
  simp [writeMoveCmd, h]

theorem writeMoveCmd_done {s : State} {v : Word} {m : Move} (h : moveOf s v = some m) (ht : m.todo = []) :
    writeMoveCmd s v = setFlag s .tier 0x08 1 := by
  simp [writeMoveCmd, h, ht]

theorem writeMoveCmd_begins {s : State} {v : Word} {m : Move} (h : moveOf s v = some m) (ht : m.todo ≠ []) :
    writeMoveCmd s v = askLeases { s with tier := { s.tier with move := some m } } := by
  simp [writeMoveCmd, h, ht]

/-- All that a command to the tier engine may change: its own move, what it asks the lenders for, and its events. -/
def MoveWritten (s t : State) : Prop :=
  (∃ l, t.out = s.out ++ l) ∧ RegsBut [regAddr .tier 0x08, regAddr .mac 0x50] s t ∧
  t = { s with regs := t.regs, tier := { s.tier with move := t.tier.move, fetch := t.tier.fetch }, out := t.out,
               port := { s.port with sessions := t.port.sessions } }

theorem moveWritten_event (s : State) (i : Nat) : MoveWritten s (setFlag s .tier 0x08 i) :=
  ⟨⟨[], by simp⟩, (regsBut_setFlag s .tier 0x08 i).mono (by simp), rfl⟩

/-- A move that begins asks for the granules that leases hold. -/
theorem Asked.moveWritten {s t : State} {m : Option Move} (h : Asked { s with tier := { s.tier with move := m } } t) :
    MoveWritten s t := by
  obtain ⟨hout, hregs, hrest⟩ := h
  refine ⟨hout, RegsBut.mono (s := s) hregs (by simp), ?_⟩
  rw [hrest]

theorem moveWritten_writeMoveCmd (s : State) (v : Word) : MoveWritten s (writeMoveCmd s v) := by
  cases h : moveOf s v with
  | none =>
    rw [writeMoveCmd_rejected h]
    exact moveWritten_event s 2
  | some m =>
    by_cases ht : m.todo = []
    · rw [writeMoveCmd_done h ht]
      exact moveWritten_event s 1
    · rw [writeMoveCmd_begins h ht]
      exact (asked_askLeases _).moveWritten

theorem tierMoveCmd_does (s : State) (v : Word) (hv : s.dev ≠ .vermilion) :
    Does (.tierMoveCmd .mgmt v) s (emitOut (writeMoveCmd s v) (.access 0 0)) :=
  writeOn_command (b := .tier) (off := 0x38) v hv (by decide) (by decide) rfl rfl (by decide)

/-! ### SWAP_COMPLETE -/

/-- A swap that a SWAP_COMPLETE speaks of: the first of its region that runs and has no outcome yet (R260). -/
def runningSwap (s : State) (region : Nat) : Option SwapPlan :=
  s.adm.swaps.find? (fun w => decide (w.region = region) && w.outcome.isNone && decide (w.start ≤ now s))

/-- Bytes that fail or come late are counted and flagged in FLASH (R295). -/
def readsCounted (reads : ReadEnd) (s : State) : State :=
  match reads with
  | .inTime => s
  | .late => setFlag (bump s .flash 0x48 1) .flash 0x08 5
  | .failed => setFlag (bump s .flash 0x50 1) .flash 0x08 5

/-- One swap with its outcome, among the others. -/
def markSwap (w : SwapPlan) (good : Bool) (swaps : List SwapPlan) : List SwapPlan :=
  swaps.map (fun v => if v = w then { v with outcome := some good } else v)

theorem marked_mem_markSwap {w : SwapPlan} {swaps : List SwapPlan} (good : Bool) (h : w ∈ swaps) :
    { w with outcome := some good } ∈ markSwap w good swaps :=
  List.mem_map.mpr ⟨w, h, if_pos rfl⟩

theorem other_mem_markSwap {v w : SwapPlan} {swaps : List SwapPlan} (good : Bool) (h : v ∈ swaps) (hne : v ≠ w) :
    v ∈ markSwap w good swaps :=
  List.mem_map.mpr ⟨v, h, if_neg hne⟩

/-- The state after a SWAP_COMPLETE that decides a swap. -/
def swapDecided (s : State) (w : SwapPlan) (reads : ReadEnd) : State :=
  { readsCounted reads s with
    adm := { s.adm with swaps := markSwap w (decide (reads = .inTime) && swapDigestOk s w.ref) s.adm.swaps } }

/-- SWAP_COMPLETE decides a swap whose bytes did not come in time at once, and any other in its last
frame, by the digest (R260, R295, log entry 102). -/
theorem swapComplete_decides {s : State} {region : Nat} {reads : ReadEnd} {w : SwapPlan}
    (hw : runningSwap s region = some w) (hend : reads ≠ .inTime ∨ w.start + w.frames ≤ now s + 1) :
    Does (.swapComplete region reads) s (swapDecided s w reads) := by
  have hno : ¬(reads = .inTime ∧ now s + 1 < w.start + w.frames) := by
    rintro ⟨hr, hlt⟩
    exact hend.elim (· hr) (by omega)
  unfold runningSwap at hw
  show execSwapComplete region reads s = _
  unfold execSwapComplete
  simp only [hw, if_neg hno]
  cases reads <;> rfl

theorem swapComplete_completes (s : State) (region : Nat) (reads : ReadEnd) : Completes (.swapComplete region reads) s := by
  show ∃ t, execSwapComplete region reads s = .next t
  unfold execSwapComplete
  split
  · exact ⟨_, rfl⟩
  · split
    · exact ⟨_, rfl⟩
    · exact ⟨_, rfl⟩

theorem onlyRegs_readsCounted (s : State) (reads : ReadEnd) : OnlyRegs s (readsCounted reads s) := by
  cases reads <;> rfl

/-- A count of FLASH and the event beside it change those two registers. -/
theorem regsBut_countFlash (s : State) (off : Nat) :
    RegsBut [regAddr .flash off, regAddr .flash 0x08] s (setFlag (bump s .flash off 1) .flash 0x08 5) :=
  ((regsBut_bump s .flash off 1).mono (by simp)).trans ((regsBut_setFlag _ .flash 0x08 5).mono (by simp))

theorem regsBut_readsCounted (s : State) (reads : ReadEnd) :
    RegsBut [regAddr .flash 0x48, regAddr .flash 0x50, regAddr .flash 0x08] s (readsCounted reads s) := by
  cases reads with
  | inTime => exact regsBut_refl _ s
  | late => exact (regsBut_countFlash s 0x48).mono (by simp)
  | failed => exact (regsBut_countFlash s 0x50).mono (by simp)

/-- A count of FLASH stands beside its event. -/
theorem counted_countFlash (s : State) {off : Nat} (h : off ≠ 0x08) :
    Counted s (setFlag (bump s .flash off 1) .flash 0x08 5) .flash off 1 := by
  unfold Counted
  rw [(regsBut_setFlag (bump s .flash off 1) .flash 0x08 5).reg .flash off (by simpa using regAddr_inj .flash h)]
  exact counted_bump s .flash off 1

/-! ### The obligation -/

/-- Settles O32: the two commands act as writes of command registers, a command to the tier engine by its three outcomes,
and SWAP_COMPLETE by the swap that it decides. -/
theorem viewMoveSwap : Obligations.ViewMoveSwap := by
  refine ⟨swapComplete_completes, fun s v hv => ?_, fun s v hv => ?_, fun s region reads w hw hend => ?_⟩
  · have hdoes := reqtabInspect_does s v hv
    rw [inspect_view] at hdoes
    exact hdoes
  · obtain ⟨⟨l, hout⟩, hregs, hrest⟩ := moveWritten_writeMoveCmd s v
    refine ⟨emitOut (writeMoveCmd s v) (.access 0 0), tierMoveCmd_does s v hv, ⟨l, by rw [emitOut, hout]⟩, hregs, ?_,
      fun hnone => ?_, fun m hsome => ?_⟩
    · rw [emitOut, hrest]
    · rw [writeMoveCmd_rejected hnone]
      exact ⟨flagUp_setFlag s .tier 0x08 2 (by decide), rfl⟩
    · obtain ⟨hctx, htarget, htodo⟩ := moveOf_some hsome
      refine ⟨hctx, htarget, fun hsteps => ?_, fun hnone => ?_, htodo⟩
      · rw [writeMoveCmd_begins hsome hsteps]
        have hasked := asked_askLeases { s with tier := { s.tier with move := some m } }
        exact ⟨hasked.move, hasked.reg .tier 0x08 (by decide)⟩
      · rw [writeMoveCmd_done hsome hnone]
        exact ⟨flagUp_setFlag s .tier 0x08 1 (by decide), rfl⟩
  · have hmem : w ∈ s.adm.swaps := List.mem_of_find?_eq_some hw
    refine ⟨swapDecided s w reads, swapComplete_decides hw hend, marked_mem_markSwap _ hmem,
      fun v hv hne => other_mem_markSwap _ hv hne, ?_, ?_, ?_, regsBut_readsCounted s reads, ?_⟩
    · rintro rfl
      exact ⟨counted_countFlash s (by decide), flagUp_setFlag _ .flash 0x08 5 (by decide)⟩
    · rintro rfl
      exact ⟨counted_countFlash s (by decide), flagUp_setFlag _ .flash 0x08 5 (by decide)⟩
    · rintro rfl
      rfl
    · rw [swapDecided, onlyRegs_readsCounted s reads]

end Sys2Proof.Machine
end

section
namespace Sys2Proof.Machine

/-! ### What stands under later writes, and fields of registers -/

/-- A count stands under writes of other registers. -/
theorem Counted.regsBut {l : List Nat} {s u v : State} {b : Blk} {off n : Nat} (h : Counted s u b off n)
    (hl : RegsBut l u v) (hn : regAddr b off ∉ l) : Counted s v b off n := h.stands (hl.reg b off hn)

/-- A flag stays up under writes of other registers. -/
theorem FlagUp.regsBut {l : List Nat} {s u : State} {b : Blk} {off i : Nat} (h : FlagUp s b off i)
    (hl : RegsBut l s u) (hn : regAddr b off ∉ l) : FlagUp u b off i := by
  unfold FlagUp at h ⊢
  rwa [hl.reg b off hn]

/-- A count begun after writes of other registers counts from the start. -/
theorem Counted.since {l : List Nat} {s t u : State} {b : Blk} {off n : Nat} (h : Counted t u b off n)
    (hl : RegsBut l s t) (hn : regAddr b off ∉ l) : Counted s u b off n := counted_of_reg h (hl.reg b off hn)

theorem fld_setFld_same (s : State) (b : Blk) (off : Nat) {lo n v : Nat} (hw : lo + n ≤ 64) (hv : v < 2 ^ n) :
    fld (setFld s b off lo n v) b off lo n = v := by
  unfold fld setFld
  rw [reg_setReg_same, bits_putBits_same _ _ _ _ hw, Nat.mod_eq_of_lt hv]

theorem fld_setFld_apart (s : State) (b : Blk) (off : Nat) {lo n i k : Nat} (v : Nat) (h : i + k ≤ lo ∨ lo + n ≤ i)
    (hi : i + k ≤ 64) : fld (setFld s b off lo n v) b off i k = fld s b off i k := by
  unfold fld setFld
  rw [reg_setReg_same, bits_putBits_apart _ _ _ _ _ _ h hi]

theorem onlyRegs_setFld (s : State) (b : Blk) (off lo n v : Nat) : OnlyRegs s (setFld s b off lo n v) := rfl

/-- No register of Belfry is one of a Keep. -/
theorem keepReg_ne_belfryReg (k : Nat) {off o : Nat} (ho : o < 0x10000) : regAddr (.keep k) off ≠ regAddr .belfry o := by
  simp only [regAddr, blkBase]
  omega

/-! ### ARBITRATION_WINDOW -/

/-- What is left of a capacity and what was served from it are the whole capacity. -/
theorem serveList_total (cap : Nat) (l : List Access) :
    (serveList cap l).1 + sumBy (·.2) (serveList cap l).2 = cap := by
  induction l generalizing cap with
  | nil => rfl
  | cons a l ih =>
    simp only [serveList, sumBy]
    have hrest := ih (cap - min cap (if isGranted a then min a.bytes (windowBytes a.grantMbps) else a.bytes))
    omega

/-- A share's own capacity is what it leaves and what it serves. -/
theorem serveShare_total (s : State) (k : Nat) (reqs : List Access) (share : Nat) :
    (serveShare s k reqs share).1 + (serveShare s k reqs share).2.1 = shareBytes s k share := by
  unfold serveShare
  dsimp only
  set mine := reqs.filter (fun a => decide (shareOf k a = share))
  set granted := sortBy (fun a b => decide (a.tile ≤ b.tile)) (mine.filter isGranted)
  have hgranted := serveList_total (shareBytes s k share) granted
  have helastic := serveList_total (serveList (shareBytes s k share) granted).1
    (sortBy accessBefore (mine.filter (fun a => !isGranted a)))
  omega

/-- The capacity that the shares leave. -/
def spareBytes (s : State) (k : Nat) (reqs : List Access) : Nat :=
  sumBy (·.1) ((List.range 3).map (serveShare s k reqs))

/-- The Elastic accesses served from what the shares leave, with their bytes (R280). -/
def spareServed (s : State) (k : Nat) (reqs : List Access) : List (Access × Nat) :=
  (serveList (spareBytes s k reqs)
    (sortBy accessBefore (((List.range 3).map (serveShare s k reqs)).flatMap (·.2.2)))).2

/-- The bytes that a window counts on a share: from its own capacity, and for its own accesses
from what the others leave (log entry 47). -/
def shareServed (s : State) (k : Nat) (reqs : List Access) (share : Nat) : Nat :=
  (serveShare s k reqs share).2.1 + sumBy (·.2) ((spareServed s k reqs).filter (fun x => decide (shareOf k x.1 = share)))

theorem windowServed_eq (s : State) (k : Nat) (reqs : List Access) :
    windowServed s k reqs = [shareServed s k reqs 0, shareServed s k reqs 1, shareServed s k reqs 2] := rfl

theorem spareServed_le (s : State) (k : Nat) (reqs : List Access) :
    sumBy (·.2) (spareServed s k reqs) ≤ spareBytes s k reqs :=
  le_of_add_le_right (serveList_total (spareBytes s k reqs) _).le

theorem sumBy_filter_cons {α : Type} (f : α → Nat) (p : α → Bool) (x : α) (l : List α) :
    sumBy f ((x :: l).filter p) = (if p x then f x else 0) + sumBy f (l.filter p) := by
  rw [List.filter_cons]
  split
  · rfl
  · rw [Nat.zero_add]

/-- Each entry is in at most one of three classes, so the classes together sum to no more than the list. -/
theorem sumBy_classes_le {α : Type} (f g : α → Nat) (l : List α) :
    sumBy f (l.filter (fun x => decide (g x = 0))) + sumBy f (l.filter (fun x => decide (g x = 1))) +
      sumBy f (l.filter (fun x => decide (g x = 2))) ≤ sumBy f l := by
  induction l with
  | nil => simp [sumBy]
  | cons x l ih =>
    simp only [sumBy_filter_cons, decide_eq_true_eq, sumBy]
    split_ifs <;> omega

/-- A window serves no more than the three shares of the link (R280). -/
theorem windowServed_le (s : State) (k : Nat) (reqs : List Access) :
    shareServed s k reqs 0 + shareServed s k reqs 1 + shareServed s k reqs 2 ≤
      shareBytes s k 0 + shareBytes s k 1 + shareBytes s k 2 := by
  have hread := serveShare_total s k reqs 0
  have hwrite := serveShare_total s k reqs 1
  have hremote := serveShare_total s k reqs 2
  have hclasses := sumBy_classes_le (·.2) (fun x => shareOf k x.1) (spareServed s k reqs)
  have hspare := spareServed_le s k reqs
  have hleft : spareBytes s k reqs =
      (serveShare s k reqs 0).1 + ((serveShare s k reqs 1).1 + ((serveShare s k reqs 2).1 + 0)) := rfl
  unfold shareServed
  omega

/-- The state after a window: the three shares' counters have counted. -/
def windowCounted (s : State) (k a b c : Nat) : State :=
  bump (bump (bump s (.keep k) 0x48 a) (.keep k) 0x50 b) (.keep k) 0x58 c

theorem arbitrationWindow_does {s : State} {k : Nat} {reqs : List Access} (hk : k < 32)
    (htiles : ∀ a ∈ reqs, a.tile < 640) :
    Does (.arbitrationWindow k reqs) s
      (windowCounted s k (shareServed s k reqs 0) (shareServed s k reqs 1) (shareServed s k reqs 2)) := by
  have hok : ¬(32 ≤ k ∨ reqs.any (fun a => decide (640 ≤ a.tile))) := by
    simpa [hk] using htiles
  show execArbitrationWindow k reqs s = _
  unfold execArbitrationWindow
  rw [if_neg hok, windowServed_eq]
  rfl

/-- Each counter counts its own share, for the three registers are apart. -/
theorem counted_windowCounted (s : State) (k a b c : Nat) :
    Counted s (windowCounted s k a b c) (.keep k) 0x48 a ∧ Counted s (windowCounted s k a b c) (.keep k) 0x50 b ∧
    Counted s (windowCounted s k a b c) (.keep k) 0x58 c := by
  have hread := regsBut_bump s (.keep k) 0x48 a
  have hwrite := regsBut_bump (bump s (.keep k) 0x48 a) (.keep k) 0x50 b
  have hremote := regsBut_bump (bump (bump s (.keep k) 0x48 a) (.keep k) 0x50 b) (.keep k) 0x58 c
  refine ⟨?_, ?_, ?_⟩
  · exact ((counted_bump s (.keep k) 0x48 a).regsBut hwrite (by simp [regAddr])).regsBut hremote (by simp [regAddr])
  · exact ((counted_bump _ (.keep k) 0x50 b).since hread (by simp [regAddr])).regsBut hremote (by simp [regAddr])
  · exact ((counted_bump _ (.keep k) 0x58 c).since hwrite (by simp [regAddr])).since hread (by simp [regAddr])

theorem regsBut_windowCounted (s : State) (k a b c : Nat) :
    RegsBut [regAddr (.keep k) 0x48, regAddr (.keep k) 0x50, regAddr (.keep k) 0x58] s (windowCounted s k a b c) :=
  (((regsBut_bump s (.keep k) 0x48 a).mono (by simp)).trans ((regsBut_bump _ (.keep k) 0x50 b).mono (by simp))).trans
    ((regsBut_bump _ (.keep k) 0x58 c).mono (by simp))

theorem onlyRegs_windowCounted (s : State) (k a b c : Nat) : OnlyRegs s (windowCounted s k a b c) :=
  ((onlyRegs_bump s _ _ a).trans (onlyRegs_bump _ _ _ b)).trans (onlyRegs_bump _ _ _ c)

theorem arbitrationWindowServes : Claims.ArbitrationWindowServes := by
  intro s k reqs hk htiles
  obtain ⟨hread, hwrite, hremote⟩ :=
    counted_windowCounted s k (shareServed s k reqs 0) (shareServed s k reqs 1) (shareServed s k reqs 2)
  exact ⟨_, _, _, _, arbitrationWindow_does hk htiles, windowServed_eq s k reqs, hread, hwrite, hremote,
    windowServed_le s k reqs, regsBut_windowCounted s k _ _ _, onlyRegs_windowCounted s k _ _ _⟩

/-! ### The patrol's place -/

theorem nextPatrol_within {s : State} {k : Nat} (h : fld s (.keep k) 0x40 32 25 + 1 < 25165824) :
    nextPatrol s k = setFld s (.keep k) 0x40 32 25 (fld s (.keep k) 0x40 32 25 + 1) := if_pos h

theorem nextPatrol_last {s : State} {k : Nat} (h : 25165824 ≤ fld s (.keep k) 0x40 32 25 + 1) :
    nextPatrol s k = setFld (setFld s (.keep k) 0x40 32 25 0) (.keep k) 0x40 0 32
      (min (fld s (.keep k) 0x40 0 32 + 1) (2 ^ 32 - 1)) := if_neg (Nat.not_lt.mpr h)

/-- The patrol's step writes its own register alone (R283). -/
theorem regsBut_nextPatrol (s : State) (k : Nat) : RegsBut [regAddr (.keep k) 0x40] s (nextPatrol s k) := by
  unfold nextPatrol
  dsimp only
  split
  · exact regsBut_setFld s _ _ _ _ _
  · exact (regsBut_setFld s _ _ _ _ _).trans (regsBut_setFld _ _ _ _ _ _)

theorem onlyRegs_nextPatrol (s : State) (k : Nat) : OnlyRegs s (nextPatrol s k) := by
  unfold nextPatrol
  dsimp only
  split
  · exact onlyRegs_setFld s _ _ _ _ _
  · exact (onlyRegs_setFld s _ _ _ _ _).trans (onlyRegs_setFld _ _ _ _ _ _)

/-- Before the last granule the patrol goes on, and its passes stand. -/
theorem fld_nextPatrol_within {s : State} {k : Nat} (h : fld s (.keep k) 0x40 32 25 + 1 < 25165824) :
    fld (nextPatrol s k) (.keep k) 0x40 32 25 = fld s (.keep k) 0x40 32 25 + 1 ∧
    fld (nextPatrol s k) (.keep k) 0x40 0 32 = fld s (.keep k) 0x40 0 32 := by
  rw [nextPatrol_within h]
  exact ⟨fld_setFld_same s _ _ (by decide) (by omega), fld_setFld_apart s _ _ _ (by decide) (by decide)⟩

/-- After the last granule it begins again and counts the pass. -/
theorem fld_nextPatrol_last {s : State} {k : Nat} (h : 25165824 ≤ fld s (.keep k) 0x40 32 25 + 1) :
    fld (nextPatrol s k) (.keep k) 0x40 32 25 = 0 ∧
    fld (nextPatrol s k) (.keep k) 0x40 0 32 = min (fld s (.keep k) 0x40 0 32 + 1) (2 ^ 32 - 1) := by
  rw [nextPatrol_last h]
  constructor
  · rw [fld_setFld_apart _ _ _ _ (by decide) (by decide), fld_setFld_same s _ _ (by decide) (by decide)]
  · exact fld_setFld_same _ _ _ (by decide) (by omega)

/-! ### What the patrol finds in its granule -/

/-- Key of a 64-byte block of a granule among the blocks known to be uncorrectable, as `patrolFinds` looks it up. -/
def blockKey (k g b : Nat) : Nat := k * 2 ^ 30 + g * 32 + b

/-- The key of a block names its Keep and granule. -/
theorem blockKey_div {b : Nat} (k g : Nat) (hb : b < 32) : blockKey k g b / 32 = k * 2 ^ 25 + g := by
  unfold blockKey
  omega

/-- One number of a range that a partial map answers is all that it lists. -/
theorem filterMap_range_single {α : Type} {f : Nat → Option α} {n i : Nat} {y : α} (hi : i < n) (hy : f i = some y)
    (ho : ∀ j < n, j ≠ i → f j = none) : (List.range n).filterMap f = [y] := by
  induction n with
  | zero => omega
  | succ n ih =>
    rw [List.range_succ, List.filterMap_append]
    by_cases hin : i = n
    · subst hin
      have hnone : (List.range i).filterMap f = [] :=
        List.filterMap_eq_nil_iff.mpr fun j hj => ho j (by simp at hj; omega) (by simp at hj; omega)
      simp [hnone, hy]
    · rw [ih (by omega) fun j hj => ho j (by omega)]
      simp [ho n (by omega) (Ne.symm hin)]

/-- A granule with no block known to be bad, and none reported, shows no error. -/
theorem patrolFinds_clean {s : State} {k g : Nat} (h : ∀ b < 32, blockKey k g b ∉ s.tier.badBlocks) :
    patrolFinds s k g [] = [] := by
  refine List.filterMap_eq_nil_iff.mpr fun b hb => ?_
  simpa [blockKey] using h b (List.mem_range.mp hb)

/-- A granule whose one error is the one reported shows that error, known before or not (R282, log entry 48). -/
theorem patrolFinds_single {s : State} {k g block : Nat} {ue : Bool} (hb : block < 32)
    (hother : ∀ b < 32, b ≠ block → blockKey k g b ∉ s.tier.badBlocks)
    (hthis : ue = false → blockKey k g block ∉ s.tier.badBlocks) :
    patrolFinds s k g [(block, ue)] = [(g * 32 + block, ue)] := by
  refine filterMap_range_single hb ?_ fun b hlt hne => ?_
  · cases ue with
    | true => simp
    | false => simpa [blockKey] using hthis rfl
  · simpa [blockKey, hne] using hother b hlt hne

/-! ### Errors recorded -/

theorem onlyRegs_keepError (s : State) (k block : Nat) (ue patrol : Bool) : OnlyRegs s (keepError s k block ue patrol) := by
  unfold keepError
  dsimp only
  cases ue with
  | true => exact ((onlyRegs_setReg s _ _ _).trans (onlyRegs_setFlag _ _ _ 2)).trans (onlyRegs_bump _ _ 0x28 1)
  | false => exact ((onlyRegs_setReg s _ _ _).trans (onlyRegs_setFlag _ _ _ 1)).trans (onlyRegs_bump _ _ 0x20 1)

/-- The registers of a Keep that an error recorded writes. -/
def keepErrorRegs (k : Nat) : List Nat :=
  [regAddr (.keep k) 0x30, regAddr (.keep k) 0x08, regAddr (.keep k) 0x20, regAddr (.keep k) 0x28]

theorem regsBut_keepError (s : State) (k block : Nat) (ue patrol : Bool) :
    RegsBut (keepErrorRegs k) s (keepError s k block ue patrol) := by
  have hplace (w : Word) : RegsBut (keepErrorRegs k) s (setReg s (.keep k) 0x30 w) :=
    (regsBut_setReg s _ _ _).mono (by simp [keepErrorRegs])
  have hflag (t : State) (i : Nat) : RegsBut (keepErrorRegs k) t (setFlag t (.keep k) 0x08 i) :=
    (regsBut_setFlag t _ _ _).mono (by simp [keepErrorRegs])
  unfold keepError
  dsimp only
  cases ue with
  | true => exact ((hplace _).trans (hflag _ 2)).trans ((regsBut_bump _ (.keep k) 0x28 1).mono (by simp [keepErrorRegs]))
  | false => exact ((hplace _).trans (hflag _ 1)).trans ((regsBut_bump _ (.keep k) 0x20 1).mono (by simp [keepErrorRegs]))

/-- A corrected error raises its event and is counted (R282). -/
theorem keepError_corrected (s : State) (k block : Nat) (patrol : Bool) :
    FlagUp (keepError s k block false patrol) (.keep k) 0x08 1 ∧
    Counted s (keepError s k block false patrol) (.keep k) 0x20 1 := by
  unfold keepError
  dsimp only
  rw [if_neg Bool.false_ne_true]
  constructor
  · exact (flagUp_setFlag _ (.keep k) 0x08 1 (by decide)).regsBut (regsBut_bump _ (.keep k) 0x20 1) (by simp [regAddr])
  · exact ((counted_bump _ (.keep k) 0x20 1).since (regsBut_setFlag _ (.keep k) 0x08 1) (by simp [regAddr])).since
      (regsBut_setReg s (.keep k) 0x30 _) (by simp [regAddr])

/-- An uncorrectable error raises its event and is counted (R282). -/
theorem keepError_uncorrectable (s : State) (k block : Nat) (patrol : Bool) :
    FlagUp (keepError s k block true patrol) (.keep k) 0x08 2 ∧
    Counted s (keepError s k block true patrol) (.keep k) 0x28 1 := by
  unfold keepError
  dsimp only
  rw [if_pos rfl]
  constructor
  · exact (flagUp_setFlag _ (.keep k) 0x08 2 (by decide)).regsBut (regsBut_bump _ (.keep k) 0x28 1) (by simp [regAddr])
  · exact ((counted_bump _ (.keep k) 0x28 1).since (regsBut_setFlag _ (.keep k) 0x08 2) (by simp [regAddr])).since
      (regsBut_setReg s (.keep k) 0x30 _) (by simp [regAddr])

/-- The registers of Belfry that a latent fault may write: its counter, DROPPED and BELFRY_STATUS (R398, R402). -/
def latentRegs : List Nat := [regAddr .belfry 0x28, regAddr .belfry 0x30, regAddr .belfry 0x00]

theorem keepReg_not_latent (k off : Nat) : regAddr (.keep k) off ∉ latentRegs := by
  simp [latentRegs, keepReg_ne_belfryReg]

theorem regsBut_logEntry (s : State) (cls mech action ctx unit entry detail : Nat) :
    RegsBut [regAddr .belfry 0x30, regAddr .belfry 0x00] s (logEntry s cls mech action ctx unit entry detail) :=
  (loggedBut_logEntry s cls mech action ctx unit entry detail).2.1

theorem regsBut_latent (s : State) (mech unit detail : Nat) : RegsBut latentRegs s (latent s mech unit detail) :=
  (((regsBut_logEntry s 2 mech 3 0xFF unit 0xFFFF detail).mono (by simp [latentRegs])).trans
    ((regsBut_bump _ .belfry 0x28 1).mono (by simp [latentRegs]))).trans
    ((regsBut_setFlag _ .belfry 0x00 2).mono (by simp [latentRegs]))

/-- A latent fault raises its event and is counted (R398). -/
theorem latent_counted (s : State) (mech unit detail : Nat) :
    FlagUp (latent s mech unit detail) .belfry 0x00 2 ∧ Counted s (latent s mech unit detail) .belfry 0x28 1 := by
  unfold latent
  refine ⟨flagUp_setFlag _ .belfry 0x00 2 (by decide), ?_⟩
  exact ((counted_bump _ .belfry 0x28 1).regsBut (regsBut_setFlag _ .belfry 0x00 2) (by simp [regAddr])).since
    (regsBut_logEntry s 2 mech 3 0xFF unit 0xFFFF detail) (by simp [regAddr])

/-- A log entry changes the logs, the incident and registers alone. -/
theorem logEntry_fields (s : State) (cls mech action ctx unit entry detail : Nat) :
    let t := logEntry s cls mech action ctx unit entry detail
    t = { s with regs := t.regs, belfry := t.belfry, nv := t.nv,
                 lantern := { s.lantern with volatileLog := t.lantern.volatileLog } } :=
  (loggedBut_logEntry s cls mech action ctx unit entry detail).2.2

/-- A latent fault changes what its log entry does, and registers. -/
theorem latent_fields (s : State) (mech unit detail : Nat) :
    let t := latent s mech unit detail
    t = { s with regs := t.regs, belfry := t.belfry, nv := t.nv,
                 lantern := { s.lantern with volatileLog := t.lantern.volatileLog } } := by
  have hlog := logEntry_fields s 2 mech 3 0xFF unit 0xFFFF detail
  unfold latent
  dsimp only at hlog ⊢
  generalize logEntry s 2 mech 3 0xFF unit 0xFFFF detail = t at hlog ⊢
  rw [hlog]
  rfl

theorem mem_asSet_append (l : List Nat) (x : Nat) : x ∈ asSet (l ++ [x]) := by
  unfold asSet
  rw [List.foldl_append]
  exact mem_addNat x _

/-! ### PATROL_SCRUB -/

theorem quarters_wf {q : List (Nat × Bool)} {k : Nat} (hk : k < 32) (hq : ∀ b ∈ q, b.1 < 8) :
    ¬(32 ≤ k ∨ q.any (fun b => decide (8 ≤ b.1))) := by
  simpa only [hk.not_ge, false_or, List.any_eq_true, decide_eq_true_eq, not_exists, not_and, not_le] using hq

theorem patrolScrub_completes {s : State} {k : Nat} {q0 q1 q2 q3 : List (Nat × Bool)} (hk : k < 32)
    (hq : ∀ b ∈ q0 ++ q1 ++ q2 ++ q3, b.1 < 8) : Completes (.patrolScrub k q0 q1 q2 q3) s := by
  show ∃ t, execPatrolScrub k q0 q1 q2 q3 s = .next t
  unfold execPatrolScrub
  rw [if_neg (quarters_wf hk hq)]
  split
  · exact ⟨_, rfl⟩
  · exact ⟨_, rfl⟩

/-- The patrol of an enabled Keep records what it finds in its granule, and goes on (R283). -/
theorem patrolScrub_does {s : State} {k : Nat} {q0 q1 q2 q3 l : List (Nat × Bool)} (hk : k < 32)
    (hq : ∀ b ∈ q0 ++ q1 ++ q2 ++ q3, b.1 < 8) (hon : enabled s (.keep k) = true)
    (hfinds : patrolFinds s k (fld s (.keep k) 0x40 32 25) (quarterFinds q0 q1 q2 q3) = l) :
    Does (.patrolScrub k q0 q1 q2 q3) s (nextPatrol (l.foldl (patrolFind k) s) k) := by
  show execPatrolScrub k q0 q1 q2 q3 s = _
  unfold execPatrolScrub
  rw [if_neg (quarters_wf hk hq), if_neg (by simp [hon]), ← hfinds]

/-- A pass over a granule without errors moves the patrol alone. -/
theorem patrolScrub_clean {s : State} {k : Nat} (hk : k < 32) (hon : enabled s (.keep k) = true)
    (hgood : ∀ b < 32, blockKey k (fld s (.keep k) 0x40 32 25) b ∉ s.tier.badBlocks) :
    Does (.patrolScrub k [] [] [] []) s (nextPatrol s k) :=
  patrolScrub_does (l := []) hk (by simp) hon (patrolFinds_clean hgood)

/-- The state once a corrected error is noted for its row and pass, before it is counted (R284). -/
def correctedNoted (s : State) (k block : Nat) : State :=
  { s with tier := { s.tier with corrected := s.tier.corrected ++
      [(k, rowKeyOf k block, now s, fld s (.keep k) 0x40 0 32)] } }

theorem patrolFind_corrected (s : State) (k block : Nat) :
    patrolFind k s (block, false) = keepError (correctedNoted s k block) k block false true :=
  if_neg Bool.false_ne_true

/-- The state once a block found uncorrectable is bad, before the error is counted (R282). -/
def blockMarked (s : State) (k block : Nat) : State :=
  { s with tier := { s.tier with badBlocks := asSet (s.tier.badBlocks ++ [k * 2 ^ 30 + block]) } }

theorem patrolFind_uncorrectable (s : State) (k block : Nat) :
    patrolFind k s (block, true) =
      latent (keepError (blockMarked s k block) k block true true) 0x05 (0x0400 + k) (k * 2 ^ 30 + block) :=
  if_pos rfl

/-- A corrected error met by the patrol is counted and noted, and the patrol goes on. -/
theorem nextPatrol_corrected (s : State) (k block : Nat) :
    let u := nextPatrol (patrolFind k s (block, false)) k
    Counted s u (.keep k) 0x20 1 ∧ FlagUp u (.keep k) 0x08 1 ∧ OnlyRegs (correctedNoted s k block) u := by
  rw [patrolFind_corrected]
  obtain ⟨hflag, hcount⟩ := keepError_corrected (correctedNoted s k block) k block true
  have hmove := regsBut_nextPatrol (keepError (correctedNoted s k block) k block false true) k
  exact ⟨hcount.regsBut hmove (by simp [regAddr]), hflag.regsBut hmove (by simp [regAddr]),
    (onlyRegs_keepError _ k block false true).trans (onlyRegs_nextPatrol _ k)⟩

/-- An uncorrectable error met by the patrol is counted in the Keep and, as a latent fault, in Belfry. -/
theorem nextPatrol_uncorrectable (s : State) (k block : Nat) :
    let u := nextPatrol (patrolFind k s (block, true)) k
    Counted s u (.keep k) 0x28 1 ∧ FlagUp u (.keep k) 0x08 2 ∧
    Counted s u .belfry 0x28 1 ∧ FlagUp u .belfry 0x00 2 := by
  rw [patrolFind_uncorrectable]
  obtain ⟨hkeep, hcount⟩ := keepError_uncorrectable (blockMarked s k block) k block true
  set t := keepError (blockMarked s k block) k block true true
  have hfault := regsBut_latent t 0x05 (0x0400 + k) (k * 2 ^ 30 + block)
  obtain ⟨hlatent, hfaults⟩ := latent_counted t 0x05 (0x0400 + k) (k * 2 ^ 30 + block)
  have hmove := regsBut_nextPatrol (latent t 0x05 (0x0400 + k) (k * 2 ^ 30 + block)) k
  have hbelfry {o : Nat} (ho : o < 0x10000) : regAddr .belfry o ∉ [regAddr (.keep k) 0x40] := by
    simpa using (keepReg_ne_belfryReg k ho).symm
  refine ⟨?_, ?_, ?_, ?_⟩
  · exact (hcount.regsBut hfault (keepReg_not_latent k _)).regsBut hmove (by simp [regAddr])
  · exact (hkeep.regsBut hfault (keepReg_not_latent k _)).regsBut hmove (by simp [regAddr])
  · have hsince := hfaults.since (regsBut_keepError (blockMarked s k block) k block true true)
      (by simp [keepErrorRegs, (keepReg_ne_belfryReg k _).symm])
    exact hsince.regsBut hmove (hbelfry (by decide))
  · exact hlatent.regsBut hmove (hbelfry (by decide))

/-- It marks its block, and leaves the memory, the requests, the pins and the device as they were. -/
theorem nextPatrol_uncorrectable_fields (s : State) (k block : Nat) :
    let u := nextPatrol (patrolFind k s (block, true)) k
    k * 2 ^ 30 + block ∈ u.tier.badBlocks ∧ u.tier.t1 = s.tier.t1 ∧
    u.dev = s.dev ∧ u.pins = s.pins ∧ u.reqs = s.reqs := by
  rw [patrolFind_uncorrectable]
  dsimp only
  rw [onlyRegs_nextPatrol, latent_fields, onlyRegs_keepError]
  exact ⟨mem_asSet_append _ _, rfl, rfl, rfl, rfl⟩

/-! ### ROW_REPAIR -/

theorem tgetD_tset_same {α : Type} (t : Table α) (k : Nat) (v d : α) : tgetD (tset t k v) k d = v := by
  rw [tgetD, tget_tset_same, Option.getD_some]

/-- Spare rows of a bank in use; 17 once a row of it has found none left. -/
def sparesOf (s : State) (k bank : Nat) : Nat := tgetD s.tier.sparesUsed (k * 512 + bank) 0

/-- The state once the corrected errors of a row are answered by a repair of it. -/
def rowAnswered (s : State) (k bank row : Nat) : State :=
  { s with tier := { s.tier with
      corrected := s.tier.corrected.filter (fun c => !(decide (c.1 = k) && decide (c.2.1 = rowKey bank row))) } }

/-- The state once a bank has used `n` spare rows. -/
def sparesSet (s : State) (k bank n : Nat) : State :=
  { s with tier := { s.tier with sparesUsed := tset s.tier.sparesUsed (k * 512 + bank) n } }

/-- A row's repair entered in the secure flash. -/
def repairStored (s : State) (k bank row : Nat) : State :=
  { s with nv := { s.nv with repairs := s.nv.repairs ++ [(k, bank, row)] } }

/-- The Keep's count of a field of KEEP_SPARES goes on, and an event is raised. -/
def repairCounted (s : State) (k lo n i : Nat) : State :=
  setFlag (setFld s (.keep k) 0x38 lo n (fld s (.keep k) 0x38 lo n + 1)) (.keep k) 0x08 i

/-- The state once a row has moved into a spare row of its bank, before the move is logged (R284). -/
def rowMoved (s : State) (k bank row : Nat) : State :=
  repairCounted (repairStored (sparesSet (rowAnswered s k bank row) k bank (sparesOf s k bank + 1)) k bank row) k 0 14 3

/-- The state once a row has found no spare row: the first such row of a bank is counted (R284). -/
def rowLeft (s : State) (k bank row : Nat) : State :=
  if sparesOf s k bank = 16 then repairCounted (sparesSet (rowAnswered s k bank row) k bank 17) k 28 10 4
  else setFlag (rowAnswered s k bank row) (.keep k) 0x08 4

theorem rowRepair_completes {s : State} {k bank : Nat} (row : Nat) (hk : k < 32) (hbank : bank < 512) :
    Completes (.rowRepair k bank row) s := by
  show ∃ t, execRowRepair k bank row s = .next t
  unfold execRowRepair
  rw [if_neg (by omega)]
  split
  · exact ⟨_, rfl⟩
  · dsimp only
    split
    · exact ⟨_, rfl⟩
    · exact ⟨_, rfl⟩

/-- A row that needs it moves while its bank has a spare row, and the move is logged. -/
theorem rowRepair_moves {s : State} {k bank row : Nat} (hk : k < 32) (hbank : bank < 512)
    (hdue : repairDue s k bank row = true) (hspare : sparesOf s k bank < 16) :
    Does (.rowRepair k bank row) s
      (logEntry (rowMoved s k bank row) 5 0 3 0xFF (0x0400 + k) 0xFFFF (bank * 2 ^ 32 + row)) := by
  show execRowRepair k bank row s = _
  unfold execRowRepair
  rw [if_neg (by omega), if_neg (by simp [hdue])]
  exact if_pos hspare

/-- With none left it stays where it is. -/
theorem rowRepair_leaves {s : State} {k bank row : Nat} (hk : k < 32) (hbank : bank < 512)
    (hdue : repairDue s k bank row = true) (hspare : 16 ≤ sparesOf s k bank) :
    Does (.rowRepair k bank row) s (rowLeft s k bank row) := by
  show execRowRepair k bank row s = _
  unfold execRowRepair
  rw [if_neg (by omega), if_neg (by simp [hdue])]
  refine (if_neg (Nat.not_lt.mpr hspare)).trans ?_
  unfold rowLeft
  by_cases hfirst : sparesOf s k bank = 16
  · rw [if_pos hfirst]
    unfold sparesOf at hfirst
    simp only [hfirst, if_true]
    rfl
  · rw [if_neg hfirst]
    unfold sparesOf at hfirst
    simp only [hfirst, if_false]
    rfl

/-- A repair leaves the blocks known to be bad, the memory, the requests and the device as they were. -/
def RepairKeeps (s u : State) : Prop :=
  u.tier.badBlocks = s.tier.badBlocks ∧ u.tier.t1 = s.tier.t1 ∧ u.reqs = s.reqs ∧ u.dev = s.dev

theorem onlyRegs_repairCounted (s : State) (k lo n i : Nat) : OnlyRegs s (repairCounted s k lo n i) :=
  (onlyRegs_setFld s _ _ _ _ _).trans (onlyRegs_setFlag _ _ _ i)

/-- A row moved is flagged, takes a spare row of its bank, and is entered in the secure flash. -/
theorem rowMoved_facts (s : State) (k bank row : Nat) :
    FlagUp (rowMoved s k bank row) (.keep k) 0x08 3 ∧
    sparesOf (rowMoved s k bank row) k bank = sparesOf s k bank + 1 ∧
    (rowMoved s k bank row).nv.repairs = s.nv.repairs ++ [(k, bank, row)] ∧ RepairKeeps s (rowMoved s k bank row) := by
  refine ⟨flagUp_setFlag _ _ _ _ (by decide), ?_⟩
  unfold rowMoved
  rw [onlyRegs_repairCounted]
  exact ⟨tgetD_tset_same s.tier.sparesUsed _ _ 0, rfl, rfl, rfl, rfl, rfl⟩

/-- A row left where it is raises SPARES_EXHAUSTED, and the secure flash stands. -/
theorem rowLeft_facts (s : State) (k bank row : Nat) :
    FlagUp (rowLeft s k bank row) (.keep k) 0x08 4 ∧ (rowLeft s k bank row).nv = s.nv ∧
    RepairKeeps s (rowLeft s k bank row) := by
  unfold rowLeft
  split
  · refine ⟨flagUp_setFlag _ _ _ _ (by decide), ?_⟩
    rw [onlyRegs_repairCounted]
    exact ⟨rfl, rfl, rfl, rfl, rfl⟩
  · exact ⟨flagUp_setFlag _ _ _ _ (by decide), rfl, rfl, rfl, rfl, rfl⟩

/-- The entry of a repair changes nothing but the logs. -/
theorem loggedBut_repair (s : State) (k detail : Nat) : LoggedBut [] s (logEntry s 5 0 3 0xFF (0x0400 + k) 0xFFFF detail) :=
  loggedBut_of_class s 0 3 0xFF (0x0400 + k) 0xFFFF detail (cls := 5) (by decide)

/-- The entry that logs a move takes nothing of it back. -/
theorem rowMoved_logged {s u : State} {k bank row : Nat} (h : LoggedBut [] (rowMoved s k bank row) u) :
    FlagUp u (.keep k) 0x08 3 ∧ sparesOf u k bank = sparesOf s k bank + 1 ∧
    u.nv.repairs = s.nv.repairs ++ [(k, bank, row)] ∧ RepairKeeps s u := by
  obtain ⟨hflag, hfields⟩ := rowMoved_facts s k bank row
  obtain ⟨-, hregs, hrest⟩ := h
  refine ⟨hflag.regsBut hregs (by simp [keepReg_ne_belfryReg]), ?_⟩
  rw [hrest]
  exact hfields

/-! ### The obligation -/

/-- No block of a granule is bad while none has its key's quotient. -/
theorem granule_good {s : State} {k g : Nat} (h : ∀ b ∈ s.tier.badBlocks, b / 32 ≠ k * 2 ^ 25 + g) :
    ∀ b < 32, blockKey k g b ∉ s.tier.badBlocks := fun _ hlt hmem => h _ hmem (blockKey_div k g hlt)

theorem patrolAndRepair : Claims.PatrolAndRepair := by
  refine ⟨fun s k bank row hk hbank => rowRepair_completes row hk hbank,
    fun s k q0 q1 q2 q3 hk hq => patrolScrub_completes hk hq, fun s k hk hon hgood => ?_,
    fun s k block q0 q1 q2 q3 hk hblock hon hq hquarter hgood => ?_,
    fun s k block q0 q1 q2 q3 hk hblock hon hq hquarter hbad => ?_, fun s k bank row hk hbank hdue => ?_⟩
  · exact ⟨nextPatrol s k, patrolScrub_clean hk hon (granule_good hgood), onlyRegs_nextPatrol s k, regsBut_nextPatrol s k,
      fld_nextPatrol_within, fld_nextPatrol_last⟩
  · have hfinds := patrolFinds_single (ue := false) hblock (fun b hlt _ => granule_good hgood b hlt)
      fun _ => granule_good hgood block hblock
    rw [← hquarter] at hfinds
    obtain ⟨hcount, hflag, hrest⟩ := nextPatrol_corrected s k (fld s (.keep k) 0x40 32 25 * 32 + block)
    exact ⟨_, patrolScrub_does hk hq hon hfinds, hcount, hflag, hrest⟩
  · have hother (b : Nat) (hlt : b < 32) (hne : b ≠ block) :
        blockKey k (fld s (.keep k) 0x40 32 25) b ∉ s.tier.badBlocks := by
      intro hmem
      have hkey : blockKey k _ b = blockKey k _ block := hbad _ hmem (blockKey_div k _ hlt)
      unfold blockKey at hkey
      omega
    have hfinds := patrolFinds_single (ue := true) hblock hother (fun h => absurd h (by decide))
    rw [← hquarter] at hfinds
    obtain ⟨hcount, hflag, hlatent, hfault⟩ := nextPatrol_uncorrectable s k (fld s (.keep k) 0x40 32 25 * 32 + block)
    obtain ⟨hmem, hkept⟩ := nextPatrol_uncorrectable_fields s k (fld s (.keep k) 0x40 32 25 * 32 + block)
    rw [← Nat.add_assoc] at hmem
    exact ⟨_, patrolScrub_does hk hq hon hfinds, hcount, hflag, hlatent, hfault, hmem, hkept⟩
  · rcases Nat.lt_or_ge (sparesOf s k bank) 16 with hspare | hspare
    · obtain ⟨hflag, hspares, hrepairs, hkeeps⟩ := rowMoved_logged (loggedBut_repair (rowMoved s k bank row) k _)
      exact ⟨_, rowRepair_moves hk hbank hdue hspare, fun _ => ⟨hflag, hspares, hrepairs⟩,
        fun h => absurd hspare (Nat.not_lt.mpr h), hkeeps⟩
    · obtain ⟨hflag, hnv, hkeeps⟩ := rowLeft_facts s k bank row
      exact ⟨_, rowRepair_leaves hk hbank hdue hspare, fun h => absurd h (Nat.not_lt.mpr hspare),
        fun _ => ⟨hflag, hnv⟩, hkeeps⟩

/-- Settles O31: a window serves from capacities that add up to the three shares; the patrol's finds are folded into the
state one by one and its place moves on; a repair takes a spare row or finds none. -/
theorem keepEvents : Obligations.KeepEvents := ⟨arbitrationWindowServes, patrolAndRepair⟩

end Sys2Proof.Machine
end

section
namespace Sys2Proof.Machine

/-! ### Completion records of storage commands -/

/-- Session `n` is open and has queue `q`: what is sent on that queue leaves. -/
def QueueOpen (s : State) (n q : Nat) : Prop := ∃ x, sessAt s n = some x ∧ (tget x.queues q).isSome = true

theorem QueueOpen.kept {s t : State} {n q : Nat} (h : QueueOpen s n q) (k : KeepsQueues s t) : QueueOpen t n q := by
  obtain ⟨x, hx, hq⟩ := h
  obtain ⟨y, hy, -, hyq⟩ := k n x hx
  exact ⟨y, hy, hyq q hq⟩

theorem QueueOpen.of_port {s t : State} {n q : Nat} (h : QueueOpen s n q) (ht : t.port = s.port) : QueueOpen t n q := by
  unfold QueueOpen sessAt at *
  rwa [ht]

theorem now_of_frame {s t : State} (h : t.frame = s.frame) : now t = now s := congrArg FrameTimer.count h

/-- Handing out reads no flash: with the flash replaced on both sides, the same was handed out. -/
theorem Handed.reflash {s u : State} (h : Handed s u) (f : Flash) : Handed { s with flash := f } { u with flash := f } := by
  obtain ⟨hout, hregs, hrest⟩ := h
  refine ⟨hout, hregs, ?_⟩
  rw [hrest]

theorem handed_storReply (s : State) (n q tag st nsid r i : Nat) (data : List Byte) :
    Handed s (storReply s n q tag st nsid r i data) := handed_sendMsg ..

theorem storSent_storReply {s : State} {n q : Nat} (h : QueueOpen s n q) (tag st nsid r i : Nat) (data : List Byte) :
    StorSent (storReply s n q tag st nsid r i data) n q tag (now s) st nsid r i data := by
  obtain ⟨x, hx, hq⟩ := h
  exact msg_mem_sendMsg 0x89 0 _ hx hq

/-- What storage commands that complete leave (R313): the commands that stay keep their order, records were handed out on
queues that stay, and nothing else happened. -/
structure Shed (s u : State) : Prop where
  cmds : u.flash.cmds.Sublist s.flash.cmds
  handed : Handed { s with flash := { s.flash with cmds := u.flash.cmds } } u
  queues : KeepsQueues s u

namespace Shed

theorem refl (s : State) : Shed s s := ⟨.refl _, .refl s, .refl s⟩

theorem flash {s u : State} (h : Shed s u) : u.flash = { s.flash with cmds := u.flash.cmds } := h.handed.flash

theorem trans {s t u : State} (h : Shed s t) (k : Shed t u) : Shed s u := by
  refine ⟨k.cmds.trans h.cmds, ?_, h.queues.trans k.queues⟩
  have hfirst := h.handed.reflash { s.flash with cmds := u.flash.cmds }
  have hsecond := k.handed
  rw [h.flash] at hsecond
  exact hfirst.trans hsecond

theorem foldl {α : Type} (f : State → α → State) (h : ∀ s x, Shed s (f s x)) (l : List α) (s : State) :
    Shed s (l.foldl f s) :=
  List.foldlRecOn (motive := Shed s) _ _ (refl s) fun _ hu x _ => hu.trans (h _ x)

theorem mem {s u : State} (h : Shed s u) : ∀ d ∈ u.flash.cmds, d ∈ s.flash.cmds := fun _ hd => h.cmds.subset hd

theorem storSent {s u : State} (h : Shed s u) {n q tag f st nsid r i : Nat} {data : List Byte}
    (hs : StorSent s n q tag f st nsid r i data) : StorSent u n q tag f st nsid r i data :=
  h.handed.mem_out (s := { s with flash := { s.flash with cmds := u.flash.cmds } }) hs

end Shed

theorem shed_storReply (s : State) (n q tag st nsid r i : Nat) (data : List Byte) :
    Shed s (storReply s n q tag st nsid r i data) := by
  have h := handed_storReply s n q tag st nsid r i data
  refine ⟨by rw [h.flash], ?_, keepsQueues_sendMsg s _ _ _ _ _⟩
  rw [h.flash]
  exact h

/-- The state without the command of place `seq` in submission order. -/
def withoutCmd (s : State) (seq : Nat) : State :=
  { s with flash := { s.flash with cmds := s.flash.cmds.filter (fun d => decide (d.seq ≠ seq)) } }

theorem shed_withoutCmd (s : State) (seq : Nat) : Shed s (withoutCmd s seq) := ⟨List.filter_sublist, .refl _, .refl s⟩

theorem not_mem_withoutCmd (s : State) (seq : Nat) : ∀ d ∈ (withoutCmd s seq).flash.cmds, d.seq ≠ seq := by
  intro d hd
  simpa using (List.mem_filter.mp hd).2

theorem shed_settleFlush (s : State) (q : Nat) : Shed s (settleFlush s q) :=
  Shed.foldl _ (fun s (c : Outstanding) => (shed_withoutCmd s c.seq).trans (shed_storReply _ _ _ _ _ _ _ _ _)) _ s

/-- The state once a command has left and its record is on its way, before the FLUSH commands behind it settle (R313). -/
def answered (s : State) (c : Outstanding) (st nsid r i : Nat) (data : List Byte) : State :=
  storReply (withoutCmd s c.seq) c.session c.cmd.queue c.cmd.tag st nsid r i data

theorem storDone_eq (s : State) (c : Outstanding) (st nsid r i : Nat) (data : List Byte) :
    storDone s c st nsid r i data = settleFlush (answered s c st nsid r i data) c.cmd.queue := rfl

theorem shed_answered (s : State) (c : Outstanding) (st nsid r i : Nat) (data : List Byte) :
    Shed (withoutCmd s c.seq) (answered s c st nsid r i data) := shed_storReply ..

theorem shed_withoutCmd_storDone (s : State) (c : Outstanding) (st nsid r i : Nat) (data : List Byte) :
    Shed (withoutCmd s c.seq) (storDone s c st nsid r i data) :=
  (shed_answered s c st nsid r i data).trans (shed_settleFlush _ _)

theorem shed_storDone (s : State) (c : Outstanding) (st nsid r i : Nat) (data : List Byte) :
    Shed s (storDone s c st nsid r i data) :=
  (shed_withoutCmd s c.seq).trans (shed_withoutCmd_storDone s c st nsid r i data)

/-- A command that completed is not outstanding any more. -/
theorem not_mem_storDone (s : State) (c : Outstanding) (st nsid r i : Nat) (data : List Byte) :
    ∀ d ∈ (storDone s c st nsid r i data).flash.cmds, d.seq ≠ c.seq := fun d hd =>
  not_mem_withoutCmd s c.seq d ((shed_withoutCmd_storDone s c st nsid r i data).mem d hd)

theorem storSent_answered {s : State} {c : Outstanding} (h : QueueOpen s c.session c.cmd.queue) (st nsid r i : Nat)
    (data : List Byte) : StorSent (answered s c st nsid r i data) c.session c.cmd.queue c.cmd.tag (now s) st nsid r i data :=
  storSent_storReply (s := withoutCmd s c.seq) h c.cmd.tag st nsid r i data

/-- A command that completes is answered on its queue (R313). -/
theorem storSent_storDone {s : State} {c : Outstanding} (h : QueueOpen s c.session c.cmd.queue) (st nsid r i : Nat)
    (data : List Byte) : StorSent (storDone s c st nsid r i data) c.session c.cmd.queue c.cmd.tag (now s) st nsid r i data :=
  (shed_settleFlush _ _).storSent (storSent_answered h st nsid r i data)

/-! ### Commands that wait to start -/

theorem waitingCmds_of_noneWaiting {s : State} (h : NoneWaiting s) : waitingCmds s = [] := by
  refine List.filter_eq_nil_iff.mpr fun c hc => ?_
  rcases h c hc with hs | hop
  · simp [hs]
  · simp [hop]

/-- With no command waiting, none starts. -/
theorem pumpFlash_of_noneWaiting {s : State} (h : NoneWaiting s) : pumpFlash s = s := by
  rw [pumpFlash, waitingCmds_of_noneWaiting h, pumpList]

theorem noneWaiting_of_subset {s u : State} (h : NoneWaiting s) (hu : ∀ d ∈ u.flash.cmds, d ∈ s.flash.cmds) : NoneWaiting u :=
  fun d hd => h d (hu d hd)

theorem noneWaiting_of_cmds {s u : State} (h : NoneWaiting s) (hu : u.flash.cmds = s.flash.cmds) : NoneWaiting u :=
  noneWaiting_of_subset h fun _ hd => hu ▸ hd

/-- The next place in submission order is behind every outstanding command. -/
theorem seq_lt_freshSeq (s : State) : ∀ d ∈ s.flash.cmds, d.seq < freshSeq s := by
  have hfold : ∀ (l : List Outstanding) (k : Nat), k ≤ l.foldl (fun m d => max m (d.seq + 1)) k ∧
      ∀ d ∈ l, d.seq < l.foldl (fun m d => max m (d.seq + 1)) k := by
    intro l
    induction l with
    | nil => simp
    | cons c l ih =>
      intro k
      obtain ⟨hk, hl⟩ := ih (max k (c.seq + 1))
      rw [List.foldl_cons]
      refine ⟨by omega, fun d hd => ?_⟩
      rcases List.mem_cons.mp hd with rfl | hd
      · omega
      · exact hl d hd
  exact (hfold _ _).2

/-- The command that joins the outstanding ones of `s`. -/
def newCmd (s : State) (n : Nat) (c : StorCmd) (op : Nat) (left : List (Nat × Option (List Byte))) : Outstanding :=
  (enqueue s n c op left).2

/-- The state that it has joined. -/
def joined (s : State) (n : Nat) (c : StorCmd) (op : Nat) (left : List (Nat × Option (List Byte))) : State :=
  (enqueue s n c op left).1

section
variable (s : State) (n : Nat) (c : StorCmd) (op : Nat) (left : List (Nat × Option (List Byte)))

theorem cmds_joined : (joined s n c op left).flash.cmds = s.flash.cmds ++ [newCmd s n c op left] := rfl

theorem mem_joined : newCmd s n c op left ∈ (joined s n c op left).flash.cmds := by simp [cmds_joined]

theorem seq_newCmd : (newCmd s n c op left).seq = freshSeq s := rfl

/-- The commands there before are all that stay once the new one has left. -/
theorem mem_withoutCmd_joined : ∀ d ∈ (withoutCmd (joined s n c op left) (newCmd s n c op left).seq).flash.cmds,
    d ∈ s.flash.cmds := by
  intro d hd
  obtain ⟨hmem, hseq⟩ := List.mem_filter.mp hd
  rcases List.mem_append.mp hmem with h | h
  · exact h
  · exact absurd (congrArg Outstanding.seq (List.mem_singleton.mp h)) (of_decide_eq_true hseq)

theorem find_newCmd : (joined s n c op left).flash.cmds.find? (fun d => decide (d.seq = (newCmd s n c op left).seq)) =
    some (newCmd s n c op left) := by
  have hold : s.flash.cmds.find? (fun d => decide (d.seq = (newCmd s n c op left).seq)) = none := by
    refine List.find?_eq_none.mpr fun d hd => ?_
    have := seq_lt_freshSeq s d hd
    rw [seq_newCmd]
    simp only [decide_eq_true_eq]
    omega
  rw [cmds_joined, List.find?_append, hold]
  simp

end

/-- A command that joins where none waits, and whose modules are ready, starts at once (R298, R312). -/
theorem pumpFlash_joined {s : State} (hw : NoneWaiting s) {op : Nat} (hop : op ≠ 4) (n : Nat) (c : StorCmd)
    (left : List (Nat × Option (List Byte))) (hp : portsReady s (cmdPorts s (newCmd s n c op left)) = true) :
    pumpFlash (joined s n c op left) = startCmd (joined s n c op left) (newCmd s n c op left) := by
  have hwaits : waitingCmds (joined s n c op left) = [newCmd s n c op left] := by
    have hold : s.flash.cmds.filter (fun c => !c.started && decide (c.op ≠ 0x04)) = [] := waitingCmds_of_noneWaiting hw
    rw [waitingCmds, cmds_joined, List.filter_append, hold]
    have : (newCmd s n c op left).op = op := rfl
    have : (newCmd s n c op left).started = false := rfl
    simp [*]
  have hready : portsReady (joined s n c op left) (cmdPorts (joined s n c op left) (newCmd s n c op left)) = true := hp
  rw [pumpFlash, hwaits, pumpList, find_newCmd]
  simp only [hready, if_true]
  rfl

/-! ### The common checks of a storage command -/

/-- The state with another session table. -/
def withSessions (s : State) (m : Table Session) : State := { s with port := { s.port with sessions := m } }

theorem handed_withSessions (s : State) (m : Table Session) : Handed s (withSessions s m) :=
  ⟨⟨[], by simp [withSessions]⟩, regsBut_refl _ _, rfl⟩

theorem storage_completes (s : State) (c : StorCmd) (op : Nat) (f : Bool) (run : State → Nat → State) :
    ∃ t, storage s c op f run = .next t := by
  unfold storage
  dsimp only
  repeat' split
  all_goals exact ⟨_, rfl⟩

/-- A command that meets none of the common refusals runs, its session having counted it (R310 to R313, R333). -/
theorem storage_runs {s : State} {c : StorCmd} {op n : Nat} {x : Session} (h : StorReady s c op n x) :
    ∃ m, QueueOpen (withSessions s m) n c.queue ∧ ∀ (f : Bool) (run : State → Nat → State), f = true →
      storage s c op f run = .next (run (withSessions s m) n) := by
  obtain ⟨howner, hx, hq, hroom, hzero, htag, hrefuse⟩ := h
  obtain ⟨y, hy⟩ := Option.isSome_iff_exists.mp hq
  let z : Session := { x with queues := tset x.queues c.queue { y with cmds := y.cmds + 1 } }
  have htag' : cmdAt (setSess s n z) c.queue c.tag = none := htag
  have hrefuse' : queueRefusal (setSess s n z) c.queue op = none := hrefuse
  refine ⟨tset s.port.sessions n z, ⟨z, sessAt_setSess_same s n z, by simp [z]⟩, fun f run hf => ?_⟩
  change storage s c op f run = .next (run (setSess s n z) n)
  simp only [z] at htag' hrefuse' ⊢
  simp [storage, howner, hroom.not_ge, hx, hy, hzero, hf, htag', hrefuse']

/-- A command on a namespace that serves it runs (R307, R308, R312). -/
theorem onNamespace_runs {s : State} {c : StorCmd} {writes : Bool} {upto : Nat} {y : Namespace} (h : NsServes s c writes upto y)
    (n : Nat) (run : State → State) : onNamespace s n c writes upto run = run s := by
  obtain ⟨-, hy, hr, hp, hsize⟩ := h
  simp [onNamespace, hy, hr, hp, hsize.not_gt]

end Sys2Proof.Machine
end

section
namespace Sys2Proof.Machine

/-! ### Flash memory and modules under writes -/

theorem memByte_memZero (m : Table Byte) (a n i : Nat) :
    memByte (memZero m a n) i = if a ≤ i ∧ i < a + n then 0 else memByte m i := by
  unfold memByte memZero tgetD
  rw [tget_filter_key m (fun k => decide (k < a ∨ a + n ≤ k)) i]
  by_cases h : a ≤ i ∧ i < a + n
  · rw [if_neg (by simp; omega), if_pos h]
    rfl
  · rw [if_pos (by simp; omega), if_neg h]

@[simp] theorem modAt_setMod_same (s : State) (m : Nat) (x : Module) : modAt (setMod s m x) m = some x := tget_tset_same ..

theorem modAt_setMod_ne (s : State) {m i : Nat} (x : Module) (h : i ≠ m) : modAt (setMod s m x) i = modAt s i :=
  tget_tset_ne _ _ _ _ h

@[simp] theorem nsAt_setNs_same (s : State) (n : Nat) (y : Namespace) : nsAt (setNs s n y) n = some y := tget_tset_same ..

theorem nsAt_setNs_ne (s : State) {n i : Nat} (y : Namespace) (h : i ≠ n) : nsAt (setNs s n y) i = nsAt s i :=
  tget_tset_ne _ _ _ _ h

theorem mapped_eq (s : State) (m ns g : Nat) : mapped s m ns g = (modAt s m).bind fun x => tget x.map (gkey ns g) := by
  unfold mapped
  cases modAt s m <;> rfl

/-- A module but for its journal. -/
def unlogged (x : Module) : Module := { x with journal := [] }

/-- Journal records were written on modules, and nothing else happened (R304). -/
structure Journalled (s u : State) : Prop where
  fields : u = { s with flash := { s.flash with modules := u.flash.modules } }
  mods : ∀ m, (modAt u m).map unlogged = (modAt s m).map unlogged

namespace Journalled

theorem refl (s : State) : Journalled s s := ⟨rfl, fun _ => rfl⟩

theorem trans {s t u : State} (h : Journalled s t) (k : Journalled t u) : Journalled s u := by
  refine ⟨?_, fun m => (k.mods m).trans (h.mods m)⟩
  rw [k.fields, h.fields]

theorem foldl {α : Type} (f : State → α → State) (h : ∀ s x, Journalled s (f s x)) (l : List α) (s : State) :
    Journalled s (l.foldl f s) :=
  List.foldlRecOn (motive := Journalled s) _ _ (refl s) fun _ hu x _ => hu.trans (h _ x)

/-- A part of a module that is not its journal is as before. -/
theorem part {s u : State} (h : Journalled s u) {β : Type} (f : Module → β) (hf : ∀ x, f (unlogged x) = f x) (m : Nat) :
    (modAt u m).map f = (modAt s m).map f := by
  have hcomp : f = f ∘ unlogged := funext fun x => (hf x).symm
  rw [hcomp, ← Option.map_map, ← Option.map_map, h.mods m]

theorem mapped {s u : State} (h : Journalled s u) (m ns g : Nat) : Machine.mapped u m ns g = Machine.mapped s m ns g := by
  have hmap := h.part (fun x => tget x.map (gkey ns g)) (fun _ => rfl) m
  rw [mapped_eq, mapped_eq]
  simpa only [Option.join, Option.bind_map, Function.comp_def, id] using congrArg Option.join hmap

theorem onlyFlash {s u : State} (h : Journalled s u) : u = { s with flash := u.flash } := h.fields.trans (by rw [h.fields])

end Journalled

theorem journalled_setMod {s : State} {m : Nat} {x : Module} (hx : modAt s m = some x) (kind : JournalKind)
    (nsid a b c : Nat) : Journalled s (setMod s m (journal x kind nsid a b c)) := by
  refine ⟨rfl, fun i => ?_⟩
  by_cases hi : i = m
  · rw [hi, modAt_setMod_same, hx]
    rfl
  · rw [modAt_setMod_ne _ _ hi]

theorem journalled_journalAll (s : State) (ports : List Nat) (kind : JournalKind) (nsid : Nat) :
    Journalled s (journalAll s ports kind nsid) := by
  refine Journalled.foldl _ (fun s m => ?_) ports s
  split
  · next x hx => exact journalled_setMod hx ..
  · exact .refl s

/-! ### What a flash command leaves alone -/

/-- FLASH and the registers listed changed, messages were handed out, and nothing else happened. -/
def FlashBut (l : List Nat) (s u : State) : Prop := HandedBut l { s with flash := u.flash } u

namespace FlashBut

theorem refl (l : List Nat) (s : State) : FlashBut l s s := HandedBut.refl l s

theorem trans {l : List Nat} {s t u : State} (h : FlashBut l s t) (k : FlashBut l t u) : FlashBut l s u := by
  obtain ⟨hout, hregs, hrest⟩ := h
  have hfirst : HandedBut l { s with flash := u.flash } { t with flash := u.flash } := by
    refine ⟨hout, hregs, ?_⟩
    rw [hrest]
  exact hfirst.trans k

theorem of_handedBut {l : List Nat} {s u : State} (h : HandedBut l s u) : FlashBut l s u := by
  have hf : u.flash = s.flash := by rw [h.fields]
  unfold FlashBut
  rw [hf]
  exact h

theorem of_handed {s u : State} (h : Handed s u) (l : List Nat) : FlashBut l s u := of_handedBut (h.handedBut l)

theorem of_flash {s u : State} (h : u = { s with flash := u.flash }) (l : List Nat) : FlashBut l s u := by
  unfold FlashBut
  rw [← h]
  exact HandedBut.refl l u

theorem of_journalled {s u : State} (h : Journalled s u) (l : List Nat) : FlashBut l s u :=
  of_flash h.onlyFlash l

theorem of_shed {s u : State} (h : Shed s u) (l : List Nat) : FlashBut l s u := by
  have hhanded := h.handed
  rw [← h.flash] at hhanded
  exact hhanded.handedBut l

theorem handed {s u : State} (h : FlashBut [] s u) : Handed { s with flash := u.flash } u := h

theorem foldl {α : Type} {l : List Nat} (f : State → α → State) (h : ∀ s x, FlashBut l s (f s x)) (xs : List α) (s : State) :
    FlashBut l s (xs.foldl f s) :=
  List.foldlRecOn (motive := FlashBut l s) _ _ (refl l s) fun _ hu x _ => hu.trans (h _ x)

theorem now {l : List Nat} {s u : State} (h : FlashBut l s u) : Machine.now u = Machine.now s := by
  rw [show u = _ from h.fields]
  rfl

end FlashBut

/-! ### Storage commands that start -/

/-- A command marked as started, last in the order of starts (R298). -/
def startedCmd (s : State) (c : Outstanding) : State :=
  setCmd { s with flash := { s.flash with nextOrder := s.flash.nextOrder + 1 } }
    { c with started := true, order := s.flash.nextOrder }

theorem mem_startedCmd {s : State} {c : Outstanding} (h : c ∈ s.flash.cmds) :
    { c with started := true, order := s.flash.nextOrder } ∈ (startedCmd s c).flash.cmds :=
  List.mem_map.mpr ⟨c, h, if_pos rfl⟩

section
variable {s : State} {c : Outstanding} {y : Namespace}

theorem startCmd_read (hop : c.op = 0x01) (hr : nsRefusal s c.cmd.nsid false = none) (hy : nsAt s c.cmd.nsid = some y) :
    startCmd s c = if mediaGranules s c.cmd = [] then
        storDone s c 0 c.cmd.nsid c.cmd.length 0 (memRead s.flash.data (c.cmd.nsid * 2 ^ 58 + c.cmd.offset) c.cmd.length)
      else startedCmd s c := by
  simp [startCmd, hop, hr, hy, startedCmd]

theorem startCmd_write (hop : c.op = 0x02) (hr : nsRefusal s c.cmd.nsid true = none) (hy : nsAt s c.cmd.nsid = some y)
    (hleft : c.left ≠ []) :
    startCmd s c = if c.left.all (fun l => bufferRoom s c.cmd.nsid y l.1) then startedCmd s c
      else setFlag (startedCmd s c) .flash 0x08 6 := by
  obtain ⟨e, op, started, left, n, seq, order, ns⟩ := c
  subst hop
  dsimp only at hr hy hleft
  simp [startCmd, hr, hy, hleft]
  rfl

/-- The state a TRIM leaves before it is answered: its granules superseded in earlier WRITEs, unmapped, and journalled. -/
def trimmed (s : State) (c : Outstanding) (y : Namespace) : State :=
  let g := c.cmd.offset / granuleBytes
  let started := { s with flash := { s.flash with nextOrder := s.flash.nextOrder + 1 } }
  let behind := supersede started s.flash.nextOrder c.cmd.nsid fun h => decide (g ≤ h) && decide (h < g + c.cmd.arg0)
  let unmapped := unmapRange behind c.cmd.nsid g c.cmd.arg0
  journalAll unmapped (nsPorts unmapped y) .trim c.cmd.nsid

theorem startCmd_trim (hop : c.op = 0x03) (hr : nsRefusal s c.cmd.nsid true = none) (hy : nsAt s c.cmd.nsid = some y) :
    startCmd s c = storDone (trimmed s c y) c 0 c.cmd.nsid c.cmd.arg0 0 [] := by
  simp [startCmd, hop, hr, hy, trimmed]

end

end Sys2Proof.Machine
end

section
namespace Sys2Proof.Machine

/-! ### READ -/

theorem flashBut_withSessions (s : State) (m : Table Session) (l : List Nat) : FlashBut l s (withSessions s m) :=
  .of_handed (handed_withSessions s m) l

theorem flashBut_joined (s : State) (n : Nat) (c : StorCmd) (op : Nat) (left : List (Nat × Option (List Byte))) (l : List Nat) :
    FlashBut l s (joined s n c op left) := .of_flash rfl l

theorem mediaGranules_eq {s : State} {c : StorCmd} {y : Namespace} (hy : nsAt s c.nsid = some y) :
    mediaGranules s c = (granulesOf c.offset c.length).filter (gMapped s c.nsid y) := by
  simp [mediaGranules, hy]

/-- The modules that a READ on a namespace that serves it needs are those of its mapped granules. -/
theorem cmdPorts_read {s : State} {o : Outstanding} {y : Namespace} (hop : o.op = 0x01)
    (hr : nsRefusal s o.cmd.nsid false = none) (hy : nsAt s o.cmd.nsid = some y) :
    cmdPorts s o = asSet ((mediaGranules s o.cmd).filterMap fun g => (placeOf s y g).map (·.1)) := by
  simp [cmdPorts, hop, hr, hy]

/-- The modules that a WRITE on a namespace that serves it needs are those of the granules it has left. -/
theorem cmdPorts_write {s : State} {o : Outstanding} {y : Namespace} (hop : o.op = 0x02)
    (hr : nsRefusal s o.cmd.nsid true = none) (hy : nsAt s o.cmd.nsid = some y) :
    cmdPorts s o = asSet ((o.left.map (·.1)).filterMap fun g => (placeOf s y g).map (·.1)) := by
  simp [cmdPorts, hop, hr, hy]

/-- A TRIM and an NS_DELETE need every module of the namespace's set. -/
theorem cmdPorts_trim {s : State} {o : Outstanding} {y : Namespace} (hop : o.op = 0x03)
    (hr : nsRefusal s o.cmd.nsid true = none) (hy : nsAt s o.cmd.nsid = some y) : cmdPorts s o = nsPorts s y := by
  simp [cmdPorts, hop, hr, hy]

/-- A READ in a namespace that serves it joins the commands outstanding. -/
theorem read_joins {s : State} {c : StorCmd} {n : Nat} {x : Session} {y : Namespace} (h : StorReady s c 0x01 n x)
    (hy : NsServes s c false (c.offset + c.length) y) (hmin : 1 ≤ c.length) (hmax : c.length ≤ 1048576) :
    ∃ m, QueueOpen (withSessions s m) n c.queue ∧
      Does (.read c) s (pumpFlash (joined (withSessions s m) n c 0x01 [])) := by
  obtain ⟨m, hopen, hrun⟩ := storage_runs h
  refine ⟨m, hopen, ?_⟩
  show execRead c s = _
  refine (hrun _ _ (by simp [hy.1, hmin, hmax])).trans (congrArg _ ?_)
  exact onNamespace_runs (s := withSessions s m) hy n _

theorem read_does (s : State) (c : StorCmd) (n : Nat) (x : Session) (y : Namespace) (h : StorReady s c 0x01 n x)
    (hw : NoneWaiting s) (hy : NsServes s c false (c.offset + c.length) y) (hmin : 1 ≤ c.length) (hmax : c.length ≤ 1048576) :
    ∃ u, Does (.read c) s u ∧
      (let need := (granulesOf c.offset c.length).filter (gMapped s c.nsid y)
       (need = [] → StorSent u n c.queue c.tag (now s) 0 c.nsid c.length 0
           (memRead s.flash.data (c.nsid * 2 ^ 58 + c.offset) c.length) ∧ (∀ d ∈ u.flash.cmds, d ∈ s.flash.cmds) ∧
         Handed { s with flash := { s.flash with cmds := u.flash.cmds, nextOrder := s.flash.nextOrder + 1 } } u) ∧
       (need ≠ [] → portsReady s (asSet (need.filterMap (fun g => (placeOf s y g).map (·.1)))) = true →
         (∃ d ∈ u.flash.cmds, d.cmd = c ∧ d.op = 0x01 ∧ d.started = true) ∧
         Handed { s with flash := { s.flash with cmds := u.flash.cmds, nextOrder := u.flash.nextOrder } } u ∧
         u.out = s.out)) := by
  obtain ⟨m, hopen, hdoes⟩ := read_joins h hy hmin hmax
  obtain ⟨-, hns, hserves, -, -⟩ := hy
  let t := withSessions s m
  let o := newCmd t n c 0x01 []
  have hmedia : mediaGranules s c = (granulesOf c.offset c.length).filter (gMapped s c.nsid y) := mediaGranules_eq hns
  have hports : cmdPorts t o = asSet ((mediaGranules s c).filterMap fun g => (placeOf s y g).map (·.1)) :=
    cmdPorts_read (s := t) rfl hserves hns
  have hstart : startCmd (joined t n c 0x01 []) o = if mediaGranules s c = [] then
      storDone (joined t n c 0x01 []) o 0 c.nsid c.length 0 (memRead s.flash.data (c.nsid * 2 ^ 58 + c.offset) c.length)
      else startedCmd (joined t n c 0x01 []) o := startCmd_read rfl hserves hns
  have hpump (hready : portsReady t (cmdPorts t o) = true) := pumpFlash_joined (s := t) hw (by decide) n c [] hready
  refine ⟨_, hdoes, ?_⟩
  rw [← hmedia]
  dsimp only
  refine ⟨fun hnone => ?_, fun hsome hready => ?_⟩
  · rw [hpump (by rw [hports, hnone]; rfl), hstart, if_pos hnone]
    have hshed := shed_withoutCmd_storDone (joined t n c 0x01 []) o 0 c.nsid c.length 0
      (memRead s.flash.data (c.nsid * 2 ^ 58 + c.offset) c.length)
    refine ⟨storSent_storDone (s := joined t n c 0x01 []) (c := o) hopen .., fun d hd =>
      mem_withoutCmd_joined t n c 0x01 [] d (hshed.mem d hd), ?_⟩
    exact ((handed_withSessions s m).reflash _).trans hshed.handed
  · rw [hpump (by rw [hports]; exact hready), hstart, if_neg hsome]
    refine ⟨⟨_, mem_startedCmd (mem_joined t n c 0x01 []), rfl, rfl, rfl⟩, ?_, rfl⟩
    exact (handed_withSessions s m).reflash _

/-! ### WRITE -/

theorem granulesOf_ne_nil {offset length : Nat} (h : 1 ≤ length) : granulesOf offset length ≠ [] := by
  unfold granulesOf
  rw [if_neg (by omega)]
  simp

/-- The granules of a WRITE with the bytes for each (R297). -/
def writeParts (c : StorCmd) (data : List Byte) : List (Nat × Option (List Byte)) :=
  (granulesOf c.offset c.length).map fun g => (g, some (sub data (16384 * g - c.offset) 16384))

theorem writeParts_granules (c : StorCmd) (data : List Byte) : (writeParts c data).map (·.1) = granulesOf c.offset c.length := by
  simp [writeParts, Function.comp_def]

/-- A WRITE in a namespace that serves it joins the commands outstanding. -/
theorem write_joins {s : State} {c : StorCmd} {data : List Byte} {n : Nat} {x : Session} {y : Namespace}
    (h : StorReady s c 0x02 n x) (hy : NsServes s c true (c.offset + c.length) y) (hdata : data.length = c.length)
    (hoff : c.offset % 16384 = 0) (hlen : c.length % 16384 = 0) (hmax : c.length ≤ 1048576) :
    ∃ m, Does (.write c data) s (pumpFlash (joined (withSessions s m) n c 0x02 (writeParts c data))) := by
  obtain ⟨m, -, hrun⟩ := storage_runs h
  refine ⟨m, ?_⟩
  show execWrite c data s = _
  unfold execWrite
  rw [if_neg (by simp [hdata])]
  refine (hrun _ _ (by simp [hy.1, hoff, hlen, hmax, granuleBytes])).trans (congrArg _ ?_)
  exact onNamespace_runs (s := withSessions s m) hy n _

theorem write_does (s : State) (c : StorCmd) (data : List Byte) (n : Nat) (x : Session) (y : Namespace)
    (h : StorReady s c 0x02 n x) (hw : NoneWaiting s) (hy : NsServes s c true (c.offset + c.length) y)
    (hdata : data.length = c.length) (hoff : c.offset % 16384 = 0) (hlen : c.length % 16384 = 0) (hmin : 1 ≤ c.length)
    (hmax : c.length ≤ 1048576)
    (hready : portsReady s (asSet ((granulesOf c.offset c.length).filterMap (fun g => (placeOf s y g).map (·.1)))) = true) :
    ∃ u, Does (.write c data) s u ∧ u.out = s.out ∧
      (∃ d ∈ u.flash.cmds, d.cmd = c ∧ d.op = 0x02 ∧ d.started = true ∧ d.left = (granulesOf c.offset c.length).map
        (fun g => (g, some (sub data (16384 * g - c.offset) 16384)))) ∧
      (let room := (granulesOf c.offset c.length).all (bufferRoom s c.nsid y)
       (room = true → u.regs = s.regs) ∧ (room = false → FlagUp u .flash 0x08 6)) ∧
      HandedBut [regAddr .flash 0x08] { s with flash := { s.flash with cmds := u.flash.cmds, nextOrder := u.flash.nextOrder } } u := by
  obtain ⟨m, hdoes⟩ := write_joins h hy hdata hoff hlen hmax
  obtain ⟨-, hns, hserves, -, -⟩ := hy
  let t := withSessions s m
  let o := newCmd t n c 0x02 (writeParts c data)
  let v := startedCmd (joined t n c 0x02 (writeParts c data)) o
  have hports : portsReady t (cmdPorts t o) = true := by
    rw [cmdPorts_write (s := t) (o := o) rfl hserves hns, show o.left = writeParts c data from rfl, writeParts_granules]
    exact hready
  have hroom : (writeParts c data).all (fun l => bufferRoom s c.nsid y l.1) =
      (granulesOf c.offset c.length).all (bufferRoom s c.nsid y) := by
    rw [← writeParts_granules c data, List.all_map]
    rfl
  have hstart : startCmd (joined t n c 0x02 (writeParts c data)) o =
      if (writeParts c data).all (fun l => bufferRoom s c.nsid y l.1) then v else setFlag v .flash 0x08 6 :=
    startCmd_write rfl hserves hns (by simpa [o, newCmd, enqueue, writeParts] using granulesOf_ne_nil hmin)
  rw [pumpFlash_joined (s := t) hw (by decide) n c _ hports, hstart, hroom] at hdoes
  have hjoined := mem_startedCmd (mem_joined t n c 0x02 (writeParts c data))
  have hhanded : HandedBut [regAddr .flash 0x08]
      { s with flash := { s.flash with cmds := v.flash.cmds, nextOrder := v.flash.nextOrder } } v :=
    ((handed_withSessions s m).reflash _).handedBut _
  refine ⟨_, hdoes, ?_⟩
  dsimp only
  cases (granulesOf c.offset c.length).all (bufferRoom s c.nsid y) with
  | true => exact ⟨rfl, ⟨_, hjoined, rfl, rfl, rfl, rfl⟩, ⟨fun _ => rfl, nofun⟩, hhanded⟩
  | false =>
    exact ⟨rfl, ⟨_, hjoined, rfl, rfl, rfl, rfl⟩, ⟨nofun, fun _ => flagUp_setFlag v .flash 0x08 6 (by decide)⟩,
      hhanded.trans (handedBut_setFlag v 6 (List.mem_singleton_self _))⟩

end Sys2Proof.Machine
end

section
namespace Sys2Proof.Machine

/-! ### TRIM -/

namespace Shed

theorem modules {s u : State} (h : Shed s u) : u.flash.modules = s.flash.modules := by rw [h.flash]
theorem nss {s u : State} (h : Shed s u) : u.flash.nss = s.flash.nss := by rw [h.flash]
theorem data {s u : State} (h : Shed s u) : u.flash.data = s.flash.data := by rw [h.flash]

theorem modAt {s u : State} (h : Shed s u) (m : Nat) : Machine.modAt u m = Machine.modAt s m := by
  unfold Machine.modAt
  rw [h.modules]

theorem nsAt {s u : State} (h : Shed s u) (i : Nat) : Machine.nsAt u i = Machine.nsAt s i := by
  unfold Machine.nsAt
  rw [h.nss]

theorem mapped {s u : State} (h : Shed s u) (m ns g : Nat) : Machine.mapped u m ns g = Machine.mapped s m ns g := by
  rw [mapped_eq, mapped_eq, h.modAt]

end Shed

/-- A module that maps no granule of a namespace from `g` up to but not including `g + count`. -/
def unmapModule (n g count : Nat) (x : Module) : Module :=
  { x with map := x.map.filter fun e => decide (e.1 < gkey n g ∨ gkey n (g + count) ≤ e.1) }

theorem modAt_unmapRange (s : State) (n g count m : Nat) :
    modAt (unmapRange s n g count) m = (modAt s m).map (unmapModule n g count) :=
  tget_map s.flash.modules (unmapModule n g count) m

theorem tget_unmapModule {n g count k : Nat} (x : Module) (hlo : g ≤ k) (hhi : k < g + count) :
    tget (unmapModule n g count x).map (gkey n k) = none := by
  have hkey : ¬(gkey n k < gkey n g ∨ gkey n (g + count) ≤ gkey n k) := by
    unfold gkey
    omega
  exact (tget_filter_key x.map (fun i => decide (i < gkey n g ∨ gkey n (g + count) ≤ i)) _).trans (if_neg (by simpa using hkey))

/-- Unmapped granules are mapped on no module (R293). -/
theorem mapped_unmapRange {n g count k : Nat} (s : State) (m : Nat) (hlo : g ≤ k) (hhi : k < g + count) :
    mapped (unmapRange s n g count) m n k = none := by
  rw [mapped_eq, modAt_unmapRange]
  cases modAt s m with
  | none => rfl
  | some x => exact tget_unmapModule x hlo hhi

section
variable (s : State) (c : Outstanding) (y : Namespace)

theorem journalled_trimmed : ∃ v, Journalled v (trimmed s c y) ∧
    v.flash.data = memZero s.flash.data (gaddr c.cmd.nsid (c.cmd.offset / granuleBytes)) (granuleBytes * c.cmd.arg0) ∧
    v = { s with flash := v.flash } ∧ v.flash.nss = s.flash.nss ∧
    ∀ m k, c.cmd.offset / granuleBytes ≤ k → k < c.cmd.offset / granuleBytes + c.cmd.arg0 → mapped v m c.cmd.nsid k = none :=
  ⟨_, journalled_journalAll .., rfl, rfl, rfl, fun m _ hlo hhi => mapped_unmapRange _ m hlo hhi⟩

theorem trimmed_fields : trimmed s c y = { s with flash := (trimmed s c y).flash } := by
  obtain ⟨v, hv, -, hs, -⟩ := journalled_trimmed s c y
  rw [hv.fields, hs]

theorem data_trimmed : (trimmed s c y).flash.data =
    memZero s.flash.data (gaddr c.cmd.nsid (c.cmd.offset / granuleBytes)) (granuleBytes * c.cmd.arg0) := by
  obtain ⟨v, hv, hd, -⟩ := journalled_trimmed s c y
  rw [hv.fields]
  exact hd

theorem nss_trimmed : (trimmed s c y).flash.nss = s.flash.nss := by
  obtain ⟨v, hv, -, -, hn, -⟩ := journalled_trimmed s c y
  rw [hv.fields]
  exact hn

theorem mapped_trimmed (m : Nat) {k : Nat} (hlo : c.cmd.offset / granuleBytes ≤ k)
    (hhi : k < c.cmd.offset / granuleBytes + c.cmd.arg0) : mapped (trimmed s c y) m c.cmd.nsid k = none := by
  obtain ⟨v, hv, -, -, -, hm⟩ := journalled_trimmed s c y
  rw [hv.mapped, hm m k hlo hhi]

end

/-- A TRIM in a namespace that serves it joins the commands outstanding. -/
theorem trim_joins {s : State} {c : StorCmd} {n : Nat} {x : Session} {y : Namespace} (h : StorReady s c 0x03 n x)
    (hy : NsServes s c true (c.offset + 16384 * c.arg0) y) (hoff : c.offset % 16384 = 0) (hmin : 1 ≤ c.arg0) (hmax : c.arg0 ≤ 2 ^ 32) :
    ∃ m, QueueOpen (withSessions s m) n c.queue ∧
      Does (.trim c) s (pumpFlash (joined (withSessions s m) n c 0x03 [])) := by
  obtain ⟨m, hopen, hrun⟩ := storage_runs h
  refine ⟨m, hopen, ?_⟩
  show execTrim c s = _
  refine (hrun _ _ (by simp [hy.1, hoff, hmin, granuleBytes]; omega)).trans (congrArg _ ?_)
  exact onNamespace_runs (s := withSessions s m) hy n _

theorem trim_does (s : State) (c : StorCmd) (n : Nat) (x : Session) (y : Namespace) (h : StorReady s c 0x03 n x)
    (hw : NoneWaiting s) (hy : NsServes s c true (c.offset + 16384 * c.arg0) y) (hoff : c.offset % 16384 = 0)
    (hmin : 1 ≤ c.arg0) (hmax : c.arg0 ≤ 2 ^ 32) (hready : portsReady s (nsPorts s y) = true) :
    ∃ u, Does (.trim c) s u ∧ StorSent u n c.queue c.tag (now s) 0 c.nsid c.arg0 0 [] ∧
      (let lo := c.nsid * 2 ^ 58 + 16384 * (c.offset / 16384)
       ∀ a, (lo ≤ a ∧ a < lo + 16384 * c.arg0 → memByte u.flash.data a = 0) ∧
         (a < lo ∨ lo + 16384 * c.arg0 ≤ a → memByte u.flash.data a = memByte s.flash.data a)) ∧
      (∀ m g, c.offset / 16384 ≤ g → g < c.offset / 16384 + c.arg0 → mapped u m c.nsid g = none) ∧
      u.flash.nss = s.flash.nss ∧ Handed { s with flash := u.flash } u := by
  obtain ⟨m, hopen, hdoes⟩ := trim_joins h hy hoff hmin hmax
  obtain ⟨-, hns, hserves, -, -⟩ := hy
  let t := withSessions s m
  let j := joined t n c 0x03 []
  let o := newCmd t n c 0x03 []
  have hports : portsReady t (cmdPorts t o) = true := by
    rw [cmdPorts_trim (s := t) (o := o) rfl hserves hns]
    exact hready
  have hstart : startCmd j o = storDone (trimmed j o y) o 0 c.nsid c.arg0 0 [] := startCmd_trim rfl hserves hns
  rw [pumpFlash_joined (s := t) hw (by decide) n c _ hports, hstart] at hdoes
  have hfields := trimmed_fields j o y
  have hopen' : QueueOpen (trimmed j o y) n c.queue := hopen.of_port (by rw [hfields]; rfl)
  have hnow : now (trimmed j o y) = now s := now_of_frame (by rw [hfields]; rfl)
  have hsent := storSent_storDone (c := o) hopen' 0 c.nsid c.arg0 0 []
  rw [hnow] at hsent
  have hshed := shed_storDone (trimmed j o y) o 0 c.nsid c.arg0 0 []
  refine ⟨_, hdoes, hsent, fun a => ?_, fun m g hlo hhi => ?_, hshed.nss.trans (nss_trimmed j o y), ?_⟩
  · rw [hshed.data, data_trimmed, memByte_memZero]
    exact ⟨fun ha => if_pos ha, fun ha => if_neg fun hin => ha.elim hin.1.not_gt hin.2.not_ge⟩
  · rw [hshed.mapped]
    exact mapped_trimmed j o y m hlo hhi
  · have hjoin : FlashBut [] t j := flashBut_joined t n c 0x03 [] []
    have hend : FlashBut [] j _ := (FlashBut.of_flash hfields []).trans (.of_shed hshed [])
    exact (((flashBut_withSessions s m []).trans hjoin).trans hend).handed

/-! ### FLUSH -/

/-- Every storage command of data is answered or taken in every state (R310 to R313). -/
theorem dataCommands_complete (s : State) (c : StorCmd) (data : List Byte) : Completes (.read c) s ∧ Completes (.trim c) s ∧
    Completes (.flush c) s ∧ (data.length = c.length → Completes (.write c data) s) := by
  refine ⟨?_, ?_, ?_, fun h => ?_⟩
  · show ∃ t, execRead c s = .next t
    exact storage_completes ..
  · show ∃ t, execTrim c s = .next t
    exact storage_completes ..
  · show ∃ t, execFlush c s = .next t
    exact storage_completes ..
  · show ∃ t, execWrite c data s = .next t
    unfold execWrite
    rw [if_neg (by simp [h])]
    exact storage_completes ..

/-- The command that joined last, changed: those before it stay as they are. -/
theorem cmds_setCmd_joined (s : State) (n : Nat) (c : StorCmd) (op : Nat) (left : List (Nat × Option (List Byte)))
    (o : Outstanding) (ho : o.seq = (newCmd s n c op left).seq) :
    (setCmd (joined s n c op left) o).flash.cmds = s.flash.cmds ++ [o] := by
  have hold : s.flash.cmds.map (fun d => if d.seq = o.seq then o else d) = s.flash.cmds.map id := by
    refine List.map_congr_left fun d hd => if_neg ?_
    have := seq_lt_freshSeq s d hd
    rw [ho, seq_newCmd]
    omega
  rw [setCmd, cmds_joined]
  dsimp only
  rw [List.map_append, hold, List.map_id, List.map_cons, if_pos ho.symm]
  rfl

/-- A FLUSH with no other command of its queue outstanding is the only command that settles there. -/
theorem settleFlush_alone {s : State} {o : Outstanding} (hop : o.op = 0x04)
    (halone : s.flash.cmds.filter (fun c => decide (c.cmd.queue = o.cmd.queue)) = [o]) :
    settleFlush s o.cmd.queue = answered s o 0 o.cmd.nsid 0 0 [] := by
  unfold settleFlush
  rw [halone]
  simp [hop, answered, withoutCmd]

theorem flush_does (s : State) (c : StorCmd) (n : Nat) (x : Session) (h : StorReady s c 0x04 n x)
    (hfirst : ∀ d ∈ s.flash.cmds, d.cmd.queue ≠ c.queue) :
    ∃ u, Does (.flush c) s u ∧ StorSent u n c.queue c.tag (now s) 0 c.nsid 0 0 [] ∧
      (∀ d ∈ u.flash.cmds, d ∈ s.flash.cmds) ∧ u.flash.data = s.flash.data ∧ u.flash.modules = s.flash.modules ∧
      Handed { s with flash := u.flash } u := by
  obtain ⟨m, hopen, hrun⟩ := storage_runs h
  let o : Outstanding := { newCmd (withSessions s m) n c 0x04 [] with started := true }
  let v : State := setCmd (joined (withSessions s m) n c 0x04 []) o
  have hcmds : v.flash.cmds = s.flash.cmds ++ [o] := cmds_setCmd_joined _ n c 0x04 [] _ rfl
  have halone : v.flash.cmds.filter (fun d => decide (d.cmd.queue = o.cmd.queue)) = [o] := by
    rw [hcmds, List.filter_append, List.filter_eq_nil_iff.mpr fun d hd => by rw [decide_eq_true_eq]; exact hfirst d hd]
    simp
  have hleave : ∀ d ∈ (withoutCmd v o.seq).flash.cmds, d ∈ s.flash.cmds := by
    intro d hd
    obtain ⟨hmem, hseq⟩ := List.mem_filter.mp hd
    rw [hcmds] at hmem
    rcases List.mem_append.mp hmem with h | h
    · exact h
    · exact absurd (congrArg Outstanding.seq (List.mem_singleton.mp h)) (of_decide_eq_true hseq)
  have hshed := shed_answered v o 0 c.nsid 0 0 []
  have hdoes : Does (.flush c) s (settleFlush v o.cmd.queue) := by
    show execFlush c s = _
    exact hrun _ _ rfl
  rw [settleFlush_alone rfl halone] at hdoes
  refine ⟨_, hdoes, ?_, fun d hd => hleave d (hshed.mem d hd),
    hshed.data, hshed.modules, ?_⟩
  · have hsent := storSent_answered (s := v) (c := o) (hopen.of_port rfl) 0 c.nsid 0 0 []
    rwa [now_of_frame (s := s) (t := v) rfl] at hsent
  · have hjoin : FlashBut [] (withSessions s m) (withoutCmd v o.seq) := .of_flash rfl []
    exact (((flashBut_withSessions s m []).trans hjoin).trans (.of_shed hshed [])).handed

/-- Settles O34: the common checks pass the command on, and it starts where none waits before it. -/
theorem flashDataCommands : Obligations.FlashDataCommands :=
  ⟨dataCommands_complete, read_does, write_does, trim_does, flush_does⟩

end Sys2Proof.Machine
end

section
namespace Sys2Proof.Machine

/-! ### NS_CREATE -/

/-- The namespace that NS_CREATE makes on the modules of `ports` (R307). -/
def newNs (s : State) (c : StorCmd) (ports : List Nat) : Namespace :=
  { size := c.arg0, owner := c.arg1 % 256, readers := c.arg1 / 256 % 2 ^ 16,
    serials := ports.filterMap (fun p => (modAt s p).map (·.serial)), state := .active, visits := [], sinceCursor := [] }

/-- The state with a new namespace `i`, journalled on its modules (R304, R307). -/
def created (s : State) (c : StorCmd) (ports : List Nat) (i : Nat) : State :=
  journalAll (setNs s i (newNs s c ports)) ports .nsCreate i

theorem journalled_created (s : State) (c : StorCmd) (ports : List Nat) (i : Nat) :
    Journalled (setNs s i (newNs s c ports)) (created s c ports i) := journalled_journalAll ..

namespace Journalled

theorem nsAt {s u : State} (h : Journalled s u) (i : Nat) : Machine.nsAt u i = Machine.nsAt s i := by
  rw [h.fields]
  rfl

theorem data {s u : State} (h : Journalled s u) : u.flash.data = s.flash.data := by rw [h.fields]

theorem cmds {s u : State} (h : Journalled s u) : u.flash.cmds = s.flash.cmds := by rw [h.fields]

theorem port {s u : State} (h : Journalled s u) : u.port = s.port := by rw [h.fields]

theorem now {s u : State} (h : Journalled s u) : Machine.now u = Machine.now s := by
  rw [h.fields]
  rfl

end Journalled

/-- NS_CREATE starts where its number is free and every module of its set has room (R307, R312). -/
theorem startCmd_create {s : State} {c : Outstanding} {ports : List Nat} {i : Nat} (hop : c.op = 0x06)
    (hset : createSet s (c.cmd.arg1 / 2 ^ 24 % 256) = .inr ports) (hid : createId s c.cmd.nsid = .inr i)
    (hroom : ∀ r ∈ (newNs s c.cmd ports).serials, nsReserve (newNs s c.cmd ports) ≤ unreserved s r) :
    startCmd s c = storDone (created s c.cmd ports i) c 0 i 0 0 [] := by
  have hfits : (newNs s c.cmd ports).serials.any
      (fun r => decide (unreserved s r < nsReserve (newNs s c.cmd ports))) = false := by
    simpa using hroom
  simp only [startCmd, hop, if_true, hset, runCreate, hid]
  exact if_neg (by rw [Bool.not_eq_true]; exact hfits)

theorem cmdPorts_create {s : State} {o : Outstanding} {ports : List Nat} (hop : o.op = 0x06)
    (hset : createSet s (o.cmd.arg1 / 2 ^ 24 % 256) = .inr ports) : cmdPorts s o = ports := by
  simp only [cmdPorts, hop, if_true, hset]

theorem create_joins {s : State} {c : StorCmd} {n i : Nat} {x : Session} (h : StorReady s c 0x06 n x)
    (hns : c.nsid < 64 ∨ c.nsid = 0xFF) (hsize : c.arg0 % 16384 = 0) (howner : c.arg1 % 256 < 16 ∨ c.arg1 % 256 = 0xFF)
    (hid : createId s c.nsid = .inr i) :
    ∃ m, QueueOpen (withSessions s m) n c.queue ∧
      Does (.nsCreate c) s (pumpFlash (joined (withSessions s m) n c 0x06 [])) := by
  obtain ⟨m, hopen, hrun⟩ := storage_runs h
  have hid' : createId (withSessions s m) c.nsid = .inr i := hid
  refine ⟨m, hopen, ?_⟩
  show execNsCreate c s = _
  unfold execNsCreate
  rw [hrun _ _ (by simp [hns, hsize, howner, granuleBytes])]
  simp only [hid']
  rfl

theorem nsCreate_does (s : State) (c : StorCmd) (n m : Nat) (x : Session) (ports : List Nat) (h : StorReady s c 0x06 n x)
    (hw : NoneWaiting s) (hns : c.nsid < 64 ∨ c.nsid = 0xFF) (hsize : c.arg0 % 16384 = 0)
    (howner : c.arg1 % 256 < 16 ∨ c.arg1 % 256 = 0xFF) (hid : createId s c.nsid = .inr m)
    (hset : createSet s (c.arg1 / 2 ^ 24 % 256) = .inr ports) (hready : portsReady s ports = true) :
    (let y : Namespace := { size := c.arg0, owner := c.arg1 % 256, readers := c.arg1 / 256 % 2 ^ 16,
                            serials := ports.filterMap (fun p => (modAt s p).map (·.serial)), state := .active, visits := [],
                            sinceCursor := [] }
     (∀ r ∈ y.serials, nsReserve y ≤ unreserved s r) →
     ∃ u, Does (.nsCreate c) s u ∧ nsAt u m = some y ∧ (∀ i, i ≠ m → nsAt u i = nsAt s i) ∧ u.flash.data = s.flash.data ∧
       StorSent u n c.queue c.tag (now s) 0 m 0 0 [] ∧ Handed { s with flash := u.flash } u) := by
  intro y hroom
  obtain ⟨k, hopen, hdoes⟩ := create_joins h hns hsize howner hid
  let t := withSessions s k
  let j := joined t n c 0x06 []
  let o := newCmd t n c 0x06 []
  have hports : cmdPorts t o = ports := cmdPorts_create rfl hset
  have hstart : startCmd j o = storDone (created j c ports m) o 0 m 0 0 [] := startCmd_create rfl hset hid hroom
  rw [pumpFlash_joined (s := t) hw (by decide) n c _ (by rw [hports]; exact hready), hstart] at hdoes
  have hnew := journalled_created j c ports m
  have hshed := shed_storDone (created j c ports m) o 0 m 0 0 []
  have hsent := storSent_storDone (s := created j c ports m) (c := o) (hopen.of_port hnew.port) 0 m 0 0 []
  rw [now_of_frame (s := s) (by rw [hnew.fields]; rfl)] at hsent
  have hafter : FlashBut [] j _ := (FlashBut.of_flash (u := setNs j m (newNs j c ports)) rfl []).trans
    ((FlashBut.of_journalled hnew []).trans (.of_shed hshed []))
  refine ⟨_, hdoes, ?_, fun i hi => ?_, hshed.data.trans hnew.data, hsent, ?_⟩
  · rw [hshed.nsAt, hnew.nsAt, nsAt_setNs_same]
    rfl
  · rw [hshed.nsAt, hnew.nsAt, nsAt_setNs_ne _ _ hi]
    rfl
  · exact (((flashBut_withSessions s k []).trans (flashBut_joined t n c 0x06 [] [])).trans hafter).handed

/-! ### NS_DELETE -/

/-- A namespace that a deletion has begun on, with the blocks it has to visit (R309). -/
def deletingNs (y : Namespace) (visits : Table (List Nat)) : Namespace :=
  { y with state := .deleting, visits := visits, sinceCursor := [] }

/-- What the loader knows of the images recorded in flash once namespace `n` is deleted: they are gone with it (R341). -/
def withoutImages (s : State) (n : Nat) : State :=
  { s with img := { s.img with loaded := s.img.loaded.map fun p =>
      (p.1, if p.2.resident = false ∧ p.2.ns = n then { p.2 with valid := false, upto := 0 } else p.2) } }

/-- Handing out reads nothing of the loader: with its images replaced on both sides, the same was handed out. -/
theorem Handed.reimg {s u : State} (h : Handed s u) (l : Table LoadedImage) :
    Handed { s with img := { s.img with loaded := l } } { u with img := { u.img with loaded := l } } := by
  obtain ⟨hout, hregs, hrest⟩ := h
  refine ⟨hout, hregs, ?_⟩
  rw [hrest]

theorem not_valid_withoutImages (s : State) (n : Nat) :
    ∀ p ∈ (withoutImages s n).img.loaded, p.2.resident = false → p.2.ns = n → p.2.valid = false := by
  intro p hp hres hns
  obtain ⟨q, -, rfl⟩ := List.mem_map.mp hp
  dsimp only at hres hns ⊢
  split
  · rfl
  · rename_i hkeep
    rw [if_neg hkeep] at hres hns
    exact absurd ⟨hres, hns⟩ hkeep

theorem mem_setCmd {s : State} {c o : Outstanding} (h : c ∈ s.flash.cmds) (ho : c.seq = o.seq) : o ∈ (setCmd s o).flash.cmds :=
  List.mem_map.mpr ⟨c, h, if_pos ho⟩

theorem runDelete_eq {s : State} {c : Outstanding} {y : Namespace} (hy : nsAt s c.cmd.nsid = some y) :
    ∃ visits v, Journalled (setNs s c.cmd.nsid (deletingNs y visits)) v ∧
      runDelete s c = withoutImages (setCmd v { c with started := true }) c.cmd.nsid := by
  unfold runDelete
  simp only [hy]
  exact ⟨_, _, journalled_journalAll .., rfl⟩

theorem startCmd_delete {s : State} {c : Outstanding} {y : Namespace} (hop : c.op = 0x07)
    (hr : nsRefusal s c.cmd.nsid false = none) (hy : nsAt s c.cmd.nsid = some y) : startCmd s c = runDelete s c := by
  simp [startCmd, hop, hr, hy]

theorem cmdPorts_delete {s : State} {o : Outstanding} {y : Namespace} (hop : o.op = 0x07)
    (hr : nsRefusal s o.cmd.nsid false = none) (hy : nsAt s o.cmd.nsid = some y) : cmdPorts s o = nsPorts s y := by
  simp [cmdPorts, hop, hr, hy]

theorem delete_joins {s : State} {c : StorCmd} {n : Nat} {x : Session} {y : Namespace} (h : StorReady s c 0x07 n x)
    (hy : NsServes s c false 0 y) : ∃ m, Does (.nsDelete c) s (pumpFlash (joined (withSessions s m) n c 0x07 [])) := by
  obtain ⟨m, -, hrun⟩ := storage_runs h
  refine ⟨m, ?_⟩
  show execNsDelete c s = _
  unfold execNsDelete
  rw [hrun _ _ (by simp [hy.1]), onNamespace_runs (s := withSessions s m) hy]
  rfl

theorem nsDelete_does (s : State) (c : StorCmd) (n : Nat) (x : Session) (y : Namespace) (h : StorReady s c 0x07 n x)
    (hw : NoneWaiting s) (hy : NsServes s c false 0 y) (hready : portsReady s (nsPorts s y) = true) :
    ∃ u, Does (.nsDelete c) s u ∧ (∃ z, nsAt u c.nsid = some z ∧ z = { y with
        state := .deleting, visits := z.visits, sinceCursor := [] }) ∧
      (∀ i, i ≠ c.nsid → nsAt u i = nsAt s i) ∧ (∃ d ∈ u.flash.cmds, d.cmd = c ∧ d.started = true) ∧ u.out = s.out ∧
      (∀ p ∈ u.img.loaded, p.2.resident = false → p.2.ns = c.nsid → p.2.valid = false) ∧ u.flash.data = s.flash.data ∧
      Handed { s with flash := u.flash, img := { s.img with loaded := u.img.loaded } } u := by
  obtain ⟨m, hdoes⟩ := delete_joins h hy
  obtain ⟨-, hns, hserves, -, -⟩ := hy
  let t := withSessions s m
  let j := joined t n c 0x07 []
  let o := newCmd t n c 0x07 []
  have hports : cmdPorts t o = nsPorts s y := cmdPorts_delete (s := t) (o := o) rfl hserves hns
  have hstart : startCmd j o = runDelete j o := startCmd_delete rfl hserves hns
  obtain ⟨visits, v, hv, hrun⟩ := runDelete_eq (s := j) (c := o) hns
  rw [pumpFlash_joined (s := t) hw (by decide) n c _ (by rw [hports]; exact hready), hstart, hrun] at hdoes
  let u := withoutImages (setCmd v { o with started := true }) c.nsid
  have hmem : o ∈ v.flash.cmds := by
    rw [hv.cmds]
    exact mem_joined t n c 0x07 []
  have hstarted : { o with started := true } ∈ u.flash.cmds := mem_setCmd hmem rfl
  have hbegun : FlashBut [] s (setCmd v { o with started := true }) :=
    ((((flashBut_withSessions s m []).trans (flashBut_joined t n c 0x07 [] [])).trans
      (.of_flash (u := setNs j c.nsid (deletingNs y visits)) rfl [])).trans (.of_journalled hv [])).trans (.of_flash rfl [])
  have hout : v.out = s.out := by
    rw [hv.fields]
    rfl
  refine ⟨u, hdoes, ⟨deletingNs y visits, ?_, rfl⟩, fun i hi => ?_, ⟨_, hstarted, rfl, rfl⟩, hout,
    not_valid_withoutImages _ c.nsid, hv.data, ?_⟩
  · exact (hv.nsAt c.nsid).trans (nsAt_setNs_same ..)
  · exact (hv.nsAt i).trans (nsAt_setNs_ne _ _ hi)
  · exact hbegun.handed.reimg u.img.loaded

/-! ### IDENTIFY -/

theorem identify_does (s : State) (c : StorCmd) (n : Nat) (x : Session) (h : StorReady s c 0x05 n x)
    (hcns : c.arg0 % 256 = 0 ∨ (c.arg0 % 256 = 1 ∧ c.nsid < 64 ∧
      ∀ y, nsAt s c.nsid = some y → nsPermits s c.queue y false = true)) :
    ∃ u, Does (.identify c) s u ∧ Handed s u ∧
      (let r := if c.arg0 % 256 = 0 then tierRecord s else nsRecord s c.nsid
       StorSent u n c.queue c.tag (now s) 0 c.nsid r.length 0 r) := by
  obtain ⟨m, hopen, hrun⟩ := storage_runs h
  let t := withSessions s m
  let r := if c.arg0 % 256 = 0 then tierRecord s else nsRecord s c.nsid
  have hdoes : Does (.identify c) s (storReply t n c.queue c.tag 0 c.nsid r.length 0 r) := by
    show execIdentify c s = _
    unfold execIdentify
    rcases hcns with h0 | ⟨h1, hlt, hperm⟩
    · rw [hrun _ _ (by simp [h0])]
      simp only [h0, if_true, r]
      rfl
    · rw [hrun _ _ (by simp [h1, hlt])]
      have h0 : c.arg0 % 256 ≠ 0 := by omega
      cases hns : nsAt s c.nsid with
      | none =>
        have hns' : nsAt (withSessions s m) c.nsid = none := hns
        simp only [h0, if_false, hns', r]
        rfl
      | some y =>
        have hns' : nsAt (withSessions s m) c.nsid = some y := hns
        have hperm' : nsPermits (withSessions s m) c.queue y false = true := hperm y hns
        simp only [h0, if_false, hns', hperm', if_true, r]
        rfl
  exact ⟨_, hdoes, (handed_withSessions s m).trans (handed_storReply ..), storSent_storReply (s := t) hopen ..⟩

/-! ### ABORT -/

theorem abort_does (s : State) (c : StorCmd) (n : Nat) (x : Session) (h : StorReady s c 0x08 n x) :
    ∃ u, Does (.abort c) s u ∧ Handed { s with flash := { s.flash with cmds := u.flash.cmds } } u ∧
      (∀ d ∈ u.flash.cmds, d ∈ s.flash.cmds) ∧
      (cmdAt s c.queue (c.arg0 % 2 ^ 16) = none → u.flash = s.flash ∧ StorSent u n c.queue c.tag (now s) 0 c.nsid 2 0 []) ∧
      (∀ d, cmdAt s c.queue (c.arg0 % 2 ^ 16) = some d →
        (d.started = true → u.flash = s.flash ∧ StorSent u n c.queue c.tag (now s) 0 c.nsid 1 0 []) ∧
        (d.started = false → (∀ e ∈ u.flash.cmds, e.seq ≠ d.seq) ∧ StorSent u n c.queue c.tag (now s) 0 c.nsid 0 0 [])) := by
  obtain ⟨m, hopen, hrun⟩ := storage_runs h
  let t := withSessions s m
  have hleft (u : State) (hu : Shed t u) : Handed { s with flash := { s.flash with cmds := u.flash.cmds } } u ∧
      ∀ d ∈ u.flash.cmds, d ∈ s.flash.cmds :=
    ⟨((handed_withSessions s m).reflash _).trans hu.handed, hu.mem⟩
  have hreply (r : Nat) : Shed t (storReply t n c.queue c.tag 0 c.nsid r 0 []) := shed_storReply ..
  have hsent (r : Nat) : StorSent (storReply t n c.queue c.tag 0 c.nsid r 0 []) n c.queue c.tag (now s) 0 c.nsid r 0 [] :=
    storSent_storReply (s := t) hopen ..
  have hsame (r : Nat) : (storReply t n c.queue c.tag 0 c.nsid r 0 []).flash = s.flash := (handed_storReply t ..).flash
  have hexec : exec (.abort c) s = execAbort c s := rfl
  unfold execAbort at hexec
  rw [hrun _ _ rfl] at hexec
  cases hfind : cmdAt s c.queue (c.arg0 % 2 ^ 16) with
  | none =>
    have hfind' : cmdAt (withSessions s m) c.queue (c.arg0 % 2 ^ 16) = none := hfind
    simp only [hfind'] at hexec
    exact ⟨_, hexec, (hleft _ (hreply 2)).1, (hleft _ (hreply 2)).2, fun _ => ⟨hsame 2, hsent 2⟩, nofun⟩
  | some d =>
    have hfind' : cmdAt (withSessions s m) c.queue (c.arg0 % 2 ^ 16) = some d := hfind
    simp only [hfind'] at hexec
    cases hstarted : d.started with
    | true =>
      simp only [hstarted, if_true] at hexec
      refine ⟨_, hexec, (hleft _ (hreply 1)).1, (hleft _ (hreply 1)).2, nofun, fun e he => ?_⟩
      obtain rfl : d = e := Option.some.inj he
      exact ⟨fun _ => ⟨hsame 1, hsent 1⟩, fun hf => absurd hf (by simp [hstarted])⟩
    | false =>
      simp only [hstarted] at hexec
      have hdone := shed_storDone t d 0x0A d.cmd.nsid 0 0 []
      have hend := shed_storReply (storDone t d 0x0A d.cmd.nsid 0 0 []) n c.queue c.tag 0 c.nsid 0 0 []
      have hlast := storSent_storReply (hopen.kept hdone.queues) c.tag 0 c.nsid 0 0 []
      rw [hdone.handed.now] at hlast
      refine ⟨_, hexec, (hleft _ (hdone.trans hend)).1, (hleft _ (hdone.trans hend)).2, nofun, fun e he => ?_⟩
      obtain rfl : d = e := Option.some.inj he
      exact ⟨fun hf => absurd hf (by simp [hstarted]), fun _ =>
        ⟨fun e he => not_mem_storDone t d 0x0A d.cmd.nsid 0 0 [] e (hend.mem e he), hlast⟩⟩

/-! ### GET_LOG -/

theorem getLog_does (s : State) (c : StorCmd) (n : Nat) (x : Session) (y : Module) (h : StorReady s c 0x09 n x)
    (hpage : c.arg0 % 256 = 1) (hport : c.arg0 / 256 % 256 < 8) (hy : modAt s (c.arg0 / 256 % 256) = some y)
    (husable : modUsable y = true) :
    ∃ u, Does (.getLog c) s u ∧ Handed s u ∧ StorSent u n c.queue c.tag (now s) 0 c.nsid 64 0 (mediaHealth y) := by
  obtain ⟨m, hopen, hrun⟩ := storage_runs h
  let t := withSessions s m
  have hy' : modAt (withSessions s m) (c.arg0 / 256 % 256) = some y := hy
  have hdoes : Does (.getLog c) s (storReply t n c.queue c.tag 0 c.nsid 64 0 (mediaHealth y)) := by
    show execGetLog c s = _
    unfold execGetLog
    rw [hrun _ _ (by simp [hpage, hport])]
    simp only [hy', husable, if_true]
    rfl
  exact ⟨_, hdoes, (handed_withSessions s m).trans (handed_storReply ..), storSent_storReply (s := t) hopen ..⟩

/-! ### SET_POWER -/

/-- Only modules, and the queue of the wake-up sequencer, changed. -/
def ModulesWake (s u : State) : Prop :=
  u = { s with flash := { s.flash with modules := u.flash.modules }, power := { s.power with wakes := u.power.wakes } }

theorem ModulesWake.trans {s t u : State} (h : ModulesWake s t) (k : ModulesWake t u) : ModulesWake s u := by
  unfold ModulesWake at *
  rw [k, h]

/-- What was handed out before modules changed stays handed out. -/
theorem ModulesWake.handed {s t u : State} (k : ModulesWake t u) (h : Handed s t) :
    Handed { s with flash := { s.flash with modules := u.flash.modules }, power := { s.power with wakes := u.power.wakes } } u := by
  obtain ⟨⟨l, hout⟩, hregs, hrest⟩ := h
  refine ⟨⟨l, ?_⟩, fun a ha => ?_, ?_⟩
  · rw [k]
    exact hout
  · rw [k]
    exact hregs a ha
  · rw [k, hrest]

theorem modulesWake_setMod (s : State) (m : Nat) (x : Module) : ModulesWake s (setMod s m x) := rfl

/-- A module wakes in FLASH and in the sequencer's queue alone (R316, R432). -/
theorem modulesWake_wake (s : State) (m : Nat) : ModulesWake s (wake s m) := by
  unfold wake
  repeat' split
  all_goals rfl

theorem modAt_wake_ne (s : State) {m i : Nat} (h : i ≠ m) : modAt (wake s m) i = modAt s i := by
  unfold wake
  repeat' split
  · rfl
  · exact modAt_setMod_ne s _ h
  · rfl

/-- A usable module below PS0 wakes; nothing else of a module changes (R316). -/
theorem modAt_wake_same {s : State} {m : Nat} {x : Module} (h : modAt s m = some x) :
    ∃ z, modAt (wake s m) m = some z ∧ z = { x with waking := z.waking, wakeFrame := z.wakeFrame } ∧
      (modUsable x = true → x.pstate ≠ 0 → z.waking = true) := by
  unfold wake
  simp only [h]
  split
  · exact ⟨_, modAt_setMod_same s m _, rfl, fun _ _ => rfl⟩
  · rename_i hwakes
    refine ⟨x, h, rfl, fun hu hp => ?_⟩
    simpa [hu, hp] using hwakes

/-- What SET_POWER does to the module on a port of its mask (R316). -/
def limitModule (limit : Nat) (s : State) (m : Nat) : State :=
  match modAt s m with
  | some x => if limit < x.pstate then wake (setMod s m { x with psLimit := limit }) m else setMod s m { x with psLimit := limit }
  | none => s

/-- A module with the limit set, which wakes if it is deeper. -/
def Limited (limit : Nat) (y z : Module) : Prop :=
  z = { y with psLimit := limit, waking := z.waking, wakeFrame := z.wakeFrame } ∧
  (limit < y.pstate → modUsable y = true → z.waking = true)

theorem modulesWake_limitModule (limit : Nat) (s : State) (m : Nat) : ModulesWake s (limitModule limit s m) := by
  unfold limitModule
  split
  · split
    · exact (modulesWake_setMod s m _).trans (modulesWake_wake _ m)
    · exact modulesWake_setMod s m _
  · rfl

theorem modAt_limitModule_ne (limit : Nat) (s : State) {m i : Nat} (h : i ≠ m) : modAt (limitModule limit s m) i = modAt s i := by
  unfold limitModule
  split
  · split
    · rw [modAt_wake_ne _ h, modAt_setMod_ne _ _ h]
    · exact modAt_setMod_ne _ _ h
  · rfl

theorem modAt_limitModule_same (limit : Nat) {s : State} {m : Nat} {y : Module} (h : modAt s m = some y) :
    ∃ z, modAt (limitModule limit s m) m = some z ∧ Limited limit y z := by
  unfold limitModule
  simp only [h]
  split
  · rename_i hdeep
    obtain ⟨z, hz, hsame, hwakes⟩ := modAt_wake_same (modAt_setMod_same s m { y with psLimit := limit })
    exact ⟨z, hz, hsame, fun _ hu => hwakes hu (by show y.pstate ≠ 0; omega)⟩
  · rename_i hdeep
    exact ⟨_, modAt_setMod_same s m _, rfl, fun hd => absurd hd hdeep⟩

/-- The limit is set on the modules of a list of ports, each listed once, and on no other. -/
theorem modAt_limitModules (limit : Nat) {l : List Nat} (hl : l.Nodup) {s : State} {m : Nat} {y : Module} (h : modAt s m = some y) :
    ∃ z, modAt (l.foldl (limitModule limit) s) m = some z ∧ (m ∈ l → Limited limit y z) ∧ (m ∉ l → z = y) := by
  induction l generalizing s y with
  | nil => exact ⟨y, h, nofun, fun _ => rfl⟩
  | cons i l ih =>
    obtain ⟨hi, hrest⟩ := List.nodup_cons.mp hl
    by_cases hm : m = i
    · subst hm
      obtain ⟨w, hw, hlim⟩ := modAt_limitModule_same limit h
      obtain ⟨z, hz, -, hkept⟩ := ih hrest hw
      rw [hkept hi] at hz
      exact ⟨w, hz, fun _ => hlim, fun hn => absurd (List.mem_cons_self ..) hn⟩
    · obtain ⟨z, hz, hin, hout⟩ := ih hrest ((modAt_limitModule_ne limit s hm).trans h)
      refine ⟨z, hz, fun hmem => hin ((List.mem_cons.mp hmem).resolve_left hm), fun hmem => hout ?_⟩
      exact fun hc => hmem (List.mem_cons_of_mem _ hc)

theorem modulesWake_limitModules (limit : Nat) (l : List Nat) (s : State) : ModulesWake s (l.foldl (limitModule limit) s) :=
  List.foldlRecOn (motive := ModulesWake s) _ _ rfl fun _ hu m _ => hu.trans (modulesWake_limitModule limit _ m)

/-- The ports of a SET_POWER mask (R312). -/
def maskPorts (c : StorCmd) : List Nat := (List.range 8).filter fun m => c.arg0.testBit m

theorem setPower_runs {s : State} {c : StorCmd} {n : Nat} {x : Session} (h : StorReady s c 0x0A n x) :
    ∃ m, QueueOpen (withSessions s m) n c.queue ∧ Does (.setPower c) s
      (storReply ((maskPorts c).foldl (limitModule (c.arg0 / 256 % 4)) (withSessions s m)) n c.queue c.tag 0 c.nsid 0 0 []) := by
  obtain ⟨m, hopen, hrun⟩ := storage_runs h
  refine ⟨m, hopen, ?_⟩
  show execSetPower c s = _
  unfold execSetPower
  exact hrun _ _ rfl

theorem setPower_does (s : State) (c : StorCmd) (n : Nat) (x : Session) (h : StorReady s c 0x0A n x) :
    ∃ u, Does (.setPower c) s u ∧ StorSent u n c.queue c.tag (now s) 0 c.nsid 0 0 [] ∧
      (∀ m y, m < 8 → modAt s m = some y → ∃ z, modAt u m = some z ∧
        z = { y with psLimit := if c.arg0.testBit m then c.arg0 / 256 % 4 else y.psLimit, waking := z.waking, wakeFrame := z.wakeFrame } ∧
        (c.arg0.testBit m = true → c.arg0 / 256 % 4 < y.pstate → modUsable y = true → z.waking = true)) ∧
      Handed { s with flash := { s.flash with modules := u.flash.modules },
                      power := { s.power with wakes := u.power.wakes } } u := by
  obtain ⟨k, hopen, hdoes⟩ := setPower_runs h
  let t := withSessions s k
  let v := (maskPorts c).foldl (limitModule (c.arg0 / 256 % 4)) t
  have hv : ModulesWake t v := modulesWake_limitModules ..
  have hreply := handed_storReply v n c.queue c.tag 0 c.nsid 0 0 []
  have hsent := storSent_storReply (hopen.of_port (t := v) (by rw [hv])) c.tag 0 c.nsid 0 0 []
  rw [now_of_frame (s := s) (t := v) (by rw [hv]; rfl)] at hsent
  have hmod (m : Nat) : modAt (storReply v n c.queue c.tag 0 c.nsid 0 0 []) m = modAt v m := by
    unfold modAt
    rw [hreply.flash]
  refine ⟨_, hdoes, hsent, fun m y hm hy => ?_, ?_⟩
  · obtain ⟨z, hz, hin, hout⟩ := modAt_limitModules (c.arg0 / 256 % 4) (List.nodup_range.filter _) (l := maskPorts c) (s := t) hy
    refine ⟨z, (hmod m).trans hz, ?_⟩
    by_cases hbit : c.arg0.testBit m = true
    · obtain ⟨hsame, hwakes⟩ := hin (List.mem_filter.mpr ⟨List.mem_range.mpr hm, hbit⟩)
      rw [if_pos hbit]
      exact ⟨hsame, fun _ => hwakes⟩
    · rw [if_neg hbit, hout fun hmem => hbit (List.mem_filter.mp hmem).2]
      exact ⟨rfl, fun hb => absurd hb hbit⟩
  · rw [hreply.flash, hreply.power]
    exact (hv.handed (handed_withSessions s k)).trans hreply

/-- Every storage command of administration is answered or taken in every state (R310 to R313). -/
theorem adminCommands_complete (s : State) (c : StorCmd) : Completes (.nsCreate c) s ∧ Completes (.nsDelete c) s ∧
    Completes (.identify c) s ∧ Completes (.abort c) s ∧ Completes (.getLog c) s ∧ Completes (.setPower c) s := by
  refine ⟨?_, ?_, ?_, ?_, ?_, ?_⟩
  · show ∃ t, execNsCreate c s = .next t
    unfold execNsCreate
    exact storage_completes ..
  · show ∃ t, execNsDelete c s = .next t
    unfold execNsDelete
    exact storage_completes ..
  · show ∃ t, execIdentify c s = .next t
    unfold execIdentify
    exact storage_completes ..
  · show ∃ t, execAbort c s = .next t
    unfold execAbort
    exact storage_completes ..
  · show ∃ t, execGetLog c s = .next t
    unfold execGetLog
    exact storage_completes ..
  · show ∃ t, execSetPower c s = .next t
    unfold execSetPower
    exact storage_completes ..

/-- Settles O35: the common checks pass the command on, and it answers with its record. -/
theorem flashAdminCommands : Obligations.FlashAdminCommands :=
  ⟨adminCommands_complete, nsCreate_does, nsDelete_does, identify_does, abort_does, getLog_does, setPower_does⟩

end Sys2Proof.Machine
end

section
namespace Sys2Proof.Machine

/-! ### MEDIA_READ_COMPLETE -/

theorem Shed.regsBut {s u : State} (h : Shed s u) : RegsBut [regAddr .mac 0x50] s u := h.handed.2.1

theorem mediaReadComplete_completes (s : State) (q tag : Nat) (f : Option Nat) : Completes (.mediaReadComplete q tag f) s := by
  show ∃ t, execMediaReadComplete q tag f s = .next t
  unfold execMediaReadComplete
  repeat' split
  all_goals exact ⟨_, rfl⟩

/-- A READ that failed was counted, on its module too, before it is answered (R293, R319). -/
theorem readFailed_eq (s : State) (c : Outstanding) (g : Nat) :
    ∃ w, readFailed s c g = storDone w c 0x09 c.cmd.nsid 0 (16384 * g) [] ∧ w = { bump s .flash 0x50 1 with flash := w.flash } ∧
      w.flash.data = s.flash.data := by
  unfold readFailed
  refine ⟨_, rfl, ?_⟩
  split
  · split
    · exact ⟨rfl, rfl⟩
    · exact ⟨rfl, rfl⟩
  · exact ⟨rfl, rfl⟩

/-- A failed READ is counted and answered with MEDIA_ERROR at its granule (R293, R313). -/
theorem readFailed_does {s : State} {c : Outstanding} (h : QueueOpen s c.session c.cmd.queue) (g : Nat) :
    Counted s (readFailed s c g) .flash 0x50 1 ∧ (readFailed s c g).flash.data = s.flash.data ∧
      StorSent (readFailed s c g) c.session c.cmd.queue c.cmd.tag (now s) 0x09 c.cmd.nsid 0 (16384 * g) [] ∧
      FlashBut [regAddr .flash 0x50] s (readFailed s c g) := by
  obtain ⟨w, hw, hfields, hdata⟩ := readFailed_eq s c g
  have hshed := shed_storDone w c 0x09 c.cmd.nsid 0 (16384 * g) []
  have hcount : Counted s w .flash 0x50 1 := (counted_bump s .flash 0x50 1).of_regs (by rw [hfields])
  have hsent := storSent_storDone (s := w) (c := c) (h.of_port (by rw [hfields]; rfl)) 0x09 c.cmd.nsid 0 (16384 * g) []
  rw [now_of_frame (s := s) (by rw [hfields]; rfl)] at hsent
  have hcounted : FlashBut [regAddr .flash 0x50] s (bump s .flash 0x50 1) :=
    .of_handedBut (handedBut_bump s 1 (List.mem_singleton_self _))
  rw [hw]
  exact ⟨hcount.regsBut hshed.regsBut (by simp [regAddr, blkBase]), hshed.data.trans hdata, hsent,
    (hcounted.trans (.of_flash hfields _)).trans (.of_shed hshed _)⟩

section
variable {s : State} {q tag : Nat} {c : Outstanding}

/-- A granule of a READ that its planes serve next fails (R294). -/
theorem mediaRead_fails (hc : cmdAt s q tag = some c) (hop : c.op = 0x01) (hstarted : c.started = true)
    (hahead : readsAhead s c = []) {g : Nat} (hg : g ∈ mediaGranules s c.cmd) :
    Does (.mediaReadComplete q tag (some g)) s (readFailed s c g) := by
  show execMediaReadComplete q tag (some g) s = _
  simp [execMediaReadComplete, hc, hop, hstarted, hahead, hg]

/-- The media reads of a READ that its planes serve next have ended (R294). -/
theorem mediaRead_ends (hc : cmdAt s q tag = some c) (hop : c.op = 0x01) (hstarted : c.started = true)
    (hahead : readsAhead s c = []) : Does (.mediaReadComplete q tag none) s (readDone s c) := by
  show execMediaReadComplete q tag none s = _
  simp [execMediaReadComplete, hc, hop, hstarted, hahead]

end

theorem readDone_sealed {s : State} {c : Outstanding} (h : ∀ g ∈ mediaGranules s c.cmd, sealOk s c.cmd.nsid g = true) :
    readDone s c = storDone s c 0 c.cmd.nsid c.cmd.length 0
      (memRead s.flash.data (c.cmd.nsid * 2 ^ 58 + c.cmd.offset) c.cmd.length) := by
  have hfind : (mediaGranules s c.cmd).find? (fun g => !sealOk s c.cmd.nsid g) = none :=
    List.find?_eq_none.mpr fun g hg => by simp [h g hg]
  simp only [readDone, hfind]

theorem readDone_broken {s : State} {c : Outstanding} {g : Nat}
    (h : (mediaGranules s c.cmd).find? (fun h => !sealOk s c.cmd.nsid h) = some g) : readDone s c = readFailed s c g := by
  simp only [readDone, h]

theorem mediaReadComplete_does (s : State) (q tag : Nat) (c : Outstanding) (x : Session) (hc : cmdAt s q tag = some c)
    (hop : c.op = 0x01) (hstarted : c.started = true) :
    (∀ f, (∀ g, f = some g → g ∈ mediaGranules s c.cmd) → Completes (.mediaReadComplete q tag f) s) ∧
    (sessAt s c.session = some x → (tget x.queues c.cmd.queue).isSome = true → readsAhead s c = [] →
    ((∀ g ∈ mediaGranules s c.cmd, sealOk s c.cmd.nsid g = true) → ∃ u, Does (.mediaReadComplete q tag none) s u ∧
      StorSent u c.session c.cmd.queue c.cmd.tag (now s) 0 c.cmd.nsid c.cmd.length 0
        (memRead s.flash.data (c.cmd.nsid * 2 ^ 58 + c.cmd.offset) c.cmd.length) ∧
      (∀ d ∈ u.flash.cmds, d ∈ s.flash.cmds ∧ d.seq ≠ c.seq) ∧
      Handed { s with flash := { s.flash with cmds := u.flash.cmds } } u) ∧
    (∀ g f, g ∈ mediaGranules s c.cmd → (f = some g ∨
        (f = none ∧ (mediaGranules s c.cmd).find? (fun h => !sealOk s c.cmd.nsid h) = some g)) →
      ∃ u, Does (.mediaReadComplete q tag f) s u ∧ Counted s u .flash 0x50 1 ∧ u.flash.data = s.flash.data ∧
        StorSent u c.session c.cmd.queue c.cmd.tag (now s) 0x09 c.cmd.nsid 0 (16384 * g) [] ∧
        HandedBut [regAddr .flash 0x50] { s with flash := u.flash } u)) := by
  refine ⟨fun f _ => mediaReadComplete_completes s q tag f, fun hx hq hahead => ?_⟩
  have hopen : QueueOpen s c.session c.cmd.queue := ⟨x, hx, hq⟩
  have hends := mediaRead_ends hc hop hstarted hahead
  refine ⟨fun hseal => ?_, fun g f hg hf => ⟨readFailed s c g, ?_, readFailed_does hopen g⟩⟩
  · rw [readDone_sealed hseal] at hends
    have hshed := shed_storDone s c 0 c.cmd.nsid c.cmd.length 0
      (memRead s.flash.data (c.cmd.nsid * 2 ^ 58 + c.cmd.offset) c.cmd.length)
    exact ⟨_, hends, storSent_storDone hopen .., fun d hd => ⟨hshed.mem d hd, not_mem_storDone _ _ _ _ _ _ _ d hd⟩, hshed.handed⟩
  · rcases hf with rfl | ⟨rfl, hbroken⟩
    · exact mediaRead_fails hc hop hstarted hahead hg
    · rwa [readDone_broken hbroken] at hends

/-! ### GRANULE_PROGRAM_COMPLETE -/

theorem wroteMem_memWrite (m : Table Byte) (a : Nat) (bs : List Byte) : WroteMem m (memWrite m a bs) a bs :=
  ⟨fun i h => memByte_memWrite_inside m a i bs h, fun i h => memByte_memWrite_outside m a i bs h⟩

theorem granuleProgramComplete_completes (s : State) (q tag g : Nat) (ok : Bool) :
    Completes (.granuleProgramComplete q tag g ok) s := by
  show ∃ t, execGranuleProgramComplete q tag g ok s = .next t
  unfold execGranuleProgramComplete
  dsimp only
  repeat' split
  all_goals exact ⟨_, rfl⟩

/-- A granule written holds its bytes, is mapped to its page, and counts in both write counters (R297, R319). -/
theorem granuleWritten_eq {s : State} {m : Nat} {x : Module} (hx : modAt s m = some x) (n g plane : Nat) (b : Nat × FlashBlock)
    (l : List Byte) :
    ∃ v z, granuleWritten s n g m plane b (some l) = bump (bump v .flash 0x28 1) .flash 0x30 1 ∧ v = { s with flash := v.flash } ∧
      v.flash.data = memWrite (memZero s.flash.data (gaddr n g) granuleBytes) (gaddr n g) l ∧ v.flash.nss = s.flash.nss ∧
      v.flash.modules = tset s.flash.modules m z ∧ tget z.map (gkey n g) = some (loc plane b.1 b.2.pages.length) := by
  unfold granuleWritten
  simp only [hx]
  exact ⟨_, _, rfl, rfl, rfl, rfl, rfl, tget_tset_same ..⟩

/-- What stays of a started WRITE once granule `g` is programmed. -/
def lessGranule (c : Outstanding) (g : Nat) : Outstanding := { c with left := c.left.filter fun l => decide (l.1 ≠ g) }

/-- The head of a plane's order is what the plane programs next: nothing is programmed before it (R294). -/
theorem takeWhile_before_head {l : List (Outstanding × Nat)} {q tag g : Nat}
    (h : l.head?.map (fun w => (w.1.cmd.queue, w.1.cmd.tag, w.2)) = some (q, tag, g)) :
    l.takeWhile (fun w => !(decide (w.1.cmd.queue = q) && decide (w.1.cmd.tag = tag) && decide (w.2 = g))) = [] := by
  cases l with
  | nil => cases h
  | cons w l =>
    simp only [List.head?_cons, Option.map_some, Option.some.injEq, Prod.mk.injEq] at h
    rw [List.takeWhile_cons, if_neg (by simp [h])]

section
variable {s : State} {q tag g m plane : Nat} {c : Outstanding} {l : List Byte} {y : Namespace} {md : Module} {b : Nat × FlashBlock}

/-- A granule programmed in the open block of its plane: it is written, superseded in earlier WRITEs, and leaves its own,
which completes with its last granule (R297, R298). -/
theorem programGranule_eq (hc : cmdAt s q tag = some c) (hy : nsAt s c.cmd.nsid = some y)
    (hleft : c.left.find? (fun l => decide (l.1 = g)) = some (g, some l)) (hplace : placeOf s y g = some (m, plane))
    (hmd : modAt s m = some md) (hb : openBuffer (planeAt md plane) (writeClass md c.cmd.nsid g) = some b) :
    ∃ v, v = { granuleWritten s c.cmd.nsid g m plane b (some l) with flash := v.flash } ∧
      v.flash.data = (granuleWritten s c.cmd.nsid g m plane b (some l)).flash.data ∧
      v.flash.nss = (granuleWritten s c.cmd.nsid g m plane b (some l)).flash.nss ∧
      v.flash.modules = (granuleWritten s c.cmd.nsid g m plane b (some l)).flash.modules ∧
      Shed v (programGranule s q tag g) := by
  unfold programGranule
  simp only [hc, hleft, hy, Option.bind_some, hplace, hmd, hb]
  generalize granuleWritten s c.cmd.nsid g m plane b (some l) = w
  refine ⟨setCmd (supersede w c.order c.cmd.nsid fun h => decide (h = g)) (lessGranule c g), rfl, rfl, rfl, rfl, ?_⟩
  split
  · exact shed_storDone ..
  · exact .refl _

theorem granuleProgram_next (hc : cmdAt s q tag = some c) (hop : c.op = 0x02) (hstarted : c.started = true)
    (hy : nsAt s c.cmd.nsid = some y)
    (hnext : (planeQueue s m plane).head?.map (fun w => (w.1.cmd.queue, w.1.cmd.tag, w.2)) = some (q, tag, g))
    (hleft : c.left.find? (fun l => decide (l.1 = g)) = some (g, some l)) (hplace : placeOf s y g = some (m, plane)) :
    Does (.granuleProgramComplete q tag g true) s (programGranule s q tag g) := by
  have hmem : ¬c.left.all (fun l => decide (l.1 ≠ g)) := by
    simpa using ⟨_, List.mem_of_find?_eq_some hleft⟩
  show execGranuleProgramComplete q tag g true s = _
  simp only [execGranuleProgramComplete, hc, hop, hstarted, hmem, hy, Option.bind_some, hplace, takeWhile_before_head hnext]
  rfl

end

theorem granuleProgramComplete_does (s : State) (q tag g m plane : Nat) (c : Outstanding) (l : List Byte) (y : Namespace) (md : Module)
    (b : Nat × FlashBlock) (hc : cmdAt s q tag = some c) (hop : c.op = 0x02) (hstarted : c.started = true)
    (hy : nsAt s c.cmd.nsid = some y)
    (hnext : (planeQueue s m plane).head?.map (fun w => (w.1.cmd.queue, w.1.cmd.tag, w.2)) = some (q, tag, g))
    (hleft : c.left.find? (fun l => decide (l.1 = g)) = some (g, some l)) (_ : l.length ≤ 16384)
    (hplace : placeOf s y g = some (m, plane)) (hmd : modAt s m = some md)
    (hb : openBuffer (planeAt md plane) (writeClass md c.cmd.nsid g) = some b) :
    ∃ u, Does (.granuleProgramComplete q tag g true) s u ∧
      WroteMem (memZero s.flash.data (c.cmd.nsid * 2 ^ 58 + 16384 * g) 16384) u.flash.data
        (c.cmd.nsid * 2 ^ 58 + 16384 * g) l ∧
      mapped u m c.cmd.nsid g = some (plane * 2 ^ 32 + b.1 * 2 ^ 16 + b.2.pages.length) ∧
      Counted s u .flash 0x28 1 ∧ Counted s u .flash 0x30 1 ∧ u.flash.nss = s.flash.nss ∧
      HandedBut [regAddr .flash 0x28, regAddr .flash 0x30] { s with flash := u.flash } u := by
  obtain ⟨v, hv, hdata, hnss, hmods, hshed⟩ := programGranule_eq hc hy hleft hplace hmd hb
  obtain ⟨w, z, hw, hfields, hwdata, hwnss, hwmods, hwmap⟩ := granuleWritten_eq hmd c.cmd.nsid g plane b l
  rw [hw] at hv hdata hnss hmods
  have h28 : Counted s (bump (bump w .flash 0x28 1) .flash 0x30 1) .flash 0x28 1 := by
    refine Counted.regsBut ?_ (regsBut_bump _ .flash 0x30 1) (by simp [regAddr])
    exact counted_of_reg (counted_bump w .flash 0x28 1) (reg_of_regs (by rw [hfields]) _ _)
  have h30 : Counted s (bump (bump w .flash 0x28 1) .flash 0x30 1) .flash 0x30 1 := by
    refine Counted.since (counted_bump _ .flash 0x30 1) (l := [regAddr .flash 0x28]) ?_ (by simp [regAddr])
    exact fun a ha => (regsBut_bump w .flash 0x28 1 a ha).trans (by rw [hfields])
  have hcounts : FlashBut [regAddr .flash 0x28, regAddr .flash 0x30] w (bump (bump w .flash 0x28 1) .flash 0x30 1) :=
    (FlashBut.of_handedBut (handedBut_bump w 1 (by simp))).trans (.of_handedBut (handedBut_bump _ 1 (by simp)))
  have hmap : mapped v m c.cmd.nsid g = some (loc plane b.1 b.2.pages.length) := by
    rw [mapped_eq, modAt, hmods, show (bump (bump w .flash 0x28 1) .flash 0x30 1).flash.modules = _ from hwmods, tget_tset_same]
    exact hwmap
  refine ⟨_, granuleProgram_next hc hop hstarted hy hnext hleft hplace, ?_, ?_, ?_, ?_, ?_, ?_⟩
  · rw [hshed.data, hdata]
    exact hwdata ▸ wroteMem_memWrite ..
  · rw [hshed.mapped, hmap]
    rfl
  · exact (h28.of_regs (by rw [hv])).regsBut hshed.regsBut (by simp [regAddr, blkBase])
  · exact (h30.of_regs (by rw [hv])).regsBut hshed.regsBut (by simp [regAddr, blkBase])
  · rw [hshed.nss, hnss]
    exact hwnss
  · exact (((FlashBut.of_flash hfields _).trans hcounts).trans (.of_flash hv _)).trans (.of_shed hshed _)

end Sys2Proof.Machine
end

section
namespace Sys2Proof.Machine

/-! ### NS_DELETE_END -/

/-- A module that maps no granule and holds no heat of a namespace. -/
def dropNs (nsid : Nat) (x : Module) : Module :=
  { x with map := x.map.filter (fun e => decide (e.1 / 2 ^ 44 ≠ nsid)), heat := x.heat.filter (fun e => decide (e.1 / 2 ^ 32 ≠ nsid)) }

/-- The state without a namespace: its record, its maps, its bytes and its seals are gone (R309). -/
def withoutNs (s : State) (nsid : Nat) : State :=
  { s with flash := { s.flash with
      modules := s.flash.modules.map (fun p => (p.1, dropNs nsid p.2)), nss := tdel s.flash.nss nsid,
      data := memZero s.flash.data (nsid * 2 ^ 58) (2 ^ 58), seals := memDrop s.flash.seals (gkey nsid 0) (2 ^ 44) } }

section
variable (s : State) (nsid : Nat)

theorem nsAt_withoutNs_same : nsAt (withoutNs s nsid) nsid = none := tget_tdel_same ..

theorem nsAt_withoutNs_ne {i : Nat} (h : i ≠ nsid) : nsAt (withoutNs s nsid) i = nsAt s i := tget_tdel_ne _ _ _ h

theorem memByte_withoutNs (a : Nat) : (a / 2 ^ 58 = nsid → memByte (withoutNs s nsid).flash.data a = 0) ∧
    (a / 2 ^ 58 ≠ nsid → memByte (withoutNs s nsid).flash.data a = memByte s.flash.data a) := by
  have hbyte : memByte (withoutNs s nsid).flash.data a =
      if nsid * 2 ^ 58 ≤ a ∧ a < nsid * 2 ^ 58 + 2 ^ 58 then 0 else memByte s.flash.data a := memByte_memZero ..
  rw [hbyte]
  exact ⟨fun h => if_pos (by omega), fun h => if_neg (by omega)⟩

theorem mapped_withoutNs (m : Nat) {g : Nat} (hg : g < 2 ^ 44) : mapped (withoutNs s nsid) m nsid g = none := by
  have hmod : modAt (withoutNs s nsid) m = (modAt s m).map (dropNs nsid) := tget_map ..
  rw [mapped_eq, hmod]
  cases modAt s m with
  | none => rfl
  | some x =>
    have hkey : gkey nsid g / 2 ^ 44 = nsid := by
      unfold gkey
      omega
    exact (tget_filter_key x.map (fun i => decide (i / 2 ^ 44 ≠ nsid)) _).trans (if_neg (by simpa using hkey))

end

/-- The deletions of a namespace that have begun. -/
def deletions (s : State) (nsid : Nat) : List Outstanding :=
  s.flash.cmds.filter fun c => decide (c.op = 0x07) && c.started && decide (c.cmd.nsid = nsid)

/-- Deletions of a namespace completed. -/
def endDeletions (s : State) (nsid : Nat) (l : List Outstanding) : State := l.foldl (fun s c => storDone s c 0 nsid 0 0 []) s

theorem shed_endDeletions (s : State) (nsid : Nat) (l : List Outstanding) : Shed s (endDeletions s nsid l) :=
  Shed.foldl _ (fun s c => shed_storDone s c 0 nsid 0 0 []) l s

/-- A deletion with no block left to visit ends (R309). -/
theorem nsDeleteEnd_ends {s : State} {nsid : Nat} {y : Namespace} (hy : nsAt s nsid = some y) (hstate : nsState s y = .deleting)
    (hvisits : y.visits = []) :
    ∃ v l, Journalled s v ∧ Does (.nsDeleteEnd nsid) s (pumpFlash (endDeletions (withoutNs v nsid) nsid l)) := by
  refine ⟨journalAll s (nsPorts s y) .nsDeleteEnd nsid, deletions (journalAll s (nsPorts s y) .nsDeleteEnd nsid) nsid,
    journalled_journalAll .., ?_⟩
  show execNsDeleteEnd nsid s = _
  unfold execNsDeleteEnd
  simp only [hy]
  exact if_neg (by simp [hstate, hvisits])

theorem nsDeleteEnd_does (s : State) (nsid : Nat) (y : Namespace) (hy : nsAt s nsid = some y) (hstate : nsState s y = .deleting)
    (hvisits : y.visits = []) (hw : NoneWaiting s) :
    ∃ u, Does (.nsDeleteEnd nsid) s u ∧ nsAt u nsid = none ∧ (∀ i, i ≠ nsid → nsAt u i = nsAt s i) ∧
      (∀ a, (a / 2 ^ 58 = nsid → memByte u.flash.data a = 0) ∧
        (a / 2 ^ 58 ≠ nsid → memByte u.flash.data a = memByte s.flash.data a)) ∧
      (∀ m g, g < 2 ^ 44 → mapped u m nsid g = none) ∧ Handed { s with flash := u.flash } u := by
  obtain ⟨v, l, hv, hdoes⟩ := nsDeleteEnd_ends hy hstate hvisits
  have hshed := shed_endDeletions (withoutNs v nsid) nsid l
  have hcmds : ∀ d ∈ (endDeletions (withoutNs v nsid) nsid l).flash.cmds, d ∈ s.flash.cmds := fun d hd =>
    hv.cmds ▸ hshed.mem d hd
  rw [pumpFlash_of_noneWaiting (noneWaiting_of_subset hw hcmds)] at hdoes
  have hgone : FlashBut [] v (withoutNs v nsid) := .of_flash rfl []
  refine ⟨_, hdoes, ?_, fun i hi => ?_, fun a => ?_, fun m g hg => ?_, ?_⟩
  · rw [hshed.nsAt, nsAt_withoutNs_same]
  · rw [hshed.nsAt, nsAt_withoutNs_ne _ _ hi, hv.nsAt]
  · rw [hshed.data, ← hv.data]
    exact memByte_withoutNs v nsid a
  · rw [hshed.mapped, mapped_withoutNs v nsid m hg]
  · exact (((FlashBut.of_journalled hv []).trans hgone).trans (.of_shed hshed [])).handed

/-! ### Planes and blocks -/

@[simp] theorem planeAt_setPlane_same (x : Module) (p : Nat) (y : Plane) : planeAt (setPlane x p y) p = y := tgetD_tset_same ..

theorem planeAt_of_planes {x z : Module} (h : z.planes = x.planes) (p : Nat) : planeAt z p = planeAt x p := by
  unfold planeAt
  rw [h]

/-- Writing a block leaves the bad blocks bad: a good block reads what was written. -/
theorem blockAt_setBlock_same {y : Plane} {b : Nat} {k : FlashBlock} (h : blockAt y b = some k) (k' : FlashBlock) :
    blockAt (setBlock y b k') b = some k' := by
  unfold blockAt at h ⊢
  split at h
  · cases h
  · rename_i hgood
    exact (if_neg hgood).trans (congrArg some (tgetD_tset_same ..))

theorem factoryBlock_setBlock (y : Plane) (b : Nat) (k : FlashBlock) : factoryBlock (setBlock y b k) = factoryBlock y := rfl

theorem blockAt_setBlock_ne (y : Plane) {b i : Nat} (k : FlashBlock) (h : i ≠ b) : blockAt (setBlock y b k) i = blockAt y i := by
  unfold blockAt
  rw [factoryBlock_setBlock]
  unfold setBlock tgetD
  rw [tget_tset_ne _ _ _ _ h]

theorem mem_blocksWhere {y : Plane} {p : FlashBlock → Bool} {b : Nat × FlashBlock} (h : b ∈ blocksWhere y p) :
    blockAt y b.1 = some b.2 ∧ p b.2 = true := by
  obtain ⟨i, -, hi⟩ := List.mem_filterMap.mp h
  cases hk : blockAt y i with
  | none => simp [hk] at hi
  | some k =>
    simp only [hk] at hi
    split at hi
    · rename_i hp
      obtain rfl := Option.some.inj hi
      exact ⟨hk, hp⟩
    · cases hi

/-- The block to allocate is one of those offered. -/
theorem leastWorn_mem {l : List (Nat × FlashBlock)} {b : Nat × FlashBlock} (h : leastWorn l = some b) : b ∈ l :=
  mem_sortBy.mp (List.mem_of_head? h)

/-- The block allocated is good and free. -/
theorem leastWorn_free {y : Plane} {r : BlockRole} {b : Nat × FlashBlock} (h : leastWorn (freeOf y r) = some b) :
    blockAt y b.1 = some b.2 ∧ b.2.state = .free := by
  obtain ⟨hb, hp⟩ := mem_blocksWhere (leastWorn_mem h)
  simp only [Bool.and_eq_true, decide_eq_true_eq] at hp
  exact ⟨hb, hp.2⟩

/-! ### Retirement and end of life -/

/-- The planes of every module, the data and the place of every command stay; commands may have completed. -/
structure PlanesKept (s u : State) : Prop where
  planes : ∀ i, (modAt u i).map Module.planes = (modAt s i).map Module.planes
  data : u.flash.data = s.flash.data
  cmds : ∀ d ∈ u.flash.cmds, d ∈ s.flash.cmds

namespace PlanesKept

theorem refl (s : State) : PlanesKept s s := ⟨fun _ => rfl, rfl, fun _ h => h⟩

theorem trans {s t u : State} (h : PlanesKept s t) (k : PlanesKept t u) : PlanesKept s u :=
  ⟨fun i => (k.planes i).trans (h.planes i), k.data.trans h.data, fun d hd => h.cmds d (k.cmds d hd)⟩

theorem foldl {α : Type} (f : State → α → State) (h : ∀ s x, PlanesKept s (f s x)) (l : List α) (s : State) :
    PlanesKept s (l.foldl f s) :=
  List.foldlRecOn (motive := PlanesKept s) _ _ (refl s) fun _ hu x _ => hu.trans (h _ x)

theorem of_shed {s u : State} (h : Shed s u) : PlanesKept s u := ⟨fun i => by rw [h.modAt], h.data, h.mem⟩

theorem of_flash {s u : State} (h : u.flash = s.flash) : PlanesKept s u := by
  refine ⟨fun i => ?_, by rw [h], fun d hd => h ▸ hd⟩
  unfold modAt
  rw [h]

theorem of_journalled {s u : State} (h : Journalled s u) : PlanesKept s u :=
  ⟨fun i => h.part Module.planes (fun _ => rfl) i, h.data, fun _ hd => h.cmds ▸ hd⟩

theorem setMod {s : State} {m : Nat} {x z : Module} (hx : modAt s m = some x) (hz : z.planes = x.planes) :
    PlanesKept s (setMod s m z) := by
  refine ⟨fun i => ?_, rfl, fun _ hd => hd⟩
  by_cases hi : i = m
  · rw [hi, modAt_setMod_same, hx, Option.map_some, Option.map_some, hz]
  · rw [modAt_setMod_ne _ _ hi]

end PlanesKept

theorem planesKept_setNs (s : State) (n : Nat) (y : Namespace) : PlanesKept s (setNs s n y) :=
  ⟨fun _ => rfl, rfl, fun _ h => h⟩

/-- End of life stops commands and makes namespaces READ_ONLY, and moves no data (R317). -/
theorem planesKept_endOfLife (s : State) (m : Nat) : PlanesKept s (endOfLife s m) := by
  unfold endOfLife
  split
  · exact .refl s
  · rename_i x hx
    split
    · exact .refl s
    · have hend (t : State) : PlanesKept t (eventPriv (setFlag t .flash 0x08 4) 0x08 m 0) :=
        .of_flash (handed_eventPriv (setFlag t .flash 0x08 4) 0x08 m 0).flash
      have hmark : PlanesKept s (setMod s m { x with eol := true }) := .setMod hx rfl
      have hreadOnly (s : State) (n : Nat × Namespace) : PlanesKept s
          (if n.2.state = .active then setNs s n.1 { n.2 with state := .readOnly } else s) := by
        split
        · exact planesKept_setNs ..
        · exact .refl s
      dsimp only
      refine PlanesKept.trans ?_ (hend _)
      refine PlanesKept.trans ?_ (.foldl _ (fun s c => .of_shed (shed_storDone ..)) _ _)
      exact hmark.trans (.foldl _ (fun s n => (hreadOnly s n).trans (.of_journalled (journalled_journalAll _ [m] .readOnly n.1))) _ _)

/-- A block that is allocated was free: writing it leaves any other as it is. -/
theorem blockAt_setBlock_allocated {y : Plane} {r : BlockRole} {a : Nat × FlashBlock} (ha : leastWorn (freeOf y r) = some a)
    {b : Nat} {k : FlashBlock} (hk : blockAt y b = some k) (hstate : k.state ≠ .free) (k' : FlashBlock) :
    blockAt (setBlock y a.1 k') b = some k := by
  obtain ⟨hgood, hfree⟩ := leastWorn_free ha
  rw [blockAt_setBlock_ne, hk]
  rintro rfl
  obtain rfl := Option.some.inj (hk.symm.trans hgood)
  exact hstate hfree

/-- A block taken out of service. -/
def retiredBlock (k : FlashBlock) : FlashBlock := { k with state := .retired, pages := [] }

/-- A plane with one spare less, exhausted with the last (R303, R317). -/
def fewerSpares (y : Plane) : Plane := { y with retired := y.retired + 1, exhausted := y.exhausted || decide (spareS y = 0) }

theorem blockAt_fewerSpares (y : Plane) (b : Nat) : blockAt (fewerSpares y) b = blockAt y b := rfl

theorem planesKept_ifEndOfLife (p : Prop) [Decidable p] (s : State) (m : Nat) : PlanesKept s (if p then endOfLife s m else s) := by
  split
  · exact planesKept_endOfLife s m
  · exact .refl s

/-- A block that retires stays RETIRED with no page, and nothing else of the modules but planes changes (R303, R317). -/
theorem retire_does {s : State} {m plane block : Nat} {x : Module} {k : FlashBlock} (hx : modAt s m = some x)
    (hk : blockAt (planeAt x plane) block = some k) :
    ∃ y, blockAt y block = some (retiredBlock k) ∧
      PlanesKept (setMod s m (journal (setPlane x plane y) .retire 0 plane block 0)) (retire s m plane block) := by
  have hgood : blockAt (fewerSpares (planeAt x plane)) block = some k := by rw [blockAt_fewerSpares, hk]
  have hretired := blockAt_setBlock_same hgood (retiredBlock k)
  unfold retire
  simp only [hx, hk]
  refine ⟨_, ?_, planesKept_ifEndOfLife ..⟩
  split
  · exact hretired
  · split
    · next a ha => exact blockAt_setBlock_allocated ha hretired (by simp [retiredBlock]) _
    · exact hretired

/-! ### BLOCK_ERASE_COMPLETE -/

theorem blockEraseComplete_completes (s : State) {m plane block : Nat} (ok : Bool) (hm : m < 8) (hp : plane < 256)
    (hb : block < 2484) : Completes (.blockEraseComplete m plane block ok) s := by
  show ∃ t, execBlockEraseComplete m plane block ok s = .next t
  unfold execBlockEraseComplete
  rw [if_neg (by omega)]
  repeat' split
  all_goals exact ⟨_, rfl⟩

/-- A block as its erase leaves it, before it may retire (R301). -/
def erased (k : FlashBlock) : FlashBlock := { k with erases := k.erases + 1, state := .free, pages := [], cls := 0 }

/-- A plane with a block of it erased; it goes on collecting only while free blocks are few (R302). -/
def erasedPlane (s : State) (y : Plane) (block : Nat) (k : FlashBlock) : Plane :=
  { setBlock y block (erased k) with
    collecting := y.collecting && decide ((freeOf (setBlock y block (erased k)) .qlc).length < gcHigh s) }

theorem blockAt_erasedPlane {y : Plane} {block : Nat} {k : FlashBlock} (hk : blockAt y block = some k) (s : State) :
    blockAt (erasedPlane s y block k) block = some (erased k) := by
  rw [← blockAt_setBlock_same hk (erased k)]
  rfl

/-- The module that stays once a block of it is erased: nothing is mapped to the block any more (R301). -/
def erasedModule (s : State) (x : Module) (plane block : Nat) (k : FlashBlock) : Module :=
  journal { setPlane x plane (erasedPlane s (planeAt x plane) block k) with
    map := x.map.filter fun e => decide (e.2 / 2 ^ 16 ≠ loc plane block 0 / 2 ^ 16) } .erase 0 plane block 0

theorem eraseDone_eq {s : State} {m plane block : Nat} {x : Module} {k : FlashBlock} (hx : modAt s m = some x)
    (hk : blockAt (planeAt x plane) block = some k) (ok : Bool) :
    eraseDone s m plane block ok = if ok = false ∨ eraseLimit k ≤ k.erases + 1
      then retire (setMod s m (erasedModule s x plane block k)) m plane block
      else setMod s m (erasedModule s x plane block k) := by
  unfold eraseDone
  simp only [hx, hk]
  rfl

theorem blockAt_erasedModule {s : State} {x : Module} {plane block : Nat} {k : FlashBlock}
    (hk : blockAt (planeAt x plane) block = some k) :
    blockAt (planeAt (erasedModule s x plane block k) plane) block = some (erased k) := by
  rw [planeAt_of_planes (z := erasedModule s x plane block k)
    (x := setPlane x plane (erasedPlane s (planeAt x plane) block k)) rfl, planeAt_setPlane_same]
  exact blockAt_erasedPlane hk s

theorem blockEraseComplete_does (s : State) (m plane block : Nat) (ok : Bool) (x : Module) (k : FlashBlock) (hm : m < 8)
    (hp : plane < 256) (hx : modAt s m = some x) (husable : modUsable x = true) (hrestored : x.restoring = false)
    (hvisit : visiting s m plane block = none) (hk : blockAt (planeAt x plane) block = some k) (hstate : k.state = .erasing)
    (hw : NoneWaiting s) :
    ∃ u z, Does (.blockEraseComplete m plane block ok) s u ∧ modAt u m = some z ∧ u.flash.data = s.flash.data ∧
      (∃ k', blockAt (planeAt z plane) block = some k' ∧ k'.erases = k.erases + 1 ∧ k'.pages = [] ∧
        (ok = true → k.erases + 1 < eraseLimit k → k'.state = .free) ∧
        (ok = false ∨ eraseLimit k ≤ k.erases + 1 → k'.state = .retired)) := by
  have hblock : block < 2484 := by
    unfold blockAt at hk
    split at hk
    · cases hk
    · omega
  have hdoes : Does (.blockEraseComplete m plane block ok) s (pumpFlash (eraseDone s m plane block ok)) := by
    show execBlockEraseComplete m plane block ok s = _
    unfold execBlockEraseComplete
    rw [if_neg (by omega)]
    simp only [hx, husable, hrestored, hvisit, hk, hstate]
    rfl
  have herased := blockAt_erasedModule (s := s) hk
  have hmod := modAt_setMod_same s m (erasedModule s x plane block k)
  by_cases hend : ok = false ∨ eraseLimit k ≤ k.erases + 1
  · obtain ⟨y, hy, hkept⟩ := retire_does hmod herased
    obtain ⟨z, hz, hplanes⟩ : ∃ z, modAt (retire (setMod s m (erasedModule s x plane block k)) m plane block) m = some z ∧
        z.planes = (setPlane (erasedModule s x plane block k) plane y).planes := by
      have := hkept.planes m
      rw [modAt_setMod_same, Option.map_some] at this
      exact Option.map_eq_some_iff.mp this
    rw [eraseDone_eq hx hk, if_pos hend, pumpFlash_of_noneWaiting (noneWaiting_of_subset hw hkept.cmds)] at hdoes
    refine ⟨_, z, hdoes, hz, hkept.data, retiredBlock (erased k), ?_, rfl, rfl, fun ht hlt => ?_, fun _ => rfl⟩
    · rw [planeAt_of_planes hplanes, planeAt_setPlane_same, hy]
    · rcases hend with hf | hle
      · rw [hf] at ht
        cases ht
      · omega
  · rw [eraseDone_eq hx hk, if_neg hend,
      pumpFlash_of_noneWaiting (s := setMod s m _) (noneWaiting_of_cmds hw rfl)] at hdoes
    exact ⟨_, _, hdoes, hmod, rfl, erased k, herased, rfl, rfl, fun _ _ => rfl, fun h => absurd h hend⟩

/-- Every event of the media completes in every state. -/
theorem mediaEvents_complete (s : State) (q tag g m plane block nsid : Nat) (ok : Bool) (f : Option Nat) :
    Completes (.mediaReadComplete q tag f) s ∧ Completes (.granuleProgramComplete q tag g ok) s ∧
    Completes (.nsDeleteEnd nsid) s ∧
    (m < 8 → plane < 256 → block < 2484 → Completes (.blockEraseComplete m plane block ok) s) := by
  refine ⟨mediaReadComplete_completes .., granuleProgramComplete_completes .., ?_, blockEraseComplete_completes s ok⟩
  show ∃ t, execNsDeleteEnd nsid s = .next t
  unfold execNsDeleteEnd
  dsimp only
  repeat' split
  all_goals exact ⟨_, rfl⟩

/-- Settles O36: what its planes serve next completes at once; what a block or a namespace leaves behind is gone. -/
theorem flashMediaEvents : Obligations.FlashMediaEvents :=
  ⟨mediaEvents_complete, mediaReadComplete_does, granuleProgramComplete_does,
    fun s q tag g _ _ ok _ _ _ _ _ _ _ _ => granuleProgramComplete_completes s q tag g ok, nsDeleteEnd_does, blockEraseComplete_does⟩

end Sys2Proof.Machine
end

section
namespace Sys2Proof.Machine

/-! ### The engine's commands complete -/

theorem engineEvents_complete (s : State) (m plane cls level : Nat) (hm : m < 8) (hp : plane < 256) (hc : cls < 3)
    (hmin : 1 ≤ level) (hmax : level ≤ 3) :
    Completes (.foldStart m plane cls) s ∧ Completes (.foldCommit m plane) s ∧ Completes (.garbageCollection m plane) s ∧
    Completes (.checkpoint m) s ∧ Completes (.heatHalving m) s ∧ Completes (.idleTimer m level) s ∧
    Completes (.moduleWake m) s ∧ Completes (.moduleLost m) s ∧ Completes (.flashRestoreComplete m) s := by
  refine ⟨?_, ?_, ?_, ?_, ?_, ?_, ?_, ?_, ?_⟩
  · show ∃ t, execFoldStart m plane cls s = .next t
    unfold execFoldStart
    rw [if_neg (by omega)]
    dsimp only
    repeat' split
    all_goals exact ⟨_, rfl⟩
  · show ∃ t, execFoldCommit m plane s = .next t
    unfold execFoldCommit
    rw [if_neg (by omega)]
    dsimp only
    repeat' split
    all_goals exact ⟨_, rfl⟩
  · show ∃ t, execGarbageCollection m plane s = .next t
    unfold execGarbageCollection
    rw [if_neg (by omega)]
    dsimp only
    repeat' split
    all_goals exact ⟨_, rfl⟩
  · show ∃ t, execCheckpoint m s = .next t
    unfold execCheckpoint
    repeat' split
    all_goals exact ⟨_, rfl⟩
  · show ∃ t, execHeatHalving m s = .next t
    unfold execHeatHalving
    repeat' split
    all_goals exact ⟨_, rfl⟩
  · show ∃ t, execIdleTimer m level s = .next t
    unfold execIdleTimer
    split
    · exact ⟨_, rfl⟩
    · rw [if_neg (by omega)]
      split
      · exact ⟨_, rfl⟩
      · exact ⟨_, rfl⟩
  · show ∃ t, execModuleWake m s = .next t
    unfold execModuleWake
    repeat' split
    all_goals exact ⟨_, rfl⟩
  · show ∃ t, execModuleLost m s = .next t
    unfold execModuleLost
    dsimp only
    repeat' split
    all_goals exact ⟨_, rfl⟩
  · show ∃ t, execFlashRestoreComplete m s = .next t
    unfold execFlashRestoreComplete
    dsimp only
    repeat' split
    all_goals exact ⟨_, rfl⟩

/-! ### CHECKPOINT, HEAT_HALVING, IDLE_TIMER, MODULE_WAKE -/

theorem onlyModule_setMod (s : State) (m : Nat) (x : Module) : OnlyModule s (setMod s m x) m :=
  ⟨fun _ hi => modAt_setMod_ne s x hi, rfl⟩

theorem checkpoint_does (s : State) (m : Nat) (x : Module) (hx : modAt s m = some x) (husable : modUsable x = true)
    (hrestored : x.restoring = false) :
    ∃ u, Does (.checkpoint m) s u ∧ modAt u m = some { x with journal := [], checkpoints := x.checkpoints + 1 } ∧
      OnlyModule s u m := by
  refine ⟨_, ?_, modAt_setMod_same s m _, onlyModule_setMod s m _⟩
  show execCheckpoint m s = _
  simp [execCheckpoint, hx, husable, hrestored]

/-- Halving every counter of a table and dropping those that reach 0 halves what each key reads (R299). -/
theorem tgetD_halved {t : Table Nat} {lo : Nat} (h : keysAbove lo t = true) (r : Nat) :
    tgetD ((t.map fun e => (e.1, e.2 / 2)).filter fun e => decide (e.2 ≠ 0)) r 0 = tgetD t r 0 / 2 := by
  induction t generalizing lo with
  | nil => simp [tgetD]
  | cons e t ih =>
    obtain ⟨k, v⟩ := e
    simp only [keysAbove, Bool.and_eq_true, decide_eq_true_eq] at h
    have hrest := ih h.2
    rw [List.map_cons, List.filter_cons]
    by_cases hr : r = k
    · subst hr
      have habove : tget t r = none := tget_below t r (r + 1) h.2 (by omega)
      split
      · simp [tgetD, tget]
      · rename_i hzero
        have hv : v / 2 = 0 := by
          rw [decide_eq_true_eq] at hzero
          exact not_not.mp hzero
        rw [hrest]
        simp [tgetD, tget, habove, hv]
    · split
      · simpa [tgetD, tget, hr] using hrest
      · simpa [tgetD, tget, hr] using hrest

theorem heatHalving_does (s : State) (m : Nat) (x : Module) (hx : modAt s m = some x) (husable : modUsable x = true)
    (hsorted : Table.sorted x.heat = true) (hdue : 1048576 * (x.halvings + 1) ≤ x.granuleWrites) :
    ∃ u z, Does (.heatHalving m) s u ∧ modAt u m = some z ∧ (∀ r, tgetD z.heat r 0 = tgetD x.heat r 0 / 2) ∧
      z = { x with heat := z.heat, halvings := x.halvings + 1 } ∧ OnlyModule s u m := by
  refine ⟨_, _, ?_, modAt_setMod_same s m { x with
    heat := (x.heat.map fun e => (e.1, e.2 / 2)).filter fun e => decide (e.2 ≠ 0), halvings := x.halvings + 1 },
    fun r => tgetD_halved hsorted r, rfl, onlyModule_setMod s m _⟩
  show execHeatHalving m s = _
  unfold execHeatHalving
  simp only [hx]
  exact if_neg (by simp [husable, hdue])

theorem idleTimer_does (s : State) (m level : Nat) (x : Module) (hx : modAt s m = some x) (hmin : 1 ≤ level) (hmax : level ≤ 3)
    (husable : modUsable x = true) (hrestored : x.restoring = false) (hawake : x.waking = false) (hdeeper : x.pstate < level)
    (hlimit : level ≤ x.psLimit) (hidle : idleMs s level ≠ 0) (hfree : t2Reserved s = false) (hquiet : modIdle s m x = true) :
    ∃ u, Does (.idleTimer m level) s u ∧ modAt u m = some { x with pstate := level } ∧ OnlyModule s u m := by
  refine ⟨_, ?_, modAt_setMod_same s m _, onlyModule_setMod s m _⟩
  show execIdleTimer m level s = _
  unfold execIdleTimer
  simp only [hx]
  rw [if_neg (by omega)]
  exact if_neg (by simp [husable, hrestored, hawake, hidle, hfree, hquiet]; omega)

theorem moduleWake_does (s : State) (m : Nat) (x : Module) (hx : modAt s m = some x) (husable : modUsable x = true)
    (hwaking : x.waking = true) (hw : NoneWaiting s) :
    ∃ u, Does (.moduleWake m) s u ∧ modAt u m = some { x with pstate := 0, waking := false, wakeFrame := 0 } ∧ OnlyModule s u m := by
  have hnone : NoneWaiting (setMod s m { x with pstate := 0, waking := false, wakeFrame := 0 }) := noneWaiting_of_cmds hw rfl
  refine ⟨_, ?_, modAt_setMod_same s m _, onlyModule_setMod s m _⟩
  show execModuleWake m s = _
  unfold execModuleWake
  simp only [hx]
  exact (if_neg (by simp [husable, hwaking])).trans (congrArg _ (pumpFlash_of_noneWaiting hnone))

/-! ### MODULE_LOST -/

/-- The state once a module has failed and its event has left, before the commands that need it complete (R318). -/
def lost (s : State) (m : Nat) (x : Module) : State :=
  eventPriv (setFlag (setMod s m { x with failed := true, waking := false, wakeFrame := 0 }) .flash 0x08 1) 0x09 m 0

/-- The commands that a lost module fails complete one after another, each with its own offset (R308, R313). -/
theorem moduleLost_ends {s : State} {m : Nat} {x : Module} (hx : modAt s m = some x) (husable : modUsable x = true) :
    ∃ l : List (Outstanding × Nat), Does (.moduleLost m) s
      (l.foldl (fun s p => storDone s p.1 0x0E p.1.cmd.nsid 0 p.2 []) (lost s m x)) := by
  show ∃ l : List (Outstanding × Nat), execModuleLost m s = .next (l.foldl _ (lost s m x))
  unfold execModuleLost
  simp only [hx]
  rw [if_neg (by simp [husable])]
  exact ⟨_, rfl⟩

theorem moduleLost_does (s : State) (m : Nat) (x : Module) (hx : modAt s m = some x) (husable : modUsable x = true) :
    ∃ u, Does (.moduleLost m) s u ∧ modAt u m = some { x with failed := true, waking := false, wakeFrame := 0 } ∧
      FlagUp u .flash 0x08 1 ∧ u.flash.data = s.flash.data ∧ u.flash.nss = s.flash.nss ∧
      HandedBut [regAddr .flash 0x08] { s with flash := u.flash } u := by
  obtain ⟨l, hdoes⟩ := moduleLost_ends hx husable
  have hshed := Shed.foldl _ (fun s (p : Outstanding × Nat) => shed_storDone s p.1 0x0E p.1.cmd.nsid 0 p.2 []) l (lost s m x)
  let v := setMod s m { x with failed := true, waking := false, wakeFrame := 0 }
  have hevent : Handed (setFlag v .flash 0x08 1) (lost s m x) := handed_eventPriv _ 0x09 m 0
  have hflag : FlagUp (lost s m x) .flash 0x08 1 :=
    hevent.flagUp (flagUp_setFlag v .flash 0x08 1 (by decide)) (by simp [regAddr, blkBase])
  have hmod : modAt (lost s m x) m = modAt v m := by
    unfold modAt
    rw [hevent.flash]
    rfl
  have hset : FlashBut [regAddr .flash 0x08] v (setFlag v .flash 0x08 1) :=
    .of_handedBut (handedBut_setFlag v 1 (List.mem_singleton_self _))
  refine ⟨_, hdoes, ?_, hflag.regsBut hshed.regsBut (by simp [regAddr, blkBase]), ?_, ?_, ?_⟩
  · rw [hshed.modAt, hmod, modAt_setMod_same]
  · rw [hshed.data, hevent.flash]
    rfl
  · rw [hshed.nss, hevent.flash]
    rfl
  · exact (((FlashBut.of_flash (u := v) rfl _).trans hset).trans (.of_handed hevent _)).trans (.of_shed hshed _)

end Sys2Proof.Machine
end

section
namespace Sys2Proof.Machine

/-! ### FLASH_RESTORE_COMPLETE -/

/-- A namespace whose deletion resumes from its last cursor on a module (R305 step 4). -/
def resumedNs (serial : Nat) (n : Namespace) : Namespace :=
  if n.state = .deleting ∧ n.serials.contains serial then
    { n with
      visits := (n.sinceCursor.filter fun v => decide (n.serials[v.1 / 256]? = some serial)).foldl
        (fun t v => tset t v.1 (v.2 ++ tgetD t v.1 [])) n.visits,
      sinceCursor := n.sinceCursor.filter fun v => !(decide (n.serials[v.1 / 256]? = some serial)) }
  else n

theorem serials_resumedNs (serial : Nat) (n : Namespace) : (resumedNs serial n).serials = n.serials := by
  unfold resumedNs
  split
  · rfl
  · rfl

/-- The deletions on a module resumed, before their flag is set. -/
def resumed (s : State) (serial : Nat) : State :=
  { s with flash := { s.flash with nss := s.flash.nss.map fun n => (n.1, resumedNs serial n.2) } }

theorem nsAt_resumed (s : State) (serial i : Nat) : nsAt (resumed s serial) i = (nsAt s i).map (resumedNs serial) := tget_map ..

theorem resumeDeletes_eq (s : State) (serial : Nat) :
    resumeDeletes s serial = resumed s serial ∨ resumeDeletes s serial = setFlag (resumed s serial) .flash 0x08 3 := by
  unfold resumeDeletes
  dsimp only
  split
  · exact .inr rfl
  · exact .inl rfl

/-- Resumed deletions change records of namespaces, and no flag but their own (R305 step 4). -/
theorem resumeDeletes_does (s : State) (serial : Nat) :
    (resumeDeletes s serial).flash = (resumed s serial).flash ∧ FlashBut [regAddr .flash 0x08] s (resumeDeletes s serial) ∧
      (FlagUp s .flash 0x08 2 → FlagUp (resumeDeletes s serial) .flash 0x08 2) := by
  have hfirst : FlashBut [regAddr .flash 0x08] s (resumed s serial) := .of_flash rfl _
  rcases resumeDeletes_eq s serial with h | h
  · rw [h]
    exact ⟨rfl, hfirst, id⟩
  · rw [h]
    have hflag := handedBut_setFlag (l := [regAddr .flash 0x08]) (resumed s serial) 3 (List.mem_singleton_self _)
    exact ⟨rfl, hfirst.trans (.of_handedBut hflag), fun hup => FlagUp.setFlag (s := resumed s serial) hup 3 (by decide)⟩

/-- The namespaces of a module's serial. -/
def nssOn (s : State) (serial : Nat) : List Nat := (s.flash.nss.filter fun n => n.2.serials.contains serial).map (·.1)

theorem mem_nssOn {s : State} {serial i : Nat} {y : Namespace} (hy : nsAt s i = some y) (hserial : serial ∈ y.serials) :
    i ∈ nssOn s serial :=
  List.mem_map.mpr ⟨(i, y), List.mem_filter.mpr ⟨mem_of_tget hy, by simpa using hserial⟩, rfl⟩

theorem nsAt_rollNamespaces (s : State) (serial i : Nat) :
    nsAt (rollNamespaces s serial) i = if !(nssOn s serial).contains i then nsAt s i else none :=
  tget_filter_key s.flash.nss (fun i => !(nssOn s serial).contains i) i

/-- A namespace that lost its record is gone (R305 step 3). -/
theorem not_on_rollNamespaces {s : State} {serial i : Nat} {y : Namespace} (hy : nsAt (rollNamespaces s serial) i = some y) :
    serial ∉ y.serials := by
  rw [nsAt_rollNamespaces] at hy
  split at hy
  · rename_i hkept
    exact fun hserial => by simp [mem_nssOn hy hserial] at hkept
  · cases hy

/-- Its bytes read 0 (R293). -/
theorem memByte_rollNamespaces {s : State} {serial a : Nat} {y : Namespace} (hy : nsAt s (a / 2 ^ 58) = some y)
    (hserial : serial ∈ y.serials) : memByte (rollNamespaces s serial).flash.data a = 0 := by
  have hget := tget_filter_key s.flash.data (fun i => !(nssOn s serial).contains (i / 2 ^ 58)) a
  rw [if_neg (by simpa using mem_nssOn hy hserial)] at hget
  unfold memByte tgetD
  rw [show tget (rollNamespaces s serial).flash.data a = none from hget]
  rfl

theorem modAt_rollNamespaces {s : State} {m : Nat} {x : Module} (serial : Nat) (hx : modAt s m = some x) :
    ∃ z, modAt (rollNamespaces s serial) m = some z ∧ z.restoring = x.restoring := by
  let drop (md : Module) : Module :=
    { md with map := md.map.filter (fun e => !(nssOn s serial).contains (e.1 / 2 ^ 44)),
              heat := md.heat.filter (fun e => !(nssOn s serial).contains (e.1 / 2 ^ 32)) }
  have hmap : modAt (rollNamespaces s serial) m = (modAt s m).map drop := tget_map s.flash.modules drop m
  rw [hx] at hmap
  exact ⟨drop x, hmap, rfl⟩

/-- A module that serves after its restore, its folds rolled back (R305 step 2). -/
def restored (x : Module) : Module := { x with restoring := false, planes := x.planes.map fun p => (p.1, rollFold p.2) }

/-- The state once a module formatted at first use serves, its event sent and the namespaces rolled back (R305, R306). -/
def formatted (s : State) (m : Nat) (x : Module) : State :=
  rollNamespaces (eventPriv (setFlag (setMod s m (restored x)) .flash 0x08 2) 0x07 m 0) x.serial

section
variable {s : State} {m : Nat} {x : Module}

theorem restore_ends (hx : modAt s m = some x) (husable : modUsable x = true) (hrestoring : x.restoring = true) :
    Does (.flashRestoreComplete m) s (pumpFlash (resumeDeletes
      (if x.firstUse then formatted s m x else setMod s m (restored x)) x.serial)) := by
  show execFlashRestoreComplete m s = _
  unfold execFlashRestoreComplete
  simp only [hx]
  exact if_neg (by simp [husable, hrestoring])

/-- What a state after a restore, of flash `f`, becomes: deletions resume, and nothing starts where nothing waits. -/
theorem restore_resumes (hx : modAt s m = some x) (husable : modUsable x = true) (hrestoring : x.restoring = true)
    (hw : NoneWaiting s) {b : State} (hb : (if x.firstUse then formatted s m x else setMod s m (restored x)) = b)
    (hcmds : b.flash.cmds = s.flash.cmds) : Does (.flashRestoreComplete m) s (resumeDeletes b x.serial) := by
  have hdoes := restore_ends hx husable hrestoring
  have hflash := (resumeDeletes_does b x.serial).1
  rwa [hb, pumpFlash_of_noneWaiting (noneWaiting_of_cmds hw (by rw [hflash]; exact hcmds))] at hdoes

end

theorem flashRestoreComplete_does (s : State) (m : Nat) (x : Module) (hx : modAt s m = some x) (husable : modUsable x = true)
    (hrestoring : x.restoring = true) (hw : NoneWaiting s) :
    ∃ u z, Does (.flashRestoreComplete m) s u ∧ modAt u m = some z ∧ z.restoring = false ∧
      (x.firstUse = false → z = { x with restoring := false, planes := z.planes } ∧ u.flash.data = s.flash.data) ∧
      (x.firstUse = true → FlagUp u .flash 0x08 2 ∧ (∀ i y, nsAt u i = some y → x.serial ∉ y.serials) ∧
        ∀ a, (∃ y, nsAt s (a / 2 ^ 58) = some y ∧ x.serial ∈ y.serials) → memByte u.flash.data a = 0) ∧
      HandedBut [regAddr .flash 0x08] { s with flash := u.flash } u := by
  let a := setMod s m (restored x)
  have hset : FlashBut [regAddr .flash 0x08] s a := .of_flash rfl _
  have hresume (b : State) := resumeDeletes_does b x.serial
  have hmod (b : State) : modAt (resumeDeletes b x.serial) m = modAt b m := by
    unfold modAt
    rw [(hresume b).1]
    rfl
  by_cases hfirst : x.firstUse = true
  · let e := eventPriv (setFlag a .flash 0x08 2) 0x07 m 0
    let b := formatted s m x
    have hevent : Handed (setFlag a .flash 0x08 2) e := handed_eventPriv ..
    have hflash : e.flash = a.flash := hevent.flash
    have hflag : FlagUp b .flash 0x08 2 :=
      hevent.flagUp (flagUp_setFlag a .flash 0x08 2 (by decide)) (by simp [regAddr, blkBase])
    have hdoes := restore_resumes hx husable hrestoring hw (b := b) (by simp [hfirst, b])
      (by show e.flash.cmds = _; rw [hflash]; rfl)
    obtain ⟨z, hz, hserves⟩ := modAt_rollNamespaces (s := e) (m := m) (x := restored x) x.serial
      (by unfold modAt; rw [hflash]; exact modAt_setMod_same s m (restored x))
    have hrolled : FlashBut [regAddr .flash 0x08] e b := .of_flash rfl _
    have hsetFlag : FlashBut [regAddr .flash 0x08] a (setFlag a .flash 0x08 2) :=
      .of_handedBut (handedBut_setFlag a 2 (List.mem_singleton_self _))
    refine ⟨_, z, hdoes, (hmod b).trans hz, hserves, fun h => absurd (h.symm.trans hfirst) nofun,
      fun _ => ⟨(hresume b).2.2 hflag, fun i y hy => ?_, fun k hk => ?_⟩, ?_⟩
    · unfold nsAt at hy
      rw [(hresume b).1] at hy
      obtain ⟨w, hw, rfl⟩ := Option.map_eq_some_iff.mp ((nsAt_resumed b x.serial i).symm.trans hy)
      rw [serials_resumedNs]
      exact not_on_rollNamespaces hw
    · obtain ⟨y, hy, hserial⟩ := hk
      rw [(hresume b).1]
      exact memByte_rollNamespaces (s := e) (by unfold nsAt; rw [hflash]; exact hy) hserial
    · exact ((((hset.trans hsetFlag).trans (.of_handed hevent _)).trans hrolled).trans (hresume b).2.1)
  · have hdoes := restore_resumes hx husable hrestoring hw (b := a) (by simp [hfirst, a]) rfl
    refine ⟨_, restored x, hdoes, (hmod a).trans (modAt_setMod_same ..), rfl, fun _ => ⟨rfl, ?_⟩,
      fun h => absurd h hfirst, hset.trans (hresume a).2.1⟩
    rw [(hresume a).1]
    rfl

end Sys2Proof.Machine
end

section
namespace Sys2Proof.Machine

/-! ### Blocks that wait for their erase -/

/-- On the module of port `m` only blocks changed: its map stays, and so does the fold of the plane. -/
structure BlocksOnly (m plane : Nat) (s u : State) : Prop where
  fields : u = { s with flash := { s.flash with modules := u.flash.modules } }
  mod : ∀ x, modAt s m = some x → ∃ z, modAt u m = some z ∧ z.map = x.map ∧ (planeAt z plane).fold = (planeAt x plane).fold

namespace BlocksOnly

theorem refl (m plane : Nat) (s : State) : BlocksOnly m plane s s := ⟨rfl, fun x hx => ⟨x, hx, rfl, rfl⟩⟩

theorem trans {m plane : Nat} {s t u : State} (h : BlocksOnly m plane s t) (k : BlocksOnly m plane t u) : BlocksOnly m plane s u := by
  refine ⟨?_, fun x hx => ?_⟩
  · rw [k.fields, h.fields]
  · obtain ⟨y, hy, hmap, hfold⟩ := h.mod x hx
    obtain ⟨z, hz, kmap, kfold⟩ := k.mod y hy
    exact ⟨z, hz, kmap.trans hmap, kfold.trans hfold⟩

theorem data {m plane : Nat} {s u : State} (h : BlocksOnly m plane s u) : u.flash.data = s.flash.data := by rw [h.fields]

theorem regs {m plane : Nat} {s u : State} (h : BlocksOnly m plane s u) : u.regs = s.regs := by rw [h.fields]

/-- After an operation on registers and modules, blocks change those of the modules alone. -/
theorem since {m plane : Nat} {s t u : State} (k : BlocksOnly m plane t u)
    (h : t = { s with regs := t.regs, flash := { s.flash with modules := t.flash.modules } }) :
    u = { s with regs := u.regs, flash := { s.flash with modules := u.flash.modules } } := by
  rw [k.fields, h]

end BlocksOnly

theorem planeAt_journal (x : Module) (kind : JournalKind) (n a b c p : Nat) : planeAt (journal x kind n a b c) p = planeAt x p := rfl

/-- A good block of a module waits for its erase. -/
theorem toErase_erasing {s : State} {m plane block : Nat} {x : Module} {k : FlashBlock} (hx : modAt s m = some x)
    (hk : blockAt (planeAt x plane) block = some k) : ∃ z k', modAt (toErase s m plane block) m = some z ∧
      blockAt (planeAt z plane) block = some k' ∧ k'.state = .erasing := by
  simp only [toErase, hx, hk]
  refine ⟨_, { k with state := .erasing, pages := [] }, modAt_setMod_same .., ?_, rfl⟩
  rw [planeAt_setPlane_same]
  exact blockAt_setBlock_same hk _

theorem blocksOnly_toErase (s : State) (m plane block : Nat) : BlocksOnly m plane s (toErase s m plane block) := by
  unfold toErase
  split
  · exact .refl m plane s
  · rename_i x hx
    dsimp only
    split
    · exact .refl m plane s
    · refine ⟨rfl, fun y hy => ?_⟩
      obtain rfl := Option.some.inj (hx.symm.trans hy)
      exact ⟨_, modAt_setMod_same .., rfl, by rw [planeAt_setPlane_same]; rfl⟩

/-- Blocks that wait for their erase one after another leave what one leaves. -/
theorem blocksOnly_foldl {α : Type} (m plane : Nat) {f : State → α → State} (hf : ∀ s b, BlocksOnly m plane s (f s b)) (l : List α)
    (s : State) : BlocksOnly m plane s (l.foldl f s) :=
  List.foldlRecOn (motive := BlocksOnly m plane s) _ _ (.refl m plane s) fun _ hu b _ => hu.trans (hf _ b)

/-- The first blocks of a list of pairs are set to wait for their erase. -/
theorem blocksOnly_eraseSources (m plane : Nat) (l : List (Nat × FlashBlock)) (s : State) :
    BlocksOnly m plane s (l.foldl (fun s b => toErase s m plane b.1) s) :=
  blocksOnly_foldl m plane (fun s b => blocksOnly_toErase s m plane b.1) l s

theorem modAt_bump (s : State) (b : Blk) (off n m : Nat) : modAt (bump s b off n) m = modAt s m := rfl

theorem bump_setMod_eq (s : State) (m : Nat) (x : Module) (b : Blk) (off n : Nat) : bump (setMod s m x) b off n =
    { s with regs := (bump (setMod s m x) b off n).regs,
             flash := { s.flash with modules := (bump (setMod s m x) b off n).flash.modules } } := rfl

/-! ### FOLD_START -/

/-- The granules that a fold of a class copies: the valid ones of its sources, oldest block first, a QLC block full (R300). -/
def foldable (s : State) (x : Module) (plane cls : Nat) : List (Nat × Nat) :=
  ((closedBuffer (planeAt x plane) cls).flatMap fun b => validOf s x plane b.1 b.2).take 3072

/-- The fold of a class into a block. -/
def newFold (s : State) (x : Module) (plane cls target : Nat) : Fold :=
  { cls := cls, target := target, sources := (closedBuffer (planeAt x plane) cls).map (·.1), granules := foldable s x plane cls }

/-- The plane that a fold has begun on. -/
def foldingPlane (s : State) (x : Module) (plane cls : Nat) (t : Nat × FlashBlock) : Plane :=
  { setBlock (planeAt x plane) t.1 { t.2 with state := .folding, cls := cls, pages := [] } with
    fold := some (newFold s x plane cls t.1) }

theorem foldStart_eq {s : State} {m plane cls : Nat} {x : Module} {t : Nat × FlashBlock} (hm : m < 8) (hp : plane < 256) (hc : cls < 3)
    (hx : modAt s m = some x) (husable : modUsable x = true) (hrestored : x.restoring = false)
    (hfold : (planeAt x plane).fold = none) (hdue : foldDue (planeAt x plane) cls = true)
    (ht : leastWorn (freeOf (planeAt x plane) .qlc) = some t) :
    Does (.foldStart m plane cls) s (if foldable s x plane cls = []
      then (closedBuffer (planeAt x plane) cls).foldl (fun s b => toErase s m plane b.1) s
      else setMod s m (journal (setPlane x plane (foldingPlane s x plane cls t)) .foldBegin 0 plane t.1 cls)) := by
  show execFoldStart m plane cls s = _
  unfold execFoldStart
  rw [if_neg (by omega)]
  simp only [hx, ht]
  rw [if_neg (by simp [husable, hrestored, hfold, hdue])]
  exact (apply_ite _ _ _ _).symm

theorem foldStart_does (s : State) (m plane cls : Nat) (x : Module) (t : Nat × FlashBlock) (hm : m < 8) (hp : plane < 256) (hc : cls < 3)
    (hx : modAt s m = some x) (husable : modUsable x = true) (hrestored : x.restoring = false)
    (hfold : (planeAt x plane).fold = none) (hdue : foldDue (planeAt x plane) cls = true)
    (ht : leastWorn (freeOf (planeAt x plane) .qlc) = some t) :
    (let sources := closedBuffer (planeAt x plane) cls
     let live := (sources.flatMap (fun b => validOf s x plane b.1 b.2)).take 3072
     ∃ u z, Does (.foldStart m plane cls) s u ∧ modAt u m = some z ∧ z.map = x.map ∧ u.flash.data = s.flash.data ∧
       (live ≠ [] → (planeAt z plane).fold =
         some { cls := cls, target := t.1, sources := sources.map (·.1), granules := live }) ∧
       (live = [] → (planeAt z plane).fold = none) ∧ u = { s with flash := { s.flash with modules := u.flash.modules } }) := by
  intro sources live
  have hdoes := foldStart_eq hm hp hc hx husable hrestored hfold hdue ht
  by_cases hlive : live = []
  · rw [if_pos (show foldable s x plane cls = [] from hlive)] at hdoes
    have herase := blocksOnly_eraseSources m plane (closedBuffer (planeAt x plane) cls) s
    obtain ⟨z, hz, hmap, hnone⟩ := herase.mod x hx
    exact ⟨_, z, hdoes, hz, hmap, herase.data, fun h => absurd hlive h, fun _ => hnone.trans hfold, herase.fields⟩
  · rw [if_neg (show foldable s x plane cls ≠ [] from hlive)] at hdoes
    refine ⟨_, _, hdoes, modAt_setMod_same .., rfl, rfl, fun _ => ?_, fun h => absurd h hlive, rfl⟩
    rw [planeAt_journal, planeAt_setPlane_same]
    rfl

/-! ### FOLD_COMMIT -/

/-- The namespace of a granule is gone or going: its map entries are not moved (R300, R305). -/
def nsDeleted (s : State) (key : Nat) : Bool :=
  match nsAt s (key / 2 ^ 44) with
  | some n => decide (n.state = .deleting)
  | none => true

theorem nsDeleted_of_alive {s : State} {key : Nat} (h : ∃ y, nsAt s (key / 2 ^ 44) = some y ∧ y.state ≠ .deleting) :
    nsDeleted s key = false := by
  obtain ⟨y, hy, hstate⟩ := h
  simp only [nsDeleted, hy]
  exact decide_eq_false hstate

/-- A map after one copied granule, which stood in place `q.2.2`, was mapped to its page `q.1` of a block, if it still stood
there. -/
def moveGranule (s : State) (plane target : Nat) (mp : Table Nat) (q : Nat × Nat × Nat) : Table Nat :=
  if tget mp q.2.1 = some q.2.2 ∧ nsDeleted s q.2.1 = false then tset mp q.2.1 (loc plane target q.1) else mp

theorem tget_moveGranule_ne (s : State) (plane target : Nat) (mp : Table Nat) {q : Nat × Nat × Nat} {key : Nat} (h : key ≠ q.2.1) :
    tget (moveGranule s plane target mp q) key = tget mp key := by
  unfold moveGranule
  split
  · exact tget_tset_ne _ _ _ _ h
  · rfl

theorem tget_moveGranules_other (s : State) (plane target : Nat) {l : List (Nat × Nat × Nat)} {key : Nat}
    (h : key ∉ l.map (·.2.1)) (mp : Table Nat) : tget (l.foldl (moveGranule s plane target) mp) key = tget mp key := by
  induction l generalizing mp with
  | nil => rfl
  | cons q l ih =>
    rw [List.map_cons, List.mem_cons, not_or] at h
    rw [List.foldl_cons, ih h.2, tget_moveGranule_ne s plane target mp h.1]

/-- Each granule is copied once, so that it stands where it stood until its own turn: then it moves. -/
theorem tget_moveGranules {s : State} {plane target : Nat} {l : List (Nat × Nat × Nat)} (hl : (l.map (·.2.1)).Nodup)
    {q : Nat × Nat × Nat} (hq : q ∈ l) {mp : Table Nat} (hstands : tget mp q.2.1 = some q.2.2) (halive : nsDeleted s q.2.1 = false) :
    tget (l.foldl (moveGranule s plane target) mp) q.2.1 = some (loc plane target q.1) := by
  induction l generalizing mp with
  | nil => cases hq
  | cons r l ih =>
    rw [List.map_cons, List.nodup_cons] at hl
    rw [List.foldl_cons]
    rcases List.mem_cons.mp hq with rfl | hq
    · rw [tget_moveGranules_other s plane target hl.1, moveGranule, if_pos ⟨hstands, halive⟩, tget_tset_same]
    · have hne : q.2.1 ≠ r.2.1 := fun h => hl.1 (h ▸ List.mem_map_of_mem hq)
      exact ih hl.2 hq ((tget_moveGranule_ne s plane target mp hne).trans hstands)

/-- The copied granules with their pages in the target. -/
def foldPages (f : Fold) : List (Nat × Nat × Nat) := (List.range f.granules.length).zip f.granules

theorem keys_foldPages (f : Fold) : (foldPages f).map (·.2.1) = f.granules.map (·.1) := by
  have h : (foldPages f).map Prod.snd = f.granules := List.map_snd_zip (by simp)
  calc (foldPages f).map (·.2.1) = ((foldPages f).map Prod.snd).map (·.1) := List.map_map.symm
    _ = f.granules.map (·.1) := by rw [h]

theorem mem_foldPages {f : Fold} {i : Nat} {q : Nat × Nat} (h : f.granules[i]? = some q) : (i, q) ∈ foldPages f := by
  have hi : i < f.granules.length := (List.getElem?_eq_some_iff.mp h).1
  exact List.mem_of_getElem? (i := i) (List.getElem?_zip_eq_some.mpr ⟨by simp [hi], h⟩)

/-- The module once the fold of a plane has committed: the target closed, the copied granules mapped to it (R300). -/
def committed (s : State) (x : Module) (plane : Nat) (f : Fold) (k : FlashBlock) : Module :=
  let pages := f.granules.map (fun g => some g.1) ++ List.replicate (3072 - f.granules.length) none
  let y := setBlock { planeAt x plane with fold := none } f.target
    { k with state := .closed, pages := pages, age := x.granuleWrites }
  journal { setPlane x plane y with
    map := (foldPages f).foldl (moveGranule s plane f.target) x.map, qlcGranules := x.qlcGranules + 3072 } .foldCommit 0 plane f.target f.cls

theorem fold_committed (s : State) (x : Module) (plane : Nat) (f : Fold) (k : FlashBlock) :
    (planeAt (committed s x plane f k) plane).fold = none := by
  unfold planeAt committed setPlane journal
  rw [tgetD_tset_same]
  rfl

/-- A fold commits: its sources that hold nothing valid any more wait for their erase (R300). -/
theorem foldCommit_eq {s : State} {m plane : Nat} {x : Module} {f : Fold} {k : FlashBlock} (hm : m < 8) (hp : plane < 256)
    (hx : modAt s m = some x) (hfold : (planeAt x plane).fold = some f) (husable : modUsable x = true)
    (hrestored : x.restoring = false) (hk : blockAt (planeAt x plane) f.target = some k) :
    ∃ l : List Nat, Does (.foldCommit m plane) s (l.foldl (fun s b => toErase s m plane b)
      (bump (setMod s m (committed s x plane f k)) .flash 0x38 3072)) := by
  show ∃ l : List Nat, execFoldCommit m plane s = .next (l.foldl _ (bump (setMod s m (committed s x plane f k)) .flash 0x38 3072))
  unfold execFoldCommit
  rw [if_neg (by omega)]
  simp only [hx, hfold]
  rw [if_neg (by simp [husable, hrestored])]
  simp only [hk]
  exact ⟨_, rfl⟩

theorem foldCommit_does (s : State) (m plane : Nat) (x : Module) (f : Fold) (k : FlashBlock) (hm : m < 8) (hp : plane < 256)
    (hx : modAt s m = some x) (hfold : (planeAt x plane).fold = some f) (husable : modUsable x = true)
    (hrestored : x.restoring = false) (hk : blockAt (planeAt x plane) f.target = some k) (honce : (f.granules.map (·.1)).Nodup) :
    ∃ u z, Does (.foldCommit m plane) s u ∧ modAt u m = some z ∧ (planeAt z plane).fold = none ∧
      (∀ i q, f.granules[i]? = some q → tget x.map q.1 = some q.2 →
        (∃ y, nsAt s (q.1 / 2 ^ 44) = some y ∧ y.state ≠ .deleting) →
        tget z.map q.1 = some (plane * 2 ^ 32 + f.target * 2 ^ 16 + i)) ∧
      (∀ key, key ∉ f.granules.map (·.1) → tget z.map key = tget x.map key) ∧
      Counted s u .flash 0x38 3072 ∧ RegsBut [regAddr .flash 0x38] s u ∧
      u = { s with regs := u.regs, flash := { s.flash with modules := u.flash.modules } } := by
  obtain ⟨l, hdoes⟩ := foldCommit_eq hm hp hx hfold husable hrestored hk
  let w := setMod s m (committed s x plane f k)
  let v := bump w .flash 0x38 3072
  let u := l.foldl (fun s b => toErase s m plane b) v
  have herase : BlocksOnly m plane v u := blocksOnly_foldl m plane (fun s b => blocksOnly_toErase s m plane b) l v
  have hmod : modAt v m = some (committed s x plane f k) := (modAt_bump w .flash 0x38 3072 m).trans (modAt_setMod_same s m _)
  obtain ⟨z, hz, hmap, hnone⟩ := herase.mod (committed s x plane f k) hmod
  have hcount : Counted s v .flash 0x38 3072 := counted_bump w .flash 0x38 3072
  have hregs : RegsBut [regAddr .flash 0x38] s v := regsBut_bump w .flash 0x38 3072
  have hfields : v = { s with regs := v.regs, flash := { s.flash with modules := v.flash.modules } } :=
    bump_setMod_eq s m (committed s x plane f k) .flash 0x38 3072
  have hended : (planeAt z plane).fold = none := hnone.trans (fold_committed s x plane f k)
  refine ⟨u, z, hdoes, hz, hended, fun i q hq hstands halive => ?_, fun key hkey => ?_,
    hcount.of_regs herase.regs, hregs.of_regs herase.regs, herase.since hfields⟩
  · rw [hmap]
    exact tget_moveGranules (keys_foldPages f ▸ honce) (mem_foldPages hq) hstands (nsDeleted_of_alive halive)
  · rw [hmap]
    exact tget_moveGranules_other s plane f.target (keys_foldPages f ▸ hkey) x.map

/-! ### GARBAGE_COLLECTION -/

theorem bump_bump_setMod_eq (s : State) (m : Nat) (x y : Module) (n : Nat) :
    let c := bump (bump (setMod (setMod s m x) m y) .flash 0x40 n) .flash 0x38 n
    c = { s with regs := c.regs, flash := { s.flash with modules := c.flash.modules } } := rfl

/-- Whether a block is good is for the bad-block list alone. -/
theorem blockAt_isSome_of_bad {y z : Plane} {b : Nat} (hbad : z.bad = y.bad) (h : (blockAt y b).isSome = true) :
    (blockAt z b).isSome = true := by
  unfold blockAt at h ⊢
  rw [hbad]
  split at h
  · cases h
  · rename_i hgood
    rw [if_neg hgood]
    rfl

theorem bad_collectOne (x : Module) (plane key : Nat) : (planeAt (collectOne x plane key) plane).bad = (planeAt x plane).bad := by
  unfold collectOne
  dsimp only
  split
  · rfl
  · unfold planeAt setPlane journal
    rw [tgetD_tset_same]
    rfl

/-- The module once the granules of a list are collected. -/
def collected (x : Module) (plane : Nat) (l : List (Nat × Nat)) : Module := l.foldl (fun x v => collectOne x plane v.1) x

theorem bad_collected (x : Module) (plane : Nat) (l : List (Nat × Nat)) :
    (planeAt (collected x plane l) plane).bad = (planeAt x plane).bad :=
  List.foldlRecOn (motive := fun z => (planeAt z plane).bad = (planeAt x plane).bad) _ _ rfl
    fun _ hz v _ => (bad_collectOne _ plane v.1).trans hz

theorem collectBlock_eq {s : State} {m plane block : Nat} {x : Module} {k : FlashBlock} (hx : modAt s m = some x)
    (hk : blockAt (planeAt x plane) block = some k) :
    collectBlock s m plane block = bump (bump (setMod s m (collected x plane (validOf s x plane block k)))
      .flash 0x40 (validOf s x plane block k).length) .flash 0x38 (validOf s x plane block k).length := by
  simp only [collectBlock, hx, hk]
  rfl

/-- The module of a plane that has begun to collect. -/
def collecting (x : Module) (plane : Nat) : Module := setPlane x plane { planeAt x plane with collecting := true }

theorem blockAt_collecting (x : Module) (plane block : Nat) :
    blockAt (planeAt (collecting x plane) plane) block = blockAt (planeAt x plane) block := by
  rw [collecting, planeAt_setPlane_same]
  rfl

theorem garbageCollection_eq {s : State} {m plane v : Nat} {x : Module} (hm : m < 8) (hp : plane < 256)
    (hx : modAt s m = some x) (husable : modUsable x = true) (hrestored : x.restoring = false) (hv : gcVictim s x plane = some v)
    (hfew : (freeOf (planeAt x plane) .qlc).length < gcLow s ∨
      ((planeAt x plane).collecting = true ∧ (freeOf (planeAt x plane) .qlc).length < gcHigh s)) :
    Does (.garbageCollection m plane) s (toErase (collectBlock (setMod s m (collecting x plane)) m plane v) m plane v) := by
  show execGarbageCollection m plane s = _
  unfold execGarbageCollection
  rw [if_neg (by omega)]
  simp only [hx, hv]
  rw [if_neg (by simp [husable, hrestored]), if_neg]
  · rfl
  · rintro ⟨hlow, hstop⟩
    rcases hfew with h | ⟨hcol, h⟩
    · omega
    · rcases hstop with hs | hs
      · simp [hcol] at hs
      · omega

theorem garbageCollection_does (s : State) (m plane v : Nat) (x : Module) (k : FlashBlock) (hm : m < 8) (hp : plane < 256)
    (hx : modAt s m = some x) (husable : modUsable x = true) (hrestored : x.restoring = false) (hv : gcVictim s x plane = some v)
    (hk : blockAt (planeAt x plane) v = some k)
    (hfew : (freeOf (planeAt x plane) .qlc).length < gcLow s ∨
      ((planeAt x plane).collecting = true ∧ (freeOf (planeAt x plane) .qlc).length < gcHigh s)) :
    ∃ u z k', Does (.garbageCollection m plane) s u ∧ modAt u m = some z ∧ blockAt (planeAt z plane) v = some k' ∧
      k'.state = .erasing ∧ Counted s u .flash 0x40 (validOf s x plane v k).length ∧
      RegsBut [regAddr .flash 0x38, regAddr .flash 0x40] s u ∧
      u = { s with regs := u.regs, flash := { s.flash with modules := u.flash.modules } } := by
  let live := validOf s x plane v k
  let x' := collected (collecting x plane) plane live
  let w := setMod (setMod s m (collecting x plane)) m x'
  let c := bump (bump w .flash 0x40 live.length) .flash 0x38 live.length
  have hdoes := garbageCollection_eq hm hp hx husable hrestored hv hfew
  have hcollect : collectBlock (setMod s m (collecting x plane)) m plane v = c :=
    collectBlock_eq (modAt_setMod_same ..) ((blockAt_collecting x plane v).trans hk)
  obtain ⟨k', hk'⟩ := Option.isSome_iff_exists.mp (blockAt_isSome_of_bad (bad_collected (collecting x plane) plane live)
    (by rw [blockAt_collecting, hk]; rfl : (blockAt (planeAt (collecting x plane) plane) v).isSome = true))
  obtain ⟨z, k'', hz, hk'', herasing⟩ := toErase_erasing (s := c) (modAt_setMod_same (setMod s m (collecting x plane)) m x') hk'
  have herase : BlocksOnly m plane c (toErase c m plane v) := blocksOnly_toErase c m plane v
  have hcount : Counted s (bump w .flash 0x40 live.length) .flash 0x40 live.length := counted_bump w .flash 0x40 live.length
  have h38 : RegsBut [regAddr .flash 0x38] (bump w .flash 0x40 live.length) c := regsBut_bump _ .flash 0x38 live.length
  have h40 : RegsBut [regAddr .flash 0x38, regAddr .flash 0x40] s (bump w .flash 0x40 live.length) :=
    (regsBut_bump w .flash 0x40 live.length).mono (by simp)
  have hfields : c = { s with regs := c.regs, flash := { s.flash with modules := c.flash.modules } } :=
    bump_bump_setMod_eq s m (collecting x plane) x' live.length
  rw [hcollect] at hdoes
  refine ⟨_, z, k'', hdoes, hz, hk'', herasing, ?_, ?_, herase.since hfields⟩
  · exact (hcount.regsBut h38 (by simp [regAddr])).of_regs herase.regs
  · exact (h40.trans (h38.mono (by simp))).of_regs herase.regs

/-- Settles O37: folds and collection change maps, blocks and counters alone; the other events are single updates of a module,
with its event and the commands that it fails. -/
theorem flashEngineEvents : Obligations.FlashEngineEvents :=
  ⟨engineEvents_complete, foldStart_does, foldCommit_does, garbageCollection_does, checkpoint_does, heatHalving_does,
    idleTimer_does, moduleWake_does, moduleLost_does, flashRestoreComplete_does⟩

end Sys2Proof.Machine
end

section
namespace Sys2Proof.Machine

/-! ### What no command touches but FW_CONFIRM

The mask ROM (R371), the anti-rollback counter (R374) and the commands that wait (log entry 1): one lemma for each operation of
the model, in its order. Only FW_CONFIRM moves the counter. -/

/-- The mask ROM, the anti-rollback counter and the waiting commands. -/
def ground (s : State) : Rom × Nat × List Instr := (s.rom, s.nv.counter, s.pending)

/-- A command that answers a next state leaves the ground as it was. -/
def GroundKept (s : State) (r : Res) : Prop := ∀ t, r = .next t → ground t = ground s

@[simp] theorem ground_with (s : State) (dev : DevState) (reason : Nat) (pins : Pins) (regs : Table Word) (frame : FrameTimer)
    (img : Loader) (adm : Admission) (reqs : Table Request) (hold : List Fragment) (tiles : Table Tile) (spires : Table Spire)
    (dome : List Token) (lowered : Table Word) (search : Search) (feat : Features) (text : TextEngine) (serv : Serving)
    (tier : Tiers) (flash : Flash) (port : Port) (sec : Security) (belfry : Belfry) (lantern : Lantern) (nv : SecureFlash)
    (power : Power) (out : List Out) (fresh : Nat) (h : nv.counter = s.nv.counter) :
    ground { s with dev := dev, reason := reason, pins := pins, regs := regs, frame := frame, img := img, adm := adm,
                    reqs := reqs, hold := hold, tiles := tiles, spires := spires, dome := dome, lowered := lowered,
                    search := search, feat := feat, text := text, serv := serv, tier := tier, flash := flash, port := port,
                    sec := sec, belfry := belfry, lantern := lantern, nv := nv, power := power, out := out,
                    fresh := fresh } = ground s := by
  unfold ground
  rw [h]

@[simp] theorem ground_ite (c : Prop) [Decidable c] (s t : State) :
    ground (if c then s else t) = if c then ground s else ground t := apply_ite ground c s t

@[simp] theorem ground_foldl {α : Type} (f : State → α → State) (h : ∀ s x, ground (f s x) = ground s) (l : List α) (s : State) :
    ground (l.foldl f s) = ground s := foldl_keeps ground f h l s

theorem ground_foldl_fst {α β : Type} (f : State × β → α → State × β) (h : ∀ p x, ground (f p x).1 = ground p.1) (l : List α)
    (p : State × β) : ground (l.foldl f p).1 = ground p.1 :=
  List.foldlRecOn (motive := fun q => ground q.1 = ground p.1) l f rfl fun q hq x _ => (h q x).trans hq

@[simp] theorem groundKept_next (s t : State) : GroundKept s (.next t) ↔ ground t = ground s :=
  ⟨fun h => h t rfl, fun h u hu => by cases hu; exact h⟩

@[simp] theorem groundKept_malformed (s : State) (what : String) : GroundKept s (malformed what) :=
  fun _ h => nomatch h

theorem GroundKept.of_eq {s u : State} {r : Res} (h : GroundKept u r) (e : ground u = ground s) : GroundKept s r :=
  fun t ht => (h t ht).trans e

/-! ### Registers -/

@[simp] theorem ground_setReg (s : State) (b : Blk) (off : Nat) (v : Word) : ground (setReg s b off v) = ground s := by
  simp [setReg]

@[simp] theorem ground_setFld (s : State) (b : Blk) (off lo n v : Nat) : ground (setFld s b off lo n v) = ground s := by
  simp [setFld]

@[simp] theorem ground_setFlag (s : State) (b : Blk) (off i : Nat) : ground (setFlag s b off i) = ground s := by simp [setFlag]

@[simp] theorem ground_bump (s : State) (b : Blk) (off n : Nat) : ground (bump s b off n) = ground s := by simp [bump]

@[simp] theorem ground_setEnable (s : State) (b : Blk) (on : Bool) : ground (setEnable s b on) = ground s := by simp [setEnable]

end Sys2Proof.Machine
end

section
namespace Sys2Proof.Machine

/-! ### Tables, messages, the log and detections: what is left untouched -/

@[simp] theorem ground_queueWake (s : State) (d port : Nat) : ground (queueWake s d port) = ground s := by simp [queueWake]

@[simp] theorem ground_gateDomains (s : State) (l : List Nat) : ground (gateDomains s l) = ground s := by simp [gateDomains]

@[simp] theorem ground_setTile (s : State) (t : Nat) (x : Tile) : ground (setTile s t x) = ground s := by simp [setTile]

@[simp] theorem ground_setSpire (s : State) (p : Nat) (x : Spire) : ground (setSpire s p x) = ground s := by simp [setSpire]

@[simp] theorem ground_setReq (s : State) (e : Nat) (r : Request) : ground (setReq s e r) = ground s := by simp [setReq]

@[simp] theorem ground_updReq (s : State) (e : Nat) (f : Request → Request) : ground (updReq s e f) = ground s := by
  unfold updReq
  repeat' split
  all_goals simp

@[simp] theorem ground_setSess (s : State) (n : Nat) (x : Session) : ground (setSess s n x) = ground s := by simp [setSess]

@[simp] theorem ground_setCtx (s : State) (c : Nat) (x : Ctx) : ground (setCtx s c x) = ground s := by simp [setCtx]

@[simp] theorem ground_saveMgmt (s : State) (b : Blk) (off : Nat) (v : Word) : ground (saveMgmt s b off v) = ground s := by
  unfold saveMgmt
  dsimp only
  repeat' split
  all_goals rfl

@[simp] theorem ground_emitOut (s : State) (o : Out) : ground (emitOut s o) = ground s := by simp [emitOut]

@[simp] theorem ground_sendPacket (s : State) (n q : Nat) (x : Session) (y : QueueSt) :
    ground (sendPacket s n q x y) = ground s := by simp [sendPacket]

@[simp] theorem ground_pump (s : State) (n q fuel : Nat) : ground (pump s n q fuel) = ground s := by
  induction fuel generalizing s with
  | zero => rfl
  | succ fuel ih =>
    unfold pump
    repeat' split
    all_goals simp [ih]

@[simp] theorem ground_pumpAll (s : State) (n q : Nat) : ground (pumpAll s n q) = ground s := by
  unfold pumpAll
  repeat' split
  all_goals simp

@[simp] theorem ground_sendMsg (s : State) (n q type tag : Nat) (body : List Byte) :
    ground (sendMsg s n q type tag body) = ground s := by
  unfold sendMsg
  repeat' split
  all_goals simp

@[simp] theorem ground_sendCtl (s : State) (n type tag : Nat) (body : List Byte) :
    ground (sendCtl s n type tag body) = ground s := by
  unfold sendCtl
  repeat' split
  all_goals simp

@[simp] theorem ground_eventTo (s : State) (n code arg0 arg1 : Nat) : ground (eventTo s n code arg0 arg1) = ground s := by
  simp [eventTo]

@[simp] theorem ground_eventAll (s : State) (code arg0 arg1 : Nat) : ground (eventAll s code arg0 arg1) = ground s := by
  simp [eventAll]

@[simp] theorem ground_eventPriv (s : State) (code arg0 arg1 : Nat) : ground (eventPriv s code arg0 arg1) = ground s := by
  simp [eventPriv]

@[simp] theorem ground_storeLog (s : State) (e : LogEntry) : ground (storeLog s e) = ground s := by
  unfold storeLog
  dsimp only
  split
  all_goals rfl

@[simp] theorem ground_storeInIncident (s : State) (e : LogEntry) (i : Incident) :
    ground (storeInIncident s e i) = ground s := by simp [storeInIncident]

@[simp] theorem ground_dropLog (s : State) (cls : Nat) : ground (dropLog s cls) = ground s := by
  unfold dropLog
  dsimp only
  repeat' split
  all_goals simp

@[simp] theorem ground_logEntry (s : State) (cls mech action ctx unit entry detail : Nat) :
    ground (logEntry s cls mech action ctx unit entry detail) = ground s := by
  unfold logEntry
  dsimp only
  repeat' split
  all_goals simp

@[simp] theorem ground_logService (s : State) (unit detail : Nat) : ground (logService s unit detail) = ground s := by
  simp [logService]

@[simp] theorem ground_setRdy (s : State) : ground (setRdy s) = ground s := by simp [setRdy]

@[simp] theorem ground_enterDev (s : State) (d : DevState) (reason : Nat) : ground (enterDev s d reason) = ground s := by
  simp [enterDev]

@[simp] theorem ground_complete (s : State) (e status : Nat) : ground (complete s e status) = ground s := by
  unfold complete
  repeat' split
  all_goals simp

@[simp] theorem ground_giveBack (s : State) (l : List Token) : ground (giveBack s l) = ground s := by simp [giveBack]

@[simp] theorem ground_dropWork (s : State) (e : Nat) : ground (dropWork s e) = ground s := by simp [dropWork]

@[simp] theorem ground_endRequest (s : State) (e status due : Nat) : ground (endRequest s e status due) = ground s := by
  unfold endRequest
  repeat' split
  all_goals simp

@[simp] theorem ground_faultNow (s : State) (e : Nat) : ground (faultNow s e) = ground s := by
  unfold faultNow
  repeat' split
  all_goals simp

@[simp] theorem ground_faultReport (s : State) (n arg0 arg1 : Nat) : ground (faultReport s n arg0 arg1) = ground s := by
  unfold faultReport
  repeat' split
  all_goals simp

@[simp] theorem ground_tileOut (s : State) (t : Nat) : ground (tileOut s t) = ground s := by simp [tileOut]

@[simp] theorem ground_clearEnables (s : State) (bs : List Blk) : ground (clearEnables s bs) = ground s := by
  simp [clearEnables]

@[simp] theorem ground_sendBeacons (s : State) : ground (sendBeacons s) = ground s := by simp [sendBeacons]

@[simp] theorem ground_refuseMsg (s : State) (x : Submission) (reason earliest : Nat) :
    ground (refuseMsg s x reason earliest) = ground s := by simp [refuseMsg]

@[simp] theorem ground_faultAll (s : State) : ground (faultAll s) = ground s := by
  refine foldl_keeps ground _ (fun s e => ?_) _ s
  split
  all_goals simp

@[simp] theorem ground_enterVermilion (s : State) : ground (enterVermilion s) = ground s := by simp [enterVermilion]

@[simp] theorem ground_recordDetection (s : State) (d : Detection) (action : Nat) :
    ground (recordDetection s d action) = ground s := by simp [recordDetection]

@[simp] theorem ground_affect (s : State) (es : List Nat) (status : Nat) : ground (affect s es status) = ground s := by
  simp [affect]

@[simp] theorem ground_detect (s : State) (d : Detection) : ground (detect s d) = ground s := by simp [detect]

@[simp] theorem ground_detectTile (s : State) (mech t detail : Nat) : ground (detectTile s mech t detail) = ground s := by
  simp [detectTile]

@[simp] theorem ground_detectDevice (s : State) (mech unit detail : Nat) :
    ground (detectDevice s mech unit detail) = ground s := by simp [detectDevice]

@[simp] theorem ground_breach (s : State) (e : Nat) : ground (breach s e) = ground s := by
  unfold breach
  repeat' split
  all_goals simp

@[simp] theorem ground_replan (s : State) (e : Nat) : ground (replan s e) = ground s := by
  unfold replan
  repeat' split
  all_goals simp

@[simp] theorem ground_missed (s : State) (e : Nat) : ground (missed s e) = ground s := by
  unfold missed
  repeat' split
  all_goals simp

@[simp] theorem ground_stall (s : State) (k c unit e : Nat) : ground (stall s k c unit e) = ground s := by simp [stall]

@[simp] theorem ground_queueTask (s : State) (p : Nat) (q : QTask) : ground (queueTask s p q) = ground s := by simp [queueTask]

@[simp] theorem ground_requeue (s : State) (t : Nat) (k : Task) : ground (requeue s t k) = ground s := by
  unfold requeue
  repeat' split
  all_goals simp

@[simp] theorem ground_abortTask (s : State) (t cause stream why : Nat) :
    ground (abortTask s t cause stream why) = ground s := by
  unfold abortTask
  dsimp only
  repeat' split
  all_goals simp

@[simp] theorem ground_orphan (s : State) (n : Nat) : ground (orphan s n) = ground s := by simp [orphan]

@[simp] theorem ground_loseDeltas (s : State) (endpoint : Nat) : ground (loseDeltas s endpoint) = ground s := by
  simp [loseDeltas]

@[simp] theorem ground_endLeasesWith (s : State) (i : Nat) : ground (endLeasesWith s i) = ground s := by simp [endLeasesWith]

@[simp] theorem ground_endSession (s : State) (n : Nat) (failed : Bool) : ground (endSession s n failed) = ground s := by
  unfold endSession
  dsimp only
  repeat' split
  all_goals simp

@[simp] theorem ground_endAllSessions (s : State) : ground (endAllSessions s) = ground s := by simp [endAllSessions]

@[simp] theorem ground_reject (s : State) (n q type tag reason : Nat) : ground (reject s n q type tag reason) = ground s := by
  simp [reject]

end Sys2Proof.Machine
end

section
namespace Sys2Proof.Machine

/-! ### The port and the transport: what is left untouched -/

@[simp] theorem ground_wakeLanes (s : State) : ground (wakeLanes s) = ground s := by simp [wakeLanes]

@[simp] theorem ground_stopPort (s : State) : ground (stopPort s) = ground s := by simp [stopPort]

@[simp] theorem ground_writeMacCtrl (s : State) (v : Word) : ground (writeMacCtrl s v) = ground s := by simp [writeMacCtrl]

@[simp] theorem groundKept_execMacEnable (v : Word) (s : State) : GroundKept s (execMacEnable v s) := by
  unfold execMacEnable
  repeat' split
  all_goals simp

@[simp] theorem ground_pumpSessions (s : State) : ground (pumpSessions s) = ground s := by simp [pumpSessions]

@[simp] theorem groundKept_execLinkUp (s : State) : GroundKept s (execLinkUp s) := by
  unfold execLinkUp
  repeat' split
  all_goals simp

@[simp] theorem groundKept_execLinkDown (s : State) : GroundKept s (execLinkDown s) := by
  unfold execLinkDown
  repeat' split
  all_goals simp

@[simp] theorem ground_rxDrop (s : State) : ground (rxDrop s) = ground s := by simp [rxDrop]

@[simp] theorem groundKept_execArpRequest (target senderMac senderIp : Nat) (s : State) :
    GroundKept s (execArpRequest target senderMac senderIp s) := by
  unfold execArpRequest
  dsimp only
  repeat' split
  all_goals simp

@[simp] theorem groundKept_execNeighborSolicitation (target senderMac : Nat) (s : State) :
    GroundKept s (execNeighborSolicitation target senderMac s) := by
  unfold execNeighborSolicitation
  dsimp only
  repeat' split
  all_goals simp

@[simp] theorem groundKept_execReceiveError (e : RxErr) (s : State) : GroundKept s (execReceiveError e s) := by
  unfold execReceiveError
  repeat' split
  all_goals simp

@[simp] theorem ground_sendAck (s : State) (n q : Nat) : ground (sendAck s n q) = ground s := by
  unfold sendAck
  repeat' split
  all_goals simp

@[simp] theorem groundKept_execAckDelay (n q : Nat) (s : State) : GroundKept s (execAckDelay n q s) := by
  unfold execAckDelay
  repeat' split
  all_goals simp

@[simp] theorem ground_deliver (s : State) (n q stamp : Nat) (m : List Byte) : ground (deliver s n q stamp m) = ground s := by
  unfold deliver
  repeat' split
  all_goals simp

@[simp] theorem ground_frameStream (s : State) (n q stamp fuel : Nat) : ground (frameStream s n q stamp fuel) = ground s := by
  induction fuel generalizing s with
  | zero => rfl
  | succ fuel ih =>
    unfold frameStream
    dsimp only
    repeat' split
    all_goals simp [ih]

@[simp] theorem ground_tytosDrop (s : State) : ground (tytosDrop s) = ground s := by simp [tytosDrop]

@[simp] theorem ground_authDrop (s : State) : ground (authDrop s) = ground s := by simp [authDrop]

@[simp] theorem ground_takeData (s : State) (n : Nat) (p : PacketIn) (x : Session) (y : QueueSt) :
    ground (takeData s n p x y) = ground s := by simp [takeData]

@[simp] theorem ground_checkExhausted (s : State) (n : Nat) : ground (checkExhausted s n) = ground s := by
  unfold checkExhausted
  repeat' split
  all_goals simp

@[simp] theorem groundKept_receivePacket (kind : Nat) (p : PacketIn) (s : State) (f : State → State)
    (h : ∀ u, ground (f u) = ground u) : GroundKept s (receivePacket kind p s f) := by
  unfold receivePacket
  dsimp only
  repeat' split
  all_goals simp [h]

@[simp] theorem ground_packetSession (p : PacketIn) (again : Session → QueueSt → Bool)
    (f : State → Nat → Session → QueueSt → State) (s : State) (h : ∀ u n x y, ground (f u n x y) = ground u) :
    ground (packetSession p again f s) = ground s := by
  unfold packetSession
  dsimp only
  repeat' split
  all_goals simp [h]

@[simp] theorem groundKept_execData (p : PacketIn) (s : State) : GroundKept s (execData p s) := by simp [execData]

@[simp] theorem ground_retransmit (s : State) (j n q seq : Nat) (k : TxPacket) :
    ground (retransmit s j n q seq k) = ground s := by simp [retransmit]

@[simp] theorem ground_fastResend (s : State) (n q seq : Nat) : ground (fastResend s n q seq) = ground s := by
  unfold fastResend
  repeat' split
  all_goals simp

@[simp] theorem ground_keySwitch (s : State) (x : Session) (q next : Nat) : ground (keySwitch s x q next).1 = ground s := by
  unfold keySwitch
  repeat' split
  all_goals simp

@[simp] theorem ground_takeAck (s : State) (n q : Nat) (body : List Byte) (x : Session) (y : QueueSt) :
    ground (takeAck s n q body x y) = ground s := by simp [takeAck]

@[simp] theorem groundKept_execAck (p : PacketIn) (s : State) : GroundKept s (execAck p s) := by simp [execAck]

@[simp] theorem groundKept_execRtoExpiry (n q seq : Nat) (s : State) : GroundKept s (execRtoExpiry n q seq s) := by
  unfold execRtoExpiry
  repeat' split
  all_goals simp

@[simp] theorem groundKept_execLinkHoldExpiry (n : Nat) (s : State) : GroundKept s (execLinkHoldExpiry n s) := by
  unfold execLinkHoldExpiry
  repeat' split
  all_goals simp

@[simp] theorem groundKept_execRateIncrease (n : Nat) (s : State) : GroundKept s (execRateIncrease n s) := by
  unfold execRateIncrease
  repeat' split
  all_goals simp

@[simp] theorem ground_drawSession (s : State) : ground (drawSession s).2 = ground s := by simp [drawSession]

@[simp] theorem ground_openFor (endpoint : Nat) (body : List Byte) (s : State) :
    ground (openFor endpoint body s) = ground s := by
  unfold openFor
  dsimp only
  repeat' split
  all_goals simp

@[simp] theorem groundKept_execOpen (endpoint : Nat) (ce : Bool) (header wire : List Byte) (s : State) :
    GroundKept s (execOpen endpoint ce header wire s) := by simp [execOpen]

@[simp] theorem groundKept_execNeighbourOpen (endpoint : Nat) (s : State) : GroundKept s (execNeighbourOpen endpoint s) := by
  unfold execNeighbourOpen
  repeat' split
  all_goals simp

@[simp] theorem groundKept_execOpenReply (endpoint : Nat) (ce : Bool) (header wire : List Byte) (s : State) :
    GroundKept s (execOpenReply endpoint ce header wire s) := by simp [execOpenReply]

@[simp] theorem groundKept_execClosePacket (p : PacketIn) (s : State) : GroundKept s (execClosePacket p s) := by
  simp [execClosePacket]

@[simp] theorem ground_advanceScrub (s : State) : ground (advanceScrub s) = ground s := by
  unfold advanceScrub
  repeat' split
  all_goals simp

@[simp] theorem groundKept_execBeacon (s : State) : GroundKept s (execBeacon s) := by
  unfold execBeacon
  repeat' split
  all_goals simp

@[simp] theorem ground_sessionReply (s : State) (n tag op ctx queue status : Nat) :
    ground (sessionReply s n tag op ctx queue status) = ground s := by simp [sessionReply]

@[simp] theorem ground_openCtx (s : State) (n c : Nat) (x : Session) : ground (openCtx s n c x) = ground s := by simp [openCtx]

@[simp] theorem groundKept_execOpenContext (n tag c : Nat) (s : State) : GroundKept s (execOpenContext n tag c s) := by
  unfold execOpenContext
  dsimp only
  repeat' split
  all_goals simp

@[simp] theorem groundKept_execCloseContext (n tag c : Nat) (s : State) : GroundKept s (execCloseContext n tag c s) := by
  unfold execCloseContext
  repeat' split
  all_goals simp

@[simp] theorem groundKept_execBindQueue (n tag c q : Nat) (s : State) : GroundKept s (execBindQueue n tag c q s) := by
  unfold execBindQueue
  repeat' split
  all_goals simp

@[simp] theorem groundKept_execSubmit (n q tag : Nat) (b : SubmitBody) (s : State) : GroundKept s (execSubmit n q tag b s) := by
  unfold execSubmit
  dsimp only
  repeat' split
  all_goals simp

end Sys2Proof.Machine
end

section
namespace Sys2Proof.Machine

/-! ### The frame timer and the clock: what is left untouched -/

@[simp] theorem ground_startFrames (s : State) : ground (startFrames s) = ground s := by simp [startFrames]

@[simp] theorem ground_enableFrame (s : State) : ground (enableFrame s) = ground s := by simp [enableFrame]

@[simp] theorem ground_writeFrameCtrl (s : State) (v : Word) : ground (writeFrameCtrl s v) = ground s := by
  simp [writeFrameCtrl]

@[simp] theorem ground_stopFrames (s : State) : ground (stopFrames s) = ground s := by simp [stopFrames]

@[simp] theorem ground_leaveLocked (s : State) (l : Lock) : ground (leaveLocked s l) = ground s := by simp [leaveLocked]

@[simp] theorem ground_timeStep (s : State) (step : Int) : ground (timeStep s step) = ground s := by simp [timeStep]

@[simp] theorem groundKept_execReferenceAcquired (refNs : Nat) (s : State) : GroundKept s (execReferenceAcquired refNs s) := by
  unfold execReferenceAcquired
  repeat' split
  all_goals simp

@[simp] theorem groundKept_execLockAcquired (s : State) : GroundKept s (execLockAcquired s) := by
  unfold execLockAcquired
  repeat' split
  all_goals simp

@[simp] theorem groundKept_execRefLost (s : State) : GroundKept s (execRefLost s) := by
  unfold execRefLost
  repeat' split
  all_goals simp

@[simp] theorem groundKept_execPpsEdge (stepNs : Int) (s : State) : GroundKept s (execPpsEdge stepNs s) := by
  unfold execPpsEdge
  repeat' split
  all_goals simp

@[simp] theorem groundKept_takePtp (s : State) (domain : Nat) (ipv6 : Bool) (take : State → State)
    (h : ∀ u, ground (take u) = ground u) : GroundKept s (takePtp s domain ipv6 take) := by
  unfold takePtp
  dsimp only
  repeat' split
  all_goals simp [h]

@[simp] theorem groundKept_execAnnounce (a : AnnounceIn) (s : State) : GroundKept s (execAnnounce a s) := by simp [execAnnounce]

@[simp] theorem ground_completeSync (s : State) (t1 t2 : Int) : ground (completeSync s t1 t2) = ground s := by
  simp [completeSync]

@[simp] theorem groundKept_execSync (p : PtpIn) (s : State) : GroundKept s (execSync p s) := by simp [execSync]

@[simp] theorem groundKept_execFollowUp (p : PtpIn) (s : State) : GroundKept s (execFollowUp p s) := by
  unfold execFollowUp
  refine groundKept_takePtp _ _ _ _ fun s => ?_
  repeat' split
  all_goals simp

@[simp] theorem groundKept_execDelayReq (seq : Nat) (sentNs : Int) (s : State) : GroundKept s (execDelayReq seq sentNs s) := by
  unfold execDelayReq
  repeat' split
  all_goals simp

@[simp] theorem groundKept_execDelayResp (p : PtpIn) (s : State) : GroundKept s (execDelayResp p s) := by
  unfold execDelayResp
  refine groundKept_takePtp _ _ _ _ fun s => ?_
  dsimp only
  repeat' split
  all_goals simp

end Sys2Proof.Machine
end

section
namespace Sys2Proof.Machine

/-! ### Belfry: what is left untouched -/

@[simp] theorem groundKept_execLinkCrc (u : UnitId) (ownPort twice : Bool) (s : State) :
    GroundKept s (execLinkCrc u ownPort twice s) := by
  unfold execLinkCrc
  dsimp only
  repeat' split
  all_goals simp

@[simp] theorem groundKept_execLockstep (s : State) : GroundKept s (execLockstep s) := by simp [execLockstep]

@[simp] theorem groundKept_execBelfryHalfHeartbeat (missing : Bool) (s : State) :
    GroundKept s (execBelfryHalfHeartbeat missing s) := by
  unfold execBelfryHalfHeartbeat
  repeat' split
  all_goals simp

@[simp] theorem groundKept_execAudit (upset : Bool) (s : State) : GroundKept s (execAudit upset s) := by
  unfold execAudit
  dsimp only
  repeat' split
  all_goals simp

@[simp] theorem ground_releaseFlt (s : State) : ground (releaseFlt s) = ground s := by simp [releaseFlt]

@[simp] theorem groundKept_execFltNMinimumEnd (s : State) : GroundKept s (execFltNMinimumEnd s) := by
  unfold execFltNMinimumEnd
  repeat' split
  all_goals simp

@[simp] theorem ground_acknowledge (s : State) (v : Word) : ground (acknowledge s v) = ground s := by simp [acknowledge]

@[simp] theorem groundKept_execBelfryAck (v : Word) (s : State) : GroundKept s (execBelfryAck v s) := by simp [execBelfryAck]

@[simp] theorem ground_markPe (s : State) (t : Nat) (pe : Nat × Nat) : ground (markPe s t pe) = ground s := by simp [markPe]

@[simp] theorem ground_switchIn (pes : List (Nat × Nat × Nat)) (s : State) (t : Nat) :
    ground (switchIn pes s t) = ground s := by simp [switchIn]

@[simp] theorem ground_latent (s : State) (mech unit detail : Nat) : ground (latent s mech unit detail) = ground s := by
  simp [latent]

@[simp] theorem ground_failTile (s : State) (t : Nat) : ground (failTile s t) = ground s := by simp [failTile]

@[simp] theorem ground_latentVermilion (s : State) (mech unit : Nat) : ground (latentVermilion s mech unit) = ground s := by
  simp [latentVermilion]

@[simp] theorem groundKept_execIncidentEnd (s : State) : GroundKept s (execIncidentEnd s) := by
  unfold execIncidentEnd
  repeat' split
  all_goals simp

@[simp] theorem ground_stopBlock (s : State) (b : Blk) : ground (stopBlock s b) = ground s := by
  unfold stopBlock
  repeat' split
  all_goals simp

@[simp] theorem ground_parityFault (s : State) (a : Nat) (b : Blk) : ground (parityFault s a b) = ground s := by
  unfold parityFault
  repeat' split
  all_goals simp

@[simp] theorem groundKept_execConfigParitySweep (bad : List Nat) (s : State) : GroundKept s (execConfigParitySweep bad s) := by
  unfold execConfigParitySweep
  split
  · refine (groundKept_next _ _).2 (foldl_keeps ground _ (fun s a => ?_) _ _)
    split
    all_goals simp
  · simp

end Sys2Proof.Machine
end

section
namespace Sys2Proof.Machine

/-! ### The flash tier: what is left untouched -/

@[simp] theorem ground_setMod (s : State) (m : Nat) (x : Module) : ground (setMod s m x) = ground s := by simp [setMod]

@[simp] theorem ground_setNs (s : State) (n : Nat) (x : Namespace) : ground (setNs s n x) = ground s := by simp [setNs]

@[simp] theorem ground_sealPage (s : State) (ns g seq : Nat) : ground (sealPage s ns g seq) = ground s := by simp [sealPage]

@[simp] theorem ground_flashPut (s : State) (a : Nat) (bs : List Byte) : ground (flashPut s a bs) = ground s := by
  unfold flashPut
  refine foldl_keeps ground _ (fun s x => ?_) _ _
  repeat' split
  all_goals simp

@[simp] theorem ground_storReply (s : State) (n q tag status nsid result info : Nat) (data : List Byte) :
    ground (storReply s n q tag status nsid result info data) = ground s := by simp [storReply]

@[simp] theorem ground_settleFlush (s : State) (q : Nat) : ground (settleFlush s q) = ground s := by simp [settleFlush]

@[simp] theorem ground_storDone (s : State) (c : Outstanding) (status nsid result info : Nat) (data : List Byte) :
    ground (storDone s c status nsid result info data) = ground s := by simp [storDone]

@[simp] theorem ground_setCmd (s : State) (c : Outstanding) : ground (setCmd s c) = ground s := by simp [setCmd]

@[simp] theorem ground_endOfLife (s : State) (m : Nat) : ground (endOfLife s m) = ground s := by
  unfold endOfLife
  repeat' split
  · rfl
  · rfl
  · dsimp only
    rw [ground_eventPriv, ground_setFlag, foldl_keeps ground _ (fun s c => ground_storDone _ _ _ _ _ _ _)]
    refine (foldl_keeps ground _ (fun s n => ?_) _ _).trans (ground_setMod _ _ _)
    split
    all_goals simp

@[simp] theorem ground_retire (s : State) (m plane block : Nat) : ground (retire s m plane block) = ground s := by
  unfold retire
  dsimp only
  repeat' split
  all_goals simp

@[simp] theorem ground_collectBlock (s : State) (m plane block : Nat) : ground (collectBlock s m plane block) = ground s := by
  unfold collectBlock
  repeat' split
  all_goals simp

@[simp] theorem ground_toErase (s : State) (m plane block : Nat) : ground (toErase s m plane block) = ground s := by
  unfold toErase
  dsimp only
  repeat' split
  all_goals simp

@[simp] theorem ground_wake (s : State) (m : Nat) : ground (wake s m) = ground s := by
  unfold wake
  repeat' split
  all_goals simp

@[simp] theorem ground_supersede (s : State) (order n : Nat) (hit : Nat → Bool) :
    ground (supersede s order n hit) = ground s := by simp [supersede]

@[simp] theorem ground_unmapRange (s : State) (n g count : Nat) : ground (unmapRange s n g count) = ground s := by
  simp [unmapRange]

@[simp] theorem ground_journalAll (s : State) (ports : List Nat) (kind : JournalKind) (nsid : Nat) :
    ground (journalAll s ports kind nsid) = ground s := by
  unfold journalAll
  refine foldl_keeps ground _ (fun s x => ?_) _ _
  repeat' split
  all_goals simp

@[simp] theorem ground_runCreate (s : State) (c : Outstanding) (ports : List Nat) :
    ground (runCreate s c ports) = ground s := by
  unfold runCreate
  dsimp only
  repeat' split
  all_goals simp

@[simp] theorem ground_runDelete (s : State) (c : Outstanding) : ground (runDelete s c) = ground s := by
  unfold runDelete
  dsimp only
  repeat' split
  all_goals simp

@[simp] theorem ground_startCmd (s : State) (c : Outstanding) : ground (startCmd s c) = ground s := by
  unfold startCmd
  dsimp only
  repeat' split
  all_goals simp

@[simp] theorem ground_pumpList (l : List Outstanding) (s : State) : ground (pumpList l s) = ground s := by
  fun_induction pumpList l s
  case case1 => rfl
  case case2 ih => exact ih
  case case3 ih => rw [ih, ground_startCmd]
  case case4 => exact foldl_keeps ground _ (fun s d => foldl_keeps ground _ ground_wake _ s) _ _

@[simp] theorem ground_pumpFlash (s : State) : ground (pumpFlash s) = ground s := by simp [pumpFlash]

@[simp] theorem ground_enqueue (s : State) (n : Nat) (c : StorCmd) (op : Nat) (left : List (Nat × Option (List Byte))) :
    ground (enqueue s n c op left).1 = ground s := by simp [enqueue]

@[simp] theorem groundKept_storage (s : State) (c : StorCmd) (op : Nat) (fieldsOk : Bool) (run : State → Nat → State)
    (h : ∀ u n, ground (run u n) = ground u) : GroundKept s (storage s c op fieldsOk run) := by
  unfold storage
  dsimp only
  repeat' split
  all_goals simp [h]

@[simp] theorem ground_onNamespace (s : State) (n : Nat) (c : StorCmd) (writes : Bool) (upto : Nat) (run : State → State)
    (h : ∀ u, ground (run u) = ground u) : ground (onNamespace s n c writes upto run) = ground s := by
  unfold onNamespace
  dsimp only
  repeat' split
  all_goals simp [h]

@[simp] theorem groundKept_execRead (c : StorCmd) (s : State) : GroundKept s (execRead c s) := by simp [execRead]

@[simp] theorem groundKept_execWrite (c : StorCmd) (data : List Byte) (s : State) : GroundKept s (execWrite c data s) := by
  unfold execWrite
  repeat' split
  all_goals simp

@[simp] theorem groundKept_execTrim (c : StorCmd) (s : State) : GroundKept s (execTrim c s) := by simp [execTrim]

@[simp] theorem groundKept_execFlush (c : StorCmd) (s : State) : GroundKept s (execFlush c s) := by simp [execFlush]

@[simp] theorem groundKept_execIdentify (c : StorCmd) (s : State) : GroundKept s (execIdentify c s) := by
  unfold execIdentify
  refine groundKept_storage _ _ _ _ _ fun s n => ?_
  repeat' split
  all_goals simp

@[simp] theorem groundKept_execNsCreate (c : StorCmd) (s : State) : GroundKept s (execNsCreate c s) := by
  unfold execNsCreate
  refine groundKept_storage _ _ _ _ _ fun s n => ?_
  repeat' split
  all_goals simp

@[simp] theorem groundKept_execNsDelete (c : StorCmd) (s : State) : GroundKept s (execNsDelete c s) := by simp [execNsDelete]

@[simp] theorem groundKept_execAbort (c : StorCmd) (s : State) : GroundKept s (execAbort c s) := by
  unfold execAbort
  refine groundKept_storage _ _ _ _ _ fun s n => ?_
  repeat' split
  all_goals simp

@[simp] theorem groundKept_execGetLog (c : StorCmd) (s : State) : GroundKept s (execGetLog c s) := by
  unfold execGetLog
  refine groundKept_storage _ _ _ _ _ fun s n => ?_
  repeat' split
  all_goals simp

@[simp] theorem groundKept_execSetPower (c : StorCmd) (s : State) : GroundKept s (execSetPower c s) := by
  refine groundKept_storage _ _ _ _ _ fun s n => ?_
  refine (ground_storReply _ _ _ _ _ _ _ _ _).trans (foldl_keeps ground _ (fun s m => ?_) _ _)
  split
  all_goals simp

@[simp] theorem ground_readFailed (s : State) (c : Outstanding) (g : Nat) : ground (readFailed s c g) = ground s := by
  unfold readFailed
  dsimp only
  repeat' split
  all_goals simp

@[simp] theorem ground_readDone (s : State) (c : Outstanding) : ground (readDone s c) = ground s := by
  unfold readDone
  dsimp only
  repeat' split
  all_goals simp

@[simp] theorem groundKept_execMediaReadComplete (q tag : Nat) (failAt : Option Nat) (s : State) :
    GroundKept s (execMediaReadComplete q tag failAt s) := by
  unfold execMediaReadComplete
  repeat' split
  all_goals simp

@[simp] theorem ground_granuleWritten (s : State) (n g m plane : Nat) (b : Nat × FlashBlock) (data : Option (List Byte)) :
    ground (granuleWritten s n g m plane b data) = ground s := by
  unfold granuleWritten
  repeat' split
  all_goals simp

@[simp] theorem ground_programGranule (s : State) (q tag g : Nat) : ground (programGranule s q tag g) = ground s := by
  unfold programGranule
  repeat' split
  all_goals simp

@[simp] theorem ground_programFails (s : State) (m plane cls : Nat) : ground (programFails s m plane cls) = ground s := by
  unfold programFails
  repeat' split
  all_goals simp

@[simp] theorem groundKept_execGranuleProgramComplete (q tag g : Nat) (ok : Bool) (s : State) :
    GroundKept s (execGranuleProgramComplete q tag g ok s) := by
  unfold execGranuleProgramComplete
  dsimp only
  repeat' split
  all_goals simp

@[simp] theorem ground_visit (s : State) (n : Nat) (x : Namespace) (key block m plane : Nat) :
    ground (visit s n x key block m plane) = ground s := by
  unfold visit
  dsimp only
  repeat' split
  all_goals simp

@[simp] theorem ground_eraseDone (s : State) (m plane block : Nat) (ok : Bool) :
    ground (eraseDone s m plane block ok) = ground s := by
  unfold eraseDone
  dsimp only
  repeat' split
  all_goals simp

@[simp] theorem groundKept_execBlockEraseComplete (m plane block : Nat) (ok : Bool) (s : State) :
    GroundKept s (execBlockEraseComplete m plane block ok s) := by
  unfold execBlockEraseComplete
  repeat' split
  all_goals simp

@[simp] theorem groundKept_execNsDeleteEnd (nsid : Nat) (s : State) : GroundKept s (execNsDeleteEnd nsid s) := by
  unfold execNsDeleteEnd
  repeat' split
  all_goals simp

@[simp] theorem groundKept_execFoldStart (m plane cls : Nat) (s : State) : GroundKept s (execFoldStart m plane cls s) := by
  unfold execFoldStart
  dsimp only
  repeat' split
  all_goals simp

@[simp] theorem groundKept_execFoldCommit (m plane : Nat) (s : State) : GroundKept s (execFoldCommit m plane s) := by
  unfold execFoldCommit
  dsimp only
  repeat' split
  all_goals simp

@[simp] theorem groundKept_execGarbageCollection (m plane : Nat) (s : State) :
    GroundKept s (execGarbageCollection m plane s) := by
  unfold execGarbageCollection
  dsimp only
  repeat' split
  all_goals simp

@[simp] theorem groundKept_execCheckpoint (m : Nat) (s : State) : GroundKept s (execCheckpoint m s) := by
  unfold execCheckpoint
  repeat' split
  all_goals simp

@[simp] theorem groundKept_execHeatHalving (m : Nat) (s : State) : GroundKept s (execHeatHalving m s) := by
  unfold execHeatHalving
  repeat' split
  all_goals simp

@[simp] theorem groundKept_execIdleTimer (m level : Nat) (s : State) : GroundKept s (execIdleTimer m level s) := by
  unfold execIdleTimer
  repeat' split
  all_goals simp

@[simp] theorem groundKept_execModuleWake (m : Nat) (s : State) : GroundKept s (execModuleWake m s) := by
  unfold execModuleWake
  repeat' split
  all_goals simp

@[simp] theorem groundKept_execModuleLost (m : Nat) (s : State) : GroundKept s (execModuleLost m s) := by
  unfold execModuleLost
  repeat' split
  all_goals simp

@[simp] theorem ground_resumeDeletes (s : State) (serial : Nat) : ground (resumeDeletes s serial) = ground s := by
  simp [resumeDeletes]

@[simp] theorem ground_rollNamespaces (s : State) (serial : Nat) : ground (rollNamespaces s serial) = ground s := by
  simp [rollNamespaces]

@[simp] theorem groundKept_execFlashRestoreComplete (m : Nat) (s : State) : GroundKept s (execFlashRestoreComplete m s) := by
  unfold execFlashRestoreComplete
  repeat' split
  all_goals simp

end Sys2Proof.Machine
end

section
namespace Sys2Proof.Machine

/-! ### Power, reset and start-up: what is left untouched -/

@[simp] theorem ground_resetOp (s : State) (cause : Nat) : ground (resetOp s cause) = ground s := by simp [resetOp]

@[simp] theorem groundKept_execPowerOn (s : State) : GroundKept s (execPowerOn s) := by
  unfold execPowerOn
  repeat' split
  all_goals simp

@[simp] theorem groundKept_execWarmPin (released : Bool) (s : State) : GroundKept s (execWarmPin released s) := by
  unfold execWarmPin
  repeat' split
  all_goals simp

@[simp] theorem groundKept_execPowerDown (s : State) : GroundKept s (execPowerDown s) := by
  unfold execPowerDown
  repeat' split
  all_goals simp

@[simp] theorem ground_setFwSlot (s : State) (b : Bool) (f : FwSlot) : ground (setFwSlot s b f) = ground s := by
  unfold setFwSlot
  repeat' split
  all_goals simp

@[simp] theorem ground_takeFlags (s : State) : ground (takeFlags s).1 = ground s := by
  unfold takeFlags
  repeat' split
  all_goals simp

@[simp] theorem ground_startLantern (s : State) (fellBack trial identityOk : Bool) :
    ground (startLantern s fellBack trial identityOk) = ground s := by simp [startLantern]

theorem ground_bootRom {s u : State} {ok : Bool} (h : bootRom s ok = some u) : ground u = ground s := by
  unfold bootRom at h
  dsimp only at h
  split at h
  · cases h
    simp
  · split at h
    · cases h
      simp
    · cases h

@[simp] theorem ground_writeSaved (s : State) : ground (writeSaved s) = ground s := by
  unfold writeSaved
  refine foldl_keeps ground _ (fun s x => ?_) _ _
  repeat' split
  all_goals simp

@[simp] theorem ground_countFailures (s : State) (l : List Nat) : ground (countFailures s l) = ground s := by
  simp [countFailures]

@[simp] theorem ground_readModule (s : State) (m : Nat) (x : IdMem) : ground (readModule s m x) = ground s := by
  simp [readModule]

@[simp] theorem ground_readIdentity (s : State) (i : StartIn) : ground (readIdentity s i).1 = ground s := by simp [readIdentity]

@[simp] theorem groundKept_execStartUp (i : StartIn) (s : State) : GroundKept s (execStartUp i s) := by
  unfold execStartUp
  split
  · simp
  · split
    · simp
    · next u hu =>
      have hboot := ground_bootRom hu
      dsimp only
      split
      all_goals simp [hboot]

@[simp] theorem ground_useSpare (s : State) (k bank : Nat) : ground (useSpare s k bank) = ground s := by simp [useSpare]

@[simp] theorem ground_startFlash (s : State) (i : CoreIn) : ground (startFlash s i) = ground s := by simp [startFlash]

@[simp] theorem groundKept_execVrPgGood (i : CoreIn) (s : State) : GroundKept s (execVrPgGood i s) := by
  unfold execVrPgGood
  dsimp only
  repeat' split
  all_goals simp

@[simp] theorem groundKept_execVrPgTimeout (s : State) : GroundKept s (execVrPgTimeout s) := by
  unfold execVrPgTimeout
  repeat' split
  all_goals simp

@[simp] theorem ground_persistPower (s : State) (detail : Nat) : ground (persistPower s detail) = ground s := by
  simp [persistPower]

@[simp] theorem ground_emergencyStop (s : State) (cause : Nat) : ground (emergencyStop s cause) = ground s := by
  simp [emergencyStop]

@[simp] theorem groundKept_execVrPgFall (longUs : Bool) (s : State) : GroundKept s (execVrPgFall longUs s) := by
  unfold execVrPgFall
  repeat' split
  all_goals simp

@[simp] theorem groundKept_execBrownout (s : State) : GroundKept s (execBrownout s) := by
  unfold execBrownout
  repeat' split
  all_goals simp

@[simp] theorem groundKept_execThermalTrip (sensors : List Nat) (s : State) : GroundKept s (execThermalTrip sensors s) := by
  unfold execThermalTrip
  repeat' split
  all_goals simp

@[simp] theorem groundKept_execThermal (s : State) : GroundKept s (execThermal s) := by
  unfold execThermal
  repeat' split
  all_goals simp

@[simp] theorem groundKept_execVoutStep (marginOk : Bool) (s : State) : GroundKept s (execVoutStep marginOk s) := by
  unfold execVoutStep
  repeat' split
  all_goals simp

@[simp] theorem ground_setLevel (s : State) (level : Nat) : ground (setLevel s level) = ground s := by simp [setLevel]

@[simp] theorem groundKept_execThrottleEvaluation (s : State) : GroundKept s (execThrottleEvaluation s) := by
  unfold execThrottleEvaluation
  dsimp only
  repeat' split
  all_goals simp

@[simp] theorem ground_preempt (s : State) (t : Nat) : ground (preempt s t) = ground s := by simp [preempt]

@[simp] theorem ground_resumeTask (s : State) (t : Nat) : ground (resumeTask s t) = ground s := by simp [resumeTask]

@[simp] theorem ground_preemptDown (s : State) (l : List Nat) : ground (preemptDown s l) = ground s := by
  induction l generalizing s with
  | nil => rfl
  | cons e l ih =>
    rw [preemptDown]
    split
    · rfl
    · split
      · rfl
      · next t _ =>
        generalize hu : bump (preempt s t) .pwrseq 0x28 1 = u
        rw [ih, ground_with u (h := rfl), ← hu, ground_bump, ground_preempt]

@[simp] theorem ground_resumeUp (s : State) (l : List Nat) : ground (resumeUp s l) = ground s := by
  induction l generalizing s with
  | nil => rfl
  | cons e l ih =>
    unfold resumeUp
    repeat' split
    all_goals simp [ih]

@[simp] theorem groundKept_execPeakPowerWindow (estimates : List Nat) (s : State) :
    GroundKept s (execPeakPowerWindow estimates s) := by
  unfold execPeakPowerWindow
  repeat' split
  all_goals simp

@[simp] theorem groundKept_execWakeStepRelease (s : State) : GroundKept s (execWakeStepRelease s) := by
  unfold execWakeStepRelease
  dsimp only
  repeat' split
  all_goals simp

@[simp] theorem ground_writeLimits (s : State) (v : Word) : ground (writeLimits s v) = ground s := by simp [writeLimits]

@[simp] theorem groundKept_execPwrseqLimits (v : Word) (s : State) : GroundKept s (execPwrseqLimits v s) := by
  unfold execPwrseqLimits
  repeat' split
  all_goals simp

end Sys2Proof.Machine
end

section
namespace Sys2Proof.Machine

/-! ### The array: what is left untouched -/

@[simp] theorem ground_bufWrite (s : State) (t : Nat) (k : Task) (b off : Nat) (bs : List Byte) :
    ground (bufWrite s t k b off bs) = ground s := by simp [bufWrite]

@[simp] theorem groundKept_onTask (s : State) (t : Nat) (f : Tile → Task → Res) (h : ∀ x k, GroundKept s (f x k)) :
    GroundKept s (onTask s t f) := by
  unfold onTask
  repeat' split
  all_goals simp [h]

@[simp] theorem ground_setTask (s : State) (t : Nat) (f : Task → Task) : ground (setTask s t f) = ground s := by simp [setTask]

@[simp] theorem ground_advance (s : State) (t : Nat) : ground (advance s t) = ground s := by simp [advance]

@[simp] theorem ground_countConv (s : State) (t : Nat) (l : List Conv) : ground (countConv s t l) = ground s := by
  simp [countConv]

@[simp] theorem groundKept_execMatmul (t : Nat) (p : MatmulP) (b : Bufs) (indep : Bool) (s : State) :
    GroundKept s (execMatmul t p b indep s) := by
  unfold execMatmul
  split
  · simp
  · refine groundKept_onTask _ _ _ fun x k => ?_
    dsimp only
    repeat' split
    all_goals simp

@[simp] theorem ground_checksumFault (s : State) (t : Nat) (p : MatmulP) (errs : List AccErr) :
    ground (checksumFault s t p errs) = ground s := by
  unfold checksumFault
  repeat' split
  all_goals simp

@[simp] theorem ground_laneFault (s : State) (t : Nat) : ground (laneFault s t) = ground s := by simp [laneFault]

@[simp] theorem groundKept_execMatmulPassComplete (t : Nat) (errs : List AccErr) (laneBad : Bool) (s : State) :
    GroundKept s (execMatmulPassComplete t errs laneBad s) := by
  unfold execMatmulPassComplete
  dsimp only
  repeat' split
  all_goals simp

@[simp] theorem groundKept_execQuantise (t : Nat) (p : QuantP) (b : Bufs) (laneBad : Bool) (s : State) :
    GroundKept s (execQuantise t p b laneBad s) := by
  unfold execQuantise
  repeat' split
  all_goals simp

@[simp] theorem groundKept_execScaleLoad (t base n : Nat) (b : Bufs) (s : State) :
    GroundKept s (execScaleLoad t base n b s) := by
  unfold execScaleLoad
  repeat' split
  all_goals simp

@[simp] theorem groundKept_vecOp (t : Nat) (b : Bufs) (fmts : Nat → Bool) (p : VecP) (outFmt : Nat) (s : State)
    (f : Nat → Nat → Nat → Nat) :
    GroundKept s (vecOp t b fmts p outFmt s f) := by
  unfold vecOp
  repeat' split
  all_goals simp

@[simp] theorem groundKept_vec2 (t : Nat) (p : VecP) (b : Bufs) (s : State) (f : FNum → FNum → FNum) :
    GroundKept s (vec2 t p b s f) := by simp [vec2]

@[simp] theorem groundKept_vec1 (t : Nat) (p : VecP) (b : Bufs) (s : State) (f : FNum → FNum) :
    GroundKept s (vec1 t p b s f) := by simp [vec1]

@[simp] theorem groundKept_execVecAdd (t : Nat) (p : VecP) (b : Bufs) (s : State) : GroundKept s (execVecAdd t p b s) := by
  simp [execVecAdd]

@[simp] theorem groundKept_execVecSub (t : Nat) (p : VecP) (b : Bufs) (s : State) : GroundKept s (execVecSub t p b s) := by
  simp [execVecSub]

@[simp] theorem groundKept_execVecMul (t : Nat) (p : VecP) (b : Bufs) (s : State) : GroundKept s (execVecMul t p b s) := by
  simp [execVecMul]

@[simp] theorem groundKept_execVecFma (t : Nat) (p : VecP) (b : Bufs) (s : State) : GroundKept s (execVecFma t p b s) := by
  simp [execVecFma]

@[simp] theorem groundKept_execVecMax (t : Nat) (p : VecP) (b : Bufs) (s : State) : GroundKept s (execVecMax t p b s) := by
  simp [execVecMax]

@[simp] theorem groundKept_execVecMin (t : Nat) (p : VecP) (b : Bufs) (s : State) : GroundKept s (execVecMin t p b s) := by
  simp [execVecMin]

@[simp] theorem groundKept_execVecConvert (t : Nat) (p : VecP) (b : Bufs) (s : State) :
    GroundKept s (execVecConvert t p b s) := by
  unfold execVecConvert
  repeat' split
  all_goals simp

@[simp] theorem groundKept_execVecExp (t : Nat) (p : VecP) (b : Bufs) (s : State) : GroundKept s (execVecExp t p b s) := by
  simp [execVecExp]

@[simp] theorem groundKept_execVecRecip (t : Nat) (p : VecP) (b : Bufs) (s : State) : GroundKept s (execVecRecip t p b s) := by
  simp [execVecRecip]

@[simp] theorem groundKept_execVecRsqrt (t : Nat) (p : VecP) (b : Bufs) (s : State) : GroundKept s (execVecRsqrt t p b s) := by
  simp [execVecRsqrt]

@[simp] theorem groundKept_execVecTanh (t : Nat) (p : VecP) (b : Bufs) (s : State) : GroundKept s (execVecTanh t p b s) := by
  simp [execVecTanh]

@[simp] theorem groundKept_execVecGeluTanh (t : Nat) (p : VecP) (b : Bufs) (s : State) :
    GroundKept s (execVecGeluTanh t p b s) := by simp [execVecGeluTanh]

@[simp] theorem groundKept_reduceOp (t : Nat) (p : VecP) (b : Bufs) (s : State) (width : Nat) (row : List FNum → Nat) :
    GroundKept s (reduceOp t p b s width row) := by
  unfold reduceOp
  repeat' split
  all_goals simp

@[simp] theorem groundKept_execReduceSum (t : Nat) (p : VecP) (b : Bufs) (s : State) :
    GroundKept s (execReduceSum t p b s) := by
  unfold execReduceSum
  repeat' split
  all_goals simp

@[simp] theorem groundKept_execReduceMax (t : Nat) (p : VecP) (b : Bufs) (s : State) :
    GroundKept s (execReduceMax t p b s) := by simp [execReduceMax]

@[simp] theorem groundKept_execReduceMin (t : Nat) (p : VecP) (b : Bufs) (s : State) :
    GroundKept s (execReduceMin t p b s) := by simp [execReduceMin]

end Sys2Proof.Machine
end

section
namespace Sys2Proof.Machine

/-! ### Selection: what is left untouched -/

@[simp] theorem ground_selectFault (s : State) (t : Nat) : ground (selectFault s t) = ground s := by simp [selectFault]

@[simp] theorem groundKept_execSelect (t : Nat) (p : SelectP) (b : Bufs) (checkBad : Bool) (s : State) :
    GroundKept s (execSelect t p b checkBad s) := by
  unfold execSelect
  split
  · simp
  · refine groundKept_onTask _ _ _ fun x k => ?_
    dsimp only
    repeat' split
    all_goals simp

@[simp] theorem groundKept_execMerge (t : Nat) (p : MergeP) (b : Bufs) (checkBad : Bool) (s : State) :
    GroundKept s (execMerge t p b checkBad s) := by
  unfold execMerge
  split
  · simp
  · refine groundKept_onTask _ _ _ fun x k => ?_
    dsimp only
    repeat' split
    all_goals simp

end Sys2Proof.Machine
end

section
namespace Sys2Proof.Machine

/-! ### The memory space: what is left untouched -/

@[simp] theorem ground_t1Write (s : State) (c a : Nat) (bs : List Byte) : ground (t1Write s c a bs) = ground s := by
  simp [t1Write]

@[simp] theorem ground_sendLease (s : State) (i : Nat) (mine : Bool) (op wire arg0 arg1 : Nat) (data : List Byte) :
    ground (sendLease s i mine op wire arg0 arg1 data) = ground s := by
  unfold sendLease
  repeat' split
  all_goals simp

@[simp] theorem ground_keepError (s : State) (k block : Nat) (ue patrol : Bool) :
    ground (keepError s k block ue patrol) = ground s := by simp [keepError]

@[simp] theorem ground_detectKeep (s : State) (k : Nat) (ctx entry detail : Nat) (affected : List Nat) :
    ground (detectKeep s k ctx entry detail affected) = ground s := by simp [detectKeep]

@[simp] theorem ground_eccKeep (s : State) (c e a : Nat) : ground (eccKeep s c e a) = ground s := by simp [eccKeep]

end Sys2Proof.Machine
end

section
namespace Sys2Proof.Machine

/-! ### Feature tables: what is left untouched -/

@[simp] theorem groundKept_onBatch (t : Nat) (p : GatherP) (b : Bufs) (gather update : Bool) (s : State)
    (f : Tile → Task → FTab → Batch → Res) (h : ∀ x k y q, GroundKept s (f x k y q)) :
    GroundKept s (onBatch t p b gather update s f) := by
  unfold onBatch
  split
  · simp
  · refine groundKept_onTask s t _ fun x k => ?_
    dsimp only
    repeat' split
    all_goals simp [h]

@[simp] theorem ground_applyDelta (s : State) (d : DeltaRec) : ground (applyDelta s d) = ground s := by simp [applyDelta]

@[simp] theorem ground_applyDue (s : State) (p : DueDelta → Bool) : ground (applyDue s p) = ground s := by simp [applyDue]

@[simp] theorem groundKept_execDeltaApply (keep : Nat) (s : State) : GroundKept s (execDeltaApply keep s) := by
  unfold execDeltaApply
  repeat' split
  all_goals simp

@[simp] theorem ground_settleRow (s : State) (table row : Nat) : ground (settleRow s table row) = ground s := by
  simp [settleRow]

@[simp] theorem ground_settleBytes (s : State) (c a n : Nat) : ground (settleBytes s c a n) = ground s := by simp [settleBytes]

@[simp] theorem ground_placeTable (s : State) (i : Image) (t : Nat) : ground (placeTable s i t) = ground s := by
  unfold placeTable
  dsimp only
  repeat' split
  all_goals simp

@[simp] theorem ground_placeTables (s : State) (i : Image) : ground (placeTables s i) = ground s := by simp [placeTables]

@[simp] theorem ground_track (s : State) (table row keep spire : Nat) : ground (track s table row keep spire) = ground s := by
  simp [track]

@[simp] theorem ground_fetchRow (s : State) (t table row : Nat) : ground (fetchRow s t table row) = ground s := by
  simp [fetchRow]

@[simp] theorem ground_setReplicas (s : State) (p : Nat) (l : List (Nat × Nat)) : ground (setReplicas s p l) = ground s := by
  simp [setReplicas]

@[simp] theorem ground_fillReplicas (s : State) : ground (fillReplicas s) = ground s := by simp [fillReplicas]

@[simp] theorem groundKept_execReplicationWindow (s : State) : GroundKept s (execReplicationWindow s) := by
  unfold execReplicationWindow
  dsimp only
  repeat' split
  all_goals simp

theorem ground_badRow {s u : State} {t : Nat} {k : Task} {p : GatherP} {y : FTab} {rows : List Nat}
    (h : badRow s t k p y rows = some u) : ground u = ground s := by
  unfold badRow at h
  obtain ⟨r, -, rfl⟩ := Option.map_eq_some_iff.mp h
  simp

@[simp] theorem groundKept_execGather (t : Nat) (p : GatherP) (b : Bufs) (s : State) : GroundKept s (execGather t p b s) := by
  refine groundKept_onBatch _ _ _ _ _ _ _ fun x k y q => ?_
  dsimp only
  repeat' split
  case h_1 h => simp [ground_badRow h]
  all_goals simp

@[simp] theorem groundKept_execUpdate (t : Nat) (p : GatherP) (b : Bufs) (s : State) : GroundKept s (execUpdate t p b s) := by
  refine groundKept_onBatch _ _ _ _ _ _ _ fun x k y q => ?_
  dsimp only
  repeat' split
  all_goals simp

@[simp] theorem groundKept_execUnique (t : Nat) (p : GatherP) (b : Bufs) (s : State) : GroundKept s (execUnique t p b s) := by
  simp [execUnique]

@[simp] theorem ground_acceptDelta (s : State) (d : DeltaRec) : ground (acceptDelta s d) = ground s := by simp [acceptDelta]

@[simp] theorem ground_dropFeatures (s : State) (c : Nat) : ground (dropFeatures s c) = ground s := by simp [dropFeatures]

end Sys2Proof.Machine
end

section
namespace Sys2Proof.Machine

/-! ### Streams: what is left untouched -/

@[simp] theorem ground_moveElem (s : State) (t : Nat) (r : StreamRun) (e : Nat × Nat × Nat) :
    ground (moveElem s t r e) = ground s := by
  unfold moveElem
  repeat' split
  all_goals simp

@[simp] theorem ground_setRun (s : State) (t : Nat) (r : StreamRun) : ground (setRun s t r) = ground s := by simp [setRun]

@[simp] theorem ground_touch (s : State) (t e : Nat) : ground (touch s t e) = ground s := by simp [touch]

@[simp] theorem ground_askGranule (s : State) (c a : Nat) (x : Served) : ground (askGranule s c a x) = ground s := by
  unfold askGranule
  repeat' split
  all_goals simp

@[simp] theorem groundKept_execStreamStart (t idx : Nat) (s : State) : GroundKept s (execStreamStart t idx s) := by
  unfold execStreamStart
  refine groundKept_onTask _ _ _ fun x k => ?_
  repeat' split
  all_goals simp

@[simp] theorem groundKept_execStreamWait (t idx : Nat) (s : State) : GroundKept s (execStreamWait t idx s) := by
  unfold execStreamWait
  refine groundKept_onTask _ _ _ fun x k => ?_
  repeat' split
  all_goals simp

@[simp] theorem ground_countHits (s : State) (t : Nat) (r : StreamRun) : ground (countHits s t r) = ground s := by
  simp [countHits]

@[simp] theorem ground_wakeTask (s : State) (t : Nat) (r : StreamRun) : ground (wakeTask s t r) = ground s := by
  unfold wakeTask
  repeat' split
  all_goals simp

@[simp] theorem ground_land (s : State) (t : Nat) (r : StreamRun) : ground (land s t r) = ground s := by simp [land]

@[simp] theorem groundKept_landRun (s : State) (t : Nat) (r : StreamRun) : GroundKept s (landRun s t r) := by
  unfold landRun
  repeat' split
  all_goals simp

@[simp] theorem groundKept_execStreamComplete (t idx : Nat) (s : State) : GroundKept s (execStreamComplete t idx s) := by
  unfold execStreamComplete
  repeat' split
  all_goals simp

@[simp] theorem ground_countLate (s : State) (t : Nat) (r : StreamRun) : ground (countLate s t r) = ground s := by
  simp [countLate]

@[simp] theorem groundKept_execPoolReadComplete (t idx : Nat) (failed lateLanding : Bool) (s : State) :
    GroundKept s (execPoolReadComplete t idx failed lateLanding s) := by
  unfold execPoolReadComplete
  split
  · simp
  · split
    · simp
    · next r _ =>
      have hland := groundKept_landRun s t r
      dsimp only
      split
      · simp
      · split
        · simp
        · split
          · split
            · next u hu =>
              have := hland _ hu
              split
              all_goals simpa
            · exact hland
          · exact hland

@[simp] theorem ground_streamAbort_late (s : State) (t : Nat) (r : StreamRun) (cause why : Nat) :
    ground (streamAbort.late s t r cause why) = ground s := by
  unfold streamAbort.late
  dsimp only
  repeat' split
  all_goals simp

@[simp] theorem ground_streamAbort (s : State) (t : Nat) (r : StreamRun) (cause why : Nat) :
    ground (streamAbort s t r cause why) = ground s := by
  unfold streamAbort
  repeat' split
  all_goals simp

@[simp] theorem groundKept_execStreamFault (t idx cause : Nat) (addr : Word) (s : State) :
    GroundKept s (execStreamFault t idx cause addr s) := by
  unfold execStreamFault
  dsimp only
  repeat' split
  all_goals simp

@[simp] theorem groundKept_execLineFill (p line : Nat) (tiles : List Nat) (ecc : Nat) (s : State) :
    GroundKept s (execLineFill p line tiles ecc s) := by
  unfold execLineFill
  repeat' split
  all_goals simp

@[simp] theorem ground_postToken (s : State) (t : Nat) (k : Task) (route rank : Nat) (data : List Byte) :
    ground (postToken s t k route rank data) = ground s := by simp [postToken]

@[simp] theorem ground_sendNow (s : State) (t : Nat) (x : Tile) (k : Task) (w : WaitingSend) :
    ground (sendNow s t x k w) = ground s := by simp [sendNow]

@[simp] theorem groundKept_execSend (t bytes route rank : Nat) (b : Bufs) (s : State) :
    GroundKept s (execSend t bytes route rank b s) := by
  unfold execSend
  split
  · simp
  · refine groundKept_onTask _ _ _ fun x k => ?_
    repeat' split
    all_goals simp

@[simp] theorem groundKept_execSendAfterCredit (t : Nat) (s : State) : GroundKept s (execSendAfterCredit t s) := by
  unfold execSendAfterCredit
  dsimp only
  repeat' split
  all_goals simp

@[simp] theorem ground_routeEach (s : State) (t : Nat) (k : Task) (route : Nat) (l : List (Nat × Nat × List Byte)) :
    ground (routeEach s t k route l).1 = ground s := by
  induction l generalizing s with
  | nil => rfl
  | cons x l ih =>
    unfold routeEach
    split
    all_goals simp [ih]

@[simp] theorem groundKept_execRouteRows (t route rowBytes rows : Nat) (b : Bufs) (s : State) :
    GroundKept s (execRouteRows t route rowBytes rows b s) := by
  unfold execRouteRows
  split
  · simp
  · refine groundKept_onTask _ _ _ fun x k => ?_
    dsimp only
    repeat' split
    all_goals simp

@[simp] theorem groundKept_execLoop (t trip : Nat) (s : State) : GroundKept s (execLoop t trip s) := by
  unfold execLoop
  split
  · simp
  · refine groundKept_onTask _ _ _ fun x k => ?_
    repeat' split
    all_goals simp

@[simp] theorem groundKept_execEndLoop (t : Nat) (s : State) : GroundKept s (execEndLoop t s) := by
  unfold execEndLoop
  refine groundKept_onTask _ _ _ fun x k => ?_
  repeat' split
  all_goals simp

@[simp] theorem ground_taskDone (s : State) (t : Nat) : ground (taskDone s t) = ground s := by simp [taskDone]

@[simp] theorem groundKept_execExitIf (t test fmt scope : Nat) (threshold : Word) (b : Bufs) (s : State) :
    GroundKept s (execExitIf t test fmt scope threshold b s) := by
  unfold execExitIf
  split
  · simp
  · refine groundKept_onTask _ _ _ fun x k => ?_
    dsimp only
    repeat' split
    all_goals simp

@[simp] theorem groundKept_execEmit (t bytes : Nat) (b : Bufs) (s : State) : GroundKept s (execEmit t bytes b s) := by
  simp [execEmit]

@[simp] theorem groundKept_execTaskComplete (t : Nat) (s : State) : GroundKept s (execTaskComplete t s) := by
  unfold execTaskComplete
  refine groundKept_onTask _ _ _ fun x k => ?_
  repeat' split
  all_goals simp

@[simp] theorem ground_putScales (s : State) (t : Nat) (l : Table Word) : ground (putScales s t l) = ground s := by
  simp [putScales]

@[simp] theorem ground_beginSwitch (s : State) (t c ready : Nat) : ground (beginSwitch s t c ready) = ground s := by
  unfold beginSwitch
  dsimp only
  repeat' split
  all_goals simp

@[simp] theorem groundKept_execContextSwitchComplete (t : Nat) (s : State) : GroundKept s (execContextSwitchComplete t s) := by
  unfold execContextSwitchComplete
  dsimp only
  repeat' split
  all_goals simp

end Sys2Proof.Machine
end

section
namespace Sys2Proof.Machine

/-! ### Tokens and tasks: what is left untouched -/

@[simp] theorem ground_toInbox (s : State) (t : Nat) (k : Token) : ground (toInbox s t k) = ground s := by simp [toInbox]

@[simp] theorem ground_toTile (s : State) (k : Token) (r : RouteRec) (q : Request) :
    ground (deliver_.toTile s k r q) = ground s := by
  unfold deliver_.toTile
  dsimp only
  repeat' split
  all_goals simp

@[simp] theorem ground_deliver_ (s : State) (k : Token) : ground (deliver_ s k) = ground s := by
  unfold deliver_
  dsimp only
  repeat' split
  all_goals simp

@[simp] theorem ground_startTask (s : State) (t e : Nat) (q : Request) (j step rank program : Nat) (toks : List Token) :
    ground (startTask s t e q j step rank program toks) = ground s := by
  unfold startTask
  repeat' split
  all_goals simp

@[simp] theorem ground_inputMissing (s : State) (t e : Nat) (q : Request) (why : Nat) :
    ground (inputMissing s t e q why) = ground s := by simp [inputMissing]

@[simp] theorem ground_landingMissing (s : State) (t e : Nat) (q : Request) (r : StreamRun) :
    ground (landingMissing s t e q r) = ground s := by simp [landingMissing]

@[simp] theorem ground_boundTile (s0 s : State) (t : Nat) : ground (boundTile s0 s t) = ground s := by
  unfold boundTile
  repeat' split
  all_goals simp

@[simp] theorem ground_startBound (s : State) : ground (startBound s) = ground s := by simp [startBound]

@[simp] theorem ground_breachLost (s : State) : ground (breachLost s) = ground s := by
  unfold breachLost
  refine foldl_keeps ground _ (fun s x => ?_) _ _
  repeat' split
  all_goals simp

@[simp] theorem ground_sendDelta (s : State) (d : DeltaRec) : ground (sendDelta s d) = ground s := by
  unfold sendDelta
  dsimp only
  repeat' split
  all_goals simp

@[simp] theorem ground_publishDeltas (s : State) (l : List DeltaRec) : ground (publishDeltas s l) = ground s := by
  simp [publishDeltas]

@[simp] theorem ground_freeCredit (s : State) (t route : Nat) : ground (freeCredit s t route) = ground s := by simp [freeCredit]

@[simp] theorem ground_leaveTile (s : State) (t : Nat) (k : Task) (lastStep : Bool) :
    ground (leaveTile s t k lastStep) = ground s := by simp [leaveTile]

@[simp] theorem ground_publishTask (s : State) (t : Nat) (k : Task) : ground (publishTask s t k) = ground s := by
  unfold publishTask
  repeat' split
  all_goals simp

@[simp] theorem ground_publishAll (s : State) : ground (publishAll s) = ground s := by
  unfold publishAll
  refine foldl_keeps ground _ (fun s x => ?_) _ _
  repeat' split
  all_goals simp

@[simp] theorem ground_returnCredits (s : State) : ground (returnCredits s) = ground s := by simp [returnCredits]

@[simp] theorem ground_overrun (s : State) (t : Nat) : ground (overrun s t) = ground s := by
  unfold overrun
  dsimp only
  repeat' split
  all_goals simp

@[simp] theorem ground_overruns (s : State) : ground (overruns s) = ground s := by simp [overruns]

@[simp] theorem ground_enqueueReady (s : State) (e : Nat) : ground (enqueueReady s e) = ground s := by
  unfold enqueueReady
  repeat' split
  · rfl
  · rfl
  · rfl
  · refine foldl_keeps ground _ (fun s j => ?_) _ _
    split
    · rfl
    · refine foldl_keeps ground _ (fun s rank => ?_) _ _
      split
      all_goals simp

@[simp] theorem ground_placeTask (s : State) (p t : Nat) (k : QTask) (q : Request) (program : Nat) :
    ground (placeTask s p t k q program) = ground s := by simp [placeTask]

@[simp] theorem ground_dispatchOne (s : State) (p : Nat) (k : QTask) : ground (dispatchOne s p k) = ground s := by
  unfold dispatchOne
  dsimp only
  repeat' split
  all_goals simp

@[simp] theorem ground_dispatchAll (s : State) : ground (dispatchAll s) = ground s := by simp [dispatchAll]

@[simp] theorem ground_beginSwitches (s : State) : ground (beginSwitches s) = ground s := by
  unfold beginSwitches
  dsimp only
  refine (foldl_keeps ground _ (fun s o => ?_) _ _).trans ((foldl_keeps ground _ (fun s t => ?_) _ _).trans (by simp))
  · split
    all_goals simp
  · repeat' split
    all_goals simp

end Sys2Proof.Machine
end

section
namespace Sys2Proof.Machine

/-! ### Search: what is left untouched -/

@[simp] theorem ground_indexWrite (s : State) (x : IndexHdr) (off : Nat) (bs : List Byte) :
    ground (indexWrite s x off bs) = ground s := by simp [indexWrite]

@[simp] theorem ground_setIndex (s : State) (ref : Nat) (x : IndexSt) : ground (setIndex s ref x) = ground s := by
  simp [setIndex]

@[simp] theorem ground_loadReply (s : State) (n tag status version : Nat) :
    ground (loadReply s n tag status version) = ground s := by simp [loadReply]

@[simp] theorem ground_applyChange (s : State) (ref : Nat) (h : IndexHdr) (x : IndexSt) (c : HeldChange) :
    ground (applyChange s ref h x c) = ground s := by simp [applyChange]

@[simp] theorem ground_takeChange (s : State) (ref : Nat) (h : IndexHdr) (c : HeldChange) :
    ground (takeChange s ref h c) = ground s := by simp [takeChange]

@[simp] theorem groundKept_indexLoad (s : State) (n tag ref : Nat) (run : IndexHdr → Res) (h : ∀ x, GroundKept s (run x)) :
    GroundKept s (indexLoad s n tag ref run) := by
  unfold indexLoad
  repeat' split
  all_goals simp [h]

@[simp] theorem groundKept_execDelete (n tag ref : Nat) (passages : List Nat) (s : State) :
    GroundKept s (execDelete n tag ref passages s) := by
  refine groundKept_indexLoad _ _ _ _ _ fun h => ?_
  repeat' split
  all_goals simp

@[simp] theorem groundKept_execFilterWrite (n tag ref f offset : Nat) (bytes : List Byte) (s : State) :
    GroundKept s (execFilterWrite n tag ref f offset bytes s) := by
  refine groundKept_indexLoad _ _ _ _ _ fun h => ?_
  repeat' split
  all_goals simp

@[simp] theorem groundKept_execPublish (n tag ref : Nat) (s : State) : GroundKept s (execPublish n tag ref s) := by
  unfold execPublish
  repeat' split
  all_goals simp

@[simp] theorem groundKept_execChangeApplied (ref : Nat) (s : State) : GroundKept s (execChangeApplied ref s) := by
  unfold execChangeApplied
  dsimp only
  repeat' split
  all_goals simp

@[simp] theorem ground_switchVersion (s : State) (ref : Nat) : ground (switchVersion s ref) = ground s := by
  unfold switchVersion
  dsimp only
  repeat' split
  all_goals simp

@[simp] theorem ground_switchVersions (s : State) : ground (switchVersions s) = ground s := by simp [switchVersions]

@[simp] theorem ground_writeEdges (s : State) (x : IndexHdr) (v y : Nat) (l : List (Nat × List Byte)) :
    ground (writeEdges s x v y l) = ground s := by simp [writeEdges]

@[simp] theorem groundKept_execEdgeRepair (ref : Nat) (s : State) : GroundKept s (execEdgeRepair ref s) := by
  unfold execEdgeRepair
  dsimp only
  repeat' split
  all_goals simp

@[simp] theorem ground_sketchMissing (s : State) (r : Request) (e : Nat) : ground (sketchMissing s r e) = ground s := by
  simp [sketchMissing]

@[simp] theorem ground_bindSearch (s : State) (e : Nat) : ground (bindSearch s e) = ground s := by
  unfold bindSearch
  repeat' split
  all_goals simp

@[simp] theorem ground_bindSearches (s : State) : ground (bindSearches s) = ground s := by simp [bindSearches]

@[simp] theorem ground_scanQuery (s : State) (x : IndexHdr) (k f e : Nat) : ground (scanQuery s x k f e) = ground s := by
  unfold scanQuery
  repeat' split
  all_goals simp

@[simp] theorem ground_scanKeep (s : State) (x : IndexHdr) (f : Nat) (late lanes : List Nat) (k : Nat) :
    ground (scanKeep s x f late lanes k) = ground s := by
  unfold scanKeep
  dsimp only
  repeat' split
  all_goals simp

@[simp] theorem ground_scanFrame (s : State) (f : Nat) (late lanes : List Nat) :
    ground (scanFrame s f late lanes) = ground s := by
  unfold scanFrame
  repeat' split
  all_goals simp

@[simp] theorem ground_sendShortlist (s : State) (e : Nat) (r : Request) (j k : Nat) (rec_ : SelRec) :
    ground (sendShortlist s e r j k rec_) = ground s := by
  unfold sendShortlist
  repeat' split
  all_goals simp

@[simp] theorem ground_finishSearch (s : State) (e : Nat) (r : Request) (b : SearchBlock) (j frames : Nat) :
    ground (finishSearch s e r b j frames) = ground s := by simp [finishSearch]

@[simp] theorem ground_searchFrame (s : State) (f e : Nat) : ground (searchFrame s f e) = ground s := by
  unfold searchFrame
  repeat' split
  all_goals simp

@[simp] theorem ground_searchFrames (s : State) (f : Nat) : ground (searchFrames s f) = ground s := by simp [searchFrames]

end Sys2Proof.Machine
end

section
namespace Sys2Proof.Machine

/-! ### Text: what is left untouched -/

@[simp] theorem ground_textFault (s : State) (e : Nat) : ground (textFault s e) = ground s := by simp [textFault]

@[simp] theorem ground_openText (s : State) (e p j : Nat) (jobs : List TextJob) :
    ground (openText s e p j jobs) = ground s := by simp [openText]

@[simp] theorem ground_openStage (s : State) (e : Nat) (r : Request) (j : Nat) : ground (openStage s e r j) = ground s := by
  simp [openStage]

@[simp] theorem ground_openTexts (s : State) : ground (openTexts s) = ground s := by
  refine foldl_keeps ground _ (fun s e => ?_) _ _
  repeat' split
  · rfl
  · rfl
  · refine foldl_keeps ground _ (fun s j => ?_) _ _
    repeat' split
    all_goals simp

@[simp] theorem ground_keepPart (s : State) (j : TextJob) : ground (keepPart s j) = ground s := by simp [keepPart]

@[simp] theorem ground_runTokenize (s : State) (j : TextJob) (v : Vocab) : ground (runTokenize s j v) = ground s := by
  simp [runTokenize]

@[simp] theorem ground_textFragment (s : State) (e : Nat) (r : Request) (first generated : Nat) (bs : List Byte) :
    ground (textFragment s e r first generated bs) = ground s := by simp [textFragment]

@[simp] theorem ground_detokenize (s : State) (j : TextJob) (v : Vocab) (r : Request) (toks : List Nat) :
    ground (detokenize s j v r toks) = ground s := by simp [detokenize]

@[simp] theorem ground_runDetokenize (s : State) (j : TextJob) (v : Vocab) (r : Request) :
    ground (runDetokenize s j v r) = ground s := by simp [runDetokenize]

@[simp] theorem ground_runJob (s : State) (j : TextJob) : ground (runJob s j) = ground s := by
  unfold runJob
  repeat' split
  all_goals simp

@[simp] theorem groundKept_textCommand (kind : Nat) (j : TextJob) (lane : Option Nat) (s : State) :
    GroundKept s (textCommand kind j lane s) := by
  unfold textCommand
  repeat' split
  all_goals simp

@[simp] theorem groundKept_execTokenize (j : TextJob) (lane : Option Nat) (s : State) :
    GroundKept s (execTokenize j lane s) := by simp [execTokenize]

@[simp] theorem groundKept_execDetokenize (j : TextJob) (lane : Option Nat) (s : State) :
    GroundKept s (execDetokenize j lane s) := by simp [execDetokenize]

@[simp] theorem ground_closeTexts (s : State) (f : Nat) : ground (closeTexts s f) = ground s := by simp [closeTexts]

@[simp] theorem ground_formResults (s : State) : ground (formResults s) = ground s := by simp [formResults]

end Sys2Proof.Machine
end

section
namespace Sys2Proof.Machine

/-! ### Serving: what is left untouched -/

@[simp] theorem ground_setRefs (s : State) (c p n : Nat) : ground (setRefs s c p n) = ground s := by simp [setRefs]

@[simp] theorem ground_takeRef (c : Nat) (s : State) (p : Nat) : ground (takeRef c s p) = ground s := by simp [takeRef]

@[simp] theorem ground_dropRef (c : Nat) (s : State) (p : Nat) : ground (dropRef c s p) = ground s := by simp [dropRef]

@[simp] theorem ground_evict (s : State) (n : PrefixNode) : ground (evict s n) = ground s := by simp [evict]

@[simp] theorem ground_allocPage (s : State) (c : Nat) : ground (allocPage s c).1 = ground s := by
  unfold allocPage
  dsimp only
  repeat' split
  all_goals simp

@[simp] theorem ground_writeList (s : State) (e : Nat) : ground (writeList s e) = ground s := by
  unfold writeList
  repeat' split
  all_goals simp

@[simp] theorem ground_growPages (e n fuel : Nat) (s : State) : ground (growPages e n fuel s) = ground s := by
  induction fuel generalizing s with
  | zero => rfl
  | succ fuel ih =>
    unfold growPages
    split
    · rfl
    · next r _ =>
      have h := ground_allocPage s r.ctx
      split
      · rfl
      · split
        all_goals simp_all

@[simp] theorem ground_releasePages (s : State) (e : Nat) : ground (releasePages s e) = ground s := by
  unfold releasePages
  split
  · rfl
  · next r _ =>
    have hdrop := foldl_keeps ground (dropRef r.ctx) (ground_dropRef r.ctx) (r.pages ++ r.pageHead.toList) s
    dsimp only
    rw [ground_updReq]
    split
    · split
      · exact hdrop
      · exact hdrop
    · exact hdrop

@[simp] theorem ground_rollBack (s : State) (e : Nat) : ground (rollBack s e) = ground s := by
  unfold rollBack
  repeat' split
  all_goals simp

@[simp] theorem ground_insertPage (s : State) (e variant : Nat) (i : Nat) : ground (insertPage s e variant i) = ground s := by
  unfold insertPage
  repeat' split
  all_goals simp

@[simp] theorem ground_insertPages (s : State) (e : Nat) : ground (insertPages s e) = ground s := by
  unfold insertPages
  repeat' split
  all_goals simp

@[simp] theorem ground_genFault (s : State) (e : Nat) : ground (genFault s e) = ground s := by simp [genFault]

@[simp] theorem ground_promptMissing (s : State) (e : Nat) (r : Request) (j : Nat) :
    ground (promptMissing s e r j) = ground s := by simp [promptMissing]

@[simp] theorem ground_lookUp (s : State) (e : Nat) : ground (lookUp s e) = ground s := by
  unfold lookUp
  repeat' split
  all_goals simp

@[simp] theorem ground_decideDraft (s : State) (e : Nat) : ground (decideDraft s e) = ground s := by
  unfold decideDraft
  repeat' split
  all_goals simp

@[simp] theorem ground_draftStep (s : State) (r : Request) (b : GenBlock) (d m : Nat) :
    ground (draftStep s r b d m).1 = ground s := by
  unfold draftStep
  dsimp only
  repeat' split
  all_goals simp

@[simp] theorem ground_emitTokens (s : State) (e : Nat) (r : Request) (b : GenBlock) (toks : List Nat) :
    ground (emitTokens s e r b toks) = ground s := by
  unfold emitTokens
  repeat' split
  all_goals simp

@[simp] theorem ground_generate (s : State) (e : Nat) (r : Request) (b : GenBlock) (toks : List Nat) :
    ground (generate s e r b toks) = ground s := by simp [generate]

@[simp] theorem ground_countStep (s : State) (r : Request) (b : GenBlock) (m : Nat) :
    ground (countStep s r b m).1 = ground s := by simp [countStep]

@[simp] theorem ground_outputOf (s : State) (e k : Nat) (ins : List DecodeIn) : ground (outputOf s e k ins).1 = ground s := by
  unfold outputOf
  repeat' split
  all_goals simp

@[simp] theorem ground_discardedStep (s : State) (e : Nat) (r : Request) (b : GenBlock) (ins : List DecodeIn) :
    ground (discardedStep s e r b ins) = ground s := by simp [discardedStep]

@[simp] theorem ground_firstToken (s : State) (e : Nat) (r : Request) (b : GenBlock) (ins : List DecodeIn) :
    ground (firstToken s e r b ins) = ground s := by
  unfold firstToken
  dsimp only
  repeat' split
  all_goals simp

@[simp] theorem ground_decodeStep (s : State) (e : Nat) (r : Request) (b : GenBlock) (ins : List DecodeIn) :
    ground (decodeStep s e r b ins) = ground s := by simp [decodeStep]

@[simp] theorem ground_laneFrame (n : Nat) (ins : List DecodeIn) (s : State) (e : Nat) :
    ground (laneFrame n ins s e) = ground s := by
  unfold laneFrame
  repeat' split
  all_goals simp

@[simp] theorem ground_laneFrames (s : State) (n : Nat) (ins : List DecodeIn) : ground (laneFrames s n ins) = ground s := by
  simp [laneFrames]

@[simp] theorem ground_growFor (s : State) (f e : Nat) : ground (growFor s f e) = ground s := by
  unfold growFor
  split
  · rfl
  · next r _ =>
    have halloc := ground_allocPage s r.ctx
    dsimp only
    repeat' split
    all_goals simp_all

@[simp] theorem ground_servingBoundary (s : State) : ground (servingBoundary s) = ground s := by
  unfold servingBoundary
  dsimp only
  refine (foldl_keeps ground _ (fun s e => ground_growFor s _ e) _ _).trans ?_
  refine (foldl_keeps ground _ (fun s e => ?_) _ _).trans ?_
  · repeat' split
    all_goals simp
  refine (foldl_keeps ground _ (fun s e => ?_) _ _).trans ?_
  · repeat' split
    all_goals simp
  refine (foldl_keeps ground _ (fun s e => ground_insertPages s e) _ _).trans (foldl_keeps ground _ (fun s e => ?_) _ _)
  repeat' split
  all_goals simp

@[simp] theorem ground_startServing (s : State) : ground (startServing s) = ground s := by
  unfold startServing
  refine foldl_keeps ground _ (fun s x => ?_) _ _
  dsimp only
  repeat' split
  all_goals simp

@[simp] theorem ground_loadRegion (s : State) (region ref : Nat) : ground (loadRegion s region ref) = ground s := by
  unfold loadRegion
  repeat' split
  all_goals simp

@[simp] theorem ground_dropLines (s : State) (region : Nat) : ground (dropLines s region) = ground s := by simp [dropLines]

@[simp] theorem ground_endSwap (s : State) (w : SwapPlan) : ground (endSwap s w) = ground s := by simp [endSwap]

@[simp] theorem ground_endSwaps (s : State) : ground (endSwaps s) = ground s := by simp [endSwaps]

@[simp] theorem groundKept_execSwapComplete (region : Nat) (reads : ReadEnd) (s : State) :
    GroundKept s (execSwapComplete region reads s) := by
  unfold execSwapComplete
  repeat' split
  all_goals simp

@[simp] theorem ground_inspect (s : State) (v : Word) : ground (inspect s v) = ground s := by simp [inspect]

end Sys2Proof.Machine
end

section
namespace Sys2Proof.Machine

/-! ### Admission: what is left untouched -/

@[simp] theorem ground_orderFit (s : State) (a : Ask) (f : Fit) : ground (orderFit s a f) = ground s := by simp [orderFit]

@[simp] theorem ground_acceptMsg (s : State) (e : Nat) (r : Request) : ground (acceptMsg s e r) = ground s := by
  simp [acceptMsg]

@[simp] theorem ground_decideNew (s : State) (x : Submission) : ground (decideNew s x) = ground s := by
  unfold decideNew
  dsimp only
  repeat' split
  all_goals simp

@[simp] theorem ground_decideReplan (s : State) (e : Nat) : ground (decideReplan s e) = ground s := by
  unfold decideReplan
  dsimp only
  repeat' split
  all_goals simp

@[simp] theorem ground_decideItem (s : State) (i : PassItem) : ground (decideItem s i) = ground s := by
  unfold decideItem
  repeat' split
  all_goals simp

@[simp] theorem ground_admissionPass (s : State) : ground (admissionPass s) = ground s := by simp [admissionPass]

end Sys2Proof.Machine
end

section
namespace Sys2Proof.Machine

/-! ### The tier engine: what is left untouched -/

@[simp] theorem ground_mgmtReply (s : State) (link op status seq : Nat) (body : List Byte) :
    ground (mgmtReply s link op status seq body) = ground s := by
  unfold mgmtReply
  repeat' split
  all_goals simp

@[simp] theorem groundKept_execLeaseRequest (l : LeaseId) (granules mbps : Nat) (s : State) :
    GroundKept s (execLeaseRequest l granules mbps s) := by
  unfold execLeaseRequest
  dsimp only
  repeat' split
  all_goals simp

@[simp] theorem groundKept_execLeaseRelease (l : LeaseId) (s : State) : GroundKept s (execLeaseRelease l s) := by
  unfold execLeaseRelease
  repeat' split
  all_goals simp

@[simp] theorem groundKept_execLeaseRead (l : LeaseId) (addr : Word) (ctx bytes : Nat) (s : State) :
    GroundKept s (execLeaseRead l addr ctx bytes s) := by
  unfold execLeaseRead
  dsimp only
  repeat' split
  all_goals simp

@[simp] theorem groundKept_execLeaseWrite (l : LeaseId) (addr : Nat) (bytes : List Byte) (s : State) :
    GroundKept s (execLeaseWrite l addr bytes s) := by
  unfold execLeaseWrite
  repeat' split
  all_goals simp

@[simp] theorem ground_leaseReply (s : State) (link seq result lease : Nat) :
    ground (leaseReply s link seq result lease) = ground s := by simp [leaseReply]

@[simp] theorem groundKept_execLeaseGrant (l : LeaseId) (granules mbps : Nat) (s : State) :
    GroundKept s (execLeaseGrant l granules mbps s) := by
  unfold execLeaseGrant
  repeat' split
  all_goals simp

@[simp] theorem groundKept_execLeaseDeny (l : LeaseId) (s : State) : GroundKept s (execLeaseDeny l s) := by
  unfold execLeaseDeny
  repeat' split
  all_goals simp

@[simp] theorem groundKept_execLeaseReplyTimeout (s : State) : GroundKept s (execLeaseReplyTimeout s) := by
  unfold execLeaseReplyTimeout
  repeat' split
  all_goals simp

@[simp] theorem ground_replanT3 (s : State) : ground (replanT3 s) = ground s := by
  unfold replanT3
  refine foldl_keeps ground _ (fun s x => ?_) _ _
  repeat' split
  all_goals simp

@[simp] theorem groundKept_execLeaseRecall (l : LeaseId) (noticeMs : Nat) (s : State) :
    GroundKept s (execLeaseRecall l noticeMs s) := by
  unfold execLeaseRecall
  repeat' split
  all_goals simp

@[simp] theorem groundKept_execLeaseEnd (l : LeaseId) (s : State) : GroundKept s (execLeaseEnd l s) := by
  unfold execLeaseEnd
  repeat' split
  all_goals simp

@[simp] theorem ground_loseLease (s : State) (j : Nat) : ground (loseLease s j) = ground s := by simp [loseLease]

@[simp] theorem groundKept_execRecallNoticeEnd (lease : Nat) (s : State) : GroundKept s (execRecallNoticeEnd lease s) := by
  unfold execRecallNoticeEnd
  repeat' split
  all_goals simp

@[simp] theorem ground_loseLeases (s : State) : ground (loseLeases s) = ground s := by simp [loseLeases]

@[simp] theorem ground_handGranule (s : State) (ctx a : Nat) (d : List Byte) : ground (handGranule s ctx a d) = ground s := by
  simp [handGranule]

@[simp] theorem ground_fetched (s : State) (k : Nat) (d : List Byte) : ground (fetched s k d) = ground s := by simp [fetched]

@[simp] theorem groundKept_execLeaseData (l : LeaseId) (addr : Word) (ctx : Nat) (bytes : List Byte) (s : State) :
    GroundKept s (execLeaseData l addr ctx bytes s) := by
  unfold execLeaseData
  split
  · simp
  · split
    · simp
    · dsimp only
      split
      · simp
      · split
        · simp
        · refine (groundKept_next _ _).2 (foldl_keeps ground _ (fun s q => ?_) _ _)
          split
          all_goals simp

@[simp] theorem ground_unfetch (s : State) (l : LeaseId) (addr : Nat) : ground (unfetch s l addr) = ground s := by
  unfold unfetch
  repeat' split
  all_goals simp

@[simp] theorem groundKept_execLeaseFail (l : LeaseId) (addr : Word) (s : State) : GroundKept s (execLeaseFail l addr s) := by
  unfold execLeaseFail
  repeat' split
  all_goals simp

@[simp] theorem ground_sendTransfer (s : State) (h : Home) (d : List Byte) : ground (sendTransfer s h d) = ground s := by
  unfold sendTransfer
  repeat' split
  all_goals simp

@[simp] theorem ground_sendTransfers (s : State) (z : List Transfer) : ground (sendTransfers s z) = ground s := by
  fun_induction sendTransfers <;> simp_all

@[simp] theorem ground_rehome (s : State) (k : Nat) (h : Home) : ground (rehome s k h) = ground s := by simp [rehome]

@[simp] theorem ground_switchGranule (p : State × List Transfer) (k : Nat) (h : Home) :
    ground (switchGranule p k h).1 = ground p.1 := by simp [switchGranule]

@[simp] theorem ground_recallOne (p : State × List Transfer) (k : Nat) : ground (recallOne p k).1 = ground p.1 := by
  unfold recallOne
  repeat' split
  all_goals simp

@[simp] theorem ground_moveOne (m : Move) (p : State × List Transfer) (a : Nat) : ground (moveOne m p a).1 = ground p.1 := by
  unfold moveOne
  repeat' split
  all_goals simp

@[simp] theorem ground_askLease (s : State) (j : Nat) : ground (askLease s j) = ground s := by
  unfold askLease
  split
  · rfl
  · refine foldl_keeps ground _ (fun s q => ?_) _ _
    split
    all_goals simp

@[simp] theorem ground_askLeases (s : State) : ground (askLeases s) = ground s := by simp [askLeases]

@[simp] theorem ground_tierBoundary (s : State) (copied : Nat) : ground (tierBoundary s copied) = ground s := by
  unfold tierBoundary
  dsimp only
  repeat' split
  all_goals simp [ground_foldl_fst _ ground_recallOne, ground_foldl_fst _ (ground_moveOne _)]

@[simp] theorem ground_writeMoveCmd (s : State) (v : Word) : ground (writeMoveCmd s v) = ground s := by
  unfold writeMoveCmd
  repeat' split
  all_goals simp

@[simp] theorem groundKept_execArbitrationWindow (keep : Nat) (reqs : List Access) (s : State) :
    GroundKept s (execArbitrationWindow keep reqs s) := by
  unfold execArbitrationWindow
  repeat' split
  all_goals simp

@[simp] theorem ground_nextPatrol (s : State) (k : Nat) : ground (nextPatrol s k) = ground s := by simp [nextPatrol]

@[simp] theorem ground_patrolFind (k : Nat) (s : State) (b : Nat × Bool) : ground (patrolFind k s b) = ground s := by
  simp [patrolFind]

@[simp] theorem groundKept_execPatrolScrub (keep : Nat) (q0 q1 q2 q3 : List (Nat × Bool)) (s : State) :
    GroundKept s (execPatrolScrub keep q0 q1 q2 q3 s) := by
  unfold execPatrolScrub
  repeat' split
  all_goals simp

@[simp] theorem groundKept_execRowRepair (keep bank row : Nat) (s : State) : GroundKept s (execRowRepair keep bank row s) := by
  unfold execRowRepair
  dsimp only
  split
  · simp
  · split
    · simp
    · split
      · refine (groundKept_next _ _).2 ((ground_logEntry ..).trans ?_)
        rw [ground_setFlag, ground_setFld]
        rfl
      · split
        all_goals simp

@[simp] theorem ground_domeError (s : State) (d : DomeErr) : ground (domeError s d) = ground s := by simp [domeError]

@[simp] theorem ground_memoryErrors (b : BoundaryIn) (s : State) : ground (memoryErrors b s) = ground s := by
  simp [memoryErrors]

@[simp] theorem groundKept_execDelta (n tag : Nat) (ds : List DeltaRec) (s : State) : GroundKept s (execDelta n tag ds s) := by
  unfold execDelta
  repeat' split
  all_goals simp

@[simp] theorem groundKept_execDeltaAck (n table seq : Nat) (s : State) : GroundKept s (execDeltaAck n table seq s) := by
  unfold execDeltaAck
  repeat' split
  all_goals simp

end Sys2Proof.Machine
end

section
namespace Sys2Proof.Machine

/-! ### COMMIT: what is left untouched -/

@[simp] theorem ground_clearImageRegs (s : State) : ground (clearImageRegs s) = ground s := by simp [clearImageRegs]

@[simp] theorem ground_loaderWrite (s : State) (a : Nat) (v : Word) : ground (loaderWrite s a v) = ground s := by
  unfold loaderWrite
  repeat' split
  all_goals simp

@[simp] theorem ground_writeRoles (s : State) (i : Image) : ground (writeRoles s i) = ground s := by
  unfold writeRoles
  refine foldl_keeps ground _ (fun s x => ?_) _ _
  repeat' split
  all_goals simp

@[simp] theorem ground_applyConfig (s : State) (i : Image) : ground (applyConfig s i) = ground s := by simp [applyConfig]

@[simp] theorem ground_trial (s : State) (i : Image) : ground (trial s i) = ground s := by simp [trial]

end Sys2Proof.Machine
end

section
namespace Sys2Proof.Machine

/-! ### The loader: what is left untouched -/

@[simp] theorem ground_cmdRejected (s : State) : ground (cmdRejected s) = ground s := by simp [cmdRejected]

@[simp] theorem ground_logLoad (s : State) (detail : Nat) : ground (logLoad s detail) = ground s := by simp [logLoad]

@[simp] theorem ground_stageBytes (s : State) (offset : Nat) (bytes : List Byte) :
    ground (stageBytes s offset bytes) = ground s := by simp [stageBytes]

@[simp] theorem ground_emptyStaging (s : State) : ground (emptyStaging s) = ground s := by simp [emptyStaging]

@[simp] theorem ground_refuseCommit (s : State) (code detail logDetail : Nat) :
    ground (refuseCommit s code detail logDetail) = ground s := by simp [refuseCommit]

@[simp] theorem ground_applyFault (s : State) (addr : Nat) : ground (applyFault s addr) = ground s := by simp [applyFault]

@[simp] theorem ground_enableBlocks (s : State) (i : Image) : ground (enableBlocks s i) = ground s := by simp [enableBlocks]

@[simp] theorem ground_assignTiles (s : State) (i : Image) : ground (assignTiles s i) = ground s := by simp [assignTiles]

@[simp] theorem ground_freshService (s : State) : ground (freshService s) = ground s := by simp [freshService]

@[simp] theorem ground_extendHistory (s : State) (digest : List Byte) (signer imageId : Nat) :
    ground (extendHistory s digest signer imageId) = ground s := by simp [extendHistory]

@[simp] theorem ground_applyImage (s : State) (i : Image) (c : CommitIn) : ground (applyImage s i c) = ground s := by
  unfold applyImage
  repeat' split
  all_goals simp

theorem ground_loadAnswer (s : State) (n tag : Nat) {run : State} (h : ground run = ground s) :
    ground ((loadAnswer s n tag run).getD s) = ground s := by
  unfold loadAnswer
  cases sessAt s n with
  | none => rfl
  | some x => simp [h]

@[simp] theorem ground_duringOne (s : State) (d : DuringCommit) : ground (duringOne s d) = ground s := by
  cases d with
  | load n tag kind => exact ground_loadAnswer s n tag (by simp)
  | stage link seq => simp [duringOne]
  | command => simp [duringOne]

@[simp] theorem ground_commitOp (s : State) (c : CommitIn) : ground (commitOp s c) = ground s := by
  unfold commitOp
  dsimp only
  repeat' split
  all_goals simp

@[simp] theorem ground_discardOp (s : State) : ground (discardOp s) = ground s := by simp [discardOp]

@[simp] theorem ground_disableBlocks (s : State) : ground (disableBlocks s) = ground s := by simp [disableBlocks]

@[simp] theorem ground_removeImage (s : State) : ground (removeImage s) = ground s := by simp [removeImage]

@[simp] theorem ground_unloadOp (s : State) : ground (unloadOp s) = ground s := by simp [unloadOp]

@[simp] theorem groundKept_imgCommand (s : State) (path : RegPath) (f : State → State) (h : ∀ u, ground (f u) = ground u) :
    GroundKept s (imgCommand s path f) := by
  unfold imgCommand
  dsimp only
  repeat' split
  all_goals simp [h]

@[simp] theorem groundKept_execCommit (path : RegPath) (c : CommitIn) (s : State) : GroundKept s (execCommit path c s) := by
  unfold execCommit
  repeat' split
  all_goals simp

@[simp] theorem groundKept_execDiscard (path : RegPath) (s : State) : GroundKept s (execDiscard path s) := by simp [execDiscard]

@[simp] theorem groundKept_execUnload (path : RegPath) (s : State) : GroundKept s (execUnload path s) := by simp [execUnload]

@[simp] theorem groundKept_execLeaveSable (s : State) : GroundKept s (execLeaveSable s) := by
  unfold execLeaveSable
  repeat' split
  all_goals simp

@[simp] theorem groundKept_privLoad (s : State) (n tag : Nat) (run : State) (h : ground run = ground s) :
    GroundKept s (privLoad s n tag run) := by
  unfold privLoad loadAnswer
  cases sessAt s n with
  | none => simp
  | some x => simp [h]

@[simp] theorem ground_stageOp (s : State) (offset : Nat) (bytes : List Byte) :
    ground (stageOp s offset bytes).1 = ground s := by
  unfold stageOp
  repeat' split
  all_goals simp

@[simp] theorem groundKept_execLoadStructure (n tag offset : Nat) (bytes : List Byte) (s : State) :
    GroundKept s (execLoadStructure n tag offset bytes s) := by simp [execLoadStructure]

@[simp] theorem ground_loadPart (s : State) (r : ImageRef) (x : LoadedImage) (offset : Nat) (bytes : List Byte) :
    ground (loadPart s r x offset bytes).1 = ground s := by simp [loadPart]

@[simp] theorem ground_loadImage (s : State) (kind ref offset : Nat) (bytes : List Byte) :
    ground (loadImage s kind ref offset bytes).1 = ground s := by
  unfold loadImage
  dsimp only
  repeat' split
  all_goals simp

@[simp] theorem groundKept_loadMsg (s : State) (n tag kind ref offset : Nat) (bytes : List Byte) :
    GroundKept s (loadMsg s n tag kind ref offset bytes) := by simp [loadMsg]

@[simp] theorem groundKept_execLoadModel (n tag ref offset : Nat) (bytes : List Byte) (s : State) :
    GroundKept s (execLoadModel n tag ref offset bytes s) := by simp [execLoadModel]

@[simp] theorem groundKept_execLoadIndex (n tag ref offset : Nat) (bytes : List Byte) (s : State) :
    GroundKept s (execLoadIndex n tag ref offset bytes s) := by simp [execLoadIndex]

@[simp] theorem groundKept_execLoadVocabulary (n tag ref offset : Nat) (bytes : List Byte) (s : State) :
    GroundKept s (execLoadVocabulary n tag ref offset bytes s) := by simp [execLoadVocabulary]

end Sys2Proof.Machine
end

section
namespace Sys2Proof.Machine

/-! ### The boundary: what is left untouched -/

@[simp] theorem ground_inServiceOnly (f : State → State) (s : State) (h : ∀ u, ground (f u) = ground u) :
    ground (inServiceOnly f s) = ground s := by
  simp [inServiceOnly, h]

@[simp] theorem ground_measureOffset (s : State) (offset : Int) : ground (measureOffset s offset) = ground s := by
  simp [measureOffset]

@[simp] theorem ground_openFrame (s : State) : ground (openFrame s) = ground s := by simp [openFrame]

@[simp] theorem ground_sendPiece (s : State) (e : Nat) (last : Bool) (bs : List Byte) :
    ground (sendPiece s e last bs) = ground s := by
  unfold sendPiece
  repeat' split
  all_goals simp

@[simp] theorem ground_sendFragment (s : State) (e : Nat) (last : Bool) (bs : List Byte) :
    ground (sendFragment s e last bs) = ground s := by simp [sendFragment]

@[simp] theorem ground_releaseEntry (s : State) (e : Nat) : ground (releaseEntry s e) = ground s := by
  unfold releaseEntry
  repeat' split
  all_goals simp

@[simp] theorem ground_releaseAll (s : State) : ground (releaseAll s) = ground s := by simp [releaseAll]

@[simp] theorem ground_completeDue (s : State) : ground (completeDue s) = ground s := by simp [completeDue]

@[simp] theorem ground_freeReq (s : State) (e : Nat) : ground (freeReq s e) = ground s := by simp [freeReq]

@[simp] theorem ground_freeReqs (s : State) : ground (freeReqs s) = ground s := by simp [freeReqs]

@[simp] theorem ground_markProduced (s : State) : ground (markProduced s) = ground s := by simp [markProduced]

@[simp] theorem ground_placeSeeds (s : State) (e : Nat) (r : Request) : ground (placeSeeds s e r) = ground s := by
  unfold placeSeeds
  refine foldl_keeps ground _ (fun s x => ?_) _ _
  repeat' split
  all_goals simp

@[simp] theorem ground_beginRequest (s : State) (e : Nat) (r : Request) : ground (beginRequest s e r) = ground s := by
  unfold beginRequest
  dsimp only
  repeat' split
  all_goals simp

@[simp] theorem ground_transition (s : State) (e : Nat) : ground (transition s e) = ground s := by
  unfold transition
  repeat' split
  all_goals simp

@[simp] theorem ground_transitions (s : State) : ground (transitions s) = ground s := by simp [transitions]

@[simp] theorem ground_handOver (s : State) (t : Nat) : ground (handOver s t) = ground s := by
  unfold handOver
  dsimp only
  repeat' split
  all_goals simp

@[simp] theorem ground_handOvers (s : State) : ground (handOvers s) = ground s := by simp [handOvers]

@[simp] theorem ground_failTiles (s : State) : ground (failTiles s) = ground s := by simp [failTiles]

@[simp] theorem ground_returnTile (pes : List (Nat × Nat × Nat)) (fails netFails : List Nat) (s : State) (t : Nat) :
    ground (returnTile pes fails netFails s t) = ground s := by simp [returnTile]

@[simp] theorem ground_returnTiles (pes : List (Nat × Nat × Nat)) (fails netFails : List Nat) (s : State) :
    ground (returnTiles pes fails netFails s) = ground s := by simp [returnTiles]

@[simp] theorem ground_silentUnit (s : State) (u : UnitId) : ground (silentUnit s u) = ground s := by
  unfold silentUnit
  repeat' split
  all_goals simp

@[simp] theorem ground_switchServing (pes : List (Nat × Nat × Nat)) (s : State) (t : Nat) :
    ground (switchServing pes s t) = ground s := by simp [switchServing]

@[simp] theorem ground_scrubTile (c : Nat) (pes : List (Nat × Nat × Nat)) (s : State) (t : Nat) :
    ground (scrubTile c pes s t) = ground s := by
  unfold scrubTile
  dsimp only
  repeat' split
  all_goals simp

@[simp] theorem ground_slateReq (s : State) (e : Nat) : ground (slateReq s e) = ground s := by
  unfold slateReq
  repeat' split
  all_goals simp

@[simp] theorem ground_slateLease (c : Nat) (s : State) (p : Nat × Lease) : ground (slateLease c s p) = ground s := by
  simp [slateLease]

@[simp] theorem ground_slateQueues (c : Nat) (s : State) : ground (slateQueues c s) = ground s := by simp [slateQueues]

@[simp] theorem ground_enterSlate (pes : List (Nat × Nat × Nat)) (s : State) (c : Nat) :
    ground (enterSlate pes s c) = ground s := by
  unfold enterSlate
  repeat' split
  all_goals simp

@[simp] theorem ground_slates (b : BoundaryIn) (s : State) : ground (slates b s) = ground s := by simp [slates]

@[simp] theorem ground_closeFrame (b : BoundaryIn) (s : State) : ground (closeFrame b s) = ground s := by simp [closeFrame]

@[simp] theorem ground_dropDead (s : State) : ground (dropDead s) = ground s := by
  unfold dropDead
  refine foldl_keeps ground _ (fun s x => ?_) _ _
  repeat' split
  all_goals simp

@[simp] theorem ground_startWork (s : State) : ground (startWork s) = ground s := by simp [startWork]

@[simp] theorem ground_refill (s : State) : ground (refill s) = ground s := by simp [refill]

@[simp] theorem ground_reportService (s : State) : ground (reportService s) = ground s := by simp [reportService]

@[simp] theorem ground_serviceBoundary (b : BoundaryIn) (s : State) : ground (serviceBoundary b s) = ground s := by
  simp [serviceBoundary]

@[simp] theorem ground_idleBoundary (b : BoundaryIn) (s : State) : ground (idleBoundary b s) = ground s := by
  simp [idleBoundary]

@[simp] theorem groundKept_execFrameBoundary (b : BoundaryIn) (s : State) : GroundKept s (execFrameBoundary b s) := by
  unfold execFrameBoundary
  repeat' split
  all_goals simp

end Sys2Proof.Machine
end

section
namespace Sys2Proof.Machine

/-! ### The scrubs: what is left untouched -/

@[simp] theorem groundKept_execOrphanTimeout (c : Nat) (s : State) : GroundKept s (execOrphanTimeout c s) := by
  unfold execOrphanTimeout
  repeat' split
  all_goals simp

@[simp] theorem ground_zeroSpace (s : State) (c : Nat) : ground (zeroSpace s c) = ground s := by simp [zeroSpace]

@[simp] theorem ground_closeCtx (s : State) (c : Nat) : ground (closeCtx s c) = ground s := by simp [closeCtx]

@[simp] theorem groundKept_execContextScrubComplete (c : Nat) (s : State) : GroundKept s (execContextScrubComplete c s) := by
  unfold execContextScrubComplete
  repeat' split
  all_goals simp

@[simp] theorem ground_startScrub (s : State) (reply : Nat × Nat) : ground (startScrub s reply) = ground s := by
  simp [startScrub]

@[simp] theorem ground_wipeDevice (s : State) : ground (wipeDevice s) = ground s := by simp [wipeDevice]

@[simp] theorem ground_finishScrub (pes : List (Nat × Nat × Nat)) (fails nets : List Nat) (s : State) :
    ground (finishScrub pes fails nets s) = ground s := by
  unfold finishScrub
  dsimp only
  repeat' split
  all_goals simp

@[simp] theorem groundKept_execWholeDeviceScrubComplete (s : State) : GroundKept s (execWholeDeviceScrubComplete s) := by
  unfold execWholeDeviceScrubComplete
  repeat' split
  all_goals simp

end Sys2Proof.Machine
end

section
namespace Sys2Proof.Machine

/-! ### Register accesses: what is left untouched -/

@[simp] theorem ground_clearRead (s : State) (b : Blk) (off : Nat) : ground (clearRead s b off) = ground s := by
  unfold clearRead
  repeat' split
  all_goals simp

@[simp] theorem ground_writeControl (s : State) (b : Blk) (d : RegDesc) (v : Word) :
    ground (writeControl s b d v) = ground s := by simp [writeControl]

@[simp] theorem ground_writeConfig (s : State) (b : Blk) (off : Nat) (d : RegDesc) (v : Word) :
    ground (writeConfig s b off d v) = ground s := by simp [writeConfig]

@[simp] theorem ground_writeImgCmd (s : State) (v : Word) : ground (writeImgCmd s v) = ground s := by simp [writeImgCmd]

@[simp] theorem ground_writeTile (s : State) (t off : Nat) (d : RegDesc) (v : Word) :
    ground (writeTile s t off d v) = ground s := by simp [writeTile]

@[simp] theorem ground_writeReg (s : State) (b : Blk) (off : Nat) (d : RegDesc) (v : Word) :
    ground (writeReg s b off d v) = ground s := by
  unfold writeReg
  repeat' split
  all_goals simp

@[simp] theorem ground_access (s : State) (path : RegPath) (write : Bool) (addr size : Nat) (v : Word) :
    ground (access s path write addr size v).1 = ground s := by
  unfold access
  dsimp only
  repeat' split
  all_goals simp

theorem ground_onPath {s u : State} {path : RegPath} {write : Bool} {addr size st : Nat} {v w : Word}
    (h : onPath s path write addr size v = some (u, st, w)) : ground u = ground s := by
  have haccess := ground_access s path write addr size v
  unfold onPath at h
  cases path with
  | mgmt => rwa [Option.some.inj h] at haccess
  | window n =>
    dsimp only at h
    split at h
    · cases h
    · split at h
      · cases h
        rfl
      · rwa [Option.some.inj h] at haccess

@[simp] theorem groundKept_writeOn (s : State) (path : RegPath) (addr size : Nat) (v : Word) :
    GroundKept s (writeOn s path addr size v) := by
  unfold writeOn
  split
  · simp
  · next h => simp [ground_onPath h]

@[simp] theorem groundKept_execEnable (path : RegPath) (value : Word) (s : State) : GroundKept s (execEnable path value s) := by
  simp [execEnable]

@[simp] theorem groundKept_execRegisterWrite (path : RegPath) (addr size : Nat) (value : Word) (s : State) :
    GroundKept s (execRegisterWrite path addr size value s) := by simp [execRegisterWrite]

@[simp] theorem groundKept_execReqtabInspect (path : RegPath) (value : Word) (s : State) :
    GroundKept s (execReqtabInspect path value s) := by simp [execReqtabInspect]

@[simp] theorem groundKept_execTierMoveCmd (path : RegPath) (value : Word) (s : State) :
    GroundKept s (execTierMoveCmd path value s) := by simp [execTierMoveCmd]

@[simp] theorem groundKept_regWindow (s : State) (n tag : Nat) (write : Bool) (addr : Nat) (v : Word) :
    GroundKept s (regWindow s n tag write addr v) := by
  unfold regWindow
  split
  · simp
  · next h => simp [ground_onPath h]

@[simp] theorem groundKept_execRegWindowRead (n tag addr : Nat) (s : State) :
    GroundKept s (execRegWindowRead n tag addr s) := by simp [execRegWindowRead]

@[simp] theorem groundKept_execRegWindowWrite (n tag addr : Nat) (value : Word) (s : State) :
    GroundKept s (execRegWindowWrite n tag addr value s) := by simp [execRegWindowWrite]

end Sys2Proof.Machine
end

section
namespace Sys2Proof.Machine

/-! ### Attestation: what is left untouched -/

@[simp] theorem ground_spdmReply (s : State) (n tag code p1 p2 : Nat) (payload : List Byte) :
    ground (spdmReply s n tag code p1 p2 payload) = ground s := by simp [spdmReply]

@[simp] theorem ground_spdmError (s : State) (n tag code : Nat) : ground (spdmError s n tag code) = ground s := by
  simp [spdmError]

@[simp] theorem ground_freeBytes (s : State) (k : Nat) : ground (freeBytes s k).2 = ground s := by simp [freeBytes]

@[simp] theorem ground_updSpdm (s : State) (n : Nat) (f : Spdm → Spdm) : ground (updSpdm s n f) = ground s := by
  unfold updSpdm
  repeat' split
  all_goals simp

@[simp] theorem groundKept_onSession (s : State) (n : Nat) (f : Session → Res) (h : ∀ x, GroundKept s (f x)) :
    GroundKept s (onSession s n f) := by
  unfold onSession
  split
  all_goals simp [h]

@[simp] theorem groundKept_execGetVersion (n tag : Nat) (s : State) : GroundKept s (execGetVersion n tag s) := by
  simp [execGetVersion]

@[simp] theorem groundKept_execGetCapabilities (n tag : Nat) (s : State) : GroundKept s (execGetCapabilities n tag s) := by
  simp [execGetCapabilities]

@[simp] theorem groundKept_execNegotiateAlgorithms (n tag : Nat) (offersAll : Bool) (s : State) :
    GroundKept s (execNegotiateAlgorithms n tag offersAll s) := by
  unfold execNegotiateAlgorithms
  repeat' split
  all_goals simp

@[simp] theorem groundKept_execGetDigests (n tag : Nat) (s : State) : GroundKept s (execGetDigests n tag s) := by
  simp [execGetDigests]

@[simp] theorem groundKept_execGetCertificate (n tag slot offset length : Nat) (s : State) :
    GroundKept s (execGetCertificate n tag slot offset length s) := by
  unfold execGetCertificate
  repeat' split
  all_goals simp

@[simp] theorem groundKept_execChallenge (n tag slot measType : Nat) (s : State) :
    GroundKept s (execChallenge n tag slot measType s) := by
  unfold execChallenge
  repeat' split
  all_goals simp

@[simp] theorem groundKept_execGetMeasurements (n tag index : Nat) (signed : Bool) (s : State) :
    GroundKept s (execGetMeasurements n tag index signed s) := by
  unfold execGetMeasurements
  repeat' split
  all_goals simp

@[simp] theorem groundKept_execKeyExchange (n tag : Nat) (s : State) : GroundKept s (execKeyExchange n tag s) := by
  unfold execKeyExchange
  refine groundKept_onSession _ _ _ fun x => ?_
  repeat' split
  all_goals simp

@[simp] theorem groundKept_execFinish (n tag : Nat) (verifyOk : Bool) (s : State) :
    GroundKept s (execFinish n tag verifyOk s) := by
  unfold execFinish
  refine groundKept_onSession _ _ _ fun x => ?_
  dsimp only
  repeat' split
  all_goals simp

end Sys2Proof.Machine
end

section
namespace Sys2Proof.Machine

/-! ### The management lane: what is left untouched -/

@[simp] theorem ground_endLinks (s : State) (p : Nat → Link → Bool) : ground (endLinks s p) = ground s := by simp [endLinks]

@[simp] theorem ground_clearReply (s : State) (link op status : Nat) (body : List Byte) :
    ground (clearReply s link op status body) = ground s := by simp [clearReply]

@[simp] theorem ground_openLink (s : State) : ground (openLink s) = ground s := by
  unfold openLink
  dsimp only
  repeat' split
  all_goals simp

@[simp] theorem groundKept_execHello (seqZero : Bool) (nonce : List Byte) (s : State) :
    GroundKept s (execHello seqZero nonce s) := by
  unfold execHello
  repeat' split
  all_goals simp

@[simp] theorem groundKept_execAuth (a : AuthIn) (s : State) : GroundKept s (execAuth a s) := by
  unfold execAuth
  repeat' split
  all_goals simp

@[simp] theorem groundKept_request (m : MgmtReq) (op : Nat) (role : State → Link → Bool) (state fields : State → Bool)
    (run : State → State) (s : State) (h : ∀ u, ground (run u) = ground u) :
    GroundKept s (request m op role state fields run s) := by
  unfold request
  dsimp only
  repeat' split
  all_goals simp [h]

@[simp] theorem groundKept_plainRequest (m : MgmtReq) (op mask : Nat) (states : List DevState) (more fields : State → Bool)
    (run : State → State) (s : State) (h : ∀ u, ground (run u) = ground u) :
    GroundKept s (plainRequest m op mask states more fields run s) :=
  groundKept_request m op _ _ _ run s h

@[simp] theorem ground_okReply (s : State) (m : MgmtReq) (op : Nat) (body : List Byte) :
    ground (okReply s m op body) = ground s := by simp [okReply]

@[simp] theorem ground_changeSlot (s : State) (m : MgmtReq) (op slot : Nat) (t : Table Operator) :
    ground (changeSlot s m op slot t) = ground s := by simp [changeSlot]

@[simp] theorem groundKept_execEnrol (m : MgmtReq) (slot roles : Nat) (pubkey : List Byte) (s : State) :
    GroundKept s (execEnrol m slot roles pubkey s) := by simp [execEnrol]

@[simp] theorem groundKept_execRemove (m : MgmtReq) (slot : Nat) (s : State) : GroundKept s (execRemove m slot s) := by
  simp [execRemove]

@[simp] theorem groundKept_execSetPolicy (m : MgmtReq) (requireSigned : Bool) (s : State) :
    GroundKept s (execSetPolicy m requireSigned s) := by simp [execSetPolicy]

@[simp] theorem groundKept_execSetNet (m : MgmtReq) (ipv4 ipv6 : Nat) (s : State) :
    GroundKept s (execSetNet m ipv4 ipv6 s) := by simp [execSetNet]

@[simp] theorem groundKept_execRegRead (m : MgmtReq) (addr : Nat) (s : State) : GroundKept s (execRegRead m addr s) := by
  simp [execRegRead]

@[simp] theorem groundKept_execRegWrite (m : MgmtReq) (addr : Nat) (value : Word) (s : State) :
    GroundKept s (execRegWrite m addr value s) := by simp [execRegWrite]

@[simp] theorem groundKept_execStage (m : MgmtReq) (offset : Nat) (bytes : List Byte) (s : State) :
    GroundKept s (execStage m offset bytes s) := by
  unfold execStage
  dsimp only
  exact (groundKept_plainRequest _ _ _ _ _ _ _ _ (by simp)).of_eq (by simp)

@[simp] theorem groundKept_execSensors (m : MgmtReq) (first count : Nat) (s : State) :
    GroundKept s (execSensors m first count s) := by simp [execSensors]

@[simp] theorem groundKept_execSensorSample (id : Nat) (value : Int) (statusWord : Option Nat) (s : State) :
    GroundKept s (execSensorSample id value statusWord s) := by
  unfold execSensorSample
  repeat' split
  all_goals simp

@[simp] theorem groundKept_execLogRead (m : MgmtReq) (source classes count from_ : Nat) (s : State) :
    GroundKept s (execLogRead m source classes count from_ s) := by simp [execLogRead]

@[simp] theorem groundKept_execWearSample (day : Nat) (s : State) : GroundKept s (execWearSample day s) := by
  unfold execWearSample
  repeat' split
  all_goals simp

@[simp] theorem groundKept_execWear (m : MgmtReq) (s : State) : GroundKept s (execWear m s) := by simp [execWear]

@[simp] theorem groundKept_execGrant (m : MgmtReq) (ctx : Nat) (requireConf : Bool) (mask : Word) (s : State) :
    GroundKept s (execGrant m ctx requireConf mask s) := by simp [execGrant]

@[simp] theorem groundKept_execClose (m : MgmtReq) (ctx : Nat) (s : State) : GroundKept s (execClose m ctx s) := by
  unfold execClose
  refine groundKept_plainRequest _ _ _ _ _ _ _ _ fun s => ?_
  repeat' split
  all_goals simp

@[simp] theorem groundKept_execScrub (m : MgmtReq) (s : State) : GroundKept s (execScrub m s) := by simp [execScrub]

@[simp] theorem groundKept_execMgmtLeaseRequest (m : MgmtReq) (neighbour granules mbps : Nat) (s : State) :
    GroundKept s (execMgmtLeaseRequest m neighbour granules mbps s) := by simp [execMgmtLeaseRequest]

@[simp] theorem groundKept_execMgmtLeaseRelease (m : MgmtReq) (neighbour lease : Nat) (s : State) :
    GroundKept s (execMgmtLeaseRelease m neighbour lease s) := by
  unfold execMgmtLeaseRelease
  refine groundKept_plainRequest _ _ _ _ _ _ _ _ fun s => ?_
  repeat' split
  all_goals simp

@[simp] theorem groundKept_execHalt (m : MgmtReq) (t : Nat) (s : State) : GroundKept s (execHalt m t s) := by simp [execHalt]

@[simp] theorem groundKept_execResume (m : MgmtReq) (t : Nat) (s : State) : GroundKept s (execResume m t s) := by
  simp [execResume]

@[simp] theorem ground_orderedReset (s : State) (cause : Nat) : ground (orderedReset s cause) = ground s := by
  simp [orderedReset]

@[simp] theorem groundKept_execWarmMgmt (m : MgmtReq) (s : State) : GroundKept s (execWarmMgmt m s) := by simp [execWarmMgmt]

@[simp] theorem groundKept_execFirmware (m : MgmtReq) (s : State) : GroundKept s (execFirmware m s) := by simp [execFirmware]

@[simp] theorem groundKept_execFwBegin (m : MgmtReq) (bytes : Nat) (s : State) : GroundKept s (execFwBegin m bytes s) := by
  simp [execFwBegin]

@[simp] theorem groundKept_execFwWrite (m : MgmtReq) (offset : Nat) (bytes : List Byte) (s : State) :
    GroundKept s (execFwWrite m offset bytes s) := by simp [execFwWrite]

@[simp] theorem groundKept_execFwVerify (m : MgmtReq) (s : State) : GroundKept s (execFwVerify m s) := by simp [execFwVerify]

@[simp] theorem ground_fwRestart (s : State) (m : MgmtReq) (op : Nat) : ground (fwRestart s m op) = ground s := by
  simp [fwRestart]

@[simp] theorem groundKept_execFwSwitch (m : MgmtReq) (s : State) : GroundKept s (execFwSwitch m s) := by simp [execFwSwitch]

@[simp] theorem groundKept_execFwRevert (m : MgmtReq) (s : State) : GroundKept s (execFwRevert m s) := by simp [execFwRevert]

@[simp] theorem groundKept_execFwStatus (m : MgmtReq) (s : State) : GroundKept s (execFwStatus m s) := by simp [execFwStatus]

@[simp] theorem groundKept_execLinkTimeout (link : Nat) (s : State) : GroundKept s (execLinkTimeout link s) := by
  unfold execLinkTimeout
  repeat' split
  all_goals simp

@[simp] theorem groundKept_execManagementLaneDown (s : State) : GroundKept s (execManagementLaneDown s) := by
  unfold execManagementLaneDown
  repeat' split
  all_goals simp

@[simp] theorem groundKept_execManagementLaneUp (s : State) : GroundKept s (execManagementLaneUp s) := by
  unfold execManagementLaneUp
  repeat' split
  all_goals simp

end Sys2Proof.Machine
end

section
namespace Sys2Proof.Machine

/-! ### The self-test: what is left untouched -/

@[simp] theorem ground_selfTestFail (s : State) (z : TestItem) : ground (selfTestFail s z) = ground s := by
  unfold selfTestFail
  repeat' split
  all_goals simp

@[simp] theorem ground_countRun (s : State) (z : TestItem) : ground (countRun s z) = ground s := by
  unfold countRun
  repeat' split
  all_goals simp

@[simp] theorem groundKept_execSelfTest (item : TestItem) (ok : Bool) (maxAgeS : Nat) (passDone : Bool) (s : State) :
    GroundKept s (execSelfTest item ok maxAgeS passDone s) := by
  unfold execSelfTest
  dsimp only
  split
  · simp
  · rw [groundKept_next]
    have htested (u : State) (l : List TestItem) : ground { u with belfry := { u.belfry with tested := l } } = ground u := rfl
    split
    all_goals
      simp only [ground_selfTestFail, ground_countRun, htested]
      split
      all_goals simp

end Sys2Proof.Machine
end

section
namespace Sys2Proof.Machine

/-! ### What a step leaves untouched -/

/-- Every command but FW_CONFIRM leaves the mask ROM, the anti-rollback counter and the waiting commands as they were. -/
theorem groundKept_exec (c : Instr) (s : State) (h : ∀ m, c ≠ .fwConfirm m) : GroundKept s (exec c s) := by
  cases c
  case fwConfirm m => exact absurd rfl (h m)
  all_goals simp [exec]

/-- FW_CONFIRM takes the counter to the greater of itself and the bundle's SVN, or leaves it (R374, R420). -/
theorem fwConfirm_ground (m : MgmtReq) {s t : State} (h : execFwConfirm m s = .next t) :
    ground t = ground s ∨ ground t = (s.rom, max s.nv.counter s.sec.boot.svn, s.pending) := by
  obtain ⟨u, hu, hcases⟩ := request_cases m 0x34 (fun s l => roleHeld s l 0x34 roleFirmware)
    (fun s => notVermilion.contains s.dev && (s.nv.trial && s.sec.boot.trial && s.sec.boot.served)) (fun _ => true)
    (fun s => okReply { s with nv := { s.nv with
      counter := max s.nv.counter s.sec.boot.svn, trial := false, trialBooted := false } } m 0x34 []) s
  obtain rfl : t = u := Host.Outcome.next.inj (h.symm.trans hu)
  rcases hcases with rfl | ⟨o, rfl⟩ | ⟨st, rfl⟩ | rfl
  · exact .inl rfl
  · exact .inl (ground_emitOut _ _)
  · exact .inl (ground_mgmtReply _ _ _ _ _ _)
  · exact .inr (ground_okReply _ _ _ _)

/-- A command never changes the mask ROM, lowers the anti-rollback counter, or touches the commands behind it. -/
theorem exec_ground (c : Instr) {s t : State} (h : exec c s = .next t) :
    t.rom = s.rom ∧ s.nv.counter ≤ t.nv.counter ∧ t.pending = s.pending := by
  have kept (hg : ground t = ground s) : t.rom = s.rom ∧ s.nv.counter ≤ t.nv.counter ∧ t.pending = s.pending := by
    obtain ⟨hr, hc, hp⟩ : t.rom = s.rom ∧ t.nv.counter = s.nv.counter ∧ t.pending = s.pending := by simpa [ground] using hg
    exact ⟨hr, hc.ge, hp⟩
  by_cases hc : ∃ m, c = .fwConfirm m
  · obtain ⟨m, rfl⟩ := hc
    rcases fwConfirm_ground m h with hg | hg
    · exact kept hg
    · obtain ⟨hr, hc, hp⟩ : t.rom = s.rom ∧ t.nv.counter = max s.nv.counter s.sec.boot.svn ∧ t.pending = s.pending := by
        simpa [ground] using hg
      exact ⟨hr, hc ▸ Nat.le_max_left _ _, hp⟩
  · exact kept (groundKept_exec c s (fun m hm => hc ⟨m, hm⟩) t h)

/-- Settles O6: no command touches the queue it was taken from. -/
theorem stepKeepsQueue : Obligations.StepKeepsQueue := by
  intro s t c rest hp h
  rw [step, hp] at h
  obtain ⟨-, -, hqueue⟩ := exec_ground c h
  exact hqueue

/-- Settles O3: FW_CONFIRM alone moves the counter, and only upwards. -/
theorem stepKeepsRollbackCounter : Obligations.StepKeepsRollbackCounter := by
  intro n rom s t ⟨hcounter, hrom⟩ h
  unfold step at h
  split at h
  · cases h
    exact ⟨hcounter, hrom⟩
  · obtain ⟨hr, hc, -⟩ := exec_ground _ h
    exact ⟨hcounter.trans hc, hr.trans hrom⟩

/-! ### The pin RDY -/

/-- A device in Ivory whose RST_N is low, and RDY with it, as R348's equation allows; RST_N is about to be released. -/
def ivoryInReset : State :=
  { State.reset with dev := .ivory, pins := { State.reset.pins with rstLow := true }, pending := [.warmPin true] }

/-- The same device once RST_N is released: Ivory, with RDY still low. -/
def ivoryReleased : State := { State.reset with dev := .ivory }

theorem step_ivoryInReset : step ivoryInReset = .next ivoryReleased := rfl

/-- Refutes O4: R348's equation also holds of a device in Ivory whose RST_N and RDY are low, and the release of RST_N changes
that pin alone, so RDY stays low where it should rise. -/
theorem not_stepKeepsRdy : ¬ Obligations.StepKeepsRdy := by
  intro h
  exact absurd (h ivoryInReset ivoryReleased rfl step_ivoryInReset) (by unfold RdyRight; decide)

/-! ### Reset and the queue -/

/-- Settles O1, by the two equations of a step. -/
theorem stepRunsFrontCommand : Obligations.StepRunsFrontCommand := by
  refine ⟨fun s c rest h => ?_, fun s h => ?_⟩
  · rw [step, h]
  · rw [step, h]

/-- Settles O2: the fields of the reset state, and a register file that lists nothing. -/
theorem resetState : Obligations.ResetState :=
  ⟨rfl, rfl, rfl, rfl, fun _ _ => rfl, fun _ => rfl, fun _ => rfl, fun _ => rfl, rfl, rfl, rfl, rfl, rfl⟩

/-- Settles O5: the counter of the factory state is 0, and the reset state is Sable with RDY low. -/
theorem resetMeetsInvariants : Obligations.ResetMeetsInvariants :=
  ⟨⟨Nat.le_refl 0, rfl⟩, rfl⟩

end Sys2Proof.Machine
end

section
namespace Sys2Proof.Machine

/-! ### Resets -/

/-- What a reset leaves (R437, R438): the secure flash, the Wavor contents and the valid images of device-owned namespaces. -/
theorem resetTo_resetOp (s u : State) (cause : Nat) {nv : SecureFlash} {rails low : Bool} (hnv : u.nv = nv)
    (hrails : u.power.rails = rails) (hlow : u.pins.rstLow = low) (hrom : u.rom = s.rom) (hflash : u.flash = s.flash)
    (hfresh : u.fresh = s.fresh) (hqueue : u.pending = s.pending)
    (himg : ∀ p, p.2.resident = false → (p ∈ u.img.loaded ↔ p ∈ s.img.loaded)) :
    ResetTo s (resetOp u cause) nv cause rails low := by
  subst hnv hrails hlow
  refine ⟨?_, ?_, ?_, rfl, fun p => ?_⟩
  · rw [← hrom, ← hfresh, ← hqueue]
    rfl
  · rw [← hflash]
    rfl
  · rw [← hflash]
    rfl
  · simp only [resetOp, List.mem_filter, Bool.and_eq_true, Bool.not_eq_true']
    exact and_congr_left fun hp => himg p hp.1

theorem resetOp_resets (s : State) (cause : Nat) : ResetTo s (resetOp s cause) s.nv cause s.power.rails s.pins.rstLow :=
  resetTo_resetOp s s cause rfl rfl rfl rfl rfl rfl rfl fun _ _ => .rfl

theorem powerOn_does {s : State} (h : s.power.rails = false) : Does .powerOn s
    (resetOp { s with power := { s.power with rails := true }, pins := { s.pins with rstLow := true } } 0) := by
  show execPowerOn s = _
  unfold execPowerOn
  rw [if_neg (by simp [h])]

theorem warmPin_asserts {s : State} (hr : s.power.rails = true) (hp : s.pins.rstLow = false) : Does (.warmPin false) s
    (resetOp { s with pins := { s.pins with rstLow := true } } (s.power.wait.getD 1)) := by
  show execWarmPin false s = _
  simp [execWarmPin, hr, hp]

theorem warmPin_releases {s : State} (hr : s.power.rails = true) (hp : s.pins.rstLow = true) :
    Does (.warmPin true) s { s with pins := { s.pins with rstLow := false } } := by
  show execWarmPin true s = _
  simp [execWarmPin, hr, hp]

theorem powerDown_does {s : State} (hr : s.power.rails = true) (hp : s.pins.rstLow = true) : Does .powerDown s
    (resetOp { s with power := { s.power with rails := false } } 0) := by
  show execPowerDown s = _
  simp [execPowerDown, hr, hp]

theorem brownout_does {s : State} (h : s.power.wait = some 4) : Does .brownout s (resetOp s 4) := if_pos h

theorem thermal_does {s : State} (h : s.power.wait = some 5) : Does .thermal s (resetOp s 5) := if_pos h

/-- Each of the reset kinds restarts the device with its cause; without its occasion it changes nothing. -/
theorem resets : Claims.Resets := by
  refine ⟨fun s c cause rails low h => ?_, fun s hr hp => warmPin_releases hr hp, fun s => ⟨fun h => ?_, fun up h => ?_,
    fun h => if_neg h, fun h => if_neg h, fun h => ?_⟩⟩
  · obtain ⟨rfl, hr, rfl, rfl, rfl⟩ | ⟨rfl, hr, hp, rfl, rfl, rfl⟩ | ⟨rfl, hw, rfl, rfl, rfl⟩ | ⟨rfl, hw, rfl, rfl, rfl⟩ |
      ⟨rfl, hr, hp, rfl, rfl, rfl⟩ := h
    · exact ⟨_, powerOn_does hr, resetTo_resetOp s _ 0 rfl rfl rfl rfl rfl rfl rfl fun _ _ => .rfl, rfl⟩
    · exact ⟨_, warmPin_asserts hr hp, resetTo_resetOp s _ _ rfl hr rfl rfl rfl rfl rfl fun _ _ => .rfl, rfl⟩
    · exact ⟨_, brownout_does hw, resetOp_resets s 4, rfl⟩
    · exact ⟨_, thermal_does hw, resetOp_resets s 5, rfl⟩
    · exact ⟨_, powerDown_does hr hp, resetTo_resetOp s _ 0 rfl rfl hp rfl rfl rfl rfl fun _ _ => .rfl, rfl⟩
  · show execPowerOn s = _
    simp [execPowerOn, h]
  · show execWarmPin up s = _
    rcases h with h | h
    · simp [execWarmPin, h]
    · cases up <;> simp_all [execWarmPin]
  · show execPowerDown s = _
    rw [execPowerDown, if_pos h]

/-! ### Losses of power -/

theorem FlagUp.of_regs {s u : State} {b : Blk} {off i : Nat} (h : FlagUp s b off i) (hu : u.regs = s.regs) : FlagUp u b off i := by
  unfold FlagUp at h ⊢
  rwa [reg_of_regs hu]

theorem vrPgFall_ignored {s : State} {long : Bool} (h : s.pins.vrEn = false ∨ long = false ∨ s.power.awaitPg = true) :
    Does (.vrPgFall long) s s := if_pos h

theorem vrPgFall_stops {s : State} (hv : s.pins.vrEn = true) (ha : s.power.awaitPg = false) :
    Does (.vrPgFall true) s (persistPower (setFlag (emergencyStop s 4) .pwrseq 0x08 2) 4) := by
  show execVrPgFall true s = _
  simp [execVrPgFall, hv, ha]

theorem thermalTrip_ignored {s : State} {l : List Nat} (hl : l ≠ []) (ht : ∀ i ∈ l, tripSensor i = true)
    (h : s.power.wait ≠ none ∨ s.pins.vrEn = false) : Does (.thermalTrip l) s s := by
  have hall : l.all tripSensor = true := List.all_eq_true.mpr ht
  have hbusy : s.power.wait.isSome = true ∨ s.pins.vrEn = false := h.imp_left Option.isSome_iff_ne_none.mpr
  show execThermalTrip l s = _
  unfold execThermalTrip
  rw [if_neg (by simp [hl, hall]), if_pos hbusy]

/-- The records of a trip, one for each sensor that tripped (R458). -/
def persistTrips (s : State) (l : List Nat) : State := l.foldl (fun s i => persistPower s (5 + 256 * i)) s

theorem thermalTrip_stops {s : State} {l : List Nat} (hl : l ≠ []) (ht : ∀ i ∈ l, tripSensor i = true)
    (hw : s.power.wait = none) (hv : s.pins.vrEn = true) :
    Does (.thermalTrip l) s (persistTrips (emergencyStop s 5) (asSet l)) := by
  have hall : l.all tripSensor = true := List.all_eq_true.mpr ht
  show execThermalTrip l s = _
  unfold execThermalTrip
  rw [if_neg (by simp [hl, hall]), if_neg (by simp [hw, hv])]
  rfl

theorem mem_ringPush {α : Type} (cap : Nat) (l : List α) (x : α) : x ∈ ringPush cap l x := by
  unfold ringPush
  split <;> simp

theorem persistTrips_append (s : State) (l : List Nat) (i : Nat) :
    persistTrips s (l ++ [i]) = persistPower (persistTrips s l) (5 + 256 * i) := by
  simp [persistTrips]

/-- The records of a trip change the persistent store alone. -/
theorem persistTrips_fields (s : State) (l : List Nat) : persistTrips s l = { s with
    nv := { s.nv with persist := (persistTrips s l).nv.persist, persistNext := s.nv.persistNext + l.length } } := by
  induction l using List.reverseRecOn with
  | nil => rfl
  | append_singleton l i ih =>
    rw [persistTrips_append, ih]
    simp [persistPower, Nat.add_assoc]

theorem persistTrips_records (s : State) {l : List Nat} (hl : l ≠ []) :
    ∃ r, r ∈ (persistTrips s l).nv.persist ∧ r.entry.cls = 1 ∧ r.entry.detail % 256 = 5 := by
  obtain ⟨k, i, rfl⟩ := List.eq_nil_or_concat l |>.resolve_left hl
  rw [List.concat_eq_append, persistTrips_append]
  exact ⟨_, mem_ringPush _ _ _, rfl, by simp⟩

theorem asSet_ne_nil {l : List Nat} (hl : l ≠ []) : asSet l ≠ [] := by
  obtain ⟨k, i, rfl⟩ := List.eq_nil_or_concat l |>.resolve_left hl
  rw [List.concat_eq_append]
  exact List.ne_nil_of_mem (mem_asSet_append k i)

/-- A brownout or a trip closes the gate, pulls FLT_N low, drops VR_EN and waits; no second one begins then. -/
theorem powerLoss : Claims.PowerLoss := by
  refine ⟨fun s long h => vrPgFall_ignored h, fun s l hl ht h => thermalTrip_ignored hl ht h, fun s c cause n h => ?_⟩
  obtain ⟨rfl, hv, ha, rfl, rfl⟩ | ⟨l, rfl, hl, ht, hw, hv, rfl, rfl⟩ := h
  · refine ⟨_, vrPgFall_stops hv ha, fun _ => FlagUp.of_regs (flagUp_setFlag (emergencyStop s 4) .pwrseq 0x08 2 (by decide)) rfl,
      fun h => absurd h (by decide), regsBut_setFlag (emergencyStop s 4) .pwrseq 0x08 2, rfl, ⟨_, mem_ringPush _ _ _, rfl, rfl⟩, rfl⟩
  · have hfields := persistTrips_fields (emergencyStop s 5) (asSet l)
    refine ⟨_, thermalTrip_stops hl ht hw hv, fun h => absurd h (by decide), fun _ => by rw [hfields]; rfl, ?_,
      by rw [hfields]; rfl, persistTrips_records _ (asSet_ne_nil hl), ?_⟩
    · rw [hfields]
      exact regsBut_refl _ s
    · rw [hfields]
      rfl

/-- Settles O53: the resets restart the device from its reset state, and a loss of power ends in one of them. -/
theorem resetsAndPowerLoss : Obligations.ResetsAndPowerLoss := ⟨resets, powerLoss⟩

/-- Settles O60: the first cause drops VR_EN and sets the wait, and while VR_EN is low neither cause begins again. -/
theorem firstCauseStands : Obligations.FirstCauseStands := by
  refine ⟨fun s hv ha => ⟨_, vrPgFall_stops hv ha, rfl, rfl⟩, fun s i l hv hw ht => ?_, fun s c hw hv =>
    ⟨fun long => vrPgFall_ignored (.inl hv), fun j l ht => thermalTrip_ignored (by simp) ht (.inr hv), fun hr hp =>
      ⟨_, warmPin_asserts hr hp, by simp [resetOp, hw], rfl, rfl⟩⟩, fun s long hv => vrPgFall_ignored (.inl hv)⟩
  refine ⟨_, thermalTrip_stops (by simp) ht hw hv, ?_, ?_⟩
  all_goals
    rw [persistTrips_fields]
    rfl

end Sys2Proof.Machine
end

section
namespace Sys2Proof.Machine

/-! ### What the removal of an image leaves -/

/-- What the removal of an image leaves, and a restart after it takes over: the secure flash, the mask ROM, the Wavor contents,
the rails, the wait and RST_N, the images recorded, the free values handed out and the queue. -/
def outlasting (s : State) : SecureFlash × Rom × Flash × Bool × Option Nat × Bool × Table LoadedImage × Nat × List Instr :=
  (s.nv, s.rom, s.flash, s.power.rails, s.power.wait, s.pins.rstLow, s.img.loaded, s.fresh, s.pending)

theorem Handed.outlasting {s t : State} (h : Handed s t) : Machine.outlasting t = Machine.outlasting s := by
  rw [h.fields]
  rfl

theorem HandedBut.outlasting {l : List Nat} {s t : State} (h : HandedBut l s t) :
    Machine.outlasting t = Machine.outlasting s := by
  rw [h.fields]
  rfl

theorem LoggedBut.outlasting {l : List Nat} {s t : State} (h : LoggedBut l s t) :
    Machine.outlasting t = Machine.outlasting s := by
  obtain ⟨-, -, ht⟩ := h
  rw [ht]
  rfl

@[simp] theorem outlasting_logService (s : State) (unit detail : Nat) :
    outlasting (logService s unit detail) = outlasting s :=
  LoggedBut.outlasting (loggedBut_of_class s 0 3 0xFF unit 0xFFFF detail (by decide))

@[simp] theorem outlasting_enterDev (s : State) (d : DevState) (reason : Nat) :
    outlasting (enterDev s d reason) = outlasting s := by
  unfold enterDev
  split
  · rfl
  · dsimp only
    rw [(handed_eventAll _ _ _ _).outlasting, outlasting_logService]
    split <;> rfl

theorem outlasting_refuseMsgs (s : State) (l : List Submission) :
    outlasting (l.foldl (fun s x => refuseMsg s x 0x07 0) s) = outlasting s :=
  foldl_keeps outlasting _ (fun s x => (handedBut_refuseMsg s x 0x07 0).outlasting) l s

/-- The removal of an image forgets the resident ones among the images recorded, and leaves all else that outlasts it (R66). -/
theorem outlasting_removeImage (s : State) : outlasting (removeImage s) =
    outlasting { s with img := { s.img with loaded := s.img.loaded.filter (fun p => !p.2.resident) } } := by
  have hrefuse := outlasting_refuseMsgs { s with adm := { s.adm with subs := [] } } s.adm.subs
  unfold removeImage
  dsimp only
  rw [LoggedBut.outlasting (loggedBut_logLoad _ 0), outlasting_enterDev]
  generalize List.foldl _ _ _ = u at hrefuse ⊢
  simp only [outlasting, Prod.mk.injEq] at hrefuse
  obtain ⟨hnv, hrom, hflash, hrails, hwait, hlow, himg, hfresh, hqueue⟩ := hrefuse
  simp [outlasting, extendHistory, freshService, gateDomains, emptyStaging, disableBlocks, clearImageRegs, stopFrames,
    hnv, hrom, hflash, hrails, hwait, hlow, himg, hfresh, hqueue]

theorem outlasting_sendBeacons (s : State) : outlasting (sendBeacons s) = outlasting s := by
  rw [sendBeacons_fields]
  rfl

/-! ### The firmware operations -/

/-- A reply to a link that is open changes the link alone and leaves on the lane. -/
theorem okReply_answers {s : State} {m : MgmtReq} {l : Link} (op : Nat) (body : List Byte)
    (hl : tget s.lantern.links m.link = some l) : MgmtAnswered s (okReply s m op body) m l op 0 body :=
  mgmtAnswered_reply op 0 body hl

theorem fwBegin_does {s : State} {m : MgmtReq} {l : Link} {n : Nat} (h : MgmtReady s m 0x30 roleFirmware l)
    (ht : s.lantern.recovery = true ∨ s.nv.trial = false) (hlo : 256 ≤ n) (hhi : n ≤ 25165824) :
    Does (.fwBegin m n) s (okReply { setFwSlot s (fwTarget s) { bytes := [], length := n, status := .writing } with
      lantern := { s.lantern with lock := some m.link } } m 0x30 []) := by
  show execFwBegin m n s = _
  unfold execFwBegin
  rw [plainRequest_runs _ h (mem_allStates s) (by rcases ht with ht | ht <;> simp [ht]) (by simp [hlo, hhi])]
  rfl

theorem fwWrite_does {s : State} {m : MgmtReq} {l : Link} {offset : Nat} {bytes : List Byte}
    (h : MgmtReady s m 0x31 roleFirmware l) (hw : (targetSlot s).status = .writing) (hlo : 1 ≤ bytes.length)
    (hhi : bytes.length ≤ 1024) (hroom : offset + bytes.length ≤ (targetSlot s).length) :
    Does (.fwWrite m offset bytes) s (okReply (setFwSlot s (fwTarget s)
      { targetSlot s with bytes := memWrite (targetSlot s).bytes offset bytes }) m 0x31 []) := by
  show execFwWrite m offset bytes s = _
  unfold execFwWrite
  rw [plainRequest_runs _ h (mem_allStates s) (by simp [hw]) (by simp [hlo, hhi, hroom])]

/-- FW_VERIFY leaves the slot VERIFIED, or FAILED with the CHECK code in its reply (R418). -/
theorem fwVerify_does {s : State} {m : MgmtReq} {l : Link} (h : MgmtReady s m 0x32 roleFirmware l) :
    let c := bundleCheck s (targetSlot s) (some (targetSlot s).length)
    (c = 0 → Does (.fwVerify m) s
      (okReply (setFwSlot s (fwTarget s) { targetSlot s with status := .verified }) m 0x32 [])) ∧
    (c ≠ 0 → Does (.fwVerify m) s
      (mgmtReply (setFwSlot s (fwTarget s) { targetSlot s with status := .failed }) m.link 0x32 7 m.seq (toLE 1 c))) := by
  intro c
  have hrun : execFwVerify m s = .next (if c = 0
      then okReply (setFwSlot s (fwTarget s) { targetSlot s with status := if c = 0 then .verified else .failed }) m 0x32 []
      else mgmtReply (setFwSlot s (fwTarget s) { targetSlot s with status := if c = 0 then .verified else .failed })
        m.link 0x32 7 m.seq (toLE 1 c)) := by
    unfold execFwVerify
    rw [plainRequest_runs _ h (mem_allStates s) rfl rfl]
  refine ⟨fun hc => hrun.trans ?_, fun hc => hrun.trans ?_⟩
  · simp [hc]
  · simp [hc]

theorem fwConfirm_does {s : State} {m : MgmtReq} {l : Link} (h : MgmtReady s m 0x34 roleFirmware l) (hv : s.dev ≠ .vermilion)
    (ht : s.nv.trial = true) (hb : s.sec.boot.trial = true) (hs : s.sec.boot.served = true) :
    Does (.fwConfirm m) s (okReply { s with nv := { s.nv with
      counter := max s.nv.counter s.sec.boot.svn, trial := false, trialBooted := false } } m 0x34 []) := by
  show execFwConfirm m s = _
  unfold execFwConfirm
  rw [plainRequest_runs _ h (mem_notVermilion hv) (by simp [ht, hb, hs]) rfl]

/-- A switch of the firmware may run (R419, R420). -/
theorem switchReady_of {s : State} (hslot : (targetSlot s).status = .verified) (hctx : s.sec.ctxs = [])
    (hcheck : s.img.phase ≠ .checking) (happly : s.img.phase ≠ .applying) : switchReady s = true := by
  simp [switchReady, hslot, hctx, hcheck, happly]

theorem mem_beforeSlate {s : State} (h : s.dev = .sable ∨ s.dev = .ivory ∨ s.dev = .amber) : s.dev ∈ beforeSlate := by
  rcases h with h | h | h <;> simp [h, beforeSlate]

/-- FW_SWITCH and FW_REVERT restart the device with the boot flags given, after their reply (R419, R420). -/
theorem fwSwitch_does {s : State} {m : MgmtReq} {l : Link} (h : MgmtReady s m 0x33 roleFirmware l)
    (hdev : s.dev ∈ beforeSlate) (hready : switchReady s = true) : Does (.fwSwitch m) s
      (fwRestart { s with nv := { s.nv with activeB := fwTarget s, trial := true, trialBooted := false } } m 0x33) := by
  show execFwSwitch m s = _
  unfold execFwSwitch
  rw [plainRequest_runs _ h hdev hready rfl]

theorem fwRevert_does {s : State} {m : MgmtReq} {l : Link} (h : MgmtReady s m 0x35 roleFirmware l)
    (hdev : s.dev ∈ beforeSlate) (ht : s.nv.trial = true) (hready : switchReady s = true) : Does (.fwRevert m) s
      (fwRestart { s with nv := { s.nv with activeB := !s.nv.activeB, trial := false, trialBooted := false } } m 0x35) := by
  show execFwRevert m s = _
  unfold execFwRevert
  rw [plainRequest_runs _ h hdev (by simp [ht, hready]) rfl]

/-- The state in which a firmware restart sends its reply (R419 steps 2 and 3). -/
def beforeRestart (s : State) : State :=
  sendBeacons { (if s.img.image.isSome then removeImage s else s) with reason := 1 }

theorem fwRestart_eq (s : State) (m : MgmtReq) (op : Nat) :
    fwRestart s m op = orderedReset (okReply (beforeRestart s) m op []) 3 := rfl

theorem links_beforeRestart (s : State) : (beforeRestart s).lantern.links = s.lantern.links := by
  unfold beforeRestart
  rw [sendBeacons_fields]
  split
  · exact removeImage_links s
  · rfl

/-- What outlasts a restart is as it was, and of the images recorded the resident ones alone may be missing. -/
theorem outlasting_beforeRestart (s : State) : ∃ im, outlasting (beforeRestart s) = outlasting { s with
    img := { s.img with loaded := im } } ∧ ∀ p, p.2.resident = false → (p ∈ im ↔ p ∈ s.img.loaded) := by
  unfold beforeRestart
  rw [outlasting_sendBeacons]
  by_cases h : s.img.image.isSome = true
  · rw [if_pos h]
    exact ⟨_, outlasting_removeImage s, fun p hp => by simp [hp]⟩
  · rw [if_neg h]
    exact ⟨_, rfl, fun _ _ => .rfl⟩

/-- A firmware restart answers and leaves the device reset, with FIRMWARE or the wait's cause (R419, R437, R452). -/
theorem fwRestart_resets {s : State} {m : MgmtReq} {l : Link} (op : Nat) (hl : tget s.lantern.links m.link = some l)
    (nv : SecureFlash) :
    ResetTo s (fwRestart { s with nv := nv } m op) nv (s.power.wait.getD 3) s.power.rails s.pins.rstLow ∧
    Out.mgmt m.link op 0 m.seq [] ∈ (fwRestart { s with nv := nv } m op).out := by
  obtain ⟨im, hout, himg⟩ := outlasting_beforeRestart { s with nv := nv }
  have hlinks : tget (beforeRestart { s with nv := nv }).lantern.links m.link = some l := by
    rw [links_beforeRestart]
    exact hl
  rw [fwRestart_eq]
  unfold orderedReset okReply
  rw [mgmtReply_open op 0 [] hlinks]
  generalize beforeRestart { s with nv := nv } = u at hout
  simp only [outlasting, Prod.mk.injEq] at hout
  obtain ⟨hnv, hrom, hflash, hrails, hwait, hlow, hload, hfresh, hqueue⟩ := hout
  constructor
  · dsimp only [emitOut]
    rw [hwait]
    refine resetTo_resetOp s _ _ hnv hrails hlow hrom hflash hfresh hqueue fun p hp => ?_
    dsimp only
    rw [hload]
    exact himg p hp
  · simp [resetOp, emitOut]

/-- RESET restarts after its reply (R412, R437). -/
theorem orderedReset_resets {s : State} {m : MgmtReq} {l : Link} (cause : Nat) (hl : tget s.lantern.links m.link = some l) :
    let u := orderedReset (okReply s m 0x25 []) cause
    ResetTo s u s.nv (s.power.wait.getD cause) s.power.rails s.pins.rstLow ∧ u.out = s.out ++ [.mgmt m.link 0x25 0 m.seq []] := by
  unfold orderedReset okReply
  rw [mgmtReply_open 0x25 0 [] hl]
  exact ⟨resetTo_resetOp s _ _ rfl rfl rfl rfl rfl rfl rfl fun _ _ => .rfl, rfl⟩

theorem reset_does {s : State} {m : MgmtReq} {l : Link} (h : MgmtReady s m 0x25 roleMaintain l) :
    Does (.warmMgmt m) s (orderedReset (okReply s m 0x25 []) 2) ∧ Does (.firmware m) s (orderedReset (okReply s m 0x25 []) 3) := by
  constructor
  · show execWarmMgmt m s = _
    unfold execWarmMgmt
    rw [plainRequest_runs _ h (mem_allStates s) rfl rfl]
  · show execFirmware m s = _
    unfold execFirmware
    rw [plainRequest_runs _ h (mem_allStates s) rfl rfl]

/-- Settles O50: each operation is a request that runs, and a restart keeps what the removal of the image leaves. -/
theorem firmwareOperations : Obligations.FirmwareOperations := by
  refine ⟨fun s m a bs => ?_, fun s m l n h ht hlo hhi => ?_, fun s m l offset bytes h hw hlo hhi hroom => ?_, fun s m l h => ?_,
    fun s m l h hv ht hb hs => ?_, fun s m l c op nv hc h hdev hslot hctx hcheck happly => ?_, fun s m l c cause h hc => ?_⟩
  · have hbegin : ∃ t, execFwBegin m a s = .next t := plainRequest_next ..
    have hwrite : ∃ t, execFwWrite m a bs s = .next t := plainRequest_next ..
    have hverify : ∃ t, execFwVerify m s = .next t := plainRequest_next ..
    have hswitch : ∃ t, execFwSwitch m s = .next t := plainRequest_next ..
    have hconfirm : ∃ t, execFwConfirm m s = .next t := plainRequest_next ..
    have hrevert : ∃ t, execFwRevert m s = .next t := plainRequest_next ..
    have hwarm : ∃ t, execWarmMgmt m s = .next t := plainRequest_next ..
    have hfirm : ∃ t, execFirmware m s = .next t := plainRequest_next ..
    exact ⟨hbegin, hwrite, hverify, hswitch, hconfirm, hrevert, hwarm, hfirm⟩
  · have hl := link_of_ready h
    exact ⟨_, fwBegin_does h ht hlo hhi, okReply_answers 0x30 [] hl⟩
  · have hl := link_of_ready h
    exact ⟨_, _, fwWrite_does h hw hlo hhi hroom, rfl, wroteMem_memWrite _ _ _, okReply_answers 0x31 [] hl⟩
  · have hl := link_of_ready h
    obtain ⟨hgood, hbad⟩ := fwVerify_does h
    by_cases hc : bundleCheck s (targetSlot s) (some (targetSlot s).length) = 0
    · exact ⟨_, hgood hc, fun _ => okReply_answers 0x32 [] hl, fun hn => absurd hc hn⟩
    · exact ⟨_, hbad hc, fun hz => absurd hz hc, fun _ => mgmtAnswered_reply 0x32 7 _ hl⟩
  · have hl := link_of_ready h
    exact ⟨_, fwConfirm_does h hv ht hb hs, okReply_answers 0x34 [] hl⟩
  · have hl := link_of_ready h
    have hready := switchReady_of hslot hctx hcheck happly
    obtain ⟨rfl, rfl, rfl⟩ | ⟨rfl, rfl, ht, rfl⟩ := hc
    · exact ⟨_, fwSwitch_does h (mem_beforeSlate hdev) hready, fwRestart_resets 0x33 hl _⟩
    · exact ⟨_, fwRevert_does h (mem_beforeSlate hdev) ht hready, fwRestart_resets 0x35 hl _⟩
  · have hl := link_of_ready h
    obtain ⟨hwarm, hfirm⟩ := reset_does h
    obtain ⟨rfl, rfl⟩ | ⟨rfl, rfl⟩ := hc
    · exact ⟨_, hwarm, orderedReset_resets 2 hl⟩
    · exact ⟨_, hfirm, orderedReset_resets 3 hl⟩

/-! ### The update lock -/

/-- While another link holds the update lock, a firmware operation that role and state admit is BUSY (R411, R416). -/
theorem plainRequest_busy {s : State} {m : MgmtReq} {l : Link} {k op mask : Nat} {states : List DevState}
    {more : State → Bool} (fields : State → Bool) (run : State → State) (hlock : s.lantern.lock = some k) (hk : k ≠ m.link)
    (hop : isFirmwareOp op = true) (hlane : laneServed s = true) (htag : m.tagOk = true)
    (hlink : tget s.lantern.links m.link = some l) (hauth : l.authed = true) (hidle : executing s m.link = false)
    (hseq : m.seq = l.seq + 1) (hrole : roleHeld s l op mask = true)
    (hrec : s.lantern.recovery = true → inRecoveryLoader op = true) (hdev : s.dev ∈ states) (hmore : more s = true) :
    plainRequest m op mask states more fields run s = .next (mgmtReply s m.link op 6 m.seq []) := by
  have hr : (s.lantern.recovery && !inRecoveryLoader op) = false := by
    cases hv : s.lantern.recovery
    · rfl
    · simp [hrec hv]
  unfold plainRequest request refusal
  simp [hlane, htag, hlink, hauth, hidle, hseq, hrole, hdev, hmore, hr, hop, hlock, hk]

/-! ### The end of a link -/

/-- One link ends (R410). -/
def endOne (s : State) (k : Nat) : State := endLinks s (fun n _ => decide (n = k))

theorem linkTimeout_does {s : State} {k : Nat} {l : Link} (hl : tget s.lantern.links k = some l) :
    Does (.linkTimeout k) s (endOne s k) := by
  show execLinkTimeout k s = _
  simp [execLinkTimeout, hl, endOne]

theorem link_endOne (s : State) (k i : Nat) :
    tget (endOne s k).lantern.links i = if i = k then none else tget s.lantern.links i := by
  unfold endOne endLinks
  dsimp only
  rw [tget_filter_key s.lantern.links (fun n => !decide (n = k)) i]
  by_cases hi : i = k <;> simp [hi]

theorem link_endOne_same (s : State) (k : Nat) : tget (endOne s k).lantern.links k = none := by
  rw [link_endOne, if_pos rfl]

theorem link_endOne_ne (s : State) {k i : Nat} (h : i ≠ k) :
    tget (endOne s k).lantern.links i = tget s.lantern.links i := by
  rw [link_endOne, if_neg h]

theorem endOne_fields (s : State) (k : Nat) : endOne s k = { s with
    lantern := { s.lantern with links := (endOne s k).lantern.links, lock := (endOne s k).lantern.lock } } := rfl

/-- The update lock is never held by a link that has ended (R416). -/
theorem lock_endOne_ne (s : State) (k : Nat) : (endOne s k).lantern.lock ≠ some k := by
  intro h
  have hopen : (tget (endOne s k).lantern.links k).isSome = true := (Option.filter_eq_some_iff.mp h).2
  rw [link_endOne_same] at hopen
  exact absurd hopen (by decide)

theorem lock_endOne {s : State} {k : Nat} (h : s.lantern.lock = some k) : (endOne s k).lantern.lock = none := by
  cases hl : (endOne s k).lantern.lock with
  | none => rfl
  | some j =>
    have hj : s.lantern.lock = some j := (Option.filter_eq_some_iff.mp hl).1
    rw [h] at hj
    obtain rfl := Option.some.inj hj
    exact absurd hl (lock_endOne_ne s k)

/-- Settles O59: FW_BEGIN takes the lock, a request meets it with BUSY, and a link's end passes it back. -/
theorem updateLock : Obligations.UpdateLock := by
  refine ⟨fun s m l n h ht hlo hhi => ?_, fun s m l k op mask c hlock hk hc hlane htag hlink hauth hidle hseq hrole hrec => ?_,
    fun s k l hlock hlink => ?_⟩
  · refine ⟨_, fwBegin_does h ht hlo hhi, ?_⟩
    have hl := link_of_ready h
    exact congrArg (·.lantern.lock) (mgmtReply_open (s := { setFwSlot s (fwTarget s) _ with
      lantern := { s.lantern with lock := some m.link } }) 0x30 0 [] hl)
  · refine ⟨_, ?_, mgmtAnswered_reply op 6 [] hlink⟩
    have busy : ∀ {states more} fields run, isFirmwareOp op = true → s.dev ∈ states → more s = true →
        plainRequest m op mask states more fields run s = .next (mgmtReply s m.link op 6 m.seq []) := fun fields run hop =>
      plainRequest_busy fields run hlock hk hop hlane htag hlink hauth hidle hseq hrole hrec
    obtain ⟨n, rfl, rfl, rfl, ht⟩ | ⟨o, bs, rfl, rfl, rfl, hw⟩ | ⟨rfl, rfl, rfl⟩ | ⟨rfl, rfl, rfl, hready, hdev⟩ |
      ⟨rfl, rfl, rfl, hv, ht, hb, hs⟩ | ⟨rfl, rfl, rfl, hready, ht, hdev⟩ | ⟨rfl, rfl, rfl⟩ := hc
    · show execFwBegin m n s = _
      unfold execFwBegin
      rw [busy _ _ rfl (mem_allStates s) (by rcases ht with ht | ht <;> simp [ht])]
    · show execFwWrite m o bs s = _
      unfold execFwWrite
      rw [busy _ _ rfl (mem_allStates s) (by simp [hw])]
    · show execFwVerify m s = _
      unfold execFwVerify
      rw [busy _ _ rfl (mem_allStates s) rfl]
    · show execFwSwitch m s = _
      unfold execFwSwitch
      rw [busy _ _ rfl (mem_beforeSlate hdev) hready]
    · show execFwConfirm m s = _
      unfold execFwConfirm
      rw [busy _ _ rfl (mem_notVermilion hv) (by simp [ht, hb, hs])]
    · show execFwRevert m s = _
      unfold execFwRevert
      rw [busy _ _ rfl (mem_beforeSlate hdev) (by simp [ht, hready])]
    · show execFwStatus m s = _
      unfold execFwStatus
      rw [busy _ _ rfl (mem_allStates s) rfl]
  · exact ⟨_, linkTimeout_does hlink, link_endOne_same s k, lock_endOne hlock⟩

/-! ### An unused number -/

/-- The number that follows `n`, 2^32 − 1 followed by 1. -/
def following (n : Nat) : Nat := n % (2 ^ 32 - 1) + 1

/-- The number `i` steps after `n`. -/
def after (n i : Nat) : Nat := (n - 1 + i) % (2 ^ 32 - 1) + 1

theorem after_zero {n : Nat} (h0 : 0 < n) (hn : n < 2 ^ 32) : after n 0 = n := by
  unfold after
  omega

theorem after_following {n : Nat} (h0 : 0 < n) (i : Nat) : after (following n) i = after n (i + 1) := by
  unfold after following
  rw [Nat.add_sub_cancel, Nat.mod_add_mod]
  congr 2
  omega

theorem following_range (n : Nat) : 0 < following n ∧ following n < 2 ^ 32 := by
  unfold following
  omega

theorem after_range (n i : Nat) : 0 < after n i ∧ after n i < 2 ^ 32 := following_range (n - 1 + i)

theorem after_inj {n i j : Nat} (hi : i < 2 ^ 32 - 1) (hj : j < 2 ^ 32 - 1) (h : after n i = after n j) : i = j := by
  unfold after at h
  omega

/-- A search that passes over used numbers, and ends on an unused one or with its fuel. -/
def Searches (used : Nat → Bool) (f : Nat → Nat → Nat) : Prop :=
  ∀ n, f n 0 = n ∧ ∀ k, f n (k + 1) = if used n then f (following n) k else n

/-- Where a search ends: the numbers before are used, and the number itself unless the fuel is spent. -/
theorem search_ends {used : Nat → Bool} {f : Nat → Nat → Nat} (hf : Searches used f) (k : Nat) :
    ∀ n, 0 < n → n < 2 ^ 32 → ∃ i ≤ k, f n k = after n i ∧ (∀ j < i, used (after n j) = true) ∧ (i < k → used (after n i) = false) := by
  induction k with
  | zero => exact fun n h0 hn => ⟨0, le_rfl, by rw [(hf n).1, after_zero h0 hn], by simp, by simp⟩
  | succ k ih =>
    intro n h0 hn
    rw [(hf n).2 k]
    cases hu : used n with
    | false => exact ⟨0, by omega, by simp [after_zero h0 hn], by simp, fun _ => by rw [after_zero h0 hn, hu]⟩
    | true =>
      obtain ⟨hp, hl⟩ := following_range n
      obtain ⟨i, hi, hval, hbefore, hfree⟩ := ih (following n) hp hl
      rw [after_following h0] at hval hfree
      refine ⟨i + 1, by omega, by simpa using hval, fun j hj => ?_, fun h => hfree (by omega)⟩
      cases j with
      | zero => rw [after_zero h0 hn, hu]
      | succ j => rw [← after_following h0]; exact hbefore j (by omega)

/-- With as much fuel as there are entries in a table, the search ends on a number that names none. -/
theorem search_unused {α : Type} (t : Table α) {f : Nat → Nat → Nat} (hf : Searches (fun n => (tget t n).isSome) f) {n : Nat}
    (h0 : 0 < n) (hn : n < 2 ^ 32) (ht : t.length < 2 ^ 32 - 1) :
    tget t (f n t.length) = none ∧ 0 < f n t.length ∧ f n t.length < 2 ^ 32 := by
  obtain ⟨i, hi, hval, hbefore, hfree⟩ := search_ends hf t.length n h0 hn
  rw [hval]
  refine ⟨?_, after_range n i⟩
  rcases Nat.lt_or_ge i t.length with hlt | hge
  · exact Option.isSome_eq_false_iff.mp (hfree hlt) |> Option.isNone_iff_eq_none.mp
  · by_contra hne
    have hused : ∀ j ∈ Finset.range (t.length + 1), after n j ∈ (t.map (·.1)).toFinset := fun j hj => by
      have hsome : (tget t (after n j)).isSome = true := by
        rcases Nat.lt_or_ge j i with hj' | hj'
        · exact hbefore j hj'
        · obtain rfl : j = i := by have := Finset.mem_range.mp hj; omega
          exact Option.isSome_iff_ne_none.mpr hne
      obtain ⟨v, hv⟩ := Option.isSome_iff_exists.mp hsome
      exact List.mem_toFinset.mpr (List.mem_map.mpr ⟨_, mem_of_tget hv, rfl⟩)
    have hinj : ∀ a ∈ Finset.range (t.length + 1), ∀ b ∈ Finset.range (t.length + 1), after n a = after n b → a = b :=
      fun a ha b hb hab => after_inj (n := n) (by have := Finset.mem_range.mp ha; omega)
        (by have := Finset.mem_range.mp hb; omega) hab
    have hcard := Finset.card_le_card_of_injOn (after n) hused (fun a ha b hb => hinj a ha b hb)
    have hkeys : (t.map (·.1)).toFinset.card ≤ t.length := (List.toFinset_card_le _).trans (by simp)
    rw [Finset.card_range] at hcard
    omega

theorem searches_unusedLink (s : State) : Searches (fun n => (tget s.lantern.links n).isSome) (unusedLink s) := fun n =>
  ⟨rfl, fun k => by
    cases h : tget s.lantern.links n <;> simp [unusedLink, following, h]⟩

/-! ### The links of the management lane -/

/-- The number that HELLO gives a link. -/
def newLink (s : State) : Nat := unusedLink s (1 + Config.random s.fresh % (2 ^ 32 - 1)) s.lantern.links.length

theorem newLink_unused {s : State} (h : s.lantern.links.length < 4) :
    tget s.lantern.links (newLink s) = none ∧ 0 < newLink s ∧ newLink s < 2 ^ 32 :=
  search_unused s.lantern.links (searches_unusedLink s) (by omega) (by omega) (by omega)

theorem length_fit (k : Nat) (bs : List Byte) : (fit k bs).length = k := by
  simp [fit, zeros]
  omega

/-- The link that HELLO opens: challenge and ephemeral key are free values (R409). -/
def helloLink (s : State) : Link :=
  { authed := false, slot := 0xFF, key := [], challenge := fit 32 (Config.signedBytes (s.fresh + 1) 32),
    ephemeral := fit 64 (Config.signedBytes (s.fresh + 2) 64), seq := 0, cache := (0x02, 0, []) }

/-- The signature in HELLO's reply: zero without the identity (R409). -/
def helloSig (s : State) : List Byte :=
  if s.sec.boot.identityOk then fit 64 (Config.signedBytes (s.fresh + 3) 64) else zeros 64

/-- The mode bits in HELLO's reply (R409). -/
def helloMode (s : State) : Nat :=
  (if s.sec.boot.identityOk then 1 else 0) + (if s.lantern.recovery then 2 else 0) + (if s.nv.operators = [] then 4 else 0)

theorem flags_helloMode (s : State) : flag s.sec.boot.identityOk + 2 * flag s.lantern.recovery +
    4 * flag (decide (s.nv.operators = [])) = helloMode s := by
  unfold helloMode flag
  cases s.sec.boot.identityOk <;> cases s.lantern.recovery <;> by_cases ho : s.nv.operators = [] <;> simp [ho]

theorem length_helloSig (s : State) : (helloSig s).length = 64 := by
  unfold helloSig
  split
  · exact length_fit _ _
  · rfl

theorem openLink_opens (s : State) : ∃ n, openLink s = { s with
    fresh := n, lantern := { s.lantern with links := tset s.lantern.links (newLink s) (helloLink s) },
    out := s.out ++ [.mgmt (newLink s) 0x01 0 0 (toLE 4 (newLink s) ++ toLE 1 (helloMode s) ++ zeros 3 ++
      (helloLink s).challenge ++ (helloLink s).ephemeral ++ helloSig s)] } := by
  rw [← flags_helloMode]
  unfold openLink helloSig helloLink clearReply emitOut freeBytes newLink
  dsimp only
  cases hid : s.sec.boot.identityOk
  all_goals
    simp only [hid, if_true, Bool.false_eq_true, if_false, Nat.add_assoc, Nat.reduceAdd]
    exact ⟨_, rfl⟩

theorem hello_opens {s : State} {nonce : List Byte} (hs : laneServed s = true) (hn : nonce.length = 32)
    (hl : s.lantern.links.length < 4) : Does (.hello true nonce) s (openLink s) := by
  show execHello true nonce s = _
  unfold execHello
  rw [if_neg (by simp [hs]), if_neg (by omega), if_neg (by simp [hn])]

theorem hello_busy {s : State} {nonce : List Byte} (hs : laneServed s = true) (hl : 4 ≤ s.lantern.links.length) :
    Does (.hello true nonce) s { s with out := s.out ++ [.mgmt 0 0x01 6 0 []] } := by
  show execHello true nonce s = _
  unfold execHello
  rw [if_neg (by simp [hs]), if_pos hl]
  rfl

/-- AUTH that verifies authenticates its link (R409). -/
theorem auth_accepts {s : State} {a : AuthIn} {l : Link} (hs : laneServed s = true) (hl : tget s.lantern.links a.link = some l)
    (hu : l.authed = false) (hok : authOk s l a = true) : Does (.auth a) s { s with
      lantern := { s.lantern with
        links := tset (tset s.lantern.links a.link { l with authed := true, slot := a.slot, key := a.pubkey, seq := 0 })
          a.link { l with authed := true, slot := a.slot, key := a.pubkey, seq := 0, cache := (0x02, 0, []) } },
      out := s.out ++ [.mgmt a.link 0x02 0 0 []] } := by
  show execAuth a s = _
  simp [execAuth, hs, hl, hu, hok, mgmtReply, emitOut]

/-- AUTH that does not verify ends its link (R409). -/
theorem auth_refuses {s : State} {a : AuthIn} {l : Link} (hs : laneServed s = true) (hl : tget s.lantern.links a.link = some l)
    (hu : l.authed = false) (hok : authOk s l a = false) :
    Does (.auth a) s (emitOut (endOne s a.link) (.mgmt a.link 0x02 8 0 [])) := by
  show execAuth a s = _
  simp [execAuth, hs, hl, hu, hok, clearReply, endOne]

theorem auth_next (a : AuthIn) (s : State) : ∃ t, execAuth a s = .next t := by
  unfold execAuth
  split
  · exact ⟨_, rfl⟩
  split
  · exact ⟨_, rfl⟩
  dsimp only
  split
  · split
    all_goals exact ⟨_, rfl⟩
  · split
    all_goals exact ⟨_, rfl⟩

/-! ### Sensor samples -/

/-- What a STATUS_WORD changes: the word kept, and the fault flag where a fault bit is set (R428). -/
def withStatus (s : State) (id : Nat) (w : Option Nat) : State :=
  match w with
  | some k =>
    if 48 ≤ id ∧ id ≤ 52 then
      let u : State := { s with power := { s.power with statusWord := k % 2 ^ 16 } }
      if k &&& pmbusFaults ≠ 0 then setFlag u .idbus 0x00 3 else u
    else s
  | none => s

theorem withStatus_fields (s : State) (id : Nat) (w : Option Nat) : RegsBut [regAddr .idbus 0x00] s (withStatus s id w) ∧
    withStatus s id w = { s with
      regs := (withStatus s id w).regs, power := { s.power with statusWord := (withStatus s id w).power.statusWord } } := by
  unfold withStatus
  split
  · split
    · dsimp only
      split
      · exact ⟨regsBut_setFlag { s with power := _ } .idbus 0x00 3, rfl⟩
      · exact ⟨regsBut_refl _ s, rfl⟩
    · exact ⟨regsBut_refl _ s, rfl⟩
  · exact ⟨regsBut_refl _ s, rfl⟩

theorem withStatus_regulator (s : State) {id k : Nat} (h : 48 ≤ id ∧ id ≤ 52) :
    (withStatus s id (some k)).power.statusWord = k % 2 ^ 16 ∧
    (k &&& 0xF73F ≠ 0 → FlagUp (withStatus s id (some k)) .idbus 0x00 3) ∧
    (k &&& 0xF73F = 0 → (withStatus s id (some k)).regs = s.regs) := by
  unfold withStatus pmbusFaults
  dsimp only
  rw [if_pos h]
  by_cases hk : k &&& 0xF73F = 0
  · rw [if_neg (by simp [hk])]
    exact ⟨rfl, fun hn => absurd hk hn, fun _ => rfl⟩
  · rw [if_pos hk]
    exact ⟨rfl, fun _ => flagUp_setFlag _ .idbus 0x00 3 (by decide), fun h0 => absurd h0 hk⟩

theorem withStatus_other (s : State) {id : Nat} {w : Option Nat} (h : w = none ∨ id < 48 ∨ 52 < id) : withStatus s id w = s := by
  unfold withStatus
  rcases h with rfl | h
  · rfl
  · split
    · rw [if_neg (by omega)]
    · rfl

/-- The samples of sensor 51 that Lantern keeps. -/
def powerSamplesAfter (s : State) (id : Nat) (v : Int) : List Int :=
  if id = 51 then (v :: s.lantern.powerSamples).take 100 else s.lantern.powerSamples

/-- The sample that a reading leaves. -/
def sampleOf (s : State) (id : Nat) (v : Int) : Sample :=
  { value := if id = 53 then mean s.lantern.powerSamples else v, frame := sampleFrame s }

/-- The last 100 samples of sensor 51 are kept (R413). -/
def keepPower (s : State) (id : Nat) (v : Int) : State :=
  if id = 51 then { s with lantern := { s.lantern with powerSamples := (v :: s.lantern.powerSamples).take 100 } } else s

/-- A sample taken (R413). -/
def takeSample (s : State) (id : Nat) (v : Int) : State :=
  { s with lantern := { s.lantern with sensors := tset s.lantern.sensors id (sampleOf s id v) } }

theorem sampleFrame_withStatus (s : State) (id : Nat) (w : Option Nat) : sampleFrame (withStatus s id w) = sampleFrame s := by
  obtain ⟨hregs, hu⟩ := withStatus_fields s id w
  have hen : enabled (withStatus s id w) .frame = enabled s .frame := by
    unfold enabled
    rw [hregs.reg .frame 0 (by decide)]
  have hnow : now (withStatus s id w) = now s := by
    rw [hu]
    rfl
  unfold sampleFrame
  rw [hen, hnow]

theorem sensorSample_does {s : State} {id : Nat} (v : Int) (w : Option Nat) (he : sensorExists id = true)
    (hr : s.lantern.running = true) : Does (.sensorSample id v w) s { withStatus s id w with
      lantern := { s.lantern with
        sensors := tset s.lantern.sensors id (sampleOf s id v), powerSamples := powerSamplesAfter s id v } } := by
  have hlantern : (withStatus s id w).lantern = s.lantern := by
    obtain ⟨-, hu⟩ := withStatus_fields s id w
    rw [hu]
  have hframe := sampleFrame_withStatus s id w
  have hrun : execSensorSample id v w s = .next (takeSample (keepPower (withStatus s id w) id v) id v) := by
    unfold execSensorSample
    rw [if_neg (by simp [he]), if_neg (by simp [hr])]
    rfl
  refine hrun.trans (congrArg Host.Outcome.next ?_)
  generalize withStatus s id w = u at hlantern hframe ⊢
  unfold takeSample keepPower powerSamplesAfter sampleOf
  rw [← hframe, ← hlantern]
  by_cases h51 : id = 51
  · subst h51
    rfl
  · rw [if_neg h51, if_neg h51]

/-- Settles O51: a link opens under an unused number or ends, and a sample changes its sensor and the status word alone. -/
theorem managementLinks : Obligations.ManagementLinks := by
  refine ⟨fun s z nonce a k v w => ⟨?_, ?_, ?_, ?_, ?_, fun he => ?_⟩, fun s nonce hs hn => ⟨fun hl => ?_, fun hl => hello_busy hs hl⟩,
    fun s a l hs hl hu => ⟨fun hok => ?_, fun hok => ?_⟩, fun s k l hl => ?_, fun s h => if_pos h, fun s hd hr => ?_,
    fun s id v w he hr => ?_⟩
  · show ∃ t, execHello z nonce s = .next t
    unfold execHello
    repeat' split
    all_goals exact ⟨_, rfl⟩
  · exact auth_next a s
  · show ∃ t, execLinkTimeout k s = .next t
    unfold execLinkTimeout
    split
    all_goals exact ⟨_, rfl⟩
  · show ∃ t, execManagementLaneDown s = .next t
    unfold execManagementLaneDown
    split
    all_goals exact ⟨_, rfl⟩
  · show ∃ t, execManagementLaneUp s = .next t
    unfold execManagementLaneUp
    split
    all_goals exact ⟨_, rfl⟩
  · show ∃ t, execSensorSample k v w s = .next t
    unfold execSensorSample
    rw [if_neg (by simp [he])]
    split
    all_goals exact ⟨_, rfl⟩
  · obtain ⟨hfree, hlo, hhi⟩ := newLink_unused hl
    obtain ⟨n, heq⟩ := openLink_opens s
    refine ⟨_, newLink s, helloLink s, helloSig s, hello_opens hs hn hl, by omega, hhi, hfree, ?_, fun i hi => ?_, rfl, rfl,
      length_fit _ _, length_fit _ _, length_helloSig s, fun h => by simp [helloSig, h], ?_⟩
    · rw [heq]
      exact tget_tset_same ..
    · rw [heq]
      exact tget_tset_ne _ _ _ _ hi
    · rw [heq]
      rfl
  · refine ⟨_, auth_accepts hs hl hu hok, tget_tset_same .., fun i hi => ?_, rfl⟩
    dsimp only
    rw [tget_tset_ne _ _ _ _ hi, tget_tset_ne _ _ _ _ hi]
  · exact ⟨_, auth_refuses hs hl hu hok, link_endOne_same s _, fun i hi => link_endOne_ne s hi, lock_endOne_ne s _, rfl⟩
  · exact ⟨_, linkTimeout_does hl, link_endOne_same s k, fun i hi => link_endOne_ne s hi, lock_endOne_ne s k, rfl⟩
  · show execManagementLaneUp s = _
    rcases hr with hr | hr <;> simp [execManagementLaneUp, hd, hr]
  · obtain ⟨hregs, hu⟩ := withStatus_fields s id w
    refine ⟨_, sampleOf s id v, sensorSample_does v w he hr, tget_tset_same .., rfl, fun h => if_neg h, fun h => if_pos h,
      fun i hi => tget_tset_ne _ _ _ _ hi, rfl, fun k hw hlo hhi => ?_, fun h => ?_, hregs, ?_⟩
    · subst hw
      exact withStatus_regulator s ⟨hlo, hhi⟩
    · have hsame := withStatus_other s h
      dsimp only
      rw [hsame]
      exact ⟨rfl, rfl⟩
    · rw [hu]

end Sys2Proof.Machine
end

section
namespace Sys2Proof.Machine

/-! ### What stays while Vermilion is entered -/

/-- Registers of the device that no report of a detection and no step of R394 touches: the counters of latent faults, of link
retries and of released wake-up steps. -/
def steadyRegs : List Nat := [regAddr .belfry 0x28, regAddr .belfry 0x38, regAddr .pwrseq 0x30]

/-- What every report of a detection and every step of R394 leaves as it is, but for the device state and the pins set there. -/
structure Subsides (s u : State) : Prop where
  dev : u.dev = s.dev
  pins : u.pins = s.pins
  power : u.power = s.power
  flash : u.flash = s.flash
  last : u.belfry.last = s.belfry.last
  unacked : u.belfry.unacked = s.belfry.unacked
  gate : u.belfry.gateClosed = s.belfry.gateClosed
  inService : ∀ i, (tileAt u i).inService = (tileAt s i).inService
  regs : ∀ a ∈ steadyRegs, tget u.regs a = tget s.regs a
  flags : ∀ i, i < 64 → FlagUp s .belfry 0x00 i → FlagUp u .belfry 0x00 i

theorem Subsides.refl (s : State) : Subsides s s :=
  ⟨rfl, rfl, rfl, rfl, rfl, rfl, rfl, fun _ => rfl, fun _ _ => rfl, fun _ _ h => h⟩

theorem Subsides.trans {s u v : State} (h : Subsides s u) (k : Subsides u v) : Subsides s v where
  dev := k.dev.trans h.dev
  pins := k.pins.trans h.pins
  power := k.power.trans h.power
  flash := k.flash.trans h.flash
  last := k.last.trans h.last
  unacked := k.unacked.trans h.unacked
  gate := k.gate.trans h.gate
  inService i := (k.inService i).trans (h.inService i)
  regs a ha := (k.regs a ha).trans (h.regs a ha)
  flags i hi hf := k.flags i hi (h.flags i hi hf)

theorem Subsides.foldl {α : Type} (f : State → α → State) (h : ∀ s x, Subsides s (f s x)) (l : List α) (s : State) :
    Subsides s (l.foldl f s) := by
  induction l generalizing s with
  | nil => exact .refl s
  | cons x l ih => exact (h s x).trans (ih (f s x))

/-- The parts of the state that `Subsides` speaks of. -/
def steadyParts (s : State) : DevState × Pins × Power × Flash × Option LogEntry × List Nat × Bool × Table Tile × Table Word :=
  (s.dev, s.pins, s.power, s.flash, s.belfry.last, s.belfry.unacked, s.belfry.gateClosed, s.tiles, s.regs)

/-- An operation on other parts of the state. -/
theorem subsides_of_parts {s u : State} (h : steadyParts u = steadyParts s) : Subsides s u := by
  simp only [steadyParts, Prod.mk.injEq] at h
  obtain ⟨hdev, hpins, hpower, hflash, hlast, hunacked, hgate, htiles, hregs⟩ := h
  exact ⟨hdev, hpins, hpower, hflash, hlast, hunacked, hgate, fun i => by rw [tileAt_of_tiles htiles],
    fun a _ => by rw [hregs], fun i _ hf => hf.of_regs hregs⟩

/-- A register of the device that stays reads as before. -/
theorem Subsides.reg {s u : State} (h : Subsides s u) {b : Blk} {off : Nat} (hb : regAddr b off ∈ steadyRegs) :
    reg u b off = reg s b off := by
  unfold Machine.reg tgetD
  rw [h.regs _ hb]

/-- An operation on registers apart from those that stay and from Belfry's flags. -/
theorem subsides_of_regsBut {s u : State} {l : List Nat} (h : RegsBut l s u) (hu : OnlyRegs s u)
    (hl : ∀ a ∈ l, a ∉ steadyRegs ∧ a ≠ regAddr .belfry 0x00) : Subsides s u := by
  have hflags : Machine.reg u .belfry 0x00 = Machine.reg s .belfry 0x00 := h.reg _ _ fun hm => (hl _ hm).2 rfl
  refine ⟨?_, ?_, ?_, ?_, ?_, ?_, ?_, fun i => ?_, fun a ha => h a fun hm => (hl a hm).1 ha, fun i _ hf => ?_⟩
  · rw [hu]
  · rw [hu]
  · rw [hu]
  · rw [hu]
  · rw [hu]
  · rw [hu]
  · rw [hu]
  · rw [hu.tileAt]
  · unfold FlagUp at *
    rwa [hflags]

theorem subsides_setReg (s : State) {b : Blk} {off : Nat} (v : Word) (h : regAddr b off ∉ steadyRegs)
    (hb : regAddr b off ≠ regAddr .belfry 0x00) : Subsides s (setReg s b off v) :=
  subsides_of_regsBut (regsBut_setReg s b off v) rfl (by simpa using ⟨h, hb⟩)

theorem subsides_bump (s : State) {b : Blk} {off : Nat} (n : Nat) (h : regAddr b off ∉ steadyRegs)
    (hb : regAddr b off ≠ regAddr .belfry 0x00) : Subsides s (bump s b off n) :=
  subsides_of_regsBut (regsBut_bump s b off n) rfl (by simpa using ⟨h, hb⟩)

theorem subsides_raise (s : State) (i : Nat) : Subsides s (setFlag s .belfry 0x00 i) :=
  ⟨rfl, rfl, rfl, rfl, rfl, rfl, rfl, fun _ => rfl,
    fun a ha => regsBut_setFlag s .belfry 0x00 i a (by revert a; decide), fun _ hi hf => hf.setFlag i hi⟩

theorem Handed.subsides {s u : State} (h : Handed s u) : Subsides s u := by
  have hregs : ∀ a ∈ steadyRegs, tget u.regs a = tget s.regs a := fun a ha => h.2.1 a (by revert a; decide)
  exact ⟨h.dev, h.pins, h.power, h.flash, h.reported.last, h.reported.unacked, by rw [h.fields],
    fun i => by rw [tileAt_of_tiles h.tiles], hregs, fun i _ hf => h.flagUp hf (by decide)⟩

theorem subsides_storeLog (s : State) (e : LogEntry) : Subsides s (storeLog s e) := by
  unfold storeLog
  dsimp only
  split
  all_goals exact subsides_of_parts rfl

theorem subsides_incident (s : State) (i : Option Incident) :
    Subsides s { s with belfry := { s.belfry with incident := i } } := subsides_of_parts rfl

/-- An entry within an incident, which may take an older one's place, goes on as any other (R402). -/
theorem subsides_storeInIncident (s : State) (e : LogEntry) (i : Incident) : Subsides s (storeInIncident s e i) := by
  unfold storeInIncident
  dsimp only
  split
  · exact (subsides_incident s _).trans (subsides_storeLog _ e)
  · split
    · exact (subsides_incident s _).trans (subsides_storeLog _ e)
    · refine Subsides.trans ?_ (subsides_storeLog _ e)
      exact subsides_of_parts rfl

theorem subsides_dropLog (s : State) (cls : Nat) : Subsides s (dropLog s cls) := by
  have hcount : Subsides s (bump s .belfry 0x30 1) := subsides_bump s 1 (by decide) (by decide)
  unfold dropLog
  dsimp only
  split
  · exact (hcount.trans (subsides_incident _ _)).trans (subsides_raise _ 6)
  · exact hcount.trans (subsides_incident _ _)

theorem subsides_logEntry (s : State) (cls mech action ctx unit entry detail : Nat) :
    Subsides s (logEntry s cls mech action ctx unit entry detail) := by
  have hseq (n p : Nat) : Subsides s { s with belfry := { s.belfry with seq := n, posted := p } } :=
    subsides_of_parts rfl
  unfold logEntry
  dsimp only
  split
  · split
    · exact (hseq _ _).trans (subsides_storeLog _ _)
    · exact (hseq _ _).trans (subsides_storeInIncident _ _ _)
  · exact (hseq _ _).trans (subsides_dropLog _ cls)

/-! ### Requests that end -/

theorem subsides_setTile {s : State} {t : Nat} {x : Tile} (h : x.inService = (tileAt s t).inService) : Subsides s (setTile s t x) :=
  ⟨rfl, rfl, rfl, rfl, rfl, rfl, rfl, fun i => by
    by_cases hi : i = t
    · rw [hi, tileAt_setTile_same, h]
    · rw [tileAt_setTile_ne _ _ _ _ hi], fun _ _ => rfl, fun _ _ h => h⟩

theorem subsides_giveBack (s : State) (l : List Token) : Subsides s (giveBack s l) :=
  List.foldlRecOn (motive := Subsides s) _ _ (.refl s) fun _ hu _ _ => hu.trans (subsides_setTile rfl)

theorem subsides_dropTiles {s u : State} {e : Nat} (ht : u.tiles = s.tiles.map fun p => (p.1, dropTile e p.2))
    (hr : u = { s with
      tiles := u.tiles, spires := u.spires, dome := u.dome, adm := u.adm, search := u.search, text := u.text }) :
    Subsides s u := by
  refine ⟨by rw [hr], by rw [hr], by rw [hr], by rw [hr], by rw [hr], by rw [hr], by rw [hr], fun t => ?_,
    fun a _ => by rw [hr], fun i _ hf => ?_⟩
  · unfold tileAt
    rw [ht, tgetD_map _ _ _ rfl]
    rfl
  · exact hf.of_regs (by rw [hr])

theorem subsides_dropWork (s : State) (e : Nat) : Subsides s (dropWork s e) := by
  unfold dropWork
  exact (subsides_dropTiles (e := e) rfl rfl).trans (subsides_giveBack _ _)

theorem subsides_setReq (s : State) (e : Nat) (r : Request) : Subsides s (setReq s e r) := subsides_of_parts rfl

theorem subsides_updReq (s : State) (e : Nat) (f : Request → Request) : Subsides s (updReq s e f) := by
  unfold updReq
  split
  · exact subsides_setReq s e _
  · exact .refl s

theorem subsides_endRequest (s : State) (e status due : Nat) : Subsides s (endRequest s e status due) := by
  unfold endRequest
  split
  · exact .refl s
  · split
    · exact .refl s
    · have hrest (u : State) (h : List Fragment) : Subsides u { u with hold := h } := subsides_of_parts rfl
      exact ((subsides_setReq s e _).trans (subsides_dropWork _ e)).trans (hrest _ _)

theorem subsides_completed (s : State) (e status : Nat) (r : Request) : Subsides s (completed s e status r) := by
  unfold completed
  generalize (if status = stDone then r.state else .ending) = st
  dsimp only
  split
  · exact (subsides_setReq s e _).trans (subsides_bump _ 1 (by decide) (by decide))
  split
  · exact (subsides_setReq s e _).trans (subsides_bump _ 1 (by decide) (by decide))
  split
  · exact (subsides_setReq s e _).trans (subsides_setReg _ _ (by decide) (by decide))
  · exact subsides_setReq s e _

theorem subsides_complete (s : State) (e status : Nat) : Subsides s (complete s e status) := by
  cases hr : reqAt s e with
  | none => simpa [complete, hr] using Subsides.refl s
  | some r =>
    cases hs : r.sentFrame with
    | some f => simpa [complete, hr, hs] using Subsides.refl s
    | none =>
      obtain ⟨body, hc⟩ := complete_eq (status := status) hr hs
      rw [hc]
      exact (subsides_completed s e status r).trans (handed_sendMsg _ _ _ _ _ _).subsides

theorem subsides_faultAll (s : State) : Subsides s (faultAll s) := by
  refine Subsides.foldl _ (fun s e => ?_) _ s
  split
  · exact (subsides_dropWork s e).trans (subsides_complete _ e _)
  · exact .refl s

/-! ### Reports and the entry into Vermilion -/

theorem subsides_faultReport (s : State) (n arg0 arg1 : Nat) : Subsides s (faultReport s n arg0 arg1) := by
  unfold faultReport
  split
  · exact .refl s
  · dsimp only
    split
    · refine Subsides.trans (u := { s with belfry := _ }) ?_ (handed_eventTo _ n 0x0D arg0 arg1).subsides
      exact subsides_of_parts rfl
    · exact subsides_bump s 1 (by decide) (by decide)

theorem subsides_told (s : State) (d : Detection) (action seq : Nat) : Subsides s (told s d action seq) :=
  ((Subsides.foldl _ (fun s e => (subsides_updReq s e _).trans (subsides_endRequest _ e _ _)) _ s).trans
    (Subsides.foldl _ (fun s _ => subsides_faultReport s _ _ _) _ _)).trans
    (Subsides.foldl _ (fun s n => subsides_faultReport s n _ _) _ _)

theorem subsides_refuseMsg (s : State) (x : Submission) (reason earliest : Nat) :
    Subsides s (refuseMsg s x reason earliest) :=
  (handed_sendMsg _ _ _ _ _ _).subsides.trans (subsides_bump _ 1 (by decide) (by decide))

theorem subsides_sendBeacons (s : State) : Subsides s (sendBeacons s) := by
  rw [sendBeacons_fields]
  exact subsides_of_parts rfl

/-- A block that Vermilion disables has its control register apart from Belfry's flags and the registers that stay. -/
theorem control_not_steady {b : Blk} (h : b ∈ vermilionBlks) :
    regAddr b 0 ∉ steadyRegs ∧ regAddr b 0 ≠ regAddr .belfry 0x00 := by
  cases b <;> simp [vermilionBlks] at h <;> simp [steadyRegs, regAddr, blkBase, tileBase] <;> omega

theorem subsides_clearEnables (s : State) : Subsides s (clearEnables s vermilionBlks) := by
  unfold clearEnables
  refine List.foldlRecOn (motive := Subsides s) _ _ (.refl s) fun u hu b hb => hu.trans ?_
  obtain ⟨hsteady, hflag⟩ := control_not_steady (List.mem_of_mem_filter hb)
  exact subsides_setReg u _ hsteady hflag

theorem subsides_idle (s : State) (f : Tile → Tile) (hr : f Tile.reset = Tile.reset) (hf : ∀ x, (f x).inService = x.inService) :
    Subsides s { s with tiles := s.tiles.map (fun p => (p.1, f p.2)) } :=
  ⟨rfl, rfl, rfl, rfl, rfl, rfl, rfl, fun i => by
    unfold tileAt
    rw [tgetD_map _ _ _ hr, hf], fun _ _ => rfl, fun _ _ h => h⟩

/-- What entering Vermilion changes of the device state and the pins (R7, R348). -/
theorem enterDev_vermilion {s : State} (h : s.dev ≠ .vermilion) :
    Subsides { s with dev := .vermilion, pins := { s.pins with rdy := false } } (enterDev s .vermilion 4) := by
  have heq : enterDev s .vermilion 4 = eventAll (logService { s with
      dev := .vermilion, reason := 4, pins := { s.pins with rdy := false } } 0x0600 4) 0x01 4 (devCode s.dev) := by
    unfold enterDev
    rw [if_neg h]
    rfl
  rw [heq]
  refine Subsides.trans (u := { s with dev := .vermilion, reason := 4, pins := { s.pins with rdy := false } }) ?_
    ((subsides_logEntry _ _ _ _ _ _ _ _).trans (handed_eventAll _ _ _ _).subsides)
  exact subsides_of_parts rfl

/-- The device as Vermilion leaves it: FLT_N low, RDY low, no release (R394). -/
def shutDown (s : State) : State :=
  { s with dev := .vermilion, pins := { s.pins with fltLow := true, rdy := false }, belfry := { s.belfry with gateClosed := true } }

/-- Step 1 of R394: FLT_N falls and nothing is released. -/
def gated (s : State) : State :=
  { s with pins := { s.pins with fltLow := true }, belfry := { s.belfry with gateClosed := true } }

/-- Step 2 of R394: no admission, and the blocks are disabled. -/
def disabled (s : State) : State :=
  clearEnables { s with adm := { s.adm with subs := [], replans := [], switches := [] } } vermilionBlks

/-- A tile that runs nothing. -/
def idleTile (x : Tile) : Tile := { x with task := none, run := .idle, passes := [], streams := [] }

/-- The steps of R394 before the device state changes: at their end every request has completed. -/
def quietened (s : State) : State :=
  let u := disabled (gated s)
  setFlag (faultAll { u with tiles := u.tiles.map (fun p => (p.1, idleTile p.2)) }) .belfry 0x00 5

theorem subsides_disabled (s : State) : Subsides s (disabled s) :=
  Subsides.trans (u := { s with adm := { s.adm with subs := [], replans := [], switches := [] } }) (subsides_of_parts rfl)
    (subsides_clearEnables _)

theorem subsides_quietened (s : State) : Subsides (gated s) (quietened s) ∧ FlagUp (quietened s) .belfry 0x00 5 := by
  have hoff := subsides_disabled (gated s)
  unfold quietened
  generalize disabled (gated s) = u at hoff ⊢
  exact ⟨((hoff.trans (subsides_idle u idleTile rfl fun _ => rfl)).trans (subsides_faultAll _)).trans (subsides_raise _ 5),
    flagUp_setFlag _ .belfry 0x00 5 (by decide)⟩

theorem enterVermilion_eq {s : State} (h : s.dev ≠ .vermilion) : enterVermilion s =
    sendBeacons (s.adm.subs.foldl (fun s x => refuseMsg s x 0x07 0) (enterDev (quietened s) .vermilion 4)) := by
  unfold enterVermilion
  rw [if_neg h]
  rfl

/-- Vermilion stops the device, raises its flag, and leaves what R394 does not name. -/
theorem enterVermilion_stops {s : State} (h : s.dev ≠ .vermilion) :
    Subsides (shutDown s) (enterVermilion s) ∧ FlagUp (enterVermilion s) .belfry 0x00 5 := by
  obtain ⟨hquiet, hflag⟩ := subsides_quietened s
  have henter := enterDev_vermilion (s := quietened s) (by rw [hquiet.dev]; exact h)
  rw [enterVermilion_eq h]
  generalize quietened s = q at hquiet hflag henter ⊢
  have hfinal := henter.trans ((Subsides.foldl _ (fun s x => subsides_refuseMsg s x 0x07 0) s.adm.subs _).trans
    (subsides_sendBeacons _))
  generalize sendBeacons _ = u at hfinal ⊢
  refine ⟨⟨hfinal.dev, ?_, hfinal.power.trans hquiet.power, hfinal.flash.trans hquiet.flash, hfinal.last.trans hquiet.last,
    hfinal.unacked.trans hquiet.unacked, hfinal.gate.trans hquiet.gate, fun i => (hfinal.inService i).trans (hquiet.inService i),
    fun a ha => (hfinal.regs a ha).trans (hquiet.regs a ha), fun i hi hf => hfinal.flags i hi (hquiet.flags i hi hf)⟩,
    hfinal.flags 5 (by decide) hflag⟩
  rw [hfinal.pins]
  exact congrArg (fun p : Pins => { p with rdy := false }) hquiet.pins

/-! ### A DEVICE detection -/

/-- A DEVICE detection as Belfry takes it (R390). -/
def deviceDetection (mech unit detail : Nat) : Detection :=
  { mech := mech, action := 2, unit := unit, key := none, ctx := 0xFF, entry := 0xFFFF, detail := detail, affected := [] }

/-- Outside Vermilion a DEVICE detection is recorded and reported, and the device enters Vermilion (R390, R394). -/
theorem detectDevice_eq {s : State} (mech unit detail : Nat) (hv : s.dev ≠ .vermilion) : detectDevice s mech unit detail =
    enterVermilion (told (alarmed s (deviceDetection mech unit detail) 2) (deviceDetection mech unit detail) 2 s.belfry.seq) := by
  show detect s (deviceDetection mech unit detail) = _
  unfold detect
  simp only [recurs, if_neg hv, deviceDetection, told, alarmed, Bool.false_eq_true, if_false, if_true]
  rfl

/-- A detection's entry is Belfry's last and waits for acknowledgement; FLT_N is low (R389, R401, R404). -/
structure Alarm (s u : State) (mech action : Nat) : Prop where
  dev : u.dev = s.dev
  low : u.pins.fltLow = true
  last : ∃ e, u.belfry.last = some e ∧ e.mech = mech ∧ e.action = action ∧ e.frame = now s ∧ e.seq ∈ u.belfry.unacked
  regs : ∀ a ∈ steadyRegs, tget u.regs a = tget s.regs a
  flags : ∀ i, i < 64 → FlagUp s .belfry 0x00 i → FlagUp u .belfry 0x00 i
  inService : ∀ i, (tileAt u i).inService = (tileAt s i).inService

theorem now_logEntry (s : State) (cls mech action ctx unit entry detail : Nat) :
    now (logEntry s cls mech action ctx unit entry detail) = now s := by
  unfold now
  rw [logEntry_fields]

/-- Belfry's counter of a mechanism is none of the registers that stay, nor its flags. -/
theorem mechCounter_not_steady {mech : Nat} (h : mech < 16) :
    regAddr .belfry (0x100 + 8 * mech) ∉ steadyRegs ∧ regAddr .belfry (0x100 + 8 * mech) ≠ regAddr .belfry 0x00 := by
  simp [steadyRegs, regAddr, blkBase]
  omega

/-- The entry of a detection as Belfry's last (R404). -/
def lastEntry (s : State) (d : Detection) (action : Nat) : LogEntry :=
  { seq := s.belfry.seq, frame := now s, cls := 1, mech := d.mech, action := action, ctx := d.ctx, unit := d.unit,
    entry := d.entry, detail := d.detail }

/-- A detection logged: its entry is Belfry's last and waits for acknowledgement (R389, R404). -/
def entered (s : State) (d : Detection) (action : Nat) : State :=
  let u := logEntry s 1 d.mech action d.ctx d.unit d.entry d.detail
  { u with belfry := { u.belfry with unacked := addNat s.belfry.seq u.belfry.unacked, last := some (lastEntry s d action) } }

theorem recordDetection_eq (s : State) (d : Detection) (action : Nat) : recordDetection s d action =
    setFlag (bump (bump (entered s d action) .belfry 0x20 1) .belfry (0x100 + 8 * d.mech) 1) .belfry 0x00 1 := by
  have hnow := now_logEntry s 1 d.mech action d.ctx d.unit d.entry d.detail
  unfold recordDetection entered lastEntry
  simp only [hnow]

theorem subsides_recordDetection (s : State) {d : Detection} (action : Nat) (hm : d.mech < 16) :
    Subsides (entered s d action) (recordDetection s d action) := by
  obtain ⟨hcount, hflag⟩ := mechCounter_not_steady hm
  rw [recordDetection_eq]
  exact ((subsides_bump _ 1 (by decide) (by decide)).trans (subsides_bump _ 1 hcount hflag)).trans (subsides_raise _ 1)

theorem alarm_alarmed (s : State) {d : Detection} (action : Nat) (hm : d.mech < 16) : Alarm s (alarmed s d action) d.mech action := by
  have hlog := subsides_logEntry s 1 d.mech action d.ctx d.unit d.entry d.detail
  have hrec := subsides_recordDetection s action hm
  unfold alarmed
  generalize recordDetection s d action = w at hrec ⊢
  have hunacked : s.belfry.seq ∈ w.belfry.unacked := by
    rw [hrec.unacked]
    exact mem_addNat _ _
  exact ⟨hrec.dev.trans hlog.dev, rfl, ⟨_, hrec.last, rfl, rfl, rfl, hunacked⟩, fun a ha => (hrec.regs a ha).trans (hlog.regs a ha),
    fun i hi hf => hrec.flags i hi (hlog.flags i hi hf), fun i => (hrec.inService i).trans (hlog.inService i)⟩

theorem Alarm.subsides {s u v : State} {mech action : Nat} (h : Alarm s u mech action) (k : Subsides u v) : Alarm s v mech action where
  dev := k.dev.trans h.dev
  low := by rw [k.pins]; exact h.low
  last := by rw [k.last, k.unacked]; exact h.last
  regs a ha := (k.regs a ha).trans (h.regs a ha)
  flags i hi hf := k.flags i hi (h.flags i hi hf)
  inService i := (k.inService i).trans (h.inService i)

/-- A DEVICE detection outside Vermilion puts the device there (R389, R394). -/
theorem detectDevice_vermilions {s : State} {mech : Nat} (unit detail : Nat) (hv : s.dev ≠ .vermilion) (hm : mech < 16) :
    let u := detectDevice s mech unit detail
    Vermilioned s u mech ∧ (∀ a ∈ steadyRegs, tget u.regs a = tget s.regs a) ∧
    (∀ i, i < 64 → FlagUp s .belfry 0x00 i → FlagUp u .belfry 0x00 i) := by
  have hground := ground_detectDevice s mech unit detail
  have halarm := (alarm_alarmed s (d := deviceDetection mech unit detail) 2 hm).subsides
    (subsides_told _ (deviceDetection mech unit detail) 2 s.belfry.seq)
  obtain ⟨hstop, hflag⟩ := enterVermilion_stops (by rw [halarm.dev]; exact hv)
  intro u
  rw [← detectDevice_eq mech unit detail hv] at hstop hflag
  simp only [ground, Prod.mk.injEq] at hground
  obtain ⟨hrom, hcounter, -⟩ := hground
  obtain ⟨e, hlast, hmech, haction, hframe, hseq⟩ := halarm.last
  have hlast' : u.belfry.last = some e := hstop.last.trans hlast
  have hunacked : e.seq ∈ u.belfry.unacked := by
    rw [hstop.unacked]
    exact hseq
  refine ⟨⟨hstop.dev, by rw [hstop.pins]; rfl, by rw [hstop.pins]; rfl, hstop.gate, ⟨e, hlast', hmech, haction, hunacked⟩, hflag,
    fun e' he' => ?_, hrom, hcounter⟩, fun a ha => (hstop.regs a ha).trans (halarm.regs a ha),
    fun i hi hf => hstop.flags i hi (halarm.flags i hi hf)⟩
  obtain rfl := Option.some.inj (he'.symm.trans hlast')
  exact hframe

end Sys2Proof.Machine
end

section
namespace Sys2Proof.Machine

/-! ### Link retries and failures -/

/-- A tile that leaves service keeps the registers that stay. -/
theorem steady_tileOut (s : State) (t : Nat) : ∀ a ∈ steadyRegs, tget (tileOut s t).regs a = tget s.regs a := by
  unfold tileOut
  dsimp only
  split
  · exact ((subsides_raise _ 3).trans (subsides_logEntry _ _ _ _ _ _ _ _)).regs
  · exact fun _ _ => rfl

/-- A TILE detection outside Vermilion keeps the registers that stay and the device state. -/
theorem steady_detectTile {s : State} {mech : Nat} (t detail : Nat) (hv : s.dev ≠ .vermilion) (hm : mech < 16) :
    ∀ a ∈ steadyRegs, tget (detectTile s mech t detail).regs a = tget s.regs a := by
  have halarm := (alarm_alarmed s (d := tileDetection s mech t detail) 1 hm).subsides
    (subsides_told _ (tileDetection s mech t detail) 1 s.belfry.seq)
  intro a ha
  rw [detectTile_eq mech t detail hv]
  exact (steady_tileOut _ t a ha).trans (halarm.regs a ha)

/-- The link that a retry counter stands for: a tile's own port apart from its other links (R384). -/
def linkKey (u : UnitId) (own : Bool) : Nat :=
  2 * unitCode u + (match u with
    | .tile _ => if own then 1 else 0
    | _ => 0)

/-- A flit that fails is counted and logged (R384). -/
def retried (s : State) (u : UnitId) (own : Bool) : State :=
  logEntry (bump { s with belfry := { s.belfry with
    retries := tset s.belfry.retries (linkKey u own) (tgetD s.belfry.retries (linkKey u own) 0 + 1) } } .belfry 0x38 1)
    6 0 3 0xFF (unitCode u) 0xFFFF 0

theorem execLinkCrc_eq {s : State} {u : UnitId} (own twice : Bool) (hu : unitExists u = true) : execLinkCrc u own twice s =
    if twice = true ∨ 16 < tgetD s.belfry.retries (linkKey u own) 0 + 1 then
      match u, own with
      | .tile t, true => .next (detectTile (retried s u own) 0x09 t 0)
      | _, _ => .next (detectDevice (retried s u own) 0x09 (unitCode u) 0)
    else .next (retried s u own) := by
  unfold execLinkCrc
  rw [if_neg (by simp [hu])]
  cases u <;> cases own <;> rfl

theorem linkCrc_next {s : State} {u : UnitId} (own twice : Bool) (hu : unitExists u = true) :
    ∃ t, execLinkCrc u own twice s = .next t := by
  rw [execLinkCrc_eq own twice hu]
  split
  · split
    all_goals exact ⟨_, rfl⟩
  · exact ⟨_, rfl⟩

/-- A retry is counted once, on its link's counter, and its entry changes the logs alone (R384, R401). -/
theorem retried_counts (s : State) (u : UnitId) (own : Bool) : Counted s (retried s u own) .belfry 0x38 1 ∧
    (retried s u own).belfry.retries =
      tset s.belfry.retries (linkKey u own) (tgetD s.belfry.retries (linkKey u own) 0 + 1) ∧
    LoggedBut [regAddr .belfry 0x38] { s with belfry := { s.belfry with retries := (retried s u own).belfry.retries } }
      (retried s u own) := by
  let v : State := { s with belfry := { s.belfry with
    retries := tset s.belfry.retries (linkKey u own) (tgetD s.belfry.retries (linkKey u own) 0 + 1) } }
  obtain ⟨hb, hregs, hfields⟩ := loggedBut_of_class (bump v .belfry 0x38 1) 0 3 0xFF (unitCode u) 0xFFFF 0 (cls := 6) (by decide)
  change (retried s u own).belfry = _ at hb
  have hretries : (retried s u own).belfry.retries = v.belfry.retries := by rw [hb]; rfl
  change RegsBut _ _ (retried s u own) at hregs
  change retried s u own = _ at hfields
  refine ⟨?_, hretries, ?_, ?_, ?_⟩
  · exact Counted.regsBut (s := s) (counted_bump v .belfry 0x38 1) hregs (by decide)
  · rw [hretries]
    exact hb
  · exact (regsBut_bump v .belfry 0x38 1).mono (by simp) |>.trans (hregs.mono (by simp))
  · rw [hretries]
    exact hfields

theorem retried_dev (s : State) (u : UnitId) (own : Bool) : (retried s u own).dev = s.dev :=
  (subsides_logEntry _ _ _ _ _ _ _ _).dev

/-- A counter that stays reads on through a detection. -/
theorem Counted.steady {s u v : State} {b : Blk} {off n : Nat} (h : Counted s u b off n) (hb : regAddr b off ∈ steadyRegs)
    (hv : ∀ a ∈ steadyRegs, tget v.regs a = tget u.regs a) : Counted s v b off n := by
  have hr : reg v b off = reg u b off := by
    unfold reg tgetD
    rw [hv _ hb]
  unfold Counted at *
  rwa [hr]

/-- What a detection in the state `u`, which `s` became by logging alone, puts in Vermilion (R389). -/
theorem vermilioned_since {s u t : State} {mech : Nat} (h : Vermilioned u t mech) (hn : now u = now s) (hg : ground u = ground s) :
    Vermilioned s t mech := by
  simp only [ground, Prod.mk.injEq] at hg
  obtain ⟨hrom, hcounter, -⟩ := hg
  obtain ⟨hdev, hlow, hrdy, hgate, hlast, hflag, hframe, hrom', hcounter'⟩ := h
  exact ⟨hdev, hlow, hrdy, hgate, hlast, hflag, fun e he => (hframe e he).trans hn, hrom'.trans hrom, hcounter'.trans hcounter⟩

theorem now_retried (s : State) (u : UnitId) (own : Bool) : now (retried s u own) = now s := now_logEntry _ _ _ _ _ _ _ _

theorem ground_retried (s : State) (u : UnitId) (own : Bool) : ground (retried s u own) = ground s := ground_logEntry _ _ _ _ _ _ _ _

/-- A flit that fails twice on a link that is no tile's own port (R384, R390). -/
theorem linkCrc_device {s : State} {u : UnitId} {own : Bool} (hu : unitExists u = true) (h : own = false ∨ ∀ i, u ≠ .tile i) :
    execLinkCrc u own true s = .next (detectDevice (retried s u own) 0x09 (unitCode u) 0) := by
  rw [execLinkCrc_eq own true hu, if_pos (.inl rfl)]
  split
  · rename_i t
    exact absurd h (by simp)
  · rfl

/-- Settles O45: a retry is logged, and the other findings are TILE or DEVICE detections. -/
theorem detections : Obligations.Detections := by
  refine ⟨fun s u own bad => ⟨linkCrc_next own bad, ⟨_, rfl⟩, ?_, ?_⟩, fun s u own hu => ⟨fun hk => ?_, fun hv i hui ho => ?_,
    fun hv h => ?_⟩, fun s hv => ⟨_, rfl, (detectDevice_vermilions 0x0600 0 hv (by decide)).1⟩,
    fun s => ⟨rfl, fun hv => ⟨_, rfl, (detectDevice_vermilions 0x0600 0 hv (by decide)).1⟩⟩, fun s upset hv => ⟨fun h => ?_, fun h => ?_⟩⟩
  · cases bad <;> exact ⟨_, rfl⟩
  · show ∃ t, execAudit bad s = .next t
    unfold execAudit
    dsimp only
    split
    all_goals exact ⟨_, rfl⟩
  · obtain ⟨hcount, hretries, hlog⟩ := retried_counts s u own
    refine ⟨retried s u own, ?_, hcount, ?_, fun j hj => ?_, hlog⟩
    · show execLinkCrc u own false s = _
      change tgetD s.belfry.retries (linkKey u own) 0 < 16 at hk
      rw [execLinkCrc_eq own false hu, if_neg (by simp only [Bool.false_eq_true, false_or]; omega)]
    · show tgetD _ (linkKey u own) 0 = tgetD _ (linkKey u own) 0 + 1
      rw [hretries]
      unfold tgetD
      rw [tget_tset_same]
      rfl
    · change j ≠ linkKey u own at hj
      rw [hretries]
      unfold tgetD
      rw [tget_tset_ne _ _ _ _ hj]
  · subst hui ho
    have hv' : (retried s (.tile i) true).dev ≠ .vermilion := by rw [retried_dev]; exact hv
    obtain ⟨hrec, hlow, hout⟩ := detectTile_takesOut i 0 hv' (mech := 0x09) (by decide)
    obtain ⟨e, hlast, hmech, hunit, -⟩ := hrec.last
    refine ⟨_, ?_, hout, hlow, hrec.dev.trans (retried_dev s _ _),
      (retried_counts s (.tile i) true).1.steady (by decide) (steady_detectTile i 0 hv' (by decide)), e, hlast, hmech, hunit⟩
    show execLinkCrc (.tile i) true true s = _
    rw [execLinkCrc_eq true true hu, if_pos (.inl rfl)]
  · have hv' : (retried s u own).dev ≠ .vermilion := by rw [retried_dev]; exact hv
    obtain ⟨hverm, hregs, -⟩ := detectDevice_vermilions (unitCode u) 0 hv' (mech := 0x09) (by decide)
    exact ⟨_, linkCrc_device hu h, vermilioned_since hverm (now_retried s u own) (ground_retried s u own),
      (retried_counts s u own).1.steady (by decide) hregs⟩
  · obtain ⟨rfl, hall⟩ := h
    have hgood : s.adm.auditCopy.all (auditAgrees s) = true := List.all_eq_true.mpr hall
    show execAudit false s = _
    simp [execAudit, hgood]
  · have hbad : (upset || !(s.adm.auditCopy.all (auditAgrees s))) = true := by
      by_contra hn
      simp only [Bool.not_eq_true, Bool.or_eq_false_iff, Bool.not_eq_false', List.all_eq_true] at hn
      exact h hn
    obtain ⟨hverm, -, -⟩ :=
      detectDevice_vermilions (s := { s with adm := { s.adm with auditCopy := [] } }) (mech := 0x0D) 0x0600 0 hv (by decide)
    refine ⟨_, ?_, vermilioned_since hverm rfl rfl⟩
    show execAudit upset s = _
    unfold execAudit
    dsimp only
    rw [if_pos hbad]

end Sys2Proof.Machine
end

section
namespace Sys2Proof.Machine

/-! ### The rolling self-test -/

/-- The registers of a selection network are none of Belfry's. -/
theorem netReg_ne_belfryReg (t o : Nat) {off : Nat} (ho : off < 0x10000) : regAddr (.selnet t) o ≠ regAddr .belfry off := by
  simp only [regAddr, blkBase, tileBase]
  omega

/-- The age of the least recently tested item and the passes completed, as BELFRY_SELFTEST shows them (R405). -/
def agedAs (s : State) (age : Nat) (pass : Bool) : State :=
  let u := setFld s .belfry 0x40 32 16 (min age 65535)
  if pass then setFld u .belfry 0x40 0 32 (min (fld u .belfry 0x40 0 32 + 1) (2 ^ 32 - 1)) else u

/-- The items tested in the pass that goes on (R397). -/
def testedItems (l : List TestItem) (i : TestItem) (pass : Bool) : List TestItem :=
  if pass then [] else if l.contains (itemKey i) then l else l ++ [itemKey i]

/-- The items that the pass has tested, replaced. -/
def withTested (s : State) (l : List TestItem) : State := { s with belfry := { s.belfry with tested := l } }

/-- The state once an item is tested, before its outcome acts (R397, R405). -/
def testedAs (s : State) (i : TestItem) (age : Nat) (pass : Bool) : State :=
  countRun (withTested (agedAs s age pass) (testedItems s.belfry.tested i pass)) i

theorem agedAs_fields (s : State) (age : Nat) (pass : Bool) : OnlyRegs s (agedAs s age pass) := by
  unfold agedAs
  cases pass
  · exact onlyRegs_setFld s _ _ _ _ _
  · exact (onlyRegs_setFld s _ _ _ _ _).trans (onlyRegs_setFld _ _ _ _ _ _)

theorem selfTest_does {s : State} {i : TestItem} (ok : Bool) (age : Nat) (pass : Bool) (hi : itemExists i = true) :
    Does (.selfTest i ok age pass) s
      (if ok && itemAgrees i then testedAs s i age pass else selfTestFail (testedAs s i age pass) i) := by
  have hfields : (agedAs s age pass).belfry = s.belfry := by rw [agedAs_fields s age pass]
  show execSelfTest i ok age pass s = _
  unfold execSelfTest
  rw [if_neg (by simp [hi])]
  unfold testedAs testedItems withTested
  rw [← hfields]
  rfl

theorem regsBut_agedAs (s : State) (age : Nat) (pass : Bool) : RegsBut [regAddr .belfry 0x40] s (agedAs s age pass) := by
  unfold agedAs
  cases pass
  · exact regsBut_setFld s _ _ _ _ _
  · exact (regsBut_setFld s _ _ _ _ _).trans (regsBut_setFld _ _ _ _ _ _)

theorem fld_agedAs (s : State) (age : Nat) (pass : Bool) : fld (agedAs s age pass) .belfry 0x40 32 16 = min age 65535 ∧
    fld (agedAs s age pass) .belfry 0x40 0 32 =
      (if pass then min (fld s .belfry 0x40 0 32 + 1) (2 ^ 32 - 1) else fld s .belfry 0x40 0 32) := by
  have hage : fld (setFld s .belfry 0x40 32 16 (min age 65535)) .belfry 0x40 32 16 = min age 65535 :=
    fld_setFld_same s _ _ (by decide) (by omega)
  have hpasses : fld (setFld s .belfry 0x40 32 16 (min age 65535)) .belfry 0x40 0 32 = fld s .belfry 0x40 0 32 :=
    fld_setFld_apart s _ _ _ (by decide) (by decide)
  unfold agedAs
  cases pass with
  | false => exact ⟨hage, hpasses⟩
  | true =>
    dsimp only
    rw [if_pos rfl, if_pos rfl, hpasses]
    exact ⟨(fld_setFld_apart _ _ _ _ (by decide) (by decide)).trans hage, fld_setFld_same _ _ _ (by decide) (by omega)⟩

theorem countRun_fields (s : State) (i : TestItem) : OnlyRegs s (countRun s i) ∧ RegsBut (runsOf i) s (countRun s i) := by
  cases i with
  | selectionNetwork t => exact ⟨rfl, regsBut_bump s (.selnet t) 0x10 1⟩
  | _ => exact ⟨rfl, regsBut_refl _ s⟩

theorem belfryReg_not_run {i : TestItem} {off : Nat} (h : off < 0x10000) : regAddr .belfry off ∉ runsOf i := by
  cases i with
  | selectionNetwork t => simpa [runsOf] using (netReg_ne_belfryReg t 0x10 h).symm
  | _ => simp [runsOf]

/-- What a test changes before its outcome acts: BELFRY_SELFTEST, the network's run counter and the items tested. -/
theorem testedAs_fields (s : State) (i : TestItem) (age : Nat) (pass : Bool) :
    RegsBut (regAddr .belfry 0x40 :: runsOf i) s (testedAs s i age pass) ∧
    testedAs s i age pass = { s with
      regs := (testedAs s i age pass).regs, belfry := { s.belfry with tested := testedItems s.belfry.tested i pass } } := by
  have haged := regsBut_agedAs s age pass
  have hfields := agedAs_fields s age pass
  unfold testedAs
  generalize testedItems s.belfry.tested i pass = l
  generalize agedAs s age pass = u at haged hfields
  obtain ⟨hrun, hregs⟩ := countRun_fields (withTested u l) i
  refine ⟨(haged.mono (by simp)).trans (RegsBut.mono (s := withTested u l) hregs fun _ h => List.mem_cons_of_mem _ h), ?_⟩
  generalize countRun (withTested u l) i = v at hrun ⊢
  rw [show v = _ from hrun, show u = _ from hfields]
  rfl

theorem counted_testedAs (s : State) {i : TestItem} (age : Nat) (pass : Bool) {j : Nat} (f : Nat) (o : Bool) (n : Nat)
    (l : List Nat) (r : List Byte) (hi : i = .selectionNetwork j f o n l r) : Counted s (testedAs s i age pass) (.selnet j) 0x10 1 := by
  subst hi
  exact (counted_bump (withTested (agedAs s age pass) _) (.selnet j) 0x10 1).since (regsBut_agedAs s age pass)
    (by simpa using netReg_ne_belfryReg j 0x10 (by decide))

/-! ### Items that fail -/

/-- The LATENT fault raises its event and counts once (R398). -/
def LatentFault (s t : State) : Prop := FlagUp t .belfry 0x00 2 ∧ Counted s t .belfry 0x28 1

theorem latentFault_latent (s : State) (mech unit detail : Nat) : LatentFault s (latent s mech unit detail) :=
  latent_counted s mech unit detail

theorem LatentFault.of_regs {s t u : State} (h : LatentFault s t) (hu : u.regs = t.regs) : LatentFault s u :=
  ⟨h.1.of_regs hu, h.2.of_regs hu⟩

/-- Writes of registers before it leave the counter of latent faults, unless they are its own. -/
theorem LatentFault.since {l : List Nat} {s t u : State} (h : LatentFault t u) (hl : RegsBut l s t)
    (hn : regAddr .belfry 0x28 ∉ l) : LatentFault s u := ⟨h.1, h.2.since hl hn⟩

theorem latent_dev (s : State) (mech unit detail : Nat) : (latent s mech unit detail).dev = s.dev := by rw [latent_fields]

/-- A latent fault whose unit puts the device in Vermilion is counted all the same (R389, R398). -/
theorem latentVermilion_stops {s : State} (mech unit : Nat) (hv : s.dev ≠ .vermilion) :
    let t := latentVermilion s mech unit
    LatentFault s t ∧ t.dev = .vermilion ∧ t.pins.fltLow = true := by
  obtain ⟨hflag, hcount⟩ := latentFault_latent s mech unit 0
  obtain ⟨⟨hdev, hlow, -⟩, hregs, hflags⟩ := detectDevice_vermilions (s := latent s mech unit 0) (mech := 0x0C) unit 0
    (by rw [latent_dev]; exact hv) (by decide)
  exact ⟨⟨hflags 2 (by decide) hflag, hcount.steady (by decide) hregs⟩, hdev, hlow⟩

theorem latentFault_failTile (s : State) (mech t : Nat) : LatentFault s (failTile (latent s mech t 0) t) :=
  (latentFault_latent s mech t 0).of_regs rfl

/-- Whatever item fails, the fault is LATENT: raised and counted (R398). -/
theorem latentFault_selfTestFail {s : State} (i : TestItem) (hv : s.dev ≠ .vermilion) : LatentFault s (selfTestFail s i) := by
  cases i with
  | sparePe t row col => exact latentFault_latent (setTile s t _) 0x01 t 0
  | tileComparator t mech => exact latentFault_failTile s mech t
  | selectionNetwork t f o n l r =>
    exact (latentFault_latent _ 0x03 t 0).since (s := setTile s t _) (regsBut_setFlag _ (.selnet t) 0x08 2)
      (by simpa using (netReg_ne_belfryReg t 8 (by decide)).symm)
  | keepSpareRow k bank r =>
    exact (latentFault_latent _ 0x05 _ 0).since (s := { s with tier := _ }) (regsBut_setFld _ (.keep k) 0x38 0 14 _)
      (by simpa using (keepReg_ne_belfryReg k (by decide)).symm)
  | linkCrc u =>
    cases u with
    | tile t => exact latentFault_failTile s 0x09 t
    | _ => exact (latentVermilion_stops 0x09 _ hv).1
  | keepChecker k mech => exact (latentVermilion_stops mech _ hv).1
  | domeChecker mech => exact (latentVermilion_stops mech _ hv).1
  | heartbeatMonitor u => exact (latentVermilion_stops 0x0A _ hv).1
  | auditUnit => exact (latentVermilion_stops 0x0D _ hv).1
  | belfryHalf => exact (latentVermilion_stops 0x0C _ hv).1
  | fltDriver => exact (latentVermilion_stops 0x0C _ hv).1
  | rdyDriver => exact latentFault_latent s 0x0C 0x0600 0

/-- A tile whose comparator failed leaves service at the next boundary (R398). -/
theorem tileComparator_fails (s : State) (j m : Nat) : j ∈ (selfTestFail s (.tileComparator j m)).belfry.failing ∧
    (selfTestFail s (.tileComparator j m)).dev = s.dev := ⟨mem_addNat _ _, latent_dev s m j 0⟩

theorem latent_tiles (s : State) (mech unit detail : Nat) : (latent s mech unit detail).tiles = s.tiles := by rw [latent_fields]

/-- A spare PE that failed is kept from use (R398). -/
theorem sparePe_fails (s : State) (j r c : Nat) : (r, c) ∈ (tileAt (selfTestFail s (.sparePe j r c)) j).badPes ∧
    (selfTestFail s (.sparePe j r c)).dev = s.dev := by
  refine ⟨?_, latent_dev _ _ _ _⟩
  unfold selfTestFail
  rw [tileAt_of_tiles (latent_tiles _ _ _ _), tileAt_setTile_same]
  simp

/-- A network that failed shows it in its status (R157). -/
theorem selectionNetwork_fails (s : State) (j f : Nat) (o : Bool) (n : Nat) (l : List Nat) (r : List Byte) :
    FlagUp (selfTestFail s (.selectionNetwork j f o n l r)) (.selnet j) 0x08 2 ∧
    (selfTestFail s (.selectionNetwork j f o n l r)).dev = s.dev := by
  refine ⟨?_, latent_dev _ _ _ _⟩
  have hkept := (regsBut_latent (setFlag (setTile s j { tileAt s j with netBad := true }) (.selnet j) 0x08 2) 0x03 j 0).reg
    (.selnet j) 0x08 (by simp [latentRegs, netReg_ne_belfryReg])
  unfold FlagUp selfTestFail
  rw [hkept]
  exact flagUp_setFlag _ (.selnet j) 0x08 2 (by decide)

/-- The items whose failure puts the device in Vermilion (R389, R398). -/
theorem selfTestFail_vermilions {s : State} {i : TestItem} (hv : s.dev ≠ .vermilion) (h : i = .auditUnit ∨ i = .belfryHalf ∨
    i = .fltDriver ∨ (∃ m, i = .domeChecker m) ∨ (∃ k m, i = .keepChecker k m)) :
    (selfTestFail s i).dev = .vermilion ∧ (selfTestFail s i).pins.fltLow = true := by
  obtain rfl | rfl | rfl | ⟨m, rfl⟩ | ⟨k, m, rfl⟩ := h
  · exact (latentVermilion_stops 0x0D _ hv).2
  · exact (latentVermilion_stops 0x0C _ hv).2
  · exact (latentVermilion_stops 0x0C _ hv).2
  · exact (latentVermilion_stops m _ hv).2
  · exact (latentVermilion_stops m _ hv).2

/-! ### The pin, the wear prediction and incidents -/

/-- The pin rises when nothing holds it any longer (R389, R429). -/
def pinRises (s : State) : Prop := s.belfry.minimums = 0 ∧ s.belfry.unacked = [] ∧ s.dev ≠ .vermilion ∧ s.belfry.gateClosed = false

theorem releaseFlt_rises {s : State} (h : pinRises s) : releaseFlt s = { s with pins := { s.pins with fltLow := false } } := if_pos h

theorem releaseFlt_stays {s : State} (h : ¬ pinRises s) : releaseFlt s = s := if_neg h

theorem fltNMinimumEnd_does {s : State} (h : s.belfry.minimums ≠ 0) : Does .fltNMinimumEnd s
    (releaseFlt { s with belfry := { s.belfry with minimums := s.belfry.minimums - 1 } }) := if_neg h

/-- The samples of the wear indicators on a day (R399). -/
def wearSamples (s : State) (day : Nat) : List (Nat × Nat × Int) :=
  [1, 2, 3, 4, 5].filterMap (fun i => (wearOf s i).map (fun v => (day, i, v)))

/-- The state with the samples of a day (R399). -/
def sampled (s : State) (day : Nat) : State := { s with nv := { s.nv with wear := s.nv.wear ++ wearSamples s day } }

/-- BELFRY_WEAR as the prediction of a day sets it (R400). -/
def dateWord (s : State) (day : Nat) : Word :=
  match endOfLifeDate s day with
  | some (d, i) => packed [(0, d), (16, i)]
  | none => packed [(0, 0xFFFF)]

theorem wearSample_does {s : State} (day : Nat) (h : s.lantern.running = true) : Does (.wearSample day) s
    (logEntry (setReg (sampled s day) .belfry 0x48 (dateWord (sampled s day) day)) 5 0 0 0xFF 0x0600 0xFFFF 0) := by
  show execWearSample day s = _
  unfold execWearSample
  rw [if_neg (by simp [h])]
  rfl

/-- The prediction is on record, and the sample's entry changes the logs alone (R399 to R401). -/
theorem wearSample_records (s : State) (day : Nat) :
    let t := logEntry (setReg (sampled s day) .belfry 0x48 (dateWord (sampled s day) day)) 5 0 0 0xFF 0x0600 0xFFFF 0
    t.nv = (sampled s day).nv ∧ reg t .belfry 0x48 = dateWord (sampled s day) day ∧
    LoggedBut [regAddr .belfry 0x48] (sampled s day) t := by
  generalize sampled s day = v
  obtain ⟨hb, hregs, hfields⟩ := loggedBut_of_class (setReg v .belfry 0x48 (dateWord v day)) 0 0 0xFF 0x0600 0xFFFF 0 (cls := 5)
    (by decide)
  intro t
  change t.belfry = _ at hb
  change t = _ at hfields
  change RegsBut _ _ t at hregs
  refine ⟨by rw [hfields]; rfl, ?_, hb, ?_, hfields⟩
  · rw [hregs.reg .belfry 0x48 (by decide), reg_setReg_same]
  · exact ((regsBut_setReg v .belfry 0x48 _).mono (by simp)).trans (hregs.mono (by simp))

theorem incidentEnd_does {s : State} {i : Incident} (h : s.belfry.incident = some i) : Does .incidentEnd s { s with
    belfry := { s.belfry with incident := none },
    nv := { s.nv with
      summaries := ringPush 4096 s.nv.summaries { num := s.nv.summaryNext, boot := s.nv.boots, incident := i },
      summaryNext := s.nv.summaryNext + 1 } } := by
  show execIncidentEnd s = _
  simp [execIncidentEnd, h]

theorem healthEvents_complete (s : State) (i : TestItem) (ok pass : Bool) (n : Nat) : Completes .fltNMinimumEnd s ∧
    Completes (.wearSample n) s ∧ Completes .incidentEnd s ∧ (itemExists i = true → Completes (.selfTest i ok n pass) s) := by
  refine ⟨?_, ?_, ?_, fun hi => ⟨_, selfTest_does ok n pass hi⟩⟩
  · show ∃ t, execFltNMinimumEnd s = .next t
    unfold execFltNMinimumEnd
    split
    all_goals exact ⟨_, rfl⟩
  · show ∃ t, execWearSample n s = .next t
    unfold execWearSample
    split
    all_goals exact ⟨_, rfl⟩
  · show ∃ t, execIncidentEnd s = .next t
    unfold execIncidentEnd
    split
    all_goals exact ⟨_, rfl⟩

theorem mem_testedItems (l : List TestItem) (i : TestItem) : itemKey i ∈ testedItems l i false := by
  unfold testedItems
  rw [if_neg (by decide)]
  split
  · rename_i h
    simpa using h
  · simp

/-- A self-test that agrees shows its age and its pass, and changes nothing else (R397, R405). -/
theorem selfTest_passes {s : State} {i : TestItem} (age : Nat) (pass : Bool) (hi : itemExists i = true) (ha : itemAgrees i = true) :
    ∃ t, Does (.selfTest i true age pass) s t ∧ fld t .belfry 0x40 32 16 = min age 65535 ∧
      fld t .belfry 0x40 0 32 = (if pass then min (fld s .belfry 0x40 0 32 + 1) (2 ^ 32 - 1) else fld s .belfry 0x40 0 32) ∧
      RegsBut (regAddr .belfry 0x40 :: runsOf i) s t ∧ (pass = true → t.belfry.tested = []) ∧
      (∀ j f o n l r, i = .selectionNetwork j f o n l r → Counted s t (.selnet j) 0x10 1) ∧
      (pass = false → itemKey i ∈ t.belfry.tested) ∧
      t = { s with regs := t.regs, belfry := { s.belfry with tested := t.belfry.tested } } := by
  obtain ⟨hregs, hfields⟩ := testedAs_fields s i age pass
  obtain ⟨hage, hpasses⟩ := fld_agedAs s age pass
  have hself : reg (testedAs s i age pass) .belfry 0x40 = reg (agedAs s age pass) .belfry 0x40 :=
    (countRun_fields (withTested (agedAs s age pass) _) i).2.reg .belfry 0x40 (belfryReg_not_run (by decide))
  have htested : (testedAs s i age pass).belfry.tested = testedItems s.belfry.tested i pass := by rw [hfields]
  refine ⟨testedAs s i age pass, ?_, ?_, ?_, hregs, fun hp => ?_, fun j f o n l r h => counted_testedAs s age pass f o n l r h,
    fun hp => ?_, ?_⟩
  · have hdoes := selfTest_does (s := s) true age pass hi
    rwa [ha] at hdoes
  · unfold fld at hage ⊢
    rw [hself, hage]
  · unfold fld at hpasses ⊢
    rw [hself, hpasses]
  · rw [htested, hp]
    rfl
  · rw [htested, hp]
    exact mem_testedItems _ _
  · rw [htested]
    exact hfields

/-- Settles O46: each event does as its rule says, and a failing item is a LATENT fault with its own reaction. -/
theorem healthEvents : Obligations.HealthEvents := by
  refine ⟨healthEvents_complete, fun s h => ?_, fun s i age pass hi => ⟨selfTest_passes age pass hi, fun ok hv hbad => ?_⟩,
    fun s day hr => ?_, fun s i hi => ⟨_, incidentEnd_does hi, rfl, rfl, rfl⟩⟩
  · refine ⟨_, fltNMinimumEnd_does h, fun hhigh => ?_, fun hlow => ?_, ?_⟩
    · obtain ⟨hone, hack, hv, hgate⟩ := hhigh
      have hzero : s.belfry.minimums - 1 = 0 := by omega
      exact congrArg (·.pins.fltLow) (releaseFlt_rises (s := { s with belfry := { s.belfry with
        minimums := s.belfry.minimums - 1 } }) ⟨hzero, hack, hv, hgate⟩)
    · rw [releaseFlt_stays]
      rintro ⟨hzero, hack, hv, hgate⟩
      exact hlow ⟨by simp only at hzero; omega, hack, hv, hgate⟩
    · unfold releaseFlt
      split <;> rfl
  · obtain ⟨hregs, hfields⟩ := testedAs_fields s i age pass
    have hdev : (testedAs s i age pass).dev = s.dev := by rw [hfields]
    have hv' : (testedAs s i age pass).dev ≠ .vermilion := by rw [hdev]; exact hv
    obtain ⟨hflag, hcount⟩ := (latentFault_selfTestFail i hv').since hregs
      (List.not_mem_cons_of_ne_of_not_mem (by decide) (belfryReg_not_run (by decide)))
    have hdoes := selfTest_does (s := s) ok age pass hi
    rw [if_neg (by simp [hbad])] at hdoes
    refine ⟨_, hdoes, hflag, hcount, fun j m h => ?_, fun j r c h => ?_, fun j f o n l r h => ?_, fun k b r h => ?_, fun h => ?_,
      selfTestFail_vermilions hv'⟩
    · subst h
      exact ⟨(tileComparator_fails _ j m).1, (tileComparator_fails _ j m).2.trans hdev⟩
    · subst h
      exact ⟨(sparePe_fails _ j r c).1, (sparePe_fails _ j r c).2.trans hdev⟩
    · subst h
      exact ⟨(selectionNetwork_fails _ j f o n l r).1, (selectionNetwork_fails _ j f o n l r).2.trans hdev⟩
    · subst h
      exact (latent_dev _ _ _ _).trans hdev
    · subst h
      exact (latent_dev _ _ _ _).trans hdev
  · obtain ⟨hnv, hreg, hlog⟩ := wearSample_records s day
    have hsampled : { s with nv := (sampled s day).nv } = sampled s day := rfl
    refine ⟨_, wearSample_does day hr, hnv, fun d i he => ?_, fun he => ?_, ?_⟩
    · rw [hnv, hsampled] at he
      rw [hreg, dateWord, he]
    · rw [hnv, hsampled] at he
      rw [hreg, dateWord, he]
    · rw [hnv]
      exact hlog

end Sys2Proof.Machine
end

section
namespace Sys2Proof.Machine

/-! ### Messages that the clock hears -/

theorem takePtp_next (s : State) (domain : Nat) (ipv6 : Bool) (take : State → State) :
    ∃ t, takePtp s domain ipv6 take = .next t := by
  unfold takePtp
  dsimp only
  repeat' split
  all_goals exact ⟨_, rfl⟩

/-- A message that the clock hears is counted and taken (R322, R325). -/
theorem takePtp_heard {s : State} {domain : Nat} {ipv6 : Bool} (take : State → State) (h : HeardByClock s domain ipv6) :
    takePtp s domain ipv6 take = .next (take (bump s .mac 0x48 1)) := by
  obtain ⟨hup, hscrub, hpath, hdomain⟩ := h
  have hreg : reg (bump s .mac 0x48 1) .mac 0x38 = reg s .mac 0x38 := (regsBut_bump s .mac 0x48 1).reg _ _ (by decide)
  unfold takePtp
  rw [if_neg (by simp [hup]), if_neg (by simp [hscrub])]
  dsimp only
  rw [if_neg (by rw [hreg]; exact not_not.mpr hpath), if_neg (by unfold fld at hdomain ⊢; rw [hreg]; exact not_not.mpr hdomain)]

/-! ### The choice of the parent -/

theorem le_refl_keys (l : List Nat) : betterMaster.le l l = true := by
  induction l with
  | nil => rfl
  | cons x l ih => simp [betterMaster.le, ih]

theorem le_total_keys (k l : List Nat) (h : betterMaster.le k l = false) : betterMaster.le l k = true := by
  induction k generalizing l with
  | nil => cases l <;> rfl
  | cons x k ih =>
    cases l with
    | nil => rfl
    | cons y l =>
      unfold betterMaster.le at h ⊢
      split at h
      · exact absurd h (by simp)
      · rename_i hxy
        split at h
        · rename_i hyx
          rw [if_pos hyx]
        · rename_i hyx
          rw [if_neg hyx, if_neg hxy]
          exact ih l h

theorem le_trans_keys {j k l : List Nat} (hjk : j.length = k.length) (hkl : k.length = l.length) (h : betterMaster.le j k = true)
    (h' : betterMaster.le k l = true) : betterMaster.le j l = true := by
  induction j generalizing k l with
  | nil => cases l <;> rfl
  | cons x j ih =>
    obtain ⟨y, k, rfl⟩ := List.exists_cons_of_length_eq_add_one hjk.symm
    obtain ⟨z, l, rfl⟩ := List.exists_cons_of_length_eq_add_one (hkl.symm.trans hjk.symm)
    simp only [betterMaster.le] at h h' ⊢
    have ih' := @ih k l (by simpa using hjk) (by simpa using hkl)
    rcases Nat.lt_trichotomy x y with hxy | rfl | hxy
    · rcases Nat.lt_trichotomy y z with hyz | rfl | hyz
      · rw [if_pos (hxy.trans hyz)]
      · rw [if_pos hxy]
      · simp [hyz, Nat.not_lt.mpr hyz.le] at h'
    · rcases Nat.lt_trichotomy x z with hxz | rfl | hxz
      · rw [if_pos hxz]
      · simp only [lt_irrefl, if_false] at h h' ⊢
        exact ih' h h'
      · simp [hxz, Nat.not_lt.mpr hxz.le] at h'
    · simp [hxy, Nat.not_lt.mpr hxy.le] at h

/-- The members of the dataset comparison, in order (R325). -/
def masterKey (x : AnnounceIn) : List Nat :=
  [x.priority1, x.clockClass, x.accuracy, x.variance, x.priority2, x.grandmaster, x.steps, x.port]

theorem betterMaster_eq (a b : AnnounceIn) : betterMaster a b = betterMaster.le (masterKey a) (masterKey b) := rfl

theorem betterMaster_refl (a : AnnounceIn) : betterMaster a a = true := le_refl_keys _

theorem betterMaster_total {a b : AnnounceIn} (h : betterMaster a b = false) : betterMaster b a = true := le_total_keys _ _ h

theorem betterMaster_trans {a b c : AnnounceIn} (h : betterMaster a b = true) (h' : betterMaster b c = true) :
    betterMaster a c = true := by
  rw [betterMaster_eq] at *
  exact le_trans_keys (k := masterKey b) (by rfl) (by rfl) h h'

/-- One more master compared with the best so far (R325). -/
def chooseMaster (acc : Option AnnounceIn) (m : AnnounceIn) : Option AnnounceIn :=
  match acc with
  | none => some m
  | some b => if betterMaster b m then some b else some m

/-- The best of the masters compared is one of them, and none beats it. -/
theorem chooseMaster_best (l : List AnnounceIn) (b : AnnounceIn) :
    ∃ m, l.foldl chooseMaster (some b) = some m ∧ m ∈ b :: l ∧ ∀ x ∈ b :: l, betterMaster m x = true := by
  induction l generalizing b with
  | nil => exact ⟨b, rfl, by simp, by simp [betterMaster_refl]⟩
  | cons a l ih =>
    have hstep : chooseMaster (some b) a = if betterMaster b a then some b else some a := rfl
    rw [List.foldl_cons, hstep]
    cases hb : betterMaster b a with
    | true =>
      obtain ⟨m, hm, hmem, hbest⟩ := ih b
      have hmb := hbest b List.mem_cons_self
      refine ⟨m, hm, List.mem_cons.mpr ((List.mem_cons.mp hmem).imp_right (List.mem_cons_of_mem _)), fun x hx => ?_⟩
      rcases List.mem_cons.mp hx with rfl | hx
      · exact hmb
      · rcases List.mem_cons.mp hx with rfl | hx
        · exact betterMaster_trans hmb hb
        · exact hbest x (List.mem_cons_of_mem _ hx)
    | false =>
      obtain ⟨m, hm, hmem, hbest⟩ := ih a
      refine ⟨m, hm, List.mem_cons_of_mem _ hmem, fun x hx => ?_⟩
      rcases List.mem_cons.mp hx with rfl | hx
      · exact betterMaster_trans (hbest a List.mem_cons_self) (betterMaster_total hb)
      · exact hbest x hx

theorem bestMaster_of_mem {l : List AnnounceIn} (h : l ≠ []) :
    ∃ m, l.foldl chooseMaster none = some m ∧ m ∈ l ∧ ∀ x ∈ l, betterMaster m x = true := by
  obtain ⟨b, l, rfl⟩ := List.exists_cons_of_ne_nil h
  exact chooseMaster_best l b

/-- The masters heard once an Announce of one is taken (R325). -/
def mastersWith (s : State) (a : AnnounceIn) : List AnnounceIn :=
  s.frame.ptp.masters.filter (fun m => decide (m.port ≠ a.port)) ++ [a]

/-- An Announce that counts: its master joins, and the best of those heard is the parent (R325). -/
theorem announce_does {s : State} {a : AnnounceIn} (h : HeardByClock s a.domain a.ipv6) (hs : a.steps < 255) :
    Does (.announce a) s { bump s .mac 0x48 1 with frame := { s.frame with ptp := { s.frame.ptp with
      masters := mastersWith s a, parent := ((mastersWith s a).foldl chooseMaster none).map (·.port) } } } := by
  show execAnnounce a s = _
  unfold execAnnounce
  rw [takePtp_heard _ h, if_pos hs]
  rfl

theorem announceChoosesMaster : Claims.AnnounceChoosesMaster := by
  intro s a h hs
  obtain ⟨m, hm, hmem, hbest⟩ := bestMaster_of_mem (l := mastersWith s a) (by simp [mastersWith])
  refine ⟨_, announce_does h hs, counted_bump s .mac 0x48 1, rfl, ⟨m, hmem, ?_, hbest⟩, regsBut_bump s .mac 0x48 1, rfl⟩
  dsimp only
  rw [hm]
  rfl

/-! ### Offset and delay -/

theorem refsel_bump (s : State) : refsel (bump s .mac 0x48 1) = refsel s := by
  unfold refsel fld
  rw [(regsBut_bump s .mac 0x48 1).reg .frame 0 (by decide)]

/-- With another reference selected a completed Sync gives its offset and no more (R325). -/
theorem completeSync_offset {s : State} (t1 t2 : Int) (h : refsel s ≠ 0) : completeSync s t1 t2 = { s with
    frame := { s.frame with ptp := { s.frame.ptp with
      offsetNs := t2 - t1 - s.frame.ptp.delayNs, lastSync := some (t1, t2), pendingSync := none } } } := by
  unfold completeSync
  simp [h]

theorem sync_does {s : State} {p : PtpIn} (h : HeardByClock s p.domain p.ipv6) (hp : s.frame.ptp.parent = some p.port)
    (hr : refsel s ≠ 0) : Does (.sync p) s { bump s .mac 0x48 1 with frame := { s.frame with
      ptp := if p.twoStep then { s.frame.ptp with pendingSync := some (p.seq, p.localNs, p.corrNs) }
        else { s.frame.ptp with
          offsetNs := p.localNs - p.corrNs - p.remoteNs - s.frame.ptp.delayNs,
          lastSync := some (p.remoteNs, p.localNs - p.corrNs), pendingSync := none } } } := by
  have hparent : (bump s .mac 0x48 1).frame.ptp.parent = some p.port := hp
  show execSync p s = _
  unfold execSync
  rw [takePtp_heard _ h]
  dsimp only
  rw [if_neg (not_not.mpr hparent)]
  cases p.twoStep with
  | true => rfl
  | false =>
    rw [if_neg (by decide), completeSync_offset _ _ (by rw [refsel_bump]; exact hr)]
    rfl

theorem followUp_does {s : State} {p : PtpIn} {t2 c : Int} (h : HeardByClock s p.domain p.ipv6)
    (hp : s.frame.ptp.parent = some p.port) (hr : refsel s ≠ 0) (hsync : s.frame.ptp.pendingSync = some (p.seq, t2, c)) :
    Does (.followUp p) s { bump s .mac 0x48 1 with frame := { s.frame with ptp := { s.frame.ptp with
      offsetNs := t2 - c - p.corrNs - p.remoteNs - s.frame.ptp.delayNs, lastSync := some (p.remoteNs, t2 - c - p.corrNs),
      pendingSync := none } } } := by
  have hpending : (bump s .mac 0x48 1).frame.ptp.pendingSync = some (p.seq, t2, c) := hsync
  have hparent : (bump s .mac 0x48 1).frame.ptp.parent = some p.port := hp
  show execFollowUp p s = _
  unfold execFollowUp
  rw [takePtp_heard _ h]
  simp only [hpending]
  rw [if_pos ⟨hparent, trivial⟩, completeSync_offset _ _ (by rw [refsel_bump]; exact hr)]
  rfl

theorem delayReq_does {s : State} (seq : Nat) (sentNs : Int) (hup : s.port.up = true) (hp : s.frame.ptp.parent ≠ none) :
    Does (.delayReq seq sentNs) s (emitOut (bump { s with frame := { s.frame with ptp := { s.frame.ptp with
      pendingReq := some (seq, sentNs) } } } .mac 0x50 1) (.delayReq seq)) := by
  show execDelayReq seq sentNs s = _
  unfold execDelayReq
  rw [if_pos (by simp [hup, Option.isSome_iff_ne_none, hp])]

theorem delayResp_does {s : State} {p : PtpIn} {t1 t2 t3 : Int} (h : HeardByClock s p.domain p.ipv6)
    (hp : s.frame.ptp.parent = some p.port) (hreq : s.frame.ptp.pendingReq = some (p.seq, t3))
    (hsync : s.frame.ptp.lastSync = some (t1, t2)) : Does (.delayResp p) s { bump s .mac 0x48 1 with
      frame := { s.frame with ptp := { s.frame.ptp with
        pendingReq := none, delayNs := ((t2 - t1) + (p.remoteNs - p.corrNs - t3)) / 2 } } } := by
  have hparent : (bump s .mac 0x48 1).frame.ptp.parent = some p.port := hp
  have hpending : (bump s .mac 0x48 1).frame.ptp.pendingReq = some (p.seq, t3) := hreq
  have hlast : (bump s .mac 0x48 1).frame.ptp.lastSync = some (t1, t2) := hsync
  show execDelayResp p s = _
  unfold execDelayResp
  rw [takePtp_heard _ h]
  simp only [hpending, hlast]
  rw [if_pos ⟨hparent, trivial⟩, ← hsync]
  rfl

theorem ordinaryClock : Claims.OrdinaryClock := by
  refine ⟨fun s seq sent => ?_, fun s a p => ?_, fun s p h hp hr => ?_, fun s p t2 c h hp hr hsync => ?_,
    fun s seq sentNs hup hp => ?_, fun s p t1 t2 t3 h hp hreq hsync => ?_⟩
  · show ∃ t, execDelayReq seq sent s = .next t
    unfold execDelayReq
    split
    all_goals exact ⟨_, rfl⟩
  · have hannounce : ∃ t, execAnnounce a s = .next t := takePtp_next ..
    have hsync : ∃ t, execSync p s = .next t := takePtp_next ..
    have hfollow : ∃ t, execFollowUp p s = .next t := takePtp_next ..
    have hresp : ∃ t, execDelayResp p s = .next t := takePtp_next ..
    exact ⟨hannounce, hsync, hfollow, hresp⟩
  · refine ⟨_, sync_does h hp hr, regsBut_bump s .mac 0x48 1, rfl, fun htwo => ?_, fun hone => ?_⟩
    · simp [htwo]
    · simp [hone]
  · exact ⟨_, followUp_does h hp hr hsync, regsBut_bump s .mac 0x48 1, rfl, rfl, rfl⟩
  · exact ⟨_, delayReq_does seq sentNs hup hp, counted_bump s .mac 0x50 1, regsBut_bump s .mac 0x50 1, rfl⟩
  · exact ⟨_, delayResp_does h hp hreq hsync, regsBut_bump s .mac 0x48 1, rfl⟩

/-- Settles O8: the comparison of masters is a total preorder, so the fold over those heard ends on one that none beats. -/
theorem ptpClock : Obligations.PtpClock := ⟨announceChoosesMaster, ordinaryClock⟩

end Sys2Proof.Machine
end

section
namespace Sys2Proof.Machine

/-! ### What the port receives outside packets -/

/-- The registers of a received frame that is dropped: its count and its flag. -/
theorem rxDrop_facts (s : State) : Counted s (rxDrop s) .mac 0x58 1 ∧ FlagUp (rxDrop s) .mac 0x08 4 ∧
    RegsBut [regAddr .mac 0x58, regAddr .mac 0x08] s (rxDrop s) ∧ OnlyRegs s (rxDrop s) :=
  ⟨(counted_bump s .mac 0x58 1).regsBut (regsBut_setFlag _ .mac 0x08 4) (by decide),
    flagUp_setFlag _ .mac 0x08 4 (by decide),
    ((regsBut_bump s .mac 0x58 1).mono (by simp)).trans ((regsBut_setFlag _ .mac 0x08 4).mono (by simp)),
    (onlyRegs_bump s .mac 0x58 1).trans (onlyRegs_setFlag _ .mac 0x08 4)⟩

/-- What a request for an address leaves: it is received, and answered where the address is the device's own (R323). -/
def addressed (s : State) (mine : Prop) [Decidable mine] (answer : Out) : State :=
  if mine then bump (emitOut (bump s .mac 0x48 1) answer) .mac 0x50 1 else rxDrop (bump s .mac 0x48 1)

theorem addressed_facts (s : State) (mine : Prop) [Decidable mine] (answer : Out) :
    let t := addressed s mine answer
    Counted s t .mac 0x48 1 ∧
    ((mine → t.out = s.out ++ [answer] ∧ Counted s t .mac 0x50 1 ∧ RegsBut [regAddr .mac 0x48, regAddr .mac 0x50] s t) ∧
     (¬ mine → t.out = s.out ∧ Counted s t .mac 0x58 1 ∧ FlagUp t .mac 0x08 4 ∧
       RegsBut [regAddr .mac 0x48, regAddr .mac 0x58, regAddr .mac 0x08] s t)) ∧
    t = { s with regs := t.regs, out := t.out } := by
  dsimp only
  have hc := counted_bump s .mac 0x48 1
  have hr := regsBut_bump s .mac 0x48 1
  by_cases hm : mine
  · have hsent := regsBut_bump (emitOut (bump s .mac 0x48 1) answer) .mac 0x50 1
    rw [addressed, if_pos hm]
    exact ⟨hc.regsBut hsent (by decide), ⟨fun _ => ⟨rfl, (counted_bump _ .mac 0x50 1).since hr (by decide),
      (hr.mono (by simp)).trans (hsent.mono (by simp))⟩, fun h => absurd hm h⟩, rfl⟩
  · obtain ⟨hcount, hflag, hregs, -⟩ := rxDrop_facts (bump s .mac 0x48 1)
    rw [addressed, if_neg hm]
    exact ⟨hc.regsBut hregs (by decide), ⟨fun h => absurd h hm, fun _ => ⟨rfl, hcount.since hr (by decide), hflag,
      (hr.mono (by simp)).trans (hregs.mono (by simp))⟩⟩, rfl⟩

theorem arpRequest_eq {s : State} {target mac ip : Nat} (hu : s.port.up = true) (hs : s.sec.scrub = none) :
    execArpRequest target mac ip s =
      .next (addressed s (fld s .mac 0x20 0 32 ≠ 0 ∧ target = fld s .mac 0x20 0 32) (.arpReply mac ip)) := by
  have hreg : fld (bump s .mac 0x48 1) .mac 0x20 0 32 = fld s .mac 0x20 0 32 := by
    unfold fld
    rw [(regsBut_bump s .mac 0x48 1).reg .mac 0x20 (by decide)]
  unfold execArpRequest addressed
  rw [if_neg (by simp [hu]), if_neg (by simp [scrubbing, hs])]
  dsimp only
  rw [hreg]
  split <;> rfl

/-- The IPv6 address of the device, from its two registers (R323). -/
theorem ipv6Addr_bump (s : State) : ipv6Addr (bump s .mac 0x48 1) = ipv6Addr s := by
  unfold ipv6Addr
  rw [(regsBut_bump s .mac 0x48 1).reg .mac 0x28 (by decide), (regsBut_bump s .mac 0x48 1).reg .mac 0x30 (by decide)]

theorem neighborSolicitation_eq {s : State} {target mac : Nat} (hu : s.port.up = true) (hs : s.sec.scrub = none) :
    execNeighborSolicitation target mac s =
      .next (addressed s (ipv6Addr s ≠ 0 ∧ target = ipv6Addr s) (.neighborAdvert mac target)) := by
  unfold execNeighborSolicitation addressed
  rw [if_neg (by simp [hu]), if_neg (by simp [scrubbing, hs])]
  dsimp only
  rw [ipv6Addr_bump]
  split <;> rfl

/-- The sessions' waiting packets sent are handed out. -/
theorem handed_pumpSessions (s : State) : Handed s (pumpSessions s) :=
  Handed.foldl (fun (u : State) (p : Nat × Nat) => pumpAll u p.1 p.2) (fun u p => handed_pumpAll u p.1 p.2) _ s

/-- Bring-up ends: the port carries traffic, and what waited leaves (R349). -/
theorem linkUp_carries {s : State} (h : s.port.training = true) :
    ∃ t, Does .linkUp s t ∧ FlagUp t .mac 0x08 1 ∧
      HandedBut [regAddr .mac 0x08] { s with port := { s.port with up := true, training := false } } t := by
  refine ⟨_, (if_pos h : execLinkUp s = _), ?_, ?_⟩
  · exact (handed_pumpSessions _).flagUp (flagUp_setFlag _ .mac 0x08 1 (by decide)) (by decide)
  · exact (handedBut_setFlag _ 1 (by simp)).trans ((handed_pumpSessions _).handedBut _)

theorem linkDown_trains {s : State} (h : s.port.up = true) :
    ∃ t, Does .linkDown s t ∧ FlagUp t .mac 0x08 2 ∧ RegsBut [regAddr .mac 0x08] s t ∧
      t = { s with port := { s.port with up := false, training := true }, regs := t.regs } := by
  let t := setFlag { s with port := { s.port with up := false, training := true } } .mac 0x08 2
  exact ⟨t, (if_pos h : execLinkDown s = _), flagUp_setFlag _ .mac 0x08 2 (by decide),
    regsBut_setFlag { s with port := { s.port with up := false, training := true } } .mac 0x08 2, rfl⟩

/-! ### Frames in error -/

/-- An entry that follows a change of registers alone is all that there is besides. -/
theorem loggedBut_after_regs {l : List Nat} {s u v : State} (hu : OnlyRegs s u) (hl : RegsBut l s u) (h : LoggedBut [] u v) :
    LoggedBut l s v := by
  obtain ⟨r, rfl⟩ : ∃ r, u = { s with regs := r } := ⟨u.regs, hu⟩
  obtain ⟨hb, hr, hv⟩ := h
  exact ⟨hb, (hl.mono fun a ha => by simp [ha]).trans (hr.mono fun a ha => by simp at ha ⊢; tauto), hv⟩

/-- The LINK entry of a receive error. -/
theorem loggedBut_link (s : State) : LoggedBut [] s (logEntry s 6 0 3 0xFF 0x0600 0xFFFF 0) :=
  loggedBut_of_class s 0 3 0xFF 0x0600 0xFFFF 0 (cls := 6) (by decide)

/-- What a receive error leaves, by its kind (R321, R350, R401). -/
def errorLeaves (s : State) : RxErr → State
  | .badFcs => logEntry (bump s .mac 0x60 1) 6 0 3 0xFF 0x0600 0xFFFF 0
  | .fecUncorrected => logEntry (setFlag (bump s .mac 0x70 1) .mac 0x08 3) 6 0 3 0xFF 0x0600 0xFFFF 0
  | .fecCorrected n => bump s .mac 0x68 n
  | .outside => rxDrop s
  | .pause => rxDrop s

theorem receiveError_eq {s : State} (e : RxErr) (h : s.port.up = true) : execReceiveError e s = .next (errorLeaves s e) := by
  unfold execReceiveError
  rw [if_neg (by simp [h])]
  cases e <;> rfl

theorem badFcs_counts (s : State) : Counted s (errorLeaves s .badFcs) .mac 0x60 1 ∧
    LoggedBut [regAddr .mac 0x60] s (errorLeaves s .badFcs) :=
  ⟨(counted_bump s .mac 0x60 1).regsBut (loggedBut_link _).2.1 (by decide),
    loggedBut_after_regs (onlyRegs_bump s .mac 0x60 1) (regsBut_bump s .mac 0x60 1) (loggedBut_link _)⟩

theorem fecUncorrected_counts (s : State) : Counted s (errorLeaves s .fecUncorrected) .mac 0x70 1 ∧
    FlagUp (errorLeaves s .fecUncorrected) .mac 0x08 3 ∧
    LoggedBut [regAddr .mac 0x70, regAddr .mac 0x08] s (errorLeaves s .fecUncorrected) := by
  have hlog := loggedBut_link (setFlag (bump s .mac 0x70 1) .mac 0x08 3)
  have hflag := regsBut_setFlag (bump s .mac 0x70 1) .mac 0x08 3
  exact ⟨((counted_bump s .mac 0x70 1).regsBut hflag (by decide)).regsBut hlog.2.1 (by decide),
    (flagUp_setFlag _ .mac 0x08 3 (by decide)).regsBut hlog.2.1 (by decide),
    loggedBut_after_regs ((onlyRegs_bump s .mac 0x70 1).trans (onlyRegs_setFlag _ .mac 0x08 3))
      (((regsBut_bump s .mac 0x70 1).mono (by simp)).trans (hflag.mono (by simp))) hlog⟩

theorem receiveError_counts (s : State) (e : RxErr) (h : s.port.up = true) :
    ∃ t, Does (.receiveError e) s t ∧
      (e = .badFcs → Counted s t .mac 0x60 1 ∧ LoggedBut [regAddr .mac 0x60] s t) ∧
      (e = .fecUncorrected → Counted s t .mac 0x70 1 ∧ FlagUp t .mac 0x08 3 ∧
        LoggedBut [regAddr .mac 0x70, regAddr .mac 0x08] s t) ∧
      (∀ n, e = .fecCorrected n → Counted s t .mac 0x68 n ∧ RegsBut [regAddr .mac 0x68] s t ∧ t = { s with regs := t.regs }) ∧
      (e = .outside ∨ e = .pause → Counted s t .mac 0x58 1 ∧ FlagUp t .mac 0x08 4 ∧
        RegsBut [regAddr .mac 0x58, regAddr .mac 0x08] s t ∧ t = { s with regs := t.regs }) := by
  refine ⟨errorLeaves s e, receiveError_eq e h, ?_, ?_, ?_, ?_⟩
  · rintro rfl
    exact badFcs_counts s
  · rintro rfl
    exact fecUncorrected_counts s
  · rintro n rfl
    exact ⟨counted_bump s .mac 0x68 n, regsBut_bump s .mac 0x68 n, rfl⟩
  · rintro (rfl | rfl)
    · exact rxDrop_facts s
    · exact rxDrop_facts s

/-! ### Beacons -/

/-- Outputs that depend on nothing handed out leave in order. -/
theorem foldl_emitOut {α : Type} (f : State → α → Out) (hf : ∀ (s : State) (l : List Out) (x : α),
    f { s with out := l } x = f s x) (xs : List α) (s : State) :
    xs.foldl (fun u x => emitOut u (f u x)) s = { s with out := s.out ++ xs.map (f s) } := by
  induction xs generalizing s with
  | nil => simp
  | cons x xs ih =>
    rw [List.foldl_cons, ih, List.map_cons, ← List.singleton_append, ← List.append_assoc]
    have hsame : f (emitOut s (f s x)) = f s := funext fun y => hf s _ y
    rw [hsame]
    rfl

/-- What one endpoint is told by a beacon (R347). -/
def beaconTo (s : State) (j : Nat) : Out := packetOut s j 0 0 5 0 false (beaconBody s)

theorem sendBeacons_eq (s : State) : sendBeacons s = { s with out := s.out ++
    (if carries s then ((List.range 64).filter (epValid s)).map (beaconTo s) else []) } := by
  unfold sendBeacons
  split
  · exact foldl_emitOut beaconTo (fun _ _ _ => rfl) _ s
  · simp

theorem beaconTo_eq (s : State) (j : Nat) : beaconTo s j = packetOut s j 0 0 5 0 false
    (toLE 1 (devCode s.dev) ++ toLE 1 s.reason ++ toLE 2 (s.sec.scrub.getD 0) ++ zeros 4) := by
  unfold beaconTo beaconBody
  cases s.sec.scrub <;> rfl

theorem beacon_tells {s : State} (h : serving s = false) :
    ∃ u, (s.sec.scrub = none → u = s) ∧
      (∀ p, s.sec.scrub = some p → ∃ q, p ≤ q ∧ (p ≤ 1000 → q ≤ 1000) ∧
        u = { s with sec := { s.sec with scrub := some q }, fresh := s.fresh + 1 }) ∧
      Does .beacon s { u with out := u.out ++ (if carries u then ((List.range 64).filter (epValid u)).map (fun j =>
        packetOut u j 0 0 5 0 false (toLE 1 (devCode u.dev) ++ toLE 1 u.reason ++ toLE 2 (u.sec.scrub.getD 0) ++ zeros 4))
        else []) } := by
  refine ⟨advanceScrub s, fun hs => by unfold advanceScrub; rw [hs], fun p hp => ?_, ?_⟩
  · refine ⟨max p (Config.scrubShare s.fresh % 1001), le_max_left _ _, fun hle => max_le hle (by omega), ?_⟩
    unfold advanceScrub
    rw [hp]
  · show execBeacon s = _
    unfold execBeacon
    rw [if_neg (by simp [h]), sendBeacons_eq]
    simp only [funext (beaconTo_eq (advanceScrub s))]

/-! ### Completion -/

theorem linkUp_completes (s : State) : Completes .linkUp s := by
  show ∃ t, execLinkUp s = .next t
  unfold execLinkUp
  split <;> exact ⟨_, rfl⟩

theorem beacon_completes (s : State) : Completes .beacon s := by
  show ∃ t, execBeacon s = .next t
  unfold execBeacon
  split <;> exact ⟨_, rfl⟩

theorem linkDown_completes (s : State) : Completes .linkDown s := by
  show ∃ t, execLinkDown s = .next t
  unfold execLinkDown
  split <;> exact ⟨_, rfl⟩

theorem arpRequest_completes (s : State) (target mac ip : Nat) : Completes (.arpRequest target mac ip) s := by
  show ∃ t, execArpRequest target mac ip s = .next t
  unfold execArpRequest
  dsimp only
  repeat' split
  all_goals exact ⟨_, rfl⟩

theorem neighborSolicitation_completes (s : State) (target mac : Nat) : Completes (.neighborSolicitation target mac) s := by
  show ∃ t, execNeighborSolicitation target mac s = .next t
  unfold execNeighborSolicitation
  dsimp only
  repeat' split
  all_goals exact ⟨_, rfl⟩

theorem receiveError_completes (s : State) (e : RxErr) : Completes (.receiveError e) s := by
  show ∃ t, execReceiveError e s = .next t
  cases hu : s.port.up with
  | true => exact ⟨_, receiveError_eq e hu⟩
  | false =>
    unfold execReceiveError
    exact ⟨s, if_pos hu⟩

/-- Settles O38, an event at a time: what is counted and flagged is a change of registers alone, and a beacon is the
outputs of the endpoints it goes to. -/
theorem portEvents : Obligations.PortEvents := by
  unfold Obligations.PortEvents
  refine ⟨fun s => ⟨linkUp_completes s, beacon_completes s⟩, fun s target mac ip e => ⟨linkDown_completes s,
    arpRequest_completes s target mac ip, neighborSolicitation_completes s target mac, receiveError_completes s e⟩,
    fun s => linkUp_carries, fun s => linkDown_trains, ?_, ?_, receiveError_counts, fun s => beacon_tells⟩
  · intro s target mac ip hu hs
    exact ⟨_, arpRequest_eq hu hs, addressed_facts s _ _⟩
  · intro s target mac hu hs
    exact ⟨_, neighborSolicitation_eq hu hs, addressed_facts s _ _⟩

end Sys2Proof.Machine
end

section
namespace Sys2Proof.Machine

/-! ### Sessions changed one at a time -/

theorem sessionNow_setSess (s : State) (n : Nat) (x : Session) : SessionNow s (setSess s n x) n x :=
  ⟨sessAt_setSess_same s n x, fun m hm => sessAt_setSess_ne s n m x hm⟩

theorem sessionNow_trans {s t u : State} {n : Nat} {x y : Session} (h : SessionNow s t n x) (k : SessionNow t u n y) :
    SessionNow s u n y := by
  obtain ⟨-, hother⟩ := h
  obtain ⟨hn, kother⟩ := k
  exact ⟨hn, fun m hm => (kother m hm).trans (hother m hm)⟩

/-- A step that leaves every session leaves it where it is. -/
theorem sessionNow_stays {s t u : State} {n : Nat} {x : Session} (h : SessionNow s t n x)
    (hu : u.port.sessions = t.port.sessions) : SessionNow s u n x := by
  have hsame (m : Nat) : sessAt u m = sessAt t m := congrArg (fun l => tget l m) hu
  obtain ⟨hn, hother⟩ := h
  exact ⟨(hsame n).trans hn, fun m hm => (hsame m).trans (hother m hm)⟩

/-- Session `x` with its queue `q` at `y`. -/
def withQueue (x : Session) (q : Nat) (y : QueueSt) : Session := { x with queues := tset x.queues q y }

theorem queueNow_of_sessionNow {s t : State} {n q : Nat} {x : Session} {y : QueueSt} (h : SessionNow s t n (withQueue x q y)) :
    QueueNow s t n q x y :=
  ⟨withQueue x q y, h, rfl, tget_tset_same _ _ _, fun r hr => tget_tset_ne _ _ r y hr⟩

theorem queueNow_setSess (s : State) (n q : Nat) (x : Session) (y : QueueSt) :
    QueueNow s (setSess s n (withQueue x q y)) n q x y := queueNow_of_sessionNow (sessionNow_setSess s n _)

/-! ### Packets sent -/

/-- The counters of received and of sent frames. -/
def frameCounts : List Nat := [regAddr .mac 0x48, regAddr .mac 0x50]

theorem endpointWord_of_regsBut {l : List Nat} {s u : State} (h : RegsBut l s u) (hl : ∀ a ∈ l, a < 0x91000) (j w : Nat) :
    endpointWord u j w = endpointWord s j w := by
  refine h.reg .tytos _ fun hmem => ?_
  have hlow := hl _ hmem
  simp only [regAddr, blkBase] at hlow
  omega

theorem frameCounts_low : ∀ a ∈ frameCounts, a < 0x91000 := by decide

theorem fld_of_regsBut {l : List Nat} {s u : State} (h : RegsBut l s u) (b : Blk) (off lo n : Nat) (hn : regAddr b off ∉ l) :
    fld u b off lo n = fld s b off lo n := by
  unfold fld
  rw [h.reg b off hn]

theorem ethHead_same {s u : State} (h : RegsBut frameCounts s u) : ethHead u = ethHead s := by
  funext nextHop etherType
  simp only [ethHead, fld_of_regsBut h .mac 0x10 _ _ (by decide), fld_of_regsBut h .mac 0x18 _ _ (by decide),
    h.reg .mac 0x18 (by decide)]

theorem serviceByte_same {s u : State} (h : RegsBut frameCounts s u) : serviceByte u = serviceByte s := by
  simp only [serviceByte, fld_of_regsBut h .mac 0x18 _ _ (by decide)]

theorem ipv6Addr_same {s u : State} (h : RegsBut frameCounts s u) : ipv6Addr u = ipv6Addr s := by
  simp only [ipv6Addr, h.reg .mac 0x28 (by decide), h.reg .mac 0x30 (by decide)]

theorem epIpv4_same {s u : State} (h : RegsBut frameCounts s u) : epIpv4 u = epIpv4 s := by
  funext j
  simp only [epIpv4, endpointWord_of_regsBut h frameCounts_low]

/-- The headers of a frame come from the port's addresses and the endpoint table, so counting frames changes none of them
(R322 to R324). -/
theorem frameHead_same {s u : State} (h : RegsBut frameCounts s u) (hf : u.fresh = s.fresh) : frameHead u = frameHead s := by
  funext j payload
  simp only [frameHead, epIpv4_same h, ipv4Head, ipv6Head, endpointWord_of_regsBut h frameCounts_low, ethHead_same h,
    serviceByte_same h, ipv6Addr_same h, fld_of_regsBut h .mac 0x20 _ _ (by decide),
    fld_of_regsBut h .tytos 0x10 _ _ (by decide), hf]

theorem packetOut_same {s u : State} (h : RegsBut frameCounts s u) (hf : u.fresh = s.fresh) : packetOut u = packetOut s := by
  funext j session queue kind seq protectedFlag data
  simp only [packetOut, frameHead_same h hf]

theorem carries_of_regsBut {l : List Nat} {s u : State} (h : RegsBut l s u) (hn : regAddr .tytos 0 ∉ l) (hp : u.port.up = s.port.up) :
    carries u = carries s := by
  unfold carries enabled
  rw [h.reg _ _ hn, hp]

/-! ### Acknowledgements -/

/-- A queue's receive side as an acknowledgement that leaves finds it: new credit, and a number of its own (R331). -/
def acknowledged (q : Nat) (y : QueueSt) : QueueSt :=
  { y with rxLimit := y.rxNext + creditWindow q, rxSinceAck := 0, ackSerial := y.ackSerial + 1 }

/-- The body of the acknowledgement of a queue (R331). -/
def ackBytes (s : State) (q : Nat) (x : Session) (y : QueueSt) : List Byte :=
  toLE 4 y.rxNext ++ toLE 4 (y.rxNext + creditWindow q) ++ toLE 8 (sackBits y) ++ toLE 4 (cmdLimit s q y) ++
    toLE 1 (if x.ece then 1 else 0) ++ zeros 3

/-- The packet that carries the acknowledgement of a queue (R331). -/
def ackPacket (s : State) (n q : Nat) (x : Session) (y : QueueSt) : Out :=
  packetOut s x.endpoint (wireSession n) q 1 (y.ackSerial % 2 ^ 32) x.keys (ackBytes s q x y)

theorem sendAck_eq {s : State} {n q : Nat} {x : Session} {y : QueueSt} (hc : carries s = true) (hx : sessAt s n = some x)
    (hy : tget x.queues q = some y) : sendAck s n q =
      bump (emitOut (setSess s n (withQueue x q (acknowledged q y))) (ackPacket s n q x y)) .mac 0x50 1 := by
  unfold sendAck
  simp only [hx, hy]
  exact if_pos hc

/-- An acknowledgement is one packet, counted, and its queue's new credit (R331). -/
theorem sendAck_facts {s : State} {n q : Nat} {x : Session} {y : QueueSt} (hc : carries s = true) (hx : sessAt s n = some x)
    (hy : tget x.queues q = some y) :
    Counted s (sendAck s n q) .mac 0x50 1 ∧ Handed s (sendAck s n q) ∧
    (sendAck s n q).out = s.out ++ [ackPacket s n q x y] ∧
    SessionNow s (sendAck s n q) n (withQueue x q (acknowledged q y)) := by
  rw [sendAck_eq hc hx hy]
  exact ⟨counted_bump (emitOut (setSess s n _) _) .mac 0x50 1,
    ⟨⟨_, rfl⟩, regsBut_bump (emitOut (setSess s n _) _) .mac 0x50 1, rfl⟩, rfl,
    sessionNow_stays (sessionNow_setSess s n _) rfl⟩

theorem ackDelay_sends {s : State} {n q : Nat} {x : Session} {y : QueueSt} (hx : sessAt s n = some x)
    (hy : tget x.queues q = some y) (hn : y.rxSinceAck ≠ 0) : Does (.ackDelay n q) s (sendAck s n q) := by
  show execAckDelay n q s = _
  unfold execAckDelay
  simp only [hx, hy]
  exact if_neg hn

/-! ### Packets received -/

/-- The state in which a packet taken acts: its frame is counted. -/
def packetTaken (s : State) (n : Nat) (x : Session) : State := setSess (bump s .mac 0x48 1) n x

theorem packetTaken_facts (s : State) (n : Nat) (x : Session) : Counted s (packetTaken s n x) .mac 0x48 1 ∧
    RegsBut [regAddr .mac 0x48] s (packetTaken s n x) ∧ SessionNow s (packetTaken s n x) n x ∧
    packetTaken s n x = { s with
      regs := (packetTaken s n x).regs
      port := { s.port with sessions := (packetTaken s n x).port.sessions } } :=
  ⟨counted_bump s .mac 0x48 1, regsBut_bump s .mac 0x48 1, sessionNow_setSess (bump s .mac 0x48 1) n x, rfl⟩

theorem epValid_bump (s : State) (j : Nat) : epValid (bump s .mac 0x48 1) j = epValid s j := by
  unfold epValid
  rw [endpointWord_of_regsBut (regsBut_bump s .mac 0x48 1) (by decide)]

/-- A packet of its KIND from a valid sender, its CRC and form right, is counted and acts (R326, R328). -/
theorem receivePacket_passes {s : State} {p : PacketIn} {kind : Nat} (f : State → State) (hc : carries s = true)
    (hs : s.sec.scrub = none) (hk : p.kind = kind) (hce : p.ce = false) (he : epValid s p.endpoint = true)
    (hcrc : p.crcOk = true) (hform : p.formOk = true) :
    receivePacket kind p s f = .next (f (bump s .mac 0x48 1)) := by
  unfold receivePacket
  rw [if_neg (by simp [hc]), if_neg (by simp [hk]), if_neg (by simp [scrubbing, hs])]
  simp only [hce, Bool.false_eq_true, if_false, epValid_bump, he, hcrc, hform, Bool.true_eq_false]

/-- A packet received completes: it is of the KIND that its command names. -/
theorem receivePacket_completes {p : PacketIn} {kind : Nat} (f : State → State) (s : State) (hk : p.kind = kind) :
    ∃ t, receivePacket kind p s f = .next t := by
  unfold receivePacket
  rw [if_neg (by simp [hk] : ¬ p.kind ≠ kind)]
  dsimp only
  repeat' split
  all_goals exact ⟨_, rfl⟩

/-- A packet that its session and queue take acts on them (R328, R329). -/
theorem packetSession_takes {s : State} {p : PacketIn} {kind n : Nat} {x : Session} {y : QueueSt} (h : TakenPacket s p kind n x y)
    (again : Session → QueueSt → Bool) (f : State → Nat → Session → QueueSt → State) :
    packetSession p again f (bump s .mac 0x48 1) = f (packetTaken s n x) n x y := by
  obtain ⟨-, -, -, hce, -, -, -, hof, hx, hy, hprot⟩ := h
  have hof' : sessionOf (bump s .mac 0x48 1) p = some n := hof
  have hx' : sessAt (bump s .mac 0x48 1) n = some x := hx
  unfold packetSession
  simp only [hof', hx', hy, hce, Bool.false_eq_true, if_false]
  split
  · rename_i hkeys
    rw [if_pos hkeys] at hprot
    exact if_pos hprot
  · rename_i hkeys
    rw [if_neg hkeys] at hprot
    exact if_neg (by simp [hprot])

theorem takenPacket_acts {s : State} {p : PacketIn} {kind n : Nat} {x : Session} {y : QueueSt} (h : TakenPacket s p kind n x y)
    (again : Session → QueueSt → Bool) (f : State → Nat → Session → QueueSt → State) :
    receivePacket kind p s (packetSession p again f) = .next (f (packetTaken s n x) n x y) := by
  have hsession := packetSession_takes h again f
  obtain ⟨hc, hs, hk, hce, he, hcrc, hform, -⟩ := h
  rw [receivePacket_passes _ hc hs hk hce he hcrc hform, hsession]

/-- A session whose sequence numbers are not at their end goes on (R369). -/
theorem checkExhausted_stays {s : State} {n : Nat} {x : Session} (hx : sessAt s n = some x)
    (h : x.keys = true → ∀ q ∈ x.queues, q.2.rxNext + 1 < 2 ^ 32 ∧ q.2.txNext + 1 < 2 ^ 32) : checkExhausted s n = s := by
  unfold checkExhausted
  simp only [hx]
  refine if_neg ?_
  rintro ⟨hkeys, hany⟩
  obtain ⟨q, hq, hend⟩ := List.any_eq_true.mp hany
  have hroom := h hkeys q hq
  simp only [Bool.or_eq_true, decide_eq_true_eq] at hend
  omega

/-- A queue's numbers, moved on by one at most, leave a session that is not at its end going on. -/
theorem withQueue_unexhausted {x x' : Session} {q : Nat} {y y' : QueueSt} (h : Unexhausted x) (hy : tget x.queues q = some y)
    (hk : x'.keys = x.keys) (hq : x'.queues = tset x.queues q y') (hrx : y'.rxNext ≤ y.rxNext + 1) (htx : y'.txNext ≤ y.txNext) :
    x'.keys = true → ∀ e ∈ x'.queues, e.2.rxNext + 1 < 2 ^ 32 ∧ e.2.txNext + 1 < 2 ^ 32 := by
  intro hkeys e he
  rw [hq] at he
  rw [hk] at hkeys
  rcases mem_tset _ _ _ _ he with rfl | he
  · have hold := h hkeys _ (mem_of_tget hy)
    dsimp only at hold ⊢
    omega
  · have hold := h hkeys e he
    omega

/-! ### ACK -/

/-- What an ACK makes of its queue: the packets below NEXT are freed and the credit rises (R331). -/
def ackedQueue (y : QueueSt) (next room : Nat) : QueueSt :=
  { y with txAcked := next, txLimit := max y.txLimit (next + room), tx := y.tx.filter (fun e => decide (next ≤ e.1)) }

/-- The session with the queue that an ACK acted on; ECE halves the rate once (R331, R334). -/
def ackedSession (x : Session) (q : Nat) (y : QueueSt) (ece : Bool) : Session :=
  { x with
    queues := tset x.queues q y
    halved := x.halved || ece
    rateMbps := if ece = true ∧ x.halved = false then max 10000 (x.rateMbps / 2) else x.rateMbps }

theorem fastSeqs_zero (y : QueueSt) (next : Nat) : fastSeqs y next (BitVec.ofNat 64 0) = [] := by
  have hnone (i : Nat) : sacked next (BitVec.ofNat 64 0) i = false := by simp [sacked]
  simp [fastSeqs, hnone]

/-- Nothing waits on the queue: nothing leaves. -/
theorem pumpAll_empty {s : State} {n q : Nat} {x : Session} {y : QueueSt} (hx : sessAt s n = some x)
    (hy : tget x.queues q = some y) (he : y.txStream = []) : pumpAll s n q = s := by
  unfold pumpAll
  simp only [hx, hy, packetsOf, pump]
  exact if_neg (by simp [he])

/-- After an ACK on a queue where nothing waits, nothing leaves and the session goes on. -/
theorem ackedSession_settles {x : Session} {q : Nat} {y : QueueSt} (hun : Unexhausted x) (hy : tget x.queues q = some y)
    (he : y.txStream = []) (s : State) (n next room : Nat) (ece : Bool) :
    let u := setSess s n (ackedSession x q (ackedQueue y next room) ece)
    checkExhausted (pumpAll u n q) n = u := by
  dsimp only
  rw [pumpAll_empty (y := ackedQueue y next room) (sessAt_setSess_same s n _) (tget_tset_same _ q _) he]
  exact checkExhausted_stays (sessAt_setSess_same s n _) (withQueue_unexhausted hun hy rfl rfl (Nat.le_succ _) le_rfl)

/-- While no FINISH_RSP is awaited, an ACK installs no keys (R368). -/
theorem keySwitch_stays {x : Session} (hf : x.finishRsp = none) (s : State) (q next rate : Nat) (halved : Bool)
    (ys : Table QueueSt) : keySwitch s { x with rateMbps := rate, halved := halved, queues := ys } q next =
      (s, { x with rateMbps := rate, halved := halved, queues := ys }) := by
  simp [keySwitch, hf]

/-- An ACK without SACK, on a queue where nothing waits and no FINISH_RSP is awaited: its queue and its rate (R331, R334). -/
theorem takeAck_eq {s : State} {n q : Nat} {body : List Byte} {x : Session} {y : QueueSt} (hun : Unexhausted x)
    (hy : tget x.queues q = some y) (hf : x.finishRsp = none) (hsack : fieldLE body 8 8 = 0) (he : y.txStream = [])
    (hstep : seqAhead (fieldLE body 0 4) y.txAcked < 2 ^ 31)
    (hnext : y.txAcked + seqAhead (fieldLE body 0 4) y.txAcked ≤ y.txNext)
    (hroom : seqAhead (fieldLE body 4 4) (y.txAcked + seqAhead (fieldLE body 0 4) y.txAcked) < 2 ^ 31) :
    takeAck s n q body x y = setSess s n (ackedSession x q (ackedQueue y (y.txAcked + seqAhead (fieldLE body 0 4) y.txAcked)
      (seqAhead (fieldLE body 4 4) (y.txAcked + seqAhead (fieldLE body 0 4) y.txAcked))) (decide (fieldLE body 20 1 = 1))) := by
  have hrate : (if (decide (fieldLE body 20 1 = 1) && !x.halved) = true then max 10000 (x.rateMbps / 2) else x.rateMbps) =
      if decide (fieldLE body 20 1 = 1) = true ∧ x.halved = false then max 10000 (x.rateMbps / 2) else x.rateMbps := by simp
  unfold takeAck
  simp only [if_pos (And.intro hstep hnext), if_pos hroom, hsack, fastSeqs_zero, keySwitch_stays hf, List.foldl_nil, if_true,
    List.foldl_cons, hrate]
  exact ackedSession_settles hun hy he s n _ _ _

/-- An ACK taken on its queue and session, with the effect of its body (R331, R334). -/
theorem ack_takes {s : State} {p : PacketIn} {n : Nat} {x : Session} {y : QueueSt} (h : TakenPacket s p 1 n x y)
    (hlen : p.data.length = 24) : Does (.ack p) s (takeAck (packetTaken s n x) n p.queue p.data x y) := by
  show execAck p s = _
  unfold execAck
  rw [takenPacket_acts h, if_pos hlen]

theorem ack_completes {p : PacketIn} (s : State) (h : p.kind = 1) : Completes (.ack p) s := receivePacket_completes _ s h

/-! ### A session that fails -/

theorem sessionFailed_of {t u : State} {n : Nat} (h : SessionFailed t n) (hs : u.port.sessions = t.port.sessions) {l : List Nat}
    (hr : RegsBut l t u) (hn : regAddr .tytos 0x08 ∉ l) : SessionFailed u n :=
  ⟨(congrArg (fun p => tget p n) hs).trans h.1, h.2.regsBut hr hn⟩

theorem sessions_logEntry (s : State) (cls mech action ctx unit entry detail : Nat) :
    (logEntry s cls mech action ctx unit entry detail).port = s.port := by
  obtain ⟨-, -, ht⟩ := loggedBut_logEntry s cls mech action ctx unit entry detail
  rw [ht]

theorem sessionFailed_orphan {s : State} {n : Nat} (h : SessionFailed s n) (m : Nat) : SessionFailed (orphan s m) n := by
  unfold orphan
  dsimp only
  split
  · exact h
  · exact sessionFailed_of h rfl (regsBut_setFlag { s with sec := _ } .ctx 0x00 2) (by decide)

theorem sessionFailed_loseDeltas {s : State} {n : Nat} (h : SessionFailed s n) (e : Nat) : SessionFailed (loseDeltas s e) n := by
  unfold loseDeltas
  dsimp only
  split
  · exact h
  · obtain ⟨hgone, hflag⟩ := h
    refine ⟨OpensNone.foldl _ (fun u n => opensNone_eventTo u n _ _ _) _ _ n hgone, ?_⟩
    exact (handed_eventPriv _ _ _ _).flagUp (FlagUp.setFlag (s := { s with feat := _ }) hflag 4 (by decide)) (by decide)

/-- A failed session is gone, SESSION_FAILED set, whatever else its end takes with it (R327, R332, R345). -/
theorem endSession_fails {s : State} {n : Nat} {x : Session} (hx : sessAt s n = some x) :
    SessionFailed (endSession s n true) n := by
  have hgone : sessAt (setFlag (withoutSession s n x) .tytos 0x08 1) n = none := tget_tdel_same _ _
  have hlogged := sessionFailed_of ⟨hgone, flagUp_setFlag (withoutSession s n x) .tytos 0x08 1 (by decide)⟩
    (congrArg Port.sessions (sessions_logEntry _ 6 0 3 0xFF 0x0600 0xFFFF n)) (regsBut_logEntry _ 6 0 3 0xFF 0x0600 0xFFFF n)
    (by decide)
  have horphan := sessionFailed_orphan hlogged n
  unfold endSession
  simp only [hx, if_true]
  split
  · split
    · exact sessionFailed_loseDeltas horphan x.endpoint
    · exact sessionFailed_loseDeltas horphan x.endpoint
  · exact horphan

/-! ### Timers -/

theorem rtoExpiry_rests {s : State} (n q seq : Nat) (h : carries s = false) : Does (.rtoExpiry n q seq) s s := if_pos h

theorem rtoExpiry_eq {s : State} {n q seq : Nat} {x : Session} {y : QueueSt} {k : TxPacket} (hc : carries s = true)
    (hx : sessAt s n = some x) (hy : tget x.queues q = some y) (hk : tget y.tx seq = some k) :
    execRtoExpiry n q seq s = if fld s .tytos 0x18 16 4 ≤ k.retries then .next (endSession s n true)
      else .next (retransmit (setSess s n (withQueue x q { y with
        tx := tset y.tx seq { k with retries := k.retries + 1, fast := false } })) x.endpoint n q seq k) := by
  unfold execRtoExpiry
  simp only [hc, Bool.true_eq_false, if_false, hx, hy, hk]
  rfl

theorem retransmit_facts (s : State) (j n q seq : Nat) (k : TxPacket) :
    let t := retransmit s j n q seq k
    t.out = s.out ++ [packetOut s j (wireSession n) q 0 (seq % 2 ^ 32) k.protectedFlag k.data] ∧
    Counted s t .mac 0x50 1 ∧ Counted s t .tytos 0x28 1 ∧ HandedBut [regAddr .tytos 0x28] s t ∧
    t.port.sessions = s.port.sessions := by
  dsimp only
  let o := packetOut s j (wireSession n) q 0 (seq % 2 ^ 32) k.protectedFlag k.data
  have hsent := regsBut_bump (emitOut s o) .mac 0x50 1
  have hagain := regsBut_bump (bump (emitOut s o) .mac 0x50 1) .tytos 0x28 1
  exact ⟨rfl, (counted_bump (emitOut s o) .mac 0x50 1).regsBut hagain (by decide),
    (counted_bump (bump (emitOut s o) .mac 0x50 1) .tytos 0x28 1).since hsent (by decide),
    ⟨⟨[o], rfl⟩, (hsent.mono (by simp)).trans (hagain.mono (by simp)), rfl⟩, rfl⟩

theorem rtoExpiry_acts {s : State} {n q seq : Nat} {x : Session} {y : QueueSt} {k : TxPacket} (hc : carries s = true)
    (hx : sessAt s n = some x) (hy : tget x.queues q = some y) (hk : tget y.tx seq = some k) :
    ∃ t, Does (.rtoExpiry n q seq) s t ∧
      (fld s .tytos 0x18 16 4 ≤ k.retries → SessionFailed t n) ∧
      (k.retries < fld s .tytos 0x18 16 4 →
        t.out = s.out ++ [packetOut s x.endpoint (wireSession n) q 0 (seq % 2 ^ 32) k.protectedFlag k.data] ∧
        Counted s t .mac 0x50 1 ∧ Counted s t .tytos 0x28 1 ∧ HandedBut [regAddr .tytos 0x28] s t ∧
        ∃ w, QueueNow s t n q x w ∧ w = { y with tx := w.tx } ∧
          tget w.tx seq = some { k with retries := k.retries + 1, fast := false } ∧
          ∀ i, i ≠ seq → tget w.tx i = tget y.tx i) := by
  have heq := rtoExpiry_eq hc hx hy hk
  by_cases hmax : fld s .tytos 0x18 16 4 ≤ k.retries
  · rw [if_pos hmax] at heq
    exact ⟨_, heq, fun _ => endSession_fails hx, fun h => absurd hmax (by omega)⟩
  · rw [if_neg hmax] at heq
    let w : QueueSt := { y with tx := tset y.tx seq { k with retries := k.retries + 1, fast := false } }
    obtain ⟨hout, hsent, hagain, hhanded, hsess⟩ := retransmit_facts (setSess s n (withQueue x q w)) x.endpoint n q seq k
    refine ⟨_, heq, fun h => absurd h hmax, fun _ => ⟨hout, hsent, hagain, ((handed_setSess s n _).handedBut _).trans hhanded,
      w, queueNow_of_sessionNow (sessionNow_stays (sessionNow_setSess s n _) hsess), rfl, tget_tset_same _ _ _,
      fun i hi => tget_tset_ne _ _ _ _ hi⟩⟩

theorem linkHoldExpiry_fails {s : State} {n : Nat} {x : Session} (hx : sessAt s n = some x)
    (h : s.port.up = false ∨ ∃ e ∈ x.queues, e.2.txStream ≠ [] ∧ e.2.txLimit ≤ e.2.txNext) :
    ∃ t, Does (.linkHoldExpiry n) s t ∧ SessionFailed t n := by
  have haway : s.port.up = false ∨ x.queues.any (fun q => waitsCredit q.2) = true := by
    refine h.imp_right fun ⟨e, he, hwaits⟩ => List.any_eq_true.mpr ⟨e, he, ?_⟩
    simp [waitsCredit, hwaits]
  refine ⟨_, ?_, endSession_fails hx⟩
  show execLinkHoldExpiry n s = _
  unfold execLinkHoldExpiry
  simp only [hx]
  exact if_pos haway

theorem rateIncrease_rises {s : State} {n : Nat} {x : Session} (hx : sessAt s n = some x) :
    ∃ t, Does (.rateIncrease n) s t ∧
      SessionNow s t n { x with rateMbps := min 1600000 (x.rateMbps + 16000), ece := false, halved := false } ∧
      t = { s with port := { s.port with sessions := t.port.sessions } } := by
  refine ⟨_, ?_, sessionNow_setSess s n _, rfl⟩
  show execRateIncrease n s = _
  unfold execRateIncrease
  simp only [hx]

theorem transportTimer_completes (s : State) (n q seq : Nat) : Completes (.ackDelay n q) s ∧ Completes (.rtoExpiry n q seq) s ∧
    Completes (.linkHoldExpiry n) s ∧ Completes (.rateIncrease n) s := by
  refine ⟨?_, ?_, ?_, ?_⟩
  · show ∃ t, execAckDelay n q s = .next t
    unfold execAckDelay
    repeat' split
    all_goals exact ⟨_, rfl⟩
  · show ∃ t, execRtoExpiry n q seq s = .next t
    unfold execRtoExpiry
    dsimp only
    repeat' split
    all_goals exact ⟨_, rfl⟩
  · show ∃ t, execLinkHoldExpiry n s = .next t
    unfold execLinkHoldExpiry
    repeat' split
    all_goals exact ⟨_, rfl⟩
  · show ∃ t, execRateIncrease n s = .next t
    unfold execRateIncrease
    split
    all_goals exact ⟨_, rfl⟩

/-- Settles O40: an ACK and a retransmission change one queue of one session, a failure ends the session, and the other
timers change one session's fields. -/
theorem transportTimers : Obligations.TransportTimers := by
  unfold Obligations.TransportTimers
  refine ⟨transportTimer_completes, fun s p n q seq => ⟨ack_completes s, rtoExpiry_rests n q seq⟩, ?_, ?_,
    fun s n q seq x y k => rtoExpiry_acts, fun s n x => linkHoldExpiry_fails, fun s n x => rateIncrease_rises⟩
  · intro s p n x y htaken hun hlen hf hsack he hstep
    dsimp only
    intro hnext hroom
    have ⟨_, _, _, _, _, _, _, _, _, hy, _⟩ := htaken
    have htake := ack_takes htaken hlen
    rw [takeAck_eq hun hy hf hsack he hstep hnext hroom] at htake
    obtain ⟨hcount, hregs, hnow, hstate⟩ := packetTaken_facts s n x
    exact ⟨_, _, _, htake, sessionNow_trans hnow (sessionNow_setSess _ n _), tget_tset_same _ _ _,
      fun r hr => tget_tset_ne _ _ _ _ hr, rfl, fun e => by simp [ackedQueue], rfl, hcount, hregs, rfl⟩
  · intro s n q x y hc hx hy hn
    obtain ⟨hcount, hhanded, hout, hnow⟩ := sendAck_facts hc hx hy
    exact ⟨_, ackDelay_sends hx hy hn, hcount, hhanded, hout, queueNow_of_sessionNow hnow⟩

end Sys2Proof.Machine
end

section
namespace Sys2Proof.Machine

/-! ### Sessions granted -/

theorem searches_unusedFrom (s : State) : Searches (fun n => (sessAt s n).isSome) (unusedFrom s) :=
  fun n => ⟨rfl, fun k => by rw [unusedFrom, following]⟩

/-- The number drawn for a session: not 0, and no session's (R327). -/
theorem drawSession_unused {s : State} (h : s.port.sessions.length < 64) :
    sessAt s (drawSession s).1 = none ∧ 0 < (drawSession s).1 ∧ (drawSession s).1 < 2 ^ 32 :=
  search_unused s.port.sessions (searches_unusedFrom s) (by omega) (by omega) (by omega)

/-- A session packet and the packet that its bytes alone give are one but for the stamp: its command sees the same. -/
theorem plainPacket_passes {s : State} {p : PacketIn} {kind : Nat} (h : SessionPacket s p kind) (f : State → State) :
    receivePacket kind (plainPacket p.endpoint p.ce p.header p.wire) s f = .next (f (bump s .mac 0x48 1)) := by
  obtain ⟨hc, hs, hk, hce, he, hcrc, hform, -⟩ := h
  exact receivePacket_passes (p := plainPacket p.endpoint p.ce p.header p.wire) f hc hs hk hce he hcrc hform

theorem plainPacket_data {p : PacketIn} (h : p.protectedFlag = false) :
    (plainPacket p.endpoint p.ce p.header p.wire).data = p.data := by
  have hplain : (plainPacket p.endpoint p.ce p.header p.wire).protectedFlag = false := h
  unfold PacketIn.data
  rw [hplain, h]
  rfl

theorem epDevice_bump (s : State) (j : Nat) : epDevice (bump s .mac 0x48 1) j = epDevice s j := by
  unfold epDevice
  rw [endpointWord_of_regsBut (regsBut_bump s .mac 0x48 1) (by decide)]

/-- The state in which a session has been granted: its number drawn, its reply sent and counted (R327). -/
def grantedSession (s : State) (e first msgq : Nat) (qs : List Nat) : State :=
  let d := drawSession s
  bump (emitOut (setSess d.2 d.1 (newSession e false first msgq qs))
    (packetOut (setSess d.2 d.1 (newSession e false first msgq qs)) e d.1 0 3 0 false (openReplyBody 0 first qs))) .mac 0x50 1

/-- An endpoint without a session that asks for what is there is granted it whole (R327). -/
theorem openFor_grants {s : State} {e first : Nat} {body : List Byte} {qs : List Nat} (hz : zeroRange body 2 6 = true)
    (hopen : openedBy s e = none) (hdev : epDevice s e = false) (hphase : s.power.phase = 0 ∨ 9 ≤ s.power.phase)
    (hmin : 1 ≤ fieldLE body 0 1) (hmax : fieldLE body 0 1 ≤ 16) (hstorq : fieldLE body 1 1 ≤ 64)
    (hroom : s.port.sessions.length < 64) (hfirst : freeMsgq s (fieldLE body 0 1) = some first)
    (hqs : freeStorqs s (fieldLE body 1 1) = some qs) :
    openFor e body s = grantedSession s e first (fieldLE body 0 1) qs := by
  have hbody : ¬(fieldLE body 0 1 = 0 ∨ 16 < fieldLE body 0 1 ∨ 64 < fieldLE body 1 1 ∨ zeroRange body 2 6 = false) := by
    rw [hz]
    simp only [Bool.true_eq_false, or_false]
    omega
  unfold openFor
  simp only [hopen, hdev, Bool.false_eq_true, if_false]
  rw [if_neg (by omega), if_neg hbody, if_neg (by omega)]
  simp only [hfirst, hqs]
  rfl

theorem open_grants {s : State} {p : PacketIn} {first : Nat} {qs : List Nat} (h : SessionPacket s p 2) (hsess : p.session = 0)
    (hqueue : p.queue = 0) (hlen : p.data.length = 8) (hz : zeroRange p.data 2 6 = true)
    (hopen : openedBy s p.endpoint = none) (hdev : epDevice s p.endpoint = false)
    (hphase : s.power.phase = 0 ∨ 9 ≤ s.power.phase) (hmin : 1 ≤ fieldLE p.data 0 1) (hmax : fieldLE p.data 0 1 ≤ 16)
    (hstorq : fieldLE p.data 1 1 ≤ 64) (hroom : s.port.sessions.length < 64)
    (hfirst : freeMsgq s (fieldLE p.data 0 1) = some first) (hqs : freeStorqs s (fieldLE p.data 1 1) = some qs) :
    Does (.openSession p.endpoint p.ce p.header p.wire) s
      (grantedSession (bump s .mac 0x48 1) p.endpoint first (fieldLE p.data 0 1) qs) := by
  have hplain : p.protectedFlag = false := by
    obtain ⟨-, -, -, -, -, -, -, hplain⟩ := h
    exact hplain
  have hflag : (plainPacket p.endpoint p.ce p.header p.wire).protectedFlag = false := hplain
  have hplace : ¬((plainPacket p.endpoint p.ce p.header p.wire).session ≠ 0 ∨
      (plainPacket p.endpoint p.ce p.header p.wire).queue ≠ 0) := not_or.mpr ⟨not_not.mpr hsess, not_not.mpr hqueue⟩
  show execOpen p.endpoint p.ce p.header p.wire s = _
  unfold execOpen
  rw [plainPacket_passes h, plainPacket_data hplain, hflag, if_neg hplace, if_neg Bool.false_ne_true,
    if_neg (not_not.mpr hlen)]
  exact congrArg Host.Outcome.next (openFor_grants (s := bump s .mac 0x48 1) hz hopen ((epDevice_bump s _).trans hdev) hphase hmin hmax
    hstorq hroom hfirst hqs)

/-- What a grant leaves: a session at its number, and its reply (R327). -/
theorem grantedSession_facts {s : State} (e first msgq : Nat) (qs : List Nat) (hroom : s.port.sessions.length < 64) :
    let t := grantedSession (bump s .mac 0x48 1) e first msgq qs
    ∃ k, k ≠ 0 ∧ k < 2 ^ 32 ∧ sessAt s k = none ∧ SessionNow s t k (newSession e false first msgq qs) ∧
      t.out = s.out ++ [packetOut t e k 0 3 0 false (openReplyBody 0 first qs)] ∧ Counted s t .mac 0x50 1 ∧
      HandedBut [regAddr .mac 0x48] { s with fresh := s.fresh + 1 } t := by
  dsimp only
  obtain ⟨hnone, hpos, hlt⟩ := drawSession_unused (s := bump s .mac 0x48 1) hroom
  let d := drawSession (bump s .mac 0x48 1)
  let u := setSess d.2 d.1 (newSession e false first msgq qs)
  let o := packetOut u e d.1 0 3 0 false (openReplyBody 0 first qs)
  have hsent : RegsBut [regAddr .mac 0x50] u (bump (emitOut u o) .mac 0x50 1) := regsBut_bump (emitOut u o) .mac 0x50 1
  have htaken : RegsBut [regAddr .mac 0x48] s u := regsBut_bump s .mac 0x48 1
  refine ⟨d.1, Nat.pos_iff_ne_zero.mp hpos, hlt, hnone, sessionNow_setSess { s with regs := u.regs } d.1 _, ?_, ?_, ?_⟩
  · exact congrArg (fun f => s.out ++ [f e d.1 0 3 0 false (openReplyBody 0 first qs)])
      (packetOut_same (u := bump (emitOut u o) .mac 0x50 1) (hsent.mono (by simp [frameCounts])) rfl).symm
  · exact (counted_bump (emitOut u o) .mac 0x50 1).since htaken (by decide)
  · exact ⟨⟨[o], rfl⟩, (htaken.mono (by simp)).trans (hsent.mono (by simp)), rfl⟩

/-! ### Sessions that this device opens -/

theorem neighbourOpen_asks {s : State} {e : Nat} (hc : carries s = true) (hserv : serving s = true) (hv : epValid s e = true)
    (hd : epDevice s e = true) (hn : neighbourOf s e ≠ none) (hm : mineTo s e = none) (ho : e ∉ s.port.opening) :
    ∃ t, Does (.neighbourOpen e) s t ∧ Counted s t .mac 0x50 1 ∧ RegsBut [regAddr .mac 0x50] s t ∧
      t = { s with regs := t.regs, port := { s.port with opening := s.port.opening ++ [e] },
                   out := s.out ++ [packetOut s e 0 0 2 0 false (toLE 1 2 ++ zeros 7)] } := by
  let u := emitOut { s with port := { s.port with opening := s.port.opening ++ [e] } }
    (packetOut s e 0 0 2 0 false (toLE 1 2 ++ zeros 7))
  refine ⟨bump u .mac 0x50 1, ?_, counted_bump u .mac 0x50 1, regsBut_bump u .mac 0x50 1, rfl⟩
  show execNeighbourOpen e s = _
  unfold execNeighbourOpen
  rw [if_neg (by simp [hc])]
  exact if_pos ⟨hserv, hv, hd, Option.isSome_iff_ne_none.mpr hn, hm, by simpa using ho⟩

theorem openReply_opens {s : State} {p : PacketIn} (h : SessionPacket s p 3) (ho : p.endpoint ∈ s.port.opening)
    (hlen : p.data.length = 16) (hok : fieldLE p.data 0 1 = 0) (hsess : p.session ≠ 0) :
    ∃ t, Does (.openReply p.endpoint p.ce p.header p.wire) s t ∧
      SessionNow s t (mineKey p.endpoint p.session) (newSession p.endpoint true (fieldLE p.data 2 2) 2 []) ∧
      (∀ j, j ∈ t.port.opening ↔ j ∈ s.port.opening ∧ j ≠ p.endpoint) ∧ Counted s t .mac 0x48 1 ∧
      RegsBut [regAddr .mac 0x48] s t ∧
      t = { s with regs := t.regs, port := { s.port with sessions := t.port.sessions, opening := t.port.opening } } := by
  have hplain : p.protectedFlag = false := by
    obtain ⟨-, -, -, -, -, -, -, hplain⟩ := h
    exact hplain
  have hflag : (plainPacket p.endpoint p.ce p.header p.wire).protectedFlag = false := hplain
  have hopening : (bump s .mac 0x48 1).port.opening.contains (plainPacket p.endpoint p.ce p.header p.wire).endpoint = true :=
    List.contains_iff_mem.mpr ho
  let u : State := { bump s .mac 0x48 1 with
    port := { s.port with opening := s.port.opening.filter (fun e => decide (e ≠ p.endpoint)) } }
  refine ⟨setSess u (mineKey p.endpoint p.session) (newSession p.endpoint true (fieldLE p.data 2 2) 2 []), ?_,
    sessionNow_setSess { s with regs := u.regs } _ _, fun j => ?_, counted_bump s .mac 0x48 1, regsBut_bump s .mac 0x48 1, rfl⟩
  · show execOpenReply p.endpoint p.ce p.header p.wire s = _
    unfold execOpenReply
    rw [plainPacket_passes h]
    dsimp only
    rw [plainPacket_data hplain, hflag, if_neg (by rw [hopening]; exact Bool.true_eq_false.mp), if_neg Bool.false_ne_true,
      if_neg (not_not.mpr hlen)]
    exact congrArg Host.Outcome.next (if_pos ⟨hok, hsess⟩)
  · exact List.mem_filter.trans (and_congr_right' decide_eq_true_iff)

/-! ### CLOSE -/

theorem closePacket_ends {s : State} {p : PacketIn} {n : Nat} {x : Session} {y : QueueSt} (h : TakenPacket s p 4 n x y)
    (hm : x.mine = false) :
    Does (.closePacket p) s (orphan (withoutSession (packetTaken s n x) n x) n) := by
  show execClosePacket p s = _
  unfold execClosePacket
  rw [takenPacket_acts h, endSession_eq (s := packetTaken s n x) (sessAt_setSess_same _ n x), hm]
  rfl

/-- A context after the end of session `n` (R357). -/
def orphaned (n : Nat) (k : Ctx) : Ctx := if k.owner = some n then { k with owner := none, aged := false } else k

/-- The contexts of a session that ended: orphans, the flag of orphaning set where there is one (R357). -/
theorem orphan_facts (s : State) (n : Nat) :
    (∀ c k, ctxAt s c = some k → ctxAt (orphan s n) c =
      some (if k.owner = some n then { k with owner := none, aged := false } else k)) ∧
    ((∃ p ∈ s.sec.ctxs, p.2.owner = some n) → FlagUp (orphan s n) .ctx 0x00 2) ∧
    RegsBut [regAddr .ctx 0x00] s (orphan s n) ∧
    orphan s n = { s with regs := (orphan s n).regs, sec := { s.sec with ctxs := (orphan s n).sec.ctxs } } := by
  let u : State := { s with sec := { s.sec with
    ctxs := s.sec.ctxs.map (fun p => (p.1, orphaned n p.2)) } }
  have hctx : ∀ c k, ctxAt s c = some k →
      ctxAt u c = some (orphaned n k) := fun c k hk =>
    (tget_map s.sec.ctxs (orphaned n) c).trans (congrArg (Option.map (orphaned n)) hk)
  by_cases hmine : s.sec.ctxs.filter (fun p => decide (p.2.owner = some n)) = []
  · have heq : orphan s n = u := if_pos hmine
    rw [heq]
    refine ⟨hctx, fun ⟨p, hp, hown⟩ => ?_, fun _ _ => rfl, rfl⟩
    have hmem : p ∈ s.sec.ctxs.filter (fun p => decide (p.2.owner = some n)) :=
      List.mem_filter.mpr ⟨hp, decide_eq_true hown⟩
    rw [hmine] at hmem
    exact absurd hmem List.not_mem_nil
  · have heq : orphan s n = setFlag u .ctx 0x00 2 := if_neg hmine
    rw [heq]
    exact ⟨hctx, fun _ => flagUp_setFlag u .ctx 0x00 2 (by decide), regsBut_setFlag u .ctx 0x00 2, rfl⟩

theorem sessAt_withoutSession (s : State) (n m : Nat) (x : Session) (h : m ≠ n) :
    sessAt (withoutSession s n x) m = sessAt s m := tget_tdel_ne _ _ _ h

theorem closePacket_leaves {s : State} {p : PacketIn} {n : Nat} {x : Session} {y : QueueSt} (h : TakenPacket s p 4 n x y)
    (hm : x.mine = false) :
    ∃ t, Does (.closePacket p) s t ∧ sessAt t n = none ∧ (∀ m, m ≠ n → sessAt t m = sessAt s m) ∧
      (∀ c k, ctxAt s c = some k → ctxAt t c =
        some (if k.owner = some n then { k with owner := none, aged := false } else k)) ∧
      ((∃ p ∈ s.sec.ctxs, p.2.owner = some n) → FlagUp t .ctx 0x00 2) ∧ Counted s t .mac 0x48 1 ∧
      RegsBut [regAddr .mac 0x48, regAddr .ctx 0x00] s t ∧
      t = { s with regs := t.regs, sec := { s.sec with ctxs := t.sec.ctxs },
                   flash := { s.flash with queues := t.flash.queues, cmds := t.flash.cmds },
                   port := { s.port with sessions := t.port.sessions, delivered := t.port.delivered } } := by
  obtain ⟨hcount, hregs, ⟨-, hother⟩, -⟩ := packetTaken_facts s n x
  have hends := closePacket_ends h hm
  obtain ⟨hctx, hflag, horphan, hstate⟩ := orphan_facts (withoutSession (packetTaken s n x) n x) n
  have hsess (m : Nat) : sessAt (orphan (withoutSession (packetTaken s n x) n x) n) m =
      sessAt (withoutSession (packetTaken s n x) n x) m := by rw [hstate]; rfl
  generalize orphan (withoutSession (packetTaken s n x) n x) n = t at *
  refine ⟨t, hends, (hsess n).trans (tget_tdel_same _ _), fun m hmn => ?_, hctx, hflag, ?_, ?_, ?_⟩
  · exact (hsess m).trans ((sessAt_withoutSession _ n m x hmn).trans (hother m hmn))
  · exact Counted.regsBut (u := withoutSession (packetTaken s n x) n x) hcount horphan (by decide)
  · exact (hregs.mono (by simp)).trans (horphan.mono (by simp))
  · rw [hstate]
    rfl

/-! ### Completion -/

theorem neighbourOpen_completes (s : State) (e : Nat) : Completes (.neighbourOpen e) s := by
  show ∃ t, execNeighbourOpen e s = .next t
  unfold execNeighbourOpen
  repeat' split
  all_goals exact ⟨_, rfl⟩

theorem openSession_completes (s : State) {p : PacketIn} (h : p.kind = 2) :
    Completes (.openSession p.endpoint p.ce p.header p.wire) s := by
  show ∃ t, execOpen p.endpoint p.ce p.header p.wire s = .next t
  unfold execOpen
  exact receivePacket_completes (p := plainPacket p.endpoint p.ce p.header p.wire) _ s h

theorem openReply_completes (s : State) {p : PacketIn} (h : p.kind = 3) :
    Completes (.openReply p.endpoint p.ce p.header p.wire) s := by
  show ∃ t, execOpenReply p.endpoint p.ce p.header p.wire s = .next t
  unfold execOpenReply
  exact receivePacket_completes (p := plainPacket p.endpoint p.ce p.header p.wire) _ s h

theorem closePacket_completes (s : State) {p : PacketIn} (h : p.kind = 4) : Completes (.closePacket p) s :=
  receivePacket_completes _ s h

/-- Settles O41: the number drawn is found by the search that also numbers the management links, and a CLOSE removes its
session and orphans what that owned. -/
theorem sessionsOpenAndClose : Obligations.SessionsOpenAndClose := by
  unfold Obligations.SessionsOpenAndClose
  refine ⟨neighbourOpen_completes, fun s p => ⟨openSession_completes s, openReply_completes s, closePacket_completes s⟩, ?_,
    fun s p => openReply_opens, fun s e => neighbourOpen_asks, fun s p n x y => closePacket_leaves⟩
  intro s p first qs h hsess hqueue hlen hz
  dsimp only
  intro hopen hdev hphase hmin hmax hstorq hroom hfirst hqs
  obtain ⟨k, hk⟩ := grantedSession_facts p.endpoint first (fieldLE p.data 0 1) qs hroom
  exact ⟨_, k, open_grants h hsess hqueue hlen hz hopen hdev hphase hmin hmax hstorq hroom hfirst hqs, hk⟩

end Sys2Proof.Machine
end

section
namespace Sys2Proof.Machine

/-! ### The reason for which a message is rejected -/

theorem deltaBytes_same {s u : State} (h : tableDim u = tableDim s) (n : Nat) (bs : List Byte) :
    deltaBytes u n bs = deltaBytes s n bs := by
  induction n generalizing bs with
  | zero => rfl
  | succ n ih => simp only [deltaBytes, h, ih]

theorem lengthOf_same {s u : State} (h : tableDim u = tableDim s) (type : Nat) (body : List Byte) :
    lengthOf u type body = lengthOf s type body := by
  unfold lengthOf
  simp only [deltaBytes_same h]

/-- Whether a message is rejected rests on the endpoint table and the feature tables, which a received frame does not
change (R336). -/
theorem rejectReason_same {s u : State} {x z : Session} (h : RegsBut [regAddr .mac 0x48] s u) (he : z.endpoint = x.endpoint)
    (hf : z.firstMsgq = x.firstMsgq) (q : Nat) (m : List Byte) : rejectReason u z q m = rejectReason s x q m := by
  have hdim : tableDim u = tableDim s := by
    funext t
    unfold tableDim
    rw [fld_of_regsBut h]
    simp only [regAddr, blkBase, List.mem_singleton]
    omega
  have hword := endpointWord_of_regsBut h (by decide)
  have hdev : epDevice u z.endpoint = epDevice s x.endpoint := by rw [epDevice, epDevice, hword, he]
  have hpriv : epPriv u z.endpoint = epPriv s x.endpoint := by rw [epPriv, epPriv, hword, he]
  have htype (d : Bool) (k : Nat) : typePermitted z d q k = typePermitted x d q k := by
    unfold typePermitted
    rw [hf]
  simp only [rejectReason, hdev, hpriv, htype, lengthOf_same hdim]

/-! ### Messages cut from a stream -/

/-- A stream that holds no whole message yet: less than a header, or less than the length that its header gives (R330). -/
def AwaitsMore (m : List Byte) : Prop :=
  m.length < 16 ∨ (16 ≤ fieldLE m 4 4 ∧ fieldLE m 4 4 ≤ 1049600 ∧ m.length < fieldLE m 4 4)

theorem frameStream_waits {s : State} {n q : Nat} {z : Session} {w : QueueSt} (hz : sessAt s n = some z)
    (hw : tget z.queues q = some w) (h : AwaitsMore w.rxStream) (stamp fuel : Nat) : frameStream s n q stamp fuel = s := by
  cases fuel with
  | zero => rfl
  | succ fuel =>
    unfold frameStream
    simp only [hz, hw]
    rcases h with hshort | ⟨hmin, hmax, hmore⟩
    · exact if_pos hshort
    · by_cases hshort : w.rxStream.length < 16
      · exact if_pos hshort
      · rw [if_neg hshort, if_neg (by omega), if_pos hmore]

/-- The state with a message delivered (R330). -/
def withDelivered (s : State) (n q stamp : Nat) (m : List Byte) : State :=
  { s with port := { s.port with delivered := s.port.delivered ++
      [{ session := n, queue := q, type := fieldLE m 0 2, tag := fieldLE m 8 8, stamp := stamp }] } }

/-- A stream that is one whole message is delivered, and nothing of it stays (R330). -/
theorem frameStream_delivers {s : State} {n q : Nat} {z : Session} {w : QueueSt} (hz : sessAt s n = some z)
    (hw : tget z.queues q = some w) (hmin : 16 ≤ w.rxStream.length) (hmax : w.rxStream.length ≤ 1049600)
    (hlen : fieldLE w.rxStream 4 4 = w.rxStream.length) (hok : rejectReason s z q w.rxStream = none) (stamp : Nat) :
    frameStream s n q stamp (w.rxStream.length / 16) =
      withDelivered (setSess s n (withQueue z q { w with rxStream := [] })) n q stamp w.rxStream := by
  obtain ⟨fuel, hfuel⟩ : ∃ fuel, w.rxStream.length / 16 = fuel + 1 := ⟨w.rxStream.length / 16 - 1, by omega⟩
  let u := setSess s n (withQueue z q { w with rxStream := [] })
  have hzu : sessAt u n = some (withQueue z q { w with rxStream := [] }) := sessAt_setSess_same s n _
  have hoku : rejectReason u (withQueue z q { w with rxStream := [] }) q w.rxStream = none := by
    rw [rejectReason_same (s := s) (u := u) (x := z) (z := withQueue z q _) (fun _ _ => rfl) rfl rfl]
    exact hok
  have hdeliver : deliver u n q stamp w.rxStream = withDelivered u n q stamp w.rxStream := by
    unfold deliver
    simp only [hzu, hoku]
    rfl
  have hrest := frameStream_waits (s := withDelivered u n q stamp w.rxStream) hzu (tget_tset_same _ q _) (.inl (by simp)) stamp fuel
  rw [hfuel, frameStream]
  simp only [hz, hw]
  rw [if_neg (by omega), if_neg (by omega), if_neg (by omega), hlen, List.take_length, List.drop_length]
  show frameStream (deliver u n q stamp w.rxStream) n q stamp fuel = _
  rw [hdeliver, hrest]

/-! ### Queues written twice -/

theorem tset_tset_same {α : Type} (t : Table α) (k : Nat) (v w : α) : tset (tset t k v) k w = tset t k w := by
  induction t with
  | nil => simp [tset]
  | cons e t ih =>
    obtain ⟨j, u⟩ := e
    rcases Nat.lt_trichotomy k j with hlt | rfl | hgt
    · simp [tset, hlt]
    · simp [tset]
    · have hne : k ≠ j := by omega
      have hnlt : ¬ k < j := by omega
      simp [tset, hne, hnlt, ih]

theorem withQueue_withQueue (x : Session) (q : Nat) (y w : QueueSt) : withQueue (withQueue x q y) q w = withQueue x q w := by
  unfold withQueue
  simp only [tset_tset_same]

/-! ### DATA -/

/-- A queue that the packet next in sequence has joined (R330). -/
def inStream (y : QueueSt) (data : List Byte) : QueueSt :=
  { y with rxStream := y.rxStream ++ data, rxNext := y.rxNext + 1, rxSinceAck := y.rxSinceAck + 1 }

/-- The packet next in sequence, none held and no acknowledgement due, joins the stream (R330, R331). -/
theorem takeData_joins {s : State} {n : Nat} {p : PacketIn} {x : Session} {y : QueueSt} (hseq : seqAhead p.seq y.rxNext = 0)
    (hcredit : y.rxNext < y.rxLimit) (hheld : y.rxHeld = []) (hack : y.rxSinceAck < 15) :
    takeData s n p x y = frameStream (setSess s n (withQueue x p.queue (inStream y p.data))) n p.queue p.stamp
      ((inStream y p.data).rxStream.length / 16) := by
  unfold takeData
  simp only [hseq, hheld, List.length_nil, drainHeld, Nat.add_zero, ne_eq, not_true_eq_false, if_false, false_or]
  rw [if_neg (by decide), if_neg (by omega), if_neg (by omega)]
  simp only [inStream, withQueue, hheld]

/-- A queue that holds a packet ahead of its sequence; one held already stays (R330). -/
def holding (y : QueueSt) (i : Nat) (data : List Byte) : QueueSt :=
  { y with rxHeld := if (tget y.rxHeld i).isSome then y.rxHeld else tset y.rxHeld i data }

theorem holding_at (y : QueueSt) (i : Nat) (data : List Byte) :
    tget (holding y i data).rxHeld i = some ((tget y.rxHeld i).getD data) := by
  unfold holding
  dsimp only
  cases h : tget y.rxHeld i with
  | none => simp
  | some d => simp [h]

theorem takeData_holds {s : State} {n : Nat} {p : PacketIn} {x : Session} {y : QueueSt} (hpos : 0 < seqAhead p.seq y.rxNext)
    (hlt : seqAhead p.seq y.rxNext < 2 ^ 31) (hcredit : y.rxNext + seqAhead p.seq y.rxNext < y.rxLimit) :
    takeData s n p x y = sendAck (setSess s n (withQueue x p.queue (holding y (y.rxNext + seqAhead p.seq y.rxNext) p.data)))
      n p.queue := by
  have hqueue : (if (tget y.rxHeld (y.rxNext + seqAhead p.seq y.rxNext)).isSome = true then y
      else { y with rxHeld := tset y.rxHeld (y.rxNext + seqAhead p.seq y.rxNext) p.data }) =
      holding y (y.rxNext + seqAhead p.seq y.rxNext) p.data := by
    unfold holding
    split <;> rfl
  unfold takeData
  dsimp only
  rw [if_neg (by omega), if_neg (by omega), if_pos (by omega), hqueue]
  rfl

theorem takeData_beyond {s : State} {n : Nat} {p : PacketIn} {x : Session} {y : QueueSt}
    (hlt : seqAhead p.seq y.rxNext < 2 ^ 31) (hcredit : y.rxLimit ≤ y.rxNext + seqAhead p.seq y.rxNext) :
    takeData s n p x y = setFlag s .tytos 0x08 2 := by
  unfold takeData
  dsimp only
  rw [if_neg (by omega), if_pos hcredit]

theorem data_takes {s : State} {p : PacketIn} {n : Nat} {x : Session} {y : QueueSt} (h : TakenPacket s p 0 n x y) :
    Does (.data p) s (checkExhausted (takeData (packetTaken s n x) n p x y) n) := takenPacket_acts h _ _

theorem data_completes (s : State) {p : PacketIn} (h : p.kind = 0) : Completes (.data p) s := receivePacket_completes _ s h

/-- A queue whose numbers moved on by one at most leaves its session going on. -/
theorem goesOn {s : State} {n q : Nat} {x : Session} {y w : QueueSt} (hun : Unexhausted x) (hy : tget x.queues q = some y)
    (hnow : sessAt s n = some (withQueue x q w)) (hrx : w.rxNext ≤ y.rxNext + 1) (htx : w.txNext ≤ y.txNext) :
    checkExhausted s n = s := checkExhausted_stays hnow (withQueue_unexhausted hun hy rfl rfl hrx htx)

section
variable {s : State} {p : PacketIn} {n : Nat} {x : Session} {y : QueueSt}

/-- What DATA next in sequence leaves while its message is not whole. -/
theorem data_joins (h : TakenPacket s p 0 n x y) (hun : Unexhausted x) (hseq : seqAhead p.seq y.rxNext = 0)
    (hcredit : y.rxNext < y.rxLimit) (hheld : y.rxHeld = []) (hack : y.rxSinceAck < 15)
    (hmore : AwaitsMore (y.rxStream ++ p.data)) :
    Does (.data p) s (setSess (packetTaken s n x) n (withQueue x p.queue (inStream y p.data))) := by
  have ⟨_, _, _, _, _, _, _, _, _, hy, _⟩ := h
  have htake := data_takes h
  let u := setSess (packetTaken s n x) n (withQueue x p.queue (inStream y p.data))
  have hsess : sessAt u n = some (withQueue x p.queue (inStream y p.data)) := sessAt_setSess_same _ n _
  rwa [takeData_joins hseq hcredit hheld hack, frameStream_waits hsess (tget_tset_same _ _ _) hmore,
    goesOn hun hy hsess le_rfl le_rfl] at htake

/-- What DATA leaves that completes its message. -/
theorem data_delivers (h : TakenPacket s p 0 n x y) (hun : Unexhausted x) (hseq : seqAhead p.seq y.rxNext = 0)
    (hcredit : y.rxNext < y.rxLimit) (hheld : y.rxHeld = []) (hack : y.rxSinceAck < 15)
    (hmin : 16 ≤ (y.rxStream ++ p.data).length) (hmax : (y.rxStream ++ p.data).length ≤ 1049600)
    (hlen : fieldLE (y.rxStream ++ p.data) 4 4 = (y.rxStream ++ p.data).length)
    (hok : rejectReason s x p.queue (y.rxStream ++ p.data) = none) :
    ∃ t, Does (.data p) s t ∧ Counted s t .mac 0x48 1 ∧ RegsBut [regAddr .mac 0x48] s t ∧
      QueueNow s t n p.queue x { y with rxStream := [], rxNext := y.rxNext + 1, rxSinceAck := y.rxSinceAck + 1 } ∧
      t = { s with regs := t.regs, port := { s.port with
              sessions := t.port.sessions,
              delivered := s.port.delivered ++ [{ session := n, queue := p.queue, type := fieldLE (y.rxStream ++ p.data) 0 2,
                                                  tag := fieldLE (y.rxStream ++ p.data) 8 8, stamp := p.stamp }] } } := by
  have ⟨_, _, _, _, _, _, _, _, _, hy, _⟩ := h
  obtain ⟨hcount, hregs, hnow, -⟩ := packetTaken_facts s n x
  have htake := data_takes h
  let z := withQueue x p.queue (inStream y p.data)
  let u := setSess (packetTaken s n x) n z
  let w : QueueSt := { inStream y p.data with rxStream := [] }
  let v := withDelivered (setSess u n (withQueue z p.queue w)) n p.queue p.stamp (y.rxStream ++ p.data)
  have hsess : sessAt u n = some z := sessAt_setSess_same _ n _
  have hframe := frameStream_delivers hsess (tget_tset_same _ _ _) hmin hmax hlen
    ((rejectReason_same (z := z) (u := u) hregs rfl rfl p.queue _).trans hok) p.stamp
  have hw : SessionNow s v n (withQueue x p.queue w) := by
    have hset := sessionNow_trans (sessionNow_trans hnow (sessionNow_setSess _ n z))
      (sessionNow_setSess u n (withQueue z p.queue w))
    rw [withQueue_withQueue] at hset
    exact sessionNow_stays hset (by rw [← withQueue_withQueue x p.queue (inStream y p.data) w]; rfl)
  have hvn : sessAt v n = some (withQueue x p.queue w) := hw.1
  rw [takeData_joins hseq hcredit hheld hack, show frameStream u n p.queue p.stamp _ = v from hframe,
    goesOn hun hy hvn le_rfl le_rfl] at htake
  exact ⟨v, htake, hcount, hregs, queueNow_of_sessionNow hw, rfl⟩

/-- What DATA ahead of its sequence and within the credit leaves. -/
theorem data_held (h : TakenPacket s p 0 n x y) (hun : Unexhausted x) (hpos : 0 < seqAhead p.seq y.rxNext)
    (hlt : seqAhead p.seq y.rxNext < 2 ^ 31) (hcredit : y.rxNext + seqAhead p.seq y.rxNext < y.rxLimit) :
    ∃ t z body, Does (.data p) s t ∧ QueueNow s t n p.queue x z ∧
      tget z.rxHeld (y.rxNext + seqAhead p.seq y.rxNext) =
        some ((tget y.rxHeld (y.rxNext + seqAhead p.seq y.rxNext)).getD p.data) ∧
      z = { y with rxHeld := z.rxHeld, rxLimit := z.rxLimit, rxSinceAck := 0, ackSerial := y.ackSerial + 1 } ∧
      t.out = s.out ++ [packetOut s x.endpoint (wireSession n) p.queue 1 (y.ackSerial % 2 ^ 32) x.keys body] ∧
      HandedBut [regAddr .mac 0x48] s t := by
  have ⟨hc, _, _, _, _, _, _, _, _, hy, _⟩ := h
  obtain ⟨-, hregs, hnow, -⟩ := packetTaken_facts s n x
  have htake := data_takes h
  let w := holding y (y.rxNext + seqAhead p.seq y.rxNext) p.data
  let u := setSess (packetTaken s n x) n (withQueue x p.queue w)
  have huregs : RegsBut [regAddr .mac 0x48] s u := hregs
  have hcu : carries u = true := (carries_of_regsBut huregs (by decide) rfl).trans hc
  obtain ⟨-, hhanded, hout, hack⟩ := sendAck_facts hcu (sessAt_setSess_same _ n _) (tget_tset_same _ p.queue w)
  rw [withQueue_withQueue] at hack
  have hv := sessionNow_trans (sessionNow_trans hnow (sessionNow_setSess _ n (withQueue x p.queue w))) hack
  rw [takeData_holds hpos hlt hcredit, goesOn hun hy hv.1 (Nat.le_succ _) le_rfl] at htake
  refine ⟨_, acknowledged p.queue w, ackBytes u p.queue (withQueue x p.queue w) w, htake, queueNow_of_sessionNow hv,
    holding_at y _ p.data, rfl, ?_, ?_⟩
  · rw [hout, ackPacket, packetOut_same (huregs.mono (by simp [frameCounts])) rfl]
    rfl
  · exact HandedBut.trans (t := u) ⟨⟨[], (List.append_nil _).symm⟩, huregs.mono (by simp), rfl⟩ (hhanded.handedBut _)

/-- What DATA beyond the credit leaves. -/
theorem data_beyond (h : TakenPacket s p 0 n x y) (hun : Unexhausted x) (hlt : seqAhead p.seq y.rxNext < 2 ^ 31)
    (hcredit : y.rxLimit ≤ y.rxNext + seqAhead p.seq y.rxNext) :
    ∃ t, Does (.data p) s t ∧ FlagUp t .tytos 0x08 2 ∧ QueueNow s t n p.queue x y ∧
      RegsBut [regAddr .mac 0x48, regAddr .tytos 0x08] s t ∧
      t = { s with regs := t.regs, port := { s.port with sessions := t.port.sessions } } := by
  have ⟨_, _, _, _, _, _, _, _, _, hy, _⟩ := h
  obtain ⟨-, hregs, hnow, -⟩ := packetTaken_facts s n x
  have htake := data_takes h
  have hflag := regsBut_setFlag (packetTaken s n x) .tytos 0x08 2
  have hv : SessionNow s (setFlag (packetTaken s n x) .tytos 0x08 2) n x := sessionNow_stays hnow rfl
  rw [takeData_beyond hlt hcredit, checkExhausted_stays hv.1 fun hk q hq => by have := hun hk q hq; omega] at htake
  exact ⟨_, htake, flagUp_setFlag _ .tytos 0x08 2 (by decide), ⟨x, hv, rfl, hy, fun _ _ => rfl⟩,
    (hregs.mono (by simp)).trans (hflag.mono (by simp)), rfl⟩

end

/-- What DATA with a bad check code leaves (R333). -/
theorem data_badCheck {s : State} {p : PacketIn} (hc : carries s = true) (hs : s.sec.scrub = none) (hk : p.kind = 0)
    (hce : p.ce = false) (he : epValid s p.endpoint = true) (hcrc : p.crcOk = false) :
    ∃ t, Does (.data p) s t ∧ Counted s t .tytos 0x48 1 ∧ FlagUp t .tytos 0x08 5 ∧ Counted s t .mac 0x48 1 ∧
      RegsBut [regAddr .mac 0x48, regAddr .tytos 0x48, regAddr .tytos 0x08] s t ∧ t = { s with regs := t.regs } := by
  have hframe := regsBut_bump s .mac 0x48 1
  have hcount := regsBut_bump (bump s .mac 0x48 1) .tytos 0x48 1
  have hflag := regsBut_setFlag (bump (bump s .mac 0x48 1) .tytos 0x48 1) .tytos 0x08 5
  refine ⟨setFlag (bump (bump s .mac 0x48 1) .tytos 0x48 1) .tytos 0x08 5, ?_, ?_, flagUp_setFlag _ .tytos 0x08 5 (by decide),
    ?_, ?_, rfl⟩
  · show execData p s = _
    unfold execData receivePacket
    rw [if_neg (by simp [hc]), if_neg (by simp [hk]), if_neg (by simp [scrubbing, hs])]
    simp only [hce, Bool.false_eq_true, if_false, epValid_bump, he, hcrc, if_true, Bool.true_eq_false]
  · exact ((counted_bump _ .tytos 0x48 1).since hframe (by decide)).regsBut hflag (by decide)
  · exact ((counted_bump s .mac 0x48 1).regsBut hcount (by decide)).regsBut hflag (by decide)
  · exact (hframe.mono (by simp)).trans ((hcount.mono (by simp)).trans (hflag.mono (by simp)))

/-- Settles O39: a packet that its session takes is in sequence, held or beyond the credit, and each leaves one queue of one
session changed, whose numbers are not at their end. -/
theorem dataArrives : Obligations.DataArrives := by
  unfold Obligations.DataArrives
  refine ⟨fun s p => data_completes s, ?_, fun s p n x y h hun hpos hlt => ⟨data_held h hun hpos hlt, data_beyond h hun hlt⟩,
    fun s p => data_badCheck⟩
  intro s p n x y h hun hseq hcredit hheld hack
  dsimp only
  refine ⟨fun hmore => ?_, data_delivers h hun hseq hcredit hheld hack⟩
  obtain ⟨hcount, hregs, hnow, -⟩ := packetTaken_facts s n x
  exact ⟨_, data_joins h hun hseq hcredit hheld hack hmore, hcount, hregs,
    queueNow_of_sessionNow (sessionNow_trans hnow (sessionNow_setSess _ n _)), rfl⟩

end Sys2Proof.Machine
end

section
namespace Sys2Proof.Machine

/-! ### The ends of orphaning and of a context's scrub -/

theorem orphanTimeout_ages {s : State} {c : Nat} {k : Ctx} (hc : c < 16) (hk : ctxAt s c = some k) (hs : k.state = .opened)
    (ho : k.owner = none) :
    ∃ t, Does (.orphanTimeout c) s t ∧ ctxAt t c = some { k with aged := true } ∧
      (∀ d, d ≠ c → ctxAt t d = ctxAt s d) ∧ t = { s with sec := { s.sec with ctxs := t.sec.ctxs } } := by
  refine ⟨setCtx s c { k with aged := true }, ?_, ctxAt_setCtx_same s c _, fun d hd => ctxAt_setCtx_ne s c d _ hd, rfl⟩
  show execOrphanTimeout c s = _
  unfold execOrphanTimeout
  rw [if_neg (by omega)]
  simp only [hk]
  exact if_pos ⟨hs, ho⟩

/-- The far space of a scrubbed context reads as zeros, and every other byte stays (R358). -/
theorem memByte_zeroSpace (s : State) (c a : Nat) :
    memByte (zeroSpace s c).tier.t1 a = if a / 2 ^ 64 = c then 0 else memByte s.tier.t1 a := by
  have hget := tget_filter_key s.tier.t1 (fun i => decide (i / 2 ^ 64 ≠ c)) a
  have hbyte : memByte (zeroSpace s c).tier.t1 a = (if decide (a / 2 ^ 64 ≠ c) then tget s.tier.t1 a else none).getD 0 :=
    congrArg (Option.getD · 0) hget
  rw [hbyte]
  by_cases hac : a / 2 ^ 64 = c
  · rw [if_neg (by rw [decide_eq_true_eq]; exact not_not.mpr hac), if_pos hac]
    rfl
  · rw [if_pos (decide_eq_true hac), if_neg hac]
    rfl

theorem contextScrubComplete_closes {s : State} {c : Nat} {k : Ctx} (hc : c < 16) (hk : ctxAt s c = some k)
    (hs : k.state = .slate) (hl : k.left = 0) :
    ∃ t, Does (.contextScrubComplete c) s t ∧ ctxAt t c = none ∧ (∀ d, d ≠ c → ctxAt t d = ctxAt s d) ∧
      (∀ a, (a / 2 ^ 64 = c → memByte t.tier.t1 a = 0) ∧ (a / 2 ^ 64 ≠ c → memByte t.tier.t1 a = memByte s.tier.t1 a)) ∧
      FlagUp t .ctx 0x00 3 ∧ Counted s t .ctx 0x08 1 ∧ RegsBut [regAddr .ctx 0x00, regAddr .ctx 0x08] s t ∧
      t = { s with regs := t.regs, sec := { s.sec with ctxs := t.sec.ctxs }, tier := { s.tier with t1 := t.tier.t1 } } := by
  let u := zeroSpace { s with sec := { s.sec with ctxs := tdel s.sec.ctxs c } } c
  have hflag := regsBut_setFlag u .ctx 0x00 3
  have hcount := regsBut_bump (setFlag u .ctx 0x00 3) .ctx 0x08 1
  have hbyte (a : Nat) := memByte_zeroSpace { s with sec := { s.sec with ctxs := tdel s.sec.ctxs c } } c a
  refine ⟨closeCtx s c, ?_, tget_tdel_same _ _, fun d hd => tget_tdel_ne _ _ _ hd,
    fun a => ⟨fun ha => (hbyte a).trans (if_pos ha), fun ha => (hbyte a).trans (if_neg ha)⟩,
    (flagUp_setFlag u .ctx 0x00 3 (by decide)).regsBut hcount (by decide),
    (counted_bump (setFlag u .ctx 0x00 3) .ctx 0x08 1).since hflag (by decide),
    RegsBut.trans (t := setFlag u .ctx 0x00 3) (hflag.mono (by simp)) (hcount.mono (by simp)), rfl⟩
  show execContextScrubComplete c s = _
  unfold execContextScrubComplete
  rw [if_neg (by omega)]
  simp only [hk]
  exact if_pos ⟨hs, hl⟩

theorem orphanTimeout_completes (s : State) {c : Nat} (hc : c < 16) : Completes (.orphanTimeout c) s := by
  show ∃ t, execOrphanTimeout c s = .next t
  unfold execOrphanTimeout
  rw [if_neg (by omega)]
  repeat' split
  all_goals exact ⟨_, rfl⟩

theorem contextScrubComplete_completes (s : State) {c : Nat} (hc : c < 16) : Completes (.contextScrubComplete c) s := by
  show ∃ t, execContextScrubComplete c s = .next t
  unfold execContextScrubComplete
  rw [if_neg (by omega)]
  repeat' split
  all_goals exact ⟨_, rfl⟩

theorem wholeDeviceScrubComplete_completes (s : State) : Completes .wholeDeviceScrubComplete s := by
  show ∃ t, execWholeDeviceScrubComplete s = .next t
  unfold execWholeDeviceScrubComplete
  split
  all_goals exact ⟨_, rfl⟩

/-! ### The test passes of a whole-device scrub -/

/-- What the spare switch-ins and the return of tiles leave: the device state, the media, the mask ROM and the links. -/
def untested (s : State) : DevState × Flash × Rom × Table Link := (s.dev, s.flash, s.rom, s.lantern.links)

@[simp] theorem untested_setReg (s : State) (b : Blk) (off : Nat) (v : Word) : untested (setReg s b off v) = untested s := by simp [untested]
@[simp] theorem untested_setFld (s : State) (b : Blk) (off lo n v : Nat) : untested (setFld s b off lo n v) = untested s := by simp [untested]
@[simp] theorem untested_setFlag (s : State) (b : Blk) (off i : Nat) : untested (setFlag s b off i) = untested s := by simp [untested]
@[simp] theorem untested_bump (s : State) (b : Blk) (off n : Nat) : untested (bump s b off n) = untested s := by simp [untested]
@[simp] theorem untested_setEnable (s : State) (b : Blk) (on : Bool) : untested (setEnable s b on) = untested s := by simp [untested]
@[simp] theorem untested_setTile (s : State) (t : Nat) (x : Tile) : untested (setTile s t x) = untested s := by simp [untested]

theorem LoggedBut.untested {l : List Nat} {s t : State} (h : LoggedBut l s t) : Machine.untested t = Machine.untested s := by
  obtain ⟨-, -, ht⟩ := h
  rw [ht]
  rfl

@[simp] theorem untested_logService (s : State) (unit detail : Nat) : untested (logService s unit detail) = untested s :=
  LoggedBut.untested (loggedBut_of_class s 0 3 0xFF unit 0xFFFF detail (cls := 3) (by decide))

@[simp] theorem untested_logRepair (s : State) (t detail : Nat) : untested (logEntry s 5 0 3 0xFF t 0xFFFF detail) = untested s :=
  LoggedBut.untested (loggedBut_of_class s 0 3 0xFF t 0xFFFF detail (cls := 5) (by decide))

@[simp] theorem untested_markPe (s : State) (t : Nat) (pe : Nat × Nat) : untested (markPe s t pe) = untested s := by
  unfold markPe
  dsimp only
  split_ifs <;> simp

@[simp] theorem untested_switchIn (pes : List (Nat × Nat × Nat)) (s : State) (t : Nat) :
    untested (switchIn pes s t) = untested s := by
  have hmark (l : List (Nat × Nat)) (u : State) : untested (l.foldl (fun s pe => markPe s t pe) u) = untested u :=
    foldl_keeps untested _ (fun u pe => untested_markPe u t pe) l u
  unfold switchIn
  dsimp only
  split
  · simp [hmark]
  · simp [hmark]

@[simp] theorem untested_tileOut (s : State) (t : Nat) : untested (tileOut s t) = untested s := by
  unfold tileOut
  dsimp only
  split
  · rw [untested_logService]
    rfl
  · rfl

@[simp] theorem untested_switchServing (pes : List (Nat × Nat × Nat)) (s : State) (t : Nat) :
    untested (switchServing pes s t) = untested s := by
  unfold switchServing
  dsimp only
  split
  · simp
  · simp

theorem untested_returnTile (pes : List (Nat × Nat × Nat)) (fails netFails : List Nat) (s : State) (t : Nat) :
    untested (returnTile pes fails netFails s t) = untested s := by
  have hnet : untested (if netFails.contains t then setFlag (bump (switchIn pes s t) (.selnet t) 0x10 1) (.selnet t) 0x08 2
      else bump (switchIn pes s t) (.selnet t) 0x10 1) = untested s := by
    split <;> simp
  have henable (l : List Blk) (u : State) : untested (l.foldl (fun s b => setEnable s b true) u) = untested u :=
    foldl_keeps untested (fun s b => setEnable s b true) (fun u b => untested_setEnable u b true) l u
  unfold returnTile
  dsimp only
  generalize (if netFails.contains t then _ else bump (switchIn pes s t) (.selnet t) 0x10 1) = u at hnet ⊢
  split
  · exact hnet
  · simp only [untested_logService, untested_setFlag, untested_setFld, untested_setTile, henable, hnet]

theorem untested_returnTiles (pes : List (Nat × Nat × Nat)) (fails netFails : List Nat) (s : State) :
    untested (returnTiles pes fails netFails s) = untested s :=
  foldl_keeps untested _ (untested_returnTile pes fails netFails) _ { s with belfry := { s.belfry with returning := [] } }

/-- The device tested and wiped, before it goes to Sable. -/
def testedDevice (pes : List (Nat × Nat × Nat)) (fails nets : List Nat) (s : State) : State :=
  wipeDevice (returnTiles pes fails nets ((asSet (s.tiles.map (·.1) ++ pes.map (·.1))).foldl (fun s t =>
    if (tileAt s t).inService then switchServing pes s t else s) s))

theorem untested_testedDevice (pes : List (Nat × Nat × Nat)) (fails nets : List Nat) (s : State) :
    untested (testedDevice pes fails nets s) = untested s := by
  refine (untested_returnTiles pes fails nets _).trans (foldl_keeps untested _ (fun u t => ?_) _ s)
  split
  · exact untested_switchServing pes u t
  · rfl

/-! ### The device put in Sable -/

/-- What a device that goes to Sable has lost: contexts, scrub, image, staging area, far bytes, lowered supplies. -/
def lostParts (s : State) : Table Ctx × Option Nat × Option Image × Table Byte × Table Byte × Table Word :=
  (s.sec.ctxs, s.sec.scrub, s.img.image, s.img.staged, s.tier.t1, s.lowered)

/-- What it keeps: media, mask ROM, links and FRAME's control register. -/
def sableParts (s : State) : (Table Ctx × Option Nat × Option Image × Table Byte × Table Byte × Table Word) ×
    Flash × Rom × Table Link × Word :=
  (lostParts s, s.flash, s.rom, s.lantern.links, reg s .frame 0)

theorem sableParts_handed {l : List Nat} {s t : State} (h : HandedBut l s t) (hl : regAddr .frame 0 ∉ l) :
    sableParts t = sableParts s := by
  have hreg : reg t .frame 0 = reg s .frame 0 := h.2.1.reg .frame 0 (by
    rw [List.mem_cons, not_or]
    exact ⟨by decide, hl⟩)
  unfold sableParts
  rw [hreg, h.fields]
  rfl

theorem sableParts_logged {s t : State} (h : LoggedBut [] s t) : sableParts t = sableParts s := by
  obtain ⟨-, hregs, ht⟩ := h
  have hreg : reg t .frame 0 = reg s .frame 0 := hregs.reg .frame 0 (by decide)
  unfold sableParts
  rw [hreg, ht]
  rfl

/-- Entering Sable changes the state, RDY and what is told of it (R7, R344, R348). -/
theorem enterSable {s : State} (h : s.dev ≠ .sable) :
    (enterDev s .sable 2).dev = .sable ∧ (enterDev s .sable 2).pins.rdy = false ∧
    sableParts (enterDev s .sable 2) = sableParts s := by
  let u : State := { s with dev := .sable, reason := 2, pins := { s.pins with rdy := false } }
  have heq : enterDev s .sable 2 = eventAll (logService u 0x0600 0) 0x01 0 (devCode s.dev) := by
    unfold enterDev
    rw [if_neg h]
    rfl
  have hlog : LoggedBut [] u (logService u 0x0600 0) := loggedBut_of_class u 0 3 0xFF 0x0600 0xFFFF 0 (cls := 3) (by decide)
  have hhanded := handed_eventAll (logService u 0x0600 0) 0x01 0 (devCode s.dev)
  have hparts := (sableParts_handed (hhanded.handedBut []) (by simp)).trans (sableParts_logged hlog)
  have hdev := hhanded.dev
  have hpins := hhanded.pins
  obtain ⟨-, -, hfields⟩ := hlog
  rw [heq]
  refine ⟨?_, ?_, hparts⟩
  · rw [hdev, hfields]
  · rw [hpins, hfields]

theorem mgmtReply_sableParts (s : State) (link op status seq : Nat) (body : List Byte) :
    let t := mgmtReply s link op status seq body
    t.dev = s.dev ∧ t.pins = s.pins ∧ lostParts t = lostParts s ∧ t.flash = s.flash ∧ t.rom = s.rom ∧ t.regs = s.regs := by
  dsimp only
  rw [mgmtReply_keeps]
  exact ⟨rfl, rfl, rfl, rfl, rfl, rfl⟩

/-! ### The image that a whole-device scrub leaves behind -/

/-- The state in which the removal of an image enters Sable. -/
def unserved (s : State) : State :=
  let off (x : Tile) : Tile := { x with role := .off, serves := none, occupant := none, task := none, run := .idle,
                                        passes := [], streams := [], inbox := [], switch := none, spent := [], returns := [] }
  let s := { s with
    adm := { Admission.reset with level := s.adm.level },
    tiles := s.tiles.map (fun p => (p.1, off p.2)),
    img := { s.img with phase := .empty, code := 0, detail := 0, image := none, awaiting := false,
                        loaded := s.img.loaded.filter (fun p => !p.2.resident) } }
  extendHistory (freshService s) (zeros 32) 0xFF 0

/-- The submissions that wait are refused with STATE (R66). -/
def refusedAll (s : State) : State := s.adm.subs.foldl (fun s x => refuseMsg s x 0x07 0) { s with adm := { s.adm with subs := [] } }

theorem removeImage_eq (s : State) : removeImage s = logLoad (enterDev (unserved
    (gateDomains (emptyStaging (disableBlocks (refusedAll s))) (imageDomains (refusedAll s)))) .sable 2) 0 := rfl

theorem refusedAll_sableParts (s : State) : (refusedAll s).dev = s.dev ∧ sableParts (refusedAll s) = sableParts s := by
  have hone (u : State) (x : Submission) := handedBut_refuseMsg u x 0x07 0
  exact ⟨foldl_keeps State.dev _ (fun u x => by rw [(hone u x).fields]) _ { s with adm := { s.adm with subs := [] } },
    foldl_keeps sableParts _ (fun u x => sableParts_handed (hone u x) (by decide)) _ { s with adm := { s.adm with subs := [] } }⟩

/-- A device without image, frames stopped, in the state that its removal leaves. -/
structure InSable (s t : State) : Prop where
  dev : t.dev = .sable
  rdy : t.pins.rdy = false
  lost : lostParts t = (s.sec.ctxs, s.sec.scrub, none, [], s.tier.t1, [])
  flash : t.flash = s.flash
  rom : t.rom = s.rom
  links : t.lantern.links = s.lantern.links
  frames : enabled t .frame = false

/-- A device that stops, its image gone, and enters Sable. -/
theorem inSable_of_parts {s u t : State} (hdev : t.dev = .sable) (hrdy : t.pins.rdy = false)
    (hparts : sableParts t = sableParts u) (hlost : lostParts u = (s.sec.ctxs, s.sec.scrub, none, [], s.tier.t1, []))
    (hkept : (u.flash, u.rom, u.lantern.links) = (s.flash, s.rom, s.lantern.links)) (hframes : enabled u .frame = false) :
    InSable s t := by
  simp only [sableParts, Prod.mk.injEq] at hparts hkept
  obtain ⟨hl, hflash, hrom, hlinks, hreg⟩ := hparts
  obtain ⟨kflash, krom, klinks⟩ := hkept
  exact ⟨hdev, hrdy, hl.trans hlost, hflash.trans kflash, hrom.trans krom, hlinks.trans klinks, by
    rw [enabled, hreg]
    exact hframes⟩

theorem enabled_disableBlocks (s : State) : enabled (disableBlocks s) .frame = false := enabled_cleared _ .frame

theorem removeImage_inSable {s : State} (h : s.dev ≠ .sable) : InSable s (removeImage s) := by
  obtain ⟨hdev, hparts⟩ := refusedAll_sableParts s
  rw [removeImage_eq]
  generalize refusedAll s = u at *
  let v := gateDomains (emptyStaging (disableBlocks u)) (imageDomains u)
  obtain ⟨hsable, hrdy, hentered⟩ := enterSable (s := unserved v) (by
    show u.dev ≠ .sable
    rwa [hdev])
  have hlog := loggedBut_logLoad (enterDev (unserved v) .sable 2) 0
  have hlogged := sableParts_logged hlog
  obtain ⟨-, -, hfields⟩ := hlog
  simp only [sableParts, lostParts, Prod.mk.injEq] at hparts
  obtain ⟨⟨hctxs, hscrub, -, -, ht1, -⟩, hflash, hrom, hlinks, -⟩ := hparts
  refine inSable_of_parts (u := unserved v) ?_ ?_ (hlogged.trans hentered) ?_ ?_ ?_
  · rw [hfields]
    exact hsable
  · rw [hfields]
    exact hrdy
  · show (u.sec.ctxs, u.sec.scrub, none, [], u.tier.t1, []) = _
    rw [hctxs, hscrub, ht1]
  · simp [unserved, extendHistory, freshService, v, gateDomains, emptyStaging, disableBlocks, clearImageRegs, stopFrames,
      hflash, hrom, hlinks]
  · rw [enabled, reg_of_regs (show (unserved v).regs = (disableBlocks u).regs from rfl)]
    exact enabled_disableBlocks u

/-- A device without an image that goes to Sable after a scrub (R361, R412). -/
def leftEmpty (s : State) : State :=
  let s := disableBlocks (emptyStaging s)
  enterDev { s with img := { s.img with phase := .empty, loaded := s.img.loaded.filter (fun p => !p.2.resident) } } .sable 2

theorem leftEmpty_inSable {s : State} (h : s.dev ≠ .sable) (hi : s.img.image = none) : InSable s (leftEmpty s) := by
  let u : State := { disableBlocks (emptyStaging s) with img := { (emptyStaging s).img with
    phase := .empty, loaded := s.img.loaded.filter (fun p => !p.2.resident) } }
  obtain ⟨hsable, hrdy, hentered⟩ := enterSable (s := u) h
  refine inSable_of_parts (u := u) hsable hrdy hentered ?_ rfl ?_
  · show (s.sec.ctxs, s.sec.scrub, s.img.image, [], s.tier.t1, []) = _
    rw [hi]
  · exact enabled_disableBlocks (emptyStaging s)

/-- The device put in Sable, with the image that it served, or without one. -/
def putInSable (s : State) : State := if s.img.image.isSome then removeImage s else leftEmpty s

theorem putInSable_inSable {s : State} (h : s.dev ≠ .sable) : InSable s (putInSable s) := by
  unfold putInSable
  split
  · exact removeImage_inSable h
  · rename_i hi
    exact leftEmpty_inSable h (by simpa using hi)

/-- The answer to the SCRUB request, if one waits (R361, R412). -/
def scrubAnswered (s : State) (asked : Option (Nat × Nat)) : State :=
  match asked with
  | some (link, seq) => mgmtReply s link 0x22 0 seq []
  | none => s

theorem finishScrub_eq (pes : List (Nat × Nat × Nat)) (fails nets : List Nat) (s : State) :
    finishScrub pes fails nets s = scrubAnswered (setFlag (putInSable (testedDevice pes fails nets s)) .ctx 0x00 4) s.sec.scrubReply := rfl

theorem scrubAnswered_parts (s : State) (asked : Option (Nat × Nat)) :
    let t := scrubAnswered s asked
    t.dev = s.dev ∧ t.pins = s.pins ∧ lostParts t = lostParts s ∧ t.flash = s.flash ∧ t.rom = s.rom ∧ t.regs = s.regs := by
  cases asked with
  | none => exact ⟨rfl, rfl, rfl, rfl, rfl, rfl⟩
  | some a => exact mgmtReply_sableParts s a.1 0x22 0 a.2 []

/-- What the end of a whole-device scrub leaves (R361). -/
theorem finishScrub_leaves (pes : List (Nat × Nat × Nat)) (fails nets : List Nat) {s : State} (h : s.dev = .slate) :
    let t := finishScrub pes fails nets s
    t.dev = .sable ∧ t.pins.rdy = false ∧ t.sec.ctxs = [] ∧
      t.sec.scrub = none ∧ t.img.image = none ∧ t.img.staged = [] ∧ t.tier.t1 = [] ∧ t.lowered = [] ∧
      FlagUp t .ctx 0x00 4 ∧ t.flash = s.flash ∧ t.rom = s.rom ∧ enabled t .frame = false ∧
      (∀ link seq l, s.sec.scrubReply = some (link, seq) → tget s.lantern.links link = some l →
        Out.mgmt link 0x22 0 seq [] ∈ t.out) := by
  dsimp only
  rw [finishScrub_eq]
  have htested := untested_testedDevice pes fails nets s
  have hctxs : (testedDevice pes fails nets s).sec.ctxs = [] := rfl
  have hscrub : (testedDevice pes fails nets s).sec.scrub = none := rfl
  have ht1 : (testedDevice pes fails nets s).tier.t1 = [] := rfl
  generalize testedDevice pes fails nets s = u at *
  simp only [untested, Prod.mk.injEq] at htested
  obtain ⟨hdev, hflash, hrom, hlinks⟩ := htested
  have hsable := putInSable_inSable (s := u) (by rw [hdev, h]; decide)
  generalize putInSable u = v at *
  obtain ⟨kdev, krdy, klost, kflash, krom, klinks, kframes⟩ := hsable
  obtain ⟨adev, apins, alost, aflash, arom, aregs⟩ := scrubAnswered_parts (setFlag v .ctx 0x00 4) s.sec.scrubReply
  have hlost : lostParts (scrubAnswered (setFlag v .ctx 0x00 4) s.sec.scrubReply) = ([], none, none, [], [], []) := by
    rw [alost, show lostParts (setFlag v .ctx 0x00 4) = lostParts v from rfl, klost, hctxs, hscrub, ht1]
  simp only [lostParts, Prod.mk.injEq] at hlost
  obtain ⟨lctxs, lscrub, limage, lstaged, lt1, llowered⟩ := hlost
  have hframe : reg (setFlag v .ctx 0x00 4) .frame 0 = reg v .frame 0 := (regsBut_setFlag v .ctx 0x00 4).reg _ _ (by decide)
  refine ⟨adev.trans kdev, (congrArg Pins.rdy apins).trans krdy, lctxs, lscrub, limage, lstaged, lt1, llowered,
    (flagUp_setFlag v .ctx 0x00 4 (by decide)).of_regs aregs, aflash.trans (kflash.trans hflash),
    arom.trans (krom.trans hrom), ?_, fun link seq l hasked hl => ?_⟩
  · rw [enabled, reg_of_regs aregs, hframe]
    exact kframes
  · have hopen : tget (setFlag v .ctx 0x00 4).lantern.links link = some l := by
      show tget v.lantern.links link = some l
      rw [klinks, hlinks, hl]
    rw [hasked]
    simp only [scrubAnswered, mgmtReply, hopen]
    exact List.mem_append_right _ (List.mem_singleton_self _)

/-- Settles O44: a context's scrub filters its bytes out of the Keeps, and the whole-device scrub is its test passes, which
touch neither media nor links, the wipe, and the entry of Sable. -/
theorem scrubsEnd : Obligations.ScrubsEnd := by
  unfold Obligations.ScrubsEnd
  refine ⟨fun s c => ⟨fun hc => ⟨orphanTimeout_completes s hc, contextScrubComplete_completes s hc⟩,
    wholeDeviceScrubComplete_completes s⟩, fun s c k => orphanTimeout_ages, fun s c k => contextScrubComplete_closes, ?_⟩
  intro s hdev hscrub
  have hleaves := finishScrub_leaves
    ((Config.scrubPes s.fresh).filter (fun p => decide (p.1 < 640) && decide (p.2.1 < 132) && decide (p.2.2 < 132)))
    (Config.scrubFails s.fresh) (Config.scrubNets s.fresh) (s := { s with fresh := s.fresh + 1 }) hdev
  refine ⟨_, ?_, hleaves⟩
  show execWholeDeviceScrubComplete s = _
  unfold execWholeDeviceScrubComplete
  rw [if_neg (by simp [hdev, Option.isSome_iff_ne_none.mp hscrub])]

end Sys2Proof.Machine
end

section
namespace Sys2Proof.Machine

/-! ### The boot ROM -/

/-- The checks of a slot rest on the root key's hash and the anti-rollback counter (R373, R374). -/
theorem bundleCheck_same {s u : State} (hrom : u.rom = s.rom) (hc : u.nv.counter = s.nv.counter) :
    bundleCheck u = bundleCheck s := by
  funext f len
  simp only [bundleCheck, hrom, hc]

/-- The boot flags as the ROM takes them change the choice of slot and the trial, and nothing else (R374). -/
theorem takeFlags_fields (s : State) :
    let u := (takeFlags s).1
    u = { s with nv := { s.nv with activeB := u.nv.activeB, trial := u.nv.trial, trialBooted := u.nv.trialBooted } } := by
  dsimp only
  unfold takeFlags
  split
  · rfl
  · split <;> rfl

/-- What the ROM leaves that runs a slot that passed (R373, R374, R415). -/
structure Booted (s t : State) (identityOk : Bool) : Prop where
  rom : t.rom = s.rom
  counter : t.nv.counter = s.nv.counter
  dev : t.dev = s.dev
  out : t.out = s.out
  pins : t.pins = s.pins
  slot : bundleCheck s (fwSlot s t.sec.boot.slotB) none = 0
  active : t.nv.activeB = t.sec.boot.slotB
  running : t.lantern.running = true
  boots : t.nv.boots = s.nv.boots + 1
  identity : t.sec.boot.identityOk = identityOk

theorem setFwSlot_fields (s : State) (b : Bool) (f : FwSlot) :
    setFwSlot s b f = { s with nv := { s.nv with slotA := (setFwSlot s b f).nv.slotA, slotB := (setFwSlot s b f).nv.slotB } } := by
  unfold setFwSlot
  cases b <;> rfl

/-- Lantern started: the start counted and the boot recorded, before the other slot is looked at (R373, R415). -/
def lanternUp (s : State) (fellBack trial identityOk : Bool) : State :=
  let at_ (o : Nat) : Nat := leNat (memRead (fwSlot s s.nv.activeB).bytes o 4)
  { s with
    sec := { s.sec with boot := {
      slotB := s.nv.activeB, fellBack := fellBack, trial := trial, identityOk := identityOk,
      lanternVersion := at_ 0x10, domeVersion := at_ 0x14, svn := at_ 0x0C, served := false } }
    nv := { s.nv with boots := s.nv.boots + 1 }
    lantern := { s.lantern with running := true, laneUp := true } }

theorem startLantern_fields (s : State) (fellBack trial identityOk : Bool) :
    let t := startLantern s fellBack trial identityOk
    let u := lanternUp s fellBack trial identityOk
    t = { u with nv := { u.nv with slotA := t.nv.slotA, slotB := t.nv.slotB } } := by
  dsimp only
  unfold startLantern
  dsimp only
  split
  · rfl
  · exact setFwSlot_fields (lanternUp s fellBack trial identityOk) _ _

/-- A state that differs from `s` in the boot flags alone, as the ROM leaves them. -/
def FlagsTaken (s u : State) : Prop :=
  u = { s with nv := { s.nv with activeB := u.nv.activeB, trial := u.nv.trial, trialBooted := u.nv.trialBooted } }

theorem startLantern_boots {s u : State} {fellBack trial identityOk : Bool} (h : FlagsTaken s u)
    (hslot : bundleCheck s (fwSlot s u.nv.activeB) none = 0) : Booted s (startLantern u fellBack trial identityOk) identityOk := by
  have hfields := startLantern_fields u fellBack trial identityOk
  dsimp only at hfields
  generalize startLantern u fellBack trial identityOk = t at *
  rw [hfields]
  unfold FlagsTaken at h
  generalize t.nv.slotA = a, t.nv.slotB = b, u.nv.activeB = active, u.nv.trial = tr, u.nv.trialBooted = tb at *
  subst h
  exact ⟨rfl, rfl, rfl, rfl, rfl, hslot, rfl, rfl, rfl, rfl⟩

/-- The ROM runs a slot that passes every check, or finds that neither does (R373, R374). -/
theorem bootRom_boots (s : State) (identityOk : Bool) :
    (∀ t, bootRom s identityOk = some t → Booted s t identityOk) ∧
    (bootRom s identityOk = none → ∀ b, bundleCheck s (fwSlot s b) none ≠ 0) := by
  have hflags : FlagsTaken s (takeFlags s).1 := takeFlags_fields s
  unfold bootRom
  dsimp only
  generalize (takeFlags s).1 = u at *
  have hrom : u.rom = s.rom := by rw [hflags]
  have hcount : u.nv.counter = s.nv.counter := by rw [hflags]
  have hslots (b : Bool) : fwSlot u b = fwSlot s b := by
    rw [hflags]
    rfl
  rw [bundleCheck_same hrom hcount, hslots, hslots]
  by_cases hactive : bundleCheck s (fwSlot s u.nv.activeB) none = 0
  · rw [if_pos hactive]
    refine ⟨fun t ht => ?_, fun h => absurd h (by simp)⟩
    obtain rfl := Option.some.inj ht
    exact startLantern_boots hflags hactive
  · rw [if_neg hactive]
    by_cases hother : bundleCheck s (fwSlot s (!u.nv.activeB)) none = 0
    · rw [if_pos hother]
      refine ⟨fun t ht => ?_, fun h => absurd h (by simp)⟩
      obtain rfl := Option.some.inj ht
      refine startLantern_boots (u := { u with nv := { u.nv with activeB := !u.nv.activeB, trial := false, trialBooted := false } })
        ?_ hother
      unfold FlagsTaken at hflags ⊢
      rw [hflags]
    · rw [if_neg hother]
      refine ⟨fun t ht => absurd ht (by simp), fun _ b => ?_⟩
      by_cases hb : b = u.nv.activeB
      · rw [hb]
        exact hactive
      · rw [Bool.eq_not.mpr hb]
        exact hother

/-! ### The identity bus -/

/-- A state apart from its registers and its power, which the identity bus and the saved configuration set. -/
def besidePower (s : State) : State := { s with regs := [], power := Power.reset }

theorem besidePower_setReg (s : State) (b : Blk) (off : Nat) (v : Word) : besidePower (setReg s b off v) = besidePower s := rfl

theorem besidePower_writeSaved (s : State) : besidePower (writeSaved s) = besidePower s := by
  unfold writeSaved
  refine foldl_keeps besidePower _ (fun u p => ?_) _ s
  split
  · split
    · exact besidePower_setReg u _ _ _
    · exact besidePower_setReg u _ _ _
  · rfl

/-- The two registers of the identity bus that count its failures. -/
def busRegs : List Nat := [regAddr .idbus 0x00, regAddr .idbus 0x10]

theorem countFailures_only (s : State) (l : List Nat) : OnlyRegs s (countFailures s l) ∧ RegsBut busRegs s (countFailures s l) := by
  have hflag (u : State) (j : Nat) (c : Bool) : OnlyRegs u (if c then setFlag u .idbus 0x00 j else u) ∧
      RegsBut busRegs u (if c then setFlag u .idbus 0x00 j else u) := by
    cases c
    · exact ⟨rfl, regsBut_refl _ u⟩
    · exact ⟨onlyRegs_setFlag u .idbus 0x00 j, (regsBut_setFlag u .idbus 0x00 j).mono (by simp [busRegs])⟩
  unfold countFailures
  dsimp only
  generalize l.filter _ = bad
  obtain ⟨honly, hregs⟩ := hflag s 1 (bad.contains 1)
  generalize (if bad.contains 1 then setFlag s .idbus 0x00 1 else s) = u at *
  obtain ⟨konly, kregs⟩ := hflag u 2 (bad.contains 2)
  generalize (if bad.contains 2 then setFlag u .idbus 0x00 2 else u) = v at *
  exact ⟨(honly.trans konly).trans (onlyRegs_bump v .idbus 0x10 _),
    (hregs.trans kregs).trans ((regsBut_bump v .idbus 0x10 _).mono (by simp [busRegs]))⟩

theorem besidePower_countFailures (s : State) (l : List Nat) : besidePower (countFailures s l) = besidePower s := by
  have honly : countFailures s l = { s with regs := (countFailures s l).regs } := (countFailures_only s l).1
  rw [honly]
  rfl

theorem readModule_leaves (s : State) (m : Nat) (x : IdMem) :
    besidePower (readModule s m x) = besidePower s ∧ RegsBut busRegs s (readModule s m x) := by
  have hbeside := besidePower_countFailures s (idAttempts x 128 0x4D57535A)
  have hregs := (countFailures_only s (idAttempts x 128 0x4D57535A)).2
  unfold readModule
  dsimp only
  split
  · exact ⟨rfl, regsBut_refl _ s⟩
  · split
    · split
      · exact ⟨hbeside, hregs⟩
      · exact ⟨hbeside, hregs⟩
    · exact ⟨hbeside, hregs⟩

/-- Step 3 leaves all but registers and power, and flags a regulator memory that is not good (R427). -/
theorem readIdentity_leaves (s : State) (i : StartIn) :
    besidePower (readIdentity s i).1 = besidePower s ∧
    ((readIdentity s i).2 = false → FlagUp (readIdentity s i).1 .pwrseq 0x08 3) ∧
    (readIdentity s i).2 = ((idAttempts i.regulator 64 0x5256535A).contains 0 && regulatorLimits i.regulator.bytes) := by
  have hfirst := besidePower_countFailures s (idAttempts i.regulator 64 0x5256535A)
  have hbeside (u : State) : besidePower (((List.range 8).zip i.modules).foldl (fun s p => readModule s p.1 p.2) u) =
      besidePower u :=
    foldl_keeps besidePower (fun s (p : Nat × IdMem) => readModule s p.1 p.2) (fun u p => (readModule_leaves u p.1 p.2).1) _ u
  have hregs (u : State) : RegsBut busRegs u (((List.range 8).zip i.modules).foldl (fun s p => readModule s p.1 p.2) u) :=
    RegsBut.foldl (fun s (p : Nat × IdMem) => readModule s p.1 p.2) (fun u p => (readModule_leaves u p.1 p.2).2) _ u
  unfold readIdentity
  dsimp only
  generalize (List.contains _ 0 && regulatorLimits i.regulator.bytes) = good
  refine ⟨(hbeside _).trans ?_, fun h => ?_, rfl⟩
  · cases good
    · exact hfirst
    · exact hfirst
  · subst h
    exact (flagUp_setFlag _ .pwrseq 0x08 3 (by decide)).regsBut (hregs _) (by decide)

/-! ### START_UP -/

/-- Start-up with both slots failed: the recovery loader runs (R373, R422). -/
def recovering (s : State) (identityOk : Bool) : State :=
  let u := (takeFlags s).1
  let fail (f : FwSlot) : FwSlot := if f.status = .empty then f else { f with status := .failed }
  { u with
    lantern := { u.lantern with recovery := true, laneUp := true }
    nv := { u.nv with slotA := fail u.nv.slotA, slotB := fail u.nv.slotB }
    sec := { u.sec with boot := { u.sec.boot with identityOk := identityOk } } }

/-- Start-up once the ROM has booted `u`: the saved configuration, the identity bus, and VR_EN where its memory is good (R435,
R436). -/
def busRead (u : State) (i : StartIn) : State := (readIdentity (writeSaved u) i).1

def poweredUp (u : State) (i : StartIn) : State :=
  { busRead u i with
    power := { (busRead u i).power with phase := 4, voutMv := 800, awaitPg := true }
    pins := { (busRead u i).pins with vrEn := true } }

def heldAtBus (u : State) (i : StartIn) : State := { busRead u i with power := { (busRead u i).power with phase := 3 } }

/-- The regulator's identity memory reads and its limits hold (R427). -/
def regulatorGood (i : StartIn) : Bool :=
  (idAttempts i.regulator 64 0x5256535A).contains 0 && regulatorLimits i.regulator.bytes

theorem startUp_eq {s : State} {i : StartIn} (hrails : s.power.rails = true) (hrst : s.pins.rstLow = false)
    (hphase : s.power.phase = 1) (hrec : s.lantern.recovery = false) :
    execStartUp i s = match bootRom s i.identityOk with
      | none => .next (recovering s i.identityOk)
      | some u => if (readIdentity (writeSaved u) i).2 = false then .next (heldAtBus u i) else .next (poweredUp u i) := by
  unfold execStartUp
  rw [if_neg (by simp [hrails, hrst, hphase, hrec])]
  cases bootRom s i.identityOk <;> rfl

/-- What a boot leaves stays as it is while the bus is read. -/
theorem booted_busRead {s u : State} {b : Bool} (h : Booted s u b) (i : StartIn) : Booted s (busRead u i) b := by
  have hkeeps : besidePower (busRead u i) = besidePower u :=
    (readIdentity_leaves (writeSaved u) i).1.trans (besidePower_writeSaved u)
  have hrom := congrArg State.rom hkeeps
  have hnv := congrArg State.nv hkeeps
  have hdev := congrArg State.dev hkeeps
  have hout := congrArg State.out hkeeps
  have hpins := congrArg State.pins hkeeps
  have hsec := congrArg State.sec hkeeps
  have hlantern := congrArg State.lantern hkeeps
  simp only [besidePower] at hrom hnv hdev hout hpins hsec hlantern
  obtain ⟨krom, kcounter, kdev, kout, kpins, kslot, kactive, krunning, kboots, kidentity⟩ := h
  exact ⟨hrom.trans krom, by rw [hnv, kcounter], hdev.trans kdev, hout.trans kout, hpins.trans kpins, by rwa [hsec],
    by rw [hnv, hsec, kactive], by rw [hlantern, krunning], by rw [hnv, kboots], by rw [hsec, kidentity]⟩

theorem startUp_recovers {s : State} {i : StartIn} (hrails : s.power.rails = true) (hrst : s.pins.rstLow = false)
    (hphase : s.power.phase = 1) (hrec : s.lantern.recovery = false) (hb : bootRom s i.identityOk = none) :
    ∃ t, Does (.startUp i) s t ∧ t.nv.counter = s.nv.counter ∧ t.rom = s.rom ∧ t.dev = s.dev ∧ t.out = s.out ∧
      (∀ b, bundleCheck s (fwSlot s b) none ≠ 0) ∧ t.lantern.recovery = true ∧ t.lantern.laneUp = true ∧
      t.lantern.running = s.lantern.running ∧ t.power = s.power ∧ t.pins = s.pins := by
  have heq := startUp_eq (i := i) hrails hrst hphase hrec
  rw [hb] at heq
  have hflags : FlagsTaken s (takeFlags s).1 := takeFlags_fields s
  refine ⟨recovering s i.identityOk, heq, ?_⟩
  unfold recovering
  dsimp only
  unfold FlagsTaken at hflags
  generalize (takeFlags s).1 = u at *
  generalize u.nv.activeB = active, u.nv.trial = tr, u.nv.trialBooted = tb at hflags
  subst hflags
  exact ⟨rfl, rfl, rfl, rfl, (bootRom_boots s i.identityOk).2 hb, rfl, rfl, rfl, rfl, rfl⟩

theorem startUp_boots {s u : State} {i : StartIn} (hrails : s.power.rails = true) (hrst : s.pins.rstLow = false)
    (hphase : s.power.phase = 1) (hrec : s.lantern.recovery = false) (hb : bootRom s i.identityOk = some u) :
    ∃ t, Does (.startUp i) s t ∧ t.nv.counter = s.nv.counter ∧ t.rom = s.rom ∧ t.dev = s.dev ∧ t.out = s.out ∧
      bundleCheck s (fwSlot s t.sec.boot.slotB) none = 0 ∧ t.nv.activeB = t.sec.boot.slotB ∧ t.lantern.running = true ∧
      t.nv.boots = s.nv.boots + 1 ∧ t.sec.boot.identityOk = i.identityOk ∧
      (regulatorGood i = true → t.power.phase = 4 ∧ t.power.voutMv = 800 ∧ t.power.awaitPg = true ∧
        t.pins = { s.pins with vrEn := true }) ∧
      (regulatorGood i = false → t.power.phase = 3 ∧ t.pins = s.pins ∧ FlagUp t .pwrseq 0x08 3) := by
  have heq := startUp_eq (i := i) hrails hrst hphase hrec
  rw [hb] at heq
  obtain ⟨hrom, hcounter, hdev, hout, hpins, hslot, hactive, hrunning, hboots, hidentity⟩ :=
    booted_busRead ((bootRom_boots s i.identityOk).1 u hb) i
  obtain ⟨-, hflag, hgood⟩ := readIdentity_leaves (writeSaved u) i
  dsimp only at heq
  cases hg : regulatorGood i with
  | true =>
    rw [hgood.trans hg, if_neg (by simp)] at heq
    exact ⟨poweredUp u i, heq, hcounter, hrom, hdev, hout, hslot, hactive, hrunning, hboots, hidentity,
      fun _ => ⟨rfl, rfl, rfl, congrArg (fun p : Pins => { p with vrEn := true }) hpins⟩, fun h => absurd h (by simp)⟩
  | false =>
    rw [hgood.trans hg, if_pos rfl] at heq
    exact ⟨heldAtBus u i, heq, hcounter, hrom, hdev, hout, hslot, hactive, hrunning, hboots, hidentity,
      fun h => absurd h (by simp), fun _ => ⟨rfl, hpins, hflag (hgood.trans hg)⟩⟩

theorem startUp_completes (s : State) (i : StartIn) : Completes (.startUp i) s := by
  show ∃ t, execStartUp i s = .next t
  unfold execStartUp
  dsimp only
  repeat' split
  all_goals exact ⟨_, rfl⟩

/-! ### The core supply and wake-up pacing -/

theorem vrPgTimeout_stops {s : State} (h : s.power.awaitPg = true) :
    ∃ t, Does .vrPgTimeout s t ∧ FlagUp t .pwrseq 0x08 2 ∧ RegsBut [regAddr .pwrseq 0x08] s t ∧
      t = { s with regs := t.regs, power := { s.power with awaitPg := false } } := by
  let u : State := { s with power := { s.power with awaitPg := false } }
  exact ⟨setFlag u .pwrseq 0x08 2, (if_neg (by simp [h]) : execVrPgTimeout s = _), flagUp_setFlag u .pwrseq 0x08 2 (by decide),
    regsBut_setFlag u .pwrseq 0x08 2, rfl⟩

theorem voutStep_steps {s : State} (ok : Bool) (he : s.pins.vrEn = true) (hg : s.pins.vrPg = true) :
    Does (.voutStep ok) s { s with power := { s.power with
      voutMv := if ok then max 600 (s.power.voutMv - 5) else min 800 (s.power.voutMv + 5) } } :=
  (if_neg (by simp [he, hg]) : execVoutStep ok s = _)

/-- What the steps released in this frame draw: none before frames run (R433). -/
def rampUsed (s : State) : Nat := if enabled s .frame then s.power.released else 0

theorem wakeStepRelease_paces {s : State} {w : WakeStep} {rest : List WakeStep} (h : s.power.wakes = w :: rest) :
    (rampBudget s < rampUsed s + stepAmps w.domain → Does .wakeStepRelease s s) ∧
    (rampUsed s + stepAmps w.domain ≤ rampBudget s →
      ∃ t, Does .wakeStepRelease s t ∧ Counted s t .pwrseq 0x30 1 ∧ RegsBut [regAddr .pwrseq 0x30] s t ∧
        t = { s with regs := t.regs, power := { s.power with wakes := rest, released := rampUsed s + stepAmps w.domain } }) := by
  let u : State := { s with power := { s.power with wakes := rest, released := rampUsed s + stepAmps w.domain } }
  have heq : execWakeStepRelease s = if rampBudget s < rampUsed s + stepAmps w.domain then .next s
      else .next (bump u .pwrseq 0x30 1) := by
    unfold execWakeStepRelease
    rw [h]
    rfl
  refine ⟨fun hfull => heq.trans (if_pos hfull), fun hroom => ⟨bump u .pwrseq 0x30 1, heq.trans (if_neg (by omega)),
    counted_bump u .pwrseq 0x30 1, regsBut_bump u .pwrseq 0x30 1, rfl⟩⟩

theorem vrPgTimeout_completes (s : State) : Completes .vrPgTimeout s := by
  show ∃ t, execVrPgTimeout s = .next t
  unfold execVrPgTimeout
  split <;> exact ⟨_, rfl⟩

theorem voutStep_completes (s : State) (ok : Bool) : Completes (.voutStep ok) s := by
  show ∃ t, execVoutStep ok s = .next t
  unfold execVoutStep
  split <;> exact ⟨_, rfl⟩

theorem wakeStepRelease_completes (s : State) : Completes .wakeStepRelease s := by
  show ∃ t, execWakeStepRelease s = .next t
  unfold execWakeStepRelease
  dsimp only
  repeat' split
  all_goals exact ⟨_, rfl⟩

/-! ### Steps 5 to 9 -/

/-- What steps 5 to 8 leave: the device state, the outputs, the pins, the media's data, the wait for VR_PG, the count of wake
steps released and the ground; and a tile out of service stays out (R435). -/
structure StartsUp (s u : State) : Prop where
  dev : u.dev = s.dev
  out : u.out = s.out
  pins : u.pins = s.pins
  data : u.flash.data = s.flash.data
  awaits : u.power.awaitPg = s.power.awaitPg
  steps : reg u .pwrseq 0x30 = reg s .pwrseq 0x30
  ground : ground u = ground s
  outOfService : ∀ k, (tileAt s k).inService = false → (tileAt u k).inService = false

theorem StartsUp.refl (s : State) : StartsUp s s := ⟨rfl, rfl, rfl, rfl, rfl, rfl, rfl, fun _ h => h⟩

theorem StartsUp.trans {s u v : State} (h : StartsUp s u) (k : StartsUp u v) : StartsUp s v :=
  ⟨k.dev.trans h.dev, k.out.trans h.out, k.pins.trans h.pins, k.data.trans h.data, k.awaits.trans h.awaits,
    k.steps.trans h.steps, k.ground.trans h.ground, fun i hi => k.outOfService i (h.outOfService i hi)⟩

theorem StartsUp.foldl {α : Type} (f : State → α → State) (h : ∀ s x, StartsUp s (f s x)) (l : List α) (s : State) :
    StartsUp s (l.foldl f s) := l.foldlRecOn (motive := StartsUp s) f (.refl s) fun u hu x _ => hu.trans (h u x)

theorem startsUp_setReg (s : State) {b : Blk} {off : Nat} (v : Word) (h : regAddr .pwrseq 0x30 ≠ regAddr b off) :
    StartsUp s (setReg s b off v) :=
  ⟨rfl, rfl, rfl, rfl, rfl, (regsBut_setReg s b off v).reg _ _ (by simpa using h), rfl, fun _ h => h⟩

theorem startsUp_logEntry (s : State) {cls : Nat} (mech action ctx unit entry detail : Nat) (h : ¬(cls = 1 ∨ cls = 2)) :
    StartsUp s (logEntry s cls mech action ctx unit entry detail) := by
  obtain ⟨-, hregs, ht⟩ := loggedBut_of_class s mech action ctx unit entry detail h
  have hsteps := hregs.reg .pwrseq 0x30 (by decide)
  have hground := ground_logEntry s cls mech action ctx unit entry detail
  generalize logEntry s cls mech action ctx unit entry detail = t at *
  rw [ht] at hground hsteps ⊢
  exact ⟨rfl, rfl, rfl, rfl, rfl, hsteps, hground, fun _ h => h⟩

theorem startsUp_setTile (s : State) (t : Nat) (x : Tile) (h : (tileAt s t).inService = false → x.inService = false) :
    StartsUp s (setTile s t x) := by
  refine ⟨rfl, rfl, rfl, rfl, rfl, rfl, rfl, fun k hk => ?_⟩
  by_cases hkt : k = t
  · subst hkt
    rw [tileAt_setTile_same]
    exact h hk
  · rw [tileAt_setTile_ne s t k x hkt]
    exact hk

/-- No register of a tile's array is the count of wake steps. -/
theorem arrayReg_ne_steps (t off : Nat) : regAddr .pwrseq 0x30 ≠ regAddr (.array t) off := by
  simp only [regAddr, blkBase, tileBase]
  omega

theorem startsUp_markPe (s : State) (t : Nat) (pe : Nat × Nat) : StartsUp s (markPe s t pe) := by
  have hfld (u : State) (off lo n v : Nat) : StartsUp u (setFld u (.array t) off lo n v) :=
    startsUp_setReg u _ (arrayReg_ne_steps t off)
  have hlog (u : State) (detail : Nat) : StartsUp u (logEntry u 5 0 3 0xFF t 0xFFFF detail) :=
    startsUp_logEntry u 0 3 0xFF t 0xFFFF detail (by decide)
  unfold markPe
  dsimp only
  split
  · exact .refl s
  · split
    · refine StartsUp.trans ?_ (hlog _ _)
      split
      · exact ((hfld _ _ _ _ _).trans (hfld _ _ _ _ _)).trans (hfld _ _ _ _ _)
      · exact hfld _ _ _ _ _
    · split
      · exact (hfld _ _ _ _ _).trans (hlog _ _)
      · exact hfld _ _ _ _ _

theorem startsUp_switchIn (pes : List (Nat × Nat × Nat)) (s : State) (t : Nat) : StartsUp s (switchIn pes s t) := by
  have hmark (l : List (Nat × Nat)) : StartsUp s (l.foldl (fun s pe => markPe s t pe) (setTile s t { tileAt s t with badPes := [] })) :=
    (startsUp_setTile s t { tileAt s t with badPes := [] } fun h => h).trans (StartsUp.foldl _ (fun u pe => startsUp_markPe u t pe) l _)
  unfold switchIn
  dsimp only
  split
  · exact hmark _
  · exact (hmark _).trans (startsUp_setReg _ _ (arrayReg_ne_steps t 0x08))

theorem startsUp_useSpare (s : State) (k bank : Nat) : StartsUp s (useSpare s k bank) := by
  let u : State := { s with tier := { s.tier with
    sparesUsed := tset s.tier.sparesUsed (512 * k + bank) (tgetD s.tier.sparesUsed (512 * k + bank) 0 + 1) } }
  have hcounted : StartsUp s u := ⟨rfl, rfl, rfl, rfl, rfl, rfl, rfl, fun _ h => h⟩
  refine hcounted.trans (startsUp_setReg u (b := .keep k) (off := 0x38) _ ?_)
  simp only [regAddr, blkBase]
  omega

theorem startsUp_startFlash (s : State) (i : CoreIn) : StartsUp s (startFlash s i) :=
  ⟨rfl, rfl, rfl, rfl, rfl, rfl, rfl, fun _ h => h⟩

theorem startsUp_wakeLanes (s : State) : StartsUp s (wakeLanes s) :=
  StartsUp.foldl (fun s d => queueWake s d 0) (fun _ _ => ⟨rfl, rfl, rfl, rfl, rfl, rfl, rfl, fun _ h => h⟩) laneDomains s

/-- The port enabled at start-up: brought up, or left as it is where it runs (R349, R436). -/
theorem startsUp_writeMacCtrl (s : State) {v : Word} (h : bit v 0 = true) : StartsUp s (writeMacCtrl s v) := by
  unfold writeMacCtrl
  dsimp only
  rw [if_pos h, if_pos h]
  split
  · split
    · exact startsUp_setReg s _ (by decide)
    · exact .refl s
  · refine StartsUp.trans ?_ (startsUp_wakeLanes _)
    let u := setFld s .mac 0 1 1 (bits v 1 1)
    have htraining : StartsUp u { u with port := { u.port with training := true } } :=
      ⟨rfl, rfl, rfl, rfl, rfl, rfl, rfl, fun _ h => h⟩
    exact ((startsUp_setReg s _ (by decide)).trans htraining).trans (startsUp_setReg _ _ (by decide))

/-- Step 7: the spare switch-ins, and the tiles that failed their tests or are retired, out of service (R435). -/
def spareTested (s : State) (i : CoreIn) : State :=
  let u := i.tileFails.foldl (fun s t => setTile s t { tileAt s t with inService := false })
    ((asSet (i.badPes.map (·.1))).foldl (switchIn i.badPes) s)
  (asSet (i.badPes.map (·.1))).foldl (fun s t =>
    if retired s t then setTile s t { tileAt s t with inService := false } else s) u

theorem startsUp_tileDown (s : State) (t : Nat) : StartsUp s (setTile s t { tileAt s t with inService := false }) :=
  startsUp_setTile s t _ fun _ => rfl

/-- The tiles that failed are out of service, and stay so. -/
theorem tilesDown (l : List Nat) (s : State) : ∀ k ∈ l,
    (tileAt (l.foldl (fun s t => setTile s t { tileAt s t with inService := false }) s) k).inService = false := by
  induction l generalizing s with
  | nil => exact fun k hk => absurd hk List.not_mem_nil
  | cons t l ih =>
    intro k hk
    rcases List.mem_cons.mp hk with rfl | hk
    · refine (StartsUp.foldl _ startsUp_tileDown l _).outOfService k ?_
      rw [tileAt_setTile_same]
    · exact ih _ k hk

theorem spareTested_leaves (s : State) (i : CoreIn) : StartsUp s (spareTested s i) ∧
    ∀ k ∈ i.tileFails, (tileAt (spareTested s i) k).inService = false := by
  have hswitched : StartsUp s ((asSet (i.badPes.map (·.1))).foldl (switchIn i.badPes) s) :=
    StartsUp.foldl _ (startsUp_switchIn i.badPes) _ s
  have hretire (u : State) : StartsUp u ((asSet (i.badPes.map (·.1))).foldl (fun s t =>
      if retired s t then setTile s t { tileAt s t with inService := false } else s) u) :=
    StartsUp.foldl _ (fun v t => by
      split
      · exact startsUp_tileDown v t
      · exact .refl v) _ u
  exact ⟨(hswitched.trans (StartsUp.foldl _ startsUp_tileDown i.tileFails _)).trans (hretire _),
    fun k hk => (hretire _).outOfService k (tilesDown i.tileFails _ k hk)⟩

/-- The spare rows of the repair maps taken into use (R284, R435). -/
def sparesTaken (s : State) : State := s.nv.repairs.foldl (fun s r => useSpare s r.1 r.2.1) s

theorem startsUp_sparesTaken (s : State) : StartsUp s (sparesTaken s) :=
  StartsUp.foldl (fun (s : State) (r : Nat × Nat × Nat) => useSpare s r.1 r.2.1) (fun u r => startsUp_useSpare u r.1 r.2.1) _ s

/-- Steps 5 to 8, from the state in which VR_PG has risen (R435). -/
def coreStarted (s : State) (i : CoreIn) : State :=
  let u := startFlash (spareTested (sparesTaken s) i) i
  match tget u.nv.saved (regAddr .mac 0) with
  | some v => if bit v 0 then writeMacCtrl u v else u
  | none => u

theorem coreStarted_leaves (s : State) (i : CoreIn) : StartsUp s (coreStarted s i) ∧
    ∀ k ∈ i.tileFails, (tileAt (coreStarted s i) k).inService = false := by
  have hspare := startsUp_sparesTaken s
  obtain ⟨htested, hdown⟩ := spareTested_leaves (sparesTaken s) i
  have hflash := startsUp_startFlash (spareTested (sparesTaken s) i) i
  have hmac (u : State) : StartsUp u (match tget u.nv.saved (regAddr .mac 0) with
      | some v => if bit v 0 then writeMacCtrl u v else u
      | none => u) := by
    split
    · split
      · rename_i hv
        exact startsUp_writeMacCtrl u hv
      · exact .refl u
    · exact .refl u
  exact ⟨((hspare.trans htested).trans hflash).trans (hmac _),
    fun k hk => (hmac _).outOfService k (hflash.outOfService k (hdown k hk))⟩

/-- The state in which VR_PG has risen, its 32 wake steps released (R435). -/
def risen (s : State) : State :=
  bump { s with power := { s.power with awaitPg := false }, pins := { s.pins with vrPg := true } } .pwrseq 0x30 32

/-- Step 9: start-up is over (R435). -/
def startedUp (s : State) (i : CoreIn) : State :=
  let u := coreStarted (risen s) i
  { u with power := { u.power with phase := 9 }, reason := 2 }

theorem vrPgGood_eq {s : State} {i : CoreIn} (h : s.power.awaitPg = true)
    (hpes : ∀ p ∈ i.badPes, p.1 < 640 ∧ p.2.1 < 132 ∧ p.2.2 < 132) (htiles : ∀ t ∈ i.tileFails, t < 640)
    (hunits : ∀ u ∈ i.unitFails, unitExists u = true) :
    execVrPgGood i s = if i.unitFails = [] then .next (startedUp s i) else .next (enterVermilion (startedUp s i)) := by
  unfold execVrPgGood
  rw [if_neg (by simp [h]), if_neg]
  · rfl
  · rw [Bool.not_eq_false, Bool.and_eq_true, Bool.and_eq_true, List.all_eq_true, List.all_eq_true, List.all_eq_true]
    exact ⟨⟨fun p hp => by simp [hpes p hp], fun t ht => decide_eq_true (htiles t ht)⟩, hunits⟩

/-- Vermilion, entered or not, keeps what start-up brought about. -/
theorem enterVermilion_after (s : State) : (enterVermilion s).dev = .vermilion ∧ (enterVermilion s).power = s.power ∧
    (enterVermilion s).pins.vrPg = s.pins.vrPg ∧ (enterVermilion s).flash = s.flash ∧
    (∀ k, (tileAt (enterVermilion s) k).inService = (tileAt s k).inService) ∧
    (∀ a ∈ steadyRegs, tget (enterVermilion s).regs a = tget s.regs a) := by
  by_cases h : s.dev = .vermilion
  · have hstay : enterVermilion s = s := if_pos h
    rw [hstay]
    exact ⟨h, rfl, rfl, rfl, fun _ => rfl, fun _ _ => rfl⟩
  · have hstops := (enterVermilion_stops h).1
    exact ⟨hstops.dev, hstops.power, (congrArg Pins.vrPg hstops.pins).trans rfl, hstops.flash, hstops.inService, hstops.regs⟩

theorem startedUp_leaves (s : State) (i : CoreIn) :
    let t := startedUp s i
    t.power.phase = 9 ∧ t.power.awaitPg = false ∧ t.pins.vrPg = true ∧ Counted s t .pwrseq 0x30 32 ∧
    (∀ k ∈ i.tileFails, (tileAt t k).inService = false) ∧ t.flash.data = s.flash.data ∧ ground t = ground s ∧
    t.dev = s.dev ∧ t.reason = 2 ∧ t.out = s.out := by
  dsimp only
  obtain ⟨hleaves, hdown⟩ := coreStarted_leaves (risen s) i
  have hcount : Counted s (risen s) .pwrseq 0x30 32 := counted_bump { s with power := _, pins := _ } .pwrseq 0x30 32
  unfold startedUp
  dsimp only
  generalize coreStarted (risen s) i = u at *
  obtain ⟨hdev, hout, hpins, hdata, hawaits, hsteps, hground, -⟩ := hleaves
  exact ⟨rfl, hawaits, congrArg Pins.vrPg hpins, hcount.stands hsteps, hdown, hdata, hground, hdev, rfl, hout⟩

theorem vrPgGood_starts {s : State} {i : CoreIn} (h : s.power.awaitPg = true)
    (hpes : ∀ p ∈ i.badPes, p.1 < 640 ∧ p.2.1 < 132 ∧ p.2.2 < 132) (htiles : ∀ t ∈ i.tileFails, t < 640)
    (hunits : ∀ u ∈ i.unitFails, unitExists u = true) :
    ∃ t, Does (.vrPgGood i) s t ∧ t.power.phase = 9 ∧ t.power.awaitPg = false ∧ t.pins.vrPg = true ∧
      Counted s t .pwrseq 0x30 32 ∧ (∀ k ∈ i.tileFails, (tileAt t k).inService = false) ∧ t.flash.data = s.flash.data ∧
      t.nv.counter = s.nv.counter ∧ t.rom = s.rom ∧ (i.unitFails = [] → t.dev = s.dev ∧ t.reason = 2 ∧ t.out = s.out) ∧
      (i.unitFails ≠ [] → t.dev = .vermilion) := by
  have heq := vrPgGood_eq h hpes htiles hunits
  obtain ⟨hphase, hawaits, hpg, hcount, hdown, hdata, hground, hdev, hreason, hout⟩ := startedUp_leaves s i
  generalize startedUp s i = u at *
  have hrom : u.rom = s.rom := congrArg (·.1) hground
  have hcounter : u.nv.counter = s.nv.counter := congrArg (·.2.1) hground
  by_cases hu : i.unitFails = []
  · rw [if_pos hu] at heq
    exact ⟨u, heq, hphase, hawaits, hpg, hcount, hdown, hdata, hcounter, hrom, fun _ => ⟨hdev, hreason, hout⟩,
      fun hne => absurd hu hne⟩
  · rw [if_neg hu] at heq
    obtain ⟨kdev, kpower, kpg, kflash, ktiles, kregs⟩ := enterVermilion_after u
    have kground := ground_enterVermilion u
    have krom : (enterVermilion u).rom = u.rom := congrArg (·.1) kground
    have kcounter : (enterVermilion u).nv.counter = u.nv.counter := congrArg (·.2.1) kground
    exact ⟨_, heq, by rw [kpower, hphase], by rw [kpower, hawaits], kpg.trans hpg, hcount.steady (by decide) kregs,
      fun k hk => (ktiles k).trans (hdown k hk), by rw [kflash, hdata], kcounter.trans hcounter, krom.trans hrom,
      fun he => absurd he hu, fun _ => kdev⟩

theorem vrPgGood_completes (s : State) (i : CoreIn)
    (hpes : ∀ p ∈ i.badPes, p.1 < 640 ∧ p.2.1 < 132 ∧ p.2.2 < 132) (htiles : ∀ t ∈ i.tileFails, t < 640)
    (hunits : ∀ u ∈ i.unitFails, unitExists u = true) : Completes (.vrPgGood i) s := by
  cases h : s.power.awaitPg with
  | true =>
    obtain ⟨t, ht, -⟩ := vrPgGood_starts h hpes htiles hunits
    exact ⟨t, ht⟩
  | false => exact ⟨s, (if_pos h : execVrPgGood i s = _)⟩

/-- Settles O52: the ROM's choice of a slot, the identity bus, steps 5 to 9 as steps each of which leaves what the supply and
the tests brought about, and the pacing of wake steps. -/
theorem startUpAndSupply : Obligations.StartUpAndSupply := by
  unfold Obligations.StartUpAndSupply
  refine ⟨fun s i j ok => ⟨startUp_completes s i, vrPgTimeout_completes s, voutStep_completes s ok, wakeStepRelease_completes s,
    vrPgGood_completes s j⟩, ?_, fun s i => vrPgGood_starts, fun s => vrPgTimeout_stops, fun s ok => voutStep_steps ok,
    fun s w rest => wakeStepRelease_paces⟩
  intro s i hrails hrst hphase hrec
  cases hb : bootRom s i.identityOk with
  | none =>
    obtain ⟨t, ht, hcounter, hrom, hdev, hout, hrest⟩ := startUp_recovers hrails hrst hphase hrec hb
    exact ⟨t, ht, hcounter, hrom, hdev, hout, fun _ => hrest, fun hne => absurd rfl hne⟩
  | some u =>
    obtain ⟨t, ht, hcounter, hrom, hdev, hout, hrest⟩ := startUp_boots hrails hrst hphase hrec hb
    exact ⟨t, ht, hcounter, hrom, hdev, hout, fun h => absurd h (by simp), fun _ => hrest⟩

end Sys2Proof.Machine
end

section
namespace Sys2Proof.Machine

/-! ### Messages change queues alone -/

/-- Every session stays as it is but for its queues, none of which goes. -/
def QueuesMove (s t : State) : Prop :=
  ∀ n x, sessAt s n = some x → ∃ ys, sessAt t n = some { x with queues := ys } ∧
    ∀ q, (tget x.queues q).isSome = true → (tget ys q).isSome = true

theorem QueuesMove.refl (s : State) : QueuesMove s s := fun _ x hx => ⟨x.queues, hx, fun _ h => h⟩

theorem QueuesMove.trans {s t u : State} (h : QueuesMove s t) (k : QueuesMove t u) : QueuesMove s u := by
  intro n x hx
  obtain ⟨ys, hys, hyq⟩ := h n x hx
  obtain ⟨zs, hzs, hzq⟩ := k n _ hys
  exact ⟨zs, hzs, fun q hq => hzq q (hyq q hq)⟩

theorem queuesMove_withQueue {s : State} {n : Nat} {x : Session} (hx : sessAt s n = some x) (q : Nat) (y : QueueSt) :
    QueuesMove s (setSess s n (withQueue x q y)) := by
  intro m z hz
  by_cases hm : m = n
  · subst hm
    obtain rfl : x = z := Option.some.inj (hx.symm.trans hz)
    refine ⟨_, sessAt_setSess_same s m _, fun p hp => ?_⟩
    by_cases hpq : p = q
    · subst hpq; simp
    · rwa [tget_tset_ne _ _ _ _ hpq]
  · exact ⟨z.queues, (sessAt_setSess_ne s n m _ hm).trans hz, fun _ h => h⟩

theorem queuesMove_sendPacket {s : State} {n : Nat} {x : Session} (hx : sessAt s n = some x) (q : Nat) (y : QueueSt) :
    QueuesMove s (sendPacket s n q x y) := queuesMove_withQueue hx q _

theorem queuesMove_pump (n q fuel : Nat) (s : State) : QueuesMove s (pump s n q fuel) := by
  induction fuel generalizing s with
  | zero => exact .refl s
  | succ k ih =>
    unfold pump
    split
    · exact .refl s
    · rename_i x hx
      split
      · exact .refl s
      · split
        · exact (queuesMove_sendPacket hx q _).trans (ih _)
        · exact .refl s

theorem queuesMove_pumpAll (s : State) (n q : Nat) : QueuesMove s (pumpAll s n q) := by
  unfold pumpAll
  split
  · exact .refl s
  · split
    · exact .refl s
    · exact queuesMove_pump n q _ s

theorem queuesMove_sendMsg (s : State) (n q type tag : Nat) (body : List Byte) :
    QueuesMove s (sendMsg s n q type tag body) := by
  unfold sendMsg
  split
  · exact .refl s
  · rename_i x hx
    split
    · exact .refl s
    · refine QueuesMove.trans ?_ (queuesMove_pumpAll _ n q)
      exact queuesMove_withQueue hx q _

theorem queuesMove_sendCtl (s : State) (n type tag : Nat) (body : List Byte) : QueuesMove s (sendCtl s n type tag body) := by
  unfold sendCtl
  split
  · exact .refl s
  · exact queuesMove_sendMsg s n _ type tag body

/-! ### SPDM replies -/

/-- What follows a reply on the control queue: the message left, and the session is as before but for its queues. -/
theorem sendCtl_replies {s : State} {n : Nat} {x : Session} (type tag : Nat) (body : List Byte) (h : SessionReady s n x) :
    Handed s (sendCtl s n type tag body) ∧ Out.msg n x.firstMsgq type tag body (now s) ∈ (sendCtl s n type tag body).out ∧
    ∃ ys, sessAt (sendCtl s n type tag body) n = some { x with queues := ys } ∧ (tget ys x.firstMsgq).isSome = true := by
  have hmsg := msg_mem_sendCtl type tag body h
  obtain ⟨hx, hq⟩ := h
  obtain ⟨ys, hys, hkeeps⟩ := queuesMove_sendCtl s n type tag body n x hx
  exact ⟨handed_sendCtl s n type tag body, hmsg, ys, hys, hkeeps _ hq⟩

/-- The bytes that a draw gives are as many as asked for, and the next free value is counted. -/
theorem freeBytes_facts (s : State) (k : Nat) :
    (freeBytes s k).1.length = k ∧ (freeBytes s k).2 = { s with fresh := s.fresh + 1 } :=
  ⟨length_fit k _, rfl⟩

/-- A reply after draws of free values is handed out beside them. -/
theorem handed_drawn {s t : State} {k : Nat} (h : Handed { s with fresh := k } t) : Handed { s with fresh := t.fresh } t := by
  have hf : t.fresh = k := by rw [h.fields]
  rwa [hf]

theorem spdmReply_answers {s : State} {n : Nat} {x : Session} (k tag code p1 p2 : Nat) (payload : List Byte)
    (h : SessionReady s n x) :
    let t := spdmReply { s with fresh := k } n tag code p1 p2 payload
    Handed { s with fresh := t.fresh } t ∧ SpdmSent s t n x tag code p1 p2 payload ∧
    ∃ ys, sessAt t n = some { x with queues := ys } ∧ (tget ys x.firstMsgq).isSome = true := by
  obtain ⟨hhanded, hmsg, hsess⟩ := sendCtl_replies (s := { s with fresh := k }) 0x8A tag
    (toLE 1 0x12 ++ toLE 1 code ++ toLE 1 p1 ++ toLE 1 p2 ++ payload) h
  exact ⟨handed_drawn hhanded, hmsg, hsess⟩

/-- The progress of a session's attestation recorded after a reply (R366). -/
theorem updSpdm_records {s : State} {n : Nat} {x : Session} (f : Spdm → Spdm) (hx : sessAt s n = some x) :
    Handed s (updSpdm s n f) ∧ sessAt (updSpdm s n f) n = some { x with spdm := f x.spdm } ∧ (updSpdm s n f).out = s.out := by
  unfold updSpdm
  simp only [hx]
  exact ⟨handed_setSess s n _, sessAt_setSess_same s n _, rfl⟩

/-- A reply that also records progress. -/
theorem spdmReply_records {s : State} {n : Nat} {x : Session} (k tag code p1 p2 : Nat) (payload : List Byte) (f : Spdm → Spdm)
    (h : SessionReady s n x) :
    let t := updSpdm (spdmReply { s with fresh := k } n tag code p1 p2 payload) n f
    ∃ z, Handed { s with fresh := t.fresh } t ∧ sessAt t n = some z ∧ z.spdm = f x.spdm ∧
      SpdmSent s t n x tag code p1 p2 payload := by
  dsimp only
  obtain ⟨hhanded, hsent, ys, hys, -⟩ := spdmReply_answers k tag code p1 p2 payload h
  generalize spdmReply { s with fresh := k } n tag code p1 p2 payload = t at *
  obtain ⟨khanded, hz, hout⟩ := updSpdm_records f hys
  have hfresh : (updSpdm t n f).fresh = t.fresh := by rw [khanded.fields]
  refine ⟨_, ?_, hz, rfl, ?_⟩
  · rw [hfresh]
    exact hhanded.trans khanded
  · unfold SpdmSent
    rw [hout]
    exact hsent

theorem onSession_runs {s : State} {n : Nat} {x : Session} (f : Session → Res) (hx : sessAt s n = some x) :
    onSession s n f = f x := by
  unfold onSession
  rw [hx]

theorem onSession_completes {s : State} {n : Nat} {f : Session → Res} (h : ∀ x, ∃ t, f x = .next t) :
    ∃ t, onSession s n f = .next t := by
  unfold onSession
  split
  · exact ⟨_, rfl⟩
  · exact h _

theorem askedBlocks_all : askedBlocks 0xFF = (List.range 9).map (· + 1) := by decide

/-! ### The nine requests -/

section
variable {s : State} {n : Nat} {x : Session} (tag : Nat) (h : SessionReady s n x)
include h

theorem getVersion_answers : ∃ t z, Does (.getVersion n tag) s t ∧ Handed s t ∧ sessAt t n = some z ∧
    z.spdm = { x.spdm with version := true } ∧
    Out.msg n x.firstMsgq 0x8A tag (toLE 1 0x10 ++ toLE 1 0x04 ++ zeros 3 ++ toLE 1 1 ++ toLE 2 0x1200) (now s) ∈ t.out := by
  obtain ⟨hhanded, hmsg, ys, hys, -⟩ := sendCtl_replies 0x8A tag
    (toLE 1 0x10 ++ toLE 1 0x04 ++ zeros 3 ++ toLE 1 1 ++ toLE 2 0x1200) h
  obtain ⟨khanded, hz, hout⟩ := updSpdm_records (fun p => { p with version := true }) hys
  refine ⟨_, _, onSession_runs _ h.1, hhanded.trans khanded, hz, rfl, ?_⟩
  rw [hout]
  exact hmsg

theorem getCapabilities_answers : ∃ t z a b, Does (.getCapabilities n tag) s t ∧ Handed { s with fresh := t.fresh } t ∧
    sessAt t n = some z ∧ z.spdm = { x.spdm with capabilities := true } ∧ SpdmSent s t n x tag 0x61 0 0
      (zeros 1 ++ a ++ zeros 2 ++ toLE 4 responderFlags ++ b) ∧ a.length = 1 ∧ b.length = 8 := by
  let a := freeBytes s 1
  let b := freeBytes a.2 8
  obtain ⟨z, hhanded, hz, hspdm, hsent⟩ := spdmReply_records (s.fresh + 1 + 1) tag 0x61 0 0
    (zeros 1 ++ a.1 ++ zeros 2 ++ toLE 4 responderFlags ++ b.1) (fun p => { p with capabilities := true }) h
  exact ⟨_, z, a.1, b.1, onSession_runs _ h.1, hhanded, hz, hspdm, hsent, (freeBytes_facts s 1).1, (freeBytes_facts a.2 8).1⟩

theorem negotiateAlgorithms_answers : ∃ t z a b c, Does (.negotiateAlgorithms n tag true) s t ∧
    Handed { s with fresh := t.fresh } t ∧ sessAt t n = some z ∧ z.spdm = { x.spdm with algorithms := true } ∧
    SpdmSent s t n x tag 0x63 0 0 (a ++ zeros 12 ++ b ++ zeros 2 ++ c) ∧ a.length = 16 ∧ b.length = 2 ∧ c.length = 16 := by
  have hlen := (freeBytes_facts s 34).1
  let a := (freeBytes s 34).1
  obtain ⟨z, hhanded, hz, hspdm, hsent⟩ := spdmReply_records (s.fresh + 1) tag 0x63 0 0
    (a.take 16 ++ zeros 12 ++ (a.drop 16).take 2 ++ zeros 2 ++ a.drop 18) (fun p => { p with algorithms := true }) h
  refine ⟨_, z, a.take 16, (a.drop 16).take 2, a.drop 18, onSession_runs _ h.1, hhanded, hz, hspdm, hsent, ?_, ?_, ?_⟩
  · rw [List.length_take, hlen]
    rfl
  · rw [List.length_take, List.length_drop, hlen]
    rfl
  · rw [List.length_drop, hlen]

theorem getDigests_answers : ∃ t a, Does (.getDigests n tag) s t ∧ Handed { s with fresh := t.fresh } t ∧
    SpdmSent s t n x tag 0x01 0 1 a ∧ a.length = 32 := by
  obtain ⟨hhanded, hsent, -⟩ := spdmReply_answers (s.fresh + 1) tag 0x01 0 1 (freeBytes s 32).1 h
  exact ⟨_, _, onSession_runs _ h.1, hhanded, hsent, (freeBytes_facts s 32).1⟩

theorem getCertificate_answers (offset length : Nat) (hid : s.sec.boot.identityOk = true) :
    ∃ t a, Does (.getCertificate n tag 0 offset length) s t ∧ Handed { s with fresh := t.fresh } t ∧
      SpdmSent s t n x tag 0x02 0 0 a ∧ a.length = min length 65535 := by
  let a := (freeBytes s (min length 65535)).1
  have hlen : a.length = min length 65535 := (freeBytes_facts s (min length 65535)).1
  obtain ⟨hhanded, hsent, -⟩ := spdmReply_answers (s.fresh + 1) tag 0x02 0 0 a h
  refine ⟨_, a, ?_, hhanded, hsent, hlen⟩
  show execGetCertificate n tag 0 offset length s = _
  unfold execGetCertificate
  rw [onSession_runs _ h.1, if_neg (by simp [hid]), if_neg (by simp)]
  rfl

theorem challenge_answers (m : Nat) (hid : s.sec.boot.identityOk = true) (hm : m = 0 ∨ m = 0xFF) :
    ∃ t a b, Does (.challenge n tag 0 m) s t ∧ Handed { s with fresh := t.fresh } t ∧ a.length = 64 ∧ b.length = 66 ∧
      SpdmSent s t n x tag 0x03 0 1 (a ++ (if m = 0 then [] else
        sha256 ((askedBlocks 0xFF).flatMap (measurementBlock s))) ++ b) := by
  let a := freeBytes s 64
  let b := freeBytes a.2 66
  let summary := if m = 0 then [] else sha256 ((askedBlocks 0xFF).flatMap (measurementBlock s))
  obtain ⟨hhanded, hsent, -⟩ := spdmReply_answers (s.fresh + 1 + 1) tag 0x03 0 1 (a.1 ++ summary ++ b.1) h
  have hsummary : (if m = 0xFF then sha256 ((List.range 9).flatMap (fun i => measurementBlock s (i + 1))) else []) = summary := by
    have hblocks : (List.range 9).flatMap (fun i => measurementBlock s (i + 1)) = (askedBlocks 0xFF).flatMap (measurementBlock s) := by
      rw [askedBlocks_all, List.flatMap_map]
    rcases hm with rfl | rfl
    · rfl
    · rw [hblocks]
      rfl
  refine ⟨_, a.1, b.1, ?_, hhanded, (freeBytes_facts s 64).1, (freeBytes_facts a.2 66).1, hsent⟩
  show execChallenge n tag 0 m s = _
  unfold execChallenge
  rw [onSession_runs _ h.1, if_neg (by simp [hid]), if_neg (by simp; omega), hsummary]
  rfl

theorem getMeasurements_answers (index : Nat) (signed : Bool) (hid : signed = true → s.sec.boot.identityOk = true)
    (hindex : index = 0xFF ∨ (1 ≤ index ∧ index ≤ 9)) :
    ∃ t a, Does (.getMeasurements n tag index signed) s t ∧ Handed { s with fresh := t.fresh } t ∧
      (let r := (askedBlocks index).flatMap (measurementBlock s)
       SpdmSent s t n x tag 0x60 0 0 (toLE 1 (askedBlocks index).length ++ toLE 3 r.length ++ r ++ a)) ∧
      a.length = (if signed then 98 else 34) := by
  let a := (freeBytes s (if signed then 98 else 34)).1
  let r := (askedBlocks index).flatMap (measurementBlock s)
  obtain ⟨hhanded, hsent, -⟩ := spdmReply_answers (s.fresh + 1) tag 0x60 0 0
    (toLE 1 (askedBlocks index).length ++ toLE 3 r.length ++ r ++ a) h
  have hblocks : (if index = 0xFF then (List.range 9).map (· + 1) else [index]) = askedBlocks index := by
    by_cases hall : index = 0xFF
    · rw [hall, askedBlocks_all]
      rfl
    · rw [if_neg hall, askedBlocks, if_neg hall]
  refine ⟨_, a, ?_, hhanded, hsent, (freeBytes_facts s _).1⟩
  show execGetMeasurements n tag index signed s = _
  unfold execGetMeasurements
  rw [onSession_runs _ h.1, if_neg (fun ⟨hs, hno⟩ => by simp [hid hs] at hno), if_neg (by omega), hblocks]
  rfl

theorem keyExchange_answers (hid : s.sec.boot.identityOk = true) (hex : x.spdm.exchanged = false) :
    ∃ t z a, Does (.keyExchange n tag) s t ∧ Handed { s with fresh := t.fresh } t ∧ sessAt t n = some z ∧
      z.spdm = { x.spdm with exchanged := true } ∧ SpdmSent s t n x tag 0x64 0 0 a := by
  obtain ⟨z, hhanded, hz, hspdm, hsent⟩ := spdmReply_records (s.fresh + 1) tag 0x64 0 0 (freeBytes s 200).1
    (fun p => { p with exchanged := true }) h
  refine ⟨_, z, (freeBytes s 200).1, ?_, hhanded, hz, hspdm, hsent⟩
  show execKeyExchange n tag s = _
  unfold execKeyExchange
  rw [onSession_runs _ h.1, if_neg (by simp [hid]), if_neg (by simp [hex])]
  rfl

/-- FINISH verified: from its reply on the session takes protected packets only (R368). -/
theorem finish_answers (hex : x.spdm.exchanged = true) (hest : x.spdm.established = false) :
    ∃ t z, Does (.finish n tag true) s t ∧ sessAt t n = some z ∧ z.rxProtected = true ∧ z.keys = x.keys ∧
      z.spdm = { x.spdm with established := true } ∧ z.finishRsp ≠ none ∧ SpdmSent s t n x tag 0x65 0 0 [] ∧
      Counted s t .crypto 0x28 1 ∧ HandedBut [regAddr .crypto 0x28] s t := by
  obtain ⟨-, hsent, ys, hys, hqueue⟩ := spdmReply_answers s.fresh tag 0x65 0 0 [] h
  have hdoes : execFinish n tag true s = _ := onSession_runs _ h.1
  rw [if_neg (by simp [hex, hest]), if_neg (by simp)] at hdoes
  have hreply : Handed s (spdmReply s n tag 0x65 0 0 []) := handed_sendCtl s n 0x8A tag _
  have hys' : sessAt (bump (spdmReply s n tag 0x65 0 0 []) .crypto 0x28 1) n = some { x with queues := ys } := hys
  obtain ⟨y, hy⟩ := Option.isSome_iff_exists.mp hqueue
  simp only [hys', hy] at hdoes
  generalize spdmReply s n tag 0x65 0 0 [] = u at *
  refine ⟨_, _, hdoes, sessAt_setSess_same _ n _, rfl, rfl, rfl, Option.some_ne_none _, hsent, ?_, ?_⟩
  · exact counted_of_reg (counted_bump u .crypto 0x28 1) (hreply.reg .crypto 0x28 (by decide))
  · exact ((hreply.handedBut _).trans (handedBut_bump u 1 (by simp))).trans ((handed_setSess _ n _).handedBut _)

end

/-! ### Completion -/

theorem spdmRequest_completes (s : State) (n tag a b c : Nat) (f : Bool) :
    Completes (.getVersion n tag) s ∧ Completes (.getCapabilities n tag) s ∧ Completes (.negotiateAlgorithms n tag f) s ∧
    Completes (.getDigests n tag) s ∧ Completes (.getCertificate n tag a b c) s ∧ Completes (.challenge n tag a b) s ∧
    Completes (.getMeasurements n tag a f) s ∧ Completes (.keyExchange n tag) s ∧ Completes (.finish n tag f) s := by
  refine ⟨onSession_completes fun x => ⟨_, rfl⟩, onSession_completes fun x => ⟨_, rfl⟩, onSession_completes fun x => ?_,
    onSession_completes fun x => ⟨_, rfl⟩, onSession_completes fun x => ?_, onSession_completes fun x => ?_,
    onSession_completes fun x => ?_, onSession_completes fun x => ?_, onSession_completes fun x => ?_⟩
  · split <;> exact ⟨_, rfl⟩
  · repeat' split
    all_goals exact ⟨_, rfl⟩
  · repeat' split
    all_goals exact ⟨_, rfl⟩
  · repeat' split
    all_goals exact ⟨_, rfl⟩
  · repeat' split
    all_goals exact ⟨_, rfl⟩
  · dsimp only
    repeat' split
    all_goals exact ⟨_, rfl⟩

/-- Settles O43: a reply moves the queues of sessions and nothing else of them, so what a request records of its progress
is all that it leaves beside the free values drawn. -/
theorem spdmAnswers : Obligations.SpdmAnswers := by
  unfold Obligations.SpdmAnswers
  exact ⟨spdmRequest_completes, fun s n tag x h => ⟨getVersion_answers tag h, getCapabilities_answers tag h,
    negotiateAlgorithms_answers tag h, getDigests_answers tag h, getCertificate_answers tag h, challenge_answers tag h,
    getMeasurements_answers tag h, keyExchange_answers tag h, finish_answers tag h⟩⟩

end Sys2Proof.Machine
end

section
namespace Sys2Proof.Machine

/-! ### The addresses of a block's registers -/

theorem decodeTileOff_lt {t q off : Nat} {b : Blk} (hq : q < 0x10000) (h : decodeTileOff t q = some (b, off)) : off < 0x10000 := by
  unfold decodeTileOff at h
  split_ifs at h
  all_goals
    obtain ⟨-, rfl⟩ := Prod.mk.inj (Option.some.inj h)
    omega

/-- An offset lies within the 64 KiB of its block (R68). -/
theorem decodeAddr_lt {a off : Nat} {b : Blk} (h : decodeAddr a = some (b, off)) : off < 0x10000 := by
  unfold decodeAddr at h
  dsimp only at h
  split_ifs at h with hlow _ _ hspire hcache _ htile
  · obtain ⟨c, -, hc⟩ := Option.map_eq_some_iff.mp h
    obtain ⟨-, rfl⟩ := Prod.mk.inj hc
    omega
  · obtain ⟨-, rfl⟩ := Prod.mk.inj (Option.some.inj h)
    omega
  · obtain ⟨-, rfl⟩ := Prod.mk.inj (Option.some.inj h)
    omega
  · exact decodeTileOff_lt (by omega) h
  · obtain ⟨-, rfl⟩ := Prod.mk.inj (Option.some.inj h)
    omega
  · obtain ⟨-, rfl⟩ := Prod.mk.inj (Option.some.inj h)
    omega

/-- Only MAC's count of sent frames has its address. -/
theorem regAddr_ne_sent {b : Blk} {off : Nat} (hlt : off < 0x10000) (h : b ≠ .mac ∨ off ≠ 0x50) :
    regAddr b off ≠ regAddr .mac 0x50 := by
  intro heq
  cases b
  case mac =>
    simp only [regAddr, blkBase] at heq
    exact h.elim (absurd rfl) fun hoff => hoff (by omega)
  all_goals
    simp only [regAddr, blkBase, tileBase] at heq
    omega

/-! ### The register window -/

theorem clearRead_only (s : State) (b : Blk) (off : Nat) : OnlyRegs s (clearRead s b off) ∧
    RegsBut [regAddr b off] s (clearRead s b off) := by
  unfold clearRead
  split
  · exact ⟨rfl, regsBut_refl _ s⟩
  · split
    · exact ⟨rfl, regsBut_refl _ s⟩
    · exact ⟨rfl, regsBut_setReg s b off _⟩

theorem clearRead_reg {s : State} {b : Blk} {off : Nat} {d : RegDesc} (hd : regDesc b off = some d) :
    reg (clearRead s b off) b off = if d.rc = 0 then reg s b off else reg s b off &&& ~~~ d.rc := by
  unfold clearRead
  simp only [hd]
  split
  · rfl
  · exact reg_setReg_same s b off _

/-- What is handed out after a change of registers alone. -/
theorem handedBut_access {s u t : State} {l : List Nat} (hu : OnlyRegs s u) (hr : RegsBut l s u) (ht : Handed u t) :
    HandedBut l s t := by
  have hchange : HandedBut l s u := by
    obtain ⟨r, rfl⟩ : ∃ r, u = { s with regs := r } := ⟨u.regs, hu⟩
    exact ⟨⟨[], (List.append_nil _).symm⟩, hr.mono fun a ha => List.mem_cons_of_mem _ ha, rfl⟩
  exact hchange.trans (ht.handedBut l)

section
variable {s : State} {n addr off : Nat} {x : Session} {b : Blk} {d : RegDesc}

theorem accessStatus_read (path : RegPath) (ha : addr % 8 = 0) (hb : decodeAddr addr = some (b, off))
    (hd : regDesc b off = some d) : accessStatus s path false addr 8 = 0 := by
  simp [accessStatus, ha, hb, hd]

/-- A read takes the value shown and clears the RC bits (R72). -/
theorem access_read (path : RegPath) (v : Word) (ha : addr % 8 = 0) (hb : decodeAddr addr = some (b, off))
    (hd : regDesc b off = some d) : access s path false addr 8 v = (clearRead s b off, 0, readReg s b off) := by
  unfold access
  rw [accessStatus_read path ha hb hd]
  simp [hb, hd]

/-- Management's blocks are closed to the window (R69). -/
theorem accessStatus_denied (hv : s.dev ≠ .vermilion) (ha : addr % 8 = 0) (hb : decodeAddr addr = some (b, off))
    (hd : regDesc b off = some d) (ho : blkOwner b = .management) : accessStatus s (.window n) true addr 8 = 2 := by
  simp [accessStatus, ha, hb, hd, hv, ho]

/-- A configuration register of an Image-owned block is open to the window while no image is in service (R69, R70). -/
theorem accessStatus_window (hv : s.dev ≠ .vermilion) (ha : addr % 8 = 0) (hb : decodeAddr addr = some (b, off))
    (hd : regDesc b off = some d) (ho : blkOwner b = .image) (hi : inService s = false) :
    accessStatus s (.window n) true addr 8 = 0 := by
  simp [accessStatus, ha, hb, hd, hv, ho, hi]

theorem access_windowConfig (v : Word) (hv : s.dev ≠ .vermilion) (ha : addr % 8 = 0) (hb : decodeAddr addr = some (b, off))
    (hd : regDesc b off = some d) (hc : d.cfg = true) (ho : blkOwner b = .image) (hi : inService s = false)
    (he : enabled s b = false) (ht : ∀ t, b ≠ .tile t) : access s (.window n) true addr 8 v =
      (setReg s b off ((reg s b off &&& ~~~ d.rw) ||| (v &&& d.rw)), 0, 0) := by
  have hp : b ≠ .pwrseq := by
    rintro rfl
    exact absurd ho (by decide)
  unfold access
  rw [accessStatus_window hv ha hb hd ho hi]
  simp [hb, hd, writeReg_config_disabled v hd hc he ht (.inl hp)]

variable (h : PrivSession s n x)
include h

/-- The reply to an access that changes registers alone. -/
theorem reply_after {u : State} (hu : OnlyRegs s u) (tag : Nat) (body : List Byte) :
    Handed u (sendCtl u n 0x88 tag body) ∧ Out.msg n x.firstMsgq 0x88 tag body (now s) ∈ (sendCtl u n 0x88 tag body).out := by
  obtain ⟨hx, -, hq⟩ := h
  obtain ⟨r, rfl⟩ : ∃ r, u = { s with regs := r } := ⟨u.regs, hu⟩
  obtain ⟨hhanded, hmsg, -⟩ := sendCtl_replies (s := { s with regs := r }) 0x88 tag body ⟨hx, hq⟩
  exact ⟨hhanded, hmsg⟩

variable (hv : s.dev ≠ .vermilion)
include hv

/-- In a PRIVILEGED session outside Vermilion an access acts, and its status and value go back (R342). -/
theorem regWindow_answers (tag addr : Nat) (write : Bool) (v : Word) : regWindow s n tag write addr v =
    .next (sendCtl (access s (.window n) write addr 8 v).1 n 0x88 tag
      (toLE 1 (access s (.window n) write addr 8 v).2.1 ++ zeros 7 ++
        toLE 8 (access s (.window n) write addr 8 v).2.2.toNat)) := by
  obtain ⟨hx, hpriv, -⟩ := h
  simp [regWindow, onPath, hx, hpriv, hv]

theorem regWindowRead_answers (tag : Nat) (ha : addr % 8 = 0) (hb : decodeAddr addr = some (b, off))
    (hd : regDesc b off = some d) :
    ∃ u, Does (.regWindowRead n tag addr) s u ∧
      Out.msg n x.firstMsgq 0x88 tag (toLE 1 0 ++ zeros 7 ++ toLE 8 (readReg s b off).toNat) (now s) ∈ u.out ∧
      HandedBut [regAddr b off] s u ∧
      ((b ≠ .mac ∨ off ≠ 0x50) → reg u b off = if d.rc = 0 then reg s b off else reg s b off &&& ~~~ d.rc) := by
  obtain ⟨honly, hregs⟩ := clearRead_only s b off
  obtain ⟨hhanded, hmsg⟩ := reply_after h honly tag (toLE 1 0 ++ zeros 7 ++ toLE 8 (readReg s b off).toNat)
  have hdoes := regWindow_answers h hv tag addr false 0
  rw [access_read _ _ ha hb hd] at hdoes
  exact ⟨_, hdoes, hmsg, handedBut_access honly hregs hhanded,
    fun hne => (hhanded.reg b off (regAddr_ne_sent (decodeAddr_lt hb) hne)).trans (clearRead_reg hd)⟩

theorem regWindowWrite_denied (tag : Nat) (v : Word) (ha : addr % 8 = 0) (hb : decodeAddr addr = some (b, off))
    (hd : regDesc b off = some d) (ho : blkOwner b = .management) :
    ∃ u, Does (.regWindowWrite n tag addr v) s u ∧ Handed s u ∧
      Out.msg n x.firstMsgq 0x88 tag (toLE 1 2 ++ zeros 7 ++ toLE 8 0) (now s) ∈ u.out := by
  obtain ⟨hhanded, hmsg⟩ := reply_after h (u := s) rfl tag (toLE 1 2 ++ zeros 7 ++ toLE 8 0)
  have hdoes := regWindow_answers h hv tag addr true v
  rw [access_refused (accessStatus_denied hv ha hb hd ho) (by decide)] at hdoes
  exact ⟨_, hdoes, hhanded, hmsg⟩

theorem regWindowWrite_configures (tag : Nat) (v : Word) (ha : addr % 8 = 0) (hb : decodeAddr addr = some (b, off))
    (hd : regDesc b off = some d) (hc : d.cfg = true) (ho : blkOwner b = .image) (hi : inService s = false)
    (he : enabled s b = false) (ht : ∀ t, b ≠ .tile t) :
    ∃ u, Does (.regWindowWrite n tag addr v) s u ∧ HandedBut [regAddr b off] s u ∧
      reg u b off = (reg s b off &&& ~~~ d.rw) ||| (v &&& d.rw) ∧
      Out.msg n x.firstMsgq 0x88 tag (toLE 1 0 ++ zeros 7 ++ toLE 8 0) (now s) ∈ u.out := by
  let w := (reg s b off &&& ~~~ d.rw) ||| (v &&& d.rw)
  obtain ⟨hhanded, hmsg⟩ := reply_after h (onlyRegs_setReg s b off w) tag (toLE 1 0 ++ zeros 7 ++ toLE 8 0)
  have hdoes := regWindow_answers h hv tag addr true v
  rw [access_windowConfig v hv ha hb hd hc ho hi he ht] at hdoes
  have hmac : b ≠ .mac := by
    rintro rfl
    exact absurd ho (by decide)
  exact ⟨_, hdoes, handedBut_access (onlyRegs_setReg s b off w) (regsBut_setReg s b off w) hhanded,
    (hhanded.reg b off (regAddr_ne_sent (decodeAddr_lt hb) (.inl hmac))).trans (reg_setReg_same s b off w), hmsg⟩

end

theorem regWindow_completes (s : State) (n tag : Nat) (write : Bool) (addr : Nat) (v : Word) :
    ∃ t, regWindow s n tag write addr v = .next t := by
  unfold regWindow
  split <;> exact ⟨_, rfl⟩

theorem registerWindow : Claims.RegisterWindow := by
  unfold Claims.RegisterWindow
  exact ⟨fun s n tag addr v => ⟨regWindow_completes s n tag false addr 0, regWindow_completes s n tag true addr v⟩,
    fun s n tag addr x b off d h hv ha hb hd => regWindowRead_answers h hv tag ha hb hd,
    fun s n tag addr v x b off d h hv ha hb hd ho => regWindowWrite_denied h hv tag v ha hb hd ho,
    fun s n tag addr v x b off d h hv ha hb hd hc ho hi he _ ht _ =>
      regWindowWrite_configures h hv tag v ha hb hd hc ho hi he ht⟩

/-! ### The operator's writes -/

/-- The steps of the lanes wait behind those that waited (R432, R433). -/
theorem wakeLanes_eq (s : State) : wakeLanes s = { s with power := { s.power with
    wakes := s.power.wakes ++ laneDomains.map (fun d => { domain := d, port := 0 }) } } := by
  have hfold (l : List Nat) (u : State) : l.foldl (fun s d => queueWake s d 0) u = { u with power := { u.power with
      wakes := u.power.wakes ++ l.map (fun d => { domain := d, port := 0 }) } } := by
    induction l generalizing u with
    | nil => simp
    | cons d l ih =>
      rw [List.foldl_cons, ih]
      simp [queueWake, List.append_assoc]
  exact hfold laneDomains s

/-- MAC_CTRL with ENABLE set, and VLAN as written (R349). -/
def portEnabled (s : State) (v : Word) : State :=
  setEnable { setFld s .mac 0 1 1 (bits v 1 1) with port := { s.port with training := true } } .mac true

theorem portEnabled_facts (s : State) (v : Word) : enabled (portEnabled s v) .mac = true ∧
    fld (portEnabled s v) .mac 0 1 1 = bits v 1 1 ∧ RegsBut [regAddr .mac 0] s (portEnabled s v) := by
  let u : State := { setFld s .mac 0 1 1 (bits v 1 1) with port := { s.port with training := true } }
  have hbit : bits v 1 1 < 2 ^ 1 := Nat.mod_lt _ (by decide)
  have hfld : fld u .mac 0 1 1 = bits v 1 1 := fld_setFld_same s .mac 0 (by decide) hbit
  refine ⟨enabled_setEnable u .mac, ?_, ?_⟩
  · exact (fld_setFld_apart u .mac 0 1 (by decide) (by decide)).trans hfld
  · exact RegsBut.trans (t := u) (regsBut_setFld s .mac 0 1 1 _) (regsBut_setFld u .mac 0 0 1 _)

theorem macEnable_starts {s : State} {v : Word} (hv : s.dev ≠ .vermilion) (he : enabled s .mac = false) (hb : bit v 0 = true) :
    ∃ u, Does (.macEnable v) s u ∧ enabled u .mac = true ∧ fld u .mac 0 1 1 = bits v 1 1 ∧
      u.port = { s.port with training := true } ∧
      u.power = { s.power with wakes := s.power.wakes ++ laneDomains.map (fun d => { domain := d, port := 0 }) } ∧
      RegsBut [regAddr .mac 0] s u ∧ tget u.nv.saved (regAddr .mac 0) = some v ∧
      u = { s with regs := u.regs, port := u.port, power := u.power, nv := { s.nv with saved := u.nv.saved },
                   out := s.out ++ [.access 0 0] } := by
  obtain ⟨hon, hfld, hregs⟩ := portEnabled_facts s v
  have hwrite : writeMacCtrl s v = wakeLanes (portEnabled s v) := by
    unfold writeMacCtrl
    simp only [he, hb, Bool.false_eq_true, if_false, if_true]
    rfl
  let w : State := { portEnabled s v with
    power := { s.power with wakes := s.power.wakes ++ laneDomains.map (fun d => { domain := d, port := 0 }) }
    nv := { s.nv with saved := tset s.nv.saved (regAddr .mac 0) v }
    out := s.out ++ [.access 0 0] }
  have hsave (u : State) : saveMgmt u .mac 0 v = { u with nv := { u.nv with saved := tset u.nv.saved (regAddr .mac 0) v } } := by
    simp [saveMgmt]
  refine ⟨w, ?_, hon, hfld, rfl, rfl, hregs, tget_tset_same _ _ _, rfl⟩
  show execMacEnable v s = _
  unfold execMacEnable
  rw [if_neg hv, hwrite, wakeLanes_eq, hsave]
  rfl

/-- The limits that R441 admits. -/
def limitsOk (v : Word) : Prop :=
  1000 ≤ bits v 0 12 ∧ bits v 0 12 ≤ 3000 ∧ bits v 0 12 ≤ bits v 16 12 ∧ bits v 16 12 ≤ 3600

/-- PWRSEQ_LIMITS as it takes a value: its two fields, the reserved bits 0 (R441). -/
def limitsWord (v : Word) : Word := BitVec.ofNat 64 (bits v 0 12 + bits v 16 12 * 2 ^ 16)

theorem bits_limitsWord (v : Word) : bits (limitsWord v) 0 12 = bits v 0 12 ∧ bits (limitsWord v) 16 12 = bits v 16 12 := by
  have hsus : bits v 0 12 < 2 ^ 12 := Nat.mod_lt _ (by decide)
  have hpeak : bits v 16 12 < 2 ^ 12 := Nat.mod_lt _ (by decide)
  have hword : (limitsWord v).toNat = bits v 0 12 + bits v 16 12 * 2 ^ 16 := by
    rw [limitsWord, BitVec.toNat_ofNat]
    exact Nat.mod_eq_of_lt (by omega)
  generalize bits v 0 12 = sus, bits v 16 12 = peak at *
  unfold bits
  rw [hword, Nat.shiftRight_eq_div_pow, Nat.shiftRight_eq_div_pow]
  omega

theorem writeLimits_accepts {s : State} {v : Word} (he : enabled s .pwrseq = false) (h : limitsOk v) :
    writeLimits s v = { setReg s .pwrseq 0x10 (limitsWord v) with
      nv := { s.nv with saved := tset s.nv.saved (regAddr .pwrseq 0x10) (limitsWord v) } } := by
  unfold limitsOk at h
  have hcfg : regDesc .pwrseq 0x10 = some ⟨0x10, 1, 8, 0xfff0fff, 0x0, 0xe100bb8, false, true⟩ := by decide
  unfold writeLimits
  dsimp only
  rw [if_neg (by simp [he]), if_neg (by omega)]
  simp [saveMgmt, hcfg, limitsWord]

theorem writeLimits_refuses {s : State} {v : Word} (he : enabled s .pwrseq = false) (h : ¬ limitsOk v) :
    writeLimits s v = setFlag s .pwrseq 0x08 1 := by
  unfold limitsOk at h
  unfold writeLimits
  dsimp only
  rw [if_neg (by simp [he]), if_pos (by omega)]

theorem pwrseqLimits_does {s : State} (v : Word) (hv : s.dev ≠ .vermilion) :
    Does (.pwrseqLimits v) s (emitOut (writeLimits s v) (.access 0 0)) := if_neg hv

theorem pwrseqLimits_sets {s : State} {v : Word} (hv : s.dev ≠ .vermilion) (he : enabled s .pwrseq = false) :
    ∃ u, Does (.pwrseqLimits v) s u ∧ RegsBut [regAddr .pwrseq 0x10, regAddr .pwrseq 0x08] s u ∧
      u = { s with regs := u.regs, nv := { s.nv with saved := u.nv.saved }, out := s.out ++ [.access 0 0] } ∧
      (limitsOk v → fld u .pwrseq 0x10 0 12 = bits v 0 12 ∧ fld u .pwrseq 0x10 16 12 = bits v 16 12 ∧
        tget u.nv.saved (regAddr .pwrseq 0x10) = some (reg u .pwrseq 0x10)) ∧
      (¬ limitsOk v → FlagUp u .pwrseq 0x08 1 ∧ reg u .pwrseq 0x10 = reg s .pwrseq 0x10 ∧ u.nv = s.nv) := by
  have hdoes := pwrseqLimits_does v hv
  by_cases hok : limitsOk v
  · rw [writeLimits_accepts he hok] at hdoes
    obtain ⟨hsus, hpeak⟩ := bits_limitsWord v
    have hreg : reg (setReg s .pwrseq 0x10 (limitsWord v)) .pwrseq 0x10 = limitsWord v := reg_setReg_same s .pwrseq 0x10 _
    refine ⟨_, hdoes, (regsBut_setReg s .pwrseq 0x10 (limitsWord v)).mono (by simp), rfl, fun _ => ⟨?_, ?_, ?_⟩,
      fun h => absurd hok h⟩
    · exact (congrArg (bits · 0 12) hreg).trans hsus
    · exact (congrArg (bits · 16 12) hreg).trans hpeak
    · exact (tget_tset_same _ _ _).trans (congrArg some hreg.symm)
  · rw [writeLimits_refuses he hok] at hdoes
    have hregs := regsBut_setFlag s .pwrseq 0x08 1
    exact ⟨_, hdoes, hregs.mono (by simp), rfl, fun h => absurd h hok,
      fun _ => ⟨flagUp_setFlag s .pwrseq 0x08 1 (by decide), hregs.reg .pwrseq 0x10 (by decide), rfl⟩⟩

/-- An acknowledgement, and FLT_N released where nothing holds it any more (R389, R404, R405). -/
theorem belfryAck_acknowledges (s : State) (v : Word) : ∃ u, Does (.belfryAck v) s u ∧
    (∀ q, q ∈ u.belfry.unacked ↔ q ∈ s.belfry.unacked ∧ v.toNat < q) ∧
    (s.belfry.minimums = 0 ∧ u.belfry.unacked = [] ∧ s.dev ≠ .vermilion ∧ s.belfry.gateClosed = false →
      u.pins.fltLow = false) ∧
    (¬ (s.belfry.minimums = 0 ∧ u.belfry.unacked = [] ∧ s.dev ≠ .vermilion ∧ s.belfry.gateClosed = false) →
      u.pins.fltLow = s.pins.fltLow) ∧
    u = { s with belfry := { s.belfry with unacked := u.belfry.unacked },
                 pins := { s.pins with fltLow := u.pins.fltLow }, out := s.out ++ [.access 0 0] } := by
  let w : State := { s with belfry := { s.belfry with unacked := s.belfry.unacked.filter (fun q => decide (v.toNat < q)) } }
  have hdoes : Does (.belfryAck v) s (emitOut (releaseFlt w) (.access 0 0)) := rfl
  have hmem (q : Nat) : q ∈ w.belfry.unacked ↔ q ∈ s.belfry.unacked ∧ v.toNat < q :=
    List.mem_filter.trans (and_congr_right' decide_eq_true_iff)
  by_cases hrises : pinRises w
  · rw [releaseFlt_rises hrises] at hdoes
    exact ⟨_, hdoes, hmem, fun _ => rfl, fun h => absurd hrises h, rfl⟩
  · rw [releaseFlt_stays hrises] at hdoes
    exact ⟨_, hdoes, hmem, fun h => absurd h hrises, fun _ => rfl, rfl⟩

theorem macEnable_completes (s : State) (v : Word) : Completes (.macEnable v) s := by
  show ∃ t, execMacEnable v s = .next t
  unfold execMacEnable
  split <;> exact ⟨_, rfl⟩

theorem pwrseqLimits_completes (s : State) (v : Word) : Completes (.pwrseqLimits v) s := by
  show ∃ t, execPwrseqLimits v s = .next t
  unfold execPwrseqLimits
  split <;> exact ⟨_, rfl⟩

theorem operatorWrites : Claims.OperatorWrites := by
  unfold Claims.OperatorWrites
  exact ⟨fun s v => ⟨macEnable_completes s v, pwrseqLimits_completes s v⟩, fun s v => macEnable_starts,
    fun s v => pwrseqLimits_sets, belfryAck_acknowledges⟩

/-- Settles O33: an access over the window changes registers of its own and no others, since only MAC's count of sent frames
shares an address with what the reply counts; the operator's writes each change the fields that their rules name. -/
theorem registerPaths : Obligations.RegisterPaths := ⟨registerWindow, operatorWrites⟩

end Sys2Proof.Machine
end
